-- ==== Sys2Proof/Word.lean ====
section
/-! DEFINITION. The word types of the 8440: bytes and 32-bit register words (R7). -/

namespace Sys2Proof

/-- A byte of a frame, a memory or a message. -/
abbrev Byte := BitVec 8

/-- A register word: every register is 32 bits wide (R7). -/
abbrev Word := BitVec 32

/-- A SHA-384 digest (R43, R59). -/
abbrev Digest := BitVec 384

end Sys2Proof
end

