-- ==== Sys2Proof/Machine/Bits.lean ====
section
/-! DEFINITION. Plain helpers: sorted sparse maps in one canonical form, lists of fixed things, two's complement, saturation,
byte order, the CRCs of spec/ and the packing of event arguments (R376). -/

namespace Sys2Proof.Machine

/-- A stamp of the operating-time counter (R4). -/
abbrev Time := BitVec 48

/-- A sparse map from keys to values: keys strictly rising, no entry equal to the default of its key. -/
abbrev SMap (α : Type) := List (Nat × α)

namespace SMap
variable {α : Type}

/-- The value at key k, d where nothing is listed. -/
def get (m : SMap α) (k : Nat) (d : α) : α :=
  match m with
  | [] => d
  | (j, v) :: rest => if j = k then v else get rest k d

/-- The map with nothing listed at k. -/
def erase (m : SMap α) (k : Nat) : SMap α :=
  match m with
  | [] => []
  | (j, v) :: rest => if j = k then erase rest k else (j, v) :: erase rest k

/-- The map with v listed at k. -/
def insert (m : SMap α) (k : Nat) (v : α) : SMap α :=
  match m with
  | [] => [(k, v)]
  | (j, w) :: rest =>
    if j = k then (k, v) :: rest
    else if k < j then (k, v) :: (j, w) :: rest
    else (j, w) :: insert rest k v

/-- A write: the entry is removed where the value is the default of its key. -/
def put [DecidableEq α] (m : SMap α) (k : Nat) (v d : α) : SMap α :=
  if v = d then erase m k else insert m k v

/-- Every listed key lies above lo and the keys rise strictly. -/
def sortedFrom : Nat → SMap α → Bool
  | _, [] => true
  | lo, (k, _) :: rest => decide (lo ≤ k) && sortedFrom (k + 1) rest

/-- The keys rise strictly. -/
def sorted (m : SMap α) : Bool := sortedFrom 0 m

end SMap

/-- Element i of a list of fixed things; d beyond its end. -/
def nth {α : Type} (l : List α) (i : Nat) (d : α) : α :=
  match l, i with
  | [], _ => d
  | x :: _, 0 => x
  | _ :: xs, i + 1 => nth xs i d

/-- The list with element i replaced; unchanged beyond its end. -/
def setNth {α : Type} (l : List α) (i : Nat) (v : α) : List α :=
  match l, i with
  | [], _ => []
  | _ :: xs, 0 => v :: xs
  | x :: xs, i + 1 => x :: setNth xs i v

/-- The list with element i passed through f, filled up with d as far as i: a group of fixed things whose members all start as d. -/
def modAt {α : Type} (l : List α) (i : Nat) (f : α → α) (d : α) : List α :=
  match l, i with
  | [], 0 => [f d]
  | [], i + 1 => d :: modAt [] i f d
  | x :: xs, 0 => f x :: xs
  | x :: xs, i + 1 => x :: modAt xs i f d

/-- The list with element i replaced, filled up with d as far as i. -/
def setAt {α : Type} (l : List α) (i : Nat) (v d : α) : List α := modAt l i (fun _ => v) d

/-- Two's complement reading of the low w bits of v. -/
def toI (w v : Nat) : Int :=
  if v % 2 ^ w < 2 ^ (w - 1) then ((v % 2 ^ w : Nat) : Int) else ((v % 2 ^ w : Nat) : Int) - ((2 ^ w : Nat) : Int)

/-- The low w bits of i in two's complement. -/
def ofI (w : Nat) (i : Int) : Nat := (i % ((2 ^ w : Nat) : Int)).toNat

/-- i held within lo and hi. -/
def clampI (lo hi i : Int) : Int := if i < lo then lo else if hi < i then hi else i

/-- i saturated to a signed w-bit quantity. -/
def satI (w : Nat) (i : Int) : Int := clampI (-((2 ^ (w - 1) : Nat) : Int)) (((2 ^ (w - 1) : Nat) : Int) - 1) i

/-- v saturated to w bits. -/
def satN (w v : Nat) : Nat := if v < 2 ^ w then v else 2 ^ w - 1

/-- Quotient rounded toward zero; 0 for a zero divisor. -/
def divZ (a b : Int) : Int := Int.tdiv a b

/-- Quotient rounded down; 0 for a zero divisor. -/
def divF (a b : Int) : Int := if b = 0 then 0 else Int.fdiv a b

/-- Magnitude as a natural number. -/
def mag (i : Int) : Nat := i.natAbs

/-- The sign of i: -1, 0 or 1. -/
def sgn (i : Int) : Int := if i < 0 then -1 else if 0 < i then 1 else 0

/-- Bit i of v. -/
def bitAt (v i : Nat) : Bool := v / 2 ^ i % 2 == 1

/-- v with bit i set to b. -/
def setBit (v i : Nat) (b : Bool) : Nat :=
  if bitAt v i == b then v else if b then Nat.lor v (2 ^ i) else Nat.xor v (2 ^ i)

/-- Bits hi to lo of v. -/
def bits (v hi lo : Nat) : Nat := v / 2 ^ lo % 2 ^ (hi + 1 - lo)

/-- 1 for true, 0 for false. -/
def b2n (b : Bool) : Nat := if b then 1 else 0

/-- The number whose bit i is element i of the list. -/
def ofBits : List Bool → Nat
  | [] => 0
  | b :: rest => b2n b + 2 * ofBits rest

/-- The low n bits of v as a list, bit 0 first. -/
def toBits : Nat → Nat → List Bool
  | 0, _ => []
  | n + 1, v => (v % 2 == 1) :: toBits n (v / 2)

/-- The number of bits set among the low n bits of v. -/
def popCount (n v : Nat) : Nat := (toBits n v).countP id

/-- The numbers of the bits set among the low n bits of v, ascending. -/
def bitNums (n v : Nat) : List Nat := (List.range n).filter fun i => bitAt v i

/-- n bytes of v, least significant first (R6, R38). -/
def leBytes : Nat → Nat → List Byte
  | 0, _ => []
  | n + 1, v => BitVec.ofNat 8 v :: leBytes n (v / 256)

/-- The number a little-endian byte string spells (R6, R38). -/
def leNat : List Byte → Nat
  | [] => 0
  | b :: rest => b.toNat + 256 * leNat rest

/-- The number a big-endian byte string spells (R44, R418). -/
def beNat (l : List Byte) : Nat := leNat l.reverse

/-- n bytes of v, most significant first (R44, R418). -/
def beBytes (n v : Nat) : List Byte := (leBytes n v).reverse

/-- The n bytes from position o of a byte string; 0 beyond its end. -/
def slice (l : List Byte) (o n : Nat) : List Byte := (List.range n).map fun i => nth l (o + i) 0

/-- n bytes at o of a byte string, little-endian. -/
def leAt (l : List Byte) (o n : Nat) : Nat := leNat (slice l o n)

/-- n bytes at o of a byte string, little-endian two's complement. -/
def leAtI (l : List Byte) (o n : Nat) : Int := toI (8 * n) (leAt l o n)

/-- n rounds of f. -/
def iter {α : Type} (f : α → α) : Nat → α → α
  | 0, a => a
  | n + 1, a => iter f n (f a)

/-- One bit of a reflected CRC. -/
def crcReflBit (poly c : Nat) : Nat := if c % 2 = 1 then Nat.xor (c / 2) poly else c / 2

/-- A reflected CRC register after the bytes. -/
def crcRefl (poly : Nat) (c : Nat) (bs : List Byte) : Nat :=
  bs.foldl (fun c b => iter (crcReflBit poly) 8 (Nat.xor c b.toNat)) c

/-- One bit of a left-shifting CRC of width w. -/
def crcLeftBit (w poly c : Nat) : Nat :=
  if bitAt c (w - 1) then Nat.xor (c * 2 % 2 ^ w) poly else c * 2 % 2 ^ w

/-- A left-shifting CRC register of width w after the bytes. -/
def crcLeft (w poly c : Nat) (bs : List Byte) : Nat :=
  bs.foldl (fun c b => iter (crcLeftBit w poly) 8 (Nat.xor c (b.toNat * 2 ^ (w - 8)))) c

/-- The CRC-8 of the host port: polynomial 0x07, initial value 0, no reflection, no final XOR (R28). -/
def crc8 (bs : List Byte) : Nat := crcLeft 8 0x07 0 bs

/-- The CRC-16 of DriveLink: polynomial 0x1021, initial value 0xFFFF, no reflection, no final XOR (R206). -/
def crc16 (bs : List Byte) : Nat := crcLeft 16 0x1021 0xFFFF bs

/-- The CRC-32 of image frames: IEEE 802.3 parameters (R37). -/
def crc32 (bs : List Byte) : Nat := Nat.xor (crcRefl 0xEDB88320 0xFFFFFFFF bs) 0xFFFFFFFF

/-- The CRC-32C of records and Rhaquadan frames: polynomial 0x1EDC_6F41 reflected (R233). -/
def crc32c (bs : List Byte) : Nat := Nat.xor (crcRefl 0x82F63B78 0xFFFFFFFF bs) 0xFFFFFFFF

/-- One argument of an event, by the kinds R376 names. -/
inductive Arg where
  /-- a channel, index, code, flag or address: 8 bits -/
  | code (n : Nat)
  /-- a 16-bit identifier -/
  | ident (n : Nat)
  /-- a quantity that cannot be negative: 16 bits, saturating -/
  | qty (n : Nat)
  /-- a quantity that can be negative: 16 bits, two's complement, saturating -/
  | signed (i : Int)
  deriving DecidableEq, Repr

/-- The width an argument takes when it is not the last (R376). -/
def Arg.width : Arg → Nat
  | .code _ => 8
  | _ => 16

/-- An argument in w bits (R376). -/
def Arg.value (a : Arg) (w : Nat) : Nat :=
  match a with
  | .code n => n % 2 ^ w
  | .ident n => n % 2 ^ w
  | .qty n => satN w n
  | .signed i => ofI w (satI w i)

/-- Arguments packed from bit pos upward; the last takes every remaining bit (R376). -/
def packFrom : Nat → List Arg → Nat
  | _, [] => 0
  | pos, [a] => a.value (32 - pos) * 2 ^ pos
  | pos, a :: rest => a.value a.width * 2 ^ pos + packFrom (pos + a.width) rest

/-- The 32-bit argument of an event (R376). -/
def packArgs (l : List Arg) : Nat := packFrom 0 l

end Sys2Proof.Machine
end

