-- ==== Sys2Proof/Machine/Tables.lean ====
section
/-! DEFINITION. The tables of a loaded image as plain data, by the block that reads them: FABRIC and GRAPHS (file 03), the
reference points (file 04), reticle programs (file 05), trips, envelopes and the core and full atlas (file 06), door profiles
(file 07), the lane tables of SAFETY_SET (files 08 and 09) and the function map (file 10). -/

namespace Sys2Proof.Machine

/-- A node table entry (Table 03-1). -/
structure NodeEntry where
  /-- ENTRY -/
  entry : Nat := 0
  /-- POOL_FIRST -/
  poolFirst : Nat := 0
  /-- POOL_SIZE -/
  poolSize : Nat := 1
  /-- PRIO -/
  prio : Nat := 0
  /-- FLOW_EN -/
  flowEn : Bool := false
  /-- FLOW -/
  flow : Nat := 0
  /-- BUDGET, fc -/
  budget : Nat := 0
  /-- SUCC: the counter of each of the four successors, none if unused -/
  succ : List (Option Nat) := []
  /-- ABORT_MASK -/
  abortMask : Nat := 0
  deriving DecidableEq, Repr, Inhabited

/-- What the FABRIC section gives a dependence counter (R69, R81). -/
structure CounterEntry where
  /-- INITIAL; 0 disables the counter -/
  initial : Nat := 0
  /-- bound node -/
  node : Nat := 0
  /-- bound level -/
  level : Nat := 0
  /-- bound ARG -/
  arg : Nat := 0
  /-- HOST_OK -/
  hostOk : Bool := false
  deriving DecidableEq, Repr, Inhabited

/-- The FABRIC section as the dispatcher reads it (file 03). -/
structure FabricTables where
  /-- ALLOC_COUNT -/
  allocCount : Nat := 0
  /-- MARGIN_WARN of DSP_RELAY_PARAM -/
  marginWarn : Nat := 0
  /-- ERR_RELAY of DSP_RELAY_PARAM -/
  errRelay : Nat := 0
  /-- node table -/
  nodes : List NodeEntry := []
  /-- dependence counters -/
  counters : List CounterEntry := []
  /-- counter bound to an occurrence of an external port: port, occurrence, counter (Table 03-4) -/
  ports : List (Nat × Nat × Nat) := []
  /-- counter bound to TRIP_CMD (R81) -/
  tripCmd : Nat := 0
  /-- restart counter of each logical facet (R92) -/
  restart : List Nat := []
  /-- loss counter (R93) -/
  loss : Nat := 0
  deriving DecidableEq, Repr, Inhabited

/-- Where the parts of the ENVELOPES section lie (Table 06-4). -/
structure EnvelopeHead where
  /-- NBINS -/
  nbins : Nat := 2
  /-- offset of BINS -/
  bins : Nat := 0
  /-- offset of SEP_ABOVE -/
  sepAbove : Nat := 0
  /-- offset of SEP_BELOW -/
  sepBelow : Nat := 0
  /-- offset of each controlled stop of STOPS: (direction × NBINS + bin) × 4 + load class -/
  stops : List Nat := []
  deriving DecidableEq, Repr, Inhabited

/-- The 16 B part header of an atlas section or of CORE_ATLAS (R165). -/
structure AtlasHead where
  /-- N_STOPS -/
  nStops : Nat := 0
  /-- offset of each index, in the order of Table 06-3 -/
  offsets : List Nat := []
  deriving DecidableEq, Repr, Inhabited

/-- The GRAPHS section: code and initial data of each logical facet as byte lists (R88, R92). -/
structure GraphTables where
  /-- code memory content of each logical facet -/
  code : List (List (BitVec 8)) := []
  /-- initial data memory content of each logical facet -/
  data : List (List (BitVec 8)) := []
  deriving DecidableEq, Repr, Inhabited

/-- A reference-point entry of the POSITION section (Table 04-3). -/
structure RefPoint where
  /-- P_REF, µm -/
  pRef : Int := 0
  /-- LANDING -/
  landing : Nat := 0
  /-- INPUT code -/
  input : Nat := 0
  /-- EDGE: 1 rising -/
  rising : Bool := false
  /-- DIR: 1 upward travel -/
  up : Bool := false
  /-- REREF -/
  reref : Bool := false
  /-- WEIGHT -/
  weight : Nat := 0
  /-- WIN, µm -/
  win : Nat := 0
  /-- DELAY, µs -/
  delay : Nat := 0
  deriving DecidableEq, Repr, Inhabited

/-- A filtered edge of an input that the reference points list (R124, R293). -/
structure RefEdge where
  /-- input code of Table 04-3 -/
  input : Nat
  /-- rising -/
  rising : Bool
  /-- its time: the OPTIME of the deciding sample -/
  at_ : Time
  /-- direction of travel at it: 1, -1, or 0 for either -/
  dir : Int
  deriving DecidableEq, Repr

/-- A mark entry of a reticle program (Table 05-2). -/
structure Mark where
  /-- THRESH, µm -/
  thresh : Int := 0
  /-- FLAGS -/
  flags : Nat := 0
  /-- PRIO -/
  prio : Nat := 0
  /-- POST -/
  post : Nat := 0
  /-- ACTION -/
  action : Nat := 0
  /-- TAG -/
  tag : Nat := 0
  deriving DecidableEq, Repr, Inhabited

/-- A reticle program: its PROG_ID and its entries (R137). -/
structure Program where
  /-- PROG_ID -/
  id : Nat := 0
  /-- mark entries -/
  marks : List Mark := []
  deriving DecidableEq, Repr, Inhabited

/-- A segment of a trip or of a door profile (Table 06-2). -/
structure Seg where
  /-- P0, µm -/
  p0 : Int := 0
  /-- V0, µm/s -/
  v0 : Int := 0
  /-- A0, µm/s² -/
  a0 : Int := 0
  /-- J, µm/s³ -/
  j : Int := 0
  /-- DUR, µs -/
  dur : Nat := 1
  /-- END_VAL -/
  endVal : Int := 0
  /-- END: 0 TIME; 1 POS; 2 SPEED; 3 ACCEL; 4 HOLD -/
  ending : Nat := 4
  /-- FLAGS: bit 0 EXPECT, bit 1 DEST_REL, bit 2 SPLICE_OK -/
  flags : Nat := 0
  /-- BIN -/
  bin : Nat := 255
  deriving DecidableEq, Repr, Inhabited

/-- EXPECT of a segment. -/
def Seg.expect (g : Seg) : Bool := bitAt g.flags 0
/-- DEST_REL of a segment. -/
def Seg.destRel (g : Seg) : Bool := bitAt g.flags 1
/-- SPLICE_OK of a segment. -/
def Seg.spliceOk (g : Seg) : Bool := bitAt g.flags 2

/-- A trip: its header and its segments (Tables 06-1 and 06-2), with the window address of the region that holds it. -/
structure Trip where
  /-- TRIP_ID -/
  id : Nat := 0
  /-- KIND: 0 TRIP; 1 DIVERSION; 2 RESCUE; 3 LEVEL; 4 STOP -/
  kind : Nat := 0
  /-- ORIGIN -/
  origin : Nat := 0
  /-- DEST -/
  dest : Nat := 0
  /-- CLASS -/
  cls : Nat := 0
  /-- PEAK_BIN -/
  peakBin : Nat := 0
  /-- MIN_CONF -/
  minConf : Nat := 0
  /-- FLAGS: bit 0 START_OK -/
  flags : Nat := 0
  /-- P_DEST, µm -/
  pDest : Int := 0
  /-- RET_PROG -/
  retProg : Nat := 0
  /-- COMMIT, µm -/
  commit : Int := 0
  /-- ALT -/
  alt : Nat := 0
  /-- AUX, µm -/
  aux : Int := 0
  /-- segments -/
  segs : List Seg := []
  /-- window address of the table-store region it lies in -/
  region : Nat := 0
  deriving DecidableEq, Repr, Inhabited

/-- A car stop of the stop map (R164). -/
structure CarStop where
  /-- P_STOP, µm -/
  pos : Int := 0
  /-- SPACING, µm -/
  spacing : Int := 0
  /-- VALID -/
  valid : Bool := false
  deriving DecidableEq, Repr, Inhabited

/-- The ENVELOPES section (Table 06-4). -/
structure Envelopes where
  /-- V_LO and V_NOM of each speed bin, µm/s -/
  bins : List (Nat × Nat) := []
  /-- car stop n at position n − 1 -/
  stops : List CarStop := []
  /-- door masks of landing L, lower and upper deck, at position L − 1 -/
  doors : List (Nat × Nat) := []
  /-- RELEVEL_START, µm -/
  relevelStart : Nat := 0
  /-- REACH_MARGIN of each bin, µm -/
  reach : List Nat := []
  /-- controlled stops: (direction × NBINS + bin) × 4 + load class -/
  stopStore : List Trip := []
  /-- SEP_ABOVE: G_REQ and G_HARD by own signed bin × 64 + neighbour signed bin -/
  sepAbove : SMap (Nat × Nat) := []
  /-- SEP_BELOW -/
  sepBelow : SMap (Nat × Nat) := []
  /-- SEP_MARGIN, µm -/
  sepMargin : Nat := 0
  /-- SEP_CLEAR_MS -/
  sepClearMs : Nat := 0
  /-- GAP_OFS_UP, µm -/
  gapUp : Int := 0
  /-- GAP_OFS_DOWN, µm -/
  gapDown : Int := 0
  deriving DecidableEq, Repr, Inhabited

/-- The indexes of one atlas (Table 06-3): index word number to offset; 0 or no entry is an atlas miss. -/
structure AtlasIndex where
  /-- N_STOPS -/
  nStops : Nat := 0
  /-- TRIPS -/
  trips : SMap Nat := []
  /-- DIVERSIONS -/
  diversions : SMap Nat := []
  /-- RESCUE and the rescue part of CORE_ATLAS: bands D_MIN and offset of each record -/
  rescue : SMap (List (Nat × Nat)) := []
  /-- CORE_ATLAS, adjacent -/
  adjacent : SMap Nat := []
  /-- CORE_ATLAS, levelling -/
  levelling : SMap Nat := []
  deriving DecidableEq, Repr, Inhabited

/-- An expected-force table (R213, R218). -/
structure ForceTable where
  /-- POS_STEP, µm -/
  posStep : Nat := 1
  /-- OBS_N, door periods -/
  obsN : Nat := 1
  /-- MARGIN, ppm -/
  margin : Int := 0
  /-- expected force against motion of each entry, ppm -/
  forces : List Int := []
  deriving DecidableEq, Repr, Inhabited

/-- A door or deck profile (Table 07-6). -/
structure Profile where
  /-- PROFILE_ID -/
  id : Nat := 0
  /-- KIND: 0 OPEN; 1 CLOSE; 2 REVERSAL; 3 NUDGE; 4 STOP; 5 HOME; 6 DECK_MOVE -/
  kind : Nat := 0
  /-- DIR: opening, or increasing spacing -/
  opening : Bool := false
  /-- LC_IGNORE -/
  lcIgnore : Bool := false
  /-- SPEED_MODE -/
  speedMode : Bool := false
  /-- RET_PROG -/
  retProg : Nat := 0
  /-- reversal table: EDGE, µm, and REVERSAL profile number; empty if REV_TAB is 0 -/
  revTab : List (Int × Nat) := []
  /-- NUDGE, if any -/
  nudge : Option Nat := none
  /-- STOP, if any -/
  stop : Option Nat := none
  /-- expected-force table, if any -/
  torq : Option ForceTable := none
  /-- KE_MAX, mJ -/
  keMax : Nat := 0
  /-- MASS, 0.1 kg -/
  mass : Nat := 0
  /-- HOLD_FORCE, ppm -/
  holdForce : Int := 0
  /-- segments -/
  segs : List Seg := []
  deriving DecidableEq, Repr, Inhabited

/-- The 64 B part header of the DOORS section, with the spacing list and the deck-move matrix it points to (R212, R213). -/
structure DoorHeader where
  /-- PROFILE_COUNT -/
  count : Nat := 0
  /-- offset of the profile index -/
  index : Nat := 0
  /-- spacing values, µm, ascending -/
  spacings : List Int := []
  /-- deck-move profile of an ordered pair of spacing indexes: 16 × from + to -/
  moves : SMap Nat := []
  /-- DOOR_HOME profile numbers of operators 1 to 4 -/
  doorHome : List Nat := []
  /-- DECK_HOME profile number -/
  deckHome : Nat := 0
  deriving DecidableEq, Repr, Inhabited

/-- The DOORS section (R212, R213). -/
structure DoorTables where
  /-- its part header -/
  head : DoorHeader := {}
  /-- profiles by number -/
  profiles : SMap Profile := []
  deriving DecidableEq, Repr, Inhabited

/-- A value of a lane table that no SAF_ register shows. -/
inductive LaneValue where
  /-- P_STOP of a car stop -/
  | stop (n : Nat)
  /-- distance of a point of the envelope of the upper or the lower terminal, mm -/
  | envDist (up : Bool) (n : Nat)
  /-- its speed, mm/s -/
  | envSpeed (up : Bool) (n : Nat)
  /-- position of the upper or the lower terminal stop -/
  | terminal (up : Bool)
  /-- G_HARD of SEP_ABOVE or SEP_BELOW for own signed bin × 64 + neighbour signed bin -/
  | hard (above : Bool) (bins : Nat)
  /-- GAP_OFS_UP or GAP_OFS_DOWN -/
  | gap (up : Bool)
  /-- V_LO of a bin -/
  | bin (n : Nat)
  deriving DecidableEq, Repr, Inhabited

/-- An overridable parameter of the safety set (R260): the register field it stands for, MIN, MAX and image value. -/
structure OverEntry where
  /-- index, 0 to 255 -/
  index : Nat := 0
  /-- the field that shows it: Field.key -/
  key : Nat := 0
  /-- the value it is, where no register shows it -/
  value : Option LaneValue := none
  /-- place in the canonical list -/
  place : Nat := 0
  /-- MIN, canonical, as a 32-bit word -/
  min : Int := 0
  /-- MAX -/
  max : Int := 0
  /-- value of the image -/
  image : Int := 0
  deriving DecidableEq, Repr, Inhabited

/-- A lane table of SAFETY_SET (R42, R454): what a lane reads beside the fields shown in SAF_ registers. -/
structure LaneTable where
  /-- SAF_ register values: address and word -/
  regs : List (Nat × Nat) := []
  /-- the canonical list -/
  canon : List Int := []
  /-- overridable parameters -/
  overs : List OverEntry := []
  /-- P_STOP of the car stops, µm -/
  stops : List Int := []
  /-- reduced-stroke envelope of the upper terminal: distance in mm, speed in mm/s -/
  envUp : List (Nat × Nat) := []
  /-- reduced-stroke envelope of the lower terminal -/
  envDown : List (Nat × Nat) := []
  /-- position of the upper terminal stop, µm -/
  terminalUp : Int := 0
  /-- position of the lower terminal stop, µm -/
  terminalDown : Int := 0
  /-- G_HARD of SEP_ABOVE by own signed bin × 64 + neighbour signed bin, µm -/
  hardAbove : SMap Nat := []
  /-- G_HARD of SEP_BELOW -/
  hardBelow : SMap Nat := []
  /-- GAP_OFS_UP, µm -/
  gapUp : Int := 0
  /-- GAP_OFS_DOWN, µm -/
  gapDown : Int := 0
  /-- V_LO of the bins, µm/s -/
  bins : List Nat := []
  /-- format of SSI2 (R119): DATA_FIRST, data bits, GRAY, ERR_POS, ERR_ACTIVE, PAR_POS, PAR_ODD as 1 or 0 each where a flag -/
  ssiFirst : Nat := 1
  /-- data bits of SSI2 -/
  ssiBits : Nat := 1
  /-- GRAY of SSI2 -/
  ssiGray : Bool := false
  /-- ERR_POS of SSI2 -/
  ssiErrPos : Nat := 0
  /-- ERR_ACTIVE of SSI2 -/
  ssiErrActive : Bool := false
  /-- PAR_POS of SSI2 -/
  ssiParPos : Nat := 0
  /-- PAR_ODD of SSI2 -/
  ssiParOdd : Bool := false
  /-- NM_PER_LSB of SSI2 -/
  ssiNm : Nat := 1
  /-- OFFSET of SSI2, µm -/
  ssiOffset : Int := 0
  /-- JUMP of SSI2, 0.1 mm -/
  ssiJump : Nat := 0
  /-- FAIL_N of SSI2 -/
  ssiFailN : Nat := 3
  /-- PERIOD_US -/
  ssiPeriod : Nat := 100
  /-- CLK_KHZ of SSI2 -/
  ssiClk : Nat := 100
  /-- MONO_US of SSI2 -/
  ssiMono : Nat := 1
  /-- FRAME_LEN of SSI2 -/
  ssiLen : Nat := 1
  /-- LATENCY_US of SSI2 -/
  ssiLatency : Nat := 0
  /-- ENABLE of SSI2 -/
  ssiEnable : Bool := false
  deriving DecidableEq, Repr, Inhabited

/-! ### The system region of the keep store (file 12) -/

/-- What a word of the system region belongs to (Table 02-5, R370): the seal record of a write target, the activation record, the
committed unit address with its ENUM_ID, the power-cycle count, a key slot, the module certificate, or something whose running copy
the module goes on with. -/
inductive SysRecord where
  | seal (target : Nat)
  | activation
  | address
  | cycles
  | keySlot (slot : Nat)
  | certificate
  | other
  deriving DecidableEq, Repr, Inhabited

/-! ### What a mirror pair exchanges of the running state (file 12), with the structures it names -/

/-- One evaluator channel: the car, a door operator or the deck (R159). Position, speed and acceleration carry 32 fraction
bits. -/
structure Channel where
  /-- trip or profile in the trip buffer (R162) -/
  trip : Trip := {}
  /-- a trip or profile runs (its HOLD included) -/
  running : Bool := false
  /-- position, µm × 2^32 -/
  p : Int := 0
  /-- speed, µm/s × 2^32 -/
  v : Int := 0
  /-- acceleration, µm/s² × 2^32 -/
  a : Int := 0
  /-- running segment -/
  seg : Nat := 0
  /-- µs spent in it -/
  tau : Nat := 0
  /-- end position set by an accepted SPLICE in place of the segment's own (R174) -/
  spliceX : Option Int := none
  /-- continuation buffer (R162, R174) -/
  cont : Option Trip := none
  /-- EVAL pending for the next step (R161) -/
  evalPend : Option Nat := none
  /-- SPLICE pending for the next step (R174) -/
  splicePend : Option Trip := none
  /-- controlled stop pending for the next step (R184) -/
  stopPend : Option Trip := none
  /-- the running segment has reached DUR and its SEG_TIMEOUT is due (R159) -/
  timeout : Bool := false
  /-- the running trip's HOLD has been acted on (R178) -/
  held : Bool := false
  /-- OPTIME of the last step -/
  last : Option Time := none
  deriving DecidableEq, Repr

/-- An entry of the stop list (R169). -/
structure StopEntry where
  /-- landing -/
  landing : Nat
  /-- upper deck -/
  upper : Bool
  /-- door mask -/
  doors : Nat
  /-- speed profile -/
  profile : Nat
  /-- REQ_ID -/
  req : Nat
  /-- 0 QUEUED; 1 TARGET; 2 SERVING -/
  state : Nat
  deriving DecidableEq, Repr

/-- The histories of a direct-form-I biquad (R198). -/
structure Notch where
  /-- x[n − 1] -/
  x1 : Int := 0
  /-- x[n − 2] -/
  x2 : Int := 0
  /-- y[n − 1] -/
  y1 : Int := 0
  /-- y[n − 2] -/
  y2 : Int := 0
  deriving DecidableEq, Repr

/-- The state of an engine for its loop (R196, R208), which is also the state mirror of R209. -/
structure Engine where
  /-- integrator I, ppm × 2^16 -/
  i : Int := 0
  /-- notch 1 -/
  n1 : Notch := {}
  /-- notch 2 -/
  n2 : Notch := {}
  /-- lim_last -/
  limLast : Bool := false
  /-- lim_sign -/
  limSign : Int := 0
  /-- OPTIME at which the following-error timer started; none while it does not run (R202) -/
  feSince : Option Time := none
  /-- FE_WARN has been raised for the present excursion (R202) -/
  feWarned : Bool := false
  /-- mode change for the start of the next period (R199) -/
  modePend : Option Nat := none
  /-- vr of the latest completed period, µm/s -/
  vr : Int := 0
  /-- OPTIME of the sample the latest period used -/
  time : Time := 0
  /-- OPTIME at which the latest period ran -/
  lastAt : Option Time := none
  /-- largest |ep| of the running trip or profile (Table 13-4) -/
  epPeak : Nat := 0
  /-- what R355 adds to I at the start of the next period, ppm × 2^16 -/
  drift : Int := 0
  /-- the next period's output repeats the previous one's (R209) -/
  replace : Bool := false
  deriving DecidableEq, Repr

/-- A door operator beside its registers (R213 to R225). -/
structure DoorOp where
  /-- profile number running on the channel, if one runs -/
  profile : Option Nat := none
  /-- start waiting for the next step -/
  startPend : Option Nat := none
  /-- OPEN held while the deck is not in position (R217) -/
  held : Option Nat := none
  /-- a detection or a DOOR_FAULT calls for the selection at the next step (R219) -/
  obsPend : Bool := false
  /-- reversal selected and waiting for its program to be staged: profile and table entry (R219) -/
  revPend : Option (Nat × Nat) := none
  /-- a selection of rank 2 holds the operator until HOLD (R220) -/
  rank2 : Bool := false
  /-- DOOR_FAULT has begun the STOP branch that runs, or has met it running (R223) -/
  faultStop : Bool := false
  /-- consecutive periods with the force above its threshold (R218) -/
  obsRun : Nat := 0
  /-- consecutive periods with a kinetic-energy violation (R222) -/
  keRun : Nat := 0
  /-- DOOR_FAULT cause of the last violation: 1 reference, 2 measured (Table 07-7) -/
  keKind : Nat := 0
  /-- door positions of the last door samples, newest first, 65 at most (R216) -/
  samples : List Int := []
  /-- HOLD_FORCE of the profile that last reached HOLD (R196) -/
  holdForce : Int := 0
  /-- HOLD of a CLOSE or NUDGE with the closed-limit input active since the car arrived, and nothing started since (R225) -/
  closed : Bool := false
  /-- OPTIME at which the running CLOSE or NUDGE started (Table 13-4) -/
  startAt : Time := 0
  /-- duty for the next PWM period start (R215) -/
  dutyNext : Nat := 0
  /-- DIR level for the next PWM period start -/
  dirNext : Bool := false
  deriving DecidableEq, Repr

/-- The deck-spacing actuator beside its registers (R211, R212). -/
structure DeckState where
  /-- offset, µm (R211) -/
  offset : Int := 0
  /-- profile number running, if one runs -/
  profile : Option Nat := none
  /-- spacing index of a move that waits for the running one (R212) -/
  movePend : Option Nat := none
  /-- spacing index to which the last move led, the origin of the next one (R212) -/
  dest : Nat := 0
  /-- deck positions at the last door samples, newest first, 65 at most -/
  samples : List Int := []
  deriving DecidableEq, Repr

/-- A stop-list change, as the journal carries it (R354). -/
structure StopChange where
  /-- REQ_ID of the request, 0 if none caused it -/
  req : Nat
  /-- landing, deck, doors and profile of the request -/
  payload : Nat
  /-- reply CODE -/
  code : Nat
  /-- the stop list after it -/
  list : List StopEntry
  deriving DecidableEq, Repr

/-- A journal record (R354). -/
inductive JournalRec where
  /-- a stop-list change -/
  | stops (x : StopChange)
  /-- a trip start: the trip, its index word and the car period at which the evaluator begins it -/
  | tripStart (x : Trip) (word period : Nat)
  /-- a SPLICE: the diversion, its index word and the period -/
  | splice (x : Trip) (word period : Nat)
  /-- a controlled stop and its cause -/
  | ctrlStop (cause : Nat)
  /-- a DOOR start -/
  | doorStart (op profile : Nat)
  /-- a DOOR stop -/
  | doorStop (op : Nat)
  /-- a TRIP_CMD: CMD and DIR -/
  | tripCmd (cmd dir : Nat)
  /-- a LOOP_CMD: LOOP and CMD -/
  | loopCmd (loop cmd : Nat)
  /-- a mode change of R201 -/
  | mode (loop mode : Nat)
  /-- PARK: the car period at whose start both modules enter Parked (R405) -/
  | park (period : Nat)
  deriving DecidableEq, Repr

/-- The state a SYNC message carries (R355). -/
structure SyncBody where
  /-- car period at which it applies -/
  period : Nat
  /-- evaluator channels with their trips and continuations -/
  chans : List Channel
  /-- stop list -/
  stops : List StopEntry
  /-- loop states with their notch histories -/
  eng : List Engine
  /-- mode of each loop -/
  modes : List Nat
  /-- door channel states -/
  ops : List DoorOp
  /-- LOOP_DOOR_STATUS.STATE of each operator -/
  doorStates : List Nat
  /-- LOOP_DOOR_STATUS.DOOR_FAULT of each operator -/
  doorFaults : List Nat
  /-- the deck -/
  deck : DeckState
  /-- PROG_ID of the live car set and door sets 1 to 4 -/
  progs : List Nat
  /-- index word of the running trip -/
  word : Nat
  /-- TRIP_STATUS.STATE and DIR, TRIP_ID, target car stop, STOPS_VER -/
  trip : Nat × Bool × Nat × Nat × Nat
  deriving DecidableEq, Repr

/-- What a HELLO message carries (Table 12-1). -/
structure Hello where
  /-- serial number -/
  serial : Nat := 0
  /-- side -/
  side : Nat := 0
  /-- ROLE -/
  role : Nat := 3
  /-- shadow state -/
  shadow : Nat := 0
  /-- committed address, 0 if none -/
  addr : Nat := 0
  /-- ENUM_ID -/
  enumId : Nat := 0
  /-- an ADDR_SPLIT or ADDR_DUPLICATE is in force (R366) -/
  conflict : Bool := false
  /-- IMAGE_ID of the loaded core image -/
  imageId : Nat := 0
  /-- IMAGE_DIGEST of the loaded core image -/
  core : Digest := 0
  /-- digest of the bound atlas -/
  atlas : Digest := 0
  /-- RELEASED -/
  released : Bool := false
  /-- timestamp, ns -/
  stamp : Nat := 0
  deriving DecidableEq, Repr, Inhabited

/-- A link message waiting in the sender's queue (Table 12-1). -/
inductive LinkMsg where
  /-- HELLO -/
  | hello (x : Hello)
  /-- STATE: the payload of Table 12-2 -/
  | state (payload : List Byte)
  /-- JOURNAL: one record -/
  | journal (x : JournalRec)
  /-- SYNC_REQ: the item that failed -/
  | syncReq (item : Nat)
  /-- SYNC -/
  | sync (x : SyncBody)
  /-- HANDOVER: period of the change, RESIGN -/
  | handover (period : Nat) (resign : Bool)
  /-- NEIGHBOURS: adjacency and address words (R338, R339) -/
  | neighbours (words : List Nat)
  /-- COMMAND: command, answered, and the answer -/
  | command (cmd : Nat) (answer : Option Nat)
  deriving DecidableEq, Repr

end Sys2Proof.Machine
end

