-- ==== Sys2Proof/Syntax.lean ====
section
/-! DEFINITION. The commands of the 8440: one constructor per row of spec/opcode_table.json, with the operands the outside
world gives it (levels, bytes, measured values, numbers). -/

namespace Sys2Proof

open Sys2Proof.Machine

/-- The access path of a register access (R27, R49, R334): the host port, or management frames of one ORIGIN and SRC. -/
inductive Path where
  /-- the host port -/
  | host
  /-- management frames -/
  | mgmt (origin src : Nat)
  deriving DecidableEq, Repr

/-- The corrections the loupe has fitted for a sin/cos channel (R105). -/
structure CalFit where
  /-- sine offset, ADC LSB -/
  sinOfs : Int
  /-- cosine offset, ADC LSB -/
  cosOfs : Int
  /-- gain ratio, 0x8000 = 1.0 -/
  gain : Int
  /-- phase, 0.001 degree -/
  phase : Int
  deriving DecidableEq, Repr

/-- An insert into a delay list that an item executes (R74). -/
structure DelayInsert where
  /-- logical facet of the item -/
  facet : Nat
  /-- into the position list; else into the time list -/
  position : Bool
  /-- DIR of a position-list entry: down -/
  down : Bool
  /-- node -/
  node : Nat
  /-- level -/
  level : Nat
  /-- ARG -/
  arg : Nat
  /-- TAG -/
  tag : Nat
  /-- delay of a time-list entry, µs -/
  delay : Nat
  /-- POS_THRESH of a position-list entry, µm -/
  thresh : Int
  deriving DecidableEq, Repr

/-- A filtered change of a sin/cos channel's comparators (R99). -/
structure CoarseEdge where
  /-- sine comparator -/
  sin : Bool
  /-- cosine comparator -/
  cos : Bool
  /-- ns since the channel's coarse edge before it -/
  since : Nat
  deriving DecidableEq, Repr

/-- An edge of a reference-mark input between two samples (R108). -/
structure MarkEdge where
  /-- level after the edge -/
  level : Bool
  /-- fabric cycles from the sample before to the edge -/
  at_ : Nat
  deriving DecidableEq, Repr

/-- What the front end sees of one sin/cos channel at a tick (R96, R99). -/
structure ScSample where
  /-- sine track, ADC LSB -/
  sin : Int
  /-- cosine track, ADC LSB -/
  cos : Int
  /-- coarse edges since the last tick, in order -/
  edges : List CoarseEdge := []
  /-- edges of the reference mark since the last tick, in order -/
  marks : List MarkEdge := []
  /-- corrections newly fitted by the loupe, if any (R105) -/
  fit : Option CalFit := none
  deriving DecidableEq, Repr

/-- The commands of the 8440, one per row of spec/opcode_table.json. -/
inductive Instr where
  /-- HOST_READ (R29) -/
  | hostRead (frame : List Byte) (gapNs : Nat)
  /-- HOST_WRITE (R28) -/
  | hostWrite (frame : List Byte) (gapNs : Nat)
  /-- HOST_NO_OPERATION (R29) -/
  | hostNoOperation (frame : List Byte) (gapNs : Nat)
  /-- REGISTER_WRITE (R8) -/
  | registerWrite (path : Path) (addr : Nat) (value : Nat)
  /-- LATCHING_READ (R27) -/
  | latchingRead (path : Path) (addr : Nat)
  /-- IMG_DIGEST_READ (R63) -/
  | imgDigestRead (path : Path)
  /-- IMG_WRITE_BEGIN (R48) -/
  | imgWriteBegin (path : Path) (target : Nat)
  /-- IMG_WRITE_DATA (R50) -/
  | imgWriteData (path : Path) (word : Nat)
  /-- IMG_WRITE_FINISH (R51) -/
  | imgWriteFinish (path : Path)
  /-- IMG_WRITE_ABORT (R49) -/
  | imgWriteAbort (path : Path)
  /-- IMG_SESSION_TIMEOUT (R49) -/
  | imgSessionTimeout
  /-- IMG_VERIFY_END (R51) -/
  | imgVerifyEnd (medium : Bool)
  /-- IMG_ACTIVATE (R53) -/
  | imgActivate (bank : Nat) (confirm : Nat)
  /-- IMG_STAGE (R54) -/
  | imgStage (slot : Nat)
  /-- IMG_STAGE_ABORT (R54) -/
  | imgStageAbort
  /-- ATLAS_STAGING_END (R54) -/
  | atlasStagingEnd (uncorr : Bool)
  /-- SUPPLIES_VALID (R413) -/
  | suppliesValid (vinMv : Nat) (coreMv : Nat) (locks : List Bool) (side : Nat) (retries : List (Nat × Nat))
  /-- CONTROL_READY (R59) -/
  | controlReady (contactsA : Nat) (contactsB : Nat)
  /-- ATLAS_STREAM_END (R60) -/
  | atlasStreamEnd (uncorr : Bool)
  /-- COMPLETE (R78) -/
  | complete (facet : Nat) (mask : Nat) (cycles : Nat) (writes : List (Nat × Byte)) (outs : List (Nat × Bool))
  /-- COMPLETION_COLLECT (R79) -/
  | completionCollect
  /-- COUNTER_APPLY (R70) -/
  | counterApply
  /-- READY_LIST_ENTRY (R71) -/
  | readyListEntry
  /-- DESCRIPTOR_PLACEMENT (R73) -/
  | descriptorPlacement
  /-- DELAY_INSERT (R74) -/
  | delayInsert (inserts : List DelayInsert)
  /-- DELAY_CANCEL (R75) -/
  | delayCancel (logical : Nat) (position : Bool) (tag : Nat)
  /-- TIME_LIST_EXPIRY (R76) -/
  | timeListExpiry
  /-- PORT_DELIVERY (R80) -/
  | portDelivery (port : Nat)
  /-- DSP_DOORBELL (R81) -/
  | dspDoorbell (counter : Nat)
  /-- DSP_PEAK_CLEAR (R8) -/
  | dspPeakClear (value : Nat)
  /-- FACET_OVERRUN (R87) -/
  | facetOverrun (facet : Nat) (writes : List (Nat × Byte))
  /-- DSP_RELAY_CTRL (R88) -/
  | dspRelayCtrl (logical : Nat) (confirm : Nat)
  /-- RELAY_START (R88) -/
  | relayStart
  /-- RELAY_COPY_DONE (R89) -/
  | relayCopyDone
  /-- RELAY_SWITCH (R88) -/
  | relaySwitch
  /-- FACET_STALL (R88) -/
  | facetStall (facet : Nat)
  /-- FACET_MEMORY_UNCORR (R88) -/
  | facetMemoryUncorr (facet : Nat)
  /-- FAULT_RELAY_LOAD_DONE (R92) -/
  | faultRelayLoadDone
  /-- CAR_POSITION_SAMPLE (R96) -/
  | carPositionSample (sc : List ScSample)
  /-- SAMPLE_DELIVERY (R97) -/
  | sampleDelivery
  /-- SINCOS_LOST (R103) -/
  | sincosLost (channel : Nat)
  /-- REFERENCE_MARK (R109) -/
  | referenceMark (channel : Nat)
  /-- INDEX_LOST (R109) -/
  | indexLost (channel : Nat)
  /-- ADC_CAL_SWAP (R106) -/
  | adcCalSwap (channel : Nat) (track : Nat) (diffs : List Int)
  /-- QUAD_EDGE (R112) -/
  | quadEdge (channel : Nat) (a : Bool) (b : Bool) (z : Bool)
  /-- EMULATOR_EDGE (R132) -/
  | emulatorEdge (emu : Nat)
  /-- SSI_FRAME_START (R116) -/
  | ssiFrameStart
  /-- SSI_FRAME_END (R118) -/
  | ssiFrameEnd (bits : List Bool) (idleLow : Bool)
  /-- SLIP (R127) -/
  | slip
  /-- SSI_LOST (R118) -/
  | ssiLost (channel : Nat)
  /-- SSI_RESTORED (R118) -/
  | ssiRestored (channel : Nat)
  /-- LANE_B_SSI_FRAME (R119) -/
  | laneBSsiFrame (bits : List Bool) (idleLow : Bool) (age : Nat)
  /-- REFERENCE_POINT (R124) -/
  | referencePoint (input : Nat) (rising : Bool)
  /-- RETICLE_LOAD (R139) -/
  | reticleLoad (set : Nat) (addr : Nat)
  /-- RETICLE_LOAD_DONE (R139) -/
  | reticleLoadDone (set : Nat) (uncorr : Bool)
  /-- RETICLE_CANCEL (R140) -/
  | reticleCancel (set : Nat)
  /-- RETICLE_SWAP (R141) -/
  | reticleSwap (set : Nat)
  /-- POST_DELIVERY (R150) -/
  | postDelivery
  /-- RET_CAP_POS_READ (R150) -/
  | retCapPosRead (path : Path)
  /-- RET_STAT_CLEAR (R151) -/
  | retStatClear (value : Nat)
  /-- EVALUATOR_STEP (R159) -/
  | evaluatorStep (channel : Nat)
  /-- SEG_TIMEOUT (R159) -/
  | segTimeout (channel : Nat)
  /-- TRIP_LIMIT (R163) -/
  | tripLimit
  /-- SPLICE_COMMAND (R174) -/
  | spliceCommand
  /-- ASSIGN (R172) -/
  | assign (req : Nat) (landing : Nat) (upper : Bool) (doors : Nat) (profile : Nat)
  /-- CANCEL_REQUEST (R175) -/
  | cancelRequest (req : Nat) (landing : Nat) (upper : Bool)
  /-- SPLICE_ITEM (R173) -/
  | spliceItem (late : Bool)
  /-- TRIP_START (R177) -/
  | tripStart
  /-- TRIP_BEGIN (R177) -/
  | tripBegin
  /-- LEVELLING_START (R179) -/
  | levellingStart
  /-- CONF_CHANGE_ITEM (R181) -/
  | confChangeItem
  /-- TRIP_CMD_OUT_OF_SERVICE (R191) -/
  | tripCmdOutOfService (confirm : Nat)
  /-- TRIP_CMD_RETURN (R190) -/
  | tripCmdReturn (confirm : Nat)
  /-- TRIP_CMD_RESCUE (R180) -/
  | tripCmdRescue (dir : Nat) (confirm : Nat)
  /-- NEIGHBOUR_FRAME (R327) -/
  | neighbourFrame (port : Nat) (frame : List Byte)
  /-- NEIGHBOUR_TIMEOUT (R328) -/
  | neighbourTimeout (below : Bool)
  /-- SEPARATION_CLEAR (R189) -/
  | separationClear
  /-- SEP_WAIT (R189) -/
  | sepWait
  /-- CAR_LOOP_PERIOD (R196) -/
  | carLoopPeriod (mismatch : Bool) (sparePass : Bool)
  /-- DOOR_LOOP_PERIOD (R196) -/
  | doorLoopPeriod (loop : Nat) (mismatch : Bool) (sparePass : Bool)
  /-- FOLLOW_ERR (R202) -/
  | followErr (loop : Nat)
  /-- DRIVELINK_RESPONSE (R207) -/
  | drivelinkResponse (node : Nat) (frame : List Byte)
  /-- DRIVELINK_RESPONSE_MISSING (R207) -/
  | drivelinkResponseMissing (node : Nat)
  /-- DRIVELINK_LOST (R207) -/
  | drivelinkLost (node : Nat)
  /-- LOOP_ENGINE_UNCORR (R209) -/
  | loopEngineUncorr (engine : Nat)
  /-- DECK_MOVE_START (R212) -/
  | deckMoveStart
  /-- DOOR_START (R217) -/
  | doorStart (op : Nat) (profile : Nat)
  /-- DOOR_OPEN_RELEASE (R217) -/
  | doorOpenRelease (op : Nat)
  /-- DOOR_STOP (R453) -/
  | doorStop (op : Nat)
  /-- DOOR_REVERSAL (R219) -/
  | doorReversal (op : Nat)
  /-- DOOR_FAULT (R223) -/
  | doorFault (op : Nat)
  /-- LOOP_CMD_CLEAR (R224) -/
  | loopCmdClear (loop : Nat) (confirm : Nat)
  /-- LOOP_CMD_PEAK_CLEAR (R224) -/
  | loopCmdPeakClear (loop : Nat) (confirm : Nat)
  /-- LANE_A_PERIOD_START (R232) -/
  | laneAPeriodStart (volts : List Nat)
  /-- LANE_B_PERIOD_START (R232) -/
  | laneBPeriodStart (bc : Nat) (volts : List Nat)
  /-- PRISM_RECORD (R233) -/
  | prismRecord (toB : Bool) (bytes : List Byte) (span : Nat)
  /-- COMPARISON_POINT (R235) -/
  | comparisonPoint (laneB : Bool) (volts : List Nat)
  /-- PRISM_LINK (R234) -/
  | prismLink (laneB : Bool) (volts : List Nat)
  /-- LANE_CLOCK (R235) -/
  | laneClock (laneB : Bool) (volts : List Nat)
  /-- LANE_POS_DIFF (R237) -/
  | lanePosDiff (laneB : Bool) (volts : List Nat)
  /-- SWITCH_DISAGREE (R235) -/
  | switchDisagree (laneB : Bool) (volts : List Nat)
  /-- LANE_REQUEST_CHANGE (R230) -/
  | laneRequestChange (laneB : Bool) (bus : Nat)
  /-- LANE_SAMPLE_INSTANT (R268) -/
  | laneSampleInstant (laneB : Bool) (levels : Nat) (runs : List Nat) (volts : List Nat) (tps : Nat) (cur1 : Nat) (cur2 : Nat) (srst : Bool)
  /-- BRAKE_TIMEOUT (R272) -/
  | brakeTimeout (laneB : Bool) (brake2 : Bool)
  /-- FAST_INPUT_DEMAND (R241) -/
  | fastInputDemand (laneB : Bool) (input : Nat) (on : Nat) (off : Nat)
  /-- TEST_SEQUENCE_START (R249) -/
  | testSequenceStart
  /-- RECHECK_SEQUENCE_START (R255) -/
  | recheckSequenceStart
  /-- TEST_PULSE_START (R251) -/
  | testPulseStart (slot : Nat)
  /-- TEST_PULSE_END (R251) -/
  | testPulseEnd (opened : Bool) (follow : Nat) (offA : Nat) (offB : Nat) (onA : Nat) (onB : Nat) (afterA : Nat) (afterB : Nat)
  /-- POLE_READBACK_CHECK (R248) -/
  | poleReadbackCheck (laneB : Bool) (output : Nat) (mv : Nat)
  /-- TP_FAULT (R247) -/
  | tpFault (tp : Nat)
  /-- SEAL_SWITCH_CHANGE (R256) -/
  | sealSwitchChange (reader : Nat) (sw : Nat) (periods : Nat) (level : Bool)
  /-- RWS_WRITE (R259) -/
  | rwsWrite (addr : Nat) (value : Nat)
  /-- SAF_PARAM_CONFIRM (R260) -/
  | safParamConfirm (confirm : Nat)
  /-- OVERRIDE_APPLY (R260) -/
  | overrideApply (laneB : Bool)
  /-- BRAKE_TEST_DUE (R273) -/
  | brakeTestDue
  /-- BRAKE_TEST_OVERDUE (R273) -/
  | brakeTestOverdue
  /-- SAF_BT_CMD_START (R273) -/
  | safBtCmdStart (confirm : Nat)
  /-- SAF_BT_CMD_ABORT (R276) -/
  | safBtCmdAbort (confirm : Nat)
  /-- BRAKE_TEST_START (R274) -/
  | brakeTestStart
  /-- BRAKE_TEST_PHASE_END (R274) -/
  | brakeTestPhaseEnd
  /-- BRAKE_TEST_END (R276) -/
  | brakeTestEnd
  /-- LOCK_CHECK (R277) -/
  | lockCheck (laneB : Bool) (upper : Bool)
  /-- SEP_STALE (R285) -/
  | sepStale (laneB : Bool) (below : Bool)
  /-- RESET_PULSE (R287) -/
  | resetPulse (laneB : Bool) (srst : Bool) (width : Nat)
  /-- STUCK_RESET (R286) -/
  | stuckReset (laneB : Bool) (srst : Bool)
  /-- STANDARD_INPUT_SAMPLE (R293) -/
  | standardInputSample (levels : Nat) (currents : List Nat) (volts : List Nat)
  /-- DI_UNDEFINED (R294) -/
  | diUndefined (input : Nat)
  /-- DO_OVERLOAD (R296) -/
  | doOverload (output : Nat)
  /-- DO_OVERLOAD_RETRY (R296) -/
  | doOverloadRetry (output : Nat)
  /-- FIO_CMD_CLEAR_OVERLOAD (R296) -/
  | fioCmdClearOverload (output : Nat) (confirm : Nat)
  /-- DO_READBACK_CHECK (R297) -/
  | doReadbackCheck (output : Nat) (high : Bool) (pulse : Bool)
  /-- STANDARD_TEST_SEQUENCE (R298) -/
  | standardTestSequence
  /-- DO_PULSE_START (R299) -/
  | doPulseStart (output : Nat)
  /-- DO_PULSE_END (R299) -/
  | doPulseEnd (samples : List Nat)
  /-- GROUP_SILENT (R302) -/
  | groupSilent (group : Nat)
  /-- ALIVE_COUNT_RETURN (R303) -/
  | aliveCountReturn (group : Nat)
  /-- DO_HOLD_EXPIRY (R303) -/
  | doHoldExpiry (output : Nat)
  /-- FIELD_POWER_FAIL (R304) -/
  | fieldPowerFail
  /-- FS_BAND (R305) -/
  | fsBand (supply : Nat)
  /-- COUPLER_CHECK (R307) -/
  | couplerCheck (group : Nat) (lane : Nat) (margin : Nat) (errors : Nat)
  /-- CPL_ORDERLY_TAKEOVER (R308) -/
  | cplOrderlyTakeover (group : Nat)
  /-- CPL_COMPARISON_END (R308) -/
  | cplComparisonEnd (group : Nat) (equal : Bool) (pattern : Bool)
  /-- CPL_LANE_FAIL (R309) -/
  | cplLaneFail (group : Nat) (lane : Nat)
  /-- LINK_UP (R312) -/
  | linkUp (port : Nat)
  /-- LINK_DOWN (R312) -/
  | linkDown (port : Nat)
  /-- FRAME_RECEIVED (R320) -/
  | frameReceived (port : Nat) (frame : List Byte) (residence : Nat)
  /-- FRAME_TRANSMIT (R321) -/
  | frameTransmit (port : Nat)
  /-- DUAL_PATH_DEADLINE (R323) -/
  | dualPathDeadline
  /-- SINGLE_PATH_EXPIRED (R324) -/
  | singlePathExpired
  /-- NEIGHBOUR_SEND (R326) -/
  | neighbourSend
  /-- STATUS_SEND (R330) -/
  | statusSend
  /-- EVENT_FRAME_SEND (R378) -/
  | eventFrameSend
  /-- REQUEST_FRAME (R332) -/
  | requestFrame
  /-- RESET_PRESS (R333) -/
  | resetPress
  /-- RESET_RELEASE (R333) -/
  | resetRelease
  /-- RESET_PRESS_TIMEOUT (R333) -/
  | resetPressTimeout
  /-- RESET_ABANDON_END (R333) -/
  | resetAbandonEnd
  /-- SNAPSHOT_FRAME (R343) -/
  | snapshotFrame (port : Nat) (frame : List Byte)
  /-- SNAPSHOT_CAPTURE (R344) -/
  | snapshotCapture
  /-- SNAPSHOT_BANK_COPY (R344) -/
  | snapshotBankCopy
  /-- MGMT_REQ_FRAME (R334) -/
  | mgmtReqFrame (port : Nat) (frame : List Byte)
  /-- MGMT_EXECUTE (R334) -/
  | mgmtExecute
  /-- ENUMERATE_FRAME (R339) -/
  | enumerateFrame (port : Nat) (frame : List Byte)
  /-- ENUMERATE_DECISION (R339) -/
  | enumerateDecision
  /-- NET_ADDR_CMD_CLEAR (R340) -/
  | netAddrCmdClear (cmd : Nat) (confirm : Nat)
  /-- ADJ_SEND (R338) -/
  | adjSend
  /-- ADJ_FRAME (R338) -/
  | adjFrame (port : Nat) (frame : List Byte)
  /-- ADJ_ABSENT (R338) -/
  | adjAbsent (port : Nat)
  /-- PTP_SYNC (R337) -/
  | ptpSync (netB : Bool) (domain : Nat) (twoStep : Bool) (interval : Int) (grand : Nat) (gm : Nat)
  /-- PTP_SYNC_TIMEOUT (R337) -/
  | ptpSyncTimeout (netB : Bool)
  /-- PDELAY_REQ_SEND (R336) -/
  | pdelayReqSend (port : Nat)
  /-- PDELAY_REQ (R336) -/
  | pdelayReq (port : Nat) (frame : List Byte)
  /-- ANNOUNCE (R336) -/
  | announce (port : Nat) (frame : List Byte)
  /-- NET_SNAP_RELEASE (R345) -/
  | netSnapRelease (banks : Nat)
  /-- HELLO_SEND (R351) -/
  | helloSend
  /-- HELLO (R351) -/
  | hello (hello : Hello) (delayNs : Nat) (crcOk : Bool)
  /-- MIR_LINK_DOWN (R362) -/
  | mirLinkDown
  /-- STATE_MESSAGE (R355) -/
  | stateMessage (message : List Byte) (age : Nat)
  /-- MIR_CLEAN (R355) -/
  | mirClean
  /-- HEARTBEAT_MISSING (R353) -/
  | heartbeatMissing
  /-- TAKEOVER (R359) -/
  | takeover
  /-- JOURNAL (R354) -/
  | journal (record : JournalRec) (crcOk : Bool)
  /-- SYNC_REQ (R355) -/
  | syncReq (item : Nat) (crcOk : Bool)
  /-- SYNC (R355) -/
  | sync (body : SyncBody) (crcOk : Bool)
  /-- HANDOVER_MESSAGE (R363) -/
  | handoverMessage (period : Nat) (resign : Bool) (crcOk : Bool)
  /-- NEIGHBOURS_MESSAGE (R351) -/
  | neighboursMessage (words : List Nat) (crcOk : Bool)
  /-- COMMAND_MESSAGE (R351) -/
  | commandMessage (cmd : Nat) (answered : Bool) (crcOk : Bool)
  /-- ROLE_LINE_CHANGE (R349) -/
  | roleLineChange (level : Bool) (bus : Nat)
  /-- ROLE_LINE_DROP (R349) -/
  | roleLineDrop
  /-- REQ_HOLD_EXPIRY (R350) -/
  | reqHoldExpiry
  /-- MIR_CMD_HANDOVER (R364) -/
  | mirCmdHandover (confirm : Nat)
  /-- AUTO_HANDOVER (R364) -/
  | autoHandover
  /-- HANDOVER_EXECUTE (R363) -/
  | handoverExecute
  /-- MIR_CMD_RELEASE (R365) -/
  | mirCmdRelease (confirm : Nat)
  /-- MIR_CMD_ATTACH (R365) -/
  | mirCmdAttach (confirm : Nat)
  /-- MIR_CMD_ADOPT (R367) -/
  | mirCmdAdopt (confirm : Nat)
  /-- ADOPT_EXECUTE (R367) -/
  | adoptExecute (side : Nat) (retries : List (Nat × Nat))
  /-- ADOPT_HOLD_RELEASE (R367) -/
  | adoptHoldRelease
  /-- MEMORY_UNCORRECTABLE (R368) -/
  | memoryUncorrectable (table : Bool) (offset : Nat) (facet : Option Nat)
  /-- MEMORY_REMAP_START (R368) -/
  | memoryRemapStart (table : Bool) (row : Nat) (margin : Bool)
  /-- MEMORY_REMAP_SWITCH (R368) -/
  | memoryRemapSwitch
  /-- DEEP_BLOCK_FAIL (R369) -/
  | deepBlockFail (block : Nat)
  /-- NEAR_STORE_SCRUB (R372) -/
  | nearStoreScrub (corrected : List Nat) (uncorr : List Nat)
  /-- TABLE_STORE_SCRUB (R55) -/
  | tableStoreScrub (corrected : List Nat) (uncorr : List Nat)
  /-- KEEP_STORE_SCRUB (R370) -/
  | keepStoreScrub (uncorr : List Nat)
  /-- DEEP_STORE_PATROL (R369) -/
  | deepStorePatrol (blocks : List (Nat × Nat)) (slots : List Nat)
  /-- FACET_MARGIN_CHECK (R88) -/
  | facetMarginCheck (margins : List Nat) (eccs : List Nat) (tests : List Bool)
  /-- TELEMETRY (R372) -/
  | telemetry
  /-- EVT_Q_SRC_READ (R377) -/
  | evtQSrcRead (path : Path)
  /-- LOG_CMD_CLEAR (R388) -/
  | logCmdClear (confirm : Nat)
  /-- LOG_WALL_SET (R384) -/
  | logWallSet (path : Path) (hi : Nat)
  /-- LOG_MEDIUM_FAIL (R386) -/
  | logMediumFail (addr : Nat) (offset : Nat) (syndrome : Nat)
  /-- LOG_STOPPED (R387) -/
  | logStopped (offset : Nat)
  /-- RECORDER_COMMIT (R390) -/
  | recorderCommit (uncorr : Option Nat)
  /-- LOG_REC_CMD_COMMIT (R390) -/
  | logRecCmdCommit (uncorr : Option Nat)
  /-- LOG_REC_CMD_CLEAR (R392) -/
  | logRecCmdClear (confirm : Nat) (uncorr : Option Nat)
  /-- APERTURE_SELECT (R393) -/
  | apertureSelect (path : Path) (source : Nat)
  /-- APERTURE_CURSOR (R393) -/
  | apertureCursor (path : Path) (cursor : Nat)
  /-- APERTURE_FILL (R394) -/
  | apertureFill (path : Path)
  /-- APERTURE_ADVANCE (R394) -/
  | apertureAdvance (path : Path)
  /-- VIN_BAND (R399) -/
  | vinBand (volts : Nat)
  /-- DIM_STEP_DOWN (R403) -/
  | dimStepDown (vinMv : Nat) (coreMv : Nat)
  /-- DIM_STEP_UP (R404) -/
  | dimStepUp (vinMv : Nat) (coreMv : Nat)
  /-- PLL_SWITCH (R400) -/
  | pllSwitch (lockLost : Bool) (deviation : Int)
  /-- PLL_MARGIN_CHECK (R401) -/
  | pllMarginCheck (margins : List Nat) (passes : List Bool) (spareLocked : Bool)
  /-- CLOCK_LOST (R402) -/
  | clockLost (refLost : Bool)
  /-- PLL_RETRY (R402) -/
  | pllRetry (locks : List Bool)
  /-- PWR_CMD_PARK (R405) -/
  | pwrCmdPark (confirm : Nat)
  /-- PWR_CMD_UNPARK (R407) -/
  | pwrCmdUnpark (confirm : Nat)
  /-- PARK_EXIT (R407) -/
  | parkExit (side : Nat)
  /-- PWR_CMD_WARM (R411) -/
  | pwrCmdWarm (confirm : Nat) (side : Nat) (retries : List (Nat × Nat))
  /-- PWR_CMD_FACET (R412) -/
  | pwrCmdFacet (logical : Nat) (confirm : Nat)
  /-- POWER_FAIL (R408) -/
  | powerFail
  /-- DIP_RESET (R409) -/
  | dipReset (cause : Nat)
  /-- POWER_ON_RESET (R409) -/
  | powerOnReset (retentionLost : Bool)
  /-- TEMPERATURE_READ (R416) -/
  | temperatureRead (readings : List Int)
  /-- OPTIME_WRAP (R4) -/
  | optimeWrap
  /-- SEC_KEY_ENROLL (R422) -/
  | secKeyEnroll (path : Path) (slot : Nat) (confirm : Nat)
  /-- SEC_KEY_REMOVE (R422) -/
  | secKeyRemove (path : Path) (slot : Nat) (confirm : Nat)
  /-- KEY_CMD_DONE (R422) -/
  | keyCmdDone
  /-- SEC_ATT_ATTEST (R424) -/
  | secAttAttest (path : Path)
  /-- ATTEST_DONE (R424) -/
  | attestDone
  /-- SEC_RNG_READ (R419) -/
  | secRngRead (path : Path)
  /-- RNG_FAIL (R419) -/
  | rngFail (adaptive : Bool)
  /-- RNG_OK (R419) -/
  | rngOk
  /-- IDENTITY_CHECK (R420) -/
  | identityCheck (keyOk : Bool)
  /-- SW2_CHANGED (R421) -/
  | sw2Changed (level : Bool)
  /-- SEC_BUF_READ (R426) -/
  | secBufRead (path : Path)
  /-- PHY_READY (R313) -/
  | phyReady (netB : Bool)
  /-- PDELAY_RESP (R336) -/
  | pdelayResp (port : Nat) (seq : Nat) (delay : Nat)
  /-- ENC_SUPPLY (R135) -/
  | encSupply (supply : Nat) (millivolt : Nat) (milliamp : Nat)
  /-- RAIL_WARN (R417) -/
  | railWarn (rail : Nat) (mv : Nat)
  /-- RELAY_CODE_LOADED (R88) -/
  | relayCodeLoaded
  /-- SSI_NO_FRAME (R356) -/
  | ssiNoFrame (laneB : Bool)
  /-- OUTPUT_CURRENT_LIMIT (R434) -/
  | outputCurrentLimit (lane : Bool) (output : Nat)
  deriving DecidableEq, Repr

end Sys2Proof
end

