-- ==== Sys2Proof/Decode.lean ====
section
/-! DEFINITION. The 8440 has no instruction words: spec/opcode_table.json gives no row any bits, and its commands are the frames,
register accesses, messages and events of Machine/Dispatch.lean. -/

namespace Sys2Proof

/-- The command that a word spells by the table's bits: none, since no row has bits. -/
def decodeTableWord (_nbits _w : Nat) : Option Instr := none

end Sys2Proof
end

