-- ==== Sys2Proof/Machine/Crypto.lean ====
section
/-! DEFINITION. The arithmetic of signatures: SHA-384, and ECDSA on brainpoolP384r1 of RFC 5639 (R43, R44, R59, R418, R422, R424). spec/
names these functions and leaves their constants to the standards (log entry 7). -/

namespace Sys2Proof.Machine

/-! ### SHA-384 -/

/-- A word of SHA-384. -/
abbrev ShaWord := BitVec 64

/-- The first primes: the numbers from 2 on that no smaller number from 2 on divides. -/
def shaPrimes : List Nat := (List.range 410).filter fun n => decide (2 ≤ n) && (List.range n).all fun d => decide (d < 2) || n % d != 0

/-- The first 64 fractional bits of the k-th root of a number below 512: the largest x with x^k at most n·2^(64 k), modulo 2^64, found
bit by bit. -/
def rootBits (k n : Nat) : ShaWord :=
  BitVec.ofNat 64 ((List.range 70).foldl (fun x i =>
    let y := x + 2 ^ (69 - i)
    if y ^ k ≤ n * 2 ^ (64 * k) then y else x) 0)

/-- The 80 round constants: cube roots of the first 80 primes. -/
def shaK : List ShaWord := (shaPrimes.take 80).map (rootBits 3)

/-- The initial hash value of SHA-384: square roots of the 9th to the 16th prime. -/
def shaInit : List ShaWord := ((shaPrimes.drop 8).take 8).map (rootBits 2)

/-- The exclusive or of a word's rotations to the right by the amounts listed. -/
def rotations (l : List Nat) (x : ShaWord) : ShaWord := (l.map x.rotateRight).foldl (· ^^^ ·) 0

/-- The schedule word that follows sixteen of them. -/
def shaNext (w : List ShaWord) : ShaWord :=
  let old := nth w 1 0
  let late := nth w 14 0
  nth w 0 0 + nth w 9 0 + (rotations [1, 8] old ^^^ (old >>> 7)) + (rotations [19, 61] late ^^^ (late >>> 6))

/-- One round on the eight working variables: the two sums go in at the places of a and e, the other variables move on by one; the
choice takes f where e has a 1 and g elsewhere, the majority what two of a, b, c have. -/
def shaRound (v : List ShaWord) (kw : ShaWord) : List ShaWord :=
  let var := fun i => nth v i 0
  let choice := var 6 ^^^ (var 4 &&& (var 5 ^^^ var 6))
  let majority := (var 0 &&& (var 1 ||| var 2)) ||| (var 1 &&& var 2)
  let sum := var 7 + kw + choice + rotations [14, 18, 41] (var 4)
  ((sum + majority + rotations [28, 34, 39] (var 0)) :: v.take 3) ++ ((sum + var 3) :: (v.drop 4).take 3)

/-- The rounds of a block, one for each constant, on the working variables and the next sixteen schedule words. -/
def shaRounds (w v : List ShaWord) : List ShaWord :=
  (shaK.foldl (fun (x : List ShaWord × List ShaWord) k => (x.1.drop 1 ++ [shaNext x.1], shaRound x.2 (k + nth x.1 0 0))) (w, v)).2

/-- The sixteen words of a block of 128 bytes. -/
def shaBlock (bs : List Byte) : List ShaWord :=
  (List.range 16).map fun i => BitVec.ofNat 64 (beNat ((bs.drop (8 * i)).take 8))

/-- The blocks of a padded message, each added to the hash value. -/
def shaBlocks : Nat → List Byte → List ShaWord → List ShaWord
  | 0, _, v => v
  | n + 1, bs, v => shaBlocks n (bs.drop 128) (List.zipWith (· + ·) v (shaRounds (shaBlock bs) v))

/-- A message with the bit 1, zeros up to a multiple of 128 bytes, and its length in bits. -/
def shaPad (bs : List Byte) : List Byte :=
  bs ++ [0x80] ++ List.replicate ((239 - bs.length % 128) % 128) 0 ++ beBytes 16 (8 * bs.length)

/-- SHA-384 of a byte string. -/
def sha384 (bs : List Byte) : Digest :=
  let v := shaBlocks ((bs.length + 144) / 128) (shaPad bs) shaInit
  BitVec.ofNat 384 ((v.take 6).foldl (fun n w => n * 2 ^ 64 + w.toNat) 0)

/-! ### brainpoolP384r1 -/

/-- The prime of the field. -/
def curveP : Nat := 0x8cb91e82a3386d280f5d6f7e50e641df152f7109ed5456b412b1da197fb71123acd3a729901d1a71874700133107ec53
/-- The coefficient A of y² = x³ + A x + B. -/
def curveA : Nat := 0x7bc382c63d8c150c3c72080ace05afa0c2bea28e4fb22787139165efba91f90f8aa5814a503ad4eb04a8c7dd22ce2826
/-- The coefficient B. -/
def curveB : Nat := 0x04a8c7dd22ce28268b39b55416f0447c2fb77de107dcd2a62e880ea53eeb62d57cb4390295dbc9943ab78696fa504c11
/-- The base point. -/
def curveG : Nat × Nat :=
  (0x1d1c64f068cf45ffa2a63a81b7c13f6b8847a3e77ef14fe3db7fcafe0cbd10e8e826e03436d646aaef87b2e247d4af1e,
   0x8abe1d7520f9c2a45cb1eb8e95cfd55262b70b29feec5864e19c054ff99129280e4646217791811142820341263c5315)
/-- The order of the base point. -/
def curveN : Nat := 0x8cb91e82a3386d280f5d6f7e50e641df152f7109ed5456b31f166e6cac0425a7cf3ab6af6b7fc3103b883202e9046565

/-- The bits of a number below 2^384, highest first. -/
def bits384 (n : Nat) : List Bool := (List.range 384).map fun i => n.testBit (383 - i)

/-- b^e modulo m. -/
def powMod (m b e : Nat) : Nat := (bits384 e).foldl (fun x d => if d then x * x % m * b % m else x * x % m) 1

/-- The inverse modulo a prime. -/
def invMod (m a : Nat) : Nat := powMod m (a % m) (m - 2)

/-- A point of the curve; none is the point at infinity. -/
abbrev Point := Option (Nat × Nat)

/-- The point on a line of a slope through a point, reflected. -/
def slopePoint (l : Nat) (a : Nat × Nat) (x : Nat) : Nat × Nat :=
  let x3 := (l * l + 2 * curveP - a.1 - x) % curveP
  (x3, (l * (a.1 + curveP - x3) + curveP - a.2) % curveP)

/-- The sum of two points. -/
def pointAdd : Point → Point → Point
  | none, q => q
  | p, none => p
  | some a, some b =>
    if a.1 = b.1 then
      if (a.2 + b.2) % curveP = 0 then none
      else some (slopePoint ((3 * a.1 * a.1 + curveA) * invMod curveP (2 * a.2) % curveP) a b.1)
    else some (slopePoint ((b.2 + curveP - a.2) * invMod curveP (b.1 + curveP - a.1) % curveP) a b.1)

/-- A multiple of a point. -/
def pointMul (k : Nat) (p : Point) : Point :=
  (bits384 k).foldl (fun q d => let t := pointAdd q q; if d then pointAdd t p else t) none

/-- A public key X then Y as coordinates. -/
def keyPoint (k : BitVec 768) : Nat × Nat := (k.toNat / 2 ^ 384, k.toNat % 2 ^ 384)

/-- A point passes the validation of R422: coordinates below the prime, on the curve; no such pair is the point at infinity. -/
def pointValid (k : BitVec 768) : Bool :=
  let a := keyPoint k
  decide (a.1 < curveP) && decide (a.2 < curveP) && a.2 * a.2 % curveP == (a.1 * a.1 * a.1 + curveA * a.1 + curveB) % curveP

/-- ECDSA verification (R44): public key X then Y, digest, signature r then s. -/
def ecdsaVerify (key : BitVec 768) (d : Digest) (sig : BitVec 768) : Bool :=
  let r := sig.toNat / 2 ^ 384
  let s := sig.toNat % 2 ^ 384
  let w := invMod curveN s
  let q := pointAdd (pointMul (d.toNat * w % curveN) (some curveG)) (pointMul (r * w % curveN) (some (keyPoint key)))
  decide (1 ≤ r) && decide (r < curveN) && decide (1 ≤ s) && decide (s < curveN) &&
    match q with
    | none => false
    | some a => a.1 % curveN == r

/-- ECDSA signature with a private key and a nonce, both below the order: r then s (R424). -/
def ecdsaSign (key nonce : Nat) (d : Digest) : BitVec 768 :=
  let r := match pointMul nonce (some curveG) with
    | none => 0
    | some a => a.1 % curveN
  BitVec.ofNat 768 (r * 2 ^ 384 + invMod curveN nonce * (d.toNat + r * key) % curveN)

end Sys2Proof.Machine
end

