-- ==== Sys2Proof/Config.lean ====
section
/-! DEFINITION. What an implementation fixes and the free values: constants without a body, so that nothing can be proved
of their values. Each is named in a row of the assumption log. -/

namespace Sys2Proof.Config

open Sys2Proof.Machine

/-- The n-th free word: random bits of the TRNG and every other value that spec/ leaves open (log entry 6). -/
opaque freeWord : Nat → Word

/-- Which way an inexact result is rounded where spec/ gives no rounding, by the number rounded (log entry 6). -/
opaque roundUp : Nat → Bool

/-- The quotient of a number by a divisor that the image sets to 0, for which spec/ states no result (log entry 94). -/
opaque byZero : Int → Int

/-- The private identity key, which nothing can read (R419, log entry 7). -/
opaque identityKey : Nat

/-- The secret nonce of the n-th signature, fresh from the TRNG (R419, log entry 7). -/
opaque nonce : Nat → Nat

/-- The FABRIC section beside its node table, whose layout spec/ does not give (log entry 8). -/
opaque decodeFabric : List Byte → FabricTables

/-- Offset and number of entries of the node table in the FABRIC section (log entry 8). -/
opaque nodeTable : List Byte → Nat × Nat

/-- The GRAPHS section (log entry 8). -/
opaque decodeGraphs : List Byte → GraphTables

/-- The ENVELOPES section beside its bins, stops and separation tables, whose layout spec/ does not give (log entry 8). -/
opaque decodeEnvelopes : List Byte → Envelopes

/-- Where the parts of the ENVELOPES section lie (log entry 8). -/
opaque envelopeHead : List Byte → EnvelopeHead

/-- The part header of an atlas section or of CORE_ATLAS, whose layout spec/ does not give (log entry 8). -/
opaque atlasHead : List Byte → AtlasHead

/-- The part header of the DOORS section with its spacing list and deck-move matrix (log entry 8). -/
opaque decodeDoorHeader : List Byte → DoorHeader

/-- A lane table of the SAFETY_SET section: false lane A's, true lane B's; diverse encodings whose layout spec/ does not give
(R42, log entry 8). -/
opaque decodeLane : Bool → List Byte → LaneTable

/-- Gain and phase correction of a pair of tracks (R101, R105, log entry 9): gain, phase, sine, cosine. -/
opaque correctTracks : Int → Int → Int → Int → Int × Int

/-- Measured deck speed from the deck positions of its last periods, newest first: R216 gives the doors' rule only (log entry
18). -/
opaque deckSpeed : List Int → Int

/-- The record that the word of the keep store at this offset belongs to: spec/ gives the system region no layout (R370, log entry
126). -/
opaque systemRecord : Nat → SysRecord

end Sys2Proof.Config
end

