-- ==== Sys2Proof/Machine/Events.lean ====
section
/-! DEFINITION. The event sources of the event tables of spec/ (R13, R33, R374): the source number and whether the event is a
fault. The arguments each event carries stand in its comment. -/

namespace Sys2Proof.Machine

/-- An event source: its number and its FAULT flag (R13, R374). -/
structure Evt where
  /-- source, 0 to 511 (R33) -/
  src : Nat
  /-- whether the event is a fault -/
  fault : Bool
  deriving DecidableEq, Repr

/-- The same source raised with the FAULT flag set (R135). -/
def Evt.asFault (e : Evt) : Evt := { e with fault := true }

namespace Evt

/-- channel, radius in mV (file 04) -/
def SINCOS_AMP : Evt := ⟨0, false⟩
/-- channel, kind (R102) (file 04) -/
def SINCOS_ILLEGAL : Evt := ⟨1, false⟩
/-- channel: 0 SC1, 1 SC2, 4 QD5, 5 QD6 (file 04) -/
def SINCOS_LOST : Evt := ⟨2, false⟩
/-- channel (file 04) -/
def LINE_RATE : Evt := ⟨3, false⟩
/-- channel, d (file 04) -/
def INDEX_DEV : Evt := ⟨4, false⟩
/-- channel (file 04) -/
def INDEX_LOST : Evt := ⟨5, false⟩
/-- channel (file 04) -/
def INDEX_MISSING : Evt := ⟨6, false⟩
/-- channel: 0 offset, 1 gain, 2 phase (file 04) -/
def CAL_LIMIT : Evt := ⟨7, false⟩
/-- channel, track (file 04) -/
def ADC_CAL_FAIL : Evt := ⟨8, false⟩
/-- channel (file 04) -/
def QUAD_ILLEGAL : Evt := ⟨9, false⟩
/-- channel, reason (R118) (file 04) -/
def SSI_ERR : Evt := ⟨10, false⟩
/-- channel (file 04) -/
def SSI_LOST : Evt := ⟨11, false⟩
/-- channel (file 04) -/
def SSI_RESTORED : Evt := ⟨12, false⟩
/-- D in mm (file 04) -/
def SLIP_WARN : Evt := ⟨13, false⟩
/-- D in mm (file 04) -/
def SLIP : Evt := ⟨14, false⟩
/-- entry, reason: 2 window, 3 age, 4 no entry (file 04) -/
def REF_REJECT : Evt := ⟨15, false⟩
/-- entry (file 04) -/
def REREF_DONE : Evt := ⟨16, false⟩
/-- CONF, cause bits (file 04) -/
def CONF_CHANGE : Evt := ⟨17, false⟩
/-- emulator (file 04) -/
def EMU_BACKLOG : Evt := ⟨18, false⟩
/-- emulator (file 04) -/
def EMU_OVERFLOW : Evt := ⟨19, false⟩
/-- channel (file 04) -/
def DOOR_HOMED : Evt := ⟨20, false⟩
/-- supply 1 or 2: outside ±10 % or above 300 mA (file 04) -/
def ENC_SUPPLY : Evt := ⟨21, false⟩
/-- set, slot, TAG, CONF (file 05) -/
def RET_WITHHELD : Evt := ⟨64, false⟩
/-- set, slot, TAG (file 05) -/
def RET_LATE_WITHHELD : Evt := ⟨65, false⟩
/-- set, slot, TAG (file 05) -/
def RET_LATE_FIRE : Evt := ⟨66, false⟩
/-- losing set, slot, TAG (file 05) -/
def RET_CONFLICT : Evt := ⟨67, false⟩
/-- set (file 05) -/
def RET_SWAP_REFUSED : Evt := ⟨68, false⟩
/-- set, PROG_ID [15:0] (file 05) -/
def RET_STAGE_FAIL : Evt := ⟨69, false⟩
/-- set, slot, TAG (file 05) -/
def RET_POST_LOST : Evt := ⟨70, false⟩
/-- capture register (file 05) -/
def RET_CAPTURE_OVERWRITE : Evt := ⟨71, false⟩
/-- kind, origin, destination (file 06) -/
def TRIP_ATLAS_MISS : Evt := ⟨72, false⟩
/-- set code (R136): 0 car, 1 to 4 door set; segment index (file 06) -/
def TRIP_EVAL_BAD : Evt := ⟨73, false⟩
/-- 0 speed; 1 acceleration; 2 jerk; 3 SEG_TIMEOUT (file 06) -/
def TRIP_LIMIT : Evt := ⟨74, true⟩
/-- channel: 0 car, 1 to 4 door operator, 5 deck; segment index (file 06) -/
def TRIP_CONTINUITY : Evt := ⟨75, false⟩
/-- car stop (file 06) -/
def SPLICE_DONE : Evt := ⟨76, false⟩
/-- car stop (file 06) -/
def SPLICE_ALT : Evt := ⟨77, false⟩
/-- car stop (file 06) -/
def STOP_DEMOTED : Evt := ⟨78, false⟩
/-- REQ_ID (file 06) -/
def STOPLIST_FULL : Evt := ⟨79, false⟩
/-- neighbour address, gap in mm (file 06) -/
def SEP_STOP : Evt := ⟨80, false⟩
/-- neighbour address, gap in mm (file 06) -/
def SEP_HARD : Evt := ⟨81, false⟩
/-- neighbour address (file 06) -/
def SEP_TIMEOUT : Evt := ⟨82, false⟩
/-- neighbour address (file 06) -/
def SEP_CLEARED : Evt := ⟨83, false⟩
/-- neighbour address (file 06) -/
def SEP_WAIT : Evt := ⟨84, false⟩
/-- stop cause (file 06) -/
def CTRL_STOP : Evt := ⟨85, false⟩
/-- cause (Table 06-9) (file 06) -/
def OUT_OF_SERVICE : Evt := ⟨86, false⟩
/-- distance in mm (file 06) -/
def TRIP_RESCUE_NONE : Evt := ⟨87, false⟩
/-- command (file 06) -/
def TRIP_CMD_REFUSED : Evt := ⟨88, false⟩
/-- loop, ep in µm (file 07) -/
def FE_WARN : Evt := ⟨128, false⟩
/-- loop (file 07) -/
def FOLLOW_ERR : Evt := ⟨129, true⟩
/-- node, reason (file 07) -/
def DRIVELINK_ERR : Evt := ⟨130, false⟩
/-- node (file 07) -/
def DRIVELINK_LOST : Evt := ⟨131, true⟩
/-- node, FAULT_CODE (file 07) -/
def DRIVE_FAULT : Evt := ⟨132, true⟩
/-- loop, engine (file 07) -/
def LOOP_CHECK_MISMATCH : Evt := ⟨133, false⟩
/-- loop, old engine, new engine (file 07) -/
def LOOP_SUBSTITUTED : Evt := ⟨134, false⟩
/-- engine (file 07) -/
def LOOP_SPARE_FAIL : Evt := ⟨135, false⟩
/-- loop; 0xFF at load (file 07) -/
def LOOP_LOST : Evt := ⟨136, true⟩
/-- operator, source: 0 force, 1 light curtain, 2 edge; position in mm (file 07) -/
def DOOR_OBSTRUCT : Evt := ⟨137, false⟩
/-- operator, entry, REV_COUNT (file 07) -/
def DOOR_REVERSAL : Evt := ⟨138, false⟩
/-- operator (file 07) -/
def DOOR_NUDGE : Evt := ⟨139, false⟩
/-- operator, kind: 0 reference KE, 1 measured KE (file 07) -/
def DOOR_LIMIT : Evt := ⟨140, false⟩
/-- operator, cause (Table 07-7) (file 07) -/
def DOOR_FAULT : Evt := ⟨141, true⟩
/-- operator, profile (file 07) -/
def DOOR_CMD_DISCARDED : Evt := ⟨142, false⟩
/-- car stop (file 07) -/
def DOOR_CYCLE_DONE : Evt := ⟨143, false⟩
/-- operator (file 07) -/
def DECK_HOLD : Evt := ⟨144, false⟩
/-- spacing index (file 07) -/
def DECK_DONE : Evt := ⟨145, false⟩
/-- cause (Table 07-7) (file 07) -/
def DECK_FAULT : Evt := ⟨146, true⟩
/-- 0 (file 07) -/
def DECK_HOMED : Evt := ⟨147, false⟩
/-- lane that latched (file 08) -/
def PRISM_LINK : Evt := ⟨192, true⟩
/-- lane, SEQ (file 08) -/
def PRISM_LATE : Evt := ⟨193, false⟩
/-- SPAN (file 08) -/
def LANE_CLOCK : Evt := ⟨194, true⟩
/-- function (file 08) -/
def PERM_MISMATCH : Evt := ⟨195, true⟩
/-- differing request bits, REQ [5:0] (file 08) -/
def REQ_MISMATCH : Evt := ⟨196, false⟩
/-- output (file 08) -/
def OUT_CMD_MISMATCH : Evt := ⟨197, true⟩
/-- 0 (file 08) -/
def PARAM_MISMATCH : Evt := ⟨198, true⟩
/-- difference in mm (file 08) -/
def LANE_POS_WARN : Evt := ⟨199, false⟩
/-- 0 position, 1 speed; difference in mm or mm/s (file 08) -/
def LANE_POS_DIFF : Evt := ⟨200, true⟩
/-- lane whose position is valid (file 08) -/
def POS_SINGLE : Evt := ⟨201, false⟩
/-- input (file 08) -/
def INPUT_DISC : Evt := ⟨202, true⟩
/-- input, channel (file 08) -/
def INPUT_STUCK : Evt := ⟨203, true⟩
/-- input, channel, TP (file 08) -/
def INPUT_CROSS : Evt := ⟨204, true⟩
/-- TP (file 08) -/
def TP_FAULT : Evt := ⟨205, true⟩
/-- output, pole (file 08) -/
def OUT_STUCK : Evt := ⟨206, true⟩
/-- output, partner (file 08) -/
def OUT_CROSS : Evt := ⟨207, true⟩
/-- output, pole (file 08) -/
def OUT_OPEN : Evt := ⟨208, true⟩
/-- output, pole (file 08) -/
def OUT_TEST_ABORTED : Evt := ⟨209, false⟩
/-- lane A code, lane B code (file 08) -/
def SWITCH_CHANGED : Evt := ⟨210, false⟩
/-- lane A code, lane B code (file 08) -/
def SWITCH_DISAGREE : Evt := ⟨211, false⟩
/-- register offset (file 08) -/
def SAF_RWS_REFUSED : Evt := ⟨212, false⟩
/-- parameter index (file 08) -/
def SAF_OVERRIDE : Evt := ⟨213, false⟩
/-- parameter index, reason (file 08) -/
def SAF_OVERRIDE_REFUSED : Evt := ⟨214, false⟩
/-- input, lane (file 08) -/
def FAST_CUT : Evt := ⟨215, true⟩
/-- brake, cause (Table 09-5) (file 09) -/
def BRAKE_FAULT : Evt := ⟨216, true⟩
/-- brake, movement in µm (file 09) -/
def BRAKE_TEST_PASS : Evt := ⟨217, false⟩
/-- brake, movement in µm (file 09) -/
def BRAKE_TEST_FAIL : Evt := ⟨218, true⟩
/-- brake, reason: 0 aborted, 1 inconclusive (file 09) -/
def BRAKE_TEST_ABORTED : Evt := ⟨219, false⟩
/-- hours since the last pass (file 09) -/
def BRAKE_TEST_OVERDUE : Evt := ⟨220, false⟩
/-- condition: 0 DZ input, 1 window, 2 speed, 3 inspection (file 09) -/
def DZB_TRIP : Evt := ⟨221, true⟩
/-- cause: 0 distance, 1 window, 2 door zone; movement in mm (file 09) -/
def UCM : Evt := ⟨222, true⟩
/-- lane, speed in mm/s (file 09) -/
def OVERSPEED : Evt := ⟨223, true⟩
/-- 0 up, 1 down; 0 input, 1 position (file 09) -/
def FINAL_LIMIT : Evt := ⟨224, true⟩
/-- 0 up, 1 down; speed in mm/s (file 09) -/
def REDUCED_STROKE : Evt := ⟨225, true⟩
/-- speed in mm/s (file 09) -/
def INSP_OVERSPEED : Evt := ⟨226, true⟩
/-- role (file 09) -/
def LOCK_OPENED : Evt := ⟨227, true⟩
/-- deck, consecutive count (file 09) -/
def LOCK_CHECK_MISS : Evt := ⟨228, false⟩
/-- deck (file 09) -/
def LOCK_BRIDGED : Evt := ⟨229, true⟩
/-- neighbour address; 0 SEP_HARD, 1 lane gap, 2 stale data (file 09) -/
def SEP_TRIP : Evt := ⟨230, true⟩
/-- neighbour address (file 09) -/
def SEP_STALE : Evt := ⟨231, false⟩
/-- role (file 09) -/
def STOP_OPENED : Evt := ⟨232, true⟩
/-- source: 0 network, 1 SRST; faults cleared (file 09) -/
def RESET_ACCEPTED : Evt := ⟨233, false⟩
/-- reason: 1 CAUSE, 2 LOCAL, 3 DISAGREE; FAULTS bit of the blocking fault (file 09) -/
def RESET_REFUSED : Evt := ⟨234, false⟩
/-- source (file 09) -/
def STUCK_RESET : Evt := ⟨235, false⟩
/-- brake, 0 applied, 1 lifted, 2 changing (file 09) -/
def BRAKE_STATE : Evt := ⟨236, false⟩
/-- supply: 1 FS1, 2 FS2 lane A, 3 FS2 lane B; band; voltage in 0.1 V (file 10) -/
def FS_BAND : Evt := ⟨256, false⟩
/-- input (file 10) -/
def DI_WIRE_BREAK : Evt := ⟨257, false⟩
/-- input (file 10) -/
def DI_WIRE_OK : Evt := ⟨258, false⟩
/-- input, current in 0.01 mA (file 10) -/
def DI_UNDEFINED : Evt := ⟨259, false⟩
/-- output, PARTNER (file 10) -/
def DO_STUCK_HIGH : Evt := ⟨260, false⟩
/-- output (file 10) -/
def DO_STUCK_LOW : Evt := ⟨261, false⟩
/-- output, PARTNER (file 10) -/
def DO_CROSS : Evt := ⟨262, false⟩
/-- output, consecutive count (file 10) -/
def DO_OVERLOAD : Evt := ⟨263, false⟩
/-- output (file 10) -/
def DO_TEST_ABORTED : Evt := ⟨264, false⟩
/-- output (file 10) -/
def DO_CLEARED : Evt := ⟨265, false⟩
/-- group, silence in ms (file 10) -/
def FIO_HOLD_EXIT : Evt := ⟨266, false⟩
/-- group, lane (file 10) -/
def CPL_MARGIN : Evt := ⟨267, false⟩
/-- group, lane, reason: 0 margin, 1 errors, 2 failure (file 10) -/
def CPL_TAKEOVER : Evt := ⟨268, false⟩
/-- group (file 10) -/
def CPL_SPARE_FAIL : Evt := ⟨269, false⟩
/-- group, lane (file 10) -/
def CPL_LOST : Evt := ⟨270, false⟩
/-- network, port (file 11) -/
def LINK_DOWN : Evt := ⟨320, false⟩
/-- network, port (file 11) -/
def LINK_UP : Evt := ⟨321, false⟩
/-- network (file 11) -/
def PORT_REVERSED : Evt := ⟨322, false⟩
/-- 0 (file 11) -/
def CHAIN_ORDER : Evt := ⟨323, false⟩
/-- producer address, side, kind (file 11) -/
def DUAL_MISMATCH : Evt := ⟨324, false⟩
/-- producer address, side, network carrying (file 11) -/
def SINGLE_PATH : Evt := ⟨325, false⟩
/-- producer address, side, kind (file 11) -/
def SINGLE_PATH_EXPIRED : Evt := ⟨326, false⟩
/-- producer address, side, kind (file 11) -/
def DUAL_RESTORED : Evt := ⟨327, false⟩
/-- neighbour address; 0 timeout, 1 expired, 2 mismatch (file 11) -/
def NBR_TIMEOUT : Evt := ⟨328, false⟩
/-- neighbour address, age in µs (file 11) -/
def NBR_STALE_FRAME : Evt := ⟨329, false⟩
/-- address, ENUM_ID (file 11) -/
def ADDR_ASSIGNED : Evt := ⟨330, false⟩
/-- counter A, counter B; 0xFF for a missing copy (file 11) -/
def ADDR_SPLIT : Evt := ⟨331, false⟩
/-- counter, downstream address (file 11) -/
def ADDR_NO_GAP : Evt := ⟨332, false⟩
/-- 0 (file 11) -/
def ADDR_FULL : Evt := ⟨333, false⟩
/-- own address, counter (file 11) -/
def ADDR_ORDER : Evt := ⟨334, false⟩
/-- address, side (file 11) -/
def ADDR_DUPLICATE : Evt := ⟨335, false⟩
/-- committed address, OWN_ADDR (file 11) -/
def ADDR_IMAGE_MISMATCH : Evt := ⟨336, false⟩
/-- 1 entered, 0 left (file 11) -/
def NET_LISTENING : Evt := ⟨337, false⟩
/-- network (file 11) -/
def PTP_LOCKED : Evt := ⟨338, false⟩
/-- network (file 11) -/
def PTP_UNLOCKED : Evt := ⟨339, false⟩
/-- network (file 11) -/
def PTP_SOURCE : Evt := ⟨340, false⟩
/-- difference in ns (file 11) -/
def PTP_DIVERGE : Evt := ⟨341, false⟩
/-- step in µs, signed (file 11) -/
def PTP_STEP : Evt := ⟨342, false⟩
/-- TAG, bank (file 11) -/
def SNAP_TAKEN : Evt := ⟨343, false⟩
/-- TAG, reason (file 11) -/
def SNAP_REFUSED : Evt := ⟨344, false⟩
/-- port of Table 03-4 (file 11) -/
def NET_RX_OVERFLOW : Evt := ⟨345, false⟩
/-- RESET_ID, reason (file 11) -/
def RESET_ABANDONED : Evt := ⟨346, false⟩
/-- 0 (file 12) -/
def MIR_LINK_UP : Evt := ⟨384, false⟩
/-- 0 (file 12) -/
def MIR_LINK_DOWN : Evt := ⟨385, false⟩
/-- 0 (file 12) -/
def MIR_PARTNER_LOST : Evt := ⟨386, false⟩
/-- period; SYNCED; FOREIGN; RESIGN (file 12) -/
def MIR_TAKEOVER : Evt := ⟨387, false⟩
/-- period; 0 command, 1 takeback, 2 adoption (file 12) -/
def MIR_HANDOVER : Evt := ⟨388, false⟩
/-- reason: 0 quiet point ended, 1 cut, 2 not clean (file 12) -/
def MIR_HANDOVER_FAIL : Evt := ⟨389, false⟩
/-- item code of MIR_SHADOW (file 12) -/
def MIR_SHADOW_MISMATCH : Evt := ⟨390, false⟩
/-- 0 (file 12) -/
def MIR_SYNCED : Evt := ⟨391, false⟩
/-- 0 (file 12) -/
def MIR_CLEAN : Evt := ⟨392, false⟩
/-- 0 (file 12) -/
def MIR_LINK_OVERFLOW : Evt := ⟨393, false⟩
/-- command, reason (file 12) -/
def MIR_CMD_REFUSED : Evt := ⟨394, false⟩
/-- 1 released, 0 attached (file 12) -/
def MIR_RELEASED : Evt := ⟨395, false⟩
/-- row (file 12) -/
def NEAR_UNCORR : Evt := ⟨396, false⟩
/-- row (file 12) -/
def NEAR_REMAP : Evt := ⟨397, false⟩
/-- page (file 12) -/
def TABLE_UNCORR : Evt := ⟨398, false⟩
/-- page (file 12) -/
def TABLE_REMAP : Evt := ⟨399, false⟩
/-- offset (file 12) -/
def KEEP_UNCORR : Evt := ⟨400, false⟩
/-- block (file 12) -/
def DEEP_REFRESH : Evt := ⟨401, false⟩
/-- block (file 12) -/
def DEEP_RETIRED : Evt := ⟨402, false⟩
/-- 0 near, 1 table, 2 deep, 3 facets, 4 engines, 5 couplers, 6 PLL (file 12) -/
def SPARES_LOW : Evt := ⟨403, false⟩
/-- task code (Table 12-5) (file 12) -/
def LOUPE_LATE : Evt := ⟨404, false⟩
/-- side (file 16) -/
def MIR_SIDE_CLASH : Evt := ⟨405, false⟩
/-- target (file 02) -/
def IMG_WRITE_DONE : Evt := ⟨416, false⟩
/-- target, error code (file 02) -/
def IMG_WRITE_FAIL : Evt := ⟨417, false⟩
/-- bank (file 02) -/
def IMG_ACTIVATED : Evt := ⟨418, false⟩
/-- bank (file 02) -/
def IMG_ACTIVATE_REFUSED : Evt := ⟨419, false⟩
/-- bank, frame index (file 02) -/
def IMG_FRAME_RETRY : Evt := ⟨420, false⟩
/-- bank loaded (file 02) -/
def IMG_FALLBACK : Evt := ⟨421, false⟩
/-- 0 (file 02) -/
def IMG_LOAD_FAIL : Evt := ⟨422, false⟩
/-- switch code, SAFETY_SET_ID (file 02) -/
def SAFETY_SET_MISMATCH : Evt := ⟨423, true⟩
/-- lane: 0 A, 1 B (file 02) -/
def SAFETY_SET_LOAD : Evt := ⟨424, true⟩
/-- active table-store slot (file 02) -/
def ATLAS_READY : Evt := ⟨425, false⟩
/-- deep slot (file 02) -/
def ATLAS_DIGEST_FAIL : Evt := ⟨426, false⟩
/-- 0 (file 02) -/
def ATLAS_UNAVAILABLE : Evt := ⟨427, false⟩
/-- deep slot (file 02) -/
def ATLAS_STAGED : Evt := ⟨428, false⟩
/-- deep slot, error code (file 02) -/
def ATLAS_STAGE_FAIL : Evt := ⟨429, false⟩
/-- 0 to 1 bank, 2 to 3 deep slot (file 02) -/
def STORE_AT_RISK : Evt := ⟨430, false⟩
/-- target (file 02) -/
def IMG_SESSION_TIMEOUT : Evt := ⟨431, false⟩
/-- logical index, reason (file 03) -/
def FACET_RELAY_START : Evt := ⟨432, false⟩
/-- logical index, old and new physical index, reason (file 03) -/
def FACET_RELAY_DONE : Evt := ⟨433, false⟩
/-- logical index, reason (file 03) -/
def FACET_RELAY_FAIL : Evt := ⟨434, false⟩
/-- logical index (file 03) -/
def SPARES_EXHAUSTED : Evt := ⟨435, false⟩
/-- logical index; 0xFF at load under R65 (file 03) -/
def FACET_LOST : Evt := ⟨436, true⟩
/-- logical index, node (file 03) -/
def FACET_OVERRUN : Evt := ⟨437, false⟩
/-- ready-list level (file 03) -/
def DSP_BACKPRESSURE : Evt := ⟨438, false⟩
/-- 0 time list; 1 position list (file 03) -/
def DSP_DELAY_FULL : Evt := ⟨439, false⟩
/-- offset of the failing word in the main region (file 13) -/
def LOG_MEDIUM_FAIL : Evt := ⟨448, false⟩
/-- offset of the failing word in the spare region (file 13) -/
def LOG_STOPPED : Evt := ⟨449, false⟩
/-- step in ms, signed (file 13) -/
def CLOCK_STEP : Evt := ⟨450, false⟩
/-- region: 0 main, 1 spare (file 13) -/
def LOG_WRAPPED : Evt := ⟨451, false⟩
/-- records discarded (file 13) -/
def LOG_CLEARED : Evt := ⟨452, false⟩
/-- slot, copy (file 13) -/
def REC_DISCARDED : Evt := ⟨453, false⟩
/-- slot (file 13) -/
def REC_LOST : Evt := ⟨454, false⟩
/-- ITEM, INSTANCE (file 13) -/
def REC_RESHAPED : Evt := ⟨455, false⟩
/-- new step; cause bits of PWR_STATUS.DIM_CAUSE (file 14) -/
def DIM_STEP : Evt := ⟨464, false⟩
/-- band; voltage in 0.1 V (file 14) -/
def VIN_BAND : Evt := ⟨465, false⟩
/-- old PLL, new PLL; reason: 0 lock, 1 frequency, 2 margin (file 14) -/
def PLL_SWITCH : Evt := ⟨466, false⟩
/-- PLL (file 14) -/
def PLL_SPARE_FAIL : Evt := ⟨467, false⟩
/-- 1 entered, 0 left; exit cause of R407 (file 14) -/
def PARKED : Evt := ⟨468, false⟩
/-- kind; cause; dip length in ms (file 14) -/
def RESET_CAUSE : Evt := ⟨469, false⟩
/-- overrides lost (file 14) -/
def OVERRIDE_LOST : Evt := ⟨470, false⟩
/-- sensor; temperature in 0.1 °C (file 14) -/
def TEMP_WARN : Evt := ⟨471, false⟩
/-- command; reason (file 14) -/
def PWR_CMD_REFUSED : Evt := ⟨472, false⟩
/-- rail: 0 core, 1 I/O, 2 retention; voltage in mV (file 14) -/
def RAIL_WARN : Evt := ⟨473, false⟩
/-- slot (file 15) -/
def KEY_ENROLLED : Evt := ⟨480, false⟩
/-- slot (file 15) -/
def KEY_REMOVED : Evt := ⟨481, false⟩
/-- slot, reason (Table 15-2) (file 15) -/
def KEY_CMD_REFUSED : Evt := ⟨482, false⟩
/-- REPORT_SEQ (file 15) -/
def ATTEST_DONE : Evt := ⟨483, false⟩
/-- reason (file 15) -/
def ATTEST_REFUSED : Evt := ⟨484, false⟩
/-- test: 0 repetition count, 1 adaptive proportion (file 15) -/
def RNG_FAIL : Evt := ⟨485, false⟩
/-- 0 (file 15) -/
def RNG_OK : Evt := ⟨486, false⟩
/-- 0 (file 15) -/
def IDENTITY_FAIL : Evt := ⟨487, false⟩
/-- 1 set, 0 open (file 15) -/
def SW2_CHANGED : Evt := ⟨488, false⟩

end Evt

end Sys2Proof.Machine
end

