-- ==== Sys2Proof/Machine/Regs.lean ====
section
/-! DEFINITION. The register fields of the 8440, one constant per field of the register tables of spec/ (files 01 to 15):
the address, the lowest bit, the width, the access code (R8), the reset value (R10), the retention class (R11) and whether
the value comes from the image (img). A register group takes an index i, counted from 0 in address order. Where the table
gives no number for the reset value, the value is the one log entries 1, 2 and 3 name. -/

namespace Sys2Proof.Machine

/-- Access codes of Table 00-2 (R8). -/
inductive Access where
  | ro | rw | w1c | wo | rws
  deriving DecidableEq, Repr

/-- Retention classes of Table 00-3 (R11). -/
inductive Kept where
  | k | h | w | c
  deriving DecidableEq, Repr

/-- One field of a register table (R7, R8, R10, R11). -/
structure Field where
  /-- register address (Table 01-6) -/
  addr : Nat
  /-- lowest bit -/
  lo : Nat
  /-- width in bits -/
  width : Nat
  /-- access code (R8) -/
  acc : Access
  /-- reset value (R10) -/
  reset : Nat
  /-- retention class (R11) -/
  kept : Kept
  /-- the value comes from the image (R10, R449) -/
  img : Bool
  deriving DecidableEq, Repr

/-- The place of a field among all fields: 32 bits a register. -/
def Field.key (f : Field) : Nat := f.addr * 32 + f.lo

/-- A register or a group of equal registers at a fixed stride. -/
structure RegRow where
  /-- address of the first register -/
  base : Nat
  /-- distance between two registers of the group -/
  stride : Nat
  /-- registers in the group -/
  count : Nat
  /-- the fields of register i -/
  fields : Nat → List Field

namespace Reg

def SEC_PART_ID_PART : Field := ⟨0x0, 16, 16, .ro, 33856, .k, false⟩
def SEC_PART_ID_CODE : Field := ⟨0x0, 8, 8, .ro, 0, .k, false⟩
def SEC_PART_ID_STEPPING : Field := ⟨0x0, 0, 8, .ro, 1, .k, false⟩
def SEC_SERIAL_LO : Field := ⟨0x4, 0, 32, .ro, 0, .k, false⟩
def SEC_SERIAL_HI : Field := ⟨0x8, 0, 32, .ro, 0, .k, false⟩
def IMG_MODULE_STATE_PHASE : Field := ⟨0xc, 0, 3, .ro, 0, .c, false⟩
def IMG_MODULE_STATE_LISTENING : Field := ⟨0xc, 3, 1, .ro, 1, .c, false⟩
def IMG_MODULE_STATE_ROLE : Field := ⟨0xc, 4, 2, .ro, 3, .c, false⟩
def IMG_MODULE_STATE_SAFE_STATE : Field := ⟨0xc, 6, 1, .ro, 1, .c, false⟩
def IMG_MODULE_STATE_DIM : Field := ⟨0xc, 7, 1, .ro, 0, .c, false⟩
def IMG_MODULE_STATE_OVERRIDE_ACTIVE : Field := ⟨0xc, 8, 1, .ro, 0, .c, false⟩
def IMG_MODULE_STATE_SPARE_IN_USE : Field := ⟨0xc, 9, 1, .ro, 0, .w, false⟩
def EVT_GROUP_SUMMARY : Field := ⟨0x10, 0, 8, .ro, 0, .c, false⟩
def IMG_STATUS_LOADED_BANK : Field := ⟨0x10000, 0, 1, .ro, 0, .c, false⟩
def IMG_STATUS_DESIGNATED_BANK : Field := ⟨0x10000, 1, 1, .ro, 0, .k, false⟩
def IMG_STATUS_FALLBACK : Field := ⟨0x10000, 2, 1, .ro, 0, .c, false⟩
def IMG_STATUS_TS_ACTIVE_SLOT : Field := ⟨0x10000, 3, 1, .ro, 0, .w, false⟩
def IMG_STATUS_ATLAS_KEPT : Field := ⟨0x10000, 4, 1, .ro, 0, .c, false⟩
def IMG_STATUS_BANK0_STATE : Field := ⟨0x10000, 8, 3, .ro, 0, .k, false⟩
def IMG_STATUS_BANK1_STATE : Field := ⟨0x10000, 12, 3, .ro, 0, .k, false⟩
def IMG_STATUS_SLOT0_STATE : Field := ⟨0x10000, 16, 3, .ro, 0, .k, false⟩
def IMG_STATUS_SLOT1_STATE : Field := ⟨0x10000, 20, 3, .ro, 0, .k, false⟩
def IMG_STATUS_TS_INCOMING_STATE : Field := ⟨0x10000, 24, 3, .ro, 0, .w, false⟩
def IMG_SEAL_IMAGE_SET_ID : Field := ⟨0x10004, 0, 6, .ro, 0, .c, false⟩
def IMG_SEAL_SWITCH_CODE : Field := ⟨0x10004, 8, 6, .ro, 0, .c, false⟩
def IMG_SEAL_SW1 : Field := ⟨0x10004, 16, 1, .ro, 0, .c, false⟩
def IMG_SEAL_SW2 : Field := ⟨0x10004, 17, 1, .ro, 0, .c, false⟩
def IMG_SEAL_MATCH : Field := ⟨0x10004, 18, 1, .ro, 0, .c, false⟩
def IMG_LOADED_ID_LO : Field := ⟨0x10008, 0, 32, .ro, 0, .c, false⟩
def IMG_LOADED_ID_HI : Field := ⟨0x1000c, 0, 32, .ro, 0, .c, false⟩
def IMG_WRITE_CTRL_CMD : Field := ⟨0x10010, 0, 2, .wo, 0, .c, false⟩
def IMG_WRITE_CTRL_TARGET : Field := ⟨0x10010, 4, 2, .wo, 0, .c, false⟩
def IMG_WRITE_LEN : Field := ⟨0x10014, 0, 32, .rw, 0, .c, false⟩
def IMG_WRITE_DATA : Field := ⟨0x10018, 0, 32, .wo, 0, .c, false⟩
def IMG_WRITE_STATUS_STATE : Field := ⟨0x1001c, 0, 3, .ro, 0, .c, false⟩
def IMG_WRITE_STATUS_TARGET : Field := ⟨0x1001c, 4, 2, .ro, 0, .c, false⟩
def IMG_WRITE_STATUS_OWNER : Field := ⟨0x1001c, 6, 2, .ro, 0, .c, false⟩
def IMG_WRITE_STATUS_ERR : Field := ⟨0x1001c, 8, 8, .ro, 0, .c, false⟩
def IMG_WRITE_STATUS_FOREIGN : Field := ⟨0x1001c, 16, 16, .ro, 0, .c, false⟩
def IMG_WRITE_COUNT : Field := ⟨0x10020, 0, 32, .ro, 0, .c, false⟩
def IMG_ACTIVATE_BANK : Field := ⟨0x10024, 0, 1, .wo, 0, .c, false⟩
def IMG_ACTIVATE_CONFIRM : Field := ⟨0x10024, 16, 16, .wo, 0, .c, false⟩
def IMG_STAGE_CMD : Field := ⟨0x10028, 0, 2, .wo, 0, .c, false⟩
def IMG_STAGE_SLOT : Field := ⟨0x10028, 4, 1, .wo, 0, .c, false⟩
def IMG_STAGE_STATUS_PROGRESS : Field := ⟨0x1002c, 0, 8, .ro, 0, .c, false⟩
def IMG_STAGE_STATUS_ERR : Field := ⟨0x1002c, 8, 8, .ro, 0, .c, false⟩
def IMG_STAGE_STATUS_SLOT : Field := ⟨0x1002c, 16, 1, .ro, 0, .c, false⟩
def IMG_LOAD_TIMES_CTRL_READY_US : Field := ⟨0x10030, 0, 16, .ro, 0, .c, false⟩
def IMG_LOAD_TIMES_ATLAS_READY_MS : Field := ⟨0x10030, 16, 16, .ro, 0, .c, false⟩
def IMG_DIGEST_SEL : Field := ⟨0x10034, 0, 3, .rw, 0, .c, false⟩
def IMG_DIGEST (i : Nat) : Field := ⟨0x10040 + 0x4 * i, 0, 32, .ro, 0, .c, false⟩
def DSP_STATUS_ALLOC_COUNT : Field := ⟨0x20000, 0, 7, .ro, 0, .c, true⟩
def DSP_STATUS_SPARES_FREE : Field := ⟨0x20000, 8, 5, .ro, 0, .c, false⟩
def DSP_STATUS_FENCED : Field := ⟨0x20000, 16, 7, .ro, 0, .k, false⟩
def DSP_STATUS_RELAY_BUSY : Field := ⟨0x20000, 24, 1, .ro, 0, .c, false⟩
def DSP_STATUS_BACKPRESSURE : Field := ⟨0x20000, 25, 1, .ro, 0, .c, false⟩
def DSP_STATUS_FACET_LOST : Field := ⟨0x20000, 26, 1, .ro, 0, .w, false⟩
def DSP_READY_OCC (i : Nat) : Field := ⟨0x20020 + 0x4 * i, 0, 9, .ro, 0, .c, false⟩
def DSP_READY_PEAK (i : Nat) : Field := ⟨0x20020 + 0x4 * i, 16, 9, .ro, 0, .c, false⟩
def DSP_DELAY_TIME_OCC : Field := ⟨0x20040, 0, 10, .ro, 0, .c, false⟩
def DSP_DELAY_TIME_PEAK : Field := ⟨0x20040, 10, 10, .ro, 0, .c, false⟩
def DSP_DELAY_POS_OCC_UP : Field := ⟨0x20044, 0, 10, .ro, 0, .c, false⟩
def DSP_DELAY_POS_OCC_DOWN : Field := ⟨0x20044, 10, 10, .ro, 0, .c, false⟩
def DSP_DELAY_POS_PEAK : Field := ⟨0x20044, 20, 10, .ro, 0, .c, false⟩
def DSP_COLLECT_MAX_BURST : Field := ⟨0x20048, 0, 7, .ro, 0, .c, false⟩
def DSP_COLLECT_MAX_WAIT : Field := ⟨0x20048, 8, 5, .ro, 0, .c, false⟩
def DSP_BP_COUNT_READY_FULL : Field := ⟨0x2004c, 0, 8, .ro, 0, .c, false⟩
def DSP_BP_COUNT_DELAY_FULL : Field := ⟨0x2004c, 8, 8, .ro, 0, .c, false⟩
def DSP_BP_COUNT_TICKS_MERGED : Field := ⟨0x2004c, 16, 8, .ro, 0, .c, false⟩
def DSP_BP_COUNT_DISABLED_HIT : Field := ⟨0x2004c, 24, 4, .ro, 0, .c, false⟩
def DSP_BP_COUNT_DOORBELL_LOST : Field := ⟨0x2004c, 28, 4, .ro, 0, .c, false⟩
def DSP_OVERRUNS : Field := ⟨0x20050, 0, 16, .ro, 0, .c, false⟩
def DSP_PEAK_CLEAR : Field := ⟨0x20054, 0, 1, .wo, 0, .c, false⟩
def DSP_COUNTER_SEL : Field := ⟨0x20060, 0, 12, .rw, 0, .c, false⟩
def DSP_COUNTER_VALUE : Field := ⟨0x20064, 0, 12, .ro, 0, .c, true⟩
def DSP_COUNTER_INITIAL : Field := ⟨0x20064, 16, 12, .ro, 0, .c, true⟩
def DSP_COUNTER_HOST_OK : Field := ⟨0x20064, 28, 1, .ro, 0, .c, true⟩
def DSP_COUNTER_FIRES : Field := ⟨0x20068, 0, 32, .ro, 0, .c, false⟩
def DSP_FLOW_SEL : Field := ⟨0x2006c, 0, 10, .rw, 0, .c, false⟩
def DSP_FLOW_IN_SERVICE : Field := ⟨0x20070, 0, 1, .ro, 0, .c, false⟩
def DSP_FLOW_FACET : Field := ⟨0x20070, 8, 7, .ro, 127, .c, false⟩
def DSP_FLOW_NODE : Field := ⟨0x20070, 16, 12, .ro, 0, .c, false⟩
def DSP_DOORBELL : Field := ⟨0x20078, 0, 12, .wo, 0, .c, false⟩
def DSP_RELAY_CTRL_LOGICAL : Field := ⟨0x20080, 0, 7, .wo, 0, .c, false⟩
def DSP_RELAY_CTRL_CONFIRM : Field := ⟨0x20080, 16, 16, .wo, 0, .c, false⟩
def DSP_RELAY_STATUS_STATE : Field := ⟨0x20084, 0, 3, .ro, 0, .c, false⟩
def DSP_RELAY_STATUS_LOGICAL : Field := ⟨0x20084, 4, 7, .ro, 0, .c, false⟩
def DSP_RELAY_STATUS_FROM_PHYS : Field := ⟨0x20084, 12, 7, .ro, 0, .c, false⟩
def DSP_RELAY_STATUS_TO_PHYS : Field := ⟨0x20084, 20, 7, .ro, 0, .c, false⟩
def DSP_RELAY_STATUS_REASON : Field := ⟨0x20084, 28, 3, .ro, 0, .c, false⟩
def DSP_RELAY_COUNT_RELAYS : Field := ⟨0x20088, 0, 16, .ro, 0, .k, false⟩
def DSP_RELAY_COUNT_FAULT_RELAYS : Field := ⟨0x20088, 16, 16, .ro, 0, .k, false⟩
def DSP_MAP_SEL : Field := ⟨0x20090, 0, 7, .rw, 0, .c, false⟩
def DSP_MAP_PHYS : Field := ⟨0x20094, 0, 7, .ro, 0, .c, false⟩
def DSP_MAP_VALID : Field := ⟨0x20094, 8, 1, .ro, 0, .c, false⟩
def DSP_MAP_RESERVED : Field := ⟨0x20094, 9, 1, .ro, 0, .c, false⟩
def DSP_FENCED (i : Nat) : Field := ⟨0x200a0 + 0x4 * i, 0, 32, .ro, 0, .k, false⟩
def DSP_RELAY_PARAM_MARGIN_WARN : Field := ⟨0x200b0, 0, 8, .ro, 0, .c, true⟩
def DSP_RELAY_PARAM_ERR_RELAY : Field := ⟨0x200b0, 8, 8, .ro, 0, .c, true⟩
def DSP_FCT_STATUS_STATE (i : Nat) : Field := ⟨0x30000 + 0x100 * i, 0, 3, .ro, 0, .c, false⟩
def DSP_FCT_STATUS_INDEX (i : Nat) : Field := ⟨0x30000 + 0x100 * i, 4, 7, .ro, 127, .c, false⟩
def DSP_FCT_STATUS_TEST_PASS (i : Nat) : Field := ⟨0x30000 + 0x100 * i, 16, 1, .ro, 0, .c, false⟩
def DSP_FCT_NODE_NODE (i : Nat) : Field := ⟨0x30004 + 0x100 * i, 0, 12, .ro, 0, .c, false⟩
def DSP_FCT_NODE_RUNNING (i : Nat) : Field := ⟨0x30004 + 0x100 * i, 12, 1, .ro, 0, .c, false⟩
def DSP_FCT_NODE_PREF_NODE (i : Nat) : Field := ⟨0x30004 + 0x100 * i, 16, 12, .ro, 0, .c, false⟩
def DSP_FCT_NODE_PREFETCHED (i : Nat) : Field := ⟨0x30004 + 0x100 * i, 28, 1, .ro, 0, .c, false⟩
def DSP_FCT_CYCLES_LAST (i : Nat) : Field := ⟨0x30008 + 0x100 * i, 0, 16, .ro, 0, .c, false⟩
def DSP_FCT_CYCLES_MAX (i : Nat) : Field := ⟨0x30008 + 0x100 * i, 16, 16, .ro, 0, .c, false⟩
def DSP_FCT_ITEMS (i : Nat) : Field := ⟨0x3000c + 0x100 * i, 0, 32, .ro, 0, .c, false⟩
def DSP_FCT_MARGIN_MARGIN (i : Nat) : Field := ⟨0x30010 + 0x100 * i, 0, 8, .ro, 0, .c, false⟩
def DSP_FCT_MARGIN_MIN (i : Nat) : Field := ⟨0x30010 + 0x100 * i, 8, 8, .ro, 255, .c, false⟩
def DSP_FCT_ECC_CORRECTED (i : Nat) : Field := ⟨0x30014 + 0x100 * i, 0, 16, .ro, 0, .c, false⟩
def DSP_FCT_ECC_UNCORRECTED (i : Nat) : Field := ⟨0x30014 + 0x100 * i, 16, 8, .ro, 0, .c, false⟩
def DSP_FCT_STALL_LAST (i : Nat) : Field := ⟨0x30018 + 0x100 * i, 0, 5, .ro, 0, .c, false⟩
def DSP_FCT_STALL_MAX (i : Nat) : Field := ⟨0x30018 + 0x100 * i, 8, 5, .ro, 0, .c, false⟩
def PFE_STATUS_CONF : Field := ⟨0x40000, 0, 2, .ro, 3, .c, false⟩
def PFE_STATUS_MACH_OK : Field := ⟨0x40000, 2, 1, .ro, 0, .c, false⟩
def PFE_STATUS_SHAFT_OK : Field := ⟨0x40000, 3, 1, .ro, 0, .c, false⟩
def PFE_STATUS_SOURCE : Field := ⟨0x40000, 4, 2, .ro, 2, .c, false⟩
def PFE_STATUS_CAUSE : Field := ⟨0x40000, 8, 8, .ro, 1, .c, false⟩
def PFE_STATUS_INDEX_LOST : Field := ⟨0x40000, 16, 1, .ro, 0, .h, false⟩
def PFE_STATUS_SLIP : Field := ⟨0x40000, 17, 1, .ro, 0, .h, false⟩
def PFE_STATUS_MACH_LOST : Field := ⟨0x40000, 18, 1, .ro, 0, .h, false⟩
def PFE_POS : Field := ⟨0x40004, 0, 32, .ro, 0, .c, false⟩
def PFE_SPEED : Field := ⟨0x40008, 0, 32, .ro, 0, .c, false⟩
def PFE_ACCEL : Field := ⟨0x4000c, 0, 32, .ro, 0, .c, false⟩
def PFE_SAMPLE_TIME : Field := ⟨0x40010, 0, 32, .ro, 0, .c, false⟩
def PFE_OFFSET : Field := ⟨0x40014, 0, 32, .ro, 0, .c, false⟩
def PFE_REF_PENDING : Field := ⟨0x40018, 0, 32, .ro, 0, .c, false⟩
def PFE_SHAFT_POS : Field := ⟨0x4001c, 0, 32, .ro, 0, .c, false⟩
def PFE_LANEB_POS : Field := ⟨0x40020, 0, 32, .ro, 0, .c, false⟩
def PFE_SLIP : Field := ⟨0x40024, 0, 32, .ro, 0, .c, false⟩
def PFE_REF_LAST_ENTRY : Field := ⟨0x40028, 0, 10, .ro, 1023, .c, false⟩
def PFE_REF_LAST_RESULT : Field := ⟨0x40028, 10, 3, .ro, 0, .c, false⟩
def PFE_REF_DEV : Field := ⟨0x4002c, 0, 32, .ro, 0, .c, false⟩
def PFE_MODEL_CFG_MACH_SRC : Field := ⟨0x40040, 0, 2, .ro, 0, .c, true⟩
def PFE_MODEL_CFG_DIR_INV : Field := ⟨0x40040, 2, 1, .ro, 0, .c, true⟩
def PFE_MODEL_CFG_SSI1_EN : Field := ⟨0x40040, 3, 1, .ro, 0, .c, true⟩
def PFE_MODEL_CFG_SPEED_WIN : Field := ⟨0x40040, 8, 8, .ro, 0, .c, true⟩
def PFE_MODEL_CFG_ACC_WIN : Field := ⟨0x40040, 16, 8, .ro, 0, .c, true⟩
def PFE_SCALE_NUM : Field := ⟨0x40044, 0, 32, .ro, 0, .c, true⟩
def PFE_SCALE_DEN : Field := ⟨0x40048, 0, 32, .ro, 0, .c, true⟩
def PFE_SLIP_CFG_SLIP_WARN : Field := ⟨0x4004c, 0, 12, .ro, 0, .c, true⟩
def PFE_SLIP_CFG_SLIP_LIMIT : Field := ⟨0x4004c, 12, 12, .ro, 0, .c, true⟩
def PFE_SLIP_CFG_SLIP_TIME : Field := ⟨0x4004c, 24, 8, .ro, 0, .c, true⟩
def PFE_REF_CFG_REF_SLEW : Field := ⟨0x40050, 0, 8, .ro, 0, .c, true⟩
def PFE_REF_CFG_REF_REJECT_N : Field := ⟨0x40050, 8, 4, .ro, 0, .c, true⟩
def PFE_REF_CFG_REREF_WIN : Field := ⟨0x40050, 16, 16, .ro, 0, .c, true⟩
def PFE_SC_CFG_LINES (i : Nat) : Field := ⟨0x40100 + 0x40 * i, 0, 16, .ro, 0, .c, true⟩
def PFE_SC_CFG_ENABLE (i : Nat) : Field := ⟨0x40100 + 0x40 * i, 16, 1, .ro, 0, .c, true⟩
def PFE_SC_CFG_MARK_EN (i : Nat) : Field := ⟨0x40100 + 0x40 * i, 17, 1, .ro, 0, .c, true⟩
def PFE_SC_CFG_TERM (i : Nat) : Field := ⟨0x40100 + 0x40 * i, 18, 1, .ro, 0, .c, true⟩
def PFE_SC_CFG_SUPPLY_12V (i : Nat) : Field := ⟨0x40100 + 0x40 * i, 19, 1, .ro, 0, .c, true⟩
def PFE_SC_CFG_SUPPLY_ON (i : Nat) : Field := ⟨0x40100 + 0x40 * i, 20, 1, .ro, 0, .c, true⟩
def PFE_SC_STATUS_RADIUS (i : Nat) : Field := ⟨0x40104 + 0x40 * i, 0, 10, .ro, 0, .c, false⟩
def PFE_SC_STATUS_AMP_OUT (i : Nat) : Field := ⟨0x40104 + 0x40 * i, 16, 1, .ro, 0, .c, false⟩
def PFE_SC_STATUS_ILLEGAL (i : Nat) : Field := ⟨0x40104 + 0x40 * i, 17, 1, .w1c, 0, .c, false⟩
def PFE_SC_STATUS_ILL_KIND (i : Nat) : Field := ⟨0x40104 + 0x40 * i, 18, 2, .ro, 0, .c, false⟩
def PFE_SC_STATUS_LOST (i : Nat) : Field := ⟨0x40104 + 0x40 * i, 20, 1, .ro, 0, .h, false⟩
def PFE_SC_STATUS_LINE_RATE (i : Nat) : Field := ⟨0x40104 + 0x40 * i, 21, 1, .w1c, 0, .c, false⟩
def PFE_SC_COUNT_LO (i : Nat) : Field := ⟨0x40108 + 0x40 * i, 0, 32, .ro, 0, .c, false⟩
def PFE_SC_COUNT_HI (i : Nat) : Field := ⟨0x4010c + 0x40 * i, 0, 32, .ro, 0, .c, false⟩
def PFE_SC_INDEX_CFG_INDEX_TOL (i : Nat) : Field := ⟨0x40110 + 0x40 * i, 0, 16, .ro, 0, .c, true⟩
def PFE_SC_INDEX_CFG_INDEX_GOOD (i : Nat) : Field := ⟨0x40110 + 0x40 * i, 16, 4, .ro, 0, .c, true⟩
def PFE_SC_REF_COUNT (i : Nat) : Field := ⟨0x40114 + 0x40 * i, 0, 32, .ro, 0, .c, false⟩
def PFE_SC_INDEX_LAST_D (i : Nat) : Field := ⟨0x40118 + 0x40 * i, 0, 16, .ro, 0, .c, false⟩
def PFE_SC_INDEX_CONSEC (i : Nat) : Field := ⟨0x40118 + 0x40 * i, 16, 2, .ro, 0, .c, false⟩
def PFE_SC_INDEX_COMMITTED (i : Nat) : Field := ⟨0x40118 + 0x40 * i, 18, 1, .ro, 0, .c, false⟩
def PFE_SC_INDEX_MISSING (i : Nat) : Field := ⟨0x40118 + 0x40 * i, 20, 8, .ro, 0, .c, false⟩
def PFE_SC_AMP_CFG_AMP_MIN (i : Nat) : Field := ⟨0x4011c + 0x40 * i, 0, 10, .ro, 0, .c, true⟩
def PFE_SC_AMP_CFG_AMP_MAX (i : Nat) : Field := ⟨0x4011c + 0x40 * i, 10, 10, .ro, 0, .c, true⟩
def PFE_SC_AMP_CFG_AMP_LOSS (i : Nat) : Field := ⟨0x4011c + 0x40 * i, 20, 10, .ro, 0, .c, true⟩
def PFE_SC_CAL_OFS_SIN_OFS (i : Nat) : Field := ⟨0x40120 + 0x40 * i, 0, 16, .ro, 0, .c, false⟩
def PFE_SC_CAL_OFS_COS_OFS (i : Nat) : Field := ⟨0x40120 + 0x40 * i, 16, 16, .ro, 0, .c, false⟩
def PFE_SC_CAL_GP_GAIN (i : Nat) : Field := ⟨0x40124 + 0x40 * i, 0, 16, .ro, 32768, .c, false⟩
def PFE_SC_CAL_GP_PHASE (i : Nat) : Field := ⟨0x40124 + 0x40 * i, 16, 16, .ro, 0, .c, false⟩
def PFE_QD_CFG_FILT (i : Nat) : Field := ⟨0x40200 + 0x20 * i, 0, 8, .ro, 0, .c, true⟩
def PFE_QD_CFG_ENABLE (i : Nat) : Field := ⟨0x40200 + 0x20 * i, 8, 1, .ro, 0, .c, true⟩
def PFE_QD_CFG_INVERT (i : Nat) : Field := ⟨0x40200 + 0x20 * i, 9, 1, .ro, 0, .c, true⟩
def PFE_QD_CFG_DOOR (i : Nat) : Field := ⟨0x40200 + 0x20 * i, 10, 1, .ro, 0, .c, true⟩
def PFE_QD_COUNT (i : Nat) : Field := ⟨0x40204 + 0x20 * i, 0, 32, .ro, 0, .c, false⟩
def PFE_QD_STATUS_LEVELS (i : Nat) : Field := ⟨0x40208 + 0x20 * i, 0, 3, .ro, 0, .c, false⟩
def PFE_QD_STATUS_ILLEGAL (i : Nat) : Field := ⟨0x40208 + 0x20 * i, 3, 1, .w1c, 0, .c, false⟩
def PFE_QD_STATUS_HOMED (i : Nat) : Field := ⟨0x40208 + 0x20 * i, 4, 1, .ro, 0, .c, false⟩
def PFE_QD_STATUS_ILL_COUNT (i : Nat) : Field := ⟨0x40208 + 0x20 * i, 16, 16, .ro, 0, .c, false⟩
def PFE_QD_POS (i : Nat) : Field := ⟨0x4020c + 0x20 * i, 0, 32, .ro, 0, .c, false⟩
def PFE_QD_SCALE (i : Nat) : Field := ⟨0x40210 + 0x20 * i, 0, 32, .ro, 0, .c, true⟩
def PFE_SSI_CFG_CLK_KHZ (i : Nat) : Field := ⟨0x40300 + 0x20 * i, 0, 11, .ro, 0, .c, true⟩
def PFE_SSI_CFG_PERIOD_US (i : Nat) : Field := ⟨0x40300 + 0x20 * i, 12, 10, .ro, 0, .c, true⟩
def PFE_SSI_CFG_MONO_US (i : Nat) : Field := ⟨0x40300 + 0x20 * i, 24, 6, .ro, 0, .c, true⟩
def PFE_SSI_CFG_ENABLE (i : Nat) : Field := ⟨0x40300 + 0x20 * i, 30, 1, .ro, 0, .c, true⟩
def PFE_SSI_FMT_FRAME_LEN (i : Nat) : Field := ⟨0x40304 + 0x20 * i, 0, 6, .ro, 0, .c, true⟩
def PFE_SSI_FMT_DATA_FIRST (i : Nat) : Field := ⟨0x40304 + 0x20 * i, 6, 6, .ro, 0, .c, true⟩
def PFE_SSI_FMT_DATA_BITS (i : Nat) : Field := ⟨0x40304 + 0x20 * i, 12, 5, .ro, 0, .c, true⟩
def PFE_SSI_FMT_GRAY (i : Nat) : Field := ⟨0x40304 + 0x20 * i, 17, 1, .ro, 0, .c, true⟩
def PFE_SSI_FMT_ERR_POS (i : Nat) : Field := ⟨0x40304 + 0x20 * i, 18, 6, .ro, 0, .c, true⟩
def PFE_SSI_FMT_ERR_ACTIVE (i : Nat) : Field := ⟨0x40304 + 0x20 * i, 24, 1, .ro, 0, .c, true⟩
def PFE_SSI_FMT_PAR_POS (i : Nat) : Field := ⟨0x40304 + 0x20 * i, 25, 6, .ro, 0, .c, true⟩
def PFE_SSI_FMT_PAR_ODD (i : Nat) : Field := ⟨0x40304 + 0x20 * i, 31, 1, .ro, 0, .c, true⟩
def PFE_SSI_RAW (i : Nat) : Field := ⟨0x40308 + 0x20 * i, 0, 32, .ro, 0, .c, false⟩
def PFE_SSI_POS (i : Nat) : Field := ⟨0x4030c + 0x20 * i, 0, 32, .ro, 0, .c, false⟩
def PFE_SSI_SCALE (i : Nat) : Field := ⟨0x40310 + 0x20 * i, 0, 32, .ro, 0, .c, true⟩
def PFE_SSI_OFFSET (i : Nat) : Field := ⟨0x40314 + 0x20 * i, 0, 32, .ro, 0, .c, true⟩
def PFE_SSI_STATUS_LAST_ERR (i : Nat) : Field := ⟨0x40318 + 0x20 * i, 0, 3, .ro, 0, .c, false⟩
def PFE_SSI_STATUS_LOST (i : Nat) : Field := ⟨0x40318 + 0x20 * i, 3, 1, .ro, 0, .c, false⟩
def PFE_SSI_STATUS_CONSEC_BAD (i : Nat) : Field := ⟨0x40318 + 0x20 * i, 4, 8, .ro, 0, .c, false⟩
def PFE_SSI_STATUS_BAD_COUNT (i : Nat) : Field := ⟨0x40318 + 0x20 * i, 16, 16, .ro, 0, .c, false⟩
def PFE_SSI_CHECK_JUMP (i : Nat) : Field := ⟨0x4031c + 0x20 * i, 0, 16, .ro, 0, .c, true⟩
def PFE_SSI_CHECK_LATENCY_US (i : Nat) : Field := ⟨0x4031c + 0x20 * i, 16, 8, .ro, 0, .c, true⟩
def PFE_SSI_CHECK_FAIL_N (i : Nat) : Field := ⟨0x4031c + 0x20 * i, 24, 4, .ro, 0, .c, true⟩
def PFE_EMU_CFG_SOURCE (i : Nat) : Field := ⟨0x40380 + 0x10 * i, 0, 4, .ro, 0, .c, true⟩
def PFE_EMU_CFG_ENABLE (i : Nat) : Field := ⟨0x40380 + 0x10 * i, 4, 1, .ro, 0, .c, true⟩
def PFE_EMU_CFG_Z_MODE (i : Nat) : Field := ⟨0x40380 + 0x10 * i, 5, 2, .ro, 0, .c, true⟩
def PFE_EMU_CFG_SWAP (i : Nat) : Field := ⟨0x40380 + 0x10 * i, 7, 1, .ro, 0, .c, true⟩
def PFE_EMU_CFG_Z_PERIOD (i : Nat) : Field := ⟨0x40380 + 0x10 * i, 16, 16, .ro, 0, .c, true⟩
def PFE_EMU_NUM (i : Nat) : Field := ⟨0x40384 + 0x10 * i, 0, 24, .ro, 0, .c, true⟩
def PFE_EMU_DEN (i : Nat) : Field := ⟨0x40388 + 0x10 * i, 0, 24, .ro, 0, .c, true⟩
def PFE_EMU_STATUS_BACKLOG (i : Nat) : Field := ⟨0x4038c + 0x10 * i, 0, 16, .ro, 0, .c, false⟩
def PFE_EMU_STATUS_OVERFLOW (i : Nat) : Field := ⟨0x4038c + 0x10 * i, 16, 1, .w1c, 0, .c, false⟩
def PFE_EMU_STATUS_MAX_BACKLOG (i : Nat) : Field := ⟨0x4038c + 0x10 * i, 24, 8, .ro, 0, .c, false⟩
def RET_STATUS_CAR_ARMED : Field := ⟨0x50000, 0, 9, .ro, 0, .c, false⟩
def RET_STATUS_CAR_STAGED : Field := ⟨0x50000, 9, 1, .ro, 0, .c, false⟩
def RET_STATUS_CAR_LOADING : Field := ⟨0x50000, 10, 1, .ro, 0, .c, false⟩
def RET_STATUS_DOOR_STAGED : Field := ⟨0x50000, 16, 4, .ro, 0, .c, false⟩
def RET_STATUS_DOOR_LOADING : Field := ⟨0x50000, 20, 4, .ro, 0, .c, false⟩
def RET_STATUS_DOOR_HOMED : Field := ⟨0x50000, 24, 4, .ro, 0, .c, false⟩
def RET_CAR_PROG : Field := ⟨0x50004, 0, 32, .ro, 0, .c, false⟩
def RET_CAR_STAGE_PROG : Field := ⟨0x50008, 0, 32, .ro, 0, .c, false⟩
def RET_DOOR_PROG (i : Nat) : Field := ⟨0x50010 + 0x4 * i, 0, 32, .ro, 0, .c, false⟩
def RET_DOOR_STAGE_PROG (i : Nat) : Field := ⟨0x50020 + 0x4 * i, 0, 32, .ro, 0, .c, false⟩
def RET_CAR_ARMED (i : Nat) : Field := ⟨0x50040 + 0x4 * i, 0, 32, .ro, 0, .c, false⟩
def RET_CAR_FIRED (i : Nat) : Field := ⟨0x50060 + 0x4 * i, 0, 32, .ro, 0, .c, false⟩
def RET_DOOR_ARMED (i : Nat) : Field := ⟨0x50080 + 0x4 * i, 0, 32, .ro, 0, .c, false⟩
def RET_FIRE_COUNT : Field := ⟨0x500a0, 0, 32, .ro, 0, .c, false⟩
def RET_EXC_COUNT_WITHHELD : Field := ⟨0x500a4, 0, 8, .ro, 0, .c, false⟩
def RET_EXC_COUNT_LATE : Field := ⟨0x500a4, 8, 8, .ro, 0, .c, false⟩
def RET_EXC_COUNT_CONFLICT : Field := ⟨0x500a4, 16, 8, .ro, 0, .c, false⟩
def RET_EXC_COUNT_POST_LOST : Field := ⟨0x500a4, 24, 8, .ro, 0, .c, false⟩
def RET_POST_PENDING : Field := ⟨0x500a8, 0, 10, .ro, 0, .c, false⟩
def RET_POST_PEAK : Field := ⟨0x500a8, 16, 10, .ro, 0, .c, false⟩
def RET_LAST_SLOT : Field := ⟨0x500ac, 0, 8, .ro, 0, .c, false⟩
def RET_LAST_SET : Field := ⟨0x500ac, 8, 3, .ro, 0, .c, false⟩
def RET_LAST_LATE : Field := ⟨0x500ac, 11, 1, .ro, 0, .c, false⟩
def RET_LAST_TAG : Field := ⟨0x500ac, 16, 16, .ro, 0, .c, false⟩
def RET_MARK_SEL_SLOT : Field := ⟨0x500b0, 0, 8, .rw, 0, .c, false⟩
def RET_MARK_SEL_SET : Field := ⟨0x500b0, 8, 3, .rw, 0, .c, false⟩
def RET_MARK_SEL_STAGING : Field := ⟨0x500b0, 12, 1, .rw, 0, .c, false⟩
def RET_MARK_THRESH : Field := ⟨0x500b4, 0, 32, .ro, 0, .c, false⟩
def RET_MARK_FLAGS_FLAGS : Field := ⟨0x500b8, 0, 8, .ro, 0, .c, false⟩
def RET_MARK_FLAGS_PRIO : Field := ⟨0x500b8, 8, 3, .ro, 0, .c, false⟩
def RET_MARK_FLAGS_ARMED : Field := ⟨0x500b8, 11, 1, .ro, 0, .c, false⟩
def RET_MARK_FLAGS_SIDE : Field := ⟨0x500b8, 12, 1, .ro, 0, .c, false⟩
def RET_MARK_FLAGS_TAG : Field := ⟨0x500b8, 16, 16, .ro, 0, .c, false⟩
def RET_MARK_ACTION : Field := ⟨0x500bc, 0, 32, .ro, 0, .c, false⟩
def RET_STAT_CLEAR : Field := ⟨0x500c0, 0, 1, .wo, 0, .c, false⟩
def RET_CAP_SEL : Field := ⟨0x500c4, 0, 3, .rw, 0, .c, false⟩
def RET_CAP_POS : Field := ⟨0x500c8, 0, 32, .ro, 0, .c, false⟩
def RET_CAP_SPEED : Field := ⟨0x500cc, 0, 32, .ro, 0, .c, false⟩
def RET_CAP_TIME : Field := ⟨0x500d0, 0, 32, .ro, 0, .c, false⟩
def RET_CAP_INFO_SLOT : Field := ⟨0x500d4, 0, 8, .ro, 0, .c, false⟩
def RET_CAP_INFO_SET : Field := ⟨0x500d4, 8, 3, .ro, 0, .c, false⟩
def RET_CAP_INFO_LATE : Field := ⟨0x500d4, 11, 1, .ro, 0, .c, false⟩
def RET_CAP_INFO_OVERWRITTEN : Field := ⟨0x500d4, 12, 1, .ro, 0, .c, false⟩
def RET_CAP_INFO_VALID : Field := ⟨0x500d4, 13, 1, .ro, 0, .c, false⟩
def RET_CAP_INFO_TAG : Field := ⟨0x500d4, 16, 16, .ro, 0, .c, false⟩
def TRIP_STATUS_STATE : Field := ⟨0x60000, 0, 3, .ro, 0, .c, false⟩
def TRIP_STATUS_DIR : Field := ⟨0x60000, 3, 1, .ro, 0, .c, false⟩
def TRIP_STATUS_SEG : Field := ⟨0x60000, 4, 4, .ro, 0, .c, false⟩
def TRIP_STATUS_KIND : Field := ⟨0x60000, 8, 3, .ro, 0, .c, false⟩
def TRIP_STATUS_LOAD_CLASS : Field := ⟨0x60000, 11, 2, .ro, 0, .c, false⟩
def TRIP_STATUS_PROFILE : Field := ⟨0x60000, 13, 1, .ro, 0, .c, false⟩
def TRIP_STATUS_CONTINUATION : Field := ⟨0x60000, 14, 1, .ro, 0, .c, false⟩
def TRIP_STATUS_FINISH : Field := ⟨0x60000, 15, 1, .ro, 0, .c, false⟩
def TRIP_STATUS_STOP_CAUSE : Field := ⟨0x60000, 16, 4, .ro, 0, .c, false⟩
def TRIP_STATUS_TRIP_LIMIT : Field := ⟨0x60000, 20, 1, .ro, 0, .h, false⟩
def TRIP_STATUS_FULL_ATLAS : Field := ⟨0x60000, 21, 1, .ro, 0, .c, false⟩
def TRIP_STATUS_CAR_STOP : Field := ⟨0x60000, 24, 8, .ro, 0, .c, false⟩
def TRIP_ID : Field := ⟨0x60004, 0, 32, .ro, 0, .c, false⟩
def TRIP_TARGET_TARGET : Field := ⟨0x60008, 0, 8, .ro, 0, .c, false⟩
def TRIP_TARGET_ORIGIN : Field := ⟨0x60008, 8, 8, .ro, 0, .c, false⟩
def TRIP_TARGET_BIN : Field := ⟨0x60008, 16, 6, .ro, 0, .c, false⟩
def TRIP_TARGET_PEAK_BIN : Field := ⟨0x60008, 24, 6, .ro, 0, .c, false⟩
def TRIP_DEST_POS : Field := ⟨0x6000c, 0, 32, .ro, 0, .c, false⟩
def TRIP_REF_POS : Field := ⟨0x60010, 0, 32, .ro, 0, .c, false⟩
def TRIP_REF_SPEED : Field := ⟨0x60014, 0, 32, .ro, 0, .c, false⟩
def TRIP_REF_ACCEL : Field := ⟨0x60018, 0, 32, .ro, 0, .c, false⟩
def TRIP_SEG_TIME : Field := ⟨0x6001c, 0, 32, .ro, 0, .c, false⟩
def TRIP_SPLICE_CAR_STOP : Field := ⟨0x60020, 0, 8, .ro, 0, .c, false⟩
def TRIP_SPLICE_STATE : Field := ⟨0x60020, 8, 3, .ro, 0, .c, false⟩
def TRIP_SPLICE_ALT : Field := ⟨0x60020, 11, 1, .ro, 0, .c, false⟩
def TRIP_SPLICE_C : Field := ⟨0x60024, 0, 32, .ro, 0, .c, false⟩
def TRIP_SPLICE_X : Field := ⟨0x60028, 0, 32, .ro, 0, .c, false⟩
def TRIP_V_LIM : Field := ⟨0x60030, 0, 32, .ro, 0, .c, true⟩
def TRIP_A_LIM : Field := ⟨0x60034, 0, 32, .ro, 0, .c, true⟩
def TRIP_J_LIM : Field := ⟨0x60038, 0, 32, .ro, 0, .c, true⟩
def TRIP_TOL_P_TOL : Field := ⟨0x6003c, 0, 12, .ro, 0, .c, true⟩
def TRIP_TOL_V_TOL : Field := ⟨0x6003c, 12, 10, .ro, 0, .c, true⟩
def TRIP_TOL_A_TOL : Field := ⟨0x6003c, 22, 10, .ro, 0, .c, true⟩
def TRIP_LIMIT_STATUS_LAST : Field := ⟨0x60040, 0, 3, .ro, 0, .c, false⟩
def TRIP_LIMIT_STATUS_CONT : Field := ⟨0x60040, 3, 1, .w1c, 0, .c, false⟩
def TRIP_LIMIT_STATUS_LIMIT_N : Field := ⟨0x60040, 4, 4, .ro, 0, .c, true⟩
def TRIP_LIMIT_STATUS_VIOLATIONS : Field := ⟨0x60040, 8, 16, .ro, 0, .c, false⟩
def TRIP_STOPS_COUNT : Field := ⟨0x60050, 0, 7, .ro, 0, .c, false⟩
def TRIP_STOPS_NEXT : Field := ⟨0x60050, 8, 8, .ro, 0, .c, false⟩
def TRIP_STOP_SEL : Field := ⟨0x60054, 0, 6, .rw, 0, .c, false⟩
def TRIP_STOP_ENTRY_LANDING : Field := ⟨0x60058, 0, 8, .ro, 0, .c, false⟩
def TRIP_STOP_ENTRY_DECK : Field := ⟨0x60058, 8, 1, .ro, 0, .c, false⟩
def TRIP_STOP_ENTRY_DOORS : Field := ⟨0x60058, 9, 2, .ro, 0, .c, false⟩
def TRIP_STOP_ENTRY_PROFILE : Field := ⟨0x60058, 11, 1, .ro, 0, .c, false⟩
def TRIP_STOP_ENTRY_STATE : Field := ⟨0x60058, 12, 2, .ro, 0, .c, false⟩
def TRIP_STOP_ENTRY_REQ_ID : Field := ⟨0x60058, 16, 16, .ro, 0, .c, false⟩
def TRIP_REQ_COUNT_RUN : Field := ⟨0x6005c, 0, 8, .ro, 0, .c, false⟩
def TRIP_REQ_COUNT_QUEUED : Field := ⟨0x6005c, 8, 8, .ro, 0, .c, false⟩
def TRIP_REQ_COUNT_REFUSED : Field := ⟨0x6005c, 16, 8, .ro, 0, .c, false⟩
def TRIP_REQ_COUNT_DEMOTED : Field := ⟨0x6005c, 24, 8, .ro, 0, .c, false⟩
def TRIP_SEP_STATUS_NBR_UP : Field := ⟨0x60060, 0, 8, .ro, 0, .c, true⟩
def TRIP_SEP_STATUS_NBR_DOWN : Field := ⟨0x60060, 8, 8, .ro, 0, .c, true⟩
def TRIP_SEP_STATUS_UP_STATE : Field := ⟨0x60060, 16, 2, .ro, 0, .c, false⟩
def TRIP_SEP_STATUS_DOWN_STATE : Field := ⟨0x60060, 18, 2, .ro, 0, .c, false⟩
def TRIP_SEP_STATUS_WAIT : Field := ⟨0x60060, 20, 1, .ro, 0, .c, false⟩
def TRIP_SEP_GAP_UP : Field := ⟨0x60064, 0, 32, .ro, 0, .c, false⟩
def TRIP_SEP_GAP_DOWN : Field := ⟨0x60068, 0, 32, .ro, 0, .c, false⟩
def TRIP_SEP_CFG_SEP_MARGIN : Field := ⟨0x6006c, 0, 16, .ro, 0, .c, true⟩
def TRIP_SEP_CFG_SEP_CLEAR_MS : Field := ⟨0x6006c, 16, 16, .ro, 0, .c, true⟩
def TRIP_SEP_COUNT_STOPS : Field := ⟨0x60070, 0, 16, .ro, 0, .c, false⟩
def TRIP_SEP_COUNT_HARD : Field := ⟨0x60070, 16, 16, .ro, 0, .c, false⟩
def TRIP_CMD_CMD : Field := ⟨0x60080, 0, 2, .wo, 0, .c, false⟩
def TRIP_CMD_DIR : Field := ⟨0x60080, 4, 2, .wo, 0, .c, false⟩
def TRIP_CMD_CONFIRM : Field := ⟨0x60080, 16, 16, .wo, 0, .c, false⟩
def TRIP_OOS_CAUSES : Field := ⟨0x60084, 0, 6, .ro, 0, .c, false⟩
def TRIP_OOS_LAST : Field := ⟨0x60084, 8, 3, .ro, 0, .c, false⟩
def TRIP_OOS_BT_PENDING : Field := ⟨0x60084, 16, 1, .ro, 0, .c, false⟩
def LOOP_STATUS_IN_USE : Field := ⟨0x70000, 0, 6, .ro, 0, .c, true⟩
def LOOP_STATUS_FAULT : Field := ⟨0x70000, 8, 6, .ro, 0, .h, false⟩
def LOOP_STATUS_SPARES : Field := ⟨0x70000, 16, 3, .ro, 0, .c, false⟩
def LOOP_STATUS_CHECK_LOOP : Field := ⟨0x70000, 20, 3, .ro, 7, .c, false⟩
def LOOP_STATUS_CMD_REFUSED : Field := ⟨0x70000, 24, 1, .w1c, 0, .c, false⟩
def LOOP_MAP : Field := ⟨0x70004, 0, 24, .ro, 16777215, .c, false⟩
def LOOP_FENCED : Field := ⟨0x70008, 0, 7, .ro, 0, .k, false⟩
def LOOP_SUBST_COUNT_SUBST : Field := ⟨0x7000c, 0, 16, .ro, 0, .k, false⟩
def LOOP_SUBST_COUNT_MISMATCH : Field := ⟨0x7000c, 16, 16, .ro, 0, .c, false⟩
def LOOP_CMD_LOOP : Field := ⟨0x70010, 0, 3, .wo, 0, .c, false⟩
def LOOP_CMD_CMD : Field := ⟨0x70010, 4, 2, .wo, 0, .c, false⟩
def LOOP_CMD_CONFIRM : Field := ⟨0x70010, 16, 16, .wo, 0, .c, false⟩
def LOOP_CFG_MODE (i : Nat) : Field := ⟨0x70100 + 0x80 * i, 0, 4, .ro, 0, .c, false⟩
def LOOP_CFG_OUT (i : Nat) : Field := ⟨0x70100 + 0x80 * i, 4, 3, .ro, 0, .c, true⟩
def LOOP_CFG_N1_EN (i : Nat) : Field := ⟨0x70100 + 0x80 * i, 8, 1, .ro, 0, .c, true⟩
def LOOP_CFG_N2_EN (i : Nat) : Field := ⟨0x70100 + 0x80 * i, 9, 1, .ro, 0, .c, true⟩
def LOOP_KP (i : Nat) : Field := ⟨0x70104 + 0x80 * i, 0, 32, .ro, 0, .c, true⟩
def LOOP_KV (i : Nat) : Field := ⟨0x70108 + 0x80 * i, 0, 32, .ro, 0, .c, true⟩
def LOOP_KI (i : Nat) : Field := ⟨0x7010c + 0x80 * i, 0, 32, .ro, 0, .c, true⟩
def LOOP_KVF (i : Nat) : Field := ⟨0x70110 + 0x80 * i, 0, 32, .ro, 0, .c, true⟩
def LOOP_KAF (i : Nat) : Field := ⟨0x70114 + 0x80 * i, 0, 32, .ro, 0, .c, true⟩
def LOOP_V_CMD_LIM (i : Nat) : Field := ⟨0x70118 + 0x80 * i, 0, 32, .ro, 0, .c, true⟩
def LOOP_I_LIM (i : Nat) : Field := ⟨0x7011c + 0x80 * i, 0, 32, .ro, 0, .c, true⟩
def LOOP_T_LIM_POS (i : Nat) : Field := ⟨0x70120 + 0x80 * i, 0, 32, .ro, 0, .c, true⟩
def LOOP_T_LIM_NEG (i : Nat) : Field := ⟨0x70124 + 0x80 * i, 0, 32, .ro, 0, .c, true⟩
def LOOP_FE_CFG_FE_LIMIT (i : Nat) : Field := ⟨0x70128 + 0x80 * i, 0, 24, .ro, 0, .c, true⟩
def LOOP_FE_CFG_FE_TIME (i : Nat) : Field := ⟨0x70128 + 0x80 * i, 24, 8, .ro, 0, .c, true⟩
def LOOP_FE_WARN (i : Nat) : Field := ⟨0x7012c + 0x80 * i, 0, 24, .ro, 0, .c, true⟩
def LOOP_SHAFT_SCALE (i : Nat) : Field := ⟨0x70130 + 0x80 * i, 0, 16, .ro, 0, .c, true⟩
def LOOP_NOTCH_SEL_NOTCH (i : Nat) : Field := ⟨0x70134 + 0x80 * i, 0, 1, .rw, 0, .c, false⟩
def LOOP_NOTCH_SEL_COEF (i : Nat) : Field := ⟨0x70134 + 0x80 * i, 1, 3, .rw, 0, .c, false⟩
def LOOP_NOTCH_COEF (i : Nat) : Field := ⟨0x70138 + 0x80 * i, 0, 32, .ro, 0, .c, true⟩
def LOOP_ERR_POS (i : Nat) : Field := ⟨0x70140 + 0x80 * i, 0, 32, .ro, 0, .c, false⟩
def LOOP_V_CMD (i : Nat) : Field := ⟨0x70144 + 0x80 * i, 0, 32, .ro, 0, .c, false⟩
def LOOP_INTEGRATOR (i : Nat) : Field := ⟨0x70148 + 0x80 * i, 0, 32, .ro, 0, .c, false⟩
def LOOP_OUTPUT (i : Nat) : Field := ⟨0x7014c + 0x80 * i, 0, 32, .ro, 0, .c, false⟩
def LOOP_STATE_LIMITED (i : Nat) : Field := ⟨0x70150 + 0x80 * i, 0, 1, .ro, 0, .c, false⟩
def LOOP_STATE_I_CLAMPED (i : Nat) : Field := ⟨0x70150 + 0x80 * i, 1, 1, .ro, 0, .c, false⟩
def LOOP_STATE_FE_RUNNING (i : Nat) : Field := ⟨0x70150 + 0x80 * i, 2, 1, .ro, 0, .c, false⟩
def LOOP_STATE_FOLLOW_ERR (i : Nat) : Field := ⟨0x70150 + 0x80 * i, 3, 1, .ro, 0, .h, false⟩
def LOOP_STATE_LOOP_LOST (i : Nat) : Field := ⟨0x70150 + 0x80 * i, 4, 1, .ro, 0, .w, false⟩
def LOOP_STATE_FE_TIMER (i : Nat) : Field := ⟨0x70150 + 0x80 * i, 8, 8, .ro, 0, .c, false⟩
def LOOP_STATE_LIMITED_COUNT (i : Nat) : Field := ⟨0x70150 + 0x80 * i, 16, 16, .ro, 0, .c, false⟩
def LOOP_FE_PEAK (i : Nat) : Field := ⟨0x70154 + 0x80 * i, 0, 32, .ro, 0, .c, false⟩
def LOOP_PRETORQUE_0 (i : Nat) : Field := ⟨0x70158 + 0x80 * i, 0, 32, .ro, 0, .c, true⟩
def LOOP_PRETORQUE_1 (i : Nat) : Field := ⟨0x7015c + 0x80 * i, 0, 32, .ro, 0, .c, true⟩
def LOOP_PRETORQUE_2 (i : Nat) : Field := ⟨0x70160 + 0x80 * i, 0, 32, .ro, 0, .c, true⟩
def LOOP_PRETORQUE_3 (i : Nat) : Field := ⟨0x70164 + 0x80 * i, 0, 32, .ro, 0, .c, true⟩
def LOOP_DOOR_CFG_CHANNEL (i : Nat) : Field := ⟨0x70400 + 0x40 * i, 0, 3, .ro, 0, .c, true⟩
def LOOP_DOOR_CFG_DECK (i : Nat) : Field := ⟨0x70400 + 0x40 * i, 3, 1, .ro, 0, .c, true⟩
def LOOP_DOOR_CFG_SIDE (i : Nat) : Field := ⟨0x70400 + 0x40 * i, 4, 1, .ro, 0, .c, true⟩
def LOOP_DOOR_CFG_DIR_INV (i : Nat) : Field := ⟨0x70400 + 0x40 * i, 5, 1, .ro, 0, .c, true⟩
def LOOP_DOOR_CFG_LC_INPUT (i : Nat) : Field := ⟨0x70400 + 0x40 * i, 8, 8, .ro, 0, .c, true⟩
def LOOP_DOOR_CFG_EDGE_INPUT (i : Nat) : Field := ⟨0x70400 + 0x40 * i, 16, 8, .ro, 0, .c, true⟩
def LOOP_DOOR_CFG_CLOSED_INPUT (i : Nat) : Field := ⟨0x70400 + 0x40 * i, 24, 8, .ro, 0, .c, true⟩
def LOOP_DOOR_PWM_FS (i : Nat) : Field := ⟨0x70404 + 0x40 * i, 0, 32, .ro, 0, .c, true⟩
def LOOP_DOOR_LIM_DUTY_MAX (i : Nat) : Field := ⟨0x70408 + 0x40 * i, 0, 12, .ro, 0, .c, true⟩
def LOOP_DOOR_LIM_KE_N (i : Nat) : Field := ⟨0x70408 + 0x40 * i, 12, 4, .ro, 0, .c, true⟩
def LOOP_DOOR_LIM_KE_TRIP (i : Nat) : Field := ⟨0x70408 + 0x40 * i, 16, 8, .ro, 0, .c, true⟩
def LOOP_DOOR_LIM_DOOR_SPEED_WIN (i : Nat) : Field := ⟨0x70408 + 0x40 * i, 24, 8, .ro, 0, .c, true⟩
def LOOP_DOOR_STATUS_STATE (i : Nat) : Field := ⟨0x7040c + 0x40 * i, 0, 3, .ro, 0, .c, false⟩
def LOOP_DOOR_STATUS_DOOR_FAULT (i : Nat) : Field := ⟨0x7040c + 0x40 * i, 3, 1, .ro, 0, .h, false⟩
def LOOP_DOOR_STATUS_CAUSE (i : Nat) : Field := ⟨0x7040c + 0x40 * i, 4, 3, .ro, 0, .h, false⟩
def LOOP_DOOR_STATUS_REV_COUNT (i : Nat) : Field := ⟨0x7040c + 0x40 * i, 8, 2, .ro, 0, .c, false⟩
def LOOP_DOOR_STATUS_DECK_HOLD (i : Nat) : Field := ⟨0x7040c + 0x40 * i, 10, 1, .ro, 0, .c, false⟩
def LOOP_DOOR_STATUS_LC (i : Nat) : Field := ⟨0x7040c + 0x40 * i, 11, 1, .ro, 0, .c, false⟩
def LOOP_DOOR_STATUS_EDGE (i : Nat) : Field := ⟨0x7040c + 0x40 * i, 12, 1, .ro, 0, .c, false⟩
def LOOP_DOOR_STATUS_EN (i : Nat) : Field := ⟨0x7040c + 0x40 * i, 13, 1, .ro, 0, .c, false⟩
def LOOP_DOOR_STATUS_PROFILE (i : Nat) : Field := ⟨0x7040c + 0x40 * i, 16, 12, .ro, 0, .c, false⟩
def LOOP_DOOR_SPEED (i : Nat) : Field := ⟨0x70410 + 0x40 * i, 0, 32, .ro, 0, .c, false⟩
def LOOP_DOOR_FORCE (i : Nat) : Field := ⟨0x70414 + 0x40 * i, 0, 32, .ro, 0, .c, false⟩
def LOOP_DOOR_OBS_SOURCE (i : Nat) : Field := ⟨0x70418 + 0x40 * i, 0, 2, .ro, 0, .c, false⟩
def LOOP_DOOR_OBS_REVERSALS (i : Nat) : Field := ⟨0x70418 + 0x40 * i, 8, 8, .ro, 0, .c, false⟩
def LOOP_DOOR_OBS_POS_MM (i : Nat) : Field := ⟨0x70418 + 0x40 * i, 16, 16, .ro, 0, .c, false⟩
def LOOP_DOOR_KE_KE (i : Nat) : Field := ⟨0x7041c + 0x40 * i, 0, 16, .ro, 0, .c, false⟩
def LOOP_DOOR_KE_PEAK (i : Nat) : Field := ⟨0x7041c + 0x40 * i, 16, 16, .ro, 0, .c, false⟩
def LOOP_DOOR_DUTY_DUTY (i : Nat) : Field := ⟨0x70420 + 0x40 * i, 0, 12, .ro, 0, .c, false⟩
def LOOP_DOOR_DUTY_DIR (i : Nat) : Field := ⟨0x70420 + 0x40 * i, 12, 1, .ro, 0, .c, false⟩
def LOOP_DECK_CFG_CHANNEL : Field := ⟨0x70500, 0, 3, .ro, 0, .c, true⟩
def LOOP_DECK_CFG_REF_INPUT : Field := ⟨0x70500, 8, 8, .ro, 0, .c, true⟩
def LOOP_DECK_CFG_DECK_TOL : Field := ⟨0x70500, 16, 16, .ro, 0, .c, true⟩
def LOOP_DECK_REF_POS : Field := ⟨0x70504, 0, 32, .ro, 0, .c, true⟩
def LOOP_DECK_SCALE : Field := ⟨0x70508, 0, 32, .ro, 0, .c, true⟩
def LOOP_DECK_STATUS_HOMED : Field := ⟨0x7050c, 0, 1, .ro, 0, .c, false⟩
def LOOP_DECK_STATUS_IN_POSITION : Field := ⟨0x7050c, 1, 1, .ro, 0, .c, false⟩
def LOOP_DECK_STATUS_MOVING : Field := ⟨0x7050c, 2, 1, .ro, 0, .c, false⟩
def LOOP_DECK_STATUS_DECK_FAULT : Field := ⟨0x7050c, 3, 1, .ro, 0, .h, false⟩
def LOOP_DECK_STATUS_CAUSE : Field := ⟨0x7050c, 4, 3, .ro, 0, .h, false⟩
def LOOP_DECK_STATUS_FROM : Field := ⟨0x7050c, 8, 4, .ro, 0, .c, false⟩
def LOOP_DECK_STATUS_TO : Field := ⟨0x7050c, 12, 4, .ro, 0, .c, false⟩
def LOOP_DECK_POS : Field := ⟨0x70510, 0, 32, .ro, 0, .c, false⟩
def LOOP_DECK_TARGET : Field := ⟨0x70514, 0, 32, .ro, 0, .c, false⟩
def LOOP_DL_CFG_NODE1_EN : Field := ⟨0x70600, 0, 1, .ro, 0, .c, true⟩
def LOOP_DL_CFG_NODE2_EN : Field := ⟨0x70600, 1, 1, .ro, 0, .c, true⟩
def LOOP_DL_CFG_DL_FAIL_N : Field := ⟨0x70600, 4, 4, .ro, 0, .c, true⟩
def LOOP_DL_STATUS_1_STATUS : Field := ⟨0x70604, 0, 8, .ro, 0, .c, false⟩
def LOOP_DL_STATUS_1_DRIVELINK_LOST : Field := ⟨0x70604, 8, 1, .ro, 0, .h, false⟩
def LOOP_DL_STATUS_1_DRIVE_FAULT : Field := ⟨0x70604, 9, 1, .ro, 0, .h, false⟩
def LOOP_DL_STATUS_1_CONSEC_BAD : Field := ⟨0x70604, 12, 4, .ro, 0, .c, false⟩
def LOOP_DL_STATUS_1_FAULT_CODE : Field := ⟨0x70604, 16, 8, .ro, 0, .c, false⟩
def LOOP_DL_STATUS_1_TEMP : Field := ⟨0x70604, 24, 8, .ro, 0, .c, false⟩
def LOOP_DL_STATUS_2_STATUS : Field := ⟨0x70608, 0, 8, .ro, 0, .c, false⟩
def LOOP_DL_STATUS_2_DRIVELINK_LOST : Field := ⟨0x70608, 8, 1, .ro, 0, .h, false⟩
def LOOP_DL_STATUS_2_DRIVE_FAULT : Field := ⟨0x70608, 9, 1, .ro, 0, .h, false⟩
def LOOP_DL_STATUS_2_CONSEC_BAD : Field := ⟨0x70608, 12, 4, .ro, 0, .c, false⟩
def LOOP_DL_STATUS_2_FAULT_CODE : Field := ⟨0x70608, 16, 8, .ro, 0, .c, false⟩
def LOOP_DL_STATUS_2_TEMP : Field := ⟨0x70608, 24, 8, .ro, 0, .c, false⟩
def LOOP_DL_TORQUE_1 : Field := ⟨0x7060c, 0, 32, .ro, 0, .c, false⟩
def LOOP_DL_TORQUE_2 : Field := ⟨0x70610, 0, 32, .ro, 0, .c, false⟩
def LOOP_DL_ERRORS_NODE1 : Field := ⟨0x70614, 0, 16, .ro, 0, .c, false⟩
def LOOP_DL_ERRORS_NODE2 : Field := ⟨0x70614, 16, 16, .ro, 0, .c, false⟩
def LOOP_DL_DCBUS_NODE1 : Field := ⟨0x70618, 0, 16, .ro, 0, .c, false⟩
def LOOP_DL_DCBUS_NODE2 : Field := ⟨0x70618, 16, 16, .ro, 0, .c, false⟩
def LOOP_AO_FS1 : Field := ⟨0x70680, 0, 32, .ro, 0, .c, true⟩
def LOOP_AO_FS2 : Field := ⟨0x70684, 0, 32, .ro, 0, .c, true⟩
def LOOP_AO_CODE_AO1 : Field := ⟨0x70688, 0, 16, .ro, 0, .c, false⟩
def LOOP_AO_CODE_AO2 : Field := ⟨0x70688, 16, 16, .ro, 0, .c, false⟩
def SAF_STATUS_SAFE_STATE : Field := ⟨0x80000, 0, 1, .ro, 1, .c, false⟩
def SAF_STATUS_PAIRED : Field := ⟨0x80000, 1, 1, .ro, 0, .c, false⟩
def SAF_STATUS_PRISM_LINK : Field := ⟨0x80000, 2, 1, .ro, 0, .h, false⟩
def SAF_STATUS_LANE_CLOCK : Field := ⟨0x80000, 3, 1, .ro, 0, .h, false⟩
def SAF_STATUS_PARAM_MISMATCH : Field := ⟨0x80000, 4, 1, .ro, 0, .h, false⟩
def SAF_STATUS_PERM_MISMATCH : Field := ⟨0x80000, 5, 1, .ro, 0, .h, false⟩
def SAF_STATUS_OUT_CMD_MISMATCH : Field := ⟨0x80000, 6, 1, .ro, 0, .h, false⟩
def SAF_STATUS_LANE_POS_DIFF : Field := ⟨0x80000, 7, 1, .ro, 0, .h, false⟩
def SAF_STATUS_SAFETY_SET_LOAD : Field := ⟨0x80000, 8, 1, .ro, 0, .h, false⟩
def SAF_STATUS_SAFETY_SET_MISMATCH : Field := ⟨0x80000, 9, 1, .ro, 0, .h, false⟩
def SAF_STATUS_SWITCH_CHANGED : Field := ⟨0x80000, 10, 1, .ro, 0, .c, false⟩
def SAF_STATUS_SWITCH_DISAGREE : Field := ⟨0x80000, 11, 1, .ro, 0, .c, false⟩
def SAF_STATUS_POS_SINGLE : Field := ⟨0x80000, 12, 1, .ro, 0, .c, false⟩
def SAF_STATUS_RWS_REFUSED : Field := ⟨0x80000, 13, 1, .w1c, 0, .c, false⟩
def SAF_STATUS_OVERRIDE : Field := ⟨0x80000, 14, 1, .ro, 0, .c, false⟩
def SAF_STATUS_HELD : Field := ⟨0x80000, 16, 10, .ro, 1023, .c, false⟩
def SAF_PERIOD : Field := ⟨0x80004, 0, 32, .ro, 0, .c, false⟩
def SAF_PRISM_SEQ : Field := ⟨0x80008, 0, 16, .ro, 0, .c, false⟩
def SAF_PRISM_CONSEC_MISS : Field := ⟨0x80008, 16, 4, .ro, 0, .c, false⟩
def SAF_PRISM_LAST_ITEM : Field := ⟨0x80008, 24, 4, .ro, 0, .c, false⟩
def SAF_PRISM_COUNT_MISSED : Field := ⟨0x8000c, 0, 16, .ro, 0, .c, false⟩
def SAF_PRISM_COUNT_UNEQUAL : Field := ⟨0x8000c, 16, 16, .ro, 0, .c, false⟩
def SAF_POS_A : Field := ⟨0x80010, 0, 32, .ro, 0, .c, false⟩
def SAF_POS_B : Field := ⟨0x80014, 0, 32, .ro, 0, .c, false⟩
def SAF_POS_DIFF : Field := ⟨0x80018, 0, 32, .ro, 0, .c, false⟩
def SAF_SPEED_DIFF : Field := ⟨0x8001c, 0, 32, .ro, 0, .c, false⟩
def SAF_POS_CFG_POS_WARN : Field := ⟨0x80020, 0, 12, .ro, 0, .c, true⟩
def SAF_POS_CFG_POS_LIMIT : Field := ⟨0x80020, 12, 12, .ro, 0, .c, true⟩
def SAF_POS_CFG_POS_N : Field := ⟨0x80020, 24, 4, .ro, 0, .c, true⟩
def SAF_SPEED_CFG : Field := ⟨0x80024, 0, 16, .ro, 0, .c, true⟩
def SAF_TP_CMD : Field := ⟨0x80028, 0, 4, .ro, 0, .c, false⟩
def SAF_TP_RB : Field := ⟨0x80028, 4, 4, .ro, 0, .c, false⟩
def SAF_TP_TP_FAULT : Field := ⟨0x80028, 8, 4, .ro, 0, .h, false⟩
def SAF_SI_CH_OWN : Field := ⟨0x80030, 0, 16, .ro, 0, .c, false⟩
def SAF_SI_CH_OTHER : Field := ⟨0x80030, 16, 16, .ro, 0, .c, false⟩
def SAF_SI_STATE_STATE : Field := ⟨0x80034, 0, 16, .ro, 0, .c, false⟩
def SAF_SI_STATE_MASKED : Field := ⟨0x80034, 16, 16, .ro, 0, .c, false⟩
def SAF_SI_FAULT_DISC : Field := ⟨0x80038, 0, 16, .ro, 0, .h, false⟩
def SAF_SI_FAULT_WIRING : Field := ⟨0x80038, 16, 16, .ro, 0, .h, false⟩
def SAF_SI_FAULT_LAST_INPUT : Field := ⟨0x8003c, 0, 4, .ro, 0, .h, false⟩
def SAF_SI_FAULT_LAST_KIND : Field := ⟨0x8003c, 4, 2, .ro, 0, .h, false⟩
def SAF_SI_FAULT_LAST_CHANNEL : Field := ⟨0x8003c, 6, 1, .ro, 0, .h, false⟩
def SAF_SI_FAULT_LAST_TP : Field := ⟨0x8003c, 8, 3, .ro, 0, .h, false⟩
def SAF_SI_CFG_EN (i : Nat) : Field := ⟨0x80040 + 0x4 * i, 0, 1, .ro, 0, .c, true⟩
def SAF_SI_CFG_FAST (i : Nat) : Field := ⟨0x80040 + 0x4 * i, 1, 1, .ro, 0, .c, true⟩
def SAF_SI_CFG_ANTI (i : Nat) : Field := ⟨0x80040 + 0x4 * i, 2, 1, .ro, 0, .c, true⟩
def SAF_SI_CFG_TP_A (i : Nat) : Field := ⟨0x80040 + 0x4 * i, 4, 2, .ro, 0, .c, true⟩
def SAF_SI_CFG_TP_B (i : Nat) : Field := ⟨0x80040 + 0x4 * i, 6, 2, .ro, 0, .c, true⟩
def SAF_SI_CFG_FILT (i : Nat) : Field := ⟨0x80040 + 0x4 * i, 8, 12, .ro, 0, .c, true⟩
def SAF_SI_CFG_DISC_MS (i : Nat) : Field := ⟨0x80040 + 0x4 * i, 20, 11, .ro, 0, .c, true⟩
def SAF_SI_CUT (i : Nat) : Field := ⟨0x80080 + 0x4 * i, 0, 10, .ro, 0, .c, true⟩
def SAF_OUT_STATE_REQUEST : Field := ⟨0x800c0, 0, 10, .ro, 0, .c, false⟩
def SAF_OUT_STATE_ENERGIZED : Field := ⟨0x800c0, 16, 10, .ro, 0, .c, false⟩
def SAF_OUT_POLES_P_CMD : Field := ⟨0x800c4, 0, 10, .ro, 0, .c, false⟩
def SAF_OUT_POLES_M_CMD : Field := ⟨0x800c4, 16, 10, .ro, 0, .c, false⟩
def SAF_OUT_RB_P_RB : Field := ⟨0x800c8, 0, 10, .ro, 0, .c, false⟩
def SAF_OUT_RB_M_RB : Field := ⟨0x800c8, 16, 10, .ro, 0, .c, false⟩
def SAF_OUT_FAULT : Field := ⟨0x800cc, 0, 10, .ro, 0, .h, false⟩
def SAF_OUT_INFO_KIND (i : Nat) : Field := ⟨0x800d0 + 0x4 * i, 0, 2, .ro, 0, .h, false⟩
def SAF_OUT_INFO_POLE (i : Nat) : Field := ⟨0x800d0 + 0x4 * i, 2, 1, .ro, 0, .h, false⟩
def SAF_OUT_INFO_PARTNER (i : Nat) : Field := ⟨0x800d0 + 0x4 * i, 4, 4, .ro, 15, .h, false⟩
def SAF_OUT_CFG_EN (i : Nat) : Field := ⟨0x80100 + 0x4 * i, 0, 1, .ro, 0, .c, true⟩
def SAF_OUT_CFG_TEST_EN (i : Nat) : Field := ⟨0x80100 + 0x4 * i, 1, 1, .ro, 0, .c, true⟩
def SAF_OUT_CFG_PARTNER (i : Nat) : Field := ⟨0x80100 + 0x4 * i, 2, 1, .ro, 0, .c, true⟩
def SAF_TEST_CFG_TEST_INTERVAL_S : Field := ⟨0x80130, 0, 12, .ro, 0, .c, true⟩
def SAF_TEST_CFG_OUT_PULSE_US : Field := ⟨0x80130, 16, 9, .ro, 0, .c, true⟩
def SAF_TP_CFG_TP_PULSE_US : Field := ⟨0x80134, 0, 9, .ro, 0, .c, true⟩
def SAF_TP_CFG_TP_SETTLE_US : Field := ⟨0x80134, 16, 9, .ro, 0, .c, true⟩
def SAF_TEST_STATUS_SLOT : Field := ⟨0x80138, 0, 5, .ro, 0, .c, false⟩
def SAF_TEST_STATUS_RUNNING : Field := ⟨0x80138, 5, 1, .ro, 0, .c, false⟩
def SAF_TEST_STATUS_SEQUENCES : Field := ⟨0x80138, 16, 16, .ro, 0, .c, false⟩
def SAF_TEST_COUNT_ABORTED : Field := ⟨0x8013c, 0, 8, .ro, 0, .c, false⟩
def SAF_TEST_COUNT_SKIPPED : Field := ⟨0x8013c, 8, 8, .ro, 0, .c, false⟩
def SAF_TEST_COUNT_FAILED : Field := ⟨0x8013c, 16, 8, .ro, 0, .c, false⟩
def SAF_SEAL_CODE_A : Field := ⟨0x80140, 0, 6, .ro, 0, .c, false⟩
def SAF_SEAL_SW1_A : Field := ⟨0x80140, 6, 1, .ro, 0, .c, false⟩
def SAF_SEAL_CODE_B : Field := ⟨0x80140, 8, 6, .ro, 0, .c, false⟩
def SAF_SEAL_SW1_B : Field := ⟨0x80140, 14, 1, .ro, 0, .c, false⟩
def SAF_SEAL_MATCH_A : Field := ⟨0x80140, 16, 1, .ro, 0, .c, false⟩
def SAF_SEAL_MATCH_B : Field := ⟨0x80140, 17, 1, .ro, 0, .c, false⟩
def SAF_PARAM_SEL : Field := ⟨0x80150, 0, 8, .rw, 0, .c, false⟩
def SAF_PARAM_VALUE : Field := ⟨0x80154, 0, 32, .rws, 0, .c, false⟩
def SAF_PARAM_CONFIRM : Field := ⟨0x80158, 0, 32, .rws, 0, .c, false⟩
def SAF_PARAM_INFO_OVERRIDABLE : Field := ⟨0x8015c, 0, 1, .ro, 0, .c, true⟩
def SAF_PARAM_INFO_OVERRIDDEN : Field := ⟨0x8015c, 1, 1, .ro, 0, .c, false⟩
def SAF_PARAM_INFO_OVR_STATE : Field := ⟨0x8015c, 2, 2, .ro, 0, .c, false⟩
def SAF_PARAM_INFO_REASON : Field := ⟨0x8015c, 4, 4, .ro, 0, .c, false⟩
def SAF_PARAM_MIN : Field := ⟨0x80160, 0, 32, .ro, 0, .c, true⟩
def SAF_PARAM_MAX : Field := ⟨0x80164, 0, 32, .ro, 0, .c, true⟩
def SAF_PARAM_APPLIED : Field := ⟨0x80168, 0, 32, .ro, 0, .c, true⟩
def SAF_FN_PERM_PERM_A : Field := ⟨0x80800, 0, 11, .ro, 0, .c, false⟩
def SAF_FN_PERM_PERM_B : Field := ⟨0x80800, 16, 11, .ro, 0, .c, false⟩
def SAF_FN_FAULT_FAULT : Field := ⟨0x80804, 0, 15, .ro, 0, .h, false⟩
def SAF_FN_FAULT_FAST_CUT_IN : Field := ⟨0x80804, 16, 16, .ro, 0, .h, false⟩
def SAF_FN_OUT_REQ (i : Nat) : Field := ⟨0x80810 + 0x4 * i, 0, 4, .ro, 0, .c, true⟩
def SAF_FN_OUT_FUNC_MASK (i : Nat) : Field := ⟨0x80810 + 0x4 * i, 16, 11, .ro, 0, .c, true⟩
def SAF_ROLE (i : Nat) : Field := ⟨0x80840 + 0x4 * i, 0, 32, .ro, 0, .c, true⟩
def SAF_MOTION_STATE_DOORS_CLOSED : Field := ⟨0x80850, 0, 1, .ro, 0, .c, false⟩
def SAF_MOTION_STATE_BRIDGED : Field := ⟨0x80850, 1, 1, .ro, 0, .c, false⟩
def SAF_MOTION_STATE_UCM_ARMED : Field := ⟨0x80850, 2, 1, .ro, 0, .c, false⟩
def SAF_MOTION_STATE_INSPECTION : Field := ⟨0x80850, 3, 1, .ro, 0, .c, false⟩
def SAF_MOTION_STATE_QUIET : Field := ⟨0x80850, 4, 1, .ro, 0, .c, false⟩
def SAF_MOTION_STATE_SEP_STALE : Field := ⟨0x80850, 5, 1, .ro, 0, .c, false⟩
def SAF_UCM_ANCHOR : Field := ⟨0x80854, 0, 32, .ro, 0, .c, false⟩
def SAF_BRAKE_STATUS_BRAKE1 : Field := ⟨0x80860, 0, 2, .ro, 2, .c, false⟩
def SAF_BRAKE_STATUS_BRAKE2 : Field := ⟨0x80860, 2, 2, .ro, 2, .c, false⟩
def SAF_BRAKE_STATUS_CAUSE1 : Field := ⟨0x80860, 4, 3, .ro, 0, .h, false⟩
def SAF_BRAKE_STATUS_CAUSE2 : Field := ⟨0x80860, 8, 3, .ro, 0, .h, false⟩
def SAF_BRAKE_CURRENT_BK1 : Field := ⟨0x80864, 0, 16, .ro, 0, .c, false⟩
def SAF_BRAKE_CURRENT_BK2 : Field := ⟨0x80864, 16, 16, .ro, 0, .c, false⟩
def SAF_BRAKE_CFG_1_I_PICK : Field := ⟨0x80868, 0, 12, .ro, 0, .c, true⟩
def SAF_BRAKE_CFG_1_I_HOLD_MIN : Field := ⟨0x80868, 12, 12, .ro, 0, .c, true⟩
def SAF_BRAKE_CFG_1_T_PICK : Field := ⟨0x80868, 24, 8, .ro, 0, .c, true⟩
def SAF_BRAKE_CFG_2_I_PICK : Field := ⟨0x8086c, 0, 12, .ro, 0, .c, true⟩
def SAF_BRAKE_CFG_2_I_HOLD_MIN : Field := ⟨0x8086c, 12, 12, .ro, 0, .c, true⟩
def SAF_BRAKE_CFG_2_T_PICK : Field := ⟨0x8086c, 24, 8, .ro, 0, .c, true⟩
def SAF_BRAKE_LIM_1_I_MAX : Field := ⟨0x80870, 0, 12, .ro, 0, .c, true⟩
def SAF_BRAKE_LIM_1_I_OFF : Field := ⟨0x80870, 12, 12, .ro, 0, .c, true⟩
def SAF_BRAKE_LIM_2_I_MAX : Field := ⟨0x80874, 0, 12, .ro, 0, .c, true⟩
def SAF_BRAKE_LIM_2_I_OFF : Field := ⟨0x80874, 12, 12, .ro, 0, .c, true⟩
def SAF_BRAKE_TIMES_LIFT_TIME_MS : Field := ⟨0x80878, 0, 12, .ro, 0, .c, true⟩
def SAF_BRAKE_TIMES_DROP_TIME_MS : Field := ⟨0x80878, 16, 12, .ro, 0, .c, true⟩
def SAF_BT_CFG_BT_WIN : Field := ⟨0x80880, 0, 16, .ro, 0, .c, true⟩
def SAF_BT_CFG_BT_INTERVAL_H : Field := ⟨0x80880, 16, 8, .ro, 0, .c, true⟩
def SAF_BT_CFG_BT_GRACE_H : Field := ⟨0x80880, 24, 8, .ro, 0, .c, true⟩
def SAF_BT_TORQUE : Field := ⟨0x80884, 0, 32, .ro, 0, .c, true⟩
def SAF_BT_TIMES_BT_RAMP_MS : Field := ⟨0x80888, 0, 16, .ro, 0, .c, true⟩
def SAF_BT_TIMES_BT_HOLD_MS : Field := ⟨0x80888, 16, 16, .ro, 0, .c, true⟩
def SAF_BT_STATUS_STATE : Field := ⟨0x8088c, 0, 3, .ro, 0, .c, false⟩
def SAF_BT_STATUS_RESULT1 : Field := ⟨0x8088c, 4, 2, .ro, 0, .k, false⟩
def SAF_BT_STATUS_RESULT2 : Field := ⟨0x8088c, 6, 2, .ro, 0, .k, false⟩
def SAF_BT_STATUS_OVERDUE : Field := ⟨0x8088c, 8, 1, .ro, 0, .c, false⟩
def SAF_BT_STATUS_HOURS : Field := ⟨0x8088c, 16, 16, .ro, 0, .k, false⟩
def SAF_BT_MOVE_BRAKE1 : Field := ⟨0x80890, 0, 16, .ro, 0, .k, false⟩
def SAF_BT_MOVE_BRAKE2 : Field := ⟨0x80890, 16, 16, .ro, 0, .k, false⟩
def SAF_BT_CMD_CMD : Field := ⟨0x80894, 0, 2, .wo, 0, .c, false⟩
def SAF_BT_CMD_CONFIRM : Field := ⟨0x80894, 16, 16, .wo, 0, .c, false⟩
def SAF_SPEED_LIMITS_OS_TRIP : Field := ⟨0x808a0, 0, 16, .ro, 0, .c, true⟩
def SAF_SPEED_LIMITS_INSP_SPEED : Field := ⟨0x808a0, 16, 16, .ro, 0, .c, true⟩
def SAF_DZ_CFG_DZB_WIN : Field := ⟨0x808a4, 0, 12, .ro, 0, .c, true⟩
def SAF_DZ_CFG_DZB_SPEED : Field := ⟨0x808a4, 12, 12, .ro, 0, .c, true⟩
def SAF_DZ_CFG_UCM_DIST : Field := ⟨0x808a4, 24, 8, .ro, 0, .c, true⟩
def SAF_FINAL_UP : Field := ⟨0x808a8, 0, 32, .ro, 0, .c, true⟩
def SAF_FINAL_DN : Field := ⟨0x808ac, 0, 32, .ro, 0, .c, true⟩
def SAF_SEP_LANE_SEP_AGE_MS : Field := ⟨0x808b0, 0, 8, .ro, 0, .c, true⟩
def SAF_SEP_LANE_SEP_DEC : Field := ⟨0x808b0, 8, 12, .ro, 0, .c, true⟩
def SAF_SEP_LANE_SEP_V_TOL : Field := ⟨0x808b0, 20, 12, .ro, 0, .c, true⟩
def SAF_LOCK_CHECK_LOCK_CHECK_MS : Field := ⟨0x808b4, 0, 16, .ro, 0, .c, true⟩
def SAF_LOCK_CHECK_LOCK_CHECK_N : Field := ⟨0x808b4, 16, 4, .ro, 0, .c, true⟩
def SAF_LOCK_CHECK_CONSEC : Field := ⟨0x808b4, 20, 4, .ro, 0, .c, false⟩
def SAF_LOCK_CHECK_MISSES : Field := ⟨0x808b4, 24, 8, .ro, 0, .c, false⟩
def SAF_RESET_STATUS_SRST_A : Field := ⟨0x808c0, 0, 1, .ro, 0, .c, false⟩
def SAF_RESET_STATUS_SRST_B : Field := ⟨0x808c0, 1, 1, .ro, 0, .c, false⟩
def SAF_RESET_STATUS_NET_LINE : Field := ⟨0x808c0, 2, 1, .ro, 0, .c, false⟩
def SAF_RESET_STATUS_STUCK : Field := ⟨0x808c0, 3, 1, .ro, 0, .c, false⟩
def SAF_RESET_STATUS_LAST_RESULT : Field := ⟨0x808c0, 4, 2, .ro, 0, .c, false⟩
def SAF_RESET_STATUS_REASON : Field := ⟨0x808c0, 6, 2, .ro, 0, .c, false⟩
def SAF_RESET_STATUS_BLOCKING : Field := ⟨0x808c0, 8, 8, .ro, 0, .c, false⟩
def SAF_RESET_COUNT_ACCEPTED : Field := ⟨0x808c4, 0, 16, .ro, 0, .h, false⟩
def SAF_RESET_COUNT_REFUSED : Field := ⟨0x808c4, 16, 16, .ro, 0, .h, false⟩
def FIO_STATUS_FS1_BAND : Field := ⟨0x90000, 0, 2, .ro, 3, .c, false⟩
def FIO_STATUS_FS2A_BAND : Field := ⟨0x90000, 2, 2, .ro, 3, .c, false⟩
def FIO_STATUS_FS2B_BAND : Field := ⟨0x90000, 4, 2, .ro, 3, .c, false⟩
def FIO_STATUS_STANDBY_OFF : Field := ⟨0x90000, 6, 1, .ro, 0, .c, false⟩
def FIO_STATUS_DO_FAULT : Field := ⟨0x90000, 8, 1, .ro, 0, .c, false⟩
def FIO_STATUS_DI_FAULT : Field := ⟨0x90000, 9, 1, .ro, 0, .c, false⟩
def FIO_STATUS_CPL_SPARE_USED : Field := ⟨0x90000, 10, 1, .ro, 0, .k, false⟩
def FIO_STATUS_CPL_LOST : Field := ⟨0x90000, 11, 1, .ro, 0, .k, false⟩
def FIO_FS1_VOLT : Field := ⟨0x90004, 0, 10, .ro, 0, .c, false⟩
def FIO_FS1_MIN : Field := ⟨0x90004, 16, 10, .ro, 1023, .c, false⟩
def FIO_FS2A_VOLT : Field := ⟨0x90008, 0, 10, .ro, 0, .c, false⟩
def FIO_FS2A_MIN : Field := ⟨0x90008, 16, 10, .ro, 1023, .c, false⟩
def FIO_FS2B_VOLT : Field := ⟨0x9000c, 0, 10, .ro, 0, .c, false⟩
def FIO_FS2B_MIN : Field := ⟨0x9000c, 16, 10, .ro, 1023, .c, false⟩
def FIO_DI_STATE_LO : Field := ⟨0x90010, 0, 32, .ro, 0, .c, false⟩
def FIO_DI_STATE_HI : Field := ⟨0x90014, 0, 32, .ro, 0, .c, false⟩
def FIO_DI_BREAK_LO : Field := ⟨0x90018, 0, 32, .ro, 0, .c, false⟩
def FIO_DI_BREAK_HI : Field := ⟨0x9001c, 0, 32, .ro, 0, .c, false⟩
def FIO_DI_UNDEF_LO : Field := ⟨0x90020, 0, 32, .ro, 0, .c, false⟩
def FIO_DI_UNDEF_HI : Field := ⟨0x90024, 0, 32, .ro, 0, .c, false⟩
def FIO_DI_CUR_SEL : Field := ⟨0x90028, 0, 6, .rw, 0, .c, false⟩
def FIO_DI_CURRENT_CURRENT : Field := ⟨0x9002c, 0, 10, .ro, 0, .c, false⟩
def FIO_DI_CURRENT_CLASS : Field := ⟨0x9002c, 16, 3, .ro, 0, .c, false⟩
def FIO_DO_CMD : Field := ⟨0x90030, 0, 24, .ro, 0, .c, false⟩
def FIO_DO_RB : Field := ⟨0x90034, 0, 24, .ro, 0, .c, false⟩
def FIO_DO_FAULT : Field := ⟨0x90038, 0, 24, .ro, 0, .c, false⟩
def FIO_TEST_CFG_DO_PULSE_US : Field := ⟨0x90040, 0, 9, .ro, 0, .c, true⟩
def FIO_TEST_CFG_DO_TEST_EVERY : Field := ⟨0x90040, 16, 4, .ro, 0, .c, true⟩
def FIO_TEST_COUNT_ABORTED : Field := ⟨0x90044, 0, 8, .ro, 0, .c, false⟩
def FIO_TEST_COUNT_SKIPPED : Field := ⟨0x90044, 8, 8, .ro, 0, .c, false⟩
def FIO_TEST_COUNT_FAILED : Field := ⟨0x90044, 16, 8, .ro, 0, .c, false⟩
def FIO_TEST_COUNT_SEQUENCES : Field := ⟨0x90044, 24, 8, .ro, 0, .c, false⟩
def FIO_HOLD_COUNT_HOLDS : Field := ⟨0x90048, 0, 16, .ro, 0, .c, false⟩
def FIO_HOLD_COUNT_LONGEST : Field := ⟨0x90048, 16, 16, .ro, 0, .c, false⟩
def FIO_CMD_OUTPUT : Field := ⟨0x9004c, 0, 5, .wo, 0, .c, false⟩
def FIO_CMD_CMD : Field := ⟨0x9004c, 8, 2, .wo, 0, .c, false⟩
def FIO_CMD_CONFIRM : Field := ⟨0x9004c, 16, 16, .wo, 0, .c, false⟩
def FIO_CPL_SPARE : Field := ⟨0x90050, 0, 17, .ro, 0, .k, false⟩
def FIO_CPL_LOST : Field := ⟨0x90054, 0, 17, .ro, 0, .k, false⟩
def FIO_CPL_SEL_GROUP : Field := ⟨0x90058, 0, 5, .rw, 0, .c, false⟩
def FIO_CPL_SEL_LANE : Field := ⟨0x90058, 8, 4, .rw, 0, .c, false⟩
def FIO_CPL_LANE_MARGIN : Field := ⟨0x9005c, 0, 8, .ro, 0, .c, false⟩
def FIO_CPL_LANE_MIN : Field := ⟨0x9005c, 8, 8, .ro, 255, .c, false⟩
def FIO_CPL_LANE_ERRORS : Field := ⟨0x9005c, 16, 8, .ro, 0, .c, false⟩
def FIO_CPL_LANE_STATE : Field := ⟨0x9005c, 24, 3, .ro, 0, .c, false⟩
def FIO_CPL_COUNT_TAKEOVERS : Field := ⟨0x90060, 0, 16, .ro, 0, .k, false⟩
def FIO_CPL_COUNT_FAILURES : Field := ⟨0x90060, 16, 16, .ro, 0, .k, false⟩
def FIO_CPL_PARAM_CPL_WARN : Field := ⟨0x90064, 0, 8, .ro, 0, .c, true⟩
def FIO_CPL_PARAM_CPL_ERR : Field := ⟨0x90064, 8, 8, .ro, 0, .c, true⟩
def FIO_DO_INFO_KIND (i : Nat) : Field := ⟨0x90100 + 0x4 * i, 0, 3, .ro, 0, .c, false⟩
def FIO_DO_INFO_PARTNER (i : Nat) : Field := ⟨0x90100 + 0x4 * i, 8, 5, .ro, 0, .c, false⟩
def FIO_DO_INFO_OVERLOADS (i : Nat) : Field := ⟨0x90100 + 0x4 * i, 16, 2, .ro, 0, .c, false⟩
def FIO_DI_CFG_EN (i : Nat) : Field := ⟨0x90200 + 0x4 * i, 0, 1, .ro, 0, .c, true⟩
def FIO_DI_CFG_TYPE (i : Nat) : Field := ⟨0x90200 + 0x4 * i, 1, 1, .ro, 0, .c, true⟩
def FIO_DI_CFG_WB (i : Nat) : Field := ⟨0x90200 + 0x4 * i, 2, 1, .ro, 0, .c, true⟩
def FIO_DI_CFG_INVERT (i : Nat) : Field := ⟨0x90200 + 0x4 * i, 3, 1, .ro, 0, .c, true⟩
def FIO_DI_CFG_DI_FILT (i : Nat) : Field := ⟨0x90200 + 0x4 * i, 8, 8, .ro, 0, .c, true⟩
def FIO_DO_CFG_EN (i : Nat) : Field := ⟨0x90300 + 0x4 * i, 0, 1, .ro, 0, .c, true⟩
def FIO_DO_CFG_RB_EN (i : Nat) : Field := ⟨0x90300 + 0x4 * i, 1, 1, .ro, 0, .c, true⟩
def FIO_DO_CFG_TEST_EN (i : Nat) : Field := ⟨0x90300 + 0x4 * i, 2, 1, .ro, 0, .c, true⟩
def FIO_DO_CFG_PARTNER (i : Nat) : Field := ⟨0x90300 + 0x4 * i, 3, 1, .ro, 0, .c, true⟩
def FIO_DO_CFG_HOLD_TIME (i : Nat) : Field := ⟨0x90300 + 0x4 * i, 16, 16, .ro, 0, .c, true⟩
def NET_STATUS_LINK : Field := ⟨0xa0000, 0, 4, .ro, 0, .c, false⟩
def NET_STATUS_ADDR_STATE : Field := ⟨0xa0000, 4, 3, .ro, 0, .c, false⟩
def NET_STATUS_LISTENING : Field := ⟨0xa0000, 7, 1, .ro, 1, .c, false⟩
def NET_STATUS_PTP_A : Field := ⟨0xa0000, 8, 2, .ro, 0, .c, false⟩
def NET_STATUS_PTP_B : Field := ⟨0xa0000, 10, 2, .ro, 0, .c, false⟩
def NET_STATUS_PTP_SOURCE : Field := ⟨0xa0000, 12, 1, .ro, 0, .c, false⟩
def NET_STATUS_PORT_REVERSED : Field := ⟨0xa0000, 13, 1, .ro, 0, .c, false⟩
def NET_STATUS_CHAIN_ORDER : Field := ⟨0xa0000, 14, 1, .ro, 0, .c, false⟩
def NET_STATUS_TRANSPARENT : Field := ⟨0xa0000, 15, 1, .ro, 1, .c, false⟩
def NET_STATUS_CMD_REFUSED : Field := ⟨0xa0000, 16, 1, .w1c, 0, .c, false⟩
def NET_ADDR_ADDRESS : Field := ⟨0xa0004, 0, 8, .ro, 0, .k, false⟩
def NET_ADDR_SIDE : Field := ⟨0xa0004, 8, 1, .ro, 1, .c, false⟩
def NET_ADDR_PAIRED : Field := ⟨0xa0004, 9, 1, .ro, 0, .c, false⟩
def NET_ADDR_ENUM_ID : Field := ⟨0xa0004, 16, 16, .ro, 0, .k, false⟩
def NET_ADDR_CMD_CMD : Field := ⟨0xa0008, 0, 2, .wo, 0, .c, false⟩
def NET_ADDR_CMD_CONFIRM : Field := ⟨0xa0008, 16, 16, .wo, 0, .c, false⟩
def NET_ADJ_A1_ADDRESS : Field := ⟨0xa0010, 0, 8, .ro, 0, .c, false⟩
def NET_ADJ_A1_SIDE : Field := ⟨0xa0010, 8, 1, .ro, 0, .c, false⟩
def NET_ADJ_A1_COMMITTED : Field := ⟨0xa0010, 9, 1, .ro, 0, .c, false⟩
def NET_ADJ_A1_PRESENT : Field := ⟨0xa0010, 10, 1, .ro, 0, .c, false⟩
def NET_ADJ_A1_LISTENING : Field := ⟨0xa0010, 11, 1, .ro, 0, .c, false⟩
def NET_ADJ_A1_SERIAL : Field := ⟨0xa0010, 16, 16, .ro, 0, .c, false⟩
def NET_ADJ_A2_ADDRESS : Field := ⟨0xa0014, 0, 8, .ro, 0, .c, false⟩
def NET_ADJ_A2_SIDE : Field := ⟨0xa0014, 8, 1, .ro, 0, .c, false⟩
def NET_ADJ_A2_COMMITTED : Field := ⟨0xa0014, 9, 1, .ro, 0, .c, false⟩
def NET_ADJ_A2_PRESENT : Field := ⟨0xa0014, 10, 1, .ro, 0, .c, false⟩
def NET_ADJ_A2_LISTENING : Field := ⟨0xa0014, 11, 1, .ro, 0, .c, false⟩
def NET_ADJ_A2_SERIAL : Field := ⟨0xa0014, 16, 16, .ro, 0, .c, false⟩
def NET_ADJ_B1_ADDRESS : Field := ⟨0xa0018, 0, 8, .ro, 0, .c, false⟩
def NET_ADJ_B1_SIDE : Field := ⟨0xa0018, 8, 1, .ro, 0, .c, false⟩
def NET_ADJ_B1_COMMITTED : Field := ⟨0xa0018, 9, 1, .ro, 0, .c, false⟩
def NET_ADJ_B1_PRESENT : Field := ⟨0xa0018, 10, 1, .ro, 0, .c, false⟩
def NET_ADJ_B1_LISTENING : Field := ⟨0xa0018, 11, 1, .ro, 0, .c, false⟩
def NET_ADJ_B1_SERIAL : Field := ⟨0xa0018, 16, 16, .ro, 0, .c, false⟩
def NET_ADJ_B2_ADDRESS : Field := ⟨0xa001c, 0, 8, .ro, 0, .c, false⟩
def NET_ADJ_B2_SIDE : Field := ⟨0xa001c, 8, 1, .ro, 0, .c, false⟩
def NET_ADJ_B2_COMMITTED : Field := ⟨0xa001c, 9, 1, .ro, 0, .c, false⟩
def NET_ADJ_B2_PRESENT : Field := ⟨0xa001c, 10, 1, .ro, 0, .c, false⟩
def NET_ADJ_B2_LISTENING : Field := ⟨0xa001c, 11, 1, .ro, 0, .c, false⟩
def NET_ADJ_B2_SERIAL : Field := ⟨0xa001c, 16, 16, .ro, 0, .c, false⟩
def NET_MAC_A_LO : Field := ⟨0xa0020, 0, 32, .ro, 0, .k, false⟩
def NET_MAC_A_HI : Field := ⟨0xa0024, 0, 32, .ro, 0, .k, false⟩
def NET_MAC_B_LO : Field := ⟨0xa0028, 0, 32, .ro, 0, .k, false⟩
def NET_MAC_B_HI : Field := ⟨0xa002c, 0, 32, .ro, 0, .k, false⟩
def NET_MAP_CFG_ETHERTYPE : Field := ⟨0xa0030, 0, 16, .ro, 0, .c, true⟩
def NET_MAP_CFG_NBR_HOPS : Field := ⟨0xa0030, 16, 4, .ro, 0, .c, true⟩
def NET_MAP_CFG_OWN_ADDR : Field := ⟨0xa0030, 20, 8, .ro, 0, .c, true⟩
def NET_MAP_CFG_RESET_EN : Field := ⟨0xa0030, 28, 1, .ro, 0, .c, true⟩
def NET_MAP_CFG_MGMT_WRITERS : Field := ⟨0xa0030, 29, 2, .ro, 0, .c, true⟩
def NET_PATH_CFG_SKEW_US : Field := ⟨0xa0034, 0, 16, .ro, 0, .c, true⟩
def NET_PATH_CFG_SINGLE_PATH_MS : Field := ⟨0xa0034, 16, 16, .ro, 0, .c, true⟩
def NET_NBR_CFG_NBR_UP : Field := ⟨0xa0038, 0, 8, .ro, 0, .c, true⟩
def NET_NBR_CFG_NBR_DOWN : Field := ⟨0xa0038, 8, 8, .ro, 0, .c, true⟩
def NET_NBR_CFG_NBR_AGE_US : Field := ⟨0xa0038, 16, 16, .ro, 0, .c, true⟩
def NET_MISC_CFG_PTP_DOMAIN : Field := ⟨0xa003c, 0, 7, .ro, 0, .c, true⟩
def NET_MISC_CFG_EVT_FRAME_RATE : Field := ⟨0xa003c, 8, 5, .ro, 0, .c, true⟩
def NET_NBR_UP_PATH : Field := ⟨0xa0040, 0, 3, .ro, 0, .c, false⟩
def NET_NBR_UP_TIMEOUT : Field := ⟨0xa0040, 3, 1, .ro, 0, .c, false⟩
def NET_NBR_UP_SIDE : Field := ⟨0xa0040, 4, 1, .ro, 0, .c, false⟩
def NET_NBR_UP_DUAL_RUN : Field := ⟨0xa0040, 8, 8, .ro, 0, .c, false⟩
def NET_NBR_UP_AGE_US : Field := ⟨0xa0040, 16, 16, .ro, 0, .c, false⟩
def NET_NBR_DOWN_PATH : Field := ⟨0xa0044, 0, 3, .ro, 0, .c, false⟩
def NET_NBR_DOWN_TIMEOUT : Field := ⟨0xa0044, 3, 1, .ro, 0, .c, false⟩
def NET_NBR_DOWN_SIDE : Field := ⟨0xa0044, 4, 1, .ro, 0, .c, false⟩
def NET_NBR_DOWN_DUAL_RUN : Field := ⟨0xa0044, 8, 8, .ro, 0, .c, false⟩
def NET_NBR_DOWN_AGE_US : Field := ⟨0xa0044, 16, 16, .ro, 0, .c, false⟩
def NET_NBR_COUNT_TIMEOUTS : Field := ⟨0xa0048, 0, 16, .ro, 0, .c, false⟩
def NET_NBR_COUNT_STALE : Field := ⟨0xa0048, 16, 16, .ro, 0, .c, false⟩
def NET_PATH_COUNT_MISMATCH : Field := ⟨0xa004c, 0, 8, .ro, 0, .c, false⟩
def NET_PATH_COUNT_EXPIRED : Field := ⟨0xa004c, 8, 8, .ro, 0, .c, false⟩
def NET_PATH_COUNT_SINGLE : Field := ⟨0xa004c, 16, 8, .ro, 0, .c, false⟩
def NET_PATH_COUNT_CRC_ERR : Field := ⟨0xa004c, 24, 8, .ro, 0, .c, false⟩
def NET_PORT_A1_FCS_ERR : Field := ⟨0xa0050, 0, 16, .ro, 0, .c, false⟩
def NET_PORT_A1_DROPPED : Field := ⟨0xa0050, 16, 16, .ro, 0, .c, false⟩
def NET_PORT_A2_FCS_ERR : Field := ⟨0xa0054, 0, 16, .ro, 0, .c, false⟩
def NET_PORT_A2_DROPPED : Field := ⟨0xa0054, 16, 16, .ro, 0, .c, false⟩
def NET_PORT_B1_FCS_ERR : Field := ⟨0xa0058, 0, 16, .ro, 0, .c, false⟩
def NET_PORT_B1_DROPPED : Field := ⟨0xa0058, 16, 16, .ro, 0, .c, false⟩
def NET_PORT_B2_FCS_ERR : Field := ⟨0xa005c, 0, 16, .ro, 0, .c, false⟩
def NET_PORT_B2_DROPPED : Field := ⟨0xa005c, 16, 16, .ro, 0, .c, false⟩
def NET_FOREIGN_FOREIGN : Field := ⟨0xa0060, 0, 16, .ro, 0, .c, false⟩
def NET_FOREIGN_STALE : Field := ⟨0xa0060, 16, 16, .ro, 0, .c, false⟩
def NET_RX_BUF_RESET : Field := ⟨0xa0064, 0, 3, .ro, 0, .c, false⟩
def NET_RX_BUF_MGMT : Field := ⟨0xa0064, 8, 4, .ro, 0, .c, false⟩
def NET_RX_BUF_REQUEST : Field := ⟨0xa0064, 16, 5, .ro, 0, .c, false⟩
def NET_RX_BUF_NBR : Field := ⟨0xa0064, 24, 3, .ro, 0, .c, false⟩
def NET_PTP_OFFSET_A : Field := ⟨0xa0070, 0, 32, .ro, 0, .c, false⟩
def NET_PTP_OFFSET_B : Field := ⟨0xa0074, 0, 32, .ro, 0, .c, false⟩
def NET_PTP_PDELAY_A_PORT1 : Field := ⟨0xa0078, 0, 16, .ro, 0, .c, false⟩
def NET_PTP_PDELAY_A_PORT2 : Field := ⟨0xa0078, 16, 16, .ro, 0, .c, false⟩
def NET_PTP_PDELAY_B_PORT1 : Field := ⟨0xa007c, 0, 16, .ro, 0, .c, false⟩
def NET_PTP_PDELAY_B_PORT2 : Field := ⟨0xa007c, 16, 16, .ro, 0, .c, false⟩
def NET_PTP_TIME_NS : Field := ⟨0xa0080, 0, 30, .ro, 0, .c, false⟩
def NET_PTP_TIME_SEC_LO : Field := ⟨0xa0084, 0, 32, .ro, 0, .c, false⟩
def NET_PTP_TIME_SEC_HI : Field := ⟨0xa0088, 0, 32, .ro, 0, .c, false⟩
def NET_PTP_GM_LO : Field := ⟨0xa008c, 0, 32, .ro, 0, .c, false⟩
def NET_PTP_GM_HI : Field := ⟨0xa0090, 0, 32, .ro, 0, .c, false⟩
def NET_SNAP_STATUS_BANKS : Field := ⟨0xa00a0, 0, 8, .ro, 0, .w, false⟩
def NET_SNAP_STATUS_NEXT : Field := ⟨0xa00a0, 8, 2, .ro, 0, .w, false⟩
def NET_SNAP_STATUS_ARMED : Field := ⟨0xa00a0, 10, 1, .ro, 0, .c, false⟩
def NET_SNAP_STATUS_LAST_TAG : Field := ⟨0xa00a0, 16, 16, .ro, 0, .w, false⟩
def NET_SNAP_ARMED_TAG : Field := ⟨0xa00a4, 0, 16, .ro, 0, .c, false⟩
def NET_SNAP_ARMED_OVERWRITE : Field := ⟨0xa00a4, 16, 1, .ro, 0, .c, false⟩
def NET_SNAP_AT_LO : Field := ⟨0xa00a8, 0, 32, .ro, 0, .c, false⟩
def NET_SNAP_AT_HI : Field := ⟨0xa00ac, 0, 32, .ro, 0, .c, false⟩
def NET_SNAP_RELEASE : Field := ⟨0xa00b0, 0, 4, .wo, 0, .c, false⟩
def NET_SNAP_COUNT_TAKEN : Field := ⟨0xa00b4, 0, 16, .ro, 0, .c, false⟩
def NET_SNAP_COUNT_REFUSED : Field := ⟨0xa00b4, 16, 8, .ro, 0, .c, false⟩
def NET_SNAP_COUNT_UNLOCKED : Field := ⟨0xa00b4, 24, 8, .ro, 0, .c, false⟩
def NET_RESET_LINE : Field := ⟨0xa00c0, 0, 1, .ro, 0, .c, false⟩
def NET_RESET_ABANDONING : Field := ⟨0xa00c0, 1, 1, .ro, 0, .c, false⟩
def NET_RESET_ABANDONED : Field := ⟨0xa00c0, 8, 8, .ro, 0, .c, false⟩
def NET_RESET_RESET_ID : Field := ⟨0xa00c0, 16, 16, .ro, 0, .c, false⟩
def NET_REQ_COUNT_REQUESTS : Field := ⟨0xa00c4, 0, 16, .ro, 0, .c, false⟩
def NET_REQ_COUNT_REPEATS : Field := ⟨0xa00c4, 16, 16, .ro, 0, .c, false⟩
def MIR_STATUS_ROLE : Field := ⟨0xb0000, 0, 2, .ro, 3, .c, false⟩
def MIR_STATUS_SHADOW : Field := ⟨0xb0000, 2, 3, .ro, 0, .c, false⟩
def MIR_STATUS_LINK_UP : Field := ⟨0xb0000, 5, 1, .ro, 0, .c, false⟩
def MIR_STATUS_PARTNER : Field := ⟨0xb0000, 6, 1, .ro, 0, .c, false⟩
def MIR_STATUS_OWN_LINE : Field := ⟨0xb0000, 7, 1, .ro, 0, .c, false⟩
def MIR_STATUS_PARTNER_LINE : Field := ⟨0xb0000, 8, 1, .ro, 0, .c, false⟩
def MIR_STATUS_RELEASED : Field := ⟨0xb0000, 9, 1, .ro, 1, .k, false⟩
def MIR_STATUS_FOREIGN : Field := ⟨0xb0000, 10, 1, .ro, 0, .c, false⟩
def MIR_STATUS_HOME : Field := ⟨0xb0000, 11, 1, .ro, 0, .c, true⟩
def MIR_STATUS_REQ_HOLD : Field := ⟨0xb0000, 12, 1, .ro, 0, .c, false⟩
def MIR_STATUS_HOLD_STARTS : Field := ⟨0xb0000, 13, 1, .ro, 0, .c, false⟩
def MIR_CFG_PAIRED : Field := ⟨0xb0004, 0, 1, .ro, 0, .c, true⟩
def MIR_CFG_HOME_SIDE : Field := ⟨0xb0004, 1, 1, .ro, 0, .c, true⟩
def MIR_CFG_MIR_CLEAN_S : Field := ⟨0xb0004, 8, 8, .ro, 0, .c, true⟩
def MIR_CFG_MEM_ERR_RELAY : Field := ⟨0xb0004, 16, 8, .ro, 0, .c, true⟩
def MIR_CFG_DEEP_REFRESH : Field := ⟨0xb0004, 24, 8, .ro, 0, .c, true⟩
def MIR_TOL_MIR_POS_TOL : Field := ⟨0xb0008, 0, 16, .ro, 0, .c, true⟩
def MIR_TOL_MIR_TORQ_TOL : Field := ⟨0xb0008, 16, 16, .ro, 0, .c, true⟩
def MIR_LINK_CRC_ERR : Field := ⟨0xb000c, 0, 8, .ro, 0, .c, false⟩
def MIR_LINK_MISSED : Field := ⟨0xb000c, 8, 8, .ro, 0, .c, false⟩
def MIR_LINK_DELAY_NS : Field := ⟨0xb000c, 16, 16, .ro, 0, .c, false⟩
def MIR_SHADOW_CLEAN_S : Field := ⟨0xb0010, 0, 16, .ro, 0, .c, false⟩
def MIR_SHADOW_LAST_ITEM : Field := ⟨0xb0010, 16, 4, .ro, 0, .c, false⟩
def MIR_SHADOW_MISMATCHES : Field := ⟨0xb0010, 24, 8, .ro, 0, .c, false⟩
def MIR_COUNT_TAKEOVERS : Field := ⟨0xb0014, 0, 16, .ro, 0, .k, false⟩
def MIR_COUNT_HANDOVERS : Field := ⟨0xb0014, 16, 16, .ro, 0, .k, false⟩
def MIR_PARTNER_SERIAL_LO : Field := ⟨0xb0018, 0, 32, .ro, 0, .c, false⟩
def MIR_PARTNER_SERIAL_HI : Field := ⟨0xb001c, 0, 32, .ro, 0, .c, false⟩
def MIR_PARTNER_ID_LO : Field := ⟨0xb0020, 0, 32, .ro, 0, .c, false⟩
def MIR_PARTNER_ID_HI : Field := ⟨0xb0024, 0, 32, .ro, 0, .c, false⟩
def MIR_CMD_CMD : Field := ⟨0xb0030, 0, 3, .wo, 0, .c, false⟩
def MIR_CMD_CONFIRM : Field := ⟨0xb0030, 16, 16, .wo, 0, .c, false⟩
def MIR_CMD_STATUS_CMD : Field := ⟨0xb0034, 0, 3, .ro, 0, .c, false⟩
def MIR_CMD_STATUS_RESULT : Field := ⟨0xb0034, 4, 2, .ro, 0, .c, false⟩
def MIR_CMD_STATUS_REASON : Field := ⟨0xb0034, 8, 4, .ro, 0, .c, false⟩
def MIR_LAST_TAKEOVER : Field := ⟨0xb0038, 0, 32, .ro, 0, .c, false⟩
def MIR_SPARE_NEAR_FREE : Field := ⟨0xb0100, 0, 13, .ro, 2048, .k, false⟩
def MIR_SPARE_NEAR_REMAPS : Field := ⟨0xb0100, 16, 13, .ro, 0, .k, false⟩
def MIR_SPARE_TABLE_FREE : Field := ⟨0xb0104, 0, 13, .ro, 4096, .k, false⟩
def MIR_SPARE_TABLE_REMAPS : Field := ⟨0xb0104, 16, 13, .ro, 0, .k, false⟩
def MIR_SPARE_DEEP_FREE : Field := ⟨0xb0108, 0, 12, .ro, 1966, .k, false⟩
def MIR_SPARE_DEEP_RETIRED : Field := ⟨0xb0108, 16, 12, .ro, 0, .k, false⟩
def MIR_ECC_NEAR : Field := ⟨0xb010c, 0, 16, .ro, 0, .c, false⟩
def MIR_ECC_TABLE : Field := ⟨0xb010c, 16, 16, .ro, 0, .c, false⟩
def MIR_LOUPE_SHARE : Field := ⟨0xb0120, 0, 9, .ro, 0, .c, false⟩
def MIR_LOUPE_MAX : Field := ⟨0xb0120, 16, 9, .ro, 0, .c, false⟩
def MIR_LOUPE_LATE_LATE : Field := ⟨0xb0124, 0, 10, .ro, 0, .c, false⟩
def MIR_LOUPE_LATE_EVENTS : Field := ⟨0xb0124, 16, 16, .ro, 0, .c, false⟩
def LOG_STATUS_REGION : Field := ⟨0xc0000, 0, 1, .ro, 0, .h, false⟩
def LOG_STATUS_STOPPED : Field := ⟨0xc0000, 1, 1, .ro, 0, .h, false⟩
def LOG_STATUS_WRAPPED : Field := ⟨0xc0000, 2, 1, .ro, 0, .h, false⟩
def LOG_STATUS_THROTTLED : Field := ⟨0xc0000, 8, 8, .ro, 0, .h, false⟩
def LOG_NEXT : Field := ⟨0xc0004, 0, 32, .ro, 0, .h, false⟩
def LOG_OLDEST : Field := ⟨0xc0008, 0, 32, .ro, 0, .h, false⟩
def LOG_OVERWRITTEN : Field := ⟨0xc000c, 0, 32, .ro, 0, .h, false⟩
def LOG_CMD_CMD : Field := ⟨0xc0010, 0, 2, .wo, 0, .c, false⟩
def LOG_CMD_CONFIRM : Field := ⟨0xc0010, 16, 16, .wo, 0, .c, false⟩
def LOG_WALL_STATUS_SOURCE : Field := ⟨0xc0014, 0, 2, .ro, 0, .c, false⟩
def LOG_WALL_STATUS_HOST_REFUSED : Field := ⟨0xc0014, 2, 1, .w1c, 0, .c, false⟩
def LOG_WALL_SET_LO : Field := ⟨0xc0018, 0, 32, .wo, 0, .c, false⟩
def LOG_WALL_SET_HI : Field := ⟨0xc001c, 0, 32, .wo, 0, .c, false⟩
def LOG_WALL_LO : Field := ⟨0xc0020, 0, 32, .ro, 0, .c, false⟩
def LOG_WALL_HI : Field := ⟨0xc0024, 0, 32, .ro, 0, .c, false⟩
def LOG_LW (i : Nat) : Field := ⟨0xc0040 + 0x4 * i, 0, 32, .ro, 0, .h, false⟩
def LOG_FAIL_COUNT_MAIN : Field := ⟨0xc0060, 0, 16, .ro, 0, .h, false⟩
def LOG_FAIL_COUNT_SPARE : Field := ⟨0xc0060, 16, 16, .ro, 0, .h, false⟩
def LOG_REC_STATUS_SLOTS : Field := ⟨0xc0080, 0, 9, .ro, 0, .c, false⟩
def LOG_REC_STATUS_DISCARDED : Field := ⟨0xc0080, 16, 8, .ro, 0, .c, false⟩
def LOG_REC_STATUS_COMMITTING : Field := ⟨0xc0080, 24, 1, .ro, 0, .c, false⟩
def LOG_REC_CMD_CMD : Field := ⟨0xc0084, 0, 2, .wo, 0, .c, false⟩
def LOG_REC_CMD_CONFIRM : Field := ⟨0xc0084, 16, 16, .wo, 0, .c, false⟩
def LOG_REC_TIME : Field := ⟨0xc0088, 0, 32, .ro, 0, .k, false⟩
def LOG_AP_SEL : Field := ⟨0xc0100, 0, 3, .rw, 0, .c, false⟩
def LOG_AP_CURSOR : Field := ⟨0xc0104, 0, 32, .rw, 0, .c, false⟩
def LOG_AP_STATUS_READY : Field := ⟨0xc0108, 0, 1, .ro, 0, .c, false⟩
def LOG_AP_STATUS_GAP : Field := ⟨0xc0108, 1, 1, .ro, 0, .c, false⟩
def LOG_AP_STATUS_WORDS : Field := ⟨0xc0108, 2, 7, .ro, 0, .c, false⟩
def LOG_AP_STATUS_SKIPPED : Field := ⟨0xc0108, 16, 16, .ro, 0, .c, false⟩
def LOG_AP_WIN (i : Nat) : Field := ⟨0xc0200 + 0x4 * i, 0, 32, .ro, 0, .c, false⟩
def EVT_Q_STATUS_COUNT : Field := ⟨0xd0000, 0, 9, .ro, 0, .c, false⟩
def EVT_Q_STATUS_LOST : Field := ⟨0xd0000, 16, 16, .ro, 0, .c, false⟩
def EVT_FRAME_STATUS_COUNT : Field := ⟨0xd0004, 0, 7, .ro, 0, .c, false⟩
def EVT_FRAME_STATUS_LOST : Field := ⟨0xd0004, 16, 16, .ro, 0, .c, false⟩
def EVT_Q_SRC_SOURCE : Field := ⟨0xd0008, 0, 9, .ro, 0, .c, false⟩
def EVT_Q_SRC_FAULT : Field := ⟨0xd0008, 9, 1, .ro, 0, .c, false⟩
def EVT_Q_SRC_EMPTY : Field := ⟨0xd0008, 31, 1, .ro, 1, .c, false⟩
def EVT_Q_ARG : Field := ⟨0xd000c, 0, 32, .ro, 0, .c, false⟩
def EVT_Q_TIME_LO : Field := ⟨0xd0010, 0, 32, .ro, 0, .c, false⟩
def EVT_Q_TIME_HI : Field := ⟨0xd0014, 0, 32, .ro, 0, .c, false⟩
def EVT_PEND (i : Nat) : Field := ⟨0xd0100 + 0x4 * i, 0, 32, .w1c, 0, .c, false⟩
def EVT_MASK (i : Nat) : Field := ⟨0xd0200 + 0x4 * i, 0, 32, .rw, 0, .c, false⟩
def EVT_LOG_OFF (i : Nat) : Field := ⟨0xd0300 + 0x4 * i, 0, 32, .rw, 0, .c, false⟩
def EVT_FRAME_OFF (i : Nat) : Field := ⟨0xd0400 + 0x4 * i, 0, 32, .rw, 0, .c, false⟩
def EVT_COUNT_SEL : Field := ⟨0xd0500, 0, 9, .rw, 0, .c, false⟩
def EVT_COUNT : Field := ⟨0xd0504, 0, 32, .ro, 0, .c, false⟩
def PWR_STATUS_STEP : Field := ⟨0xe0000, 0, 2, .ro, 0, .c, false⟩
def PWR_STATUS_DIM_CAUSE : Field := ⟨0xe0000, 2, 4, .ro, 0, .c, false⟩
def PWR_STATUS_PARKED : Field := ⟨0xe0000, 6, 1, .ro, 0, .c, false⟩
def PWR_STATUS_PWR_FAIL : Field := ⟨0xe0000, 7, 1, .ro, 0, .c, false⟩
def PWR_STATUS_VIN_BAND : Field := ⟨0xe0000, 8, 2, .ro, 3, .c, false⟩
def PWR_STATUS_PLL_IN_SERVICE : Field := ⟨0xe0000, 10, 1, .ro, 0, .c, false⟩
def PWR_STATUS_SPARE_OK : Field := ⟨0xe0000, 11, 1, .ro, 0, .c, false⟩
def PWR_STATUS_OVR_MARK : Field := ⟨0xe0000, 12, 1, .ro, 0, .k, false⟩
def PWR_VIN_VIN : Field := ⟨0xe0004, 0, 10, .ro, 0, .c, false⟩
def PWR_VIN_MIN : Field := ⟨0xe0004, 16, 10, .ro, 1023, .c, false⟩
def PWR_RAILS_CORE : Field := ⟨0xe0008, 0, 12, .ro, 0, .c, false⟩
def PWR_RAILS_IO : Field := ⟨0xe0008, 16, 12, .ro, 0, .c, false⟩
def PWR_RETENTION : Field := ⟨0xe000c, 0, 12, .ro, 0, .c, false⟩
def PWR_TEMP_TEMP (i : Nat) : Field := ⟨0xe0010 + 0x4 * i, 0, 16, .ro, 0, .c, false⟩
def PWR_TEMP_MAX (i : Nat) : Field := ⟨0xe0010 + 0x4 * i, 16, 16, .ro, 32768, .c, false⟩
def PWR_TEMP_LIM_LIM0 : Field := ⟨0xe0020, 0, 8, .ro, 110, .k, false⟩
def PWR_TEMP_LIM_LIM1 : Field := ⟨0xe0020, 8, 8, .ro, 110, .k, false⟩
def PWR_TEMP_LIM_LIM2 : Field := ⟨0xe0020, 16, 8, .ro, 95, .k, false⟩
def PWR_TEMP_LIM_LIM3 : Field := ⟨0xe0020, 24, 8, .ro, 100, .k, false⟩
def PWR_CLOCK_PLL0_LOCK : Field := ⟨0xe0024, 0, 1, .ro, 0, .c, false⟩
def PWR_CLOCK_PLL1_LOCK : Field := ⟨0xe0024, 1, 1, .ro, 0, .c, false⟩
def PWR_CLOCK_REF_OK : Field := ⟨0xe0024, 2, 1, .ro, 0, .c, false⟩
def PWR_CLOCK_FENCED : Field := ⟨0xe0024, 4, 2, .ro, 0, .k, false⟩
def PWR_CLOCK_MARGIN : Field := ⟨0xe0024, 8, 8, .ro, 0, .c, false⟩
def PWR_CLOCK_TB_DEV : Field := ⟨0xe0024, 16, 16, .ro, 0, .c, false⟩
def PWR_DIM_COUNT_ENTER_200 : Field := ⟨0xe0030, 0, 16, .ro, 0, .c, false⟩
def PWR_DIM_COUNT_ENTER_100 : Field := ⟨0xe0030, 16, 16, .ro, 0, .c, false⟩
def PWR_DIM_TIME_200 : Field := ⟨0xe0034, 0, 32, .ro, 0, .c, false⟩
def PWR_DIM_TIME_100 : Field := ⟨0xe0038, 0, 32, .ro, 0, .c, false⟩
def PWR_PARK_TIME : Field := ⟨0xe003c, 0, 32, .ro, 0, .c, false⟩
def PWR_RESET_CAUSE_KIND : Field := ⟨0xe0040, 0, 2, .ro, 0, .c, false⟩
def PWR_RESET_CAUSE_CAUSE : Field := ⟨0xe0040, 4, 4, .ro, 0, .c, false⟩
def PWR_RESET_CAUSE_DIP_MS : Field := ⟨0xe0040, 16, 16, .ro, 0, .c, false⟩
def PWR_PCC : Field := ⟨0xe0044, 0, 32, .ro, 0, .k, false⟩
def PWR_OPTIME_LO : Field := ⟨0xe0048, 0, 32, .ro, 0, .h, false⟩
def PWR_OPTIME_HI : Field := ⟨0xe004c, 0, 32, .ro, 0, .h, false⟩
def PWR_OP_SECONDS : Field := ⟨0xe0050, 0, 32, .ro, 0, .k, false⟩
def PWR_CMD_CMD : Field := ⟨0xe0060, 0, 3, .wo, 0, .c, false⟩
def PWR_CMD_LOGICAL : Field := ⟨0xe0060, 8, 7, .wo, 0, .c, false⟩
def PWR_CMD_CONFIRM : Field := ⟨0xe0060, 16, 16, .wo, 0, .c, false⟩
def PWR_CMD_STATUS_CMD : Field := ⟨0xe0064, 0, 3, .ro, 0, .c, false⟩
def PWR_CMD_STATUS_RESULT : Field := ⟨0xe0064, 4, 2, .ro, 0, .c, false⟩
def PWR_CMD_STATUS_REASON : Field := ⟨0xe0064, 8, 4, .ro, 0, .c, false⟩
def SEC_STATUS_IDENTITY_OK : Field := ⟨0xf0000, 0, 1, .ro, 0, .c, false⟩
def SEC_STATUS_RNG_HEALTHY : Field := ⟨0xf0000, 1, 1, .ro, 0, .c, false⟩
def SEC_STATUS_SW2 : Field := ⟨0xf0000, 2, 1, .ro, 0, .c, false⟩
def SEC_STATUS_KEY_BUSY : Field := ⟨0xf0000, 3, 1, .ro, 0, .c, false⟩
def SEC_STATUS_SLOTS : Field := ⟨0xf0000, 4, 4, .ro, 0, .k, false⟩
def SEC_KEY_CMD_CMD : Field := ⟨0xf0010, 0, 2, .wo, 0, .c, false⟩
def SEC_KEY_CMD_SLOT : Field := ⟨0xf0010, 4, 2, .wo, 0, .c, false⟩
def SEC_KEY_CMD_CONFIRM : Field := ⟨0xf0010, 16, 16, .wo, 0, .c, false⟩
def SEC_KEY_STATUS_RESULT : Field := ⟨0xf0014, 0, 2, .ro, 0, .c, false⟩
def SEC_KEY_STATUS_REASON : Field := ⟨0xf0014, 4, 3, .ro, 0, .c, false⟩
def SEC_KEY_STATUS_SLOT : Field := ⟨0xf0014, 8, 2, .ro, 0, .c, false⟩
def SEC_KEY_COUNT_ENROLLED : Field := ⟨0xf0018, 0, 16, .ro, 0, .k, false⟩
def SEC_KEY_COUNT_REMOVED : Field := ⟨0xf0018, 16, 16, .ro, 0, .k, false⟩
def SEC_KEY_INFO_ENROLLED (i : Nat) : Field := ⟨0xf0020 + 0x4 * i, 0, 1, .ro, 0, .k, false⟩
def SEC_KEY_INFO_IMAGES (i : Nat) : Field := ⟨0xf0020 + 0x4 * i, 8, 3, .ro, 0, .k, false⟩
def SEC_KEY_BUF (i : Nat) : Field := ⟨0xf0040 + 0x4 * i, 0, 32, .wo, 0, .c, false⟩
def SEC_ATT_CMD : Field := ⟨0xf00a0, 0, 1, .wo, 0, .c, false⟩
def SEC_ATT_NONCE (i : Nat) : Field := ⟨0xf00b0 + 0x4 * i, 0, 32, .rw, 0, .c, false⟩
def SEC_ATT_STATUS_STATE : Field := ⟨0xf00d0, 0, 2, .ro, 0, .c, false⟩
def SEC_ATT_STATUS_REASON : Field := ⟨0xf00d0, 4, 2, .ro, 0, .c, false⟩
def SEC_ATT_STATUS_PATH : Field := ⟨0xf00d0, 6, 2, .ro, 0, .c, false⟩
def SEC_ATT_SEQ : Field := ⟨0xf00d4, 0, 32, .ro, 0, .k, false⟩
def SEC_RNG : Field := ⟨0xf00e0, 0, 32, .ro, 0, .c, false⟩
def SEC_RNG_STATUS_HEALTHY : Field := ⟨0xf00e4, 0, 1, .ro, 0, .c, false⟩
def SEC_RNG_STATUS_FAILS : Field := ⟨0xf00e4, 8, 8, .ro, 0, .c, false⟩
def SEC_BUF_SEL_OBJECT : Field := ⟨0xf0100, 0, 3, .rw, 0, .c, false⟩
def SEC_BUF_SEL_PART : Field := ⟨0xf0100, 4, 1, .rw, 0, .c, false⟩
def SEC_BUF (i : Nat) : Field := ⟨0xf0200 + 0x4 * i, 0, 32, .ro, 0, .c, false⟩

end Reg

open Reg in
/-- Registers of the identity block (Table 01-6), part 1. -/
def identityRows1 : List RegRow :=
  [ ⟨0x0, 4, 1, fun _ => [SEC_PART_ID_PART, SEC_PART_ID_CODE, SEC_PART_ID_STEPPING]⟩,
    ⟨0x4, 4, 1, fun _ => [SEC_SERIAL_LO]⟩,
    ⟨0x8, 4, 1, fun _ => [SEC_SERIAL_HI]⟩,
    ⟨0xc, 4, 1, fun _ => [IMG_MODULE_STATE_PHASE, IMG_MODULE_STATE_LISTENING, IMG_MODULE_STATE_ROLE, IMG_MODULE_STATE_SAFE_STATE, IMG_MODULE_STATE_DIM, IMG_MODULE_STATE_OVERRIDE_ACTIVE, IMG_MODULE_STATE_SPARE_IN_USE]⟩,
    ⟨0x10, 4, 1, fun _ => [EVT_GROUP_SUMMARY]⟩ ]

/-- Registers of the identity block (Table 01-6). -/
def identityRows : List RegRow := identityRows1

open Reg in
/-- Registers of the image block (Table 01-6), part 1. -/
def imageRows1 : List RegRow :=
  [ ⟨0x10000, 4, 1, fun _ => [IMG_STATUS_LOADED_BANK, IMG_STATUS_DESIGNATED_BANK, IMG_STATUS_FALLBACK, IMG_STATUS_TS_ACTIVE_SLOT, IMG_STATUS_ATLAS_KEPT, IMG_STATUS_BANK0_STATE, IMG_STATUS_BANK1_STATE, IMG_STATUS_SLOT0_STATE, IMG_STATUS_SLOT1_STATE, IMG_STATUS_TS_INCOMING_STATE]⟩,
    ⟨0x10004, 4, 1, fun _ => [IMG_SEAL_IMAGE_SET_ID, IMG_SEAL_SWITCH_CODE, IMG_SEAL_SW1, IMG_SEAL_SW2, IMG_SEAL_MATCH]⟩,
    ⟨0x10008, 4, 1, fun _ => [IMG_LOADED_ID_LO]⟩,
    ⟨0x1000c, 4, 1, fun _ => [IMG_LOADED_ID_HI]⟩,
    ⟨0x10010, 4, 1, fun _ => [IMG_WRITE_CTRL_CMD, IMG_WRITE_CTRL_TARGET]⟩,
    ⟨0x10014, 4, 1, fun _ => [IMG_WRITE_LEN]⟩,
    ⟨0x10018, 4, 1, fun _ => [IMG_WRITE_DATA]⟩,
    ⟨0x1001c, 4, 1, fun _ => [IMG_WRITE_STATUS_STATE, IMG_WRITE_STATUS_TARGET, IMG_WRITE_STATUS_OWNER, IMG_WRITE_STATUS_ERR, IMG_WRITE_STATUS_FOREIGN]⟩,
    ⟨0x10020, 4, 1, fun _ => [IMG_WRITE_COUNT]⟩,
    ⟨0x10024, 4, 1, fun _ => [IMG_ACTIVATE_BANK, IMG_ACTIVATE_CONFIRM]⟩,
    ⟨0x10028, 4, 1, fun _ => [IMG_STAGE_CMD, IMG_STAGE_SLOT]⟩,
    ⟨0x1002c, 4, 1, fun _ => [IMG_STAGE_STATUS_PROGRESS, IMG_STAGE_STATUS_ERR, IMG_STAGE_STATUS_SLOT]⟩,
    ⟨0x10030, 4, 1, fun _ => [IMG_LOAD_TIMES_CTRL_READY_US, IMG_LOAD_TIMES_ATLAS_READY_MS]⟩,
    ⟨0x10034, 4, 1, fun _ => [IMG_DIGEST_SEL]⟩,
    ⟨0x10040, 0x4, 12, fun i => [IMG_DIGEST i]⟩ ]

/-- Registers of the image block (Table 01-6). -/
def imageRows : List RegRow := imageRows1

open Reg in
/-- Registers of the dispatcher block (Table 01-6), part 1. -/
def dispatcherRows1 : List RegRow :=
  [ ⟨0x20000, 4, 1, fun _ => [DSP_STATUS_ALLOC_COUNT, DSP_STATUS_SPARES_FREE, DSP_STATUS_FENCED, DSP_STATUS_RELAY_BUSY, DSP_STATUS_BACKPRESSURE, DSP_STATUS_FACET_LOST]⟩,
    ⟨0x20020, 0x4, 8, fun i => [DSP_READY_OCC i, DSP_READY_PEAK i]⟩,
    ⟨0x20040, 4, 1, fun _ => [DSP_DELAY_TIME_OCC, DSP_DELAY_TIME_PEAK]⟩,
    ⟨0x20044, 4, 1, fun _ => [DSP_DELAY_POS_OCC_UP, DSP_DELAY_POS_OCC_DOWN, DSP_DELAY_POS_PEAK]⟩,
    ⟨0x20048, 4, 1, fun _ => [DSP_COLLECT_MAX_BURST, DSP_COLLECT_MAX_WAIT]⟩,
    ⟨0x2004c, 4, 1, fun _ => [DSP_BP_COUNT_READY_FULL, DSP_BP_COUNT_DELAY_FULL, DSP_BP_COUNT_TICKS_MERGED, DSP_BP_COUNT_DISABLED_HIT, DSP_BP_COUNT_DOORBELL_LOST]⟩,
    ⟨0x20050, 4, 1, fun _ => [DSP_OVERRUNS]⟩,
    ⟨0x20054, 4, 1, fun _ => [DSP_PEAK_CLEAR]⟩,
    ⟨0x20060, 4, 1, fun _ => [DSP_COUNTER_SEL]⟩,
    ⟨0x20064, 4, 1, fun _ => [DSP_COUNTER_VALUE, DSP_COUNTER_INITIAL, DSP_COUNTER_HOST_OK]⟩,
    ⟨0x20068, 4, 1, fun _ => [DSP_COUNTER_FIRES]⟩,
    ⟨0x2006c, 4, 1, fun _ => [DSP_FLOW_SEL]⟩,
    ⟨0x20070, 4, 1, fun _ => [DSP_FLOW_IN_SERVICE, DSP_FLOW_FACET, DSP_FLOW_NODE]⟩,
    ⟨0x20078, 4, 1, fun _ => [DSP_DOORBELL]⟩,
    ⟨0x20080, 4, 1, fun _ => [DSP_RELAY_CTRL_LOGICAL, DSP_RELAY_CTRL_CONFIRM]⟩,
    ⟨0x20084, 4, 1, fun _ => [DSP_RELAY_STATUS_STATE, DSP_RELAY_STATUS_LOGICAL, DSP_RELAY_STATUS_FROM_PHYS, DSP_RELAY_STATUS_TO_PHYS, DSP_RELAY_STATUS_REASON]⟩,
    ⟨0x20088, 4, 1, fun _ => [DSP_RELAY_COUNT_RELAYS, DSP_RELAY_COUNT_FAULT_RELAYS]⟩,
    ⟨0x20090, 4, 1, fun _ => [DSP_MAP_SEL]⟩,
    ⟨0x20094, 4, 1, fun _ => [DSP_MAP_PHYS, DSP_MAP_VALID, DSP_MAP_RESERVED]⟩,
    ⟨0x200a0, 0x4, 4, fun i => [DSP_FENCED i]⟩,
    ⟨0x200b0, 4, 1, fun _ => [DSP_RELAY_PARAM_MARGIN_WARN, DSP_RELAY_PARAM_ERR_RELAY]⟩ ]

/-- Registers of the dispatcher block (Table 01-6). -/
def dispatcherRows : List RegRow := dispatcherRows1

open Reg in
/-- Registers of the facets block (Table 01-6), part 1. -/
def facetsRows1 : List RegRow :=
  [ ⟨0x30000, 0x100, 112, fun i => [DSP_FCT_STATUS_STATE i, DSP_FCT_STATUS_INDEX i, DSP_FCT_STATUS_TEST_PASS i]⟩,
    ⟨0x30004, 0x100, 112, fun i => [DSP_FCT_NODE_NODE i, DSP_FCT_NODE_RUNNING i, DSP_FCT_NODE_PREF_NODE i, DSP_FCT_NODE_PREFETCHED i]⟩,
    ⟨0x30008, 0x100, 112, fun i => [DSP_FCT_CYCLES_LAST i, DSP_FCT_CYCLES_MAX i]⟩,
    ⟨0x3000c, 0x100, 112, fun i => [DSP_FCT_ITEMS i]⟩,
    ⟨0x30010, 0x100, 112, fun i => [DSP_FCT_MARGIN_MARGIN i, DSP_FCT_MARGIN_MIN i]⟩,
    ⟨0x30014, 0x100, 112, fun i => [DSP_FCT_ECC_CORRECTED i, DSP_FCT_ECC_UNCORRECTED i]⟩,
    ⟨0x30018, 0x100, 112, fun i => [DSP_FCT_STALL_LAST i, DSP_FCT_STALL_MAX i]⟩ ]

/-- Registers of the facets block (Table 01-6). -/
def facetsRows : List RegRow := facetsRows1

open Reg in
/-- Registers of the position block (Table 01-6), part 1. -/
def positionRows1 : List RegRow :=
  [ ⟨0x40000, 4, 1, fun _ => [PFE_STATUS_CONF, PFE_STATUS_MACH_OK, PFE_STATUS_SHAFT_OK, PFE_STATUS_SOURCE, PFE_STATUS_CAUSE, PFE_STATUS_INDEX_LOST, PFE_STATUS_SLIP, PFE_STATUS_MACH_LOST]⟩,
    ⟨0x40004, 4, 1, fun _ => [PFE_POS]⟩,
    ⟨0x40008, 4, 1, fun _ => [PFE_SPEED]⟩,
    ⟨0x4000c, 4, 1, fun _ => [PFE_ACCEL]⟩,
    ⟨0x40010, 4, 1, fun _ => [PFE_SAMPLE_TIME]⟩,
    ⟨0x40014, 4, 1, fun _ => [PFE_OFFSET]⟩,
    ⟨0x40018, 4, 1, fun _ => [PFE_REF_PENDING]⟩,
    ⟨0x4001c, 4, 1, fun _ => [PFE_SHAFT_POS]⟩,
    ⟨0x40020, 4, 1, fun _ => [PFE_LANEB_POS]⟩,
    ⟨0x40024, 4, 1, fun _ => [PFE_SLIP]⟩,
    ⟨0x40028, 4, 1, fun _ => [PFE_REF_LAST_ENTRY, PFE_REF_LAST_RESULT]⟩,
    ⟨0x4002c, 4, 1, fun _ => [PFE_REF_DEV]⟩,
    ⟨0x40040, 4, 1, fun _ => [PFE_MODEL_CFG_MACH_SRC, PFE_MODEL_CFG_DIR_INV, PFE_MODEL_CFG_SSI1_EN, PFE_MODEL_CFG_SPEED_WIN, PFE_MODEL_CFG_ACC_WIN]⟩,
    ⟨0x40044, 4, 1, fun _ => [PFE_SCALE_NUM]⟩,
    ⟨0x40048, 4, 1, fun _ => [PFE_SCALE_DEN]⟩,
    ⟨0x4004c, 4, 1, fun _ => [PFE_SLIP_CFG_SLIP_WARN, PFE_SLIP_CFG_SLIP_LIMIT, PFE_SLIP_CFG_SLIP_TIME]⟩,
    ⟨0x40050, 4, 1, fun _ => [PFE_REF_CFG_REF_SLEW, PFE_REF_CFG_REF_REJECT_N, PFE_REF_CFG_REREF_WIN]⟩,
    ⟨0x40100, 0x40, 2, fun i => [PFE_SC_CFG_LINES i, PFE_SC_CFG_ENABLE i, PFE_SC_CFG_MARK_EN i, PFE_SC_CFG_TERM i, PFE_SC_CFG_SUPPLY_12V i, PFE_SC_CFG_SUPPLY_ON i]⟩,
    ⟨0x40104, 0x40, 2, fun i => [PFE_SC_STATUS_RADIUS i, PFE_SC_STATUS_AMP_OUT i, PFE_SC_STATUS_ILLEGAL i, PFE_SC_STATUS_ILL_KIND i, PFE_SC_STATUS_LOST i, PFE_SC_STATUS_LINE_RATE i]⟩,
    ⟨0x40108, 0x40, 2, fun i => [PFE_SC_COUNT_LO i]⟩,
    ⟨0x4010c, 0x40, 2, fun i => [PFE_SC_COUNT_HI i]⟩,
    ⟨0x40110, 0x40, 2, fun i => [PFE_SC_INDEX_CFG_INDEX_TOL i, PFE_SC_INDEX_CFG_INDEX_GOOD i]⟩,
    ⟨0x40114, 0x40, 2, fun i => [PFE_SC_REF_COUNT i]⟩,
    ⟨0x40118, 0x40, 2, fun i => [PFE_SC_INDEX_LAST_D i, PFE_SC_INDEX_CONSEC i, PFE_SC_INDEX_COMMITTED i, PFE_SC_INDEX_MISSING i]⟩,
    ⟨0x4011c, 0x40, 2, fun i => [PFE_SC_AMP_CFG_AMP_MIN i, PFE_SC_AMP_CFG_AMP_MAX i, PFE_SC_AMP_CFG_AMP_LOSS i]⟩ ]

open Reg in
/-- Registers of the position block (Table 01-6), part 2. -/
def positionRows2 : List RegRow :=
  [ ⟨0x40120, 0x40, 2, fun i => [PFE_SC_CAL_OFS_SIN_OFS i, PFE_SC_CAL_OFS_COS_OFS i]⟩,
    ⟨0x40124, 0x40, 2, fun i => [PFE_SC_CAL_GP_GAIN i, PFE_SC_CAL_GP_PHASE i]⟩,
    ⟨0x40200, 0x20, 6, fun i => [PFE_QD_CFG_FILT i, PFE_QD_CFG_ENABLE i, PFE_QD_CFG_INVERT i, PFE_QD_CFG_DOOR i]⟩,
    ⟨0x40204, 0x20, 6, fun i => [PFE_QD_COUNT i]⟩,
    ⟨0x40208, 0x20, 6, fun i => [PFE_QD_STATUS_LEVELS i, PFE_QD_STATUS_ILLEGAL i, PFE_QD_STATUS_HOMED i, PFE_QD_STATUS_ILL_COUNT i]⟩,
    ⟨0x4020c, 0x20, 6, fun i => [PFE_QD_POS i]⟩,
    ⟨0x40210, 0x20, 6, fun i => [PFE_QD_SCALE i]⟩,
    ⟨0x40300, 0x20, 2, fun i => [PFE_SSI_CFG_CLK_KHZ i, PFE_SSI_CFG_PERIOD_US i, PFE_SSI_CFG_MONO_US i, PFE_SSI_CFG_ENABLE i]⟩,
    ⟨0x40304, 0x20, 2, fun i => [PFE_SSI_FMT_FRAME_LEN i, PFE_SSI_FMT_DATA_FIRST i, PFE_SSI_FMT_DATA_BITS i, PFE_SSI_FMT_GRAY i, PFE_SSI_FMT_ERR_POS i, PFE_SSI_FMT_ERR_ACTIVE i, PFE_SSI_FMT_PAR_POS i, PFE_SSI_FMT_PAR_ODD i]⟩,
    ⟨0x40308, 0x20, 2, fun i => [PFE_SSI_RAW i]⟩,
    ⟨0x4030c, 0x20, 2, fun i => [PFE_SSI_POS i]⟩,
    ⟨0x40310, 0x20, 2, fun i => [PFE_SSI_SCALE i]⟩,
    ⟨0x40314, 0x20, 2, fun i => [PFE_SSI_OFFSET i]⟩,
    ⟨0x40318, 0x20, 2, fun i => [PFE_SSI_STATUS_LAST_ERR i, PFE_SSI_STATUS_LOST i, PFE_SSI_STATUS_CONSEC_BAD i, PFE_SSI_STATUS_BAD_COUNT i]⟩,
    ⟨0x4031c, 0x20, 2, fun i => [PFE_SSI_CHECK_JUMP i, PFE_SSI_CHECK_LATENCY_US i, PFE_SSI_CHECK_FAIL_N i]⟩,
    ⟨0x40380, 0x10, 2, fun i => [PFE_EMU_CFG_SOURCE i, PFE_EMU_CFG_ENABLE i, PFE_EMU_CFG_Z_MODE i, PFE_EMU_CFG_SWAP i, PFE_EMU_CFG_Z_PERIOD i]⟩,
    ⟨0x40384, 0x10, 2, fun i => [PFE_EMU_NUM i]⟩,
    ⟨0x40388, 0x10, 2, fun i => [PFE_EMU_DEN i]⟩,
    ⟨0x4038c, 0x10, 2, fun i => [PFE_EMU_STATUS_BACKLOG i, PFE_EMU_STATUS_OVERFLOW i, PFE_EMU_STATUS_MAX_BACKLOG i]⟩ ]

/-- Registers of the position block (Table 01-6). -/
def positionRows : List RegRow := positionRows1 ++ positionRows2

open Reg in
/-- Registers of the reticle block (Table 01-6), part 1. -/
def reticleRows1 : List RegRow :=
  [ ⟨0x50000, 4, 1, fun _ => [RET_STATUS_CAR_ARMED, RET_STATUS_CAR_STAGED, RET_STATUS_CAR_LOADING, RET_STATUS_DOOR_STAGED, RET_STATUS_DOOR_LOADING, RET_STATUS_DOOR_HOMED]⟩,
    ⟨0x50004, 4, 1, fun _ => [RET_CAR_PROG]⟩,
    ⟨0x50008, 4, 1, fun _ => [RET_CAR_STAGE_PROG]⟩,
    ⟨0x50010, 0x4, 4, fun i => [RET_DOOR_PROG i]⟩,
    ⟨0x50020, 0x4, 4, fun i => [RET_DOOR_STAGE_PROG i]⟩,
    ⟨0x50040, 0x4, 8, fun i => [RET_CAR_ARMED i]⟩,
    ⟨0x50060, 0x4, 8, fun i => [RET_CAR_FIRED i]⟩,
    ⟨0x50080, 0x4, 8, fun i => [RET_DOOR_ARMED i]⟩,
    ⟨0x500a0, 4, 1, fun _ => [RET_FIRE_COUNT]⟩,
    ⟨0x500a4, 4, 1, fun _ => [RET_EXC_COUNT_WITHHELD, RET_EXC_COUNT_LATE, RET_EXC_COUNT_CONFLICT, RET_EXC_COUNT_POST_LOST]⟩,
    ⟨0x500a8, 4, 1, fun _ => [RET_POST_PENDING, RET_POST_PEAK]⟩,
    ⟨0x500ac, 4, 1, fun _ => [RET_LAST_SLOT, RET_LAST_SET, RET_LAST_LATE, RET_LAST_TAG]⟩,
    ⟨0x500b0, 4, 1, fun _ => [RET_MARK_SEL_SLOT, RET_MARK_SEL_SET, RET_MARK_SEL_STAGING]⟩,
    ⟨0x500b4, 4, 1, fun _ => [RET_MARK_THRESH]⟩,
    ⟨0x500b8, 4, 1, fun _ => [RET_MARK_FLAGS_FLAGS, RET_MARK_FLAGS_PRIO, RET_MARK_FLAGS_ARMED, RET_MARK_FLAGS_SIDE, RET_MARK_FLAGS_TAG]⟩,
    ⟨0x500bc, 4, 1, fun _ => [RET_MARK_ACTION]⟩,
    ⟨0x500c0, 4, 1, fun _ => [RET_STAT_CLEAR]⟩,
    ⟨0x500c4, 4, 1, fun _ => [RET_CAP_SEL]⟩,
    ⟨0x500c8, 4, 1, fun _ => [RET_CAP_POS]⟩,
    ⟨0x500cc, 4, 1, fun _ => [RET_CAP_SPEED]⟩,
    ⟨0x500d0, 4, 1, fun _ => [RET_CAP_TIME]⟩,
    ⟨0x500d4, 4, 1, fun _ => [RET_CAP_INFO_SLOT, RET_CAP_INFO_SET, RET_CAP_INFO_LATE, RET_CAP_INFO_OVERWRITTEN, RET_CAP_INFO_VALID, RET_CAP_INFO_TAG]⟩ ]

/-- Registers of the reticle block (Table 01-6). -/
def reticleRows : List RegRow := reticleRows1

open Reg in
/-- Registers of the trips block (Table 01-6), part 1. -/
def tripsRows1 : List RegRow :=
  [ ⟨0x60000, 4, 1, fun _ => [TRIP_STATUS_STATE, TRIP_STATUS_DIR, TRIP_STATUS_SEG, TRIP_STATUS_KIND, TRIP_STATUS_LOAD_CLASS, TRIP_STATUS_PROFILE, TRIP_STATUS_CONTINUATION, TRIP_STATUS_FINISH, TRIP_STATUS_STOP_CAUSE, TRIP_STATUS_TRIP_LIMIT, TRIP_STATUS_FULL_ATLAS, TRIP_STATUS_CAR_STOP]⟩,
    ⟨0x60004, 4, 1, fun _ => [TRIP_ID]⟩,
    ⟨0x60008, 4, 1, fun _ => [TRIP_TARGET_TARGET, TRIP_TARGET_ORIGIN, TRIP_TARGET_BIN, TRIP_TARGET_PEAK_BIN]⟩,
    ⟨0x6000c, 4, 1, fun _ => [TRIP_DEST_POS]⟩,
    ⟨0x60010, 4, 1, fun _ => [TRIP_REF_POS]⟩,
    ⟨0x60014, 4, 1, fun _ => [TRIP_REF_SPEED]⟩,
    ⟨0x60018, 4, 1, fun _ => [TRIP_REF_ACCEL]⟩,
    ⟨0x6001c, 4, 1, fun _ => [TRIP_SEG_TIME]⟩,
    ⟨0x60020, 4, 1, fun _ => [TRIP_SPLICE_CAR_STOP, TRIP_SPLICE_STATE, TRIP_SPLICE_ALT]⟩,
    ⟨0x60024, 4, 1, fun _ => [TRIP_SPLICE_C]⟩,
    ⟨0x60028, 4, 1, fun _ => [TRIP_SPLICE_X]⟩,
    ⟨0x60030, 4, 1, fun _ => [TRIP_V_LIM]⟩,
    ⟨0x60034, 4, 1, fun _ => [TRIP_A_LIM]⟩,
    ⟨0x60038, 4, 1, fun _ => [TRIP_J_LIM]⟩,
    ⟨0x6003c, 4, 1, fun _ => [TRIP_TOL_P_TOL, TRIP_TOL_V_TOL, TRIP_TOL_A_TOL]⟩,
    ⟨0x60040, 4, 1, fun _ => [TRIP_LIMIT_STATUS_LAST, TRIP_LIMIT_STATUS_CONT, TRIP_LIMIT_STATUS_LIMIT_N, TRIP_LIMIT_STATUS_VIOLATIONS]⟩,
    ⟨0x60050, 4, 1, fun _ => [TRIP_STOPS_COUNT, TRIP_STOPS_NEXT]⟩,
    ⟨0x60054, 4, 1, fun _ => [TRIP_STOP_SEL]⟩,
    ⟨0x60058, 4, 1, fun _ => [TRIP_STOP_ENTRY_LANDING, TRIP_STOP_ENTRY_DECK, TRIP_STOP_ENTRY_DOORS, TRIP_STOP_ENTRY_PROFILE, TRIP_STOP_ENTRY_STATE, TRIP_STOP_ENTRY_REQ_ID]⟩,
    ⟨0x6005c, 4, 1, fun _ => [TRIP_REQ_COUNT_RUN, TRIP_REQ_COUNT_QUEUED, TRIP_REQ_COUNT_REFUSED, TRIP_REQ_COUNT_DEMOTED]⟩,
    ⟨0x60060, 4, 1, fun _ => [TRIP_SEP_STATUS_NBR_UP, TRIP_SEP_STATUS_NBR_DOWN, TRIP_SEP_STATUS_UP_STATE, TRIP_SEP_STATUS_DOWN_STATE, TRIP_SEP_STATUS_WAIT]⟩,
    ⟨0x60064, 4, 1, fun _ => [TRIP_SEP_GAP_UP]⟩,
    ⟨0x60068, 4, 1, fun _ => [TRIP_SEP_GAP_DOWN]⟩,
    ⟨0x6006c, 4, 1, fun _ => [TRIP_SEP_CFG_SEP_MARGIN, TRIP_SEP_CFG_SEP_CLEAR_MS]⟩,
    ⟨0x60070, 4, 1, fun _ => [TRIP_SEP_COUNT_STOPS, TRIP_SEP_COUNT_HARD]⟩ ]

open Reg in
/-- Registers of the trips block (Table 01-6), part 2. -/
def tripsRows2 : List RegRow :=
  [ ⟨0x60080, 4, 1, fun _ => [TRIP_CMD_CMD, TRIP_CMD_DIR, TRIP_CMD_CONFIRM]⟩,
    ⟨0x60084, 4, 1, fun _ => [TRIP_OOS_CAUSES, TRIP_OOS_LAST, TRIP_OOS_BT_PENDING]⟩ ]

/-- Registers of the trips block (Table 01-6). -/
def tripsRows : List RegRow := tripsRows1 ++ tripsRows2

open Reg in
/-- Registers of the loops block (Table 01-6), part 1. -/
def loopsRows1 : List RegRow :=
  [ ⟨0x70000, 4, 1, fun _ => [LOOP_STATUS_IN_USE, LOOP_STATUS_FAULT, LOOP_STATUS_SPARES, LOOP_STATUS_CHECK_LOOP, LOOP_STATUS_CMD_REFUSED]⟩,
    ⟨0x70004, 4, 1, fun _ => [LOOP_MAP]⟩,
    ⟨0x70008, 4, 1, fun _ => [LOOP_FENCED]⟩,
    ⟨0x7000c, 4, 1, fun _ => [LOOP_SUBST_COUNT_SUBST, LOOP_SUBST_COUNT_MISMATCH]⟩,
    ⟨0x70010, 4, 1, fun _ => [LOOP_CMD_LOOP, LOOP_CMD_CMD, LOOP_CMD_CONFIRM]⟩,
    ⟨0x70100, 0x80, 6, fun i => [LOOP_CFG_MODE i, LOOP_CFG_OUT i, LOOP_CFG_N1_EN i, LOOP_CFG_N2_EN i]⟩,
    ⟨0x70104, 0x80, 6, fun i => [LOOP_KP i]⟩,
    ⟨0x70108, 0x80, 6, fun i => [LOOP_KV i]⟩,
    ⟨0x7010c, 0x80, 6, fun i => [LOOP_KI i]⟩,
    ⟨0x70110, 0x80, 6, fun i => [LOOP_KVF i]⟩,
    ⟨0x70114, 0x80, 6, fun i => [LOOP_KAF i]⟩,
    ⟨0x70118, 0x80, 6, fun i => [LOOP_V_CMD_LIM i]⟩,
    ⟨0x7011c, 0x80, 6, fun i => [LOOP_I_LIM i]⟩,
    ⟨0x70120, 0x80, 6, fun i => [LOOP_T_LIM_POS i]⟩,
    ⟨0x70124, 0x80, 6, fun i => [LOOP_T_LIM_NEG i]⟩,
    ⟨0x70128, 0x80, 6, fun i => [LOOP_FE_CFG_FE_LIMIT i, LOOP_FE_CFG_FE_TIME i]⟩,
    ⟨0x7012c, 0x80, 6, fun i => [LOOP_FE_WARN i]⟩,
    ⟨0x70130, 0x80, 6, fun i => [LOOP_SHAFT_SCALE i]⟩,
    ⟨0x70134, 0x80, 6, fun i => [LOOP_NOTCH_SEL_NOTCH i, LOOP_NOTCH_SEL_COEF i]⟩,
    ⟨0x70138, 0x80, 6, fun i => [LOOP_NOTCH_COEF i]⟩,
    ⟨0x70140, 0x80, 6, fun i => [LOOP_ERR_POS i]⟩,
    ⟨0x70144, 0x80, 6, fun i => [LOOP_V_CMD i]⟩,
    ⟨0x70148, 0x80, 6, fun i => [LOOP_INTEGRATOR i]⟩,
    ⟨0x7014c, 0x80, 6, fun i => [LOOP_OUTPUT i]⟩,
    ⟨0x70150, 0x80, 6, fun i => [LOOP_STATE_LIMITED i, LOOP_STATE_I_CLAMPED i, LOOP_STATE_FE_RUNNING i, LOOP_STATE_FOLLOW_ERR i, LOOP_STATE_LOOP_LOST i, LOOP_STATE_FE_TIMER i, LOOP_STATE_LIMITED_COUNT i]⟩ ]

open Reg in
/-- Registers of the loops block (Table 01-6), part 2. -/
def loopsRows2 : List RegRow :=
  [ ⟨0x70154, 0x80, 6, fun i => [LOOP_FE_PEAK i]⟩,
    ⟨0x70158, 0x80, 6, fun i => [LOOP_PRETORQUE_0 i]⟩,
    ⟨0x7015c, 0x80, 6, fun i => [LOOP_PRETORQUE_1 i]⟩,
    ⟨0x70160, 0x80, 6, fun i => [LOOP_PRETORQUE_2 i]⟩,
    ⟨0x70164, 0x80, 6, fun i => [LOOP_PRETORQUE_3 i]⟩,
    ⟨0x70400, 0x40, 4, fun i => [LOOP_DOOR_CFG_CHANNEL i, LOOP_DOOR_CFG_DECK i, LOOP_DOOR_CFG_SIDE i, LOOP_DOOR_CFG_DIR_INV i, LOOP_DOOR_CFG_LC_INPUT i, LOOP_DOOR_CFG_EDGE_INPUT i, LOOP_DOOR_CFG_CLOSED_INPUT i]⟩,
    ⟨0x70404, 0x40, 4, fun i => [LOOP_DOOR_PWM_FS i]⟩,
    ⟨0x70408, 0x40, 4, fun i => [LOOP_DOOR_LIM_DUTY_MAX i, LOOP_DOOR_LIM_KE_N i, LOOP_DOOR_LIM_KE_TRIP i, LOOP_DOOR_LIM_DOOR_SPEED_WIN i]⟩,
    ⟨0x7040c, 0x40, 4, fun i => [LOOP_DOOR_STATUS_STATE i, LOOP_DOOR_STATUS_DOOR_FAULT i, LOOP_DOOR_STATUS_CAUSE i, LOOP_DOOR_STATUS_REV_COUNT i, LOOP_DOOR_STATUS_DECK_HOLD i, LOOP_DOOR_STATUS_LC i, LOOP_DOOR_STATUS_EDGE i, LOOP_DOOR_STATUS_EN i, LOOP_DOOR_STATUS_PROFILE i]⟩,
    ⟨0x70410, 0x40, 4, fun i => [LOOP_DOOR_SPEED i]⟩,
    ⟨0x70414, 0x40, 4, fun i => [LOOP_DOOR_FORCE i]⟩,
    ⟨0x70418, 0x40, 4, fun i => [LOOP_DOOR_OBS_SOURCE i, LOOP_DOOR_OBS_REVERSALS i, LOOP_DOOR_OBS_POS_MM i]⟩,
    ⟨0x7041c, 0x40, 4, fun i => [LOOP_DOOR_KE_KE i, LOOP_DOOR_KE_PEAK i]⟩,
    ⟨0x70420, 0x40, 4, fun i => [LOOP_DOOR_DUTY_DUTY i, LOOP_DOOR_DUTY_DIR i]⟩,
    ⟨0x70500, 4, 1, fun _ => [LOOP_DECK_CFG_CHANNEL, LOOP_DECK_CFG_REF_INPUT, LOOP_DECK_CFG_DECK_TOL]⟩,
    ⟨0x70504, 4, 1, fun _ => [LOOP_DECK_REF_POS]⟩,
    ⟨0x70508, 4, 1, fun _ => [LOOP_DECK_SCALE]⟩,
    ⟨0x7050c, 4, 1, fun _ => [LOOP_DECK_STATUS_HOMED, LOOP_DECK_STATUS_IN_POSITION, LOOP_DECK_STATUS_MOVING, LOOP_DECK_STATUS_DECK_FAULT, LOOP_DECK_STATUS_CAUSE, LOOP_DECK_STATUS_FROM, LOOP_DECK_STATUS_TO]⟩,
    ⟨0x70510, 4, 1, fun _ => [LOOP_DECK_POS]⟩,
    ⟨0x70514, 4, 1, fun _ => [LOOP_DECK_TARGET]⟩,
    ⟨0x70600, 4, 1, fun _ => [LOOP_DL_CFG_NODE1_EN, LOOP_DL_CFG_NODE2_EN, LOOP_DL_CFG_DL_FAIL_N]⟩,
    ⟨0x70604, 4, 1, fun _ => [LOOP_DL_STATUS_1_STATUS, LOOP_DL_STATUS_1_DRIVELINK_LOST, LOOP_DL_STATUS_1_DRIVE_FAULT, LOOP_DL_STATUS_1_CONSEC_BAD, LOOP_DL_STATUS_1_FAULT_CODE, LOOP_DL_STATUS_1_TEMP]⟩,
    ⟨0x70608, 4, 1, fun _ => [LOOP_DL_STATUS_2_STATUS, LOOP_DL_STATUS_2_DRIVELINK_LOST, LOOP_DL_STATUS_2_DRIVE_FAULT, LOOP_DL_STATUS_2_CONSEC_BAD, LOOP_DL_STATUS_2_FAULT_CODE, LOOP_DL_STATUS_2_TEMP]⟩,
    ⟨0x7060c, 4, 1, fun _ => [LOOP_DL_TORQUE_1]⟩,
    ⟨0x70610, 4, 1, fun _ => [LOOP_DL_TORQUE_2]⟩ ]

open Reg in
/-- Registers of the loops block (Table 01-6), part 3. -/
def loopsRows3 : List RegRow :=
  [ ⟨0x70614, 4, 1, fun _ => [LOOP_DL_ERRORS_NODE1, LOOP_DL_ERRORS_NODE2]⟩,
    ⟨0x70618, 4, 1, fun _ => [LOOP_DL_DCBUS_NODE1, LOOP_DL_DCBUS_NODE2]⟩,
    ⟨0x70680, 4, 1, fun _ => [LOOP_AO_FS1]⟩,
    ⟨0x70684, 4, 1, fun _ => [LOOP_AO_FS2]⟩,
    ⟨0x70688, 4, 1, fun _ => [LOOP_AO_CODE_AO1, LOOP_AO_CODE_AO2]⟩ ]

/-- Registers of the loops block (Table 01-6). -/
def loopsRows : List RegRow := loopsRows1 ++ loopsRows2 ++ loopsRows3

open Reg in
/-- Registers of the safety block (Table 01-6), part 1. -/
def safetyRows1 : List RegRow :=
  [ ⟨0x80000, 4, 1, fun _ => [SAF_STATUS_SAFE_STATE, SAF_STATUS_PAIRED, SAF_STATUS_PRISM_LINK, SAF_STATUS_LANE_CLOCK, SAF_STATUS_PARAM_MISMATCH, SAF_STATUS_PERM_MISMATCH, SAF_STATUS_OUT_CMD_MISMATCH, SAF_STATUS_LANE_POS_DIFF, SAF_STATUS_SAFETY_SET_LOAD, SAF_STATUS_SAFETY_SET_MISMATCH, SAF_STATUS_SWITCH_CHANGED, SAF_STATUS_SWITCH_DISAGREE, SAF_STATUS_POS_SINGLE, SAF_STATUS_RWS_REFUSED, SAF_STATUS_OVERRIDE, SAF_STATUS_HELD]⟩,
    ⟨0x80004, 4, 1, fun _ => [SAF_PERIOD]⟩,
    ⟨0x80008, 4, 1, fun _ => [SAF_PRISM_SEQ, SAF_PRISM_CONSEC_MISS, SAF_PRISM_LAST_ITEM]⟩,
    ⟨0x8000c, 4, 1, fun _ => [SAF_PRISM_COUNT_MISSED, SAF_PRISM_COUNT_UNEQUAL]⟩,
    ⟨0x80010, 4, 1, fun _ => [SAF_POS_A]⟩,
    ⟨0x80014, 4, 1, fun _ => [SAF_POS_B]⟩,
    ⟨0x80018, 4, 1, fun _ => [SAF_POS_DIFF]⟩,
    ⟨0x8001c, 4, 1, fun _ => [SAF_SPEED_DIFF]⟩,
    ⟨0x80020, 4, 1, fun _ => [SAF_POS_CFG_POS_WARN, SAF_POS_CFG_POS_LIMIT, SAF_POS_CFG_POS_N]⟩,
    ⟨0x80024, 4, 1, fun _ => [SAF_SPEED_CFG]⟩,
    ⟨0x80028, 4, 1, fun _ => [SAF_TP_CMD, SAF_TP_RB, SAF_TP_TP_FAULT]⟩,
    ⟨0x80030, 4, 1, fun _ => [SAF_SI_CH_OWN, SAF_SI_CH_OTHER]⟩,
    ⟨0x80034, 4, 1, fun _ => [SAF_SI_STATE_STATE, SAF_SI_STATE_MASKED]⟩,
    ⟨0x80038, 4, 1, fun _ => [SAF_SI_FAULT_DISC, SAF_SI_FAULT_WIRING]⟩,
    ⟨0x8003c, 4, 1, fun _ => [SAF_SI_FAULT_LAST_INPUT, SAF_SI_FAULT_LAST_KIND, SAF_SI_FAULT_LAST_CHANNEL, SAF_SI_FAULT_LAST_TP]⟩,
    ⟨0x80040, 0x4, 16, fun i => [SAF_SI_CFG_EN i, SAF_SI_CFG_FAST i, SAF_SI_CFG_ANTI i, SAF_SI_CFG_TP_A i, SAF_SI_CFG_TP_B i, SAF_SI_CFG_FILT i, SAF_SI_CFG_DISC_MS i]⟩,
    ⟨0x80080, 0x4, 16, fun i => [SAF_SI_CUT i]⟩,
    ⟨0x800c0, 4, 1, fun _ => [SAF_OUT_STATE_REQUEST, SAF_OUT_STATE_ENERGIZED]⟩,
    ⟨0x800c4, 4, 1, fun _ => [SAF_OUT_POLES_P_CMD, SAF_OUT_POLES_M_CMD]⟩,
    ⟨0x800c8, 4, 1, fun _ => [SAF_OUT_RB_P_RB, SAF_OUT_RB_M_RB]⟩,
    ⟨0x800cc, 4, 1, fun _ => [SAF_OUT_FAULT]⟩,
    ⟨0x800d0, 0x4, 10, fun i => [SAF_OUT_INFO_KIND i, SAF_OUT_INFO_POLE i, SAF_OUT_INFO_PARTNER i]⟩,
    ⟨0x80100, 0x4, 10, fun i => [SAF_OUT_CFG_EN i, SAF_OUT_CFG_TEST_EN i, SAF_OUT_CFG_PARTNER i]⟩,
    ⟨0x80130, 4, 1, fun _ => [SAF_TEST_CFG_TEST_INTERVAL_S, SAF_TEST_CFG_OUT_PULSE_US]⟩,
    ⟨0x80134, 4, 1, fun _ => [SAF_TP_CFG_TP_PULSE_US, SAF_TP_CFG_TP_SETTLE_US]⟩ ]

open Reg in
/-- Registers of the safety block (Table 01-6), part 2. -/
def safetyRows2 : List RegRow :=
  [ ⟨0x80138, 4, 1, fun _ => [SAF_TEST_STATUS_SLOT, SAF_TEST_STATUS_RUNNING, SAF_TEST_STATUS_SEQUENCES]⟩,
    ⟨0x8013c, 4, 1, fun _ => [SAF_TEST_COUNT_ABORTED, SAF_TEST_COUNT_SKIPPED, SAF_TEST_COUNT_FAILED]⟩,
    ⟨0x80140, 4, 1, fun _ => [SAF_SEAL_CODE_A, SAF_SEAL_SW1_A, SAF_SEAL_CODE_B, SAF_SEAL_SW1_B, SAF_SEAL_MATCH_A, SAF_SEAL_MATCH_B]⟩,
    ⟨0x80150, 4, 1, fun _ => [SAF_PARAM_SEL]⟩,
    ⟨0x80154, 4, 1, fun _ => [SAF_PARAM_VALUE]⟩,
    ⟨0x80158, 4, 1, fun _ => [SAF_PARAM_CONFIRM]⟩,
    ⟨0x8015c, 4, 1, fun _ => [SAF_PARAM_INFO_OVERRIDABLE, SAF_PARAM_INFO_OVERRIDDEN, SAF_PARAM_INFO_OVR_STATE, SAF_PARAM_INFO_REASON]⟩,
    ⟨0x80160, 4, 1, fun _ => [SAF_PARAM_MIN]⟩,
    ⟨0x80164, 4, 1, fun _ => [SAF_PARAM_MAX]⟩,
    ⟨0x80168, 4, 1, fun _ => [SAF_PARAM_APPLIED]⟩,
    ⟨0x80800, 4, 1, fun _ => [SAF_FN_PERM_PERM_A, SAF_FN_PERM_PERM_B]⟩,
    ⟨0x80804, 4, 1, fun _ => [SAF_FN_FAULT_FAULT, SAF_FN_FAULT_FAST_CUT_IN]⟩,
    ⟨0x80810, 0x4, 10, fun i => [SAF_FN_OUT_REQ i, SAF_FN_OUT_FUNC_MASK i]⟩,
    ⟨0x80840, 0x4, 4, fun i => [SAF_ROLE i]⟩,
    ⟨0x80850, 4, 1, fun _ => [SAF_MOTION_STATE_DOORS_CLOSED, SAF_MOTION_STATE_BRIDGED, SAF_MOTION_STATE_UCM_ARMED, SAF_MOTION_STATE_INSPECTION, SAF_MOTION_STATE_QUIET, SAF_MOTION_STATE_SEP_STALE]⟩,
    ⟨0x80854, 4, 1, fun _ => [SAF_UCM_ANCHOR]⟩,
    ⟨0x80860, 4, 1, fun _ => [SAF_BRAKE_STATUS_BRAKE1, SAF_BRAKE_STATUS_BRAKE2, SAF_BRAKE_STATUS_CAUSE1, SAF_BRAKE_STATUS_CAUSE2]⟩,
    ⟨0x80864, 4, 1, fun _ => [SAF_BRAKE_CURRENT_BK1, SAF_BRAKE_CURRENT_BK2]⟩,
    ⟨0x80868, 4, 1, fun _ => [SAF_BRAKE_CFG_1_I_PICK, SAF_BRAKE_CFG_1_I_HOLD_MIN, SAF_BRAKE_CFG_1_T_PICK]⟩,
    ⟨0x8086c, 4, 1, fun _ => [SAF_BRAKE_CFG_2_I_PICK, SAF_BRAKE_CFG_2_I_HOLD_MIN, SAF_BRAKE_CFG_2_T_PICK]⟩,
    ⟨0x80870, 4, 1, fun _ => [SAF_BRAKE_LIM_1_I_MAX, SAF_BRAKE_LIM_1_I_OFF]⟩,
    ⟨0x80874, 4, 1, fun _ => [SAF_BRAKE_LIM_2_I_MAX, SAF_BRAKE_LIM_2_I_OFF]⟩,
    ⟨0x80878, 4, 1, fun _ => [SAF_BRAKE_TIMES_LIFT_TIME_MS, SAF_BRAKE_TIMES_DROP_TIME_MS]⟩,
    ⟨0x80880, 4, 1, fun _ => [SAF_BT_CFG_BT_WIN, SAF_BT_CFG_BT_INTERVAL_H, SAF_BT_CFG_BT_GRACE_H]⟩,
    ⟨0x80884, 4, 1, fun _ => [SAF_BT_TORQUE]⟩ ]

open Reg in
/-- Registers of the safety block (Table 01-6), part 3. -/
def safetyRows3 : List RegRow :=
  [ ⟨0x80888, 4, 1, fun _ => [SAF_BT_TIMES_BT_RAMP_MS, SAF_BT_TIMES_BT_HOLD_MS]⟩,
    ⟨0x8088c, 4, 1, fun _ => [SAF_BT_STATUS_STATE, SAF_BT_STATUS_RESULT1, SAF_BT_STATUS_RESULT2, SAF_BT_STATUS_OVERDUE, SAF_BT_STATUS_HOURS]⟩,
    ⟨0x80890, 4, 1, fun _ => [SAF_BT_MOVE_BRAKE1, SAF_BT_MOVE_BRAKE2]⟩,
    ⟨0x80894, 4, 1, fun _ => [SAF_BT_CMD_CMD, SAF_BT_CMD_CONFIRM]⟩,
    ⟨0x808a0, 4, 1, fun _ => [SAF_SPEED_LIMITS_OS_TRIP, SAF_SPEED_LIMITS_INSP_SPEED]⟩,
    ⟨0x808a4, 4, 1, fun _ => [SAF_DZ_CFG_DZB_WIN, SAF_DZ_CFG_DZB_SPEED, SAF_DZ_CFG_UCM_DIST]⟩,
    ⟨0x808a8, 4, 1, fun _ => [SAF_FINAL_UP]⟩,
    ⟨0x808ac, 4, 1, fun _ => [SAF_FINAL_DN]⟩,
    ⟨0x808b0, 4, 1, fun _ => [SAF_SEP_LANE_SEP_AGE_MS, SAF_SEP_LANE_SEP_DEC, SAF_SEP_LANE_SEP_V_TOL]⟩,
    ⟨0x808b4, 4, 1, fun _ => [SAF_LOCK_CHECK_LOCK_CHECK_MS, SAF_LOCK_CHECK_LOCK_CHECK_N, SAF_LOCK_CHECK_CONSEC, SAF_LOCK_CHECK_MISSES]⟩,
    ⟨0x808c0, 4, 1, fun _ => [SAF_RESET_STATUS_SRST_A, SAF_RESET_STATUS_SRST_B, SAF_RESET_STATUS_NET_LINE, SAF_RESET_STATUS_STUCK, SAF_RESET_STATUS_LAST_RESULT, SAF_RESET_STATUS_REASON, SAF_RESET_STATUS_BLOCKING]⟩,
    ⟨0x808c4, 4, 1, fun _ => [SAF_RESET_COUNT_ACCEPTED, SAF_RESET_COUNT_REFUSED]⟩ ]

/-- Registers of the safety block (Table 01-6). -/
def safetyRows : List RegRow := safetyRows1 ++ safetyRows2 ++ safetyRows3

open Reg in
/-- Registers of the fieldIo block (Table 01-6), part 1. -/
def fieldIoRows1 : List RegRow :=
  [ ⟨0x90000, 4, 1, fun _ => [FIO_STATUS_FS1_BAND, FIO_STATUS_FS2A_BAND, FIO_STATUS_FS2B_BAND, FIO_STATUS_STANDBY_OFF, FIO_STATUS_DO_FAULT, FIO_STATUS_DI_FAULT, FIO_STATUS_CPL_SPARE_USED, FIO_STATUS_CPL_LOST]⟩,
    ⟨0x90004, 4, 1, fun _ => [FIO_FS1_VOLT, FIO_FS1_MIN]⟩,
    ⟨0x90008, 4, 1, fun _ => [FIO_FS2A_VOLT, FIO_FS2A_MIN]⟩,
    ⟨0x9000c, 4, 1, fun _ => [FIO_FS2B_VOLT, FIO_FS2B_MIN]⟩,
    ⟨0x90010, 4, 1, fun _ => [FIO_DI_STATE_LO]⟩,
    ⟨0x90014, 4, 1, fun _ => [FIO_DI_STATE_HI]⟩,
    ⟨0x90018, 4, 1, fun _ => [FIO_DI_BREAK_LO]⟩,
    ⟨0x9001c, 4, 1, fun _ => [FIO_DI_BREAK_HI]⟩,
    ⟨0x90020, 4, 1, fun _ => [FIO_DI_UNDEF_LO]⟩,
    ⟨0x90024, 4, 1, fun _ => [FIO_DI_UNDEF_HI]⟩,
    ⟨0x90028, 4, 1, fun _ => [FIO_DI_CUR_SEL]⟩,
    ⟨0x9002c, 4, 1, fun _ => [FIO_DI_CURRENT_CURRENT, FIO_DI_CURRENT_CLASS]⟩,
    ⟨0x90030, 4, 1, fun _ => [FIO_DO_CMD]⟩,
    ⟨0x90034, 4, 1, fun _ => [FIO_DO_RB]⟩,
    ⟨0x90038, 4, 1, fun _ => [FIO_DO_FAULT]⟩,
    ⟨0x90040, 4, 1, fun _ => [FIO_TEST_CFG_DO_PULSE_US, FIO_TEST_CFG_DO_TEST_EVERY]⟩,
    ⟨0x90044, 4, 1, fun _ => [FIO_TEST_COUNT_ABORTED, FIO_TEST_COUNT_SKIPPED, FIO_TEST_COUNT_FAILED, FIO_TEST_COUNT_SEQUENCES]⟩,
    ⟨0x90048, 4, 1, fun _ => [FIO_HOLD_COUNT_HOLDS, FIO_HOLD_COUNT_LONGEST]⟩,
    ⟨0x9004c, 4, 1, fun _ => [FIO_CMD_OUTPUT, FIO_CMD_CMD, FIO_CMD_CONFIRM]⟩,
    ⟨0x90050, 4, 1, fun _ => [FIO_CPL_SPARE]⟩,
    ⟨0x90054, 4, 1, fun _ => [FIO_CPL_LOST]⟩,
    ⟨0x90058, 4, 1, fun _ => [FIO_CPL_SEL_GROUP, FIO_CPL_SEL_LANE]⟩,
    ⟨0x9005c, 4, 1, fun _ => [FIO_CPL_LANE_MARGIN, FIO_CPL_LANE_MIN, FIO_CPL_LANE_ERRORS, FIO_CPL_LANE_STATE]⟩,
    ⟨0x90060, 4, 1, fun _ => [FIO_CPL_COUNT_TAKEOVERS, FIO_CPL_COUNT_FAILURES]⟩,
    ⟨0x90064, 4, 1, fun _ => [FIO_CPL_PARAM_CPL_WARN, FIO_CPL_PARAM_CPL_ERR]⟩ ]

open Reg in
/-- Registers of the fieldIo block (Table 01-6), part 2. -/
def fieldIoRows2 : List RegRow :=
  [ ⟨0x90100, 0x4, 24, fun i => [FIO_DO_INFO_KIND i, FIO_DO_INFO_PARTNER i, FIO_DO_INFO_OVERLOADS i]⟩,
    ⟨0x90200, 0x4, 48, fun i => [FIO_DI_CFG_EN i, FIO_DI_CFG_TYPE i, FIO_DI_CFG_WB i, FIO_DI_CFG_INVERT i, FIO_DI_CFG_DI_FILT i]⟩,
    ⟨0x90300, 0x4, 24, fun i => [FIO_DO_CFG_EN i, FIO_DO_CFG_RB_EN i, FIO_DO_CFG_TEST_EN i, FIO_DO_CFG_PARTNER i, FIO_DO_CFG_HOLD_TIME i]⟩ ]

/-- Registers of the fieldIo block (Table 01-6). -/
def fieldIoRows : List RegRow := fieldIoRows1 ++ fieldIoRows2

open Reg in
/-- Registers of the networks block (Table 01-6), part 1. -/
def networksRows1 : List RegRow :=
  [ ⟨0xa0000, 4, 1, fun _ => [NET_STATUS_LINK, NET_STATUS_ADDR_STATE, NET_STATUS_LISTENING, NET_STATUS_PTP_A, NET_STATUS_PTP_B, NET_STATUS_PTP_SOURCE, NET_STATUS_PORT_REVERSED, NET_STATUS_CHAIN_ORDER, NET_STATUS_TRANSPARENT, NET_STATUS_CMD_REFUSED]⟩,
    ⟨0xa0004, 4, 1, fun _ => [NET_ADDR_ADDRESS, NET_ADDR_SIDE, NET_ADDR_PAIRED, NET_ADDR_ENUM_ID]⟩,
    ⟨0xa0008, 4, 1, fun _ => [NET_ADDR_CMD_CMD, NET_ADDR_CMD_CONFIRM]⟩,
    ⟨0xa0010, 4, 1, fun _ => [NET_ADJ_A1_ADDRESS, NET_ADJ_A1_SIDE, NET_ADJ_A1_COMMITTED, NET_ADJ_A1_PRESENT, NET_ADJ_A1_LISTENING, NET_ADJ_A1_SERIAL]⟩,
    ⟨0xa0014, 4, 1, fun _ => [NET_ADJ_A2_ADDRESS, NET_ADJ_A2_SIDE, NET_ADJ_A2_COMMITTED, NET_ADJ_A2_PRESENT, NET_ADJ_A2_LISTENING, NET_ADJ_A2_SERIAL]⟩,
    ⟨0xa0018, 4, 1, fun _ => [NET_ADJ_B1_ADDRESS, NET_ADJ_B1_SIDE, NET_ADJ_B1_COMMITTED, NET_ADJ_B1_PRESENT, NET_ADJ_B1_LISTENING, NET_ADJ_B1_SERIAL]⟩,
    ⟨0xa001c, 4, 1, fun _ => [NET_ADJ_B2_ADDRESS, NET_ADJ_B2_SIDE, NET_ADJ_B2_COMMITTED, NET_ADJ_B2_PRESENT, NET_ADJ_B2_LISTENING, NET_ADJ_B2_SERIAL]⟩,
    ⟨0xa0020, 4, 1, fun _ => [NET_MAC_A_LO]⟩,
    ⟨0xa0024, 4, 1, fun _ => [NET_MAC_A_HI]⟩,
    ⟨0xa0028, 4, 1, fun _ => [NET_MAC_B_LO]⟩,
    ⟨0xa002c, 4, 1, fun _ => [NET_MAC_B_HI]⟩,
    ⟨0xa0030, 4, 1, fun _ => [NET_MAP_CFG_ETHERTYPE, NET_MAP_CFG_NBR_HOPS, NET_MAP_CFG_OWN_ADDR, NET_MAP_CFG_RESET_EN, NET_MAP_CFG_MGMT_WRITERS]⟩,
    ⟨0xa0034, 4, 1, fun _ => [NET_PATH_CFG_SKEW_US, NET_PATH_CFG_SINGLE_PATH_MS]⟩,
    ⟨0xa0038, 4, 1, fun _ => [NET_NBR_CFG_NBR_UP, NET_NBR_CFG_NBR_DOWN, NET_NBR_CFG_NBR_AGE_US]⟩,
    ⟨0xa003c, 4, 1, fun _ => [NET_MISC_CFG_PTP_DOMAIN, NET_MISC_CFG_EVT_FRAME_RATE]⟩,
    ⟨0xa0040, 4, 1, fun _ => [NET_NBR_UP_PATH, NET_NBR_UP_TIMEOUT, NET_NBR_UP_SIDE, NET_NBR_UP_DUAL_RUN, NET_NBR_UP_AGE_US]⟩,
    ⟨0xa0044, 4, 1, fun _ => [NET_NBR_DOWN_PATH, NET_NBR_DOWN_TIMEOUT, NET_NBR_DOWN_SIDE, NET_NBR_DOWN_DUAL_RUN, NET_NBR_DOWN_AGE_US]⟩,
    ⟨0xa0048, 4, 1, fun _ => [NET_NBR_COUNT_TIMEOUTS, NET_NBR_COUNT_STALE]⟩,
    ⟨0xa004c, 4, 1, fun _ => [NET_PATH_COUNT_MISMATCH, NET_PATH_COUNT_EXPIRED, NET_PATH_COUNT_SINGLE, NET_PATH_COUNT_CRC_ERR]⟩,
    ⟨0xa0050, 4, 1, fun _ => [NET_PORT_A1_FCS_ERR, NET_PORT_A1_DROPPED]⟩,
    ⟨0xa0054, 4, 1, fun _ => [NET_PORT_A2_FCS_ERR, NET_PORT_A2_DROPPED]⟩,
    ⟨0xa0058, 4, 1, fun _ => [NET_PORT_B1_FCS_ERR, NET_PORT_B1_DROPPED]⟩,
    ⟨0xa005c, 4, 1, fun _ => [NET_PORT_B2_FCS_ERR, NET_PORT_B2_DROPPED]⟩,
    ⟨0xa0060, 4, 1, fun _ => [NET_FOREIGN_FOREIGN, NET_FOREIGN_STALE]⟩,
    ⟨0xa0064, 4, 1, fun _ => [NET_RX_BUF_RESET, NET_RX_BUF_MGMT, NET_RX_BUF_REQUEST, NET_RX_BUF_NBR]⟩ ]

open Reg in
/-- Registers of the networks block (Table 01-6), part 2. -/
def networksRows2 : List RegRow :=
  [ ⟨0xa0070, 4, 1, fun _ => [NET_PTP_OFFSET_A]⟩,
    ⟨0xa0074, 4, 1, fun _ => [NET_PTP_OFFSET_B]⟩,
    ⟨0xa0078, 4, 1, fun _ => [NET_PTP_PDELAY_A_PORT1, NET_PTP_PDELAY_A_PORT2]⟩,
    ⟨0xa007c, 4, 1, fun _ => [NET_PTP_PDELAY_B_PORT1, NET_PTP_PDELAY_B_PORT2]⟩,
    ⟨0xa0080, 4, 1, fun _ => [NET_PTP_TIME_NS]⟩,
    ⟨0xa0084, 4, 1, fun _ => [NET_PTP_TIME_SEC_LO]⟩,
    ⟨0xa0088, 4, 1, fun _ => [NET_PTP_TIME_SEC_HI]⟩,
    ⟨0xa008c, 4, 1, fun _ => [NET_PTP_GM_LO]⟩,
    ⟨0xa0090, 4, 1, fun _ => [NET_PTP_GM_HI]⟩,
    ⟨0xa00a0, 4, 1, fun _ => [NET_SNAP_STATUS_BANKS, NET_SNAP_STATUS_NEXT, NET_SNAP_STATUS_ARMED, NET_SNAP_STATUS_LAST_TAG]⟩,
    ⟨0xa00a4, 4, 1, fun _ => [NET_SNAP_ARMED_TAG, NET_SNAP_ARMED_OVERWRITE]⟩,
    ⟨0xa00a8, 4, 1, fun _ => [NET_SNAP_AT_LO]⟩,
    ⟨0xa00ac, 4, 1, fun _ => [NET_SNAP_AT_HI]⟩,
    ⟨0xa00b0, 4, 1, fun _ => [NET_SNAP_RELEASE]⟩,
    ⟨0xa00b4, 4, 1, fun _ => [NET_SNAP_COUNT_TAKEN, NET_SNAP_COUNT_REFUSED, NET_SNAP_COUNT_UNLOCKED]⟩,
    ⟨0xa00c0, 4, 1, fun _ => [NET_RESET_LINE, NET_RESET_ABANDONING, NET_RESET_ABANDONED, NET_RESET_RESET_ID]⟩,
    ⟨0xa00c4, 4, 1, fun _ => [NET_REQ_COUNT_REQUESTS, NET_REQ_COUNT_REPEATS]⟩ ]

/-- Registers of the networks block (Table 01-6). -/
def networksRows : List RegRow := networksRows1 ++ networksRows2

open Reg in
/-- Registers of the mirror block (Table 01-6), part 1. -/
def mirrorRows1 : List RegRow :=
  [ ⟨0xb0000, 4, 1, fun _ => [MIR_STATUS_ROLE, MIR_STATUS_SHADOW, MIR_STATUS_LINK_UP, MIR_STATUS_PARTNER, MIR_STATUS_OWN_LINE, MIR_STATUS_PARTNER_LINE, MIR_STATUS_RELEASED, MIR_STATUS_FOREIGN, MIR_STATUS_HOME, MIR_STATUS_REQ_HOLD, MIR_STATUS_HOLD_STARTS]⟩,
    ⟨0xb0004, 4, 1, fun _ => [MIR_CFG_PAIRED, MIR_CFG_HOME_SIDE, MIR_CFG_MIR_CLEAN_S, MIR_CFG_MEM_ERR_RELAY, MIR_CFG_DEEP_REFRESH]⟩,
    ⟨0xb0008, 4, 1, fun _ => [MIR_TOL_MIR_POS_TOL, MIR_TOL_MIR_TORQ_TOL]⟩,
    ⟨0xb000c, 4, 1, fun _ => [MIR_LINK_CRC_ERR, MIR_LINK_MISSED, MIR_LINK_DELAY_NS]⟩,
    ⟨0xb0010, 4, 1, fun _ => [MIR_SHADOW_CLEAN_S, MIR_SHADOW_LAST_ITEM, MIR_SHADOW_MISMATCHES]⟩,
    ⟨0xb0014, 4, 1, fun _ => [MIR_COUNT_TAKEOVERS, MIR_COUNT_HANDOVERS]⟩,
    ⟨0xb0018, 4, 1, fun _ => [MIR_PARTNER_SERIAL_LO]⟩,
    ⟨0xb001c, 4, 1, fun _ => [MIR_PARTNER_SERIAL_HI]⟩,
    ⟨0xb0020, 4, 1, fun _ => [MIR_PARTNER_ID_LO]⟩,
    ⟨0xb0024, 4, 1, fun _ => [MIR_PARTNER_ID_HI]⟩,
    ⟨0xb0030, 4, 1, fun _ => [MIR_CMD_CMD, MIR_CMD_CONFIRM]⟩,
    ⟨0xb0034, 4, 1, fun _ => [MIR_CMD_STATUS_CMD, MIR_CMD_STATUS_RESULT, MIR_CMD_STATUS_REASON]⟩,
    ⟨0xb0038, 4, 1, fun _ => [MIR_LAST_TAKEOVER]⟩,
    ⟨0xb0100, 4, 1, fun _ => [MIR_SPARE_NEAR_FREE, MIR_SPARE_NEAR_REMAPS]⟩,
    ⟨0xb0104, 4, 1, fun _ => [MIR_SPARE_TABLE_FREE, MIR_SPARE_TABLE_REMAPS]⟩,
    ⟨0xb0108, 4, 1, fun _ => [MIR_SPARE_DEEP_FREE, MIR_SPARE_DEEP_RETIRED]⟩,
    ⟨0xb010c, 4, 1, fun _ => [MIR_ECC_NEAR, MIR_ECC_TABLE]⟩,
    ⟨0xb0120, 4, 1, fun _ => [MIR_LOUPE_SHARE, MIR_LOUPE_MAX]⟩,
    ⟨0xb0124, 4, 1, fun _ => [MIR_LOUPE_LATE_LATE, MIR_LOUPE_LATE_EVENTS]⟩ ]

/-- Registers of the mirror block (Table 01-6). -/
def mirrorRows : List RegRow := mirrorRows1

open Reg in
/-- Registers of the logs block (Table 01-6), part 1. -/
def logsRows1 : List RegRow :=
  [ ⟨0xc0000, 4, 1, fun _ => [LOG_STATUS_REGION, LOG_STATUS_STOPPED, LOG_STATUS_WRAPPED, LOG_STATUS_THROTTLED]⟩,
    ⟨0xc0004, 4, 1, fun _ => [LOG_NEXT]⟩,
    ⟨0xc0008, 4, 1, fun _ => [LOG_OLDEST]⟩,
    ⟨0xc000c, 4, 1, fun _ => [LOG_OVERWRITTEN]⟩,
    ⟨0xc0010, 4, 1, fun _ => [LOG_CMD_CMD, LOG_CMD_CONFIRM]⟩,
    ⟨0xc0014, 4, 1, fun _ => [LOG_WALL_STATUS_SOURCE, LOG_WALL_STATUS_HOST_REFUSED]⟩,
    ⟨0xc0018, 4, 1, fun _ => [LOG_WALL_SET_LO]⟩,
    ⟨0xc001c, 4, 1, fun _ => [LOG_WALL_SET_HI]⟩,
    ⟨0xc0020, 4, 1, fun _ => [LOG_WALL_LO]⟩,
    ⟨0xc0024, 4, 1, fun _ => [LOG_WALL_HI]⟩,
    ⟨0xc0040, 0x4, 8, fun i => [LOG_LW i]⟩,
    ⟨0xc0060, 4, 1, fun _ => [LOG_FAIL_COUNT_MAIN, LOG_FAIL_COUNT_SPARE]⟩,
    ⟨0xc0080, 4, 1, fun _ => [LOG_REC_STATUS_SLOTS, LOG_REC_STATUS_DISCARDED, LOG_REC_STATUS_COMMITTING]⟩,
    ⟨0xc0084, 4, 1, fun _ => [LOG_REC_CMD_CMD, LOG_REC_CMD_CONFIRM]⟩,
    ⟨0xc0088, 4, 1, fun _ => [LOG_REC_TIME]⟩,
    ⟨0xc0100, 4, 1, fun _ => [LOG_AP_SEL]⟩,
    ⟨0xc0104, 4, 1, fun _ => [LOG_AP_CURSOR]⟩,
    ⟨0xc0108, 4, 1, fun _ => [LOG_AP_STATUS_READY, LOG_AP_STATUS_GAP, LOG_AP_STATUS_WORDS, LOG_AP_STATUS_SKIPPED]⟩,
    ⟨0xc0200, 0x4, 64, fun i => [LOG_AP_WIN i]⟩ ]

/-- Registers of the logs block (Table 01-6). -/
def logsRows : List RegRow := logsRows1

open Reg in
/-- Registers of the events block (Table 01-6), part 1. -/
def eventsRows1 : List RegRow :=
  [ ⟨0xd0000, 4, 1, fun _ => [EVT_Q_STATUS_COUNT, EVT_Q_STATUS_LOST]⟩,
    ⟨0xd0004, 4, 1, fun _ => [EVT_FRAME_STATUS_COUNT, EVT_FRAME_STATUS_LOST]⟩,
    ⟨0xd0008, 4, 1, fun _ => [EVT_Q_SRC_SOURCE, EVT_Q_SRC_FAULT, EVT_Q_SRC_EMPTY]⟩,
    ⟨0xd000c, 4, 1, fun _ => [EVT_Q_ARG]⟩,
    ⟨0xd0010, 4, 1, fun _ => [EVT_Q_TIME_LO]⟩,
    ⟨0xd0014, 4, 1, fun _ => [EVT_Q_TIME_HI]⟩,
    ⟨0xd0100, 0x4, 16, fun i => [EVT_PEND i]⟩,
    ⟨0xd0200, 0x4, 16, fun i => [EVT_MASK i]⟩,
    ⟨0xd0300, 0x4, 16, fun i => [EVT_LOG_OFF i]⟩,
    ⟨0xd0400, 0x4, 16, fun i => [EVT_FRAME_OFF i]⟩,
    ⟨0xd0500, 4, 1, fun _ => [EVT_COUNT_SEL]⟩,
    ⟨0xd0504, 4, 1, fun _ => [EVT_COUNT]⟩ ]

/-- Registers of the events block (Table 01-6). -/
def eventsRows : List RegRow := eventsRows1

open Reg in
/-- Registers of the power block (Table 01-6), part 1. -/
def powerRows1 : List RegRow :=
  [ ⟨0xe0000, 4, 1, fun _ => [PWR_STATUS_STEP, PWR_STATUS_DIM_CAUSE, PWR_STATUS_PARKED, PWR_STATUS_PWR_FAIL, PWR_STATUS_VIN_BAND, PWR_STATUS_PLL_IN_SERVICE, PWR_STATUS_SPARE_OK, PWR_STATUS_OVR_MARK]⟩,
    ⟨0xe0004, 4, 1, fun _ => [PWR_VIN_VIN, PWR_VIN_MIN]⟩,
    ⟨0xe0008, 4, 1, fun _ => [PWR_RAILS_CORE, PWR_RAILS_IO]⟩,
    ⟨0xe000c, 4, 1, fun _ => [PWR_RETENTION]⟩,
    ⟨0xe0010, 0x4, 4, fun i => [PWR_TEMP_TEMP i, PWR_TEMP_MAX i]⟩,
    ⟨0xe0020, 4, 1, fun _ => [PWR_TEMP_LIM_LIM0, PWR_TEMP_LIM_LIM1, PWR_TEMP_LIM_LIM2, PWR_TEMP_LIM_LIM3]⟩,
    ⟨0xe0024, 4, 1, fun _ => [PWR_CLOCK_PLL0_LOCK, PWR_CLOCK_PLL1_LOCK, PWR_CLOCK_REF_OK, PWR_CLOCK_FENCED, PWR_CLOCK_MARGIN, PWR_CLOCK_TB_DEV]⟩,
    ⟨0xe0030, 4, 1, fun _ => [PWR_DIM_COUNT_ENTER_200, PWR_DIM_COUNT_ENTER_100]⟩,
    ⟨0xe0034, 4, 1, fun _ => [PWR_DIM_TIME_200]⟩,
    ⟨0xe0038, 4, 1, fun _ => [PWR_DIM_TIME_100]⟩,
    ⟨0xe003c, 4, 1, fun _ => [PWR_PARK_TIME]⟩,
    ⟨0xe0040, 4, 1, fun _ => [PWR_RESET_CAUSE_KIND, PWR_RESET_CAUSE_CAUSE, PWR_RESET_CAUSE_DIP_MS]⟩,
    ⟨0xe0044, 4, 1, fun _ => [PWR_PCC]⟩,
    ⟨0xe0048, 4, 1, fun _ => [PWR_OPTIME_LO]⟩,
    ⟨0xe004c, 4, 1, fun _ => [PWR_OPTIME_HI]⟩,
    ⟨0xe0050, 4, 1, fun _ => [PWR_OP_SECONDS]⟩,
    ⟨0xe0060, 4, 1, fun _ => [PWR_CMD_CMD, PWR_CMD_LOGICAL, PWR_CMD_CONFIRM]⟩,
    ⟨0xe0064, 4, 1, fun _ => [PWR_CMD_STATUS_CMD, PWR_CMD_STATUS_RESULT, PWR_CMD_STATUS_REASON]⟩ ]

/-- Registers of the power block (Table 01-6). -/
def powerRows : List RegRow := powerRows1

open Reg in
/-- Registers of the security block (Table 01-6), part 1. -/
def securityRows1 : List RegRow :=
  [ ⟨0xf0000, 4, 1, fun _ => [SEC_STATUS_IDENTITY_OK, SEC_STATUS_RNG_HEALTHY, SEC_STATUS_SW2, SEC_STATUS_KEY_BUSY, SEC_STATUS_SLOTS]⟩,
    ⟨0xf0010, 4, 1, fun _ => [SEC_KEY_CMD_CMD, SEC_KEY_CMD_SLOT, SEC_KEY_CMD_CONFIRM]⟩,
    ⟨0xf0014, 4, 1, fun _ => [SEC_KEY_STATUS_RESULT, SEC_KEY_STATUS_REASON, SEC_KEY_STATUS_SLOT]⟩,
    ⟨0xf0018, 4, 1, fun _ => [SEC_KEY_COUNT_ENROLLED, SEC_KEY_COUNT_REMOVED]⟩,
    ⟨0xf0020, 0x4, 4, fun i => [SEC_KEY_INFO_ENROLLED i, SEC_KEY_INFO_IMAGES i]⟩,
    ⟨0xf0040, 0x4, 24, fun i => [SEC_KEY_BUF i]⟩,
    ⟨0xf00a0, 4, 1, fun _ => [SEC_ATT_CMD]⟩,
    ⟨0xf00b0, 0x4, 8, fun i => [SEC_ATT_NONCE i]⟩,
    ⟨0xf00d0, 4, 1, fun _ => [SEC_ATT_STATUS_STATE, SEC_ATT_STATUS_REASON, SEC_ATT_STATUS_PATH]⟩,
    ⟨0xf00d4, 4, 1, fun _ => [SEC_ATT_SEQ]⟩,
    ⟨0xf00e0, 4, 1, fun _ => [SEC_RNG]⟩,
    ⟨0xf00e4, 4, 1, fun _ => [SEC_RNG_STATUS_HEALTHY, SEC_RNG_STATUS_FAILS]⟩,
    ⟨0xf0100, 4, 1, fun _ => [SEC_BUF_SEL_OBJECT, SEC_BUF_SEL_PART]⟩,
    ⟨0xf0200, 0x4, 64, fun i => [SEC_BUF i]⟩ ]

/-- Registers of the security block (Table 01-6). -/
def securityRows : List RegRow := securityRows1

/-- The register rows of a 64 KiB block (Table 01-6, R23). -/
def blockRows (blk : Nat) : List RegRow :=
  match blk with
  | 0 => identityRows
  | 1 => imageRows
  | 2 => dispatcherRows
  | 3 => facetsRows
  | 4 => positionRows
  | 5 => reticleRows
  | 6 => tripsRows
  | 7 => loopsRows
  | 8 => safetyRows
  | 9 => fieldIoRows
  | 10 => networksRows
  | 11 => mirrorRows
  | 12 => logsRows
  | 13 => eventsRows
  | 14 => powerRows
  | 15 => securityRows
  | _ => []

/-- The register of a group that lies at `addr`, if one does. -/
def RegRow.at? (row : RegRow) (addr : Nat) : Option (List Field) :=
  if addr < row.base then none
  else
    let d := addr - row.base
    let i := d / row.stride
    if i < row.count && d % row.stride == 0 then some (row.fields i) else none

/-- The fields of the first row that holds `addr`. -/
def fieldsIn : List RegRow → Nat → List Field
  | [], _ => []
  | row :: rest, addr => match row.at? addr with
    | some fs => fs
    | none => fieldsIn rest addr

/-- The fields of the register at `addr`; none at an unassigned offset (R7). Offsets 0x400 to 0x5FF of the safety block show
lane B's view of offsets 0x000 to 0x1FF, where every field is RO (file 08, SAF_ registers). -/
def fieldsAt (addr : Nat) : List Field :=
  if 0x80400 ≤ addr && addr < 0x80600 then
    (fieldsIn safetyRows (addr - 0x400)).map fun f => { f with addr := addr, acc := .ro }
  else fieldsIn (blockRows (addr / 0x10000)) addr

/-- The field with a given key, if the register tables hold one. -/
def fieldOfKey (k : Nat) : Option Field := (fieldsAt (k / 32)).find? fun f => f.lo == k % 32

end Sys2Proof.Machine
end

