-- ==== Sys2Proof/Machine/State.lean ====
section
/-! DEFINITION. The state of the 8440 as plain data: the register-field file, the memories, and one structure per block for
what the spec gives a block beside its registers; the stops; and State.reset, a new module right after its first POWER-ON. -/

namespace Sys2Proof.Machine

/-- The reasons a step could stop with a fault. No meaning of this model raises one: an event whose condition does not hold
leaves the state as it is. Safe: nothing is proved of a stopped run. -/
inductive Fault where
  /-- raised by nobody: the spec gives every command an effect -/
  | none
  deriving DecidableEq, Repr

/-- The reasons a command could be refused. -/
inductive Refusal where
  /-- raised by an arm of Machine/Dispatch.lean that has no meaning yet; safe: nothing is proved of it -/
  | notModelled (mnemonic : String)
  deriving DecidableEq, Repr

/-- A sparse byte memory: an address that is not listed reads 0 (log entry 4). -/
abbrev Mem := List Host.Cell

/-- How a raised event reaches the trouble log (R374, R385, R386, R388). -/
inductive LogHow where
  /-- offered under R374, R381 and R382 -/
  | offered
  /-- its record is already written (LOG_MEDIUM_FAIL, LOG_CLEARED) -/
  | written
  /-- a CLOCK_STEP record: new value, old value and cause (R385) -/
  | clockStep (new old cause : Nat)
  deriving DecidableEq, Repr

/-- An event raised in this step and not yet taken by the log and the queues (R374). -/
structure Raised where
  /-- the source and its FAULT flag -/
  evt : Evt
  /-- the 32-bit argument (R376) -/
  arg : Nat
  /-- how its log record comes about -/
  how : LogHow := .offered
  deriving DecidableEq, Repr

/-- An entry of the host queue or of the frame queue (R377, R378, R331). -/
structure QEntry where
  /-- event source -/
  src : Nat
  /-- FAULT flag -/
  fault : Bool
  /-- argument -/
  arg : Nat
  /-- OPTIME of the occurrence -/
  time : Nat
  /-- power-cycle count (R331) -/
  pcc : Nat
  deriving DecidableEq, Repr

/-- A trouble-log record (Table 13-1). -/
structure LogRec where
  /-- record number (R380) -/
  num : Nat
  /-- CODE: source, FAULT, WALL_VALID, WALL_HOST, PRESENT -/
  code : Nat
  /-- REPEAT -/
  rep : Nat
  /-- OPTIME of the first occurrence -/
  optime : Nat
  /-- LAST; in a CLOCK_STEP record the low 48 bits of the old value -/
  last : Nat
  /-- ARG; in a CLOCK_STEP record the high 16 bits of the old value and the cause -/
  arg : Nat
  /-- PCC -/
  pcc : Nat
  /-- WALL -/
  wall : Nat
  deriving DecidableEq, Repr

/-- The event machinery beside its masks (R374 to R378). -/
structure EvState where
  /-- EVT_PEND_0 to 15 as one number: bit n is source n -/
  pend : Nat := 0
  /-- EVT_COUNT of every source -/
  counts : SMap Nat := []
  /-- host queue, oldest first, 256 entries -/
  queue : List QEntry := []
  /-- EVT_Q_STATUS.LOST -/
  lost : Nat := 0
  /-- frame queue, oldest first, 64 entries -/
  frames : List QEntry := []
  /-- EVT_FRAME_STATUS.LOST -/
  frameLost : Nat := 0
  /-- FRAME_LOST of the next STATUS frame's EVT_FLAGS (R378) -/
  frameLostFlag : Bool := false
  /-- OPTIME of the previous EVENT frame, if one was sent (R378) -/
  lastFrame : Option Time := none
  deriving DecidableEq, Repr

/-- The trouble log in the near store (R379 to R388), class H. -/
structure LogState where
  /-- LOG_STATUS.REGION: 0 main, 1 spare -/
  region : Nat := 0
  /-- LOG_STATUS.STOPPED -/
  stopped : Bool := false
  /-- LOG_STATUS.WRAPPED -/
  wrapped : Bool := false
  /-- LOG_WRAPPED has been raised since the last reset or clear (R380) -/
  wrapSaid : Bool := false
  /-- LOG_STATUS.THROTTLED -/
  throttled : Nat := 0
  /-- LOG_NEXT -/
  next : Nat := 0
  /-- LOG_OLDEST -/
  oldest : Nat := 0
  /-- LOG_OVERWRITTEN -/
  overwritten : Nat := 0
  /-- records of the main region, newest first -/
  main : List LogRec := []
  /-- records of the spare region, newest first -/
  spare : List LogRec := []
  /-- the second of operating time the throttle counts belong to (R382) -/
  second : Nat := 0
  /-- new records per source in that second (R382) -/
  perSource : SMap Nat := []
  /-- offsets of the words that read as uncorrectable: of the main region, and of the spare region from 2,097,152 on (R386) -/
  bad : List Nat := []
  /-- LOG_LW_0 to LOG_LW_7 -/
  lw : List Nat := [0, 0, 0, 0, 0, 0, 0, 0]
  /-- LOG_FAIL_COUNT.MAIN -/
  failMain : Nat := 0
  /-- LOG_FAIL_COUNT.SPARE -/
  failSpare : Nat := 0
  deriving DecidableEq, Repr

/-- The wall clock (R384). -/
structure WallState where
  /-- LOG_WALL_STATUS.SOURCE: 0 none, 1 PTP, 2 host, 3 PTP free-running -/
  source : Nat := 0
  /-- the present value, PTP_NS -/
  ns : Nat := 0
  deriving DecidableEq, Repr

/-- The aperture of one access path (R393, R394). -/
structure Aperture where
  /-- LOG_AP_SEL.SOURCE -/
  sel : Nat := 0
  /-- LOG_AP_CURSOR -/
  cursor : Nat := 0
  /-- a fill is due or in progress -/
  filling : Bool := false
  /-- LOG_AP_STATUS.READY -/
  ready : Bool := false
  /-- LOG_AP_STATUS.GAP -/
  gap : Bool := false
  /-- LOG_AP_STATUS.WORDS -/
  words : Nat := 0
  /-- LOG_AP_STATUS.SKIPPED -/
  skipped : Nat := 0
  /-- this path's fill made the selected bank READING (R396) -/
  reading : Bool := false
  /-- the window shows the selected bank's present content (R396) -/
  fresh : Bool := false
  /-- the window buffer's words -/
  win : List Nat := []
  deriving DecidableEq, Repr

/-- What each access path has of its own (R27, R393, R421 to R426). -/
structure PathState where
  /-- the path's shadow: register address and word (R27) -/
  shadow : SMap Nat := []
  /-- the path's aperture -/
  ap : Aperture := {}
  /-- SEC_KEY_BUF_0 to 23 as written by this path -/
  keyBuf : List Nat := List.replicate 24 0
  /-- SEC_ATT_NONCE_0 to 7 as written by this path -/
  nonce : List Nat := List.replicate 8 0
  /-- SEC_BUF_SEL.OBJECT -/
  bufObject : Nat := 0
  /-- SEC_BUF_SEL.PART -/
  bufPart : Nat := 0
  /-- the last LOG_WALL_SET_LO written by this path -/
  wallLo : Nat := 0
  /-- the value the path's last read row returned -/
  data : Nat := 0
  deriving DecidableEq, Repr

/-- A host-port response (Table 01-8). -/
structure HostResp where
  /-- status bits 0 to 5 -/
  status : Nat := 0
  /-- address echoed -/
  addr : Nat := 0
  /-- data -/
  data : Nat := 0
  deriving DecidableEq, Repr

/-- The host port (R28 to R31). -/
structure HostPort where
  /-- the response that the next frame shifts out, status with SEQ -/
  resp : HostResp := {}
  /-- the ten bytes shifted out on MISO during the last frame -/
  miso : List Byte := []
  /-- executed requests modulo 4 -/
  seq : Nat := 0
  /-- how long chip select must stay high before the next frame, ns (R30, R394) -/
  holdNs : Nat := 0
  deriving DecidableEq, Repr

/-- The seal record of a core bank or deep slot beside its STATE (R46), class K. -/
structure SealRec where
  /-- stored length, bytes -/
  storedLen : Nat := 0
  /-- IMAGE_DIGEST -/
  digest : Digest := 0
  /-- IMAGE_ID -/
  imageId : Nat := 0
  /-- AUTHOR_KEY -/
  authorKey : Nat := 0
  /-- SAFETY_SET_ID -/
  setId : Nat := 0
  /-- SAFETY_A_DIGEST -/
  digestA : Digest := 0
  /-- SAFETY_B_DIGEST -/
  digestB : Digest := 0
  /-- ATLAS_DIGEST -/
  atlas : Digest := 0
  deriving DecidableEq, Repr

/-- A section of the loaded core image or of an atlas: Table 02-2. -/
structure Section where
  /-- TYPE -/
  kind : Nat
  /-- VERSION -/
  version : Nat
  /-- OFFSET -/
  offset : Nat
  /-- LENGTH -/
  length : Nat
  /-- COUNT -/
  count : Nat
  deriving DecidableEq, Repr

/-- Image control beside its registers (file 02). -/
structure ImgState where
  /-- seal records: bank 0, bank 1, deep slot 0, deep slot 1; class K -/
  seals : List SealRec := List.replicate 4 {}
  /-- an activation record exists (R47), class K: a new module has none -/
  activated : Bool := false
  /-- OPTIME of the last data word of the open session (R49) -/
  sessLast : Time := 0
  /-- the access path that opened the session: its OWNER (R49, R334) -/
  sessPath : Path := .host
  /-- the key slots as they stood when the checks of FINISH began (R422) -/
  finishKeys : List (Option (BitVec 768)) := List.replicate 4 none
  /-- SW1 SAFETY_WRITE at FINISH (R52) -/
  finishSw1 : Bool := false
  /-- SW3 to SW8 at FINISH (R52) -/
  finishCode : Nat := 0
  /-- a streamed atlas waits for the reticle loads in progress before its slot becomes active (R139) -/
  swapDue : Bool := false
  /-- whether a core image is loaded -/
  loaded : Bool := false
  /-- seal record of the loaded bank as it was loaded -/
  loadedSeal : SealRec := {}
  /-- directory of the loaded core image -/
  coreDir : List Section := []
  /-- digest of each table-store slot's content, if it holds an atlas (R54, R60), class W -/
  slotDigest : List (Option Digest) := [none, none]
  /-- directory of each table-store slot's atlas, class W -/
  slotDir : List (List Section) := [[], []]
  /-- deep slot being streamed into the incoming slot at start-up (R60) -/
  streamSlot : Nat := 0
  /-- deep slots whose stream has failed since this start (R60) -/
  streamTried : List Nat := []
  /-- OPTIME at which the supplies became valid (Table 02-7) -/
  supplyAt : Time := 0
  /-- whether the core load has been started since the last reset -/
  loading : Bool := false
  /-- whether the last reset was WARM (R60) -/
  warm : Bool := false
  deriving DecidableEq, Repr

/-- A work-item descriptor (Table 03-2). -/
structure Desc where
  /-- NODE -/
  node : Nat
  /-- PRIO: ready-list level -/
  prio : Nat
  /-- FLOW_EN -/
  flowEn : Bool := false
  /-- FLOW -/
  flow : Nat := 0
  /-- KIND: 0 counter firing; 1 time-list expiry; 2 position-list expiry -/
  kind : Nat := 0
  /-- LATE -/
  late : Bool := false
  /-- ARG -/
  arg : Nat := 0
  /-- COUNTER -/
  counter : Nat := 0
  /-- REPEAT -/
  rep : Nat := 0
  /-- FIRER: index of the completing facet, 0x7F for a port -/
  firer : Nat := 0
  /-- PORT -/
  port : Nat := 0
  /-- STAMP: OPTIME [31:0] at enqueue -/
  stamp : Nat := 0
  deriving DecidableEq, Repr

/-- A descriptor queued for the ready lists, with the direction of the list that a position-list expiry comes from (R71). -/
structure Queued where
  /-- descriptor -/
  desc : Desc
  /-- it comes from the down entries of the position list -/
  down : Bool := false
  deriving DecidableEq, Repr

/-- A pending decrement of an external port (R80, R81). -/
structure Dec where
  /-- counter -/
  counter : Nat
  /-- argument carried in place of the binding's ARG (R81) -/
  arg : Option Nat := none
  deriving DecidableEq, Repr

/-- A completion in an output latch or taken by the collector (R78). -/
structure Completion where
  /-- logical or idle index -/
  index : Nat
  /-- node -/
  node : Nat
  /-- successor mask -/
  mask : Nat
  /-- abort flag -/
  abort : Bool := false
  /-- cycles it has waited (R79) -/
  wait : Nat := 0
  deriving DecidableEq, Repr

/-- An entry of the time list (R76). -/
structure TimeEntry where
  /-- expiry, µs of operating time -/
  expiry : Time
  /-- node -/
  node : Nat
  /-- level -/
  level : Nat
  /-- ARG -/
  arg : Nat
  /-- TAG -/
  tag : Nat
  /-- expired: its descriptor is queued and has not entered its ready list (R76, R82) -/
  due : Bool := false
  deriving DecidableEq, Repr

/-- An entry of the position list (R77). -/
structure PosEntry where
  /-- POS_THRESH, µm -/
  thresh : Int
  /-- node -/
  node : Nat
  /-- level -/
  level : Nat
  /-- ARG -/
  arg : Nat
  /-- TAG -/
  tag : Nat
  /-- the threshold already lay at or beyond the car when the entry was inserted -/
  late : Bool
  /-- expired: its descriptor is queued and has not entered its ready list (R77, R82) -/
  due : Bool := false
  deriving DecidableEq, Repr

/-- A physical facet (file 03, Facets). -/
structure Facet where
  /-- descriptor in the running slot -/
  running : Option Desc := none
  /-- descriptor in the prefetched slot -/
  pref : Option Desc := none
  /-- output latch (R78) -/
  latch : Option Completion := none
  /-- stopped by a FAULT relay (R92) -/
  stopped : Bool := false
  /-- last loupe self-test passed -/
  testPass : Bool := false
  /-- a self-test item of the loupe runs (R65, R67) -/
  testing : Bool := false
  /-- status FULL of the last insert of its items (R74) -/
  full : Bool := false
  /-- entries that the last cancel of its items removed (R75) -/
  removed : Nat := 0
  /-- code memory, 8 KiB -/
  code : List Byte := []
  /-- data memory, 4 KiB -/
  data : List Byte := []
  deriving DecidableEq, Repr

/-- The item of a flow in service (R72). -/
structure FlowUse where
  /-- flow -/
  flow : Nat
  /-- logical index holding it -/
  facet : Nat
  /-- node of the item -/
  node : Nat
  deriving DecidableEq, Repr

/-- The dispatcher and the facets beside their registers (file 03). -/
structure DspState where
  /-- FABRIC section of the loaded image -/
  fab : FabricTables := {}
  /-- GRAPHS section of the loaded image, the near-store copy -/
  graphs : GraphTables := {}
  /-- present count of each counter -/
  counts : List Nat := []
  /-- firings of each counter since reset, modulo 2^32 -/
  fires : SMap Nat := []
  /-- FIFO of each external port, oldest first, 16 entries -/
  ports : List (List Dec) := List.replicate 16 []
  /-- occurrences a port's source holds while the FIFO is full (Table 03-4) -/
  held : List (List Dec) := List.replicate 16 []
  /-- port decrements delivered to the counter unit and not yet applied: port, decrement -/
  portIn : List (Nat × Dec) := []
  /-- completions taken by the collector and not yet applied -/
  collIn : List Completion := []
  /-- descriptors that did not enter in their cycle, in order -/
  waiting : List Queued := []
  /-- position-list expiries to be queued for the ready lists, four in a cycle -/
  posQ : List Queued := []
  /-- time-list expiries to be queued for the ready lists, four in a cycle -/
  timeQ : List Queued := []
  /-- counter firings to be queued for the ready lists -/
  fireQ : List Desc := []
  /-- ready lists, level 0 to 7, head first -/
  ready : List (List Desc) := List.replicate 8 []
  /-- inserts that wait for their grant (R74) -/
  inserts : List DelayInsert := []
  /-- time list in order of expiry and insertion -/
  timeList : List TimeEntry := []
  /-- up entries of the position list, ascending threshold -/
  up : List PosEntry := []
  /-- down entries of the position list, descending threshold -/
  down : List PosEntry := []
  /-- physical facets 0 to 111 -/
  facets : List Facet := List.replicate 112 {}
  /-- physical facet of each logical facet, if mapped (R65) -/
  map : List (Option Nat) := List.replicate 96 none
  /-- logical facets lost (R93) -/
  lost : List Nat := []
  /-- flows in service (R72) -/
  flows : List FlowUse := []
  /-- affinity facet of each node (R73) -/
  affinity : SMap Nat := []
  /-- relay requests held: logical facet and reason, ascending (R88) -/
  requests : List (Nat × Nat) := []
  /-- OPTIME at which the 24 h error window of the facets began (R88) -/
  eccStart : Time := 0
  deriving DecidableEq, Repr

/-- A sample latched at a tick and not yet delivered (R96). -/
structure RawSample where
  /-- OPTIME of the tick -/
  time : Time
  /-- what SC1 and SC2 showed -/
  sc : List ScSample
  /-- counts of QD1 to QD6 -/
  qd : List Int
  deriving DecidableEq, Repr

/-- The place of a mark edge between two samples: their channel counts and where between them the edge lies (R108). -/
structure MarkAt where
  /-- count of the sample before -/
  before : Int
  /-- count of the sample after -/
  after : Int
  /-- fabric cycles from the sample before to the edge -/
  at_ : Nat
  /-- fabric cycles between the two samples -/
  of_ : Nat
  deriving DecidableEq, Repr

/-- A reference-mark pulse that has ended (R108). -/
structure MarkPulse where
  /-- its entering edge -/
  entering : MarkAt
  /-- its leaving edge -/
  leaving : MarkAt
  /-- it contains an illegal sample -/
  illegal : Bool
  deriving DecidableEq, Repr

/-- A sin/cos channel beside its registers (R99 to R111). -/
structure ScChan where
  /-- last accepted count -/
  count : Int := 0
  /-- Q, the coarse count, quarter lines (R99) -/
  q : Int := 0
  /-- place of the comparators in the quadrature cycle, once a sample has been delivered -/
  place : Option Nat := none
  /-- Q at the last accepted sample -/
  lastQ : Int := 0
  /-- Q at each of the last illegal transitions, newest first (R103) -/
  illegalQ : List Int := []
  /-- samples since the last illegal transition, saturating at 65,535 (R129) -/
  sinceIllegal : Nat := 65535
  /-- samples since AMP_OUT was last set, saturating at 65,535 (R129) -/
  sinceAmp : Nat := 65535
  /-- consecutive samples with the radius out of band (R104) -/
  ampBad : Nat := 0
  /-- consecutive samples with the radius in band (R104) -/
  ampGood : Nat := 0
  /-- θ of the last sample, for the line boundary (R105) -/
  theta : Nat := 0
  /-- correction fitted by the loupe and not fully applied (R105) -/
  fit : Option CalFit := none
  /-- Q at which the revolution began whose samples the loupe fits (R105) -/
  fitQ : Int := 0
  /-- level of the reference-mark input -/
  markIn : Bool := false
  /-- entering edge of the mark pulse that stands, and whether it contains an illegal sample (R108) -/
  pulse : Option (MarkAt × Bool) := none
  /-- mark pulse that has ended and is not judged (R108) -/
  mark : Option MarkPulse := none
  /-- the channel has set cause INDEX (R109) -/
  causeIndex : Bool := false
  /-- the channel has set cause MISSING (R110) -/
  causeMissing : Bool := false
  /-- last_mark (R109, R110) -/
  lastMark : Int := 0
  /-- INDEX_MISSING raised this many times since the last mark (R110) -/
  missed : Nat := 0
  /-- good (R109) -/
  good : Nat := 0
  /-- INDEX_LOST latched for this channel (R111) -/
  indexLost : Bool := false
  /-- coarse travel at which the cause ILLEGAL was last set, if it stands (R128) -/
  illegalAt : Option Int := none
  /-- what is added to the candidate count, so that a count held while lost goes on from its held value (R95, R103) -/
  adj : Int := 0
  /-- the next legal sample sets adj anew: after a reset the count goes on from 0 -/
  resync : Bool := true
  /-- converter serving the sine track and the cosine track (R106) -/
  conv : List Nat := [0, 0]
  deriving DecidableEq, Repr

/-- A quadrature channel beside its registers (R112 to R115). -/
structure QdChan where
  /-- edge count, 48 bits signed (R95); PFE_QD_COUNT shows its low 32 -/
  count : Int := 0
  /-- count at each of the last illegal transitions, newest first (R113) -/
  illegalAt : List Int := []
  /-- samples since the last illegal transition, saturating at 65,535 (R129) -/
  sinceIllegal : Nat := 65535
  /-- door position offset, µm (R115) -/
  offset : Int := 0
  /-- SINCOS_LOST latched (R113), QD5 and QD6 only -/
  lost : Bool := false
  /-- a re-reference of the channel has set cause INDEX (R129) -/
  causeIndex : Bool := false
  deriving DecidableEq, Repr

/-- An SSI channel beside its registers (R116 to R119). -/
structure SsiChan where
  /-- latch time of the frame being clocked (R116) -/
  latch : Option Time := none
  /-- OPTIME of the last frame start or frame heard -/
  lastStart : Option Time := none
  /-- position and latch time of the last four accepted frames, newest first (R118) -/
  accepted : List (Int × Time) := []
  /-- consecutive accepted frames, saturating at 64 (R118) -/
  goodRun : Nat := 0
  /-- the next frame starts the prediction afresh (R118) -/
  fresh : Bool := true
  deriving DecidableEq, Repr

/-- An encoder emulator beside its registers (R131 to R134). -/
structure EmuState where
  /-- acc -/
  acc : Int := 0
  /-- pending output edges, signed -/
  pending : Int := 0
  /-- edges discarded beyond 1,048,576 (R132) -/
  discarded : Nat := 0
  /-- quadrature state of the output, 0 to 3 -/
  phase : Nat := 0
  /-- output edges since the emulator's start, for Z_MODE 2 -/
  edges : Int := 0
  /-- output levels A, B, Z -/
  out : Nat := 0
  /-- OPTIME of the last output edge -/
  lastEdge : Option Time := none
  deriving DecidableEq, Repr

/-- The last car position sample, as every consumer receives it (R97). -/
structure CarSample where
  /-- car position, µm -/
  pos : Int := 0
  /-- speed, µm/s -/
  speed : Int := 0
  /-- acceleration, µm/s² -/
  accel : Int := 0
  /-- CONF -/
  conf : Nat := 3
  /-- source in use: 0 machine, 1 shaft, 2 held -/
  source : Nat := 2
  /-- sample time -/
  time : Time := 0
  deriving DecidableEq, Repr

/-- An entry of the sample history (R122), with the machine-derived travel of the sample. -/
structure HistEntry where
  /-- reported position, µm -/
  pos : Int
  /-- Pm, µm -/
  pm : Int
  /-- sample time -/
  time : Time
  deriving DecidableEq, Repr

/-- The front ends and the position model beside their registers (file 04). -/
structure PosState where
  /-- sample latched and not yet delivered -/
  raw : Option RawSample := none
  /-- counts of QD1 to QD6 latched at the last tick (R96) -/
  qdLatched : List Int := List.replicate 6 0
  /-- SC1, SC2 -/
  sc : List ScChan := List.replicate 2 {}
  /-- QD1 to QD6 -/
  qd : List QdChan := List.replicate 6 {}
  /-- SSI1, SSI2 -/
  ssi : List SsiChan := List.replicate 2 {}
  /-- EMU1, EMU2 -/
  emu : List EmuState := List.replicate 2 {}
  /-- last delivered sample -/
  sample : CarSample := {}
  /-- Pm of the last samples, newest first, 257 at most (R121) -/
  pm : List Int := []
  /-- speed of the last samples, newest first, 257 at most (R121) -/
  speeds : List Int := []
  /-- history, newest first, 8,192 at most (R122) -/
  hist : List HistEntry := []
  /-- POS_OFFSET, half µm (R125, log entry 15) -/
  offHalf : Int := 0
  /-- offset of the shaft source, half µm (R126) -/
  shaftHalf : Int := 0
  /-- REF_PENDING, half µm -/
  pendHalf : Int := 0
  /-- travel of the source in use at the last sample, µm (R125) -/
  lastRaw : Int := 0
  /-- the full e of a re-reference, to be added at the change of source (R129) -/
  rerefE : Option Int := none
  /-- machine source referenced (R123) -/
  referenced : Bool := false
  /-- an SSI1 frame has been accepted since the last reset -/
  ssiSeen : Bool := false
  /-- direction of the last sample with non-zero speed: -1, 0 or 1 (R124) -/
  lastDir : Int := 0
  /-- consecutive reference rejects (R124) -/
  rejects : Nat := 0
  /-- reference points of the POSITION section -/
  refs : List RefPoint := []
  /-- filtered edges of listed inputs that R124 has yet to take, oldest first -/
  edges : List RefEdge := []
  /-- OPTIME since which |D| exceeds SLIP_LIMIT on every frame (R127) -/
  slipSince : Option Time := none
  /-- consecutive frames with |D| within SLIP_WARN (R127) -/
  slipGood : Nat := 0
  /-- OPTIME of the last converter check of each channel and track (R106) -/
  calAt : List Time := List.replicate 4 0
  /-- door positions of the last delivered door sample, µm (R98) -/
  doorPos : List Int := List.replicate 4 0
  /-- encoder supplies found out of limits (R135) -/
  encOut : List Bool := [false, false]
  deriving DecidableEq, Repr

/-- A live slot of a mark set (R136, R142, R146). -/
structure Slot where
  /-- its mark entry -/
  mark : Mark := {}
  /-- armed -/
  armed : Bool := false
  /-- FIRED bit -/
  fired : Bool := false
  /-- the check at arming is deferred to the first comparable sample (R142) -/
  unchecked : Bool := false
  /-- found late, to fire on the next sample compared (R142) -/
  late : Bool := false
  /-- side recorded for DIR either: true above -/
  above : Bool := false
  deriving DecidableEq, Repr

/-- A mark set (R136 to R141). -/
structure MarkSet where
  /-- live slots -/
  live : List Slot
  /-- PROG_ID of the live program, 0 if none -/
  prog : Nat := 0
  /-- staging half: program, if one is staged or being loaded -/
  staging : Program := {}
  /-- staging half valid -/
  valid : Bool := false
  /-- load in progress -/
  loading : Bool := false
  /-- window address the load reads from -/
  addr : Nat := 0
  /-- a reaction of rank 2 holds the set's evaluator: its old marks no longer command it (R22, R149) -/
  held : Bool := false
  /-- a reaction of rank 2 has abandoned the set's trip or profile: commands of lower rank swap nothing in until a new one begins or the
  fault is cleared (R22, R149) -/
  barred : Bool := false
  /-- the trip or profile of a reaction has begun before its program was staged: the program is swapped in as its load ends
  (R149, R219) -/
  swapDue : Bool := false
  deriving DecidableEq, Repr

/-- A post in the post queue (R150). -/
structure Post where
  /-- counter -/
  counter : Nat
  deriving DecidableEq, Repr

/-- A capture register (R150). -/
structure Capture where
  /-- captured position, µm -/
  pos : Int := 0
  /-- captured speed, µm/s -/
  speed : Int := 0
  /-- OPTIME [31:0] of the sample -/
  time : Nat := 0
  /-- slot -/
  slot : Nat := 0
  /-- set code -/
  set : Nat := 0
  /-- made by a late firing -/
  late : Bool := false
  /-- an unread capture was replaced -/
  overwritten : Bool := false
  /-- the register holds a capture -/
  valid : Bool := false
  /-- TAG -/
  tag : Nat := 0
  /-- no path has read it -/
  unread : Bool := false
  deriving DecidableEq, Repr

/-- The reticle beside its registers (file 05). -/
structure RetState where
  /-- car set and door sets 1 to 4 -/
  sets : List MarkSet := { live := List.replicate 256 {} } :: List.replicate 4 { live := List.replicate 64 {} }
  /-- post queue, oldest first, 512 entries -/
  posts : List Post := []
  /-- capture registers 0 to 7 -/
  caps : List Capture := List.replicate 8 {}
  /-- a sample has been delivered since the last reset -/
  seen : Bool := false
  /-- the last door sample of each door set was taken while its channel was HOMED (R142) -/
  doorOk : List Bool := List.replicate 4 false
  /-- position of the door sample before the last one, µm; none before the second sample (R144) -/
  doorPrev : List (Option Int) := List.replicate 4 none
  deriving DecidableEq, Repr


/-- A diversion committed and not yet begun (R172, R173). -/
structure Commit where
  /-- car stop it leads to -/
  stop : Nat
  /-- the diversion -/
  trip : Trip
  /-- TAG of its commit entry -/
  tag : Nat
  /-- its index word, or the offset of an ALT diversion -/
  word : Nat := 0
  /-- an ALT diversion, taken from its offset and not from the index -/
  alt : Bool := false
  /-- SPLICE is issued and awaits the evaluator, or has been accepted -/
  issued : Bool := false
  /-- its commit entry has expired and its program is being staged, or is staged -/
  staged : Bool := false
  deriving DecidableEq, Repr

/-- A named neighbour in the separation comparator (R186 to R189). Neighbour 0 is the car above, 1 the car below. -/
structure Neighbour where
  /-- its reported position, µm -/
  pos : Int := 0
  /-- its reported speed, µm/s -/
  speed : Int := 0
  /-- its CONF -/
  conf : Nat := 3
  /-- a frame has been accepted -/
  seen : Bool := false
  /-- OPTIME of the last accepted frame -/
  lastAt : Time := 0
  /-- its timeout has been reported since its last accepted frame (R328) -/
  timedOut : Bool := false
  /-- its path state has been reported since its last accepted frame (R328) -/
  pathOut : Bool := false
  /-- a comparison has failed since the separation causes last cleared (R189) -/
  failed : Bool := false
  /-- OPTIME since which every comparison has passed, if the last did -/
  passSince : Option Time := none
  deriving DecidableEq, Repr

/-- Trips, the stop list and the separation comparator beside their registers (file 06). -/
structure TripState where
  /-- ENVELOPES section -/
  env : Envelopes := {}
  /-- index of the core atlas -/
  core : AtlasIndex := {}
  /-- index of the atlas in each table-store slot -/
  full : List AtlasIndex := [{}, {}]
  /-- evaluator channels: car, door operators 1 to 4, deck -/
  chans : List Channel := List.replicate 6 {}
  /-- stop list -/
  stops : List StopEntry := []
  /-- diversion committed -/
  commit : Option Commit := none
  /-- next TAG of a commit entry -/
  nextTag : Nat := 0
  /-- the continuation that is set is an ALT diversion (TRIP_SPLICE) -/
  contAlt : Bool := false
  /-- its index word -/
  contWord : Nat := 0
  /-- index word of the running trip (R354) -/
  runWord : Nat := 0
  /-- TRIP_CMD commands and directions whose decrement port 15 holds while Parked, oldest first (R81, R406) -/
  cmdsHeld : List (Nat × Nat) := []
  /-- a trip has run since the last reset (R171) -/
  tripped : Bool := false
  /-- trip copied at the start and waiting for grants (R177) -/
  starting : Option Trip := none
  /-- its index word -/
  startWord : Nat := 0
  /-- it was asked for by TRIP_CMD RESCUE (R181) -/
  startCmd : Bool := false
  /-- the direction of a TRIP_CMD RESCUE that the separation check holds (R189) -/
  rescueHeld : Option (Option Bool) := none
  /-- a cut or a reaction of rank 2 has chosen the mode of the car loop, which commands of rank 3 and 4 do not change (R22) -/
  loopHeld : Bool := false
  /-- a reaction of rank 2 has withdrawn the drive and brake requests, which marks do not make again (R22) -/
  reqHeld : Bool := false
  /-- out-of-service causes that wait for the end of the running trip (Table 06-9), in order -/
  oosDue : List Nat := []
  /-- the reference has been taken from a position since the last reset (R160) -/
  refSet : Bool := false
  /-- consecutive car-loop periods with a limit violation (R163) -/
  limitRun : Nat := 0
  /-- limits violated since the car-loop period began: speed, acceleration, jerk -/
  limitNow : Nat := 0
  /-- car above and car below -/
  nbrs : List Neighbour := List.replicate 2 {}
  /-- OPTIME of the last SEP_WAIT (R189) -/
  waitAt : Option Time := none
  /-- direction of the trip a separation stop ended: true up -/
  stoppedUp : Bool := false
  /-- CONF at the last CONF_CHANGE item (R181) -/
  confSeen : Nat := 3
  /-- code of the cause of the controlled stop that is pending or running -/
  stopCode : Nat := 0
  /-- a resumption after a separation stop is due (R189) -/
  resumeDue : Bool := false
  /-- the stop list is frozen by the finish rule (R182) -/
  frozen : Bool := false
  /-- TRIP_OOS BT_PENDING's cause: a BRAKE_TEST_FAIL was recorded (R190) -/
  btRecorded : Bool := false
  /-- a HOLD waits for the report of both brakes applied (Table 13-4) -/
  levelDue : Bool := false
  /-- brakes that have passed a commanded brake test since (R190) -/
  btPassed : List Bool := [false, false]
  deriving DecidableEq, Repr


/-- A DriveLink node (R205 to R207). -/
structure DlNode where
  /-- SEQ of the next command -/
  seq : Nat := 0
  /-- last command frame -/
  cmd : List Byte := []
  /-- a response is awaited -/
  waiting : Bool := false
  /-- consecutive valid responses without FAULT, saturating at 64 (R224) -/
  good : Nat := 0
  deriving DecidableEq, Repr

/-- The loop engines and door control beside their registers (file 07). -/
structure LoopState where
  /-- DOORS section -/
  doors : DoorTables := {}
  /-- notch coefficients of each loop: notch 1 b0 to a2, then notch 2 (R449) -/
  coefs : List (List Int) := List.replicate 6 (List.replicate 10 0)
  /-- OPTIME of the first tick after CONTROL_READY (R194) -/
  readyAt : Time := 0
  /-- both lanes granted DRIVE_EN at the last car period (R201) -/
  grantSeen : Bool := false
  /-- both brakes were reported applied at the last car period (R201) -/
  appliedSeen : Bool := false
  /-- engine states of loops 0 to 5 -/
  eng : List Engine := List.replicate 6 {}
  /-- door operators 1 to 4 -/
  ops : List DoorOp := List.replicate 4 {}
  /-- the deck -/
  deck : DeckState := {}
  /-- DriveLink nodes 1 and 2 -/
  dl : List DlNode := List.replicate 2 {}
  /-- periods of the check window still to run (R208) -/
  checkLeft : Nat := 0
  /-- operators of the door set (R225) -/
  doorSet : List Nat := []
  /-- DOOR_CYCLE_DONE has been raised for the present cycle (R225) -/
  cycleDone : Bool := false
  deriving DecidableEq, Repr

/-- The fields of an exchange record (Table 08-3). -/
structure Rec where
  /-- SEQ -/
  seq : Nat := 0
  /-- LANE -/
  lane : Nat := 0
  /-- FLAGS: 0 CUT, 1 PAIRED, 2 SW1, 3 MATCH, 4 POS_VALID -/
  flags : Nat := 0
  /-- SAMPLES: five words -/
  samples : List Nat := [0, 0, 0, 0, 0]
  /-- FAST -/
  fast : Nat := 0
  /-- PERM -/
  perm : Nat := 0
  /-- REQ -/
  req : Nat := 0
  /-- SWITCH -/
  switch : Nat := 0
  /-- OUT_CMD -/
  outCmd : Nat := 0
  /-- OUT_RB -/
  outRb : Nat := 0
  /-- SPAN -/
  span : Nat := 0
  /-- POS, µm -/
  pos : Int := 0
  /-- SPEED, µm/s -/
  speed : Int := 0
  /-- FAULTS -/
  faults : Nat := 0
  /-- DIGEST -/
  digest : Nat := 0
  /-- OVR_INDEX -/
  ovrIndex : Nat := 0
  /-- OVR_STATE -/
  ovrState : Nat := 0
  /-- OVR_APPLY -/
  ovrApply : Nat := 0
  /-- OVR_VALUE -/
  ovrValue : Nat := 0
  /-- TEST -/
  test : Nat := 0
  deriving DecidableEq, Repr

/-- A brake as one lane supervises it (R271, R272). -/
structure LaneBrake where
  /-- 0 applied; 1 lifted; 2 changing -/
  state : Nat := 2
  /-- coil current, mA -/
  current : Nat := 0
  /-- OPTIME since which BKb is energized, if it is -/
  onAt : Option Time := none
  /-- OPTIME since which BKb is de-energized, if it is and was energized before -/
  offAt : Option Time := none
  /-- reported lifted since BKb was energized -/
  lifted : Bool := false
  /-- reported applied since BKb was de-energized -/
  applied : Bool := false
  /-- I_PICK has been judged since BKb was energized -/
  picked : Bool := false
  /-- consecutive samples below I_HOLD_MIN -/
  lowRun : Nat := 0
  /-- consecutive samples above I_MAX -/
  overRun : Nat := 0
  /-- consecutive samples with LIFT ON while energized after the brake was reported lifted -/
  liftRun : Nat := 0
  /-- consecutive periods with the lanes' currents apart (Table 09-5) -/
  apartRun : Nat := 0
  /-- consecutive periods reported applied (Table 09-4) -/
  appliedRun : Nat := 0
  deriving DecidableEq, Repr

/-- A named neighbour as one lane sees it (R284, R285): 0 the car above, 1 the car below. -/
structure LaneNbr where
  /-- SEP_HARD asserted on the lane's line -/
  hard : Bool := false
  /-- reported position, µm -/
  pos : Int := 0
  /-- reported speed, µm/s -/
  speed : Int := 0
  /-- reported CONF -/
  conf : Nat := 0
  /-- sample time of the last frame, PTP ns -/
  time : Nat := 0
  /-- a frame has reached the lane -/
  seen : Bool := false
  /-- OPTIME at which the last frame reached the lane -/
  at_ : Time := 0
  /-- OPTIME at which data became stale and |speed| then, if stale -/
  stale : Option (Time × Nat) := none
  deriving DecidableEq, Repr

/-- A reset source in one lane (R286): 0 the network line, 1 SRST. -/
structure ResetSource where
  /-- filtered level -/
  level : Bool := false
  /-- OPTIME since which the lane reads the level high, if it does -/
  riseAt : Option Time := none
  /-- held high for 5 s -/
  stuck : Bool := false
  /-- its next rising edge counts only after the level has been low for 1 s -/
  blocked : Bool := false
  /-- OPTIME of the last falling edge while blocked -/
  lowAt : Option Time := none
  deriving DecidableEq, Repr

/-- A deck's lock check in one lane (R277): 0 lower, 1 upper. -/
structure LockCheck where
  /-- OPTIME since which CDOOR is OFF at a car stop -/
  openAt : Option Time := none
  /-- LCLOSED has read OFF since -/
  seen : Bool := false
  /-- judged for this opening -/
  judged : Bool := false
  /-- consecutive cycles without LCLOSED OFF -/
  misses : Nat := 0
  deriving DecidableEq, Repr

/-- One lane (files 08 and 09): lane A or lane B. -/
structure Lane where
  /-- running since its first period -/
  started : Bool := false
  /-- period index k -/
  period : Nat := 0
  /-- OPTIME at which its first period began -/
  firstAt : Time := 0
  /-- OPTIME at which the present period began -/
  startAt : Time := 0
  /-- the comparison point of this period has passed -/
  compared : Bool := true
  /-- samples of this period so far, in order -/
  samples : List Nat := []
  /-- the five samples of the previous period -/
  prev : List Nat := [0, 0, 0, 0, 0]
  /-- channels that made a fast-class demand in this period -/
  fast : Nat := 0
  /-- the same for the previous period -/
  prevFast : Nat := 0
  /-- record received and not judged, its CRC good -/
  inbox : Option Rec := none
  /-- the record of this period had not arrived by 25,250 bc (R232) -/
  noRecord : Bool := false
  /-- content of the other lane's latest valid record -/
  other : Rec := {}
  /-- a valid record has been received since the lane's first period -/
  heard : Bool := false
  /-- the record of this period was valid -/
  fresh : Bool := false
  /-- record sent in this period -/
  sent : Rec := {}
  /-- consecutive missing records -/
  miss : Nat := 0
  /-- missing records, saturating (SAF_PRISM_COUNT) -/
  missed : Nat := 0
  /-- periods with an item unequal, saturating -/
  unequal : Nat := 0
  /-- code of Table 08-5 of the last item judged unequal -/
  lastItem : Nat := 0
  /-- consecutive valid records -/
  validRun : Nat := 0
  /-- SPAN: bc between the last two arrivals (lane B) -/
  span : Nat := 0
  /-- consecutive periods with SPAN outside its band -/
  spanBad : Nat := 0
  /-- consecutive periods with SPAN in band -/
  spanGood : Nat := 0
  /-- consecutive periods with DIGEST unequal -/
  digestBad : Nat := 0
  /-- consecutive periods with DIGEST equal -/
  digestGood : Nat := 0
  /-- consecutive periods with SWITCH or SW1 unequal -/
  switchBad : Nat := 0
  /-- consecutive periods with REQ [5:0] unequal -/
  reqBad : Nat := 0
  /-- consecutive periods with REQ [5:0] equal -/
  reqGood : Nat := 0
  /-- requests treated as absent under item 5 -/
  reqAbsent : Nat := 0
  /-- consecutive periods with PERM unequal -/
  permBad : Nat := 0
  /-- consecutive periods with PERM equal -/
  permGood : Nat := 0
  /-- functions withdrawn by PERM_MISMATCH -/
  permOff : Nat := 0
  /-- consecutive periods with OUT_CMD unequal -/
  cmdBad : Nat := 0
  /-- consecutive periods with OUT_CMD equal -/
  cmdGood : Nat := 0
  /-- outputs held by OUT_CMD_MISMATCH -/
  cmdHeld : Nat := 0
  /-- consecutive periods with a position or speed difference over its limit -/
  posBad : Nat := 0
  /-- consecutive periods within POS_WARN and SPEED_LIMIT -/
  posGood : Nat := 0
  /-- |POS difference| is above POS_WARN -/
  posWarn : Bool := false
  /-- SWITCH_DISAGREE is in effect -/
  switchOff : Bool := false
  /-- exactly one lane's position is valid (R237) -/
  single : Bool := false
  /-- own channels as last sampled, before the filter -/
  raw : Nat := 0
  /-- filtered own channels, after ANTI inversion, bit i for input i + 1 -/
  chan : Nat := 0
  /-- consecutive samples of each channel at the level it does not have -/
  run : List Nat := List.replicate 16 0
  /-- consecutive disagreeing samples of each input (R243) -/
  discRun : List Nat := List.replicate 16 0
  /-- inputs both of whose channels have read OFF on a common sample since INPUT_DISC latched -/
  discOff : Nat := 0
  /-- inputs whose channels agreed on every sample of the last period -/
  agree : Nat := 0
  /-- FAULTS [63:0] as latched in this lane -/
  faults : Nat := 0
  /-- inputs with INPUT_DISC -/
  disc : Nat := 0
  /-- inputs with INPUT_STUCK or INPUT_CROSS -/
  wiring : Nat := 0
  /-- inputs whose channel passed the check of R246 in the latest test sequence -/
  wiringOk : Nat := 0
  /-- inputs for which FAST_CUT is held -/
  fastCut : Nat := 0
  /-- outputs with OUT_STUCK -/
  stuck : Nat := 0
  /-- outputs with OUT_CROSS -/
  cross : Nat := 0
  /-- outputs with OUT_OPEN -/
  opened : Nat := 0
  /-- the outputs this lane has found wired to each output, as a mask (R255) -/
  wired : List Nat := List.replicate 10 0
  /-- readbacks of the lane's two TPs -/
  tpRb : Nat := 0
  /-- TPs of the lane that have differed from their command during the running test sequence -/
  tpDiffer : Nat := 0
  /-- TPs of the lane whose readback matched through the whole of the latest test sequence -/
  tpOk : Nat := 0
  /-- OPTIME since which a TP's readback differs from its command -/
  tpBadAt : List (Option Time) := [none, none]
  /-- levels of the own channels on the last sample before the TP window -/
  tpBefore : Nat := 0
  /-- own permission of each function -/
  perm : Nat := 0
  /-- requests seen through the synchroniser -/
  reqSeen : Nat := 0
  /-- the same without those treated as absent under item 5 -/
  req : Nat := 0
  /-- own pole commands, 1 closed -/
  cmd : Nat := 0
  /-- own pole readbacks, 1 conducting -/
  rb : Nat := 0
  /-- OPTIME of the last command change of each pole -/
  cmdAt : List Time := List.replicate 10 0
  /-- consecutive periods in which both poles of an output read open while commanded open -/
  openRun : List Nat := List.replicate 10 0
  /-- own position, µm, at the last sample instant -/
  pos : Int := 0
  /-- own speed, µm/s -/
  speed : Int := 0
  /-- own position valid (R237) -/
  posValid : Bool := false
  /-- the doors were closed at the last judgement -/
  closed : Bool := false
  /-- UCM armed -/
  ucmArmed : Bool := false
  /-- UCM anchor, µm -/
  ucmAnchor : Int := 0
  /-- the car was bridged at the last judgement (R278) -/
  bridged : Bool := false
  /-- anchor of the brake test, µm -/
  btAnchor : Int := 0
  /-- largest |position − anchor| of the running brake test, µm -/
  btPeak : Nat := 0
  /-- the first two conditions of R281 held at the last sample instant since which FINAL_LIMIT may latch -/
  limitHeld : Bool := false
  /-- lock checks of the lower and the upper deck -/
  locks : List LockCheck := [{}, {}]
  /-- neighbours above and below -/
  nbrs : List LaneNbr := [{}, {}]
  /-- consecutive periods in which the SEP conditions held -/
  sepRun : Nat := 0
  /-- brakes 1 and 2 -/
  brakes : List LaneBrake := [{}, {}]
  /-- coil currents of brakes 1 and 2 when the record of this period was sent, mA -/
  sentCur : List Nat := [0, 0]
  /-- the other lane's, with its latest valid record -/
  otherCur : List Nat := [0, 0]
  /-- the network reset line and SRST -/
  srcs : List ResetSource := [{}, {}]
  /-- records still to carry RESET (R287) -/
  resetLeft : Nat := 0
  /-- the period of the last reset judged, modulo 65,536, and whether it was accepted (R288) -/
  resetJudged : Option (Nat × Bool) := none
  /-- the reset being signalled came from SRST -/
  resetLocal : Bool := false
  /-- debounced SW3 to SW8 -/
  code : Nat := 0
  /-- debounced SW1 -/
  sw1 : Bool := false
  /-- debounced SW2 -/
  sw2 : Bool := false
  /-- at the last look the code match held in both lanes and SWITCH_DISAGREE was not in effect (R258) -/
  matched : Bool := false
  /-- SWITCH_CHANGED: no open pole is closed (R258) -/
  noClose : Bool := false
  /-- overrides in force: parameter index to value as a 32-bit word -/
  overrides : SMap Nat := []
  /-- OVR_INDEX -/
  ovrIndex : Nat := 0
  /-- OVR_STATE -/
  ovrState : Nat := 0
  /-- OVR_APPLY -/
  ovrApply : Nat := 0
  /-- OVR_VALUE -/
  ovrValue : Nat := 0
  /-- OPTIME of the last sample instant, at which the lane advanced the alive count of its groups (R302) -/
  aliveAt : Time := 0
  /-- DRIVE_EN granted at the last comparison point (R270) -/
  grant : Bool := false
  /-- a test was aborted in the period, for TEST -/
  aborted : Bool := false
  /-- accepted frames of SSI2 in lane B's own decoder: position and time, newest first -/
  ssi : List (Int × Time) := []
  /-- consecutive rejected frames -/
  ssiBad : Nat := 0
  /-- consecutive accepted frames -/
  ssiGood : Nat := 0
  /-- lost under the rule of R118 -/
  ssiLost : Bool := false
  /-- the next frame starts the prediction afresh -/
  ssiFresh : Bool := true
  /-- OPTIME of the last frame, or of the last frame missed (R356) -/
  ssiAt : Option Time := none
  deriving DecidableEq, Repr

/-- What lane A has received of the position model (R130). -/
structure LaneFeed where
  /-- reported position, µm -/
  pos : Int := 0
  /-- speed, µm/s -/
  speed : Int := 0
  /-- CONF -/
  conf : Nat := 3
  /-- source in use -/
  source : Nat := 2
  /-- position and latch time of the last accepted SSI1 frame -/
  shaft : Option (Int × Time) := none
  /-- count of SC2 -/
  sc2 : Int := 0
  deriving DecidableEq, Repr

/-- A pulse of a test or recheck sequence (R249 to R253). -/
structure Pulse where
  /-- slot, Table 08-7 -/
  slot : Nat := 0
  /-- OPTIME of its start -/
  at_ : Time := 0
  /-- aborted by a demand (R252) -/
  aborted : Bool := false
  /-- poles of the same kind, commanded open, that conducted before the pulse -/
  before : Nat := 0
  /-- the pole was commanded closed before the pulse -/
  closed : Bool := false
  deriving DecidableEq, Repr

/-- The brake-test graph (R273 to R276). -/
structure BrakeTest where
  /-- a test is due -/
  due : Bool := false
  /-- the due test, or the running one, was made due by SAF_BT_CMD -/
  onCommand : Bool := false
  /-- brake under test, 1 or 2, if a test runs -/
  brake : Nat := 0
  /-- 1 awaiting the grant; 2 awaiting the lift; 3 ramp up; 4 hold; 5 ramp down; 6 awaiting the apply; 7 between the brakes -/
  phase : Nat := 0
  /-- OPTIME at which the phase began -/
  at_ : Time := 0
  /-- largest |TORQUE_ACT| in the hold, ppm -/
  torque : Nat := 0
  /-- operating time of the last pass, s -/
  lastPass : Nat := 0
  deriving DecidableEq, Repr

/-- The safety lanes and what the fabric does for them (files 08 and 09). -/
structure SafState where
  /-- lane A and lane B -/
  lanes : List Lane := [{}, {}]
  /-- what lane A has received of the position model -/
  feed : LaneFeed := {}
  /-- lane tables A and B of the loaded image -/
  tables : List LaneTable := [{}, {}]
  /-- requests commanded by the fabric: bit f − 1 for function f -/
  req : Nat := 0
  /-- 0 no sequence; 1 test sequence; 2 recheck sequence -/
  seq : Nat := 0
  /-- OPTIME at which it began -/
  seqAt : Time := 0
  /-- OPTIME at which the last test sequence ended -/
  seqEnd : Option Time := none
  /-- OPTIME at which the last test sequence began -/
  seqLast : Time := 0
  /-- outputs awaiting their recheck -/
  recheck : Nat := 0
  /-- outputs awaiting their recheck that have been energized since -/
  recheckDue : Nat := 0
  /-- outputs pulsed in the running recheck sequence -/
  recheckSet : Nat := 0
  /-- next slot of the running sequence -/
  slot : Nat := 0
  /-- slot of the running sequence that began last at its own lane -/
  slotAt : Option Nat := none
  /-- its pole's pulse is skipped, as judged at the slot start (R250) -/
  slotSkip : Bool := false
  /-- pulse running -/
  pulse : Option Pulse := none
  /-- safety test sequences ended since the last standard test sequence (R298) -/
  seqEnds : Nat := 0
  /-- brake test -/
  bt : BrakeTest := {}
  /-- OPTIME since which the conditions of a quiet point hold -/
  quietAt : Option Time := none
  /-- what port 9 last reported of each lane: permissions, held outputs, grant and brakes -/
  reported : List Nat := [0, 0]
  /-- an override is in progress: index and value, since which period -/
  overriding : Option (Nat × Nat) := none
  deriving DecidableEq, Repr

/-- A standard input beside its registers (R293, R294). -/
structure DiState where
  /-- level, or with WB the class of Table 10-3, of the last samples: 0 CLOSED, 1 OPEN, 2 UNDEFINED, 3 BREAK -/
  cand : Nat := 0
  /-- consecutive samples with it -/
  run : Nat := 0
  /-- consecutive UNDEFINED samples -/
  undef : Nat := 0
  /-- class last taken, if one has been -/
  taken : Option Nat := none
  /-- last measured current, 0.01 mA -/
  current : Nat := 0
  deriving DecidableEq, Repr

/-- A standard output beside its registers (R295 to R303). -/
structure DoState where
  /-- OPTIME at which the field side applied the last changed command -/
  at_ : Time := 0
  /-- judgements made since, 3 at most -/
  judged : Nat := 0
  /-- of these, judgements that disagreed -/
  bad : Nat := 0
  /-- consecutive agreeing judgements -/
  good : Nat := 0
  /-- OPTIME of the overload that holds the output off, if one does -/
  overAt : Option Time := none
  /-- latched off by overload -/
  latched : Bool := false
  /-- switched off at the end of its HOLD_TIME -/
  expired : Bool := false
  /-- level the field side applied last (R297) -/
  applied : Bool := false
  /-- OPTIME of the last judgement -/
  lastAt : Time := 0
  /-- commanded off and reading high on the last sample before the pulse (R300) -/
  before : Bool := false
  deriving DecidableEq, Repr

/-- A coupler lane (R307 to R310): state as FIO_CPL_LANE gives it. -/
structure CplLane where
  /-- MARGIN -/
  margin : Nat := 0
  /-- MIN -/
  min : Nat := 0xFF
  /-- ERRORS in the 24 h window -/
  errors : Nat := 0
  /-- STATE -/
  state : Nat := 0
  /-- MARGIN was below CPL_WARN at the last read (R307) -/
  low : Bool := false
  /-- its orderly takeover has failed twice for the cause that stands (R308) -/
  spent : Bool := false
  deriving DecidableEq, Repr

/-- A coupler group (Table 10-1): lanes 0 to 7 channels, 8 housekeeping, 9 spare. -/
structure CplGroup where
  /-- its lanes -/
  lanes : List CplLane := List.replicate 9 ({} : CplLane) ++ [({ state := 4 } : CplLane)]
  /-- OPTIME since which the field side has seen no new alive count, once silent -/
  silentAt : Option Time := none
  /-- takeover under comparison: lane and reason -/
  taking : Option (Nat × Nat) := none
  /-- a takeover is asked for: lane, reason, and for the one repetition the OPTIME from which the second runs (R307, R308) -/
  wanted : Option (Nat × Nat × Option Time) := none
  /-- the takeover under comparison is the repetition -/
  repeated : Bool := false
  deriving DecidableEq, Repr

/-- Standard field I/O beside its registers (file 10). -/
structure FioState where
  /-- commands standing at the transmit registers, bit n − 1 for DOn -/
  cmd : Nat := 0
  /-- function map of TERMINAL_MAP: KIND, TERMINAL, VALUE (R449) -/
  map : List (Nat × Nat × Nat) := []
  /-- standard inputs -/
  di : List DiState := List.replicate 48 {}
  /-- standard outputs -/
  dout : List DoState := List.replicate 24 {}
  /-- coupler groups -/
  groups : List CplGroup := List.replicate 17 {}
  /-- OPTIME at which the 24 h error window began -/
  window : Time := 0
  /-- running standard test sequence: its start -/
  seqAt : Option Time := none
  /-- next slot of it -/
  slot : Nat := 0
  /-- output being pulsed and OPTIME of the pulse start -/
  pulse : Option (Nat × Time) := none
  /-- commands applied when group 6, 7 or 8 fell silent or the alive counts stopped (R303) -/
  frozen : Nat := 0
  /-- candidate band of FS1, FS2A and FS2B and consecutive samples in it (R305) -/
  fs : List (Nat × Nat) := List.replicate 3 (3, 0)
  /-- OPTIME at which the supervisor stopped the alive counts, if it has (R302, R402) -/
  stopAt : Option Time := none
  /-- field-side logic power present -/
  power : Bool := true
  deriving DecidableEq, Repr

/-- The path state of a tracked producer and a class S kind (R323). -/
structure PathSt where
  /-- ORIGIN of the producer -/
  origin : Nat
  /-- its address -/
  src : Nat
  /-- its side -/
  side : Nat
  /-- KIND -/
  kind : Nat
  /-- 0 NONE; 1 DUAL; 2 SINGLE_A; 3 SINGLE_B; 4 EXPIRED; 5 MISMATCH -/
  path : Nat := 0
  /-- SEQ last taken -/
  last : Option Nat := none
  /-- bytes of its first copy -/
  bytes : List Byte := []
  /-- network of its first copy: 0 A, 1 B -/
  net : Nat := 0
  /-- the other copy is awaited -/
  pending : Bool := false
  /-- when the wait ends -/
  deadline : Time := 0
  /-- consecutive identical pairs -/
  run : Nat := 0
  /-- since when the path is single -/
  since : Time := 0
  deriving DecidableEq, Repr

/-- What the duplicate rule keeps of a producer and a kind (R319, R325). -/
structure DupSt where
  /-- ORIGIN, SRC, SIDE, KIND, and for ADJ frames the port of reception -/
  key : Nat × Nat × Nat × Nat × Nat
  /-- SEQ last used -/
  last : Nat
  /-- bytes of the copy used -/
  bytes : List Byte
  deriving DecidableEq, Repr

/-- A frame in a port's queue (R321). -/
inductive NetFrame where
  /-- an Ethernet frame, FCS included -/
  | raw (bytes : List Byte)
  /-- a Pdelay_Resp, FCS included, and the requesting port's identity and sequence for its Follow_Up, which is formed when it leaves -/
  | pdelayResp (bytes who : List Byte) (seq : Nat)
  deriving DecidableEq, Repr

/-- One port of a switch (R312, R321, R336). -/
structure PortSt where
  /-- its four queues, class 0 to 3, oldest first -/
  queues : List (List NetFrame) := List.replicate 4 []
  /-- the frame sent last -/
  sent : Option NetFrame := none
  /-- sequence number of its next Pdelay_Req -/
  pdelaySeq : Nat := 0
  /-- its last Pdelay_Req awaits the answer -/
  pdelayWait : Bool := false
  /-- OPTIME of its last Pdelay_Req, if one was sent -/
  pdelayAt : Option Time := none
  deriving DecidableEq, Repr

/-- An adjacent module as its ADJ frames on one port show it (R338). -/
structure Adj where
  /-- PRESENT -/
  present : Bool := false
  /-- address, 0 unassigned -/
  addr : Nat := 0
  /-- side -/
  side : Nat := 0
  /-- COMMITTED -/
  committed : Bool := false
  /-- LISTENING -/
  listening : Bool := false
  /-- PAIRED -/
  paired : Bool := false
  /-- serial -/
  serial : Nat := 0
  /-- OPTIME of its last ADJ frame -/
  at_ : Time := 0
  deriving DecidableEq, Repr

/-- A REQUEST frame's payload (R332). -/
structure Request where
  /-- REQ_ID -/
  id : Nat
  /-- LANDING, FLAGS and OP as one number: LANDING, 256 × FLAGS, 65536 × OP -/
  payload : Nat
  deriving DecidableEq, Repr

/-- An answered request (R332). -/
structure Answer where
  /-- REQ_ID -/
  id : Nat
  /-- its payload -/
  payload : Nat
  /-- CODE answered -/
  code : Nat
  deriving DecidableEq, Repr

/-- A delivered RESET frame (R333). -/
structure ResetFrame where
  /-- ORIGIN -/
  origin : Nat
  /-- DST -/
  dst : Nat
  /-- RESET_ID -/
  id : Nat
  /-- STATE: 1 PRESS, 2 RELEASE -/
  state : Nat
  deriving DecidableEq, Repr

/-- A network reset in progress (R333). -/
structure Press where
  /-- RESET_ID -/
  id : Nat
  /-- OPTIME of its first PRESS -/
  first : Time
  /-- OPTIME of its last PRESS -/
  last : Time
  /-- it is abandoned and holds the line -/
  abandoned : Bool := false
  deriving DecidableEq, Repr

/-- A management frame (R334). -/
structure MgmtReq where
  /-- ORIGIN -/
  origin : Nat
  /-- SRC -/
  src : Nat
  /-- SEQ -/
  seq : Nat
  /-- MGMT_TAG -/
  tag : Nat
  /-- ADDR_OP and DATA of each access -/
  accesses : List (Nat × Nat)
  /-- port of arrival on network A and B: 0 port 1, 1 port 2 -/
  ports : List (Option Nat)
  deriving DecidableEq, Repr

/-- An ENUMERATE frame waiting for its copy (R339). -/
structure EnumWait where
  /-- ENUM_ID -/
  id : Nat
  /-- COUNTER on network A and B -/
  counters : List (Option Nat)
  /-- OPTIME of the first copy -/
  at_ : Time
  deriving DecidableEq, Repr

/-- The data set of an Announce message in the order the best master clock algorithm compares it (Table 11-5). -/
structure Announce where
  /-- priority 1, class, accuracy, variance, priority 2 and identity of the grandmaster -/
  rank : List Nat
  /-- grandmasterIdentity -/
  identity : Nat
  /-- stepsRemoved -/
  steps : Nat
  deriving DecidableEq, Repr

/-- The ordinary clock of one network (R336, R337). -/
structure NetClock where
  /-- its time, half ns -/
  half : Nat := 0
  /-- what slewing still has to add, half ns -/
  slew : Int := 0
  /-- consecutive Syncs with an offset of at most 200 ns -/
  run : Nat := 0
  /-- OPTIME of its last Sync -/
  lastSync : Time := 0
  /-- the best Announce -/
  best : Option Announce := none
  deriving DecidableEq, Repr

/-- A snapshot capture, in the capture set or a bank (R344, R395). -/
structure Snap where
  /-- TAG -/
  tag : Nat := 0
  /-- made without PTP lock -/
  unlocked : Bool := false
  /-- OVERWRITE of its frame -/
  overwrite : Bool := false
  /-- INSTANT -/
  instant : Nat := 0
  /-- capture OPTIME -/
  optime : Nat := 0
  /-- one word per counter of the counter map -/
  words : List Nat := []
  deriving DecidableEq, Repr

/-- The networks beside their registers (file 11). -/
structure NetState where
  /-- fail-through bypass relay of network A and B closed (R313) -/
  bypass : List Bool := [true, true]
  /-- ports A1, A2, B1, B2 -/
  ports : List PortSt := List.replicate 4 {}
  /-- next SEQ of each KIND (R319) -/
  seq : List Nat := List.replicate 12 0
  /-- frames of each KIND sent since the reset, up to 16 (R319) -/
  firsts : List Nat := List.replicate 12 0
  /-- path states (R323) -/
  paths : List PathSt := []
  /-- duplicate rule (R325) -/
  dups : List DupSt := []
  /-- receive buffer of port 2 (R322) -/
  bufReset : List ResetFrame := []
  /-- receive buffer of port 3 -/
  bufMgmt : List MgmtReq := []
  /-- receive buffer of port 4 -/
  bufReq : List Request := []
  /-- requests passed to the stop-list graph and not yet answered -/
  graphReq : List Request := []
  /-- the last 64 answered requests, newest first (R332) -/
  answers : List Answer := []
  /-- network reset in progress -/
  press : Option Press := none
  /-- RESET_ID of the last press that ended -/
  pressDone : Option Nat := none
  /-- side of the last accepted NEIGHBOUR frame: above, below -/
  nbrSide : List Nat := [0, 0]
  /-- its age, µs: above, below -/
  nbrAge : List Nat := [0, 0]
  /-- OPTIME of the last NEIGHBOUR frame sent -/
  nbrSent : Option Time := none
  /-- OPTIME of the last STATUS frame sent -/
  statusSent : Option Time := none
  /-- OPTIME of the last ADJ frames sent -/
  adjSent : Option Time := none
  /-- adjacent modules on A1, A2, B1, B2 -/
  adj : List Adj := List.replicate 4 {}
  /-- adjacent modules as the partner reports its own: A1, A2, B1, B2 (R338, R351) -/
  partnerAdj : List Adj := List.replicate 4 {}
  /-- address and ENUM_ID the partner reports (R339, R351) -/
  partnerAddr : Nat × Nat := (0, 0)
  /-- ENUMERATE frame waiting for its copy -/
  enum : Option EnumWait := none
  /-- ENUM_ID processed last -/
  enumDone : Option Nat := none
  /-- ADDR_SPLIT in force (R341) -/
  split : Bool := false
  /-- ADDR_DUPLICATE in force (R342) -/
  duplicate : Bool := false
  /-- how the last enumeration left the module without an address: 0, 3 no gap, 4 full -/
  noAddr : Nat := 0
  /-- the committed address differs from OWN_ADDR, as last judged (R341) -/
  imageMismatch : Bool := false
  /-- the module's PTP time, half ns (R337) -/
  half : Nat := 0
  /-- what slewing still has to add to it, half ns -/
  slew : Int := 0
  /-- ordinary clocks of network A and B -/
  clocks : List NetClock := [{}, {}]
  /-- the two clocks differ by more than 1 µs, as last judged -/
  diverged : Bool := false
  /-- capture set waiting for its bank (R344) -/
  capture : Option Snap := none
  /-- a snapshot has been captured since the log of tags began, class W -/
  captured : Bool := false
  /-- snapshot banks 0 to 3, class W -/
  banks : List Snap := List.replicate 4 {}
  deriving DecidableEq, Repr

/-- The mirror pair beside its registers (file 12). -/
structure MirState where
  /-- car-period index k modulo 2^32 (R352) -/
  k : Nat := 0
  /-- what the pair's numbering of car periods adds to the module's own (R352) -/
  kOfs : Nat := 0
  /-- messages queued for the link, oldest first, 64 at most (R351) -/
  out : List LinkMsg := []
  /-- the partner's last HELLO (R351) -/
  partner : Option Hello := none
  /-- a message was lost to a full queue and the standby must resynchronise (R351) -/
  resync : Bool := false
  /-- standard-output commands of the other module, by the link (R301) -/
  partnerDo : Nat := 0
  /-- levels of the partner's request bus: requests 1 to 6 in bits 0 to 5, its network reset line in bit 6 (R348, R350) -/
  bus : Nat := 0
  /-- what the lanes hold while neither role line is asserted, as bus; 0 once the hold has expired (R350) -/
  held : Nat := 0
  /-- since when neither role line is asserted -/
  holdAt : Time := 0
  /-- the module's timebase and car-period index follow the active's (R352) -/
  aligned : Bool := false
  /-- payload of the last valid heartbeat (R353) -/
  hb : Option (List Byte) := none
  /-- period whose heartbeat came last -/
  hbK : Option Nat := none
  /-- consecutive missing heartbeats -/
  hbMiss : Nat := 0
  /-- period whose heartbeat was last counted as missing -/
  missK : Option Nat := none
  /-- consecutive periods in which every item passed (R355) -/
  passRun : Nat := 0
  /-- OPTIME since which the shadow has been SYNCED -/
  syncedAt : Option Time := none
  /-- SYNC state waiting for its period -/
  syncWait : Option SyncBody := none
  /-- journal records waiting for their period -/
  due : List JournalRec := []
  /-- OPTIME of the partner's last HELLO -/
  lastHello : Time := 0
  /-- OPTIME of the last HELLO sent -/
  helloSent : Option Time := none
  /-- the partner reports the same side (R444) -/
  clash : Bool := false
  /-- OPTIME at which the own role line rose -/
  raisedAt : Option Time := none
  /-- OPTIME since which the partner's role line has read low -/
  lowAt : Time := 0
  /-- a HANDOVER with RESIGN has arrived (R359) -/
  resigned : Bool := false
  /-- period of the planned handover, as sent or received (R363) -/
  handAt : Option Nat := none
  /-- why it was started: 0 command, 1 takeback, 2 adoption -/
  handWhy : Nat := 0
  /-- MIR_CMD HANDOVER waits for a quiet point (R364) -/
  handCmd : Bool := false
  /-- the partner adopts a new image at the next quiet point (R367) -/
  partnerAdopts : Bool := false
  /-- the partner has restarted with a new image and not yet taken control (R364) -/
  partnerAdopted : Bool := false
  /-- this module has restarted with a new image and not yet taken control -/
  adopted : Bool := false
  /-- MIR_CMD ADOPT waits for a quiet point -/
  adoptWait : Bool := false
  /-- since when the active holds starts for an adoption -/
  adoptAt : Option Time := none
  /-- the partner's restart for the adoption has shown since the hold began: no longer synced, or no longer heard -/
  adoptSeen : Bool := false
  /-- door starts that a handover or an adoption holds: operator and profile (R363, R367) -/
  heldDoors : List (Nat × Nat) := []
  /-- STOPS_VER (Table 12-2) -/
  stopsVer : Nat := 0
  deriving DecidableEq, Repr

/-- A recorder record as it accumulates in the near store (Tables 13-2, 13-3). -/
structure RecSlot where
  /-- ITEM -/
  item : Nat
  /-- KIND: 1 HISTOGRAM; 2 TABLE; 3 EXTREMES; 4 COUNTERS; 5 MATRIX -/
  kind : Nat
  /-- INSTANCE -/
  inst : Nat
  /-- LOW -/
  low : Int := 0
  /-- WIDTH -/
  width : Nat := 0
  /-- NBINS -/
  nbins : Nat
  /-- COUNT -/
  count : Nat := 0
  /-- SUM -/
  sum : Int := 0
  /-- START_SECONDS -/
  started : Nat := 0
  /-- body: the numbers of Table 13-3 in body order; an unlisted one is 0 -/
  cells : SMap Int := []
  deriving DecidableEq, Repr

/-- The recorder (R389 to R392): its accumulation, class H. -/
structure RecState where
  /-- slots in use, in ITEM and INSTANCE order -/
  slots : List RecSlot := []
  /-- OPTIME of the last commit -/
  lastAt : Time := 0
  deriving DecidableEq, Repr

/-- A remap in progress (R368). -/
structure Remap where
  /-- a page of the table store; else a row of the near store -/
  table : Bool
  /-- row or page -/
  row : Nat
  /-- the spare row or page -/
  spare : Nat
  deriving DecidableEq, Repr

/-- Error handling of the memories, and the loupe (R368 to R372). -/
structure MemState where
  /-- rows and pages due for remapping: table store or not, row or page -/
  due : List (Bool × Nat) := []
  /-- words that hold an uncorrectable error: table store or not, offset -/
  bad : List (Bool × Nat) := []
  /-- the remap in progress -/
  remap : Option Remap := none
  /-- spare row of each remapped near-store row, class K -/
  nearMap : SMap Nat := []
  /-- spare page of each remapped table-store page, class K -/
  tableMap : SMap Nat := []
  /-- fence records of the near store: rows, and spare rows from 32,768 on; class K -/
  nearFenced : List Nat := []
  /-- fence records of the table store: pages, and spare pages from 2^20 on; class K -/
  tableFenced : List Nat := []
  /-- corrected errors of each near-store row in the current 24 h window -/
  nearErr : SMap Nat := []
  /-- corrected errors of each table-store page in the current 24 h window -/
  tableErr : SMap Nat := []
  /-- OPTIME at which that window began -/
  windowAt : Time := 0
  /-- spare block of each replaced user block of the deep store, class K -/
  deepMap : SMap Nat := []
  /-- retired blocks of the deep store: user blocks, and spare blocks from 16,384 on; class K -/
  retired : List Nat := []
  /-- records of the system region that are damaged and that the next start finds absent (R370) -/
  lost : List SysRecord := []
  /-- OPTIME at which each task of Table 12-5 last ran -/
  loupeAt : List Time := List.replicate 10 0
  deriving DecidableEq, Repr

/-- Power, clocks and resets beside their registers (file 14). -/
structure PwrState where
  /-- supplies have been valid since the last POWER-ON or DIP reset began (R413) -/
  supplied : Bool := false
  /-- OPTIME at which the last DIP began (R410) -/
  dipAt : Time := 0
  /-- the clock is lost and the main die is held in reset (R402) -/
  clockLost : Bool := false
  /-- OPTIME of the last retry to lock a PLL (R402) -/
  retryAt : Option Time := none
  /-- OPTIME from which the exit thresholds of the present Dim step have been seen met without a break (R404) -/
  exitAt : Option Time := none
  /-- candidate band of X1 and consecutive samples in it (R399) -/
  vin : Nat × Nat := (3, 0)
  /-- a temperature excursion of each sensor is in progress (R416) -/
  hot : List Bool := List.replicate 4 false
  /-- overrides named in the override mark, class K (R415) -/
  ovrMark : Nat := 0
  /-- the first exit cause of R407 seen while Parked -/
  exit : Option Nat := none
  /-- OPTIME of the last exit from Parked -/
  leftAt : Time := 0
  /-- an accepted WARM waits for the exit from Parked (R411) -/
  warmDue : Bool := false
  /-- an accepted PARK of a pair waits for its car period (R405) -/
  parkDue : Bool := false
  /-- µs at 200 MHz, at 100 MHz and Parked short of a full ms -/
  partMs : List Nat := [0, 0, 0]
  deriving DecidableEq, Repr

/-- A key command that runs (R422). -/
structure KeyCmd where
  /-- ENROLL; else REMOVE -/
  enroll : Bool
  /-- SLOT -/
  slot : Nat
  /-- X and Y of the issuing path's buffer -/
  key : BitVec 768
  /-- issuing path -/
  path : Path
  deriving DecidableEq, Repr

/-- The 256 B module certificate of the modelled module (Table 15-1, log entry 1): MAGIC, FORMAT, LEN, serial 0, PART_ID; time, key
number, key and signature 0. -/
def newCertificate : List Byte :=
  leBytes 4 0x4B434D43 ++ leBytes 2 1 ++ leBytes 2 256 ++ leBytes 8 0 ++ leBytes 4 0x84400001 ++ List.replicate 12 0 ++
  leBytes 1 4 ++ List.replicate 223 0

/-- The security block beside its registers (file 15). -/
structure SecState where
  /-- key slots 0 to 3: X and Y of the enrolled key, class K (R422) -/
  keys : List (Option (BitVec 768)) := List.replicate 4 none
  /-- module certificate, class K -/
  cert : List Byte := newCertificate
  /-- CRC and valid mark of its record are intact, class K (R420) -/
  certOk : Bool := true
  /-- the check of R420 failed in this start -/
  idFailed : Bool := false
  /-- the key command that runs -/
  running : Option KeyCmd := none
  /-- the report being signed and the code of its path (R424) -/
  pending : Option (List Byte × Nat) := none
  /-- report buffer: empty, or 512 B -/
  report : List Byte := []
  /-- SHA-384 that lane A and lane B computed in step 4 of the last start (R59) -/
  laneHash : List Digest := [0, 0]
  deriving DecidableEq, Repr

/-- The 8440. -/
structure State where
  /-- commands waiting, first in, first out -/
  pending : List Instr := []
  /-- the register-field file: Field.key to value; an unlisted field holds its reset value -/
  regs : SMap Nat := []
  /-- OPTIME (R4) -/
  optime : Time := 0
  /-- power-cycle count (R4), class K -/
  pcc : Nat := 0
  /-- number of free values taken so far: the model's own counter (log entry 6) -/
  free : Nat := 0
  /-- events raised in the running step and not yet taken (R374); empty between steps -/
  raised : List Raised := []
  /-- events -/
  ev : EvState := {}
  /-- trouble log -/
  log : LogState := {}
  /-- wall clock -/
  wall : WallState := {}
  /-- host port -/
  host : HostPort := {}
  /-- what the host-port path has of its own -/
  pathHost : PathState := {}
  /-- what the management-frame path has of its own -/
  pathMgmt : PathState := {}
  /-- keep store, 16 MiB (Table 02-4), class K -/
  keep : Mem := []
  /-- deep slots 0 and 1, 256 MiB each, class K -/
  deep : List Mem := [[], []]
  /-- near store, by window offset -/
  near : Mem := []
  /-- table store, by window offset (Table 02-5), class W -/
  table : Mem := []
  /-- image control -/
  img : ImgState := {}
  /-- dispatcher and facets -/
  dsp : DspState := {}
  /-- position front ends -/
  pos : PosState := {}
  /-- reticle -/
  ret : RetState := {}
  /-- trips, stop list, separation -/
  trip : TripState := {}
  /-- loop engines and doors -/
  loop : LoopState := {}
  /-- safety lanes -/
  saf : SafState := {}
  /-- standard field I/O -/
  fio : FioState := {}
  /-- networks -/
  net : NetState := {}
  /-- mirror pair -/
  mir : MirState := {}
  /-- recorder -/
  rcd : RecState := {}
  /-- memory errors, spares and the loupe -/
  mem : MemState := {}
  /-- power and clocks -/
  pwr : PwrState := {}
  /-- security block -/
  sec : SecState := {}
  deriving DecidableEq, Repr

/-- A new module right after its first POWER-ON reset, before its supplies are valid (R10, R409): every register at its
reset value, OPTIME 0, the memories and queues empty. -/
def State.reset : State := {}

end Sys2Proof.Machine
end

