-- ==== Sys2Proof/Machine/Ops.lean ====
section
/-! DEFINITION. The named operations every meaning is written over: the register-field file, the memories, operating time,
free values, raising an event and what the trouble log and the queues make of it (R374 to R382), and the external ports of
the dispatcher (R80). -/

namespace Sys2Proof.Machine

/-- What a command answers. -/
abbrev Res := Host.Outcome State Fault Refusal

namespace State

/-- The value of a register field (R7, R10). -/
def r (s : State) (f : Field) : Nat := SMap.get s.regs f.key f.reset

/-- The value of a field in two's complement (R5). -/
def ri (s : State) (f : Field) : Int := toI f.width (s.r f)

/-- Whether a field is not 0. -/
def rb (s : State) (f : Field) : Bool := s.r f != 0

/-- A field set by the 8440, held to its width. -/
def w (s : State) (f : Field) (v : Nat) : State :=
  { s with regs := SMap.put s.regs f.key (v % 2 ^ f.width) f.reset }

/-- A field set to a signed value. -/
def wi (s : State) (f : Field) (i : Int) : State := s.w f (ofI f.width i)

/-- A field set to 1 or 0. -/
def wb (s : State) (f : Field) (b : Bool) : State := s.w f (b2n b)

/-- A counter field counted up, saturating. -/
def inc (s : State) (f : Field) : State := s.w f (satN f.width (s.r f + 1))

/-- A peak field raised to v if v is larger, saturating. -/
def peak (s : State) (f : Field) (v : Nat) : State := s.w f (max (s.r f) (satN f.width v))

/-- A counter field counted up, wrapping. -/
def incWrap (s : State) (f : Field) : State := s.w f (s.r f + 1)

/-- f applied if b. -/
def when_ (s : State) (b : Bool) (f : State → State) : State := if b then f s else s

/-- Microseconds of operating time since a stamp (R4). -/
def since (s : State) (t : Time) : Nat := (s.optime - t).toNat

/-- OPTIME [31:0]. -/
def now32 (s : State) : Nat := s.optime.toNat % 2 ^ 32

/-- The next free value, as the field of width w it stands for. -/
def freeNat (s : State) (w : Nat) : Nat := (Config.freeWord s.free).toNat % 2 ^ w

/-- The state after a free value is taken. -/
def took (s : State) : State := { s with free := s.free + 1 }

/-- The module is Parked (R406). -/
def parked (s : State) : Bool := s.rb Reg.PWR_STATUS_PARKED

/-- An exit cause of R407 seen while Parked; the first one counts. -/
def wake (s : State) (cause : Nat) : State :=
  if s.parked && s.pwr.exit.isNone then { s with pwr := { s.pwr with exit := some cause } } else s

/-- f applied unless the module is Parked, which clock-gates the facets, the dispatcher, the loop engines and the profile
evaluator (R406). -/
def awake (s : State) (f : State → State) : State := if s.parked then s else f s

/-- An event raised in this step (R374). -/
def raise (s : State) (e : Evt) (args : List Arg) : State :=
  { s with raised := s.raised ++ [{ evt := e, arg := packArgs args }] }

end State

/-! ### Memories -/

/-- One byte of a memory; an unlisted address reads 0 (log entry 4). -/
def memGet (m : Mem) (a : Nat) : Byte := SMap.get m a 0

/-- One byte of a memory written, in canonical form. -/
def memPut (m : Mem) (a : Nat) (b : Byte) : Mem := SMap.put m a b 0

/-- n bytes of a memory from a. -/
def memRead (m : Mem) (a n : Nat) : List Byte := (List.range n).map fun i => memGet m (a + i)

/-- Bytes written to a memory from a. -/
def memWrite (m : Mem) (a : Nat) (bs : List Byte) : Mem :=
  match bs with
  | [] => m
  | b :: rest => memWrite (memPut m a b) (a + 1) rest

/-- n bytes of a memory from a, little-endian. -/
def memLe (m : Mem) (a n : Nat) : Nat := leNat (memRead m a n)

/-- n bytes of a memory from a, little-endian two's complement. -/
def memLeI (m : Mem) (a n : Nat) : Int := toI (8 * n) (memLe m a n)

/-- No listed byte equals what an unlisted address reads. -/
def memNonzero (m : Mem) : Bool := m.all fun c => c.2 != 0

/-- The canonical form of a memory: addresses strictly rising, no entry equal to what an unlisted address reads as. -/
def Memory.wf (m : Mem) : Bool := SMap.sorted m && memNonzero m

/-- The canonical form of the register-field file: keys strictly rising. -/
def regsWf (m : SMap Nat) : Bool := SMap.sorted m

/-! ### Events (R374 to R382) -/

/-- Bit src of a group of sixteen EVT_ registers. -/
def evtBit (s : State) (reg : Nat → Field) (src : Nat) : Bool := bitAt (s.r (reg (src / 32))) (src % 32)

/-- The pending bit, the count, the host queue and the frame queue take an event (R374, R377, R378). -/
def evTake (s : State) (x : Raised) (e : EvState) : EvState :=
  let entry : QEntry := ⟨x.evt.src, x.evt.fault, x.arg, s.optime.toNat, s.pcc⟩
  let e := { e with
    pend := setBit e.pend x.evt.src true,
    counts := SMap.put e.counts x.evt.src ((SMap.get e.counts x.evt.src 0 + 1) % 2 ^ 32) 0 }
  let e :=
    if evtBit s Reg.EVT_MASK x.evt.src then e
    else if e.queue.length < 256 then { e with queue := e.queue ++ [entry] }
    else { e with lost := satN 16 (e.lost + 1) }
  if evtBit s Reg.EVT_FRAME_OFF x.evt.src then e
  else if e.frames.length < 64 then { e with frames := e.frames ++ [entry] }
  else { e with frameLost := satN 16 (e.frameLost + 1), frameLostFlag := true }

/-- Records a region holds: 65,536 in the main region, 8,192 in the spare region. -/
def logCap (region : Nat) : Nat := if region = 0 then 65536 else 8192

/-- CODE of a record (Table 13-1). -/
def logCode (s : State) (e : Evt) : Nat :=
  e.src + 2 ^ 9 * b2n e.fault + 2 ^ 10 * b2n (s.wall.source != 0) + 2 ^ 11 * b2n (s.wall.source == 2) + 2 ^ 15

/-- The records of the active region, newest first. -/
def LogState.recs (l : LogState) : List LogRec := if l.region = 0 then l.main else l.spare

/-- The active region with other records. -/
def LogState.setRecs (l : LogState) (rs : List LogRec) : LogState :=
  if l.region = 0 then { l with main := rs } else { l with spare := rs }

/-- A record written as the next one; a full region loses its oldest (R380). -/
def logWrite (x : LogRec) (l : LogState) : LogState :=
  if l.stopped then l
  else
    let full := decide (logCap l.region ≤ l.recs.length)
    let kept := if full then l.recs.take (logCap l.region - 1) else l.recs
    let l := l.setRecs ({ x with num := l.next } :: kept)
    let l := { l with next := (l.next + 1) % 2 ^ 32 }
    if full then
      { l with
        oldest := (l.oldest + 1) % 2 ^ 32, overwritten := satN 32 (l.overwritten + 1), wrapped := true, wrapSaid := true }
    else l

/-- The record of an event at this moment (R379). -/
def logRecord (s : State) (e : Evt) (arg : Nat) : LogRec :=
  { num := 0, code := logCode s e, rep := 0, optime := s.optime.toNat, last := s.optime.toNat, arg := arg, pcc := s.pcc,
    wall := if s.wall.source = 0 then 0 else s.wall.ns }

/-- CLOCK_STEP and LOG_MEDIUM_FAIL records never merge, and nothing merges into them (R381). -/
def neverMerges (src : Nat) : Bool := src == Evt.CLOCK_STEP.src || src == Evt.LOG_MEDIUM_FAIL.src

/-- A further occurrence merged into the last record (R381). -/
def logMerge (s : State) (x : LogRec) : LogRec :=
  { x with rep := satN 16 (x.rep + 1), last := s.optime.toNat }

/-- Sources whose records are written whatever their EVT_LOG_OFF bits hold and outside the limit of R382 (R374). -/
def alwaysLogged (src : Nat) : Bool :=
  src == Evt.CLOCK_STEP.src || src == Evt.LOG_MEDIUM_FAIL.src || src == Evt.LOG_CLEARED.src

/-- An offered event: merged, written, or counted as throttled (R381, R382). -/
def logOffer (s : State) (x : Raised) (l : LogState) : LogState :=
  if l.stopped then l
  else
    let merge := match l.recs with
      | [] => none
      | y :: rest =>
        if y.code % 512 = x.evt.src && y.arg = x.arg && !neverMerges x.evt.src then some (logMerge s y :: rest) else none
    match merge with
    | some rs => l.setRecs rs
    | none =>
      let sec := s.optime.toNat / 1000000
      let l := if l.second = sec then l else { l with second := sec, perSource := [] }
      let n := SMap.get l.perSource x.evt.src 0
      if !x.evt.fault && !alwaysLogged x.evt.src && decide (64 ≤ n) then { l with throttled := satN 8 (l.throttled + 1) }
      else
        logWrite (logRecord s x.evt x.arg) { l with perSource := SMap.put l.perSource x.evt.src (n + 1) 0 }

/-- The CLOCK_STEP record: WALL the new value, the old value in LAST and the low half of ARG, the cause above it (R385). -/
def clockStepRecord (s : State) (new old cause : Nat) : LogRec :=
  { logRecord s Evt.CLOCK_STEP 0 with
    last := old % 2 ^ 48, arg := old / 2 ^ 48 % 2 ^ 16 + 2 ^ 16 * cause, wall := new }

/-- What the trouble log makes of an event (R374). -/
def logTake (s : State) (x : Raised) (l : LogState) : LogState :=
  match x.how with
  | .written => l
  | .clockStep new old cause => logWrite (clockStepRecord s new old cause) l
  | .offered => if x.evt.fault || !evtBit s Reg.EVT_LOG_OFF x.evt.src then logOffer s x l else l

/-- The event of the first overwrite after a reset or a clear (R380). -/
def wrappedEvent (l : LogState) : Raised := ⟨Evt.LOG_WRAPPED, l.region, .offered⟩

/-- An event is taken by the log and the queues (R374). -/
def takeEvent (s : State) (x : Raised) : State :=
  let s := if x.evt.src / 64 = 3 then s.wake 3 else s
  { s with log := logTake s x s.log, ev := evTake s x s.ev }

/-- A raised event placed by ascending source, behind those of its own source (R374). -/
def insertRaised (x : Raised) : List Raised → List Raised
  | [] => [x]
  | y :: rest => if x.evt.src < y.evt.src then x :: y :: rest else y :: insertRaised x rest

/-- Events of one step in ascending source (R374). -/
def sortRaised (l : List Raised) : List Raised := l.foldl (fun acc x => insertRaised x acc) []

/-- The end of a step: its events are taken in ascending source (R374), among them LOG_WRAPPED where their records make the first
overwrite (R380). -/
def State.fin (s : State) : State :=
  let l := sortRaised s.raised
  let t := l.foldl takeEvent { s with raised := [] }
  if t.log.wrapSaid && !s.log.wrapSaid then (insertRaised (wrappedEvent t.log) l).foldl takeEvent { s with raised := [] } else t

/-- A command's answer: the next state, its events taken. -/
def State.done (s : State) : Res := .next s.fin

/-! ### External ports of the dispatcher (Table 03-4, R80) -/

/-- The counter the FABRIC section binds to an occurrence of a port, if it binds one. -/
def portCounter (d : DspState) (port key : Nat) : Option Nat :=
  (d.fab.ports.find? fun x => x.1 == port && x.2.1 == key).map fun x => x.2.2

/-- A decrement offered to a port's FIFO; true if it had room (R80). -/
def portPush (d : DspState) (port : Nat) (x : Dec) : DspState × Bool :=
  let q := nth d.ports port []
  if q.length < 16 then ({ d with ports := setAt d.ports port (q ++ [x]) [] }, true) else (d, false)

/-- A decrement held by the port's source while the FIFO is full. -/
def portHold (d : DspState) (port : Nat) (x : Dec) : DspState :=
  { d with held := modAt d.held port (fun l => l ++ [x]) [] }

/-- Step 4 of Table 02-7 has released the graphs (R56). -/
def State.released (s : State) : Bool := s.r Reg.IMG_MODULE_STATE_PHASE == 1 || s.r Reg.IMG_MODULE_STATE_PHASE == 2

/-- A command that an item of a graph gives: no graph runs before step 4 of Table 02-7 (R56), and none in Parked (R406). -/
def State.graphDoes (s : State) (f : State → State) : State := if s.released then s.awake f else s

/-- A command that is a register write: in IMAGE_FAIL it is refused and changes nothing (R58). -/
def State.served (s : State) (f : State → State) : State := if s.r Reg.IMG_MODULE_STATE_PHASE = 7 then s else f s

/-- An access that a path makes: in IMAGE_FAIL the host port alone is served (R58). -/
def State.servedOn (s : State) (p : Path) (f : State → State) : State :=
  match p with
  | .host => f s
  | .mgmt _ _ => s.served f

/-- An occurrence reported to a port: its counter's decrement enters the FIFO, or is handled as Table 03-4 gives for a full
one: merged on ports 7, 8 and 10, held by the source on the others. In Parked, frames for the module and input changes are
exit causes (R407). Before the graphs are released there is no port to report to (R56). -/
def State.post (s : State) (port key : Nat) : State :=
  let s := if port = 2 ∨ port = 3 ∨ port = 4 then s.wake 1 else if port = 10 then s.wake 6 else s
  match if s.released then portCounter s.dsp port key else none with
  | none => s
  | some c =>
    match portPush s.dsp port ⟨c, none⟩ with
    | (d, true) => { s with dsp := d }
    | (_, false) =>
      if port = 7 || port = 8 then s.inc Reg.DSP_BP_COUNT_TICKS_MERGED
      else if port = 10 then s
      else { s with dsp := portHold s.dsp port ⟨c, none⟩ }

/-! ### Fixed-size groups of the state -/

/-- A free facet counted, a spare noted as in use (IMG_MODULE_STATE.SPARE_IN_USE). -/
def State.spareUsed (s : State) : State := s.wb Reg.IMG_MODULE_STATE_SPARE_IN_USE true

/-- Integer square root by bits: the largest x with x² at most n, for n below 2^64. -/
def isqrt (n : Nat) : Nat :=
  (List.range 32).foldl (fun x i => let y := x + 2 ^ (31 - i); if y * y ≤ n then y else x) 0

end Sys2Proof.Machine
end

