-- ==== Sys2Proof/Machine/Flags.lean ====
section
/-! DEFINITION. The flags that are computed from the pending bits and their masks: the EVT pin and the summary of the groups (R375,
R31). Every other status bit is a register field of its own, or is shown by Machine/Views.lean. -/

namespace Sys2Proof.Machine

/-- The EVT pin: an unmasked event is pending (R375). -/
def State.evtPin (s : State) : Bool :=
  (List.range 16).any fun n => Nat.land (bits s.ev.pend (32 * n + 31) (32 * n)) (Nat.xor (s.r (Reg.EVT_MASK n)) (2 ^ 32 - 1)) != 0

/-- EVT_GROUP_SUMMARY (R375). -/
def State.evtSummary (s : State) : Nat :=
  ofBits ((List.range 8).map fun g => (List.range 2).any fun h =>
    Nat.land (bits s.ev.pend (64 * g + 32 * h + 31) (64 * g + 32 * h))
      (Nat.xor (s.r (Reg.EVT_MASK (2 * g + h))) (2 ^ 32 - 1)) != 0)

end Sys2Proof.Machine
end

