-- ==== Sys2Proof/Machine/Rec.lean ====
section
/-! DEFINITION. The recorder (file 13, R389 to R392): entering values, the copies in the keep store, commits, and the check of
the copies at a start. -/

namespace Sys2Proof.Machine

/-! ### Entering values (Tables 13-3, 13-4) -/

/-- A number of a record's body. -/
def RecSlot.cell (r : RecSlot) (k : Nat) : Int := SMap.get r.cells k 0

/-- A number of a record's body replaced. -/
def RecSlot.setCell (r : RecSlot) (k : Nat) (v : Int) : RecSlot := { r with cells := SMap.put r.cells k v 0 }

/-- A count of a record's body raised by n, saturating at w bits (R389). -/
def RecSlot.count_ (r : RecSlot) (k w n : Nat) : RecSlot := r.setCell k (satN w ((r.cell k).toNat + n) : Nat)

/-- A value entered in the header: COUNT and SUM. -/
def RecSlot.entered (r : RecSlot) (v : Int) : RecSlot := { r with count := satN 64 (r.count + 1), sum := satI 64 (r.sum + v) }

/-- A value entered in a row of a TABLE: COUNT, MIN, MAX and SUM. -/
def RecSlot.table (r : RecSlot) (row : Nat) (v : Int) : RecSlot :=
  let k := 4 * row
  let first := r.cell k == 0
  let x := satI 16 v
  let q := if first then (r.setCell (k + 1) x).setCell (k + 2) x
    else (r.setCell (k + 1) (min (r.cell (k + 1)) x)).setCell (k + 2) (max (r.cell (k + 2)) x)
  ((q.count_ k 32 1).setCell (k + 3) (satI 32 (r.cell (k + 3) + v))).entered v

/-- A value entered in a HISTOGRAM: its bin, UNDER or OVER. -/
def RecSlot.histogram (r : RecSlot) (v : Int) : RecSlot :=
  let bin := if v < r.low then r.nbins else min ((v - r.low).toNat / max r.width 1) (r.nbins + 1)
  let k := if r.low ≤ v && decide (r.nbins ≤ bin) then r.nbins + 1 else bin
  (r.count_ k 32 1).entered v

/-- A value entered in an entry of an EXTREMES record: MIN and MAX with their seconds. An entry of four zeros is empty. -/
def RecSlot.extreme (r : RecSlot) (e : Nat) (v : Int) (seconds : Nat) : RecSlot :=
  let k := 4 * e
  let empty := (List.range 4).all fun i => r.cell (k + i) == 0
  let x := satI 32 v
  let q := if empty || decide (x < r.cell k) then (r.setCell k x).setCell (k + 1) (seconds : Nat) else r
  let q := if empty || decide (r.cell (k + 2) < x) then (q.setCell (k + 2) x).setCell (k + 3) (seconds : Nat) else q
  q.entered v

/-- The record of an item and an instance changed. -/
def State.modRec (s : State) (item inst : Nat) (f : RecSlot → RecSlot) : State :=
  { s with rcd := { s.rcd with slots := s.rcd.slots.map fun r => if r.item = item ∧ r.inst = inst then f r else r } }

/-- Item 0, LEVEL: the deviation at a car stop, µm. -/
def recLevel (stop : Nat) (v : Int) (s : State) : State :=
  s.modRec 0 0 fun r => if stop = 0 ∨ r.nbins < stop then r else r.table (stop - 1) v

/-- Item 1, DOOR_CLOSE: the duration of an operator's closing, ms. -/
def recDoorClose (d ms : Nat) (s : State) : State := s.modRec 1 0 fun r => r.table (d - 1) ms

/-- Item 2, INDEX_DEV: an accepted deviation of SC1 or SC2. -/
def recIndexDev (ch : Nat) (d : Int) (s : State) : State := s.modRec 2 ch fun r => r.histogram d

/-- Item 3, FE_PEAK: the largest following error of a trip or profile of a loop, µm. -/
def recFePeak (n peak : Nat) (s : State) : State := s.modRec 3 0 fun r => r.table n peak

/-- Item 4, SUPPLY: a measurement of the 24 V input, FS1, FS2 for lane A or FS2 for lane B, 0.1 V. -/
def recSupply (e v : Nat) (s : State) : State := s.modRec 4 0 fun r => r.extreme e v (s.r Reg.PWR_OP_SECONDS)

/-- Item 5, TEMP: a reading of a temperature sensor, 0.1 °C. -/
def recTemp (e : Nat) (v : Int) (s : State) : State := s.modRec 5 0 fun r => r.extreme e v (s.r Reg.PWR_OP_SECONDS)

/-- A counter of a COUNTERS record raised by n: item 6 DIM, 8 LOG, 9 RESETS. -/
def recCounter (item e n : Nat) (s : State) : State := s.modRec item 0 fun r => r.count_ e 64 n

/-- Item 7, TRIPS: a trip from one car stop to another has reached HOLD. -/
def recTrip (origin dest : Nat) (s : State) : State :=
  if origin = 0 ∨ dest = 0 then s
  else s.modRec 7 ((origin - 1) / 7) fun r =>
    if r.width < dest then r else (r.count_ ((origin - 1) % 7 * r.width + (dest - 1)) 16 1).entered 1

/-! ### The slots of an image (Table 13-4) -/

/-- The empty records of an image with N_STOPS car stops and the index tolerances of SC1 and SC2, started at a time. -/
def recSlots (stops tol1 tol2 seconds : Nat) : List RecSlot :=
  let hist (i tol : Nat) : RecSlot :=
    { item := 2, kind := 1, inst := i, low := -(tol : Int), width := max 1 ((2 * tol + 129) / 129), nbins := 129, started := seconds }
  let plain (item kind n : Nat) : RecSlot := { item := item, kind := kind, inst := 0, nbins := n, started := seconds }
  [plain 0 2 stops, plain 1 2 4, hist 0 tol1, hist 1 tol2, plain 3 2 6, plain 4 3 4, plain 5 3 4, plain 6 4 5] ++
  ((List.range ((stops + 6) / 7)).map fun i =>
    { item := 7, kind := 5, inst := i, low := 7 * i + 1, width := stops, nbins := min 7 (stops - 7 * i), started := seconds }) ++
  [plain 8 4 4, plain 9 4 4]

/-- The empty records of the loaded image. -/
def State.recFresh (s : State) : List RecSlot :=
  recSlots s.trip.env.stops.length (s.r (Reg.PFE_SC_INDEX_CFG_INDEX_TOL 0)) (s.r (Reg.PFE_SC_INDEX_CFG_INDEX_TOL 1))
    (s.r Reg.PWR_OP_SECONDS)

/-- ITEM, KIND, INSTANCE and geometry of two records agree (R391). -/
def RecSlot.same (a b : RecSlot) : Bool :=
  a.item == b.item && a.kind == b.kind && a.inst == b.inst && a.low == b.low && a.width == b.width && a.nbins == b.nbins

/-! ### Copies (Tables 13-2, 13-3) -/

/-- Keep-store offset of a copy of a slot. -/
def recBase (slot copy : Nat) : Nat := 0xC00000 + slot * 0x2000 + copy * 0x1000

/-- The valid mark of a copy. -/
def recValid : Nat := 0x52454356

/-- Sizes of the numbers of a body, in body order. -/
def RecSlot.sizes (r : RecSlot) : List Nat :=
  if r.kind = 1 then List.replicate (r.nbins + 2) 4
  else if r.kind = 2 then (List.replicate r.nbins [4, 2, 2, 4]).flatten
  else if r.kind = 3 then List.replicate (4 * r.nbins) 4
  else if r.kind = 4 then List.replicate r.nbins 8
  else List.replicate (r.nbins * r.width) 2

/-- A byte string filled with zeros to a length. -/
def padTo (n : Nat) (bs : List Byte) : List Byte := bs ++ List.replicate (n - bs.length) 0

/-- The body of a copy, 4,032 B (R389). -/
def RecSlot.body (r : RecSlot) : List Byte :=
  padTo 4032 (((r.sizes.zipIdx).flatMap fun x => leBytes x.1 (ofI (8 * x.1) (r.cell x.2))).take 4032)

/-- Bytes 0x00 to 0x37 of a copy's header. -/
def RecSlot.head (r : RecSlot) (gen seconds pcc : Nat) : List Byte :=
  leBytes 2 r.item ++ leBytes 1 r.kind ++ leBytes 1 r.inst ++ leBytes 4 gen ++ leBytes 4 seconds ++ leBytes 4 pcc ++
  leBytes 8 r.count ++ leBytes 8 (ofI 64 r.sum) ++ leBytes 4 (ofI 32 r.low) ++ leBytes 4 r.width ++ leBytes 2 r.nbins ++
  leBytes 2 0 ++ leBytes 4 r.started ++ leBytes 8 0

/-- A whole copy: header, CRC, VALID and body. -/
def RecSlot.copy (r : RecSlot) (gen seconds pcc : Nat) : List Byte :=
  let h := r.head gen seconds pcc
  h ++ leBytes 4 (crc32c (h ++ r.body)) ++ leBytes 4 recValid ++ r.body

/-- A copy is kept at a start: its valid mark and its CRC hold (R391). -/
def State.recOk (s : State) (slot copy : Nat) : Bool :=
  let b := recBase slot copy
  memLe s.keep (b + 0x3C) 4 == recValid && crc32c (memRead s.keep b 56 ++ memRead s.keep (b + 64) 4032) == memLe s.keep (b + 0x38) 4

/-- GEN of a copy. -/
def State.recGen (s : State) (slot copy : Nat) : Nat := memLe s.keep (recBase slot copy + 4) 4

/-- The newer valid copy of a slot: the one with GEN greater by 1 to 2^31 (Table 13-2). -/
def State.recNewer (s : State) (slot : Nat) : Option Nat :=
  match s.recOk slot 0, s.recOk slot 1 with
  | false, false => none
  | true, false => some 0
  | false, true => some 1
  | true, true =>
    let d := (s.recGen slot 1 + 2 ^ 32 - s.recGen slot 0) % 2 ^ 32
    some (if d ≠ 0 ∧ d ≤ 2 ^ 31 then 1 else 0)

/-- The numbers of a body read back. -/
def parseCells (rd : Nat → Nat → Nat → Int) : List Nat → Nat → Nat → SMap Int
  | [], _, _ => []
  | n :: rest, k, o =>
    let v := rd k o n
    let m := parseCells rd rest (k + 1) (o + n)
    if v = 0 then m else (k, v) :: m

/-- The record a copy holds. -/
def State.recParse (s : State) (slot copy : Nat) : RecSlot :=
  let b := recBase slot copy
  let r : RecSlot :=
    { item := memLe s.keep b 2, kind := memLe s.keep (b + 2) 1, inst := memLe s.keep (b + 3) 1, count := memLe s.keep (b + 0x10) 8,
      sum := memLeI s.keep (b + 0x18) 8, low := memLeI s.keep (b + 0x20) 4, width := memLe s.keep (b + 0x24) 4,
      nbins := memLe s.keep (b + 0x28) 2, started := memLe s.keep (b + 0x2C) 4 }
  let signed := fun (k : Nat) => r.kind = 3 ∧ k % 2 = 0 ∨ r.kind = 2 ∧ k % 4 ≠ 0
  { r with cells := parseCells (fun k o n => if signed k then memLeI s.keep (b + 64 + o) n else (memLe s.keep (b + 64 + o) n : Nat)) r.sizes 0 0 }

/-! ### Commits (R390, R392) -/

/-- One slot committed to its older copy; an uncorrectable word within that copy is reported, leaves it without its valid mark
and leaves the other copy intact (R390, R392). -/
def recCommitSlot (bad : Option Nat) (s : State) (slot : Nat) : State :=
  let new := s.recNewer slot
  let copy := match new with
    | some c => 1 - c
    | none => 0
  let gen := match new with
    | some c => (s.recGen slot c + 1) % 2 ^ 32
    | none => 1
  let b := recBase slot copy
  let hit := match bad with
    | some o => decide (b ≤ o) && decide (o < b + 0x1000)
    | none => false
  if hit then ({ s with keep := memWrite s.keep (b + 0x3C) (leBytes 4 0) }).raise Evt.KEEP_UNCORR [.qty (bad.getD 0)]
  else
    match s.rcd.slots[slot]? with
    | none => s
    | some r => { s with keep := memWrite s.keep b (r.copy gen (s.r Reg.PWR_OP_SECONDS) s.pcc) }

/-- Every record is committed (R390). -/
def recCommit (bad : Option Nat) (s : State) : State :=
  let s := (List.range s.rcd.slots.length).foldl (recCommitSlot bad) s
  ({ s with rcd := { s.rcd with lastAt := s.optime } }).w Reg.LOG_REC_TIME (s.r Reg.PWR_OP_SECONDS)

/-- Every record but items 8 and 9 is emptied and all are committed at once (R392). -/
def recClear (bad : Option Nat) (s : State) : State :=
  let clear := fun (r : RecSlot) => if r.item = 8 ∨ r.item = 9 then r
    else { r with count := 0, sum := 0, cells := [], started := s.r Reg.PWR_OP_SECONDS }
  recCommit bad { s with rcd := { s.rcd with slots := s.rcd.slots.map clear } }

/-! ### The check at a start (R391) -/

/-- A copy that fails its check is discarded. -/
def recDiscard (slot : Nat) (s : State) (copy : Nat) : State :=
  if s.recOk slot copy then s
  else (s.inc Reg.LOG_REC_STATUS_DISCARDED).raise Evt.REC_DISCARDED [.code slot, .code copy]

/-- An empty record that no image has given an item. -/
def RecSlot.blank : RecSlot := { item := 0, kind := 0, inst := 0, nbins := 0 }

/-- The content a slot starts with: what the near store has kept of it since its last commit, else its newer valid copy; empty
where there is neither or the geometry differs from that of the loaded image, if one is loaded (R391, R414). -/
def recStartSlot (held : List RecSlot) (acc : State × List RecSlot × Nat) (x : Option RecSlot × Nat) : State × List RecSlot × Nat :=
  let slot := x.2
  let s := [0, 1].foldl (recDiscard slot) acc.1
  match s.recNewer slot with
  | none => (s.raise Evt.REC_LOST [.code slot], acc.2.1 ++ [x.1.getD RecSlot.blank], acc.2.2 + 1)
  | some c =>
    let r := match held[slot]? with
      | some h => h
      | none => s.recParse slot c
    match x.1 with
    | none => (s, acc.2.1 ++ [r], acc.2.2)
    | some n =>
      if r.same n then (s, acc.2.1 ++ [r], acc.2.2)
      else (s.raise Evt.REC_RESHAPED [.code n.item, .code n.inst], acc.2.1 ++ [n], acc.2.2)

/-- The recorder at a start, with the slots that the start expects. -/
def recStartWith (want : List (Option RecSlot)) (s : State) : State :=
  let s := s.w Reg.LOG_REC_STATUS_DISCARDED 0
  let r := want.zipIdx.foldl (recStartSlot s.rcd.slots) (s, [], 0)
  let n := r.1.r Reg.LOG_REC_STATUS_DISCARDED
  let s := ({ r.1 with rcd := { r.1.rcd with slots := r.2.1, lastAt := r.1.optime } }).w Reg.LOG_REC_STATUS_SLOTS r.2.1.length
  recCounter 8 3 r.2.2 (recCounter 8 2 n s)

/-- The recorder at a start with a loaded image. -/
def recStart (s : State) : State := recStartWith (s.recFresh.map some) s

/-- The slots in use that the keep store itself shows, for a start that loads no image: those up to the last one written (log entry
127). -/
def State.recUsed (s : State) : Nat :=
  s.keep.foldl (fun n c => if 0xC00000 ≤ c.1 ∧ c.1 < 0xE00000 then max n ((c.1 - 0xC00000) / 0x2000 + 1) else n) 0

/-- The recorder at a start without a loaded image: the copies of every slot in use are checked as at any start, and no geometry is
asked of them. -/
def recStartBare (s : State) : State := recStartWith (List.replicate (max s.rcd.slots.length s.recUsed) none) s

end Sys2Proof.Machine
end

