-- ==== Sys2Proof/Machine/Loupe.lean ====
section
/-! DEFINITION. The loupe's schedule (file 12, R372, Table 12-5): when a task has run, and when it falls behind. -/

namespace Sys2Proof.Machine

/-- The interval of a task of Table 12-5, µs; none for a task that is continuous or runs when due. -/
def loupeInterval (t : Nat) : Option Nat :=
  if t = 0 then some 2000000
  else if t = 1 then some 60000000
  else if t = 2 then some 86400000000
  else if t = 3 then some 604800000000
  else if t = 5 then some 10000000
  else if t = 6 ∨ t = 7 ∨ t = 8 then some 1000000
  else none

/-- A task lies more than one interval behind: two intervals have passed since it last ran. -/
def State.loupeBehind (s : State) (t : Nat) : Bool :=
  match loupeInterval t with
  | none => false
  | some i => decide (2 * i < s.since (nth s.mem.loupeAt t 0))

/-- A task that falls more than one interval behind is reported once (R372). -/
def loupeLate (s : State) (t : Nat) : State :=
  let v := s.r Reg.MIR_LOUPE_LATE_LATE
  if s.loupeBehind t && !bitAt v t then
    ((s.w Reg.MIR_LOUPE_LATE_LATE (setBit v t true)).inc Reg.MIR_LOUPE_LATE_EVENTS).raise Evt.LOUPE_LATE [.code t]
  else s

/-- A task of the loupe has run; its result goes to port 13 (Table 03-4). -/
def loupeRan (t : Nat) (s : State) : State :=
  let s := loupeLate s t
  let s := { s with mem := { s.mem with loupeAt := setAt s.mem.loupeAt t s.optime 0 } }
  (s.w Reg.MIR_LOUPE_LATE_LATE (setBit (s.r Reg.MIR_LOUPE_LATE_LATE) t false)).post 13 t

/-- The loupe's schedule is watched; while Parked the table-store scrub's interval does not count (R372). -/
def loupeTick (s : State) : State :=
  let s := if s.parked then { s with mem := { s.mem with loupeAt := modAt s.mem.loupeAt 1 (fun x => x + 1) 0 } } else s
  (List.range 10).foldl loupeLate s

/-- The share of the last 1 ms window: a free value within the budget of R19, in 0.01 %. -/
def loupeShare (s : State) : State :=
  let v := s.freeNat 32 % 301
  (s.took.w Reg.MIR_LOUPE_SHARE v).peak Reg.MIR_LOUPE_MAX v

end Sys2Proof.Machine
end

