-- ==== Sys2Proof/Machine/Operands.lean ====
section
/-! DEFINITION. What the byte strings of the images say: frames and the logical image (R36, R37), the header and the directory
(R39 to R42), part headers with their register entries and tails (R449), trips and segments (Tables 06-1, 06-2), reticle
programs (Tables 05-1, 05-2) and door profiles (Table 07-6). -/

namespace Sys2Proof.Machine

/-- A byte source: what lies at each offset. -/
abbrev Rd := Nat → Byte

/-- n bytes at o. -/
def rdBytes (rd : Rd) (o n : Nat) : List Byte := (List.range n).map fun i => rd (o + i)

/-- n bytes at o, little-endian (R38). -/
def rdLe (rd : Rd) (o n : Nat) : Nat := leNat (rdBytes rd o n)

/-- n bytes at o, little-endian two's complement. -/
def rdLeI (rd : Rd) (o n : Nat) : Int := toI (8 * n) (rdLe rd o n)

/-- A digest of 48 bytes at o. -/
def rdDigest (rd : Rd) (o : Nat) : Digest := BitVec.ofNat 384 (beNat (rdBytes rd o 48))

/-! ### Stored form (R36, R37) -/

/-- A frame's CRC holds: over its index and its 4,092 payload bytes (R37). -/
def frameOk (rd : Rd) (index : Nat) : Bool :=
  crc32 (leBytes 4 index ++ rdBytes rd (4096 * index) 4092) == rdLe rd (4096 * index + 4092) 4

/-- The logical image of a stored form (R36). -/
def logicalRd (rd : Rd) : Rd := fun o => rd (o / 4092 * 4096 + o % 4092)

/-- Where a target is kept: core banks in the keep store, deep slots in the deep store (Table 02-4). -/
def targetRd (s : State) (target : Nat) : Rd :=
  if target < 2 then fun o => memGet s.keep (0x600000 * target + o) else fun o => memGet (nth s.deep (target - 2) []) o

/-- Bytes written into a target's medium at offset o. -/
def targetWrite (s : State) (target o : Nat) (bs : List Byte) : State :=
  if target < 2 then { s with keep := memWrite s.keep (0x600000 * target + o) bs }
  else { s with deep := modAt s.deep (target - 2) (fun m => memWrite m o bs) [] }

/-! ### Header and directory (R39 to R42) -/

/-- The image header (Table 02-1). -/
structure Header where
  /-- MAGIC -/
  magic : Nat
  /-- FORMAT -/
  format : Nat
  /-- KIND -/
  kind : Nat
  /-- AUTHOR_KEY -/
  authorKey : Nat
  /-- PART -/
  part : Nat
  /-- MIN_STEPPING -/
  minStepping : Nat
  /-- SAFETY_SET_ID byte -/
  setId : Nat
  /-- IMAGE_LEN -/
  imageLen : Nat
  /-- IMAGE_ID -/
  imageId : Nat
  /-- SECTION_COUNT -/
  sections : Nat
  /-- FLAGS -/
  flags : Nat
  /-- SIG_OFFSET -/
  sigOffset : Nat
  /-- ATLAS_LEN -/
  atlasLen : Nat
  /-- ATLAS_DIGEST -/
  atlas : Digest
  /-- SAFETY_A_DIGEST -/
  digestA : Digest
  /-- SAFETY_B_DIGEST -/
  digestB : Digest
  /-- whether the reserved bytes are 0 -/
  reserved : Bool
  deriving DecidableEq, Repr

/-- The header at the start of a logical image. -/
def parseHeader (rd : Rd) : Header :=
  { magic := rdLe rd 0 4, format := rdLe rd 4 2, kind := rdLe rd 6 1, authorKey := rdLe rd 7 1, part := rdLe rd 8 2,
    minStepping := rdLe rd 0xA 1, setId := rdLe rd 0xB 1, imageLen := rdLe rd 0xC 4, imageId := rdLe rd 0x10 8,
    sections := rdLe rd 0x20 2, flags := rdLe rd 0x22 2, sigOffset := rdLe rd 0x24 4, atlasLen := rdLe rd 0x28 4,
    atlas := rdDigest rd 0x30, digestA := rdDigest rd 0x60, digestB := rdDigest rd 0x90,
    reserved := (rdBytes rd 0x2C 4 ++ rdBytes rd 0xC0 64).all fun b => b == 0 }

/-- The section directory (Table 02-2). -/
def parseDir (rd : Rd) (count : Nat) : List Section :=
  (List.range count).map fun i =>
    let o := 0x100 + 16 * i
    ⟨rdLe rd o 2, rdLe rd (o + 2) 2, rdLe rd (o + 4) 4, rdLe rd (o + 8) 4, rdLe rd (o + 12) 4⟩

/-- The section of a type. -/
def findSection (dir : List Section) (kind : Nat) : Option Section := dir.find? fun x => x.kind == kind

/-- The bytes of the section of a type; none if the image has no such section. -/
def sectionBytes (rd : Rd) (dir : List Section) (kind : Nat) : List Byte :=
  match findSection dir kind with
  | none => []
  | some x => rdBytes rd x.offset x.length

/-! ### Part headers (R449) -/

/-- A section with register entries: entries and tail. -/
structure RegPart where
  /-- register address and value of each entry -/
  entries : List (Nat × Nat)
  /-- offset of the tail from the section start -/
  tailOffset : Nat
  /-- length of the tail -/
  tailLen : Nat
  deriving DecidableEq, Repr

/-- The part header and register entries of a section (R449). -/
def parsePart (bs : List Byte) : RegPart :=
  { entries := (List.range (leAt bs 0 4)).map fun i => (leAt bs (16 + 8 * i) 4, leAt bs (20 + 8 * i) 4),
    tailOffset := leAt bs 4 4, tailLen := leAt bs 8 4 }

/-- The defaults spec/ states for img fields of the sections with register entries (R449). -/
def imgDefaults : List (Field × Nat) :=
  [ (Reg.PFE_MODEL_CFG_SPEED_WIN, 63), (Reg.PFE_MODEL_CFG_ACC_WIN, 255), (Reg.PFE_SLIP_CFG_SLIP_WARN, 10),
    (Reg.PFE_SLIP_CFG_SLIP_LIMIT, 50), (Reg.PFE_SLIP_CFG_SLIP_TIME, 20), (Reg.LOOP_DL_CFG_DL_FAIL_N, 3),
    (Reg.NET_MAP_CFG_ETHERTYPE, 0x88B5), (Reg.NET_PATH_CFG_SKEW_US, 400), (Reg.NET_PATH_CFG_SINGLE_PATH_MS, 20),
    (Reg.NET_NBR_CFG_NBR_AGE_US, 1000), (Reg.NET_MISC_CFG_EVT_FRAME_RATE, 10), (Reg.MIR_TOL_MIR_POS_TOL, 50),
    (Reg.MIR_TOL_MIR_TORQ_TOL, 20000), (Reg.MIR_CFG_MIR_CLEAN_S, 60), (Reg.MIR_CFG_DEEP_REFRESH, 8) ] ++
  ((List.range 2).flatMap fun i =>
    [ (Reg.PFE_SC_INDEX_CFG_INDEX_TOL i, 64), (Reg.PFE_SC_INDEX_CFG_INDEX_GOOD i, 4), (Reg.PFE_SC_AMP_CFG_AMP_MIN i, 250),
      (Reg.PFE_SC_AMP_CFG_AMP_MAX i, 650), (Reg.PFE_SC_AMP_CFG_AMP_LOSS i, 100), (Reg.PFE_SSI_CHECK_FAIL_N i, 3) ]) ++
  ((List.range 4).map fun i => (Reg.LOOP_DOOR_LIM_DOOR_SPEED_WIN i, 32)) ++
  ((List.range 48).map fun i => (Reg.FIO_DI_CFG_DI_FILT i, 60))

/-- The default of an img field; 0 where spec/ states none (R449). -/
def imgDefault (f : Field) : Nat :=
  match imgDefaults.find? fun x => x.1 == f with
  | some x => x.2
  | none => 0

/-- The value of a field within a register word. -/
def fieldOf (f : Field) (word : Nat) : Nat := word / 2 ^ f.lo % 2 ^ f.width

/-- The img fields of a register at an address. -/
def imgFields (addr : Nat) : List Field := (fieldsAt addr).filter fun f => f.img

/-- The addresses a register row holds. -/
def RegRow.addrs (row : RegRow) : List Nat := (List.range row.count).map fun i => row.base + row.stride * i

/-- The registers of some blocks that hold img fields. -/
def imgRegs (rows : List RegRow) : List Nat :=
  (rows.flatMap RegRow.addrs).filter fun a => (imgFields a) != []

/-- LOOP_DOOR_CFG of operators 1 to 4 and LOOP_DECK_CFG, which the TERMINAL_MAP section gives (R449). -/
def mapLoopRegs : List Nat := [0x70400, 0x70440, 0x70480, 0x704C0, 0x70500]

/-- The list of registers of a section with register entries (R449): POSITION, LOOPS, TERMINAL_MAP, NETWORK_MAP. -/
def sectionRegs (kind : Nat) : List Nat :=
  if kind = 3 then imgRegs positionRows
  else if kind = 8 then
    (imgRegs loopsRows).filter (fun a => !(mapLoopRegs.elem a)) ++ [0x60030, 0x60034, 0x60038, 0x6003C, 0x60040]
  else if kind = 9 then imgRegs fieldIoRows ++ mapLoopRegs
  else if kind = 11 then imgRegs networksRows ++ [Reg.MIR_CFG_PAIRED.addr, Reg.MIR_TOL_MIR_POS_TOL.addr]
  else []

/-- The img fields of one register take their values from its entry, or their defaults (R449). -/
def loadReg (entries : List (Nat × Nat)) (s : State) (addr : Nat) : State :=
  let e := entries.find? fun x => x.1 == addr
  (imgFields addr).foldl (fun s f => s.w f (match e with
    | some x => fieldOf f x.2
    | none => imgDefault f)) s

/-- The img fields of a section's registers take their values (R449). -/
def loadPart (kind : Nat) (bs : List Byte) (s : State) : State :=
  (sectionRegs kind).foldl (loadReg (parsePart bs).entries) s

/-- The reference points of a POSITION section's tail (Table 04-3, R449). -/
def parseRefs (bs : List Byte) : List RefPoint :=
  let t := (parsePart bs).tailOffset
  (List.range (leAt bs t 4)).map fun i =>
    let o := t + 4 + 12 * i
    let fl := leAt bs (o + 6) 1
    { pRef := leAtI bs o 4, landing := leAt bs (o + 4) 1, input := leAt bs (o + 5) 1, rising := bitAt fl 0, up := bitAt fl 1,
      reref := bitAt fl 2, weight := leAt bs (o + 7) 1, win := leAt bs (o + 8) 2, delay := leAt bs (o + 10) 2 }

/-- The notch coefficients of a LOOPS section's tail: five words for each of two notches of six loops (R449). -/
def parseCoefs (bs : List Byte) : List (List Int) :=
  let t := (parsePart bs).tailOffset
  (List.range 6).map fun n => (List.range 10).map fun k => leAtI bs (t + 40 * n + 4 * k) 4

/-- The function-map entries of a TERMINAL_MAP section's tail: KIND, TERMINAL, VALUE (R449). -/
def parseMap (bs : List Byte) : List (Nat × Nat × Nat) :=
  let p := parsePart bs
  (List.range (p.tailLen / 8)).map fun i =>
    let o := p.tailOffset + 8 * i
    (leAt bs o 1, leAt bs (o + 1) 1, leAt bs (o + 4) 4)

/-! ### Trips, programs, profiles -/

/-- A segment at o (Table 06-2). -/
def parseSeg (rd : Rd) (o : Nat) : Seg :=
  { p0 := rdLeI rd o 4, v0 := rdLeI rd (o + 4) 4, a0 := rdLeI rd (o + 8) 4, j := rdLeI rd (o + 0xC) 4,
    dur := rdLe rd (o + 0x10) 4, endVal := rdLeI rd (o + 0x14) 4, ending := rdLe rd (o + 0x18) 1,
    flags := rdLe rd (o + 0x19) 1, bin := rdLe rd (o + 0x1A) 1 }

/-- n segments at o. -/
def parseSegs (rd : Rd) (o n : Nat) : List Seg := (List.range n).map fun i => parseSeg rd (o + 32 * i)

/-- The trip at offset o of a region (Table 06-1). -/
def parseTrip (rd : Rd) (region o : Nat) : Trip :=
  { id := rdLe rd o 4, kind := rdLe rd (o + 4) 1, origin := rdLe rd (o + 6) 1, dest := rdLe rd (o + 7) 1,
    cls := rdLe rd (o + 8) 1, peakBin := rdLe rd (o + 9) 1, minConf := rdLe rd (o + 0xA) 1, flags := rdLe rd (o + 0xB) 1,
    pDest := rdLeI rd (o + 0xC) 4, retProg := rdLe rd (o + 0x10) 4, commit := rdLeI rd (o + 0x14) 4,
    alt := rdLe rd (o + 0x18) 4, aux := rdLeI rd (o + 0x1C) 4, region := region,
    segs := parseSegs rd (o + 32) (rdLe rd (o + 5) 1) }

/-- A mark entry at o (Table 05-2). -/
def parseMark (rd : Rd) (o : Nat) : Mark :=
  { thresh := rdLeI rd o 4, flags := rdLe rd (o + 4) 1, prio := rdLe rd (o + 5) 1 % 8, post := rdLe rd (o + 6) 2,
    action := rdLe rd (o + 8) 4, tag := rdLe rd (o + 0xC) 2 }

/-- The reticle program at o (Table 05-1). -/
def parseProgram (rd : Rd) (o : Nat) : Program :=
  { id := rdLe rd o 4, marks := (List.range (rdLe rd (o + 6) 2)).map fun i => parseMark rd (o + 16 + 16 * i) }

/-- A node table entry at o (Table 03-1). -/
def parseNode (bs : List Byte) (o : Nat) : NodeEntry :=
  { entry := leAt bs o 2, poolFirst := leAt bs (o + 2) 1, poolSize := leAt bs (o + 3) 1, prio := leAt bs (o + 4) 1 % 8,
    flowEn := leAt bs (o + 5) 1 == 1, flow := leAt bs (o + 6) 2 % 1024, budget := leAt bs (o + 8) 4,
    succ := (List.range 4).map fun i =>
      let w := leAt bs (o + 0xC + 2 * i) 2
      if bitAt w 15 then some (w % 4096) else none
    abortMask := leAt bs (o + 0x14) 1 % 16 }

/-- The FABRIC section with its node table (Table 03-1). -/
def parseFabric (bs : List Byte) : FabricTables :=
  let t := Config.nodeTable bs
  { Config.decodeFabric bs with nodes := (List.range (min t.2 4096)).map fun i => parseNode bs (t.1 + 32 * i) }

/-- A separation table: 64 × 64 entries of G_REQ and G_HARD (Table 06-4). -/
def parseSep (bs : List Byte) (o : Nat) : SMap (Nat × Nat) :=
  (List.range 4096).map fun i => (i, leAt bs (o + 8 * i) 4, leAt bs (o + 8 * i + 4) 4)

/-- The ENVELOPES section (Table 06-4), its controlled stops as Tables 06-1 and 06-2 lay them out; it lies in the common region. -/
def parseEnvelopes (bs : List Byte) : Envelopes :=
  let h := Config.envelopeHead bs
  { Config.decodeEnvelopes bs with
    bins := (List.range h.nbins).map fun b => (leAt bs (h.bins + 8 * b) 4, leAt bs (h.bins + 8 * b + 4) 4)
    stopStore := h.stops.map (parseTrip (fun o => nth bs o 0) 0x3C000000)
    sepAbove := parseSep bs h.sepAbove, sepBelow := parseSep bs h.sepBelow }

/-- An index of n words from o on: the words that are not 0, by their number (R165). -/
def parseIndex (bs : List Byte) (o n : Nat) : SMap Nat :=
  (List.range n).filterMap fun i => let w := leAt bs (o + 4 * i) 4; if w = 0 then none else some (i, w)

/-- An index of n records of bands, 8 B for D_MIN and the offset of each band (Table 06-3). -/
def parseBands (bs : List Byte) (o n bands : Nat) : SMap (List (Nat × Nat)) :=
  (List.range n).map fun i =>
    (i, (List.range bands).map fun b => (leAt bs (o + 8 * (bands * i + b)) 4, leAt bs (o + 8 * (bands * i + b) + 4) 4))

/-- The indexes of the CORE_ATLAS section: adjacent, rescue, levelling (Table 06-3). -/
def parseCoreAtlas (bs : List Byte) : AtlasIndex :=
  let h := Config.atlasHead bs
  { nStops := h.nStops, adjacent := parseIndex bs (nth h.offsets 0 0) (16 * h.nStops),
    rescue := parseBands bs (nth h.offsets 1 0) (2 * h.nStops) 2, levelling := parseIndex bs (nth h.offsets 2 0) 8 }

/-- The indexes of the TRIPS, DIVERSIONS and RESCUE sections of an atlas (Table 06-3). -/
def parseAtlas (trips divs rescue : List Byte) : AtlasIndex :=
  let t := Config.atlasHead trips
  let d := Config.atlasHead divs
  let r := Config.atlasHead rescue
  { nStops := t.nStops, trips := parseIndex trips (nth t.offsets 0 0) (8 * t.nStops * t.nStops),
    diversions := parseIndex divs (nth d.offsets 0 0) (512 * d.nStops),
    rescue := parseBands rescue (nth r.offsets 0 0) (16 * r.nStops) 4 }

/-- A profile number, none for 0xFFFF. -/
def profileNo (n : Nat) : Option Nat := if n = 0xFFFF then none else some n

/-- The reversal table at o (R213). -/
def parseRevTab (rd : Rd) (o : Nat) : List (Int × Nat) :=
  (List.range (rdLe rd o 1)).map fun i => (rdLeI rd (o + 4 + 8 * i) 4, rdLe rd (o + 8 + 8 * i) 2)

/-- The expected-force table at o: POS_STEP, COUNT, OBS_N and MARGIN as four words of its header (R213, log entry 10). -/
def parseForce (rd : Rd) (o : Nat) : ForceTable :=
  { posStep := rdLe rd o 4, obsN := rdLe rd (o + 8) 4, margin := rdLeI rd (o + 0xC) 4,
    forces := (List.range (rdLe rd (o + 4) 4)).map fun i => rdLeI rd (o + 16 + 4 * i) 4 }

/-- The door or deck profile at o (Table 07-6). -/
def parseProfile (rd : Rd) (o : Nat) : Profile :=
  let fl := rdLe rd (o + 6) 1
  { id := rdLe rd o 4, kind := rdLe rd (o + 4) 1, opening := bitAt fl 0, lcIgnore := bitAt fl 1, speedMode := bitAt fl 2,
    retProg := rdLe rd (o + 8) 4,
    revTab := if rdLe rd (o + 0xC) 4 = 0 then [] else parseRevTab rd (rdLe rd (o + 0xC) 4),
    nudge := profileNo (rdLe rd (o + 0x10) 2), stop := profileNo (rdLe rd (o + 0x12) 2),
    torq := if rdLe rd (o + 0x14) 4 = 0 then none else some (parseForce rd (rdLe rd (o + 0x14) 4)),
    keMax := rdLe rd (o + 0x18) 2, mass := rdLe rd (o + 0x1A) 2, holdForce := rdLeI rd (o + 0x1C) 4,
    segs := parseSegs rd (o + 32) (rdLe rd (o + 5) 1) }

/-- The DOORS section: its header and the profile each number's index word points to (R213). -/
def parseDoors (bs : List Byte) : DoorTables :=
  let h := Config.decodeDoorHeader bs
  let rd : Rd := fun o => nth bs o 0
  { head := h,
    profiles := (List.range h.count).map fun n => (n, parseProfile rd (rdLe rd (h.index + 4 * n) 4)) }

/-- The trip as an evaluator channel runs a profile: positive direction is opening. -/
def Profile.toTrip (p : Profile) : Trip :=
  { id := p.id, cls := if p.opening then 8 else 0, retProg := p.retProg, segs := p.segs }

/-- DIR of a trip's CLASS: upward. -/
def Trip.up (t : Trip) : Bool := bitAt t.cls 3

/-- Load class of a trip's CLASS. -/
def Trip.load (t : Trip) : Nat := t.cls % 4

/-- Class index k = 2 × load class + profile (R165). -/
def classIndex (load profile : Nat) : Nat := 2 * load + profile

/-! ### Safety parameters as a lane applies them (R42, R260, R454) -/

/-- A lane: 0 lane A, 1 lane B. -/
def State.lane (s : State) (l : Nat) : Lane := nth s.saf.lanes l {}

/-- A lane changed. -/
def State.modLane (s : State) (l : Nat) (f : Lane → Lane) : State :=
  { s with saf := { s.saf with lanes := modAt s.saf.lanes l f {} } }

/-- A lane's table. -/
def State.laneTable (s : State) (l : Nat) : LaneTable := nth s.saf.tables l {}

/-- An entry of a sparse list. -/
def lookup {α : Type} (l : List (Nat × α)) (k : Nat) : Option α := (l.find? fun x => x.1 == k).map fun x => x.2

/-- A parameter as a lane applies it: its table's value, or the override in force. -/
def State.par (s : State) (l : Nat) (f : Field) : Nat :=
  let t := s.laneTable l
  let ovr := (t.overs.find? fun o => o.key == f.key).bind fun o => lookup (s.lane l).overrides o.index
  match ovr with
  | some v => v % 2 ^ f.width
  | none => match lookup t.regs f.addr with
    | some x => fieldOf f x
    | none => 0

/-- A parameter that is not 0. -/
def State.parB (s : State) (l : Nat) (f : Field) : Bool := s.par l f != 0

/-- A signed parameter. -/
def State.parI (s : State) (l : Nat) (f : Field) : Int := toI f.width (s.par l f)

end Sys2Proof.Machine
end

