-- ==== Sys2Proof/Machine/Img.lean ====
section
/-! DEFINITION. Writing an image, activating a bank and staging an atlas (file 02): the write session of R48 to R50, IMG_ACTIVATE
(R53), IMG_STAGE (R54) and the reading of a digest (R63). -/

namespace Sys2Proof.Machine

/-! ### Codes of Table 02-6 and of the state fields -/

namespace ImgErr
/-- LENGTH -/
def length : Nat := 0x01
/-- FRAME_CRC -/
def frameCrc : Nat := 0x02
/-- TARGET_IN_USE -/
def targetInUse : Nat := 0x0A
/-- OWNER -/
def owner : Nat := 0x0B
/-- ORDER -/
def order : Nat := 0x0C
/-- MEDIUM -/
def medium : Nat := 0x0D
/-- DIGEST -/
def digest : Nat := 0x0E
/-- BUSY -/
def busy : Nat := 0x0F
end ImgErr

/-- The STATE field of a write target's seal record: bank 0, bank 1, deep slot 0, deep slot 1 (R46). -/
def sealField (target : Nat) : Field :=
  if target = 0 then Reg.IMG_STATUS_BANK0_STATE else if target = 1 then Reg.IMG_STATUS_BANK1_STATE
  else if target = 2 then Reg.IMG_STATUS_SLOT0_STATE else Reg.IMG_STATUS_SLOT1_STATE

/-- The seal record of a target beside its STATE. -/
def State.sealOf (s : State) (target : Nat) : SealRec := nth s.img.seals target {}

/-- The seal record of a target replaced. -/
def State.setSeal (s : State) (target : Nat) (x : SealRec) : State :=
  { s with img := { s.img with seals := setAt s.img.seals target x {} } }

/-- Whether a target's seal record is VERIFIED. -/
def State.verified (s : State) (target : Nat) : Bool := s.r (sealField target) == 2

/-- The incoming table-store slot (Table 02-5). -/
def State.incoming (s : State) : Nat := 1 - s.r Reg.IMG_STATUS_TS_ACTIVE_SLOT

/-- A write session is open or its checks run: IMG_WRITE_STATUS.STATE is OPEN or VERIFYING. -/
def State.sessionOpen (s : State) : Bool :=
  s.r Reg.IMG_WRITE_STATUS_STATE == 1 || s.r Reg.IMG_WRITE_STATUS_STATE == 2

/-- OWNER code of an access path. -/
def ownerCode (p : Path) : Nat :=
  match p with
  | .host => 1
  | .mgmt _ _ => 2

/-- The largest stored form of a target (R34). -/
def storedLimit (target : Nat) : Nat := if target < 2 then 6291456 else 209715200

/-- A deep slot is read: streamed at start-up or staged from. -/
def State.slotRead (s : State) (slot : Nat) : Bool :=
  (s.r Reg.IMG_STATUS_TS_INCOMING_STATE == 1 && s.r Reg.IMG_STAGE_STATUS_SLOT == slot) ||
  (s.r Reg.IMG_STATUS_TS_INCOMING_STATE == 4 && s.img.streamSlot == slot)

/-- The digest of a deep slot is bound by the loaded or the designated bank. -/
def State.slotBound (s : State) (slot : Nat) : Bool :=
  let d := (s.sealOf (2 + slot)).digest
  s.r (sealField (2 + slot)) != 0 &&
    ((s.img.loaded && s.img.loadedSeal.atlas == d) ||
     (s.img.activated && (s.sealOf (s.r Reg.IMG_STATUS_DESIGNATED_BANK)).atlas == d))

/-- The target is in use (R48). A new module has no activation record and so no designated bank (log entry 11). -/
def State.targetInUse (s : State) (target : Nat) : Bool :=
  if target < 2 then
    (s.img.loaded && s.r Reg.IMG_STATUS_LOADED_BANK == target) ||
      (s.img.activated && s.r Reg.IMG_STATUS_DESIGNATED_BANK == target)
  else s.slotBound (target - 2) || s.slotRead (target - 2)

/-- The error with which BEGIN is refused (R48), 0 if it is accepted. -/
def beginError (s : State) (target : Nat) : Nat :=
  let len := s.r Reg.IMG_WRITE_LEN
  if s.sessionOpen then ImgErr.owner
  else if len = 0 || len % 4096 != 0 || decide (storedLimit target < len) then ImgErr.length
  else if s.targetInUse target then ImgErr.targetInUse
  else 0
/-- A write to the session registers from a path other than OWNER (R49). -/
def foreignWrite (s : State) : State :=
  (s.w Reg.IMG_WRITE_STATUS_ERR ImgErr.owner).inc Reg.IMG_WRITE_STATUS_FOREIGN

/-- Whether an open session belongs to another path. -/
def State.foreign (s : State) (p : Path) : Bool :=
  s.sessionOpen && s.img.sessPath != p

/-- The session ends with an error and its target's STATE (R50, R51). -/
def endSession (s : State) (err mark : Nat) : State :=
  let t := s.r Reg.IMG_WRITE_STATUS_TARGET
  ((s.w Reg.IMG_WRITE_STATUS_STATE 4).w Reg.IMG_WRITE_STATUS_ERR err).w (sealField t) mark

/-- The open session is aborted and its target left EMPTY (R49). -/
def abortSession (s : State) : State :=
  let t := s.r Reg.IMG_WRITE_STATUS_TARGET
  (s.w Reg.IMG_WRITE_STATUS_STATE 0).w (sealField t) 0

/-- IMG_WRITE_CTRL BEGIN (R48, R49). -/
def imgWriteBegin (p : Path) (target : Nat) (s : State) : State :=
  if s.foreign p then foreignWrite s
  else
    match beginError s target with
    | 0 =>
      let s := (((s.w Reg.IMG_WRITE_STATUS_STATE 1).w Reg.IMG_WRITE_STATUS_TARGET target).w Reg.IMG_WRITE_STATUS_OWNER
        (ownerCode p)).w Reg.IMG_WRITE_STATUS_ERR 0
      let s := ((s.w (sealField target) 1).w Reg.IMG_WRITE_COUNT 0).w Reg.IMG_WRITE_STATUS_FOREIGN 0
      { s with img := { s.img with sessLast := s.optime, sessPath := p } }
    | e => s.w Reg.IMG_WRITE_STATUS_ERR e

/-- A word of the stored form accepted: placed in the target's medium and counted; the CRC of a completed frame is checked
(R50). -/
def acceptWord (word : Nat) (s : State) : State :=
  let t := s.r Reg.IMG_WRITE_STATUS_TARGET
  let n := s.r Reg.IMG_WRITE_COUNT
  let s := (targetWrite s t n (leBytes 4 word)).w Reg.IMG_WRITE_COUNT (n + 4)
  let s := { s with img := { s.img with sessLast := s.optime } }
  if (n + 4) % 4096 = 0 && !frameOk (targetRd s t) (n / 4096) then endSession s ImgErr.frameCrc 0 else s

/-- A data word (R49, R50). -/
def imgWriteData (p : Path) (word : Nat) (s : State) : State :=
  if s.foreign p then foreignWrite s
  else if s.r Reg.IMG_WRITE_STATUS_STATE != 1 then s
  else if s.r Reg.IMG_WRITE_LEN ≤ s.r Reg.IMG_WRITE_COUNT then endSession s ImgErr.order 0
  else acceptWord word s

/-- IMG_WRITE_CTRL FINISH: before all data it ends the session with ORDER, else the checks of R51 start. -/
def imgWriteFinish (p : Path) (s : State) : State :=
  if s.foreign p then foreignWrite s
  else if s.r Reg.IMG_WRITE_STATUS_STATE != 1 then s
  else if s.r Reg.IMG_WRITE_COUNT < s.r Reg.IMG_WRITE_LEN then endSession s ImgErr.order 0
  else { s with img := { s.img with
    finishKeys := s.sec.keys, finishSw1 := s.rb Reg.IMG_SEAL_SW1, finishCode := s.r Reg.IMG_SEAL_SWITCH_CODE } }.w Reg.IMG_WRITE_STATUS_STATE 2

/-- IMG_WRITE_CTRL ABORT (R49). -/
def imgWriteAbort (p : Path) (s : State) : State :=
  if s.foreign p then foreignWrite s else if s.sessionOpen then abortSession s else s

/-- 10 s without a data word abort the session (R49). -/
def imgSessionTimeout (s : State) : State :=
  if s.r Reg.IMG_WRITE_STATUS_STATE == 1 && decide (10000000 ≤ s.since s.img.sessLast) then
    (abortSession s).raise Evt.IMG_SESSION_TIMEOUT [.code (s.r Reg.IMG_WRITE_STATUS_TARGET)]
  else s

/-- A VERIFIED deep slot carries a digest. -/
def State.atlasHeld (s : State) (d : Digest) : Bool :=
  (s.verified 2 && (s.sealOf 2).digest == d) || (s.verified 3 && (s.sealOf 3).digest == d)

/-- IMG_ACTIVATE (R53). -/
def imgActivate (bank confirm : Nat) (s : State) : State :=
  if confirm != 0x5A3C then s
  else if s.verified (bank % 2) && s.atlasHeld (s.sealOf (bank % 2)).atlas then
    ({ s with img := { s.img with activated := true } }.w Reg.IMG_STATUS_DESIGNATED_BANK bank).raise Evt.IMG_ACTIVATED [.code (bank % 2)]
  else s.raise Evt.IMG_ACTIVATE_REFUSED [.code (bank % 2)]

/-- A session targets a deep slot. -/
def State.sessionOn (s : State) (slot : Nat) : Bool :=
  s.sessionOpen && s.r Reg.IMG_WRITE_STATUS_TARGET == 2 + slot

/-- Forgetting what a table-store slot held. -/
def State.dropSlot (s : State) (slot : Nat) : State :=
  { s with img := { s.img with slotDigest := setAt s.img.slotDigest slot none none, slotDir := setAt s.img.slotDir slot [] [] } }

/-- IMG_STAGE STAGE (R54). -/
def imgStage (slot : Nat) (s : State) : State :=
  if s.r Reg.IMG_STATUS_TS_INCOMING_STATE = 4 || s.r Reg.IMG_STATUS_TS_INCOMING_STATE = 1 then
    s.w Reg.IMG_STAGE_STATUS_ERR ImgErr.busy
  else if s.sessionOn (slot % 2) then s.w Reg.IMG_STAGE_STATUS_ERR ImgErr.targetInUse
  else
    let s := ((s.w Reg.IMG_STATUS_TS_INCOMING_STATE 1).w Reg.IMG_STAGE_STATUS_SLOT slot).w Reg.IMG_STAGE_STATUS_PROGRESS 0
    (s.w Reg.IMG_STAGE_STATUS_ERR 0).dropSlot s.incoming

/-- The uncorrectable words of the table store without those that n bytes at o replace. -/
def clearBad (o n : Nat) (l : List (Bool × Nat)) : List (Bool × Nat) :=
  l.filter fun x => !x.1 || decide (x.2 < o) || decide (o + n ≤ x.2)

/-- The length of the logical image of a deep slot. -/
def State.atlasLen (s : State) (deepSlot : Nat) : Nat := (s.sealOf (2 + deepSlot)).storedLen / 4096 * 4092

/-- The first n bytes of the logical image of a stored target copied to the start of a table-store slot (log entry 13). -/
def copyPart (s : State) (deepSlot tsSlot n : Nat) : State :=
  let rd := logicalRd (targetRd s (2 + deepSlot))
  let base := 0xE000000 * tsSlot
  let kept := s.table.filter fun c => decide (c.1 < base) || decide (base + n ≤ c.1)
  { s with table := memWrite kept base (rdBytes rd 0 n), mem := { s.mem with bad := clearBad base n s.mem.bad } }

/-- The whole logical image copied. -/
def copySlot (s : State) (deepSlot tsSlot : Nat) : State := copyPart s deepSlot tsSlot (s.atlasLen deepSlot)

/-- A copy that has been cut off: how far it got is not given (log entry 12). -/
def copyCut (s : State) (deepSlot tsSlot : Nat) : State :=
  let n := s.freeNat 32 % (s.atlasLen deepSlot + 1)
  (copyPart s.took deepSlot tsSlot n).w Reg.IMG_STAGE_STATUS_PROGRESS (satN 8 (n / 2 ^ 20))

/-- The digest of the logical image in a target, computed as R43 gives. -/
def imageDigest (rd : Rd) : Digest := sha384 (rdBytes rd 0 (parseHeader rd).sigOffset)

/-- The atlas indexes of a logical atlas image (Table 06-3). -/
def atlasOf (rd : Rd) (dir : List Section) : AtlasIndex :=
  parseAtlas (sectionBytes rd dir 0x0101) (sectionBytes rd dir 0x0102) (sectionBytes rd dir 0x0103)

/-- A deep slot's atlas, copied into a table-store slot, stands there with its digest, directory and indexes. -/
def fillSlot (s : State) (deepSlot tsSlot : Nat) : State :=
  let rd := logicalRd (targetRd s (2 + deepSlot))
  let dir := parseDir rd (parseHeader rd).sections
  { s with
    img := { s.img with
      slotDigest := setAt s.img.slotDigest tsSlot (some (s.sealOf (2 + deepSlot)).digest) none,
      slotDir := setAt s.img.slotDir tsSlot dir [] },
    trip := { s.trip with full := setAt s.trip.full tsSlot (atlasOf rd dir) {} } }

/-- IMG_STAGE ABORT (R54): the incoming slot is left EMPTY. Start-up streaming is not staging and goes on (log entry 12). -/
def imgStageAbort (s : State) : State :=
  if s.r Reg.IMG_STATUS_TS_INCOMING_STATE = 4 then s
  else
    let s := if s.r Reg.IMG_STATUS_TS_INCOMING_STATE = 1 then copyCut s (s.r Reg.IMG_STAGE_STATUS_SLOT) s.incoming else s
    (s.w Reg.IMG_STATUS_TS_INCOMING_STATE 0).dropSlot s.incoming

/-- Staging completes: the slot has been copied, and the digest of the stream is compared with the seal record's (R54). -/
def atlasStagingEnd (uncorr : Bool) (s : State) : State :=
  if s.r Reg.IMG_STATUS_TS_INCOMING_STATE != 1 then s
  else
    let slot := s.r Reg.IMG_STAGE_STATUS_SLOT
    let fail (s : State) (e : Nat) : State :=
      ((s.w Reg.IMG_STATUS_TS_INCOMING_STATE 3).w Reg.IMG_STAGE_STATUS_ERR e).raise Evt.ATLAS_STAGE_FAIL
        [.code slot, .code e]
    if uncorr then fail (copyCut s slot s.incoming) ImgErr.medium
    else
      let t := (copySlot s slot s.incoming).w Reg.IMG_STAGE_STATUS_PROGRESS (satN 8 (s.atlasLen slot / 2 ^ 20))
      if imageDigest (logicalRd (targetRd s (2 + slot))) != (s.sealOf (2 + slot)).digest then fail t ImgErr.digest
      else ((fillSlot t slot s.incoming).w Reg.IMG_STATUS_TS_INCOMING_STATE 2).raise Evt.ATLAS_STAGED [.code slot]

/-! ### The change of active slot (R60, R139) -/

/-- PHASE becomes ATLAS_READY with an active slot (R60); the change goes to port 12 (Table 03-4). -/
def atlasReady (s : State) : State :=
  (((s.w Reg.IMG_MODULE_STATE_PHASE 2).w Reg.IMG_LOAD_TIMES_ATLAS_READY_MS (satN 16 (s.since s.img.supplyAt / 1000))).raise
    Evt.ATLAS_READY [.code (s.r Reg.IMG_STATUS_TS_ACTIVE_SLOT)]).post 12 0

/-- The incoming slot becomes the active slot; the former one is left EMPTY. The change goes to port 12 (Table 03-4). -/
def swapSlots (s : State) : State :=
  let s := (s.w Reg.IMG_STATUS_TS_ACTIVE_SLOT s.incoming).w Reg.IMG_STATUS_TS_INCOMING_STATE 0
  (s.dropSlot s.incoming).post 12 1

/-- A reticle load is in progress. -/
def State.reticleLoading (s : State) : Bool := s.ret.sets.any fun m => m.loading

/-- The streamed atlas becomes active as soon as no reticle load is in progress (R60, R139). -/
def swapWhenFree (s : State) : State :=
  if s.reticleLoading then { s with img := { s.img with swapDue := true } }
  else atlasReady (swapSlots { s with img := { s.img with swapDue := false } })

/-- A reticle load has ended: a change of active slot that waits for the loads in progress is made after the last of them (R139). -/
def State.loadEnded (s : State) : State := s.when_ s.img.swapDue swapWhenFree

/-- The digest that a selection of IMG_DIGEST_SEL shows; all zeros for an EMPTY holder (R63). -/
def selectedDigest (s : State) (sel : Nat) : Digest :=
  let ofTarget (t : Nat) : Digest := if s.r (sealField t) = 0 then 0 else (s.sealOf t).digest
  if sel = 0 then (if s.img.loaded then s.img.loadedSeal.digest else 0)
  else if sel ≤ 4 then ofTarget (sel - 1)
  else if sel = 5 then (if s.img.loaded then s.img.loadedSeal.atlas else 0)
  else (nth s.img.slotDigest (if sel = 6 then 1 - s.incoming else s.incoming) none).getD 0

/-- The twelve words of IMG_DIGEST_0 to 11: digest bytes 4n to 4n + 3, byte 4n in [7:0] (file 02). -/
def digestWords (d : Digest) : List Nat :=
  let bs := beBytes 48 d.toNat
  (List.range 12).map fun n => leAt bs (4 * n) 4

/-- What a path has of its own. -/
def State.path (s : State) (p : Path) : PathState :=
  match p with
  | .host => s.pathHost
  | .mgmt _ _ => s.pathMgmt

/-- What a path has of its own, replaced. -/
def State.setPath (s : State) (p : Path) (x : PathState) : State :=
  match p with
  | .host => { s with pathHost := x }
  | .mgmt _ _ => { s with pathMgmt := x }

/-- A latching read replaces the path's whole shadow (R27). -/
def State.latch (s : State) (p : Path) (words : SMap Nat) : State :=
  s.setPath p { s.path p with shadow := words }

/-- A read row's value kept for its path. -/
def State.answerRead (s : State) (p : Path) (v : Nat) : State := s.setPath p { s.path p with data := v }

/-- Words at consecutive registers from an address. -/
def wordsAt (addr : Nat) (ws : List Nat) : SMap Nat :=
  (List.range ws.length).map fun i => (addr + 4 * i, nth ws i 0)

/-- A read of IMG_DIGEST_0 latches all twelve words into the path's shadow (R63). -/
def imgDigestRead (p : Path) (s : State) : State :=
  let ws := digestWords (selectedDigest s (s.r Reg.IMG_DIGEST_SEL))
  (s.latch p (wordsAt 0x10040 ws)).answerRead p (nth ws 0 0)

/-! ### Meanings -/

/-- IMG_DIGEST_READ (R63). -/
def execImgDigestRead (path : Path) (s : State) : Res := (s.servedOn path (imgDigestRead path)).done
/-- IMG_WRITE_BEGIN (R48). -/
def execImgWriteBegin (path : Path) (target : Nat) (s : State) : Res := (s.servedOn path (imgWriteBegin path (target % 4))).done
/-- IMG_WRITE_DATA (R50). -/
def execImgWriteData (path : Path) (word : Nat) (s : State) : Res := (s.servedOn path (imgWriteData path (word % 2 ^ 32))).done
/-- IMG_WRITE_FINISH (R51). -/
def execImgWriteFinish (path : Path) (s : State) : Res := (s.servedOn path (imgWriteFinish path)).done
/-- IMG_WRITE_ABORT (R49). -/
def execImgWriteAbort (path : Path) (s : State) : Res := (s.servedOn path (imgWriteAbort path)).done
/-- IMG_SESSION_TIMEOUT (R49). -/
def execImgSessionTimeout (s : State) : Res := (imgSessionTimeout s).done
/-- IMG_ACTIVATE (R53). -/
def execImgActivate (bank confirm : Nat) (s : State) : Res := (imgActivate bank confirm s).done
/-- IMG_STAGE (R54). -/
def execImgStage (slot : Nat) (s : State) : Res := (s.served (imgStage slot)).done
/-- IMG_STAGE_ABORT (R54). -/
def execImgStageAbort (s : State) : Res := (s.served imgStageAbort).done
/-- ATLAS_STAGING_END (R54). -/
def execAtlasStagingEnd (uncorr : Bool) (s : State) : Res := (atlasStagingEnd uncorr s).done

end Sys2Proof.Machine
end

