-- ==== Sys2Proof/Machine/Dsp.lean ====
section
/-! DEFINITION. The dispatcher and the facets (file 03): completions, dependence counters, ready lists, placement, delay lists,
external ports, overruns and facet relay. One command is one fabric cycle's work of its unit. -/

namespace Sys2Proof.Machine

/-! ### Facets, map and spares -/

/-- The fence record names a physical facet (R66). -/
def State.fenced (s : State) (p : Nat) : Bool := bitAt (s.r (Reg.DSP_FENCED (p / 32))) (p % 32)

/-- A physical facet. -/
def State.facet (s : State) (p : Nat) : Facet := nth s.dsp.facets p {}

/-- A physical facet changed. -/
def State.modFacet (s : State) (p : Nat) (f : Facet → Facet) : State :=
  { s with dsp := { s.dsp with facets := modAt s.dsp.facets p f {} } }

/-- The physical facet of a logical facet, if it is mapped. -/
def State.physOf (s : State) (k : Nat) : Option Nat := nth s.dsp.map k none

/-- The logical facet a physical facet carries, if it carries one. -/
def State.logicalOf (s : State) (p : Nat) : Option Nat :=
  (List.range 96).find? fun k => s.physOf k == some p

/-- A relay is in steps 1 to 4 (DSP_RELAY_STATUS.STATE 1 to 3). -/
def State.relayBusy (s : State) : Bool :=
  let x := s.r Reg.DSP_RELAY_STATUS_STATE
  x == 1 || x == 2 || x == 3

/-- A physical facet is an idle spare: not fenced, carrying no logical facet, and no relay's target (R65). -/
def State.idleSpare (s : State) (p : Nat) : Bool :=
  !s.fenced p && (s.logicalOf p).isNone && !(s.relayBusy && s.r Reg.DSP_RELAY_STATUS_TO_PHYS == p)

/-- Idle spares in ascending physical order (R65, R67). -/
def State.idleSpares (s : State) : List Nat := (List.range 112).filter s.idleSpare

/-- The logical or idle index of a physical facet; 0x7F if it has none (R67). -/
def State.indexOf (s : State) (p : Nat) : Nat :=
  match s.logicalOf p with
  | some k => k
  | none =>
    if s.fenced p then 0x7F
    else match s.idleSpares.findIdx? (· == p) with
      | some i => 96 + i
      | none => 0x7F

/-- A facet fenced and recorded; a self-test item that it runs posts no completion (R66). -/
def State.fence (s : State) (p : Nat) : State :=
  if s.fenced p then s
  else
    ((s.w (Reg.DSP_FENCED (p / 32)) (setBit (s.r (Reg.DSP_FENCED (p / 32))) (p % 32) true)).inc Reg.DSP_STATUS_FENCED).modFacet p
      fun f => { f with testing := false }

/-- A spare facet has been brought in (R371, IMG_MODULE_STATE.SPARE_IN_USE). -/
def State.facetSpareUsed (s : State) : State :=
  s.spareUsed.when_ s.idleSpares.isEmpty fun s => s.raise Evt.SPARES_LOW [.code 3]

/-- SPARES_FREE as updated at each relay. -/
def State.countSpares (s : State) : State := s.w Reg.DSP_STATUS_SPARES_FREE s.idleSpares.length

/-! ### Nodes and descriptors -/

/-- A node's table entry. -/
def State.node (s : State) (n : Nat) : NodeEntry := nth s.dsp.fab.nodes n {}

/-- A descriptor of a node at a level (Table 03-2). -/
def State.descOf (s : State) (node level arg : Nat) : Desc :=
  let e := s.node node
  { node := node, prio := level % 8, flowEn := e.flowEn, flow := e.flow, arg := arg, stamp := s.now32 }

/-- What the FABRIC section gives a counter. -/
def State.counter (s : State) (c : Nat) : CounterEntry := nth s.dsp.fab.counters c {}

/-- A held counter firing holds the counter unit and the collector (R82). -/
def State.unitHeld (s : State) : Bool :=
  s.rb Reg.DSP_STATUS_BACKPRESSURE && (s.dsp.waiting.any (fun x => x.desc.kind == 0) || !s.dsp.fireQ.isEmpty)

/-- A decrement offered to port 13, whose source holds it while the FIFO is full (Table 03-4, R92, R93). -/
def State.loupePort (s : State) (c : Nat) : State :=
  match portPush s.dsp 13 ⟨c, none⟩ with
  | (d, true) => { s with dsp := d }
  | (_, false) => { s with dsp := portHold s.dsp 13 ⟨c, none⟩ }

/-- A facet executes: an item or a self-test item runs, its completion is not latched and the facet is neither stopped nor fenced
(R66, R78, R92). -/
def State.executes (s : State) (p : Nat) : Bool :=
  let f := s.facet p
  (f.running.isSome || f.testing) && f.latch.isNone && !f.stopped && !s.fenced p

/-- Writes of a facet's item to its data memory; those of the old facet of a relay in steps 3 and 4 are mirrored to the same
bytes of the target (R88, R89). A facet that executes nothing writes nothing (R78). -/
def State.dataWrites (s : State) (p : Nat) (writes : List (Nat × Byte)) : State := s.when_ (s.executes p) fun s =>
  let put := fun (f : Facet) => { f with data := writes.foldl (fun l x => setAt l (x.1 % 4096) x.2 0) f.data }
  let x := s.r Reg.DSP_RELAY_STATUS_STATE
  (s.modFacet p put).when_ ((x == 2 || x == 3) && s.r Reg.DSP_RELAY_STATUS_FROM_PHYS == p)
    fun s => s.modFacet (s.r Reg.DSP_RELAY_STATUS_TO_PHYS) put

/-! ### Completions (R78, R79) -/

/-- The cycles of an item recorded. -/
def State.itemCycles (s : State) (p cycles : Nat) : State :=
  (s.w (Reg.DSP_FCT_CYCLES_LAST p) (satN 16 cycles)).peak (Reg.DSP_FCT_CYCLES_MAX p) cycles

/-- COMPLETE of an item within its BUDGET puts a completion in the output latch (R78); a self-test item's decrements nothing and
carries the facet's logical or idle index (R65, R67). A fenced facet posts none (R66). -/
def completeItem (p mask cycles : Nat) (s : State) : State :=
  let f := s.facet p
  if s.fenced p then s else
  match f.running, f.latch with
  | some d, none =>
    (s.modFacet p fun f => { f with latch := some { index := s.indexOf p, node := d.node, mask := mask % 16 } }).itemCycles p cycles
  | none, none =>
    if f.testing then
      (s.modFacet p fun f => { f with latch := some { index := s.indexOf p, node := 0, mask := 0 } }).itemCycles p cycles
    else s
  | _, some _ => s

/-- A list with x placed by ascending key, behind equal keys. -/
def insertBy {α : Type} (key : α → Nat) (x : α) : List α → List α
  | [] => [x]
  | y :: rest => if key x < key y then x :: y :: rest else y :: insertBy key x rest

/-- A list in ascending key, equal keys in their order. -/
def sortBy {α : Type} (key : α → Nat) (l : List α) : List α := l.foldl (fun acc x => insertBy key x acc) []

/-- Pending completions in ascending index: physical facet and completion (R79). -/
def State.pendingCompletions (s : State) : List (Nat × Completion) :=
  sortBy (fun x => x.2.index) ((List.range 112).filterMap fun p => (s.facet p).latch.map fun c => (p, c))

/-- The flow of an item leaves service when its completion is taken (R72). -/
def releaseFlow (c : Completion) (l : List FlowUse) : List FlowUse :=
  l.filter fun u => !(u.facet == c.index && u.node == c.node)

/-- The collector takes one completion; the facet begins its prefetched item (R73, R79). -/
def takeCompletion (s : State) (x : Nat × Completion) : State :=
  let aff := match (s.facet x.1).pref with
    | some d => SMap.put s.dsp.affinity d.node x.2.index 0x7F
    | none => s.dsp.affinity
  let s := s.modFacet x.1 fun f => { f with latch := none, running := f.pref, pref := none, testing := false }
  let s := { s with dsp := { s.dsp with collIn := s.dsp.collIn ++ [x.2], flows := releaseFlow x.2 s.dsp.flows, affinity := aff } }
  let s := (s.incWrap (Reg.DSP_FCT_ITEMS x.1)).w (Reg.DSP_FCT_STALL_LAST x.1) (satN 5 x.2.wait)
  (s.peak (Reg.DSP_FCT_STALL_MAX x.1) x.2.wait).peak Reg.DSP_COLLECT_MAX_WAIT x.2.wait

/-- A completion not taken waits another cycle. -/
def waitCompletion (s : State) (x : Nat × Completion) : State :=
  s.modFacet x.1 fun f => { f with latch := f.latch.map fun c => { c with wait := c.wait + 1 } }

/-- One cycle of the collector: up to four pending completions in ascending index (R79). Cycles in which R82 holds the collector do
not count in a completion's wait (log entry 124, DESIGN CHOICE: R79 bounds the wait at 27). -/
def completionCollect (s : State) : State :=
  if s.unitHeld then s
  else
    let l := s.pendingCompletions
    let s := s.peak Reg.DSP_COLLECT_MAX_BURST l.length
    (l.drop 4).foldl waitCompletion ((l.take 4).foldl takeCompletion s)

/-! ### Dependence counters (R69, R70) -/

/-- A decrement on its way to a counter: the counter, an argument in place of the binding's, the firing facet and the port. -/
structure Hit where
  /-- counter -/
  counter : Nat
  /-- argument carried (R81) -/
  arg : Option Nat
  /-- FIRER -/
  firer : Nat
  /-- PORT -/
  port : Nat
  deriving DecidableEq, Repr

/-- The successors a completion decrements, successor 0 first; the ABORT_MASK of an aborted item (R70, R78, R87). -/
def State.successors (s : State) (c : Completion) : List Nat :=
  let e := s.node c.node
  let mask := if c.abort then e.abortMask else c.mask
  (List.range 4).filterMap fun i => if bitAt mask i then nth e.succ i none else none

/-- The decrements delivered in the previous cycle, in the order of R70. -/
def State.hits (s : State) : List Hit :=
  (sortBy (fun x => x.1) s.dsp.portIn).map (fun x => ⟨x.2.counter, x.2.arg, 0x7F, x.1⟩) ++
  s.dsp.collIn.flatMap fun c => (s.successors c).map fun k => ⟨k, none, c.index, 0⟩

/-- A decrement applied; a counter that reaches 0 fires and reloads INITIAL (R69). -/
def applyHit (acc : State × List Nat) (h : Hit) : State × List Nat :=
  let s := acc.1
  let e := s.counter h.counter
  if e.initial = 0 then (s.inc Reg.DSP_BP_COUNT_DISABLED_HIT, acc.2)
  else
    let v := nth s.dsp.counts h.counter e.initial
    if v ≤ 1 then
      let d := { s.descOf e.node e.level (h.arg.getD e.arg) with
        kind := 0, counter := h.counter, rep := acc.2.countP (· == h.counter), firer := h.firer, port := h.port }
      let n := SMap.get s.dsp.fires h.counter 0
      ({ s with dsp := { s.dsp with
          counts := setNth s.dsp.counts h.counter e.initial,
          fires := SMap.put s.dsp.fires h.counter ((n + 1) % 2 ^ 32) 0,
          fireQ := s.dsp.fireQ ++ [d] } }, acc.2 ++ [h.counter])
    else ({ s with dsp := { s.dsp with counts := setNth s.dsp.counts h.counter (v - 1) } }, acc.2)

/-- One cycle of the counter unit (R70). -/
def counterApply (s : State) : State :=
  if s.unitHeld then s
  else
    let s' := (s.hits.foldl applyHit (s, [])).1
    { s' with dsp := { s'.dsp with portIn := [], collIn := [] } }

/-! ### Ready lists (R71, R82) -/

/-- Up to n descriptors enter their ready lists; a full list holds its descriptor and all behind it. Answers the lists, what
did not enter and the level found full, if one was. -/
def enterReady : Nat → List Queued → List (List Desc) → List (List Desc) × List Queued × Option Nat
  | 0, q, ready => (ready, q, none)
  | _, [], ready => (ready, [], none)
  | n + 1, x :: q, ready =>
    let l := nth ready x.desc.prio []
    if l.length < 256 then enterReady n q (setAt ready x.desc.prio (l ++ [x.desc]) []) else (ready, x :: q, some x.desc.prio)

/-- The PEAK of each ready list. -/
def State.readyPeaks (s : State) : State :=
  (List.range 8).foldl (fun s n => s.peak (Reg.DSP_READY_PEAK n) (nth s.dsp.ready n []).length) s

/-- An entry of the position list as a descriptor. -/
def State.posDesc (s : State) (x : PosEntry) : Desc := { s.descOf x.node x.level x.arg with kind := 2, late := x.late }

/-- What is due to enter in a cycle: what did not fit before, then up to four position-list and four time-list expiries, then the
counter firings (R71, R76, R77). -/
def DspState.toEnter (d : DspState) : List Queued :=
  d.waiting ++ d.posQ.take 4 ++ d.timeQ.take 4 ++ d.fireQ.map fun x => ⟨x, false⟩

/-- Delay-list entries leave the heads of their lists when their descriptors enter (R82). -/
def DspState.shed (d : DspState) (entered : List Queued) : DspState :=
  { d with
    timeList := d.timeList.drop (entered.countP fun x => x.desc.kind == 1)
    up := d.up.drop (entered.countP fun x => x.desc.kind == 2 && !x.down)
    down := d.down.drop (entered.countP fun x => x.desc.kind == 2 && x.down) }

/-- One cycle of entry into the ready lists, in the original order of the work (R71, R82, R83). -/
def readyListEntry (s : State) : State :=
  let q := s.dsp.toEnter
  match enterReady 8 q s.dsp.ready with
  | (ready, rest, full) =>
    let d := s.dsp.shed (q.take (q.length - rest.length))
    let s' := ({ s with dsp := { d with
      ready := ready, waiting := rest, posQ := d.posQ.drop 4, timeQ := d.timeQ.drop 4, fireQ := [] } }).readyPeaks
    match full with
    | none => s'.wb Reg.DSP_STATUS_BACKPRESSURE false
    | some level =>
      if s.rb Reg.DSP_STATUS_BACKPRESSURE then s'
      else ((s'.wb Reg.DSP_STATUS_BACKPRESSURE true).inc Reg.DSP_BP_COUNT_READY_FULL).raise Evt.DSP_BACKPRESSURE [.code level]

/-! ### Placement (R72, R73, R90, R93) -/

/-- A flow is in service (R72). -/
def State.flowBusy (s : State) (d : Desc) : Bool := d.flowEn && s.dsp.flows.any fun u => u.flow == d.flow

/-- A logical facet takes descriptors: mapped, allocated, not lost, not stopped and not waiting for its switch (R65, R90). -/
def State.accepts (s : State) (k : Nat) : Option Nat :=
  match s.physOf k with
  | none => none
  | some p =>
    if s.dsp.fab.allocCount ≤ k || s.dsp.lost.elem k || (s.facet p).stopped ||
      (s.r Reg.DSP_RELAY_STATUS_STATE == 3 && s.r Reg.DSP_RELAY_STATUS_LOGICAL == k) then none else some p

/-- The logical facets of a node's pool. -/
def NodeEntry.pool (e : NodeEntry) : List Nat := (List.range e.poolSize).map fun i => e.poolFirst + i

/-- The running slot of a logical facet is free; answers its physical facet. -/
def State.runFree (s : State) (k : Nat) : Option Nat :=
  (s.accepts k).bind fun p => if (s.facet p).running.isNone && (s.facet p).latch.isNone then some p else none

/-- The prefetched slot of a logical facet is free. -/
def State.prefFree (s : State) (k : Nat) : Option Nat :=
  (s.accepts k).bind fun p => if (s.facet p).pref.isNone then some p else none

/-- The slot chosen for a node: logical facet, physical facet and whether it is the running slot (R73). -/
def State.chooseSlot (s : State) (node : Nat) : Option (Nat × Nat × Bool) :=
  let pool := (s.node node).pool
  let aff := pool.filter fun k => SMap.get s.dsp.affinity node 0x7F == k
  let run := (aff ++ pool).findSome? fun k => (s.runFree k).map fun p => (k, p, true)
  match run with
  | some x => some x
  | none => (aff ++ pool).findSome? fun k => (s.prefFree k).map fun p => (k, p, false)

/-- A descriptor placed in a slot; its flow enters service. In a running slot it begins, and the facet becomes the node's affinity
facet (R73). -/
def State.place (s : State) (d : Desc) (x : Nat × Nat × Bool) : State :=
  let s := s.modFacet x.2.1 fun f => if x.2.2 then { f with running := some d } else { f with pref := some d }
  { s with dsp := { s.dsp with
    flows := if d.flowEn then s.dsp.flows ++ [⟨d.flow, x.1, d.node⟩] else s.dsp.flows,
    affinity := if x.2.2 then SMap.put s.dsp.affinity d.node x.1 0x7F else s.dsp.affinity } }

/-- An item of a lost facet with a pool of one (R93). -/
def State.discards (s : State) (d : Desc) : Bool :=
  let e := s.node d.node
  e.poolSize == 1 && s.dsp.lost.elem e.poolFirst

/-- One descriptor met by the scan: discarded, placed or skipped. The accumulator holds the state, the slots still to fill and
what stays of the list. -/
def scanDesc (acc : State × Nat × List Desc) (d : Desc) : State × Nat × List Desc :=
  match acc with
  | (s, left, kept) =>
    if left = 0 then (s, left, kept ++ [d])
    else if s.discards d then (s.loupePort s.dsp.fab.loss, left, kept)
    else if s.flowBusy d then (s, left, kept ++ [d])
    else match s.chooseSlot d.node with
      | none => (s, left, kept ++ [d])
      | some x => (s.place d x, left - 1, kept)

/-- One level scanned from head to tail. -/
def scanLevel (acc : State × Nat) (level : Nat) : State × Nat :=
  match (nth acc.1.dsp.ready level []).foldl scanDesc (acc.1, acc.2, []) with
  | (s, left, kept) => ({ s with dsp := { s.dsp with ready := setAt s.dsp.ready level kept [] } }, left)

/-- One cycle of placement: up to four descriptors, level 0 first (R73), once the graphs are released (R56). -/
def descriptorPlacement (s : State) : State := if s.released then ((List.range 8).foldl scanLevel (s, 4)).1 else s

/-! ### Delay lists (R74 to R77) -/

/-- µs until a stamp, negative once it has passed. -/
def State.until_ (s : State) (t : Time) : Int := (t - s.optime).toInt

/-- A time-list entry placed by expiry, behind equal expiries (R76). -/
def insertTime (s : State) (x : TimeEntry) : List TimeEntry → List TimeEntry
  | [] => [x]
  | y :: rest => if !y.due && decide (s.until_ x.expiry < s.until_ y.expiry) then x :: y :: rest else y :: insertTime s x rest

/-- A position-list entry placed in its direction's order, behind equal thresholds and behind what has expired. -/
def insertPos (down : Bool) (x : PosEntry) : List PosEntry → List PosEntry
  | [] => [x]
  | y :: rest =>
    if !y.due && (if down then decide (y.thresh < x.thresh) else decide (x.thresh < y.thresh)) then x :: y :: rest
    else y :: insertPos down x rest

/-- An insert refused because its list is full (R74): 0 time list, 1 position list; of the time list port 14 takes notice (Table
03-4). -/
def delayFull (list : Nat) (s : State) : State :=
  ((s.inc Reg.DSP_BP_COUNT_DELAY_FULL).raise Evt.DSP_DELAY_FULL [.code list]).when_ (list == 0) fun s => s.post 14 0

/-- An entry of the position list inserted (R74, R77); false if the list is full. -/
def posInsert (down : Bool) (node level arg tag : Nat) (thresh : Int) (s : State) : State × Bool :=
  if 512 ≤ s.dsp.up.length + s.dsp.down.length then (delayFull 1 s, false)
  else
    let p := s.pos.sample.pos
    let late := s.ret.seen && (if down then decide (p ≤ thresh) else decide (thresh ≤ p))
    let x : PosEntry := { thresh := thresh, node := node, level := level, arg := arg, tag := tag, late := late }
    let d := if down then { s.dsp with down := insertPos true x s.dsp.down }
      else { s.dsp with up := insertPos false x s.dsp.up }
    (({ s with dsp := d }).peak Reg.DSP_DELAY_POS_PEAK (d.up.length + d.down.length), true)

/-- An entry of the time list inserted (R74); false if the list is full. -/
def timeInsert (node level arg tag delay : Nat) (s : State) : State × Bool :=
  if 512 ≤ s.dsp.timeList.length then (delayFull 0 s, false)
  else
    let x : TimeEntry := { expiry := s.optime + BitVec.ofNat 48 delay, node := node, level := level, arg := arg, tag := tag }
    let l := insertTime s x s.dsp.timeList
    (({ s with dsp := { s.dsp with timeList := l } }).peak Reg.DSP_DELAY_TIME_PEAK l.length, true)

/-- What the dispatcher answers the item of a logical facet. -/
def State.answerItem (s : State) (k : Nat) (f : Facet → Facet) : State :=
  match s.physOf k with
  | none => s
  | some p => s.modFacet p f

/-- An insert granted: the entry is made, or the item receives status FULL (R74). -/
def grantInsert (s : State) (x : DelayInsert) : State :=
  let r := if x.position then posInsert x.down x.node x.level x.arg x.tag x.thresh s
    else timeInsert x.node x.level x.arg x.tag x.delay s
  r.1.answerItem x.facet fun f => { f with full := !r.2 }

/-- One cycle of the insert port: up to four of the inserts that wait and of the cycle's new ones, in ascending logical index; the
others wait for their grant (R74), also when their item has been aborted or their facet stopped meanwhile (log entry 124, DESIGN
CHOICE). -/
def delayInsert (new : List DelayInsert) (s : State) : State :=
  let l := sortBy (fun x => x.facet) (s.dsp.inserts ++ new)
  (l.take 4).foldl grantInsert { s with dsp := { s.dsp with inserts := l.drop 4 } }

/-- The entry of the time list has expired (R75, R76). -/
def State.timeDue (s : State) (x : TimeEntry) : Bool := x.due || decide (s.until_ x.expiry ≤ 0)

/-- Every entry of a list with a TAG removed, but for those that have expired (R75). -/
def delayCancel (position : Bool) (tag : Nat) (s : State) : State :=
  if position then { s with dsp := { s.dsp with
    up := s.dsp.up.filter (fun x => x.due || x.tag != tag), down := s.dsp.down.filter fun x => x.due || x.tag != tag } }
  else { s with dsp := { s.dsp with timeList := s.dsp.timeList.filter fun x => s.timeDue x || x.tag != tag } }

/-- Entries of the delay lists. -/
def DspState.delayed (d : DspState) : Nat := d.timeList.length + d.up.length + d.down.length

/-- A cancel by an item, which receives the number of entries removed (R75). -/
def itemCancel (facet : Nat) (position : Bool) (tag : Nat) (s : State) : State :=
  let s' := delayCancel position tag s
  s'.answerItem facet fun f => { f with removed := s.dsp.delayed - s'.dsp.delayed }

/-- At a tick the due entries of the time list expire: they stay at its head until their descriptors, now to be queued, enter (R76,
R82). -/
def timeListExpiry (s : State) : State :=
  let l := s.dsp.timeList
  let n := (l.takeWhile s.timeDue).length
  let new := (l.take n).filter fun x => !x.due
  { s with dsp := { s.dsp with
    timeList := (l.take n).map (fun x => { x with due := true }) ++ l.drop n,
    timeQ := s.dsp.timeQ ++ new.map fun x => ⟨{ s.descOf x.node x.level x.arg with kind := 1 }, false⟩ } }

/-- The heads of a direction's list that have expired: earlier ones, and those that a sample reaches (R77). -/
def posReached (reach : Int → Bool) (l : List PosEntry) : List PosEntry := l.takeWhile fun x => x.due || reach x.thresh

/-- The expired heads of a direction's list stay at its head until their descriptors enter (R82). -/
def posHold (reach : Int → Bool) (l : List PosEntry) : List PosEntry :=
  let n := (posReached reach l).length
  (l.take n).map (fun x => { x with due := true }) ++ l.drop n

/-- Position-list heads reached by a sample expire and are to be queued, up before down (R77). -/
def posListExpiry (pos speed : Int) (s : State) : State :=
  let reachUp := fun t => decide (0 ≤ speed ∧ t ≤ pos)
  let reachDown := fun t => decide (speed ≤ 0 ∧ pos ≤ t)
  let new := fun (down : Bool) (l : List PosEntry) => (l.filter fun x => !x.due).map fun x => (⟨s.posDesc x, down⟩ : Queued)
  { s with dsp := { s.dsp with
    up := posHold reachUp s.dsp.up, down := posHold reachDown s.dsp.down,
    posQ := s.dsp.posQ ++ new false (posReached reachUp s.dsp.up) ++ new true (posReached reachDown s.dsp.down) } }

/-! ### Ports (R80, R81) -/

/-- A port has been served in this cycle. -/
def State.portTaken (s : State) (port : Nat) : Bool := s.dsp.portIn.any fun x => x.1 == port

/-- Lower ports with a decrement taken or waiting in this cycle, which come first (R80). -/
def State.portsBefore (s : State) (port : Nat) : Nat :=
  (List.range port).countP fun q => s.portTaken q || !(nth s.dsp.ports q []).isEmpty

/-- A port's head decrement goes to the counter unit, at most one of a port and four in all in a cycle, in ascending port number;
what its source holds moves up (R80). -/
def portDelivery (port : Nat) (s : State) : State :=
  if !s.released || s.unitHeld || s.portTaken port || decide (4 ≤ s.dsp.portIn.length) || decide (4 ≤ s.portsBefore port) then s
  else match nth s.dsp.ports port [] with
    | [] => s
    | x :: q =>
      let h := nth s.dsp.held port []
      { s with dsp := { s.dsp with
        portIn := s.dsp.portIn ++ [(port, x)],
        ports := setAt s.dsp.ports port (q ++ h.take 1) [],
        held := setAt s.dsp.held port (h.drop 1) [] } }

/-- A DSP_DOORBELL write (R81); without effect until the graphs are released (R56). -/
def dspDoorbell (c : Nat) (s : State) : State :=
  if s.released && (s.counter c).hostOk then
    match portPush s.dsp 15 ⟨c, none⟩ with
    | (d, true) => { s with dsp := d }
    | (_, false) => s.inc Reg.DSP_BP_COUNT_DOORBELL_LOST
  else s

/-- A TRIP_CMD word carried through port 15 (R81); false if its FIFO was full. -/
def tripCmdPush (word : Nat) (s : State) : State × Bool :=
  match portPush s.dsp 15 ⟨s.dsp.fab.tripCmd, some word⟩ with
  | (d, true) => ({ s with dsp := d }, true)
  | (_, false) => (s.inc Reg.DSP_BP_COUNT_DOORBELL_LOST, false)

/-- Fields cleared to 0. -/
def State.clear (s : State) (l : List Field) : State := l.foldl (fun s f => s.w f 0) s

/-- DSP_PEAK_CLEAR: every PEAK and MAX field, DSP_COLLECT and DSP_BP_COUNT (file 03), and the peaks of other blocks that name
it (RET_POST.PEAK, PFE_EMU_STATUS.MAX_BACKLOG, MIR_LOUPE.MAX). -/
def dspPeakClear (value : Nat) (s : State) : State :=
  if value % 2 = 0 then s
  else
    let s := s.clear ((List.range 8).map Reg.DSP_READY_PEAK ++
      [Reg.DSP_DELAY_TIME_PEAK, Reg.DSP_DELAY_POS_PEAK, Reg.DSP_COLLECT_MAX_BURST, Reg.DSP_COLLECT_MAX_WAIT,
       Reg.DSP_BP_COUNT_READY_FULL, Reg.DSP_BP_COUNT_DELAY_FULL, Reg.DSP_BP_COUNT_TICKS_MERGED,
       Reg.DSP_BP_COUNT_DISABLED_HIT, Reg.DSP_BP_COUNT_DOORBELL_LOST, Reg.RET_POST_PEAK, Reg.MIR_LOUPE_MAX,
       Reg.PFE_EMU_STATUS_MAX_BACKLOG 0, Reg.PFE_EMU_STATUS_MAX_BACKLOG 1])
    (List.range 112).foldl (fun s p =>
      ((s.clear [Reg.DSP_FCT_CYCLES_MAX p, Reg.DSP_FCT_STALL_MAX p])).w (Reg.DSP_FCT_MARGIN_MIN p) 0xFF) s

/-! ### Relay (R87 to R93) -/

/-- A relay request: merged with one held or running for the facet, FAULT prevailing over a held one; else held in ascending
logical index (R88). -/
def relayRequest (k reason : Nat) (s : State) : State :=
  if (s.physOf k).isNone || (s.relayBusy && s.r Reg.DSP_RELAY_STATUS_LOGICAL == k) then s
  else
    let held := s.dsp.requests.any fun x => x.1 == k
    let l := if held then s.dsp.requests.map fun x => if x.1 == k && reason == 4 then (k, 4) else x
      else insertBy (fun x : Nat × Nat => x.1) (k, reason) s.dsp.requests
    { s with dsp := { s.dsp with requests := l } }

/-- The relay target of logical facet k0: the lowest idle spare whose self-test passed, else the facet of the highest other mapped
reserved logical facet whose self-test passed, which is then unmapped, and a relay held for it is dropped (R88). -/
def relayTarget (k0 : Nat) (s : State) : Option (Nat × State) :=
  match s.idleSpares.find? fun p => (s.facet p).testPass with
  | some p => some (p, s)
  | none =>
    let alloc := s.dsp.fab.allocCount
    let k := ((List.range 96).reverse).find? fun k =>
      decide (alloc ≤ k) && k != k0 && (match s.physOf k with | some p => (s.facet p).testPass | none => false)
    k.bind fun k => (s.physOf k).map fun p =>
      (p, { s with dsp := { s.dsp with
        map := setAt s.dsp.map k none none, requests := s.dsp.requests.filter fun x => x.1 != k } })

/-- DSP_RELAY_STATUS of a relay that begins; the target stops its self-tests. -/
def relayBegin (k reason target : Nat) (s : State) : State :=
  let s := s.modFacet target fun f => { f with testing := false, latch := none }
  let s := (s.w Reg.DSP_RELAY_STATUS_STATE 1).w Reg.DSP_RELAY_STATUS_LOGICAL k
  let s := (s.w Reg.DSP_RELAY_STATUS_FROM_PHYS ((s.physOf k).getD 0)).w Reg.DSP_RELAY_STATUS_TO_PHYS target
  ((s.w Reg.DSP_RELAY_STATUS_REASON reason).wb Reg.DSP_STATUS_RELAY_BUSY true).countSpares

/-- A relay ends FAILED (R88, R91). -/
def relayFail (k reason : Nat) (s : State) : State :=
  let s := ((s.w Reg.DSP_RELAY_STATUS_STATE 5).w Reg.DSP_RELAY_STATUS_LOGICAL k).w Reg.DSP_RELAY_STATUS_REASON reason
  ((s.wb Reg.DSP_STATUS_RELAY_BUSY false).countSpares).raise Evt.FACET_RELAY_FAIL [.code k, .code reason]

/-- The loss of a logical facet: its physical facet is fenced and carries it no longer (R66, R93). -/
def facetLost (k : Nat) (s : State) : State :=
  let s := match s.physOf k with
    | some p => s.fence p
    | none => s
  let s := { s with dsp := { s.dsp with
    map := setAt s.dsp.map k none none, lost := insertBy id k (s.dsp.lost.filter (· != k)) } }
  (s.wb Reg.DSP_STATUS_FACET_LOST true).raise Evt.FACET_LOST [.code k]

/-- A FAULT relay takes a target, or the facet is lost (R92, R93). -/
def faultBegin (k : Nat) (s : State) : State :=
  match relayTarget k s with
  | some (t, s) => relayBegin k 4 t s
  | none => facetLost k ((relayFail k 4 s).raise Evt.SPARES_EXHAUSTED [.code k])

/-- The old facet of a FAULT relay stops: an aborted completion for its running item, its prefetched descriptor back at the
head of its ready list (R92), also when that list holds 256 already: it then holds 257 until one is placed (log entry 124, DESIGN
CHOICE). -/
def stopFacet (p : Nat) (s : State) : State :=
  let f := s.facet p
  let i := s.indexOf p
  let s := match f.pref with
    | none => s
    | some d =>
      { s with dsp := { s.dsp with
        ready := modAt s.dsp.ready d.prio (fun l => d :: l) [],
        flows := if d.flowEn then s.dsp.flows.filter fun u => !(u.facet == i && u.node == d.node && u.flow == d.flow)
          else s.dsp.flows } }
  s.modFacet p fun f => { f with
    stopped := true, pref := none,
    latch := match f.latch, f.running with
      | some c, _ => some c
      | none, some d => some { index := i, node := d.node, mask := 0, abort := true }
      | none, none => none }

/-- A FAULT relay of a logical facet starts, or is held behind the relay that runs; a running orderly relay of the same facet
becomes the FAULT relay (R88, R92). -/
def faultRelay (k p : Nat) (s : State) : State :=
  let s := stopFacet p s
  if s.relayBusy then
    if s.r Reg.DSP_RELAY_STATUS_LOGICAL = k then (s.w Reg.DSP_RELAY_STATUS_STATE 1).w Reg.DSP_RELAY_STATUS_REASON 4
    else relayRequest k 4 s
  else faultBegin k { s with dsp := { s.dsp with requests := s.dsp.requests.filter fun x => x.1 != k } }

/-- A facet's running item is aborted: a completion with the abort flag (R87, R368, R412). -/
def abortItem (p : Nat) (s : State) : State :=
  let i := s.indexOf p
  s.modFacet p fun f =>
    match f.running, f.latch with
    | some d, none => { f with latch := some { index := i, node := d.node, mask := 0, abort := true } }
    | _, _ => f

/-- An item reaches BUDGET + 1 fc (R87). -/
def overrunItem (p : Nat) (s : State) : State :=
  let f := s.facet p
  match f.running, f.latch with
  | some d, none =>
    let i := s.indexOf p
    let s := s.modFacet p fun f => { f with latch := some { index := i, node := d.node, mask := 0, abort := true } }
    let s := s.itemCycles p ((s.node d.node).budget + 1)
    relayRequest i 2 ((s.inc Reg.DSP_OVERRUNS).raise Evt.FACET_OVERRUN [.code i, .ident d.node])
  | _, _ => s

/-- A facet's item with its writes to data memory reaches BUDGET + 1 fc. -/
def facetOverrun (p : Nat) (writes : List (Nat × Byte)) (s : State) : State := overrunItem p (s.dataWrites p writes)

/-- The running item of a facet needed more than its BUDGET. -/
def State.overBudget (s : State) (p cycles : Nat) : Bool :=
  match (s.facet p).running with
  | some d => decide ((s.node d.node).budget < cycles)
  | none => false

/-- An item, with its writes to data memory, executes COMPLETE in its cycles; beyond BUDGET it has been aborted before that (R78,
R87). -/
def complete (p mask cycles : Nat) (writes : List (Nat × Byte)) (s : State) : State :=
  let s := s.dataWrites p writes
  if s.overBudget p cycles then overrunItem p s else completeItem p mask cycles s

/-- DSP_RELAY_CTRL (R88). -/
def dspRelayCtrl (logical confirm : Nat) (s : State) : State :=
  if confirm = 0xC3A5 then relayRequest (logical % 128) 3 s else s

/-- The lowest held request is taken: an orderly relay chooses its target and begins loading (R88); a held FAULT request is
taken as R92 gives. -/
def relayStart (s : State) : State :=
  if s.relayBusy then s
  else match s.dsp.requests with
    | [] => s
    | (k, reason) :: rest =>
      let s := { s with dsp := { s.dsp with requests := rest } }
      if reason = 4 then faultBegin k s
      else match relayTarget k s with
        | some (t, s) => (relayBegin k reason t s).raise Evt.FACET_RELAY_START [.code k, .code reason]
        | none =>
          (relayFail k reason (s.raise Evt.FACET_RELAY_START [.code k, .code reason])).raise Evt.SPARES_EXHAUSTED [.code k]

/-- The logical facet, old facet and target of the relay that runs. -/
def State.relayParts (s : State) : Nat × Nat × Nat :=
  (s.r Reg.DSP_RELAY_STATUS_LOGICAL, s.r Reg.DSP_RELAY_STATUS_FROM_PHYS, s.r Reg.DSP_RELAY_STATUS_TO_PHYS)

/-- The code copy of an orderly relay completes; mirrored writes and the data copy begin (R88). -/
def relayCodeLoaded (s : State) : State :=
  if s.r Reg.DSP_RELAY_STATUS_STATE = 1 && s.r Reg.DSP_RELAY_STATUS_REASON != 4 then
    match s.relayParts with
    | (k, _, t) => (s.modFacet t fun f => { f with code := nth s.dsp.graphs.code k [] }).w Reg.DSP_RELAY_STATUS_STATE 2
  else s

/-- The data copy completes; the target holds the old facet's data (R89). -/
def relayCopyDone (s : State) : State :=
  if s.r Reg.DSP_RELAY_STATUS_STATE = 2 then
    match s.relayParts with
    | (_, p, t) => (s.modFacet t fun f => { f with data := (s.facet p).data }).w Reg.DSP_RELAY_STATUS_STATE 3
  else s

/-- The logical index moves to the target, the old facet is fenced and the relay is counted (R88, R92). -/
def relayEnd (s : State) : State :=
  match s.relayParts with
  | (k, p, t) =>
    let reason := s.r Reg.DSP_RELAY_STATUS_REASON
    let s := { s with dsp := { s.dsp with map := setAt s.dsp.map k (some t) none } }
    let s := (s.fence p).w Reg.DSP_RELAY_STATUS_STATE 4
    let s := ((s.wb Reg.DSP_STATUS_RELAY_BUSY false).inc Reg.DSP_RELAY_COUNT_RELAYS).countSpares
    let s := s.when_ (reason == 4) fun s => s.inc Reg.DSP_RELAY_COUNT_FAULT_RELAYS
    (s.raise Evt.FACET_RELAY_DONE [.code k, .code p, .code t, .code reason]).facetSpareUsed

/-- The switch at the first cycle in which the old facet has both slots empty and no completion latched (R88). -/
def relaySwitch (s : State) : State :=
  match s.relayParts with
  | (_, p, _) =>
    let f := s.facet p
    if s.r Reg.DSP_RELAY_STATUS_STATE = 3 && f.running.isNone && f.pref.isNone && f.latch.isNone then relayEnd s else s

/-- A facet executes no instruction for 4,096 fc with its running slot occupied (R88). A facet that waits for the collector with its
completion latched executes nothing under R78 and is no such facet (log entry 124, DEDUCED). -/
def facetStall (p : Nat) (s : State) : State :=
  if (s.facet p).running.isSome && (s.facet p).latch.isNone then
    match s.logicalOf p with
    | some k => faultRelay k p s
    | none => s
  else s

/-- An uncorrectable error in a facet's code or data memory (R88). -/
def facetMemoryUncorr (p : Nat) (s : State) : State :=
  let s := s.inc (Reg.DSP_FCT_ECC_UNCORRECTED p)
  match s.logicalOf p with
  | some k => faultRelay k p s
  | none => s

/-- The load of a FAULT relay completes: the target takes code and initial data, the restart counter is decremented through the
order of port 13 (R92). -/
def faultRelayLoadDone (s : State) : State :=
  if s.r Reg.DSP_RELAY_STATUS_STATE = 1 && s.r Reg.DSP_RELAY_STATUS_REASON = 4 then
    match s.relayParts with
    | (k, _, t) =>
      let s := s.modFacet t fun f => { f with code := nth s.dsp.graphs.code k [], data := nth s.dsp.graphs.data k [] }
      relayEnd (s.loupePort (nth s.dsp.fab.restart k 0))
  else s

/-! ### The loupe's checks of the facets (R88) -/

/-- The result of a facet's self-test taken by the loupe, and its next self-test item begun (R65, R67). -/
def State.selfTest (s : State) (p : Nat) (tests : List Bool) : State :=
  s.modFacet p fun f => { f with testPass := nth tests p f.testPass, testing := f.latch.isNone || f.testing }

/-- A facet's timing margin and self-test result taken by the loupe, with the relay request it calls for. -/
def facetCheck (margins eccs : List Nat) (tests : List Bool) (s : State) (p : Nat) : State :=
  if s.fenced p then s
  else
    let m := satN 8 (nth margins p (s.r (Reg.DSP_FCT_MARGIN_MARGIN p)))
    let s := s.w (Reg.DSP_FCT_MARGIN_MARGIN p) m
    let s := if m < s.r (Reg.DSP_FCT_MARGIN_MIN p) then s.w (Reg.DSP_FCT_MARGIN_MIN p) m else s
    let c := satN 16 (s.r (Reg.DSP_FCT_ECC_CORRECTED p) + nth eccs p 0)
    let s := s.w (Reg.DSP_FCT_ECC_CORRECTED p) c
    match s.logicalOf p with
    | none => if s.idleSpare p then s.selfTest p tests else s
    | some k =>
      let s := if s.dsp.fab.allocCount ≤ k then s.selfTest p tests else s
      let s := s.when_ (decide (m < s.r Reg.DSP_RELAY_PARAM_MARGIN_WARN)) (relayRequest k 0)
      s.when_ (decide (s.r Reg.DSP_RELAY_PARAM_ERR_RELAY ≤ c) && decide (0 < c)) (relayRequest k 1)

/-- The 24 h error window of the facets begins anew when it has run out. -/
def eccWindow (s : State) : State :=
  if 86400000000 ≤ s.since s.dsp.eccStart then
    let s := s.clear ((List.range 112).map Reg.DSP_FCT_ECC_CORRECTED)
    { s with dsp := { s.dsp with eccStart := s.optime } }
  else s

/-- The 1 s check of margins, errors and self-tests (R88). -/
def facetMarginCheck (margins eccs : List Nat) (tests : List Bool) (s : State) : State :=
  (List.range 112).foldl (facetCheck margins eccs tests) (eccWindow (loupeRan 6 s))

/-! ### Meanings -/

/-- COMPLETION_COLLECT (R79). -/
def execCompletionCollect (s : State) : Res := (s.awake completionCollect).done
/-- COUNTER_APPLY (R70). -/
def execCounterApply (s : State) : Res := (s.awake counterApply).done
/-- READY_LIST_ENTRY (R71). -/
def execReadyListEntry (s : State) : Res := (s.awake readyListEntry).done
/-- DESCRIPTOR_PLACEMENT (R73). -/
def execDescriptorPlacement (s : State) : Res := (s.awake descriptorPlacement).done
/-- DELAY_INSERT (R74). -/
def execDelayInsert (inserts : List DelayInsert) (s : State) : Res := (s.awake (delayInsert inserts)).done
/-- DELAY_CANCEL (R75). -/
def execDelayCancel (logical : Nat) (position : Bool) (tag : Nat) (s : State) : Res := (s.awake (itemCancel logical position tag)).done
/-- TIME_LIST_EXPIRY (R76). -/
def execTimeListExpiry (s : State) : Res := (s.awake timeListExpiry).done
/-- PORT_DELIVERY (R80). -/
def execPortDelivery (port : Nat) (s : State) : Res := (s.awake (portDelivery (port % 16))).done
/-- DSP_DOORBELL (R81). -/
def execDspDoorbell (counter : Nat) (s : State) : Res := (s.served (dspDoorbell (counter % 4096))).done
/-- DSP_PEAK_CLEAR (R8). -/
def execDspPeakClear (value : Nat) (s : State) : Res := (s.served (dspPeakClear value)).done
/-- FACET_OVERRUN (R87). -/
def execFacetOverrun (facet : Nat) (writes : List (Nat × Byte)) (s : State) : Res := (s.awake (facetOverrun facet writes)).done
/-- DSP_RELAY_CTRL (R88). -/
def execDspRelayCtrl (logical confirm : Nat) (s : State) : Res := (s.served (dspRelayCtrl logical confirm)).done
/-- RELAY_START (R88). -/
def execRelayStart (s : State) : Res := (relayStart s).done
/-- RELAY_CODE_LOADED (R88). -/
def execRelayCodeLoaded (s : State) : Res := (relayCodeLoaded s).done
/-- RELAY_COPY_DONE (R89). -/
def execRelayCopyDone (s : State) : Res := (relayCopyDone s).done
/-- RELAY_SWITCH (R88). -/
def execRelaySwitch (s : State) : Res := (relaySwitch s).done
/-- FACET_STALL (R88). -/
def execFacetStall (facet : Nat) (s : State) : Res := (s.awake (facetStall facet)).done
/-- FACET_MEMORY_UNCORR (R88). -/
def execFacetMemoryUncorr (facet : Nat) (s : State) : Res := (facetMemoryUncorr facet s).done
/-- FAULT_RELAY_LOAD_DONE (R92). -/
def execFaultRelayLoadDone (s : State) : Res := (faultRelayLoadDone s).done
/-- FACET_MARGIN_CHECK (R88). -/
def execFacetMarginCheck (margins eccs : List Nat) (tests : List Bool) (s : State) : Res :=
  (facetMarginCheck margins eccs tests s).done

end Sys2Proof.Machine
end

