-- ==== Sys2Proof/Machine/Pos.lean ====
section
/-! DEFINITION. The position front ends and the position model (file 04): sin/cos and quadrature channels, reference marks, SSI
channels, the sample with its confidence, reference points, slip and the encoder emulators. -/

namespace Sys2Proof.Machine

/-- a / b rounded down where b is a value of the image that may be 0: then a free value (log entry 94). -/
def divImg (a b : Int) : Int := if b = 0 then Config.byZero a else divF a b

/-- a / b where spec/ gives no rounding: the quotient if it is exact, else one of its two neighbours (log entry 6); a free value
where b is 0 (log entry 94). -/
def divOpen (a b : Int) : Int :=
  if b = 0 then Config.byZero a
  else if a % b = 0 then a / b
  else divF a b + (if Config.roundUp (mag a) then 1 else 0)

/-- A bit of a register field set or cleared. -/
def State.setBitOf (s : State) (f : Field) (i : Nat) (b : Bool) : State := s.w f (setBit (s.r f) i b)

/-- A position event: raised, and reported to port 1 of the dispatcher (R135, Table 03-4). -/
def State.raisePos (s : State) (e : Evt) (args : List Arg) : State := (s.raise e args).post 1 e.src

/-! ### Causes and sources -/

namespace Cause
/-- START -/
def start : Nat := 0
/-- INDEX -/
def index : Nat := 1
/-- MISSING -/
def missing : Nat := 2
/-- ILLEGAL -/
def illegal : Nat := 3
/-- AMP -/
def amp : Nat := 4
/-- REF -/
def ref : Nat := 5
/-- SLIP_WARN -/
def slipWarn : Nat := 6
/-- SHAFT_ABSENT -/
def shaftAbsent : Nat := 7
end Cause

/-- A cause bit of PFE_STATUS set or cleared. -/
def State.cause (s : State) (i : Nat) (b : Bool) : State := s.setBitOf Reg.PFE_STATUS_CAUSE i b

/-- A sin/cos channel. -/
def State.scChan (s : State) (c : Nat) : ScChan := nth s.pos.sc c {}

/-- A sin/cos channel changed. -/
def State.modSc (s : State) (c : Nat) (f : ScChan → ScChan) : State :=
  { s with pos := { s.pos with sc := modAt s.pos.sc c f {} } }

/-- A quadrature channel beside its registers. -/
def State.qdChan (s : State) (q : Nat) : QdChan := nth s.pos.qd q {}

/-- A quadrature channel changed. -/
def State.modQd (s : State) (q : Nat) (f : QdChan → QdChan) : State :=
  { s with pos := { s.pos with qd := modAt s.pos.qd q f {} } }

/-- The sin/cos channel that is the machine source, if one is (R95). -/
def State.machSc (s : State) : Option Nat :=
  if s.r Reg.PFE_MODEL_CFG_MACH_SRC < 2 then some (s.r Reg.PFE_MODEL_CFG_MACH_SRC) else none

/-- The quadrature channel that is the machine source, if one is: QD5 is 4, QD6 is 5. -/
def State.machQd (s : State) : Option Nat :=
  if s.r Reg.PFE_MODEL_CFG_MACH_SRC < 2 then none else some (s.r Reg.PFE_MODEL_CFG_MACH_SRC + 2)

/-- Counts per revolution of a sin/cos channel (R95). -/
def State.cpr (s : State) (c : Nat) : Nat := s.r (Reg.PFE_SC_CFG_LINES c) * 4096

/-- Quadrature edges per revolution of QD5 or QD6: LINES of SC1 or SC2 (R95, log entry 14). -/
def State.qdCpr (s : State) (q : Nat) : Nat := s.r (Reg.PFE_SC_CFG_LINES (q - 4)) * 4

/-- A count in 48 bits, signed (R95). -/
def wrap48 (i : Int) : Int := toI 48 (ofI 48 i)

/-- The count of a quadrature channel (R112). -/
def State.qdCount (s : State) (q : Nat) : Int := (s.qdChan q).count

/-- The count of a quadrature channel replaced, with what PFE_QD_COUNT shows of it. -/
def State.setQdCount (s : State) (q : Nat) (c : Int) : State :=
  (s.modQd q fun x => { x with count := wrap48 c }).wi (Reg.PFE_QD_COUNT q) (wrap48 c)

/-- MC, the machine count (R95), its sense inverted by DIR_INV (R120), with the quadrature counts given. -/
def State.mcWith (s : State) (qd : Nat → Int) : Int :=
  let m := match s.machSc with
    | some c => (s.scChan c).count
    | none => qd ((s.machQd).getD 4)
  if s.rb Reg.PFE_MODEL_CFG_DIR_INV then -m else m

/-- MC as it stands now. -/
def State.mc (s : State) : Int := s.mcWith s.qdCount

/-- Pm = ⌊MC × NUM / DEN⌋ (R120). -/
def State.pmOf (s : State) (mc : Int) : Int := divF (mc * (s.r Reg.PFE_SCALE_NUM : Int)) (s.r Reg.PFE_SCALE_DEN : Int)

/-- Pm as it stands now. -/
def State.pmNow (s : State) : Int := s.pmOf s.mc

/-- MACH_OK: the machine source is enabled, referenced and without a latched fault (R128). -/
def State.machOk (s : State) : Bool :=
  (match s.machSc with
    | some c => s.rb (Reg.PFE_SC_CFG_ENABLE c)
    | none => s.rb (Reg.PFE_QD_CFG_ENABLE ((s.machQd).getD 4))) &&
  s.pos.referenced && !s.rb Reg.PFE_STATUS_INDEX_LOST && !s.rb Reg.PFE_STATUS_SLIP && !s.rb Reg.PFE_STATUS_MACH_LOST

/-- SHAFT_OK: SSI1 is enabled, has given an accepted frame and is not lost (R128). -/
def State.shaftOk (s : State) : Bool :=
  s.rb Reg.PFE_MODEL_CFG_SSI1_EN && s.pos.ssiSeen && !s.rb (Reg.PFE_SSI_STATUS_LOST 0)

/-! ### Encoder emulation (R131 to R134) -/

/-- An emulator changed. -/
def State.modEmu (s : State) (i : Nat) (f : EmuState → EmuState) : State :=
  { s with pos := { s.pos with emu := modAt s.pos.emu i f {} } }

/-- A change of the source count turned into pending output edges (R131, R132). -/
def emuFeed (i : Nat) (delta : Int) (s : State) : State :=
  let e := nth s.pos.emu i {}
  let den : Int := (s.r (Reg.PFE_EMU_DEN i) : Int)
  let acc := e.acc + delta * (s.r (Reg.PFE_EMU_NUM i) : Int)
  let n := divF acc den
  let want := e.pending + n
  let pend := clampI (-1048576) 1048576 want
  let s := s.modEmu i fun e => { e with acc := acc - n * den, pending := pend, discarded := e.discarded + mag (want - pend) }
  let s := s.peak (Reg.PFE_EMU_STATUS_MAX_BACKLOG i) (mag pend)
  let s := if mag e.pending ≤ 64 && decide (64 < mag pend) then s.raisePos Evt.EMU_BACKLOG [.code i] else s
  if want != pend then (s.wb (Reg.PFE_EMU_STATUS_OVERFLOW i) true).raisePos Evt.EMU_OVERFLOW [.code i] else s

/-- An emulator follows its quadrature source edge for edge: NUM = DEN = 1 (R133). -/
def State.emuFollows (s : State) (i : Nat) : Bool :=
  2 ≤ s.r (Reg.PFE_EMU_CFG_SOURCE i) && s.r (Reg.PFE_EMU_NUM i) == 1 && s.r (Reg.PFE_EMU_DEN i) == 1

/-- The change of a source reaches every enabled emulator that follows it (R131). -/
def emuSource (source : Nat) (delta : Int) (s : State) : State :=
  (List.range 2).foldl (fun s i =>
    if s.rb (Reg.PFE_EMU_CFG_ENABLE i) && s.r (Reg.PFE_EMU_CFG_SOURCE i) == source && delta != 0 then emuFeed i delta s else s) s

/-- Filtered edges of a quadrature source: the emulators that follow it edge for edge take the step of the input state itself,
which the counting sense does not turn (R133), the others the step of the count, if it has moved (R131). -/
def emuQuad (q : Nat) (turn count : Int) (s : State) : State :=
  (List.range 2).foldl (fun s i =>
    let delta := if s.emuFollows i then turn else count
    if s.rb (Reg.PFE_EMU_CFG_ENABLE i) && s.r (Reg.PFE_EMU_CFG_SOURCE i) == q + 2 && delta != 0 then emuFeed i delta s else s) s

/-- Z of an emulator's source: the filtered Z of a quadrature channel, or the mark input of a sin/cos channel (R134). -/
def State.sourceZ (s : State) (source : Nat) : Bool :=
  if source < 2 then (s.scChan source).markIn else bitAt (s.r (Reg.PFE_QD_STATUS_LEVELS (source - 2))) 2

/-- Output levels A, B and Z of an emulator: A in bit 0, B in bit 1, Z in bit 2 (R134). -/
def emuLevels (s : State) (i phase : Nat) (edges : Int) : Nat :=
  let a := phase == 1 || phase == 2
  let b := phase == 2 || phase == 3
  let zper : Int := (s.r (Reg.PFE_EMU_CFG_Z_PERIOD i) : Int)
  let mode := s.r (Reg.PFE_EMU_CFG_Z_MODE i)
  let z := if mode = 1 then s.sourceZ (s.r (Reg.PFE_EMU_CFG_SOURCE i))
    else if mode = 2 then phase == 2 && decide (zper ≠ 0) && (edges / 4) % zper == 0
    else false
  if s.rb (Reg.PFE_EMU_CFG_SWAP i) then b2n b + 2 * b2n a + 4 * b2n z else b2n a + 2 * b2n b + 4 * b2n z

/-- The enabled emulators that copy Z of a source show its present level (R134). -/
def emuCopyZ (source : Nat) (s : State) : State :=
  (List.range 2).foldl (fun s i =>
    if s.rb (Reg.PFE_EMU_CFG_ENABLE i) && s.r (Reg.PFE_EMU_CFG_SOURCE i) == source && s.r (Reg.PFE_EMU_CFG_Z_MODE i) == 1 then
      let e := nth s.pos.emu i {}
      s.modEmu i fun e' => { e' with out := emuLevels s i e.phase e.edges }
    else s) s

/-- A pending output edge is emitted (R132). -/
def emulatorEdge (i : Nat) (s : State) : State :=
  let e := nth s.pos.emu i {}
  if !s.rb (Reg.PFE_EMU_CFG_ENABLE i) || e.pending = 0 then s
  else
    let d := sgn e.pending
    let phase := ((e.phase : Int) + d).toNat % 4
    let phase := if e.phase = 0 && d = -1 then 3 else phase
    let edges := e.edges + d
    s.modEmu i fun e => { e with
      pending := e.pending - d, phase := phase, edges := edges, out := emuLevels s i phase edges, lastEdge := some s.optime }

/-! ### Sin/cos channels (R99 to R105) -/

/-- The quadrant of a pair of tracks, 0 to 3. -/
def quadrant (sn cs : Int) : Nat :=
  if 0 ≤ sn && 0 < cs then 0 else if cs ≤ 0 && 0 < sn then 1 else if sn ≤ 0 && cs < 0 then 2
  else if 0 ≤ cs && sn < 0 then 3 else 0

/-- The loupe's corrections applied to the tracks (R101, R105). -/
def corrected (s : State) (c : Nat) (x : ScSample) : Int × Int :=
  let sn := x.sin - s.ri (Reg.PFE_SC_CAL_OFS_SIN_OFS c)
  let cs := x.cos - s.ri (Reg.PFE_SC_CAL_OFS_COS_OFS c)
  let gain := s.r (Reg.PFE_SC_CAL_GP_GAIN c)
  let phase := s.ri (Reg.PFE_SC_CAL_GP_PHASE c)
  if gain = 0x8000 && phase = 0 then (sn, cs) else Config.correctTracks (gain : Int) phase sn cs

/-- Angles of 2^i / 4,096 line, i = 9 to 0: the 1/4,096 lines, and cosine and sine × 2^60. -/
def angleSteps : List (Nat × Int × Int) :=
  [(512, 815238614083298888, 815238614083298888),
   (256, 1065160580698383124, 441203958630471860),
   (128, 1130768441178740757, 224923827593068887),
   (64, 1147369872436662991, 113006068906017470),
   (32, 1151532760162549490, 56571176913125535),
   (16, 1152574266204915294, 28294110113536504),
   (8, 1152834691737939372, 14148120384212745),
   (4, 1152899801185339687, 7074193361797233),
   (2, 1152916078738702569, 3537113327227485),
   (1, 1152920148139012899, 1768558744408523)]

/-- The tracks turned into the first quadrant: along and across its first axis. -/
def firstQuadrant (sn cs : Int) : Int × Int :=
  match quadrant sn cs with
  | 0 => (cs, sn)
  | 1 => (sn, -cs)
  | 2 => (-cs, -sn)
  | _ => (-sn, cs)

/-- The whole 1/4,096 lines of the angle of a vector of the first quadrant: the steps, large ones first, that do not pass it. The
accumulator holds the angle reached and its cosine and sine × 2^60. -/
def fineAngle (x y : Int) : Nat :=
  (angleSteps.foldl (fun (acc : Nat × Int × Int) t =>
    let c := (acc.2.1 * t.2.1 - acc.2.2 * t.2.2) / ((2 ^ 60 : Nat) : Int)
    let d := (acc.2.2 * t.2.1 + acc.2.1 * t.2.2) / ((2 ^ 60 : Nat) : Int)
    if d * x ≤ c * y then (acc.1 + t.1, c, d) else acc) (0, ((2 ^ 60 : Nat) : Int), 0)).1

/-- θ in 1/4,096 line, 0 to 4,095: the angle of the corrected tracks, exact where it is a whole number, else one of its two
neighbours (R101, log entry 6). -/
def theta (sn cs : Int) : Nat :=
  let v := firstQuadrant sn cs
  let m := 1024 * quadrant sn cs + fineAngle v.1 v.2
  if v.2 = 0 ∨ v.1 = v.2 then m % 4096 else (m + b2n (Config.roundUp (mag v.1 * 2 ^ 18 + mag v.2))) % 4096

/-- The square of the radius: sin² + cos², ADC LSB² (R101). One LSB is 1/32.768 mV (R99). -/
def radius2 (sn cs : Int) : Nat := mag sn * mag sn + mag cs * mag cs

/-- The radius lies below a limit in mV. -/
def radiusBelow (r2 mv : Nat) : Bool := decide (r2 * 1000000 < mv * mv * 2 ^ 30)

/-- The radius lies above a limit in mV. -/
def radiusAbove (r2 mv : Nat) : Bool := decide (mv * mv * 2 ^ 30 < r2 * 1000000)

/-- RADIUS in mV: exact, or one of its two neighbours (log entry 6). -/
def radiusMv (r2 : Nat) : Nat :=
  let x := isqrt (r2 * 1000000 / 2 ^ 30)
  if x * x * 2 ^ 30 = r2 * 1000000 then x else x + b2n (Config.roundUp r2)

/-- k of R101, -2 to 1. -/
def quarterStep (th : Nat) (q : Int) : Int := (((th / 1024 : Nat) : Int) - q % 4 + 2) % 4 - 2

/-- The candidate count (R101). -/
def candidate (th : Nat) (q : Int) : Int := 1024 * (q + quarterStep th q) + ((th % 1024 : Nat) : Int)

/-- The kind of illegal transition of a sample, if it is one (R102). -/
def illegalKind (s : State) (c : Nat) (both : Bool) (th r2 : Nat) : Option Nat :=
  let ch := s.scChan c
  if both then some 0
  else if quarterStep th ch.q = -2 then some 2
  else if !ch.resync && decide (1024 < mag (candidate th ch.q + ch.adj - ch.count - 1024 * (ch.q - ch.lastQ))) then some 1
  else if radiusBelow r2 (s.r (Reg.PFE_SC_AMP_CFG_AMP_LOSS c)) then some 3
  else none

/-- One step of a correction toward its target: by at most max, held within its range; whether the range limit was reached. -/
def calStep (cur target step lo hi : Int) : Int × Bool :=
  let v := cur + clampI (-step) step (target - cur)
  (clampI lo hi v, decide (v ≠ clampI lo hi v) || (decide (v ≠ cur) && (decide (v = lo) || decide (v = hi))))

/-- The fitted corrections applied at a line boundary (R105). The limit of 0.1 % of the gain ratio is a step of 32 in units of 1 / 32,768,
whatever the present ratio (log entry 125, DESIGN CHOICE). -/
def calApply (c : Nat) (s : State) : State :=
  match (s.scChan c).fit with
  | none => s
  | some f =>
    let a := calStep (s.ri (Reg.PFE_SC_CAL_OFS_SIN_OFS c)) f.sinOfs 8 (-2048) 2048
    let b := calStep (s.ri (Reg.PFE_SC_CAL_OFS_COS_OFS c)) f.cosOfs 8 (-2048) 2048
    let g := calStep (s.r (Reg.PFE_SC_CAL_GP_GAIN c) : Int) f.gain 32 26215 40960
    let p := calStep (s.ri (Reg.PFE_SC_CAL_GP_PHASE c)) f.phase 50 (-10000) 10000
    let s := (s.wi (Reg.PFE_SC_CAL_OFS_SIN_OFS c) a.1).wi (Reg.PFE_SC_CAL_OFS_COS_OFS c) b.1
    let s := (s.wi (Reg.PFE_SC_CAL_GP_GAIN c) g.1).wi (Reg.PFE_SC_CAL_GP_PHASE c) p.1
    let s := s.when_ (a.2 || b.2) fun s => s.raisePos Evt.CAL_LIMIT [.code c, .code 0]
    let s := s.when_ g.2 fun s => s.raisePos Evt.CAL_LIMIT [.code c, .code 1]
    s.when_ p.2 fun s => s.raisePos Evt.CAL_LIMIT [.code c, .code 2]

/-- The radius judged against AMP_MIN and AMP_MAX (R104). -/
def ampJudge (c r2 : Nat) (s : State) : State :=
  let ch := s.scChan c
  let out := radiusBelow r2 (s.r (Reg.PFE_SC_AMP_CFG_AMP_MIN c)) || radiusAbove r2 (s.r (Reg.PFE_SC_AMP_CFG_AMP_MAX c))
  let bad := if out then satN 16 (ch.ampBad + 1) else 0
  let good := if out then 0 else satN 16 (ch.ampGood + 1)
  let was := s.rb (Reg.PFE_SC_STATUS_AMP_OUT c)
  let s := s.modSc c fun ch => { ch with ampBad := bad, ampGood := good }
  let s := if out && bad = 64 then
      (s.wb (Reg.PFE_SC_STATUS_AMP_OUT c) true).raisePos Evt.SINCOS_AMP [.code c, .qty (radiusMv r2)]
    else if was && decide (1000 ≤ good) then s.wb (Reg.PFE_SC_STATUS_AMP_OUT c) false
    else s
  let amp := s.rb (Reg.PFE_SC_STATUS_AMP_OUT c)
  s.modSc c fun ch => { ch with sinceAmp := if amp then 0 else satN 16 (ch.sinceAmp + 1) }

/-- The place of the comparators in the quadrature cycle of the tracks. -/
def coarsePlace (sin cos : Bool) : Nat := if sin then (if cos then 0 else 1) else if cos then 3 else 2

/-- A coarse edge steps Q; the flag says that both comparators changed in it (R99, R102). -/
def coarseEdge (acc : ScChan × Bool) (e : CoarseEdge) : ScChan × Bool :=
  let now := coarsePlace e.sin e.cos
  match acc.1.place with
  | none => ({ acc.1 with place := some now, q := now }, acc.2)
  | some was =>
    let d := (now + 4 - was) % 4
    ({ acc.1 with place := some now, q := wrap48 (acc.1.q + (if d = 1 then 1 else if d = 3 then -1 else 0)) }, acc.2 || d == 2)

/-- The coarse edges of a sample: Q and the flag of R102. Q starts in the quarter line in which the comparators, or else the
tracks, are found (log entry 108). -/
def ScChan.coarse (ch : ScChan) (x : ScSample) : ScChan × Bool :=
  let r := x.edges.foldl coarseEdge (ch, false)
  match r.1.place with
  | some _ => r
  | none => ({ r.1 with place := some (quadrant x.sin x.cos), q := quadrant x.sin x.cos }, r.2)

/-- Coarse edges less than 500 ns apart (R99). -/
def lineRate (c : Nat) (x : ScSample) (s : State) : State :=
  s.when_ (x.edges.any fun e => decide (e.since < 500)) fun s =>
    (s.wb (Reg.PFE_SC_STATUS_LINE_RATE c) true).raisePos Evt.LINE_RATE [.code c]

/-- The loupe's fit of a revolution's samples, taken at the sample that completes the revolution (R105). -/
def fitRevolution (c : Nat) (x : ScSample) (s : State) : State :=
  let ch := s.scChan c
  if 4 * s.r (Reg.PFE_SC_CFG_LINES c) ≤ mag (ch.q - ch.fitQ) then
    s.modSc c fun ch => { ch with fitQ := ch.q, fit := match x.fit with | some f => some f | none => ch.fit }
  else s

/-- An illegal transition (R102). -/
def illegalSample (c kind : Nat) (s : State) : State :=
  let s := s.modSc c fun ch => { ch with
    illegalQ := (ch.q :: ch.illegalQ).take 3, sinceIllegal := 0, illegalAt := some ch.count }
  ((s.wb (Reg.PFE_SC_STATUS_ILLEGAL c) true).w (Reg.PFE_SC_STATUS_ILL_KIND c) kind).raisePos Evt.SINCOS_ILLEGAL
    [.code c, .code kind]

/-- An accepted sample: the channel count, and what the emulators gain (R101, R131). -/
def acceptSample (c : Nat) (cand : Int) (s : State) : State :=
  let ch := s.scChan c
  let adj := if ch.resync then ch.count - cand else ch.adj
  let new := wrap48 (cand + adj)
  let s := s.modSc c fun ch => { ch with
    count := new, adj := adj, resync := false, lastQ := ch.q
    illegalAt := match ch.illegalAt with
      | some a => if (s.cpr c : Int) ≤ mag (wrap48 (new - a)) then none else some a
      | none => none }
  emuSource c (wrap48 (new - ch.count)) s

/-- A legal sample: counted, and accepted unless the channel is lost (R103, R129). -/
def legalSample (c : Nat) (cand : Int) (s : State) : State :=
  let s := s.modSc c fun ch => { ch with sinceIllegal := satN 16 (ch.sinceIllegal + 1) }
  if s.rb (Reg.PFE_SC_STATUS_LOST c) then s else acceptSample c cand s

/-- Fabric cycles between two ticks (R86). -/
def State.fcPerTick (s : State) : Nat :=
  if s.r Reg.PWR_STATUS_STEP = 1 then 200 else if s.r Reg.PWR_STATUS_STEP = 2 then 100 else 400

/-- A mark edge between the sample before, with its count, and the present one (R108). -/
def markEdge (before : Int) (of_ : Nat) (ch : ScChan) (e : MarkEdge) : ScChan :=
  let at_ : MarkAt := ⟨before, ch.count, e.at_, of_⟩
  if e.level then { ch with markIn := true, pulse := some (at_, false) }
  else { ch with
    markIn := false, pulse := none
    mark := match ch.pulse with
      | some p => some ⟨p.1, at_, p.2⟩
      | none => ch.mark }

/-- The mark edges of a sample; an illegal sample within a pulse marks the pulse (R108). -/
def markEdges (c : Nat) (before : Int) (illegal : Bool) (x : ScSample) (s : State) : State :=
  let s := s.modSc c fun ch =>
    let ch := x.marks.foldl (markEdge before s.fcPerTick) ch
    { ch with pulse := ch.pulse.map fun p => (p.1, p.2 || illegal) }
  if x.marks.isEmpty then s else emuCopyZ c s

/-- Cause INDEX and cause MISSING of PFE_STATUS: set while a channel has set them and not cleared them (R109, R110, log entry
109). -/
def markCauses (s : State) : State :=
  (s.cause Cause.index (s.pos.sc.any (fun x => x.causeIndex) || s.pos.qd.any fun x => x.causeIndex)).cause Cause.missing (s.pos.sc.any fun x => x.causeMissing)

/-- Travel without a mark (R110). -/
def missingMark (c : Nat) (s : State) : State :=
  let ch := s.scChan c
  let d := mag (wrap48 (ch.count - ch.lastMark))
  if s.rb (Reg.PFE_SC_CFG_MARK_EN c) && decide (s.cpr c * (5 + 4 * ch.missed) < 4 * d) then
    let s := s.modSc c fun ch => { ch with missed := ch.missed + 1 }
    let s := (s.inc (Reg.PFE_SC_INDEX_MISSING c)).raisePos Evt.INDEX_MISSING [.code c]
    markCauses (s.modSc c fun ch => { ch with causeMissing := true })
  else s

/-- One channel's share of a sample's delivery (R99 to R105, R110). -/
def scDeliver (s : State) (c : Nat) (x : ScSample) : State :=
  if !s.rb (Reg.PFE_SC_CFG_ENABLE c) then s
  else
    let before := (s.scChan c).count
    let r := (s.scChan c).coarse x
    let s := fitRevolution c x (lineRate c x (s.modSc c fun _ => r.1))
    let t := corrected s c x
    let th := theta t.1 t.2
    let r2 := radius2 t.1 t.2
    let old := (s.scChan c).theta
    let s := (s.w (Reg.PFE_SC_STATUS_RADIUS c) (satN 10 (radiusMv r2))).modSc c fun ch => { ch with theta := th }
    let s := ampJudge c r2 s
    let kind := illegalKind s c r.2 th r2
    let s := match kind with
      | some kind => illegalSample c kind s
      | none => legalSample c (candidate th r.1.q) s
    let s := markEdges c before kind.isSome x s
    let s := if 2048 < mag ((th : Int) - (old : Int)) then calApply c s else s
    missingMark c s

/-- Three illegal transitions within one revolution latch SINCOS_LOST (R103, R113): 0 SC1, 1 SC2, 4 QD5, 5 QD6. -/
def sincosLost (ch : Nat) (s : State) : State :=
  let span (l : List Int) (rev : Nat) : Bool :=
    l.length == 3 && decide (mag (nth l 0 0 - nth l 2 0) < rev) && decide (mag (nth l 0 0 - nth l 1 0) < rev)
  if ch < 2 then
    if span (s.scChan ch).illegalQ (4 * s.r (Reg.PFE_SC_CFG_LINES ch)) && !s.rb (Reg.PFE_SC_STATUS_LOST ch) then
      let s' := s.wb (Reg.PFE_SC_STATUS_LOST ch) true
      if s.machSc == some ch then (s'.wb Reg.PFE_STATUS_MACH_LOST true).raisePos Evt.SINCOS_LOST.asFault [.code ch]
      else s'.raisePos Evt.SINCOS_LOST [.code ch]
    else s
  else if s.machQd == some ch && span (s.qdChan ch).illegalAt (s.qdCpr ch) && !(s.qdChan ch).lost then
    ((s.modQd ch fun q => { q with lost := true }).wb Reg.PFE_STATUS_MACH_LOST true).raisePos Evt.SINCOS_LOST.asFault [.code ch]
  else s

/-! ### Reference marks (R108 to R111) -/

/-- The mark count: the mean of the two interpolated edge counts, rounded toward zero (R108). -/
def MarkPulse.count (m : MarkPulse) : Int :=
  let x := m.entering
  let y := m.leaving
  let n1 : Int := (max x.of_ 1 : Nat)
  let n2 : Int := (max y.of_ 1 : Nat)
  let e1 := x.before * n1 + (x.after - x.before) * (x.at_ : Int)
  let e2 := y.before * n2 + (y.after - y.before) * (y.at_ : Int)
  divZ (e1 * n2 + e2 * n1) (2 * n1 * n2)

/-- A difference wrapped into -CPR/2 to CPR/2 - 1 (R109). -/
def wrapHalf (d : Int) (cpr : Nat) : Int :=
  if cpr = 0 then 0 else (d + ((cpr / 2 : Nat) : Int)) % (cpr : Int) - ((cpr / 2 : Nat) : Int)

/-- c mod CPR. -/
def modCpr (c : Int) (cpr : Nat) : Nat := if cpr = 0 then 0 else (c % (cpr : Int)).toNat

/-- A mark commits the reference count or is judged against it; an accepted deviation enters the recorder (R109, Table 13-4). -/
def onMark (ch : Nat) (c : Int) (s : State) : State :=
  let cpr := s.cpr ch
  let s := if !s.rb (Reg.PFE_SC_INDEX_COMMITTED ch) then
      let s := ((s.w (Reg.PFE_SC_REF_COUNT ch) (modCpr c cpr)).wb (Reg.PFE_SC_INDEX_COMMITTED ch) true).w
        (Reg.PFE_SC_INDEX_CONSEC ch) 0
      s.modSc ch fun x => { x with good := 1 }
    else
      let d := wrapHalf (((modCpr c cpr : Nat) : Int) - (s.r (Reg.PFE_SC_REF_COUNT ch) : Int)) cpr
      let s := s.wi (Reg.PFE_SC_INDEX_LAST_D ch) (clampI (-32767) 32767 d)
      if mag d ≤ s.r (Reg.PFE_SC_INDEX_CFG_INDEX_TOL ch) then
        let good := satN 8 ((s.scChan ch).good + 1)
        let s := ((recIndexDev ch d s).w (Reg.PFE_SC_INDEX_CONSEC ch) 0).modSc ch fun x => { x with good := good }
        if s.r (Reg.PFE_SC_INDEX_CFG_INDEX_GOOD ch) ≤ good then s.modSc ch fun x => { x with causeIndex := false } else s
      else
        let s := s.raisePos Evt.INDEX_DEV [.code ch, .signed d]
        (s.modSc ch fun x => { x with good := 0, causeIndex := true }).inc (Reg.PFE_SC_INDEX_CONSEC ch)
  markCauses (s.modSc ch fun x => { x with lastMark := c, missed := 0, causeMissing := false })

/-- Whether a mark pulse of a channel is taken (R103, R108). -/
def markTaken (ch : Nat) (illegal : Bool) (s : State) : Bool :=
  s.rb (Reg.PFE_SC_CFG_ENABLE ch) && s.rb (Reg.PFE_SC_CFG_MARK_EN ch) && !illegal && !s.rb (Reg.PFE_SC_STATUS_LOST ch)

/-- A third consecutive out-of-tolerance mark latches INDEX_LOST (R109, R111). -/
def indexLost (ch : Nat) (s : State) : State :=
  if s.r (Reg.PFE_SC_INDEX_CONSEC ch) = 3 && !(s.scChan ch).indexLost then
    let s := s.modSc ch fun x => { x with indexLost := true }
    if s.machSc == some ch then (s.wb Reg.PFE_STATUS_INDEX_LOST true).raisePos Evt.INDEX_LOST.asFault [.code ch]
    else s.raisePos Evt.INDEX_LOST [.code ch]
  else s

/-- The check of the calibrated converter of a track, every 10 s (R106). -/
def adcCalSwap (ch track : Nat) (diffs : List Int) (s : State) : State :=
  let i := 2 * (ch % 2) + track % 2
  if s.since (nth s.pos.calAt i 0) < 10000000 then s
  else
    let s := loupeRan 5 { s with pos := { s.pos with calAt := setAt s.pos.calAt i s.optime 0 } }
    if diffs.length = 16 && diffs.all fun d => decide (mag d ≤ 32) then
      s.modSc (ch % 2) fun x => { x with conv := modAt x.conv (track % 2) (fun k => 1 - k) 0 }
    else s.raisePos Evt.ADC_CAL_FAIL [.code (ch % 2), .code (track % 2)]

/-! ### Quadrature channels (R112 to R115) -/

/-- The place of levels A and B in the quadrature cycle, A leading when counting up (log entry 16). -/
def quadPlace (a b : Bool) : Nat := if a then (if b then 2 else 1) else if b then 3 else 0

/-- A filtered edge of a quadrature channel (R112, R113). -/
def quadEdge (q : Nat) (a b z : Bool) (s : State) : State :=
  if !s.rb (Reg.PFE_QD_CFG_ENABLE q) then s
  else
    let lv := s.r (Reg.PFE_QD_STATUS_LEVELS q)
    let was := quadPlace (bitAt lv 0) (bitAt lv 1)
    let now := quadPlace a b
    let s := s.w (Reg.PFE_QD_STATUS_LEVELS q) (b2n a + 2 * b2n b + 4 * b2n z)
    let d := (now + 4 - was) % 4
    let s := emuCopyZ (q + 2) s
    if d = 2 then
      let s := emuQuad q (if (s.qdChan q).lost then 0 else 2) 0 (s.modQd q fun x => { x with
        illegalAt := (x.count :: x.illegalAt).take 3, sinceIllegal := 0 })
      ((s.wb (Reg.PFE_QD_STATUS_ILLEGAL q) true).inc (Reg.PFE_QD_STATUS_ILL_COUNT q)).raisePos Evt.QUAD_ILLEGAL [.code q]
    else if d = 0 || (s.qdChan q).lost then s
    else
      let turn : Int := if d = 1 then 1 else -1
      let step := if s.rb (Reg.PFE_QD_CFG_INVERT q) then -turn else turn
      emuQuad q turn step (s.setQdCount q (s.qdCount q + step))

/-- The emulators that follow their source edge for edge start in its present state (R133). -/
def alignEmus (s : State) : State :=
  (List.range 2).foldl (fun s i =>
    if s.emuFollows i then
      let lv := s.r (Reg.PFE_QD_STATUS_LEVELS (s.r (Reg.PFE_EMU_CFG_SOURCE i) - 2))
      let phase := quadPlace (bitAt lv 0) (bitAt lv 1)
      s.modEmu i fun e => { e with phase := phase, out := if s.rb (Reg.PFE_EMU_CFG_ENABLE i) then emuLevels s i phase e.edges else 0 }
    else s) s

/-- The door position of a channel from a count, µm (R115). -/
def qdPosition (s : State) (q : Nat) (count : Int) : Int :=
  divOpen (count * (s.r (Reg.PFE_QD_SCALE q) : Int)) 1000 + (s.qdChan q).offset

/-- The present door position of a channel; 0 on a channel that is not DOOR. -/
def qdPos (s : State) (q : Nat) : Int :=
  if s.rb (Reg.PFE_QD_CFG_DOOR q) then qdPosition s q (s.qdCount q) else 0

/-- A filtered edge of a door channel's closed-limit input: the position there is 0 µm (R115). -/
def doorReference (q : Nat) (s : State) : State :=
  if !s.rb (Reg.PFE_QD_CFG_DOOR q) then s
  else
    let c := s.qdCount q
    let s' := s.modQd q fun x => { x with offset := -(divOpen (c * (s.r (Reg.PFE_QD_SCALE q) : Int)) 1000) }
    if s.rb (Reg.PFE_QD_STATUS_HOMED q) then s'
    else (s'.wb (Reg.PFE_QD_STATUS_HOMED q) true).raisePos Evt.DOOR_HOMED [.code q]

/-! ### History (R122) -/

/-- The history entry whose time is nearest to an instant, of two equally near the newer one (log entry 125, DESIGN CHOICE); none if the
instant is older than the history (R122). -/
def histAt (s : State) (t : Time) : Option HistEntry :=
  match s.pos.hist.getLast? with
  | none => none
  | some oldest =>
    if (t - oldest.time).toInt < 0 then none
    else s.pos.hist.foldl (fun acc e => match acc with
      | none => some e
      | some b => if mag (e.time - t).toInt < mag (b.time - t).toInt then some e else some b) none

/-! ### SSI channels (R116 to R118) -/

/-- An SSI channel. -/
def State.ssiChan (s : State) (c : Nat) : SsiChan := nth s.pos.ssi c {}

/-- An SSI channel changed. -/
def State.modSsi (s : State) (c : Nat) (f : SsiChan → SsiChan) : State :=
  { s with pos := { s.pos with ssi := modAt s.pos.ssi c f {} } }

/-- The format of an SSI frame and its scale (R116, R117). -/
structure SsiFormat where
  /-- DATA_FIRST -/
  first : Nat
  /-- data bits -/
  nbits : Nat
  /-- GRAY -/
  gray : Bool
  /-- ERR_POS -/
  errPos : Nat
  /-- ERR_ACTIVE -/
  errActive : Bool
  /-- PAR_POS -/
  parPos : Nat
  /-- PAR_ODD -/
  parOdd : Bool
  /-- NM_PER_LSB -/
  nm : Nat
  /-- OFFSET, µm -/
  offset : Int
  deriving DecidableEq, Repr

/-- The format of a front-end SSI channel. -/
def State.ssiFormat (s : State) (c : Nat) : SsiFormat :=
  { first := s.r (Reg.PFE_SSI_FMT_DATA_FIRST c), nbits := s.r (Reg.PFE_SSI_FMT_DATA_BITS c) + 1,
    gray := s.rb (Reg.PFE_SSI_FMT_GRAY c), errPos := s.r (Reg.PFE_SSI_FMT_ERR_POS c),
    errActive := s.rb (Reg.PFE_SSI_FMT_ERR_ACTIVE c), parPos := s.r (Reg.PFE_SSI_FMT_PAR_POS c),
    parOdd := s.rb (Reg.PFE_SSI_FMT_PAR_ODD c), nm := s.r (Reg.PFE_SSI_SCALE c), offset := s.ri (Reg.PFE_SSI_OFFSET c) }

/-- The data field of a frame, most significant bit first, before Gray conversion. -/
def ssiField (f : SsiFormat) (bits : List Bool) : List Bool :=
  (List.range f.nbits).map fun i => nth bits (f.first + i - 1) false

/-- Gray code to binary, most significant bit first. -/
def grayBits : Bool → List Bool → List Bool
  | _, [] => []
  | p, b :: rest => (p != b) :: grayBits (p != b) rest

/-- The value of a data field (R117). -/
def ssiValue (f : SsiFormat) (bits : List Bool) : Nat :=
  let l := ssiField f bits
  ofBits (if f.gray then grayBits false l else l).reverse

/-- P_shaft of a frame, rounded toward zero (R117). -/
def ssiPosition (f : SsiFormat) (bits : List Bool) : Int :=
  divZ (f.offset * 1000 + ((ssiValue f bits * f.nm : Nat) : Int)) 1000

/-- The reason for which a frame is rejected before the jump check, 0 if none (R118). -/
def ssiFrameError (f : SsiFormat) (bits : List Bool) (idleLow : Bool) : Nat :=
  let ones := (ssiField f bits).countP id
  if idleLow then 1
  else if f.errPos != 0 && nth bits (f.errPos - 1) false == f.errActive then 2
  else if f.parPos != 0 && (ones + b2n (nth bits (f.parPos - 1) false)) % 2 != b2n f.parOdd then 3
  else 0

/-- The shaft speed v_ssi from the last accepted frames (R118). -/
def ssiSpeed (l : List (Int × Time)) : Int :=
  match l, l.getLast? with
  | (p, t) :: _ :: _, some (p0, t0) => divOpen ((p - p0) * 1000000) ((t - t0).toNat : Int)
  | _, _ => 0

/-- The jump check of a frame against the prediction (R118). -/
def ssiJump (l : List (Int × Time)) (p : Int) (t : Time) (limit : Nat) : Bool :=
  match l with
  | [] => false
  | (pa, ta) :: _ => decide (limit * 1000000 < mag ((p - pa) * 1000000 - ssiSpeed l * ((t - ta).toNat : Int)))

/-- A rejected frame (R118). -/
def ssiReject (c reason : Nat) (s : State) : State :=
  let s := (s.w (Reg.PFE_SSI_STATUS_LAST_ERR c) reason).inc (Reg.PFE_SSI_STATUS_CONSEC_BAD c)
  let s := (s.inc (Reg.PFE_SSI_STATUS_BAD_COUNT c)).modSsi c fun x => { x with goodRun := 0 }
  s.raisePos Evt.SSI_ERR [.code c, .code reason]

/-- An accepted frame enters the channel (R118). -/
def ssiAccept (c : Nat) (p : Int) (t : Time) (s : State) : State :=
  let s := (s.wi (Reg.PFE_SSI_POS c) p).w (Reg.PFE_SSI_STATUS_CONSEC_BAD c) 0
  s.modSsi c fun x => { x with
    accepted := ((p, t) :: (if x.fresh then [] else x.accepted)).take 4, goodRun := min 64 (x.goodRun + 1), fresh := false }

/-- The slip difference is formed at an accepted SSI1 frame, and judged while the machine source serves (R127). -/
def slipJudge (p : Int) (t : Time) (s : State) : State :=
  match histAt s (t - BitVec.ofNat 48 (s.r (Reg.PFE_SSI_CHECK_LATENCY_US 0))) with
  | none => s
  | some h =>
    let d := h.pos - p
    let s := s.wi Reg.PFE_SLIP d
    if s.pos.sample.source != 0 then { s with pos := { s.pos with slipSince := none } }
    else
      let above := decide (s.r Reg.PFE_SLIP_CFG_SLIP_WARN * 1000 < mag d)
      let was := bitAt (s.r Reg.PFE_STATUS_CAUSE) Cause.slipWarn
      let good := if above then 0 else min 64 (s.pos.slipGood + 1)
      let since := if s.r Reg.PFE_SLIP_CFG_SLIP_LIMIT * 1000 < mag d then some (s.pos.slipSince.getD t) else none
      let s := { s with pos := { s.pos with slipGood := good, slipSince := since } }
      if above && !was then (s.cause Cause.slipWarn true).raisePos Evt.SLIP_WARN [.signed (divOpen d 1000)]
      else if good = 64 then s.cause Cause.slipWarn false
      else s

/-- The first accepted SSI1 frame sets POS_OFFSET and references the machine source, unless the image disables SSI1 (R123). One that
follows an earlier re-reference leaves POS_OFFSET as that has set it (log entry 125, DEDUCED). -/
def firstShaft (p : Int) (t : Time) (s : State) : State :=
  let pm := match histAt s t with
    | some h => h.pm
    | none => s.pmNow
  let s := { s with pos := { s.pos with ssiSeen := true } }
  if s.pos.referenced || !s.rb Reg.PFE_MODEL_CFG_SSI1_EN then s
  else { s with pos := { s.pos with offHalf := 2 * (p - pm), referenced := true } }

/-- Lane A receives the position and the latch time of an accepted SSI1 frame (R130). -/
def State.feedShaft (s : State) (p : Int) (t : Time) : State :=
  { s with saf := { s.saf with feed := { s.saf.feed with shaft := some (p, t) } } }

/-- A received SSI frame is decoded, checked and accepted or rejected by the front end (R117 to R119). -/
def ssiFrame (c : Nat) (bits : List Bool) (idleLow : Bool) (t : Time) (s : State) : State :=
  let f := s.ssiFormat c
  let p := ssiPosition f bits
  let s := s.w (Reg.PFE_SSI_RAW c) (ssiValue f bits)
  match ssiFrameError f bits idleLow with
  | 0 =>
    let x := s.ssiChan c
    if !x.fresh && ssiJump x.accepted p t (s.r (Reg.PFE_SSI_CHECK_JUMP c) * 100) then ssiReject c 4 s
    else
      let s := ssiAccept c p t s
      if c = 0 then
        let s := (s.wi Reg.PFE_SHAFT_POS p).feedShaft p t
        let s := if s.pos.ssiSeen then s else firstShaft p t s
        slipJudge p t s
      else s
  | e => ssiReject c e s

/-- The clocking and monoflop time of a frame end within the period (R116), the clocking time being FRAME_LEN clock periods from the
latching edge (log entry 125, DEDUCED). -/
def ssiFits (s : State) (c : Nat) : Bool :=
  let clk := s.r (Reg.PFE_SSI_CFG_CLK_KHZ c)
  decide (s.r (Reg.PFE_SSI_FMT_FRAME_LEN c) * 1000 + s.r (Reg.PFE_SSI_CFG_MONO_US c) * clk ≤ s.r (Reg.PFE_SSI_CFG_PERIOD_US c) * clk)

/-- A period of SSI1 begins: the frame's clocking starts, or TIMING is reported (R116). -/
def ssiStart (s : State) : State :=
  let x := s.ssiChan 0
  let due := match x.lastStart with
    | none => true
    | some t => decide (s.r (Reg.PFE_SSI_CFG_PERIOD_US 0) ≤ s.since t)
  if !s.rb (Reg.PFE_SSI_CFG_ENABLE 0) || !due then s
  else
    let ok := ssiFits s 0
    let s := s.modSsi 0 fun x => { x with lastStart := some s.optime, latch := if ok then some s.optime else none }
    if ok then s else ssiReject 0 5 s

/-- A frame being clocked ends (R117, R118). -/
def ssiEnd (bits : List Bool) (idleLow : Bool) (s : State) : State :=
  match (s.ssiChan 0).latch with
  | none => s
  | some t => ssiFrame 0 bits idleLow t (s.modSsi 0 fun x => { x with latch := none })

/-- FAIL_N consecutive rejected frames latch SSI_LOST (R118). -/
def ssiLost (c : Nat) (s : State) : State :=
  if !s.rb (Reg.PFE_SSI_STATUS_LOST c) && decide (0 < s.r (Reg.PFE_SSI_STATUS_CONSEC_BAD c)) &&
    decide (s.r (Reg.PFE_SSI_CHECK_FAIL_N c) ≤ s.r (Reg.PFE_SSI_STATUS_CONSEC_BAD c)) then
    ((s.wb (Reg.PFE_SSI_STATUS_LOST c) true).modSsi c fun x => { x with fresh := true, goodRun := 0 }).raisePos
      Evt.SSI_LOST [.code c]
  else s

/-- 64 consecutive accepted frames clear SSI_LOST (R118). -/
def ssiRestored (c : Nat) (s : State) : State :=
  if s.rb (Reg.PFE_SSI_STATUS_LOST c) && decide (64 ≤ (s.ssiChan c).goodRun) then
    (s.wb (Reg.PFE_SSI_STATUS_LOST c) false).raisePos Evt.SSI_RESTORED [.code c]
  else s

/-- A slip difference above SLIP_LIMIT for SLIP_TIME latches SLIP while the machine source serves (R127). -/
def slipLatch (s : State) : State :=
  match s.pos.slipSince with
  | none => s
  | some t =>
    if s.pos.sample.source == 0 && decide (s.r Reg.PFE_SLIP_CFG_SLIP_TIME * 1000 ≤ s.since t) && !s.rb Reg.PFE_STATUS_SLIP then
      (s.wb Reg.PFE_STATUS_SLIP true).raisePos Evt.SLIP.asFault [.signed (divOpen (s.ri Reg.PFE_SLIP) 1000)]
    else s

/-! ### Reference points (R124, R129) -/

/-- Reference entries with their indexes. -/
def State.refList (s : State) : List (Nat × RefPoint) :=
  (List.range s.pos.refs.length).map fun i => (i, nth s.pos.refs i {})

/-- The candidates of an edge (R124). -/
def refCandidates (s : State) (g : RefEdge) : List (Nat × RefPoint) :=
  s.refList.filter fun x => x.2.input == g.input && x.2.rising == g.rising && (g.dir == 0 || x.2.up == decide (0 < g.dir))

/-- The candidate with the smallest |P_REF − P_h| for an edge at a time, the lower index on a tie: index, entry and e (R124). -/
def refBest (s : State) (at_ : Time) (l : List (Nat × RefPoint)) : Option (Nat × RefPoint × Int) :=
  (l.filterMap fun x => (histAt s (at_ - BitVec.ofNat 48 x.2.delay)).map fun h => (x.1, x.2, x.2.pRef - h.pos)).foldl
    (fun acc x => match acc with
      | none => some x
      | some b => if mag x.2.2 < mag b.2.2 then some x else some b) none

/-- A rejected reference edge (R124). -/
def refReject (entry reason : Nat) (s : State) : State :=
  let n := s.pos.rejects + 1
  let s := { s with pos := { s.pos with rejects := n } }
  let s := ((s.w Reg.PFE_REF_LAST_ENTRY entry).w Reg.PFE_REF_LAST_RESULT reason).raisePos Evt.REF_REJECT [.code entry, .code reason]
  if s.r Reg.PFE_REF_CFG_REF_REJECT_N ≤ n then s.cause Cause.ref true else s

/-- A re-reference may be made at an entry: REREF, MACH_OK 0, and 1,000 clean samples of the machine channel (R129). -/
def rerefAllowed (s : State) (x : RefPoint) : Bool :=
  x.reref && !s.machOk &&
    (match s.machSc with
      | some c => decide (1000 ≤ (s.scChan c).sinceIllegal) && decide (1000 ≤ (s.scChan c).sinceAmp)
      | none => decide (1000 ≤ (s.qdChan ((s.machQd).getD 4)).sinceIllegal))

/-- The re-reference of the machine source at an edge (R129). In LOST it sets POS_OFFSET from P_REF at once and adds nothing to
REF_PENDING, since R126 takes the position directly then (log entry 125, DEDUCED). -/
def rereference (at_ : Time) (i : Nat) (x : RefPoint) (e : Int) (s : State) : State :=
  let pm := match histAt s (at_ - BitVec.ofNat 48 x.delay) with
    | some h => h.pm
    | none => s.pmNow
  let s := s.clear [Reg.PFE_STATUS_INDEX_LOST, Reg.PFE_STATUS_SLIP, Reg.PFE_STATUS_MACH_LOST]
  let s := match s.machSc with
    | some c =>
      let lost := s.rb (Reg.PFE_SC_STATUS_LOST c)
      ((s.clear [Reg.PFE_SC_STATUS_LOST c, Reg.PFE_SC_INDEX_COMMITTED c, Reg.PFE_SC_INDEX_CONSEC c])).modSc c fun ch =>
        { ch with
          indexLost := false, illegalQ := [], resync := ch.resync || lost, place := if lost then none else ch.place
          good := 0, lastMark := ch.count, missed := 0, causeIndex := true }
    | none => s.modQd ((s.machQd).getD 4) fun q => { q with lost := false, illegalAt := [], causeIndex := true }
  let s := { s with pos := { s.pos with referenced := true, slipSince := none } }
  let s := if s.pos.sample.source = 2 then { s with pos := { s.pos with offHalf := 2 * (x.pRef - pm) } }
    else if s.pos.sample.source = 1 then { s with pos := { s.pos with rerefE := some e } }
    else { s with pos := { s.pos with pendHalf := s.pos.pendHalf + 2 * e } }
  (markCauses s).raisePos Evt.REREF_DONE [.code i]

/-- The oldest edge of an input in a direction that R124 has yet to take. -/
def State.refEdge (s : State) (input : Nat) (rising : Bool) : Option RefEdge :=
  s.pos.edges.find? fun g => g.input == input && g.rising == rising

/-- A filtered edge of a listed input is taken (R124, R129). -/
def referencePoint (input : Nat) (rising : Bool) (s : State) : State :=
  match s.refEdge input rising with
  | none => s
  | some g =>
    let s := { s with pos := { s.pos with edges := s.pos.edges.erase g } }
    let cands := refCandidates s g
    match refBest s g.at_ cands with
    | none =>
      match cands with
      | [] => refReject 0x3FF 4 s
      | x :: _ => refReject x.1 3 s
    | some (i, x, e) =>
      let rr := rerefAllowed s x
      let win := if rr then s.r Reg.PFE_REF_CFG_REREF_WIN * 1000 else x.win
      let s := s.wi Reg.PFE_REF_DEV e
      if win < mag e then refReject i 2 s
      else
        let s := (s.w Reg.PFE_REF_LAST_ENTRY i).w Reg.PFE_REF_LAST_RESULT (b2n rr)
        let s := { s with pos := { s.pos with rejects := 0 } }
        let s := (s.cause Cause.start false).cause Cause.ref false
        if rr then rereference g.at_ i x e s
        else { s with pos := { s.pos with pendHalf := s.pos.pendHalf + 2 * divOpen (e * (x.weight + 1 : Nat)) 256 } }

/-! ### The car position sample (R96, R97, R120 to R128) -/

/-- At a tick the tracks are sampled and the counts latched (R96). -/
def carPositionSample (sc : List ScSample) (s : State) : State :=
  let qd := (List.range 6).map s.qdCount
  { s with pos := { s.pos with raw := some ⟨s.optime, sc, qd⟩, qdLatched := qd } }

/-- The travel of a source at a sample, µm: Pm, or the shaft position carried on to the sample time (Table 04-4). -/
def sourceTravel (s : State) (source : Nat) (pm : Int) (t : Time) : Int :=
  if source = 0 then pm
  else match (s.ssiChan 0).accepted with
    | [] => 0
    | (p, ta) :: rest => p + divOpen (ssiSpeed ((p, ta) :: rest) * (t - ta).toInt) 1000000

/-- The offset of a source, half µm. -/
def State.sourceHalf (s : State) (source : Nat) : Int := if source = 0 then s.pos.offHalf else s.pos.shaftHalf

/-- The offset of a source, replaced. -/
def State.setHalf (s : State) (source : Nat) (v : Int) : State :=
  if source = 0 then { s with pos := { s.pos with offHalf := v } } else { s with pos := { s.pos with shaftHalf := v } }

/-- A bumpless change of source, except leaving LOST (R126, R129): what REF_PENDING still holds then is kept and slewed into the position
taken directly (log entry 125, DESIGN CHOICE). -/
def changeSource (old new : Nat) (pm : Int) (t : Time) (s : State) : State :=
  if old = new || new = 2 then s
  else if old = 2 then
    let s := if new = 1 then s.setHalf 1 0 else s
    { s with pos := { s.pos with rerefE := none, lastRaw := sourceTravel s new pm t } }
  else
    let cur := s.sourceHalf old + 2 * sourceTravel s old pm t
    let own := if new = 1 then 2 * sourceTravel s 1 pm t else s.pos.offHalf + 2 * pm
    let diff := match s.pos.rerefE with
      | some e => if new = 0 then 2 * e else own - cur
      | none => own - cur
    let s := s.setHalf new (cur - 2 * sourceTravel s new pm t)
    { s with pos := { s.pos with
      pendHalf := s.pos.pendHalf + diff, rerefE := none, lastRaw := sourceTravel s new pm t } }

/-- The pending correction moved into the offset at a sample (R125). While the shaft source serves, it moves into that source's offset,
and the half limit is taken of the change of the shaft travel (log entry 125, DEDUCED). -/
def slew (source : Nat) (travel speed : Int) (s : State) : State :=
  let lim : Int := (2 * s.r Reg.PFE_REF_CFG_REF_SLEW : Nat)
  let step := clampI (-lim) lim s.pos.pendHalf
  let half : Int := (mag (travel - s.pos.lastRaw) : Nat)
  let step := if speed ≠ 0 && sgn step ≠ sgn speed then clampI (-half) half step else step
  let s := s.setHalf source (s.sourceHalf source + step)
  { s with pos := { s.pos with pendHalf := s.pos.pendHalf - step, lastRaw := travel } }

/-- Speed from the machine-derived travel: (Pm[s] − Pm[s − W]) × 1,000,000 / W (R121). -/
def windowRate (l : List Int) (w : Nat) : Int := divOpen ((nth l 0 0 - nth l w 0) * 1000000) (w : Int)

/-- A sample of the quadrature machine source: a revolution since the last illegal transition forgets it (Table 04-4). -/
def qdSample (q : Nat) (s : State) : State :=
  let far := match (s.qdChan q).illegalAt with
    | [] => true
    | a :: _ => decide (s.qdCpr q ≤ mag (wrap48 (s.qdCount q - a)))
  s.modQd q fun x => { x with illegalAt := if far then [] else x.illegalAt, sinceIllegal := satN 16 (x.sinceIllegal + 1) }

/-- The causes that follow from the machine channel and the shaft at a sample. -/
def sampleCauses (s : State) : State :=
  let s := match s.machSc with
    | some c => (s.cause Cause.illegal (s.scChan c).illegalAt.isSome).cause Cause.amp (s.rb (Reg.PFE_SC_STATUS_AMP_OUT c))
    | none =>
      let q := (s.machQd).getD 4
      let s := qdSample q s
      s.cause Cause.illegal (!(s.qdChan q).illegalAt.isEmpty)
  s.cause Cause.shaftAbsent (!s.shaftOk)

/-- The source in use: 0 machine, 1 shaft, 2 held (Table 04-4). -/
def State.nextSource (s : State) : Nat := if s.machOk then 0 else if s.shaftOk then 1 else 2

/-- CONF of Table 04-4. -/
def confOf (source cause : Nat) : Nat := if source = 0 then (if cause = 0 then 0 else 1) else source + 1

/-- The registers that show the last sample. -/
def showSample (x : CarSample) (s : State) : State :=
  let s := (s.wi Reg.PFE_POS x.pos).wi Reg.PFE_SPEED x.speed
  let s := (s.wi Reg.PFE_ACCEL x.accel).w Reg.PFE_SAMPLE_TIME (x.time.toNat % 2 ^ 32)
  let s := (s.w Reg.PFE_STATUS_CONF x.conf).w Reg.PFE_STATUS_SOURCE x.source
  (s.wb Reg.PFE_STATUS_MACH_OK s.machOk).wb Reg.PFE_STATUS_SHAFT_OK s.shaftOk

/-- The position model at a sample of time t with travel pm: position, speed, acceleration, confidence (R120, R121, R125, R126,
R128). A change of CONF is reported. -/
def positionModel (t : Time) (pm : Int) (s : State) : State :=
  let pms := (pm :: s.pos.pm).take 257
  let v := windowRate pms (s.r Reg.PFE_MODEL_CFG_SPEED_WIN + 1)
  let vs := (v :: s.pos.speeds).take 257
  let a := windowRate vs (s.r Reg.PFE_MODEL_CFG_ACC_WIN + 1)
  let old := s.pos.sample
  let new := s.nextSource
  let s := changeSource old.source new pm t { s with pos := { s.pos with pm := pms, speeds := vs } }
  let speed := if new = 0 then v else if new = 1 then ssiSpeed (s.ssiChan 0).accepted else 0
  let s := if new = 2 then s else slew new (sourceTravel s new pm t) speed s
  let pos := if new = 2 then old.pos else divF (s.sourceHalf new + 2 * sourceTravel s new pm t) 2
  let s := sampleCauses s
  let conf := confOf new (s.r Reg.PFE_STATUS_CAUSE)
  let x : CarSample := ⟨pos, speed, if new = 0 then a else 0, conf, new, t⟩
  let s := showSample x { s with pos := { s.pos with
    sample := x, hist := (⟨pos, pm, t⟩ :: s.pos.hist).take 8192,
    lastDir := if speed = 0 then s.pos.lastDir else sgn speed } }
  if conf = old.conf then s
  else (s.raisePos Evt.CONF_CHANGE [.code conf, .code (s.r Reg.PFE_STATUS_CAUSE)])

/-- An encoder supply that is switched on leaves ±10 % of its nominal voltage or exceeds 300 mA (R135, R438). -/
def encSupply (n mv ma : Nat) (s : State) : State :=
  let i := (n - 1) % 2
  let nom := if s.rb (Reg.PFE_SC_CFG_SUPPLY_12V i) then 12000 else 5000
  let out := s.rb (Reg.PFE_SC_CFG_SUPPLY_ON i) && (decide (mv * 10 < nom * 9) || decide (nom * 11 < mv * 10) || decide (300 < ma))
  let was := nth s.pos.encOut i false
  let s := { s with pos := { s.pos with encOut := setAt s.pos.encOut i out false } }
  if out && !was then s.raisePos Evt.ENC_SUPPLY [.code (i + 1)] else s

/-! ### Meanings -/

/-- CAR_POSITION_SAMPLE (R96). -/
def execCarPositionSample (sc : List ScSample) (s : State) : Res := (carPositionSample sc s).done
/-- SINCOS_LOST (R103). -/
def execSincosLost (channel : Nat) (s : State) : Res := (sincosLost channel s).done
/-- INDEX_LOST (R109). -/
def execIndexLost (channel : Nat) (s : State) : Res := (indexLost channel s).done
/-- ADC_CAL_SWAP (R106). -/
def execAdcCalSwap (channel track : Nat) (diffs : List Int) (s : State) : Res := (adcCalSwap channel track diffs s).done
/-- QUAD_EDGE (R112). -/
def execQuadEdge (channel : Nat) (a b z : Bool) (s : State) : Res := (quadEdge (channel % 6) a b z s).done
/-- EMULATOR_EDGE (R132). -/
def execEmulatorEdge (emu : Nat) (s : State) : Res := (emulatorEdge emu s).done
/-- SLIP (R127). -/
def execSlip (s : State) : Res := (slipLatch s).done
/-- SSI_LOST (R118). -/
def execSsiLost (channel : Nat) (s : State) : Res := (ssiLost channel s).done
/-- SSI_RESTORED (R118). -/
def execSsiRestored (channel : Nat) (s : State) : Res := (ssiRestored channel s).done
/-- REFERENCE_POINT (R124). -/
def execReferencePoint (input : Nat) (rising : Bool) (s : State) : Res := (referencePoint input rising s).done
/-- ENC_SUPPLY (R135). -/
def execEncSupply (supply millivolt milliamp : Nat) (s : State) : Res := (encSupply supply millivolt milliamp s).done

end Sys2Proof.Machine
end

