-- ==== Sys2Proof/Machine/Ret.lean ====
section
/-! DEFINITION. The reticle (file 05): mark sets, staging and swapping of programs, arming, crossing, conflicts, the post queue
and the capture registers. What an action does at an actuator outside the reticle stands in Machine/Sample.lean. -/

namespace Sys2Proof.Machine

/-! ### Mark sets -/

/-- A mark set. -/
def State.set (s : State) (k : Nat) : MarkSet := nth s.ret.sets k { live := [] }

/-- A mark set changed. -/
def State.modSet (s : State) (k : Nat) (f : MarkSet → MarkSet) : State :=
  { s with ret := { s.ret with sets := modAt s.ret.sets k f { live := [] } } }

/-- Live slots of a set (R136). -/
def setSize (k : Nat) : Nat := if k = 0 then 256 else 64

/-- DIR of a mark. -/
def Mark.dir (m : Mark) : Nat := m.flags % 4
/-- ARM of a mark. -/
def Mark.arm (m : Mark) : Bool := bitAt m.flags 2
/-- LATE_MODE of a mark. -/
def Mark.withhold (m : Mark) : Bool := bitAt m.flags 3
/-- MIN_CONF of a mark; 3 acts as 2 (R137). -/
def Mark.minConf (m : Mark) : Nat := min 2 (bits m.flags 5 4)
/-- KEEP of a mark. -/
def Mark.keep (m : Mark) : Bool := bitAt m.flags 6
/-- POST_EN of a mark. -/
def Mark.postEn (m : Mark) : Bool := bitAt m.post 15
/-- Kind of a mark's action (R138). -/
def Mark.kind (m : Mark) : Nat := bits m.action 31 28

/-- The sample a set is compared with: position, whether it counts as moving up or opening, and as moving down or closing. -/
structure SetSample where
  /-- position, µm -/
  pos : Int
  /-- speed 0 or greater; opening -/
  up : Bool
  /-- speed 0 or less; closing -/
  down : Bool
  deriving DecidableEq, Repr

/-- The comparable sample of a set (R142): the last one delivered, if there is one, unless its CONF is LOST or its door channel
was not HOMED. -/
def State.comparable (s : State) (k : Nat) : Option SetSample :=
  if !s.ret.seen then none
  else if k = 0 then
    if s.pos.sample.conf = 3 then none
    else some ⟨s.pos.sample.pos, decide (0 ≤ s.pos.sample.speed), decide (s.pos.sample.speed ≤ 0)⟩
  else if nth s.ret.doorOk (k - 1) false then
    let x := nth s.pos.doorPos (k - 1) 0
    let was := (nth s.ret.doorPrev (k - 1) none).getD x
    some ⟨x, decide (was ≤ x), decide (x ≤ was)⟩
  else none

/-- The crossing condition of DIR up and DIR down (R143, R144). -/
def crosses (m : Mark) (x : SetSample) : Bool :=
  if m.dir = 1 then decide (m.thresh ≤ x.pos) && x.up
  else if m.dir = 2 then decide (x.pos ≤ m.thresh) && x.down
  else false

/-- Whether a sample lies above a mark of DIR either. -/
def liesAbove (m : Mark) (x : SetSample) : Bool := decide (m.thresh ≤ x.pos)

/-- The check of an armed slot against a comparable sample (R142): the slot, and whether it was found late. -/
def checkSlot (t : Slot) (x : SetSample) : Slot × Bool :=
  if t.mark.dir = 3 then ({ t with unchecked := false, above := liesAbove t.mark x }, false)
  else if crosses t.mark x then
    if t.mark.withhold then ({ t with unchecked := false, armed := false }, true)
    else ({ t with unchecked := false, late := true }, true)
  else ({ t with unchecked := false }, false)

/-- What a late mark found is reported as: counted, and RET_LATE_WITHHELD if it was disarmed (R142). -/
def lateFound (k i : Nat) (m : Mark) (s : State) : State :=
  let s := s.inc Reg.RET_EXC_COUNT_LATE
  if m.withhold then s.raise Evt.RET_LATE_WITHHELD [.code k, .code i, .ident m.tag] else s

/-- A slot replaced. -/
def State.putSlot (s : State) (k i : Nat) (t : Slot) : State :=
  s.modSet k fun m => { m with live := setAt m.live i t {} }

/-- A live slot. -/
def State.slot (s : State) (k i : Nat) : Slot := nth (s.set k).live i {}

/-- A slot is armed and checked (R142); an empty slot is never armed. -/
def armSlot (k i : Nat) (s : State) : State :=
  let t := s.slot k i
  if t.mark.dir = 0 then s
  else
    let t := { t with armed := true, late := false, unchecked := true }
    match s.comparable k with
    | none => s.putSlot k i t
    | some x =>
      match checkSlot t x with
      | (t, true) => lateFound k i t.mark (s.putSlot k i t)
      | (t, false) => s.putSlot k i t

/-- A slot is disarmed. -/
def disarmSlot (k i : Nat) (s : State) : State :=
  s.putSlot k i { s.slot k i with armed := false, late := false, unchecked := false }

/-! ### Loading and swapping (R139 to R141, R450) -/

/-- The table store by window address (Table 02-5). -/
def State.tableRd (s : State) : Rd := fun a => memGet s.table (a % 0x20000000)

/-- A reticle LOAD: the staging half is invalid from its first cycle (R139, R140). -/
def reticleLoad (k addr : Nat) (s : State) : State :=
  s.modSet k fun m => { m with
    staging := parseProgram (fun o => s.tableRd (addr + o)) 0, valid := false, loading := true, addr := addr, swapDue := false }

/-- The staging half holds, or is being loaded with, the program at a window address. -/
def MarkSet.names (m : MarkSet) (addr : Nat) : Bool := m.addr % 0x20000000 == addr % 0x20000000

/-- The staging half holds the program at a window address as staged (R141). -/
def State.holdsStaged (s : State) (k addr : Nat) : Bool := (s.set k).valid && (s.set k).names addr

/-- A new trip or profile, or the clearing of the fault, gives a set back to the lower ranks (R22). -/
def State.freeMarks (s : State) (k : Nat) : State := s.modSet k fun m => { m with held := false, barred := false }

/-- A CANCEL: the staging half is invalid at once (R140). -/
def reticleCancel (k : Nat) (s : State) : State :=
  (s.modSet k fun m => { m with valid := false, loading := false, swapDue := false }).loadEnded

/-- The live half a program gives (R141): entry i in slot i, slots beyond it empty. -/
def liveOf (k : Nat) (p : Program) : List Slot :=
  (List.range (setSize k)).map fun i => { mark := nth p.marks i {} }

/-- The slots a new live half arms (R141). -/
def armNew (k : Nat) (s : State) : State :=
  (List.range (setSize k)).foldl (fun s i => if (s.slot k i).mark.arm then armSlot k i s else s) s

/-- A swap of a set: a valid staging half becomes live; an invalid one changes nothing and is reported (R141). -/
def swapSet (k : Nat) (s : State) : State :=
  let m := s.set k
  if m.valid then
    armNew k (s.modSet k fun m => { m with
      live := liveOf k m.staging, prog := m.staging.id, valid := false, swapDue := false })
  else s.raise Evt.RET_SWAP_REFUSED [.code k]

/-- A set emptied at the begin of a trip or profile whose RET_PROG is 0 (R450). -/
def emptySet (k : Nat) (s : State) : State :=
  (s.modSet k fun m => { m with
    live := List.replicate (setSize k) {}, prog := 0, valid := false, loading := false, swapDue := false }).loadEnded

/-- A swap that a graph or a mark commands; without effect on a set whose trip or profile a reaction of rank 2 has abandoned (R22,
R141, R149). -/
def swapCommand (k : Nat) (s : State) : State := if (s.set k).barred then s else swapSet k s

/-- The evaluator begins a trip or profile whose program lies at retProg of a region: the set is emptied for 0; the program is swapped
in if the set holds it as staged, and no swap is triggered otherwise (R141, R450). -/
def beginProgram (k region retProg : Nat) (s : State) : State :=
  let s := s.freeMarks k
  if retProg = 0 then emptySet k s else s.when_ (s.holdsStaged k (region + retProg)) (swapSet k)

/-- A fault reaction of rank 2 takes effect on a set: slots without KEEP are disarmed, the staging half is invalid, and the marks
that stay armed no longer command the evaluator that the reaction holds (R149). -/
def reactSet (k : Nat) (s : State) : State :=
  (s.modSet k fun m => { m with
    live := m.live.map fun t => if t.mark.keep then t else { t with armed := false, late := false, unchecked := false },
    valid := false, loading := false, held := true, barred := true, swapDue := false }).loadEnded

/-- The program of a reaction's own trip or profile is staged (R149, R219); 0 names none. -/
def reactLoad (k region retProg : Nat) (s : State) : State :=
  if retProg = 0 then s else reticleLoad k (region + retProg) s

/-- The reaction's own program is live: its marks command the evaluator. -/
def State.ownMarks (s : State) (k : Nat) : State := s.modSet k fun m => { m with held := false }

/-- The program of a profile or stop that a reaction begins: the set emptied, the program swapped in if it is staged, or, while its
load runs, to be swapped in at the load's end (R141, R149, R450). -/
def beginStaged (k region retProg : Nat) (s : State) : State :=
  if retProg = 0 then (emptySet k s).ownMarks k
  else if s.holdsStaged k (region + retProg) then (swapSet k s).ownMarks k
  else s.modSet k fun m => { m with swapDue := m.loading && m.names (region + retProg) }

/-- The load's last entry is written; an uncorrectable error leaves the half invalid (R139, R140). A reaction's program whose trip
has begun becomes live at once (R149). -/
def reticleLoadDone (k : Nat) (uncorr : Bool) (s : State) : State :=
  let m := s.set k
  if !m.loading then s
  else
    let s' := s.modSet k fun m => { m with loading := false, valid := !uncorr, swapDue := false }
    let s' := if uncorr then s'.raise Evt.RET_STAGE_FAIL [.code k, .ident (m.staging.id % 65536)] else s'
    let s' := s'.loadEnded
    if m.swapDue && !uncorr then (swapSet k s').ownMarks k else s'

/-! ### Firing (R143 to R148) -/

/-- A mark that fires: set, slot, mark and whether it fires late. -/
structure Fire where
  /-- set -/
  set : Nat
  /-- slot -/
  slot : Nat
  /-- its mark -/
  mark : Mark
  /-- it fires late -/
  late : Bool
  deriving DecidableEq, Repr

/-- A slot that meets its condition leaves its set (R145, R146): it fires, or is withheld by its MIN_CONF. -/
def leaveSlot (k i : Nat) (late : Bool) (acc : State × List Fire) : State × List Fire :=
  let s := acc.1
  let m := (s.slot k i).mark
  let s := disarmSlot k i s
  if k = 0 && decide (m.minConf < s.pos.sample.conf) then
    ((s.inc Reg.RET_EXC_COUNT_WITHHELD).raise Evt.RET_WITHHELD
      [.code k, .code i, .ident m.tag, .code s.pos.sample.conf], acc.2)
  else
    let s := (s.putSlot k i { s.slot k i with fired := true }).incWrap Reg.RET_FIRE_COUNT
    let s := ((s.w Reg.RET_LAST_SLOT i).w Reg.RET_LAST_SET k).wb Reg.RET_LAST_LATE late
    let s := s.w Reg.RET_LAST_TAG m.tag
    let s := s.when_ late fun s => s.raise Evt.RET_LATE_FIRE [.code k, .code i, .ident m.tag]
    (s, acc.2 ++ [⟨k, i, m, late⟩])

/-- One slot compared with a sample (R142 to R146). -/
def compareSlot (k : Nat) (x : SetSample) (acc : State × List Fire) (i : Nat) : State × List Fire :=
  let t := acc.1.slot k i
  if !t.armed then acc
  else if t.late then leaveSlot k i true acc
  else if t.unchecked then
    match checkSlot t x with
    | (t, true) =>
      let s := lateFound k i t.mark (acc.1.putSlot k i t)
      if t.late then leaveSlot k i true (s, acc.2) else (s, acc.2)
    | (t, false) => (acc.1.putSlot k i t, acc.2)
  else if t.mark.dir = 3 then if liesAbove t.mark x = t.above then acc else leaveSlot k i false acc
  else if crosses t.mark x then leaveSlot k i false acc
  else acc

/-- A set compared with the sample just delivered. -/
def compareSet (acc : State × List Fire) (k : Nat) : State × List Fire :=
  match acc.1.comparable k with
  | none => acc
  | some x => (List.range (setSize k)).foldl (compareSlot k x) acc

/-- The object an action commands (Table 05-3). -/
inductive Actuator where
  | output (n : Nat)
  | request (f : Nat)
  | evaluator (set : Nat)
  | mode (set : Nat)
  | door (d : Nat)
  | slot (set i : Nat)
  | program (set : Nat)
  | capture (n : Nat)
  deriving DecidableEq, Repr

/-- The actuators a fired mark commands (R138). -/
def Fire.targets (f : Fire) : List Actuator :=
  let a := f.mark.action
  let k := f.mark.kind
  if k = 1 then [.output (a % 32)]
  else if k = 2 then [.request (a % 16)]
  else if k = 3 then [.evaluator f.set]
  else if k = 4 then [.mode f.set]
  else if k = 5 then [.door (a % 4 + 1)]
  else if k = 6 then
    ((List.range (bits a 15 8 + 1)).map fun i => a % 256 + i).filterMap fun i =>
      if i < setSize f.set then some (.slot f.set i) else none
  else if k = 7 then [.program f.set]
  else if k = 8 then [.capture (a % 8)]
  else []

/-- One command of one fired mark. -/
structure Command where
  /-- the mark -/
  fire : Fire
  /-- its actuator -/
  target : Actuator
  deriving DecidableEq, Repr

/-- The order of marks that meet: PRIO, set, slot (R148). -/
def Fire.rank (f : Fire) : Nat := f.mark.prio * 4096 + f.set * 512 + f.slot

/-- A command loses to another on the same actuator (R148). -/
def beaten (l : List Command) (c : Command) : Bool :=
  l.any fun d => d.target == c.target && decide (d.fire.rank < c.fire.rank)

/-- The commands that fired marks make, conflicts resolved: those that take effect, and the state with each discard counted and
reported (R148). -/
def resolveMarks (fires : List Fire) (s : State) : State × List Command :=
  let l := fires.flatMap fun f => f.targets.map fun t => ⟨f, t⟩
  let s := (l.filter (beaten l)).foldl (fun s c =>
    (s.inc Reg.RET_EXC_COUNT_CONFLICT).raise Evt.RET_CONFLICT
      [.code c.fire.set, .code c.fire.slot, .ident c.fire.mark.tag]) s
  (s, l.filter fun c => !beaten l c)

/-! ### Posts and captures (R150) -/

/-- A post enters the post queue; a full queue discards it. -/
def queuePost (s : State) (f : Fire) : State :=
  let s := if f.set = 0 then s.wake 5 else s
  if !f.mark.postEn then s
  else if s.ret.posts.length < 512 then
    let l := s.ret.posts ++ [⟨f.mark.post % 4096⟩]
    ({ s with ret := { s.ret with posts := l } }).peak Reg.RET_POST_PEAK l.length
  else (s.inc Reg.RET_EXC_COUNT_POST_LOST).raise Evt.RET_POST_LOST [.code f.set, .code f.slot, .ident f.mark.tag]

/-- The queue delivers one post to port 0 while its FIFO has room. -/
def postDelivery (s : State) : State :=
  match s.ret.posts with
  | [] => s
  | x :: rest =>
    match portPush s.dsp 0 ⟨x.counter, none⟩ with
    | (d, true) => { s with dsp := d, ret := { s.ret with posts := rest } }
    | (_, false) => s

/-- A CAPTURE action writes the sample into capture register n. -/
def capture (n : Nat) (f : Fire) (s : State) : State :=
  let old := nth s.ret.caps n {}
  let lost := old.valid && old.unread
  let x : Capture := {
    pos := if f.set = 0 then s.pos.sample.pos else nth s.pos.doorPos (f.set - 1) 0,
    speed := if f.set = 0 then s.pos.sample.speed else 0,
    time := s.pos.sample.time.toNat % 2 ^ 32, slot := f.slot, set := f.set, late := f.late,
    overwritten := lost, valid := true, tag := f.mark.tag, unread := true }
  let s := { s with ret := { s.ret with caps := setAt s.ret.caps n x {} } }
  s.when_ lost fun s => s.raise Evt.RET_CAPTURE_OVERWRITE [.code n]

/-- RET_CAP_INFO of a capture. -/
def Capture.info (x : Capture) : Nat :=
  x.slot % 256 + 2 ^ 8 * (x.set % 8) + 2 ^ 11 * b2n x.late + 2 ^ 12 * b2n x.overwritten + 2 ^ 13 * b2n x.valid +
    2 ^ 16 * (x.tag % 65536)

/-- A read of RET_CAP_POS latches the other words and then clears OVERWRITTEN (R150, R27). -/
def retCapPosRead (p : Path) (s : State) : State :=
  let n := s.r Reg.RET_CAP_SEL
  let x := nth s.ret.caps n {}
  let s := (s.latch p (wordsAt 0x500CC [ofI 32 x.speed, x.time, x.info])).answerRead p (ofI 32 x.pos)
  { s with ret := { s.ret with caps := setAt s.ret.caps n { x with overwritten := false, unread := false } {} } }

/-- RET_STAT_CLEAR (R151). -/
def retStatClear (value : Nat) (s : State) : State :=
  if value % 2 = 0 then s
  else s.clear [Reg.RET_EXC_COUNT_WITHHELD, Reg.RET_EXC_COUNT_LATE, Reg.RET_EXC_COUNT_CONFLICT, Reg.RET_EXC_COUNT_POST_LOST,
    Reg.RET_POST_PEAK]

/-! ### Meanings -/

/-- RETICLE_LOAD (R139). -/
def execReticleLoad (set addr : Nat) (s : State) : Res := (s.graphDoes (reticleLoad (set % 5) addr)).done
/-- RETICLE_LOAD_DONE (R139). -/
def execReticleLoadDone (set : Nat) (uncorr : Bool) (s : State) : Res := (reticleLoadDone (set % 5) uncorr s).done
/-- RETICLE_CANCEL (R140). -/
def execReticleCancel (set : Nat) (s : State) : Res := (s.graphDoes (reticleCancel (set % 5))).done
/-- RETICLE_SWAP (R141). -/
def execReticleSwap (set : Nat) (s : State) : Res := (s.graphDoes (swapCommand (set % 5))).done
/-- POST_DELIVERY (R150). -/
def execPostDelivery (s : State) : Res := (postDelivery s).done
/-- RET_CAP_POS_READ (R150). -/
def execRetCapPosRead (path : Path) (s : State) : Res := (s.servedOn path (retCapPosRead path)).done
/-- RET_STAT_CLEAR (R151). -/
def execRetStatClear (value : Nat) (s : State) : Res := (s.served (retStatClear value)).done

end Sys2Proof.Machine
end

