-- ==== Sys2Proof/Machine/Act.lean ====
section
/-! DEFINITION. The actuator interfaces that marks, graphs and fault reactions command (Table 01-5, Table 05-3): functional
requests to the lanes, standard outputs, loop modes, and what the lanes and the standard inputs report back. -/

namespace Sys2Proof.Machine

/-! ### The pair (R348, R351, R354) -/

/-- The module is a pair member. -/
def State.paired (s : State) : Bool := s.rb Reg.MIR_CFG_PAIRED

/-- The module drives the car: it is single, or its own role line is asserted. Its DriveLink transmitter, analog switches, door and
emulator drivers, SSI clocks and input terminations are enabled with it (R349). -/
def State.active (s : State) : Bool := !s.paired || s.rb Reg.MIR_STATUS_OWN_LINE

/-- The partner is SYNCED or CLEAN by its last HELLO, over a link that is up. -/
def State.partnerReady (s : State) : Bool :=
  s.rb Reg.MIR_STATUS_LINK_UP && (match s.mir.partner with
    | some h => h.shadow == 2 || h.shadow == 3
    | none => false)

/-- The mirror state changed. -/
def State.modMir (s : State) (f : MirState → MirState) : State := { s with mir := f s.mir }

/-- A message enters the link's queue; one beyond 64 is discarded (R351). -/
def State.sendLink (s : State) (m : LinkMsg) : State :=
  if s.mir.out.length < 64 then s.modMir fun x => { x with out := x.out ++ [m] }
  else (s.modMir fun x => { x with resync := true }).raise Evt.MIR_LINK_OVERFLOW [.code 0]

/-- A decision of the active module enters the journal (R354). -/
def State.journal (s : State) (x : JournalRec) : State :=
  if s.paired && s.rb Reg.MIR_STATUS_OWN_LINE then s.sendLink (.journal x) else s

/-! ### Lanes -/

/-- The safety block changed. -/
def State.modSaf (s : State) (f : SafState → SafState) : State := { s with saf := f s.saf }

/-- A functional request is set or withdrawn: 1 DRIVE_EN, 2 BRAKE1_LIFT, 3 BRAKE2_LIFT, 4 DZ_BRIDGE, 5 RELEVEL, 6 BRAKE_TEST
(R138, R230, R274). -/
def State.request (s : State) (f : Nat) (on : Bool) : State :=
  if 1 ≤ f ∧ f ≤ 6 then s.modSaf fun x => { x with req := setBit x.req (f - 1) on } else s

/-- A functional request stands. -/
def State.requested (s : State) (f : Nat) : Bool := bitAt s.saf.req (f - 1)

/-- What the lanes take, requests 1 to 6 in bits 0 to 5 and the network reset line in bit 6: from the own fabric while the
own role line is asserted, from the partner's bus while the partner's is, else what they hold (R350). -/
def State.laneReqs (s : State) : Nat :=
  if !s.paired || s.rb Reg.MIR_STATUS_OWN_LINE then s.saf.req % 64 + 64 * s.r Reg.NET_RESET_LINE
  else if s.rb Reg.MIR_STATUS_PARTNER_LINE then s.mir.bus % 128
  else s.mir.held

/-- The network reset line as the lanes take it (R286, R350). -/
def State.netLine (s : State) : Bool := bitAt s.laneReqs 6

/-! ### Standard inputs and outputs -/

/-- The filtered state of a standard input, 0 for DI01, as FIO_DI_STATE shows it (R293). -/
def State.diFiltered (s : State) (i : Nat) : Bool :=
  if i < 32 then bitAt (s.r Reg.FIO_DI_STATE_LO) i else bitAt (s.r Reg.FIO_DI_STATE_HI) (i - 32)

/-- The state of a standard input as it is used: the filtered state, inverted with INVERT (R293). -/
def State.diOn (s : State) (i : Nat) : Bool :=
  s.diFiltered i != (s.rb (Reg.FIO_DI_CFG_EN i) && s.rb (Reg.FIO_DI_CFG_INVERT i))

/-- The state of the input an input code of Table 04-3 names: an SI input by its lane A channel; 0 names none. -/
def State.inputOn (s : State) (code : Nat) : Bool :=
  if 1 ≤ code ∧ code ≤ 16 then bitAt (s.lane 0).chan (code - 1)
  else if 0x21 ≤ code ∧ code ≤ 0x50 then s.diOn (code - 0x21)
  else false

/-- The standard field I/O changed. -/
def State.modFio (s : State) (f : FioState → FioState) : State := { s with fio := f s.fio }

/-- The lane of a coupler group. -/
def State.cplLane (s : State) (g k : Nat) : CplLane := nth (nth s.fio.groups g {}).lanes k {}

/-- A channel of a group is lost: its lane is, or the spare that carries it is (R310). -/
def State.channelLost (s : State) (g k : Nat) : Bool :=
  (s.cplLane g k).state == 3 || ((s.cplLane g k).state == 2 && (s.cplLane g 9).state == 3)

/-- The field side of a group sees no alive count: it is silent, or its housekeeping lane is lost (R302, R310). -/
def State.sideSilent (s : State) (g : Nat) : Bool := (nth s.fio.groups g {}).silentAt.isSome || s.channelLost g 8

/-- A standard output, 0 for DO01, changed. -/
def State.modDo (s : State) (i : Nat) (f : DoState → DoState) : State := s.modFio fun x => { x with dout := modAt x.dout i f {} }

/-- A standard output, 0 for DO01. -/
def State.dout (s : State) (i : Nat) : DoState := nth s.fio.dout i {}

/-- The coupler group of a standard output. -/
def doGroup (i : Nat) : Nat := 6 + i / 8

/-- The group of a standard output is silent (R302). -/
def State.doSilent (s : State) (i : Nat) : Bool := s.sideSilent (doGroup i)

/-- An output is switched off by overload (R296). -/
def State.doOverloaded (s : State) (i : Nat) : Bool := (s.dout i).overAt.isSome || (s.dout i).latched

/-- PHASE is CONTROL_READY or ATLAS_READY (R32). -/
def State.controlReady (s : State) : Bool := s.r Reg.IMG_MODULE_STATE_PHASE == 1 || s.r Reg.IMG_MODULE_STATE_PHASE == 2

/-- The command that stands for an output: off from supplies valid to CONTROL_READY, off in the standby and in a released module, off on
an output not in use (R56, R295, R301, R365). -/
def State.doStands (s : State) (i : Nat) : Bool :=
  s.controlReady && s.active && !s.rb Reg.MIR_STATUS_RELEASED && s.rb (Reg.FIO_DO_CFG_EN i) && bitAt s.fio.cmd i

/-- The level the field side applies to an output, its off-pulse aside: the last one applied while no new crossing comes (R296, R303,
R304, R310). -/
def State.doLevel (s : State) (i : Nat) : Bool :=
  s.fio.power && !s.doOverloaded i && !s.channelLost (doGroup i) (i % 8) &&
    (if s.doSilent i || s.fio.stopAt.isSome then bitAt s.fio.frozen i && !(s.dout i).expired else s.doStands i)

/-- The field side applies a changed command now: the readback's three points follow (R297). -/
def State.doRestart (s : State) (i : Nat) : State :=
  s.modDo i fun d => { d with at_ := s.optime, judged := 0, bad := 0, good := 0, applied := s.doLevel i }

/-- The level applied to output i has changed: its readback's judging starts anew (R297). -/
def State.doChanged (s : State) (i : Nat) : State := if (s.dout i).applied = s.doLevel i then s else s.doRestart i

/-- The levels applied to all outputs are looked at anew, after a change of what withholds commands (R56, R297, R301). -/
def doRefresh (s : State) : State := (List.range 24).foldl State.doChanged s

/-- A command of a standard output, 1 to 24, stands at its coupler transmit register (R295). -/
def State.doCommand (s : State) (n : Nat) (level : Bool) : State :=
  if n < 1 ∨ 24 < n ∨ bitAt s.fio.cmd (n - 1) = level then s
  else (s.modFio fun x => { x with cmd := setBit x.cmd (n - 1) level }).doChanged (n - 1)

/-- COMPLETE of an item with its writes to data memory and the commands it gave to standard outputs, at rank 4 (R21, R78, R295). An
item that R87 aborts, or that did not run, commands nothing. -/
def completeWith (p mask cycles : Nat) (writes : List (Nat × Byte)) (outs : List (Nat × Bool)) (s : State) : State :=
  let ran := (s.facet p).running.isSome && (s.facet p).latch.isNone && !s.overBudget p cycles
  let s := complete p mask cycles writes s
  if ran then outs.foldl (fun s x => s.doCommand x.1 x.2) s else s

/-- COMPLETE (R78). -/
def execComplete (facet mask cycles : Nat) (writes : List (Nat × Byte)) (outs : List (Nat × Bool)) (s : State) : Res :=
  (s.awake (completeWith facet mask cycles writes outs)).done

/-! ### Losing the role -/

/-- The module drops its role line and serves as standby, DETACHED while the link is down (R355, R359, R363). -/
def dropLine (s : State) : State :=
  let s := s.modMir fun x => { x with
    held := s.saf.req % 64 + 64 * s.r Reg.NET_RESET_LINE, holdAt := s.optime, hb := none, hbMiss := 0, passRun := 0
    syncedAt := none }
  let s := ((s.wb Reg.MIR_STATUS_OWN_LINE false).w Reg.MIR_STATUS_ROLE 2).w Reg.MIR_STATUS_SHADOW (if s.rb Reg.MIR_STATUS_LINK_UP then 1 else 4)
  doRefresh (s.wb Reg.MIR_STATUS_REQ_HOLD (!s.rb Reg.MIR_STATUS_PARTNER_LINE))

/-- The active module resigns: HANDOVER with RESIGN, no further heartbeats, its role line dropped (R359). -/
def resign (s : State) : State := dropLine (s.sendLink (.handover s.mir.k true))

/-- A new trip start, or the clearing of the fault, gives the car loop, the requests and the car set back to the lower ranks (R22). -/
def State.releaseHolds (s : State) : State := { s.freeMarks 0 with trip := { s.trip with loopHeld := false, reqHeld := false } }

/-- A selection of rank 1 or 2 holds the mode of the car loop (R22). -/
def State.holdLoop (s : State) : State := { s with trip := { s.trip with loopHeld := true } }

/-- DRIVE_EN and both brake lifts requested or withdrawn. -/
def State.requestDrive (s : State) (on : Bool) : State := ((s.request 1 on).request 2 on).request 3 on

/-- Both lanes grant DRIVE_EN (R270). -/
def State.granted (s : State) : Bool := (s.lane 0).grant && (s.lane 1).grant

/-- What a lane reports of a brake: 0 applied, 1 lifted, 2 changing (R271). -/
def State.brakeOf (s : State) (l b : Nat) : Nat := (nth (s.lane l).brakes b {}).state

/-- Both lanes report both brakes in a state (R271). -/
def State.brakes (s : State) (v : Nat) : Bool :=
  (List.range 2).all fun l => (List.range 2).all fun b => s.brakeOf l b == v

/-- Both lanes report a brake in a state. -/
def State.brakeIs (s : State) (b v : Nat) : Bool := s.brakeOf 0 b == v && s.brakeOf 1 b == v

/-! ### Inputs of the terminal map -/

/-- A filtered edge of an input that the reference points list is noted with its time and direction (R124, R293), once the tables may
be read (R56). -/
def noteEdge (code : Nat) (s : State) : State :=
  if s.released && s.pos.refs.any fun x => x.input == code then
    { s with pos := { s.pos with edges := s.pos.edges ++ [⟨code, s.inputOn code, s.optime, s.pos.lastDir⟩] } }
  else s

/-- Counters that the terminal map binds to an input take a decrement through port 10; a full FIFO merges it (R293, R449). No table is
read before CONTROL_READY (R56). -/
def portTen (code : Nat) (s : State) : State :=
  (s.fio.map.filter fun x => s.released && x.1 == 1 && x.2.1 == code).foldl
    (fun s x => { s.wake 6 with dsp := (portPush s.dsp 10 ⟨x.2.2 % 4096, none⟩).1 }) s

/-- The input the function map gives a function: 1 LOAD0, 2 LOAD1 (R449). -/
def State.mapInput (s : State) (fn : Nat) : Option Nat :=
  (s.fio.map.find? fun x => x.1 == 0 && x.2.2 == fn).map fun x => x.2.1

/-- The load class the standard inputs give: LOAD0 and LOAD1, or 3 if they are not mapped (R177). -/
def State.loadInputs (s : State) : Nat :=
  match s.mapInput 1, s.mapInput 2 with
  | some x, some y => b2n (s.inputOn x) + 2 * b2n (s.inputOn y)
  | _, _ => 3

/-! ### Loops -/

/-- The engine state of a loop. -/
def State.eng (s : State) (n : Nat) : Engine := nth s.loop.eng n {}

/-- The engine state of a loop changed. -/
def State.modEng (s : State) (n : Nat) (f : Engine → Engine) : State :=
  { s with loop := { s.loop with eng := modAt s.loop.eng n f {} } }

/-- The mode of a loop from the start of its next period (R199). -/
def State.modeNext (s : State) (n m : Nat) : State := s.modEng n fun e => { e with modePend := some m }

/-- The mode of a loop as its next period will find it. -/
def State.modeOf (s : State) (n : Nat) : Nat := (s.eng n).modePend.getD (s.r (Reg.LOOP_CFG_MODE n))

/-- A loop is enabled (R193). -/
def State.loopUsed (s : State) (n : Nat) : Bool := bitAt (s.r Reg.LOOP_STATUS_IN_USE) n

/-- The offset of a section of the loaded core image within the common region (log entry 13). -/
def State.coreOffset (s : State) (kind : Nat) : Nat :=
  match findSection s.img.coreDir kind with
  | some x => x.offset
  | none => 0

end Sys2Proof.Machine
end

