-- ==== Sys2Proof/Machine/Eval.lean ====
section
/-! DEFINITION. The profile evaluator (file 06, R157 to R163, R174, R184): one channel's step, the join check, controlled stops
and going out of service. -/

namespace Sys2Proof.Machine

/-! ### A channel -/

/-- An evaluator channel: 0 the car, 1 to 4 a door operator, 5 the deck. -/
def State.chan (s : State) (k : Nat) : Channel := nth s.trip.chans k {}

/-- An evaluator channel changed. -/
def State.modChan (s : State) (k : Nat) (f : Channel → Channel) : State :=
  { s with trip := { s.trip with chans := modAt s.trip.chans k f {} } }

/-- The trips block changed. -/
def State.modTrip (s : State) (f : TripState → TripState) : State := { s with trip := f s.trip }

/-- The scale of the evaluator's state: 32 fraction bits (R159). -/
def one32 : Int := ((2 ^ 32 : Nat) : Int)

/-- Position, speed and acceleration of a channel's reference (R160). -/
def Channel.refPos (c : Channel) : Int := divZ c.p one32
/-- Reference speed (R160). -/
def Channel.refSpeed (c : Channel) : Int := divZ c.v one32
/-- Reference acceleration (R160). -/
def Channel.refAccel (c : Channel) : Int := divZ c.a one32

/-- The running segment. -/
def Channel.cur (c : Channel) : Seg := nth c.trip.segs c.seg {}

/-- The channel's trip moves: it runs and has not reached HOLD. -/
def Channel.moving (c : Channel) : Bool := c.running && c.cur.ending != 4

/-- Tolerances of the join check: P_TOL in µm, V_TOL in mm/s, A_TOL in mm/s² (R163). -/
structure JoinTol where
  /-- P_TOL -/
  p : Nat
  /-- V_TOL -/
  v : Nat
  /-- A_TOL -/
  a : Nat
  deriving DecidableEq, Repr

/-- What a step of a channel did that others act on. -/
inductive Note where
  /-- an EVAL named a segment at or beyond SEG_COUNT (R161) -/
  | evalBad (i : Nat)
  /-- a SPLICE was accepted (R174) -/
  | spliceSet
  /-- a SPLICE was refused (R174) -/
  | spliceRefused
  /-- a controlled stop began (R184) -/
  | stopStarted
  /-- an EXPECT mismatch at entry of a segment (R163) -/
  | continuity (i : Nat)
  /-- a segment ended (R160) -/
  | segEnd
  /-- a diversion began (R174) -/
  | spliceDone
  /-- the trip reached HOLD (R178) -/
  | hold
  deriving DecidableEq, Repr

/-- A value lies further from an expected one than a tolerance, both in the unit of the expected one. -/
def off (x : Int) (expected : Int) (tol : Nat) : Bool := decide ((tol : Int) * one32 < (mag (x - expected * one32) : Int))

/-- Entry of the running segment: the EXPECT check and HOLD (R157, R163). -/
def Channel.enter (t : JoinTol) (c : Channel) : List Note :=
  let g := c.cur
  (if g.expect && (off c.p g.p0 t.p || off c.v g.v0 (t.v * 1000) || off c.a g.a0 (t.a * 1000)) then [.continuity c.seg] else []) ++
  (if g.ending = 4 then [.hold] else [])

/-- A trip begins at segment 0 from the carried state. -/
def Channel.begin_ (c : Channel) (x : Trip) : Channel :=
  { c with trip := x, running := true, seg := 0, tau := 0, cont := none, spliceX := none, timeout := false, held := false }

/-- A trip or profile begins from a position with v = a = 0 (R214). -/
def Channel.place (c : Channel) (p : Int) : Channel := { c with p := p * one32, v := 0, a := 0 }

/-- The channel between trips: p at the last reference, v and a at 0 (R160). -/
def Channel.idle (c : Channel) : Channel :=
  { (c.place c.refPos) with
    running := false, cont := none, spliceX := none, evalPend := none, splicePend := none, stopPend := none, timeout := false }

/-- p lies at or beyond a position in the trip's direction. -/
def Channel.reached (c : Channel) (x : Int) : Bool :=
  if c.trip.up then decide (x * one32 ≤ c.p) else decide (c.p ≤ x * one32)

/-- An EVAL applied (R161). -/
def Channel.applyEval (t : JoinTol) (i : Nat) (c : Channel) : Channel × List Note :=
  if c.trip.segs.length ≤ i then (c, [.evalBad i])
  else
    let c := if c.cur.spliceOk && i != c.seg then { c with cont := none, spliceX := none } else c
    let c := { c with seg := i, tau := 0, timeout := false, held := false }
    (c, c.enter t)

/-- A SPLICE judged (R174). -/
def Channel.applySplice (x : Trip) (c : Channel) : Channel × List Note :=
  if c.cur.spliceOk && c.cur.bin == x.peakBin && !c.reached x.aux then
    ({ c with cont := some x, spliceX := some x.aux }, [.spliceSet])
  else (c, [.spliceRefused])

/-- The commands pending for a step, in the order of R451: a controlled stop, which discards the others, then an EVAL, then a
SPLICE. -/
def Channel.pending (t : JoinTol) (c : Channel) : Channel × List Note :=
  let d := { c with evalPend := none, splicePend := none, stopPend := none }
  match c.stopPend with
  | some x =>
    let d := d.begin_ x
    (d, .stopStarted :: d.enter t)
  | none =>
    let a := match c.evalPend with
      | some i => d.applyEval t i
      | none => (d, [])
    match c.splicePend with
    | some x =>
      let b := a.1.applySplice x
      (b.1, a.2 ++ b.2)
    | none => a

/-- p, v and a one µs later under constant jerk, each exact and then rounded toward zero to 32 fraction bits (R159). -/
def Channel.integrate (c : Channel) : Channel :=
  let j := c.cur.j * one32
  { c with
    p := divZ (6000000000000000000 * c.p + 6000000000000 * c.v + 3000000 * c.a + j) 6000000000000000000,
    v := divZ (2000000000000 * c.v + 2000000 * c.a + j) 2000000000000,
    a := divZ (1000000 * c.a + j) 1000000 }

/-- The end position of a POS segment (R159, R174). -/
def Channel.endPos (c : Channel) : Int :=
  match c.cur.spliceOk, c.spliceX with
  | true, some x => x
  | _, _ => if c.cur.destRel then c.trip.pDest + c.cur.endVal else c.cur.endVal

/-- The running segment's own end condition (R159). -/
def Channel.done (c : Channel) : Bool :=
  let g := c.cur
  if g.ending = 0 then c.tau == g.dur
  else if g.ending = 1 then c.reached c.endPos
  else if g.ending = 2 then decide ((mag c.v : Int) ≤ g.endVal * one32)
  else (decide (g.j < 0) && decide (c.a ≤ g.endVal * one32)) || (decide (0 < g.j) && decide (g.endVal * one32 ≤ c.a))

/-- The running segment ends: the continuation of a SPLICE_OK segment begins, or the next segment (R159, R174). -/
def Channel.segEnd (t : JoinTol) (c : Channel) : Channel × List Note :=
  match c.cont with
  | some x =>
    if c.cur.spliceOk then
      let d := c.begin_ x
      (d, .segEnd :: .spliceDone :: d.enter t)
    else
      let d := { c with seg := c.seg + 1, tau := 0, timeout := false }
      (d, .segEnd :: d.enter t)
  | none =>
    let d := { c with seg := c.seg + 1, tau := 0, timeout := false, spliceX := none }
    (d, .segEnd :: d.enter t)

/-- The channel with one step of its running segment made, whose end is not yet judged; in HOLD p, v and a stay (R159). -/
def Channel.advance (c : Channel) : Channel :=
  { (if c.cur.ending = 4 then c else c.integrate) with tau := c.tau + 1 }

/-- One step of a channel (R159). A segment that reaches DUR without its own end waits for its SEG_TIMEOUT. -/
def Channel.step (t : JoinTol) (c : Channel) : Channel × List Note :=
  if !c.running then
    ({ c with evalPend := none, splicePend := none, stopPend := none },
      if c.splicePend.isSome then [.spliceRefused] else [])
  else
    let x := c.pending t
    let c := x.1.advance
    if c.cur.ending = 4 then (c, x.2)
    else if c.done then
      let y := c.segEnd t
      (y.1, x.2 ++ y.2)
    else if c.tau = c.cur.dur && c.cur.ending != 0 then ({ c with timeout := true }, x.2)
    else (c, x.2)

/-! ### Bins (R167) -/

/-- The bin of a speed: the largest b with V_LO(b) at most |v|. -/
def binOf (bins : List Nat) (v : Int) : Nat :=
  (List.range bins.length).foldl (fun b i => if nth bins i 0 ≤ mag v then i else b) 0

/-- The signed bin of a speed: 32 more for downward travel. -/
def signedBin (bins : List Nat) (v : Int) : Nat := binOf bins v + (if v < 0 then 32 else 0)

/-- The lower edges of the speed bins. -/
def State.bins (s : State) : List Nat := s.trip.env.bins.map fun b => b.1

/-! ### The stop list's states -/

/-- The car stop an entry maps to (R164). -/
def StopEntry.stop (e : StopEntry) : Nat := if e.upper then e.landing - 1 else e.landing

/-- The entries changed. -/
def State.mapStops (s : State) (f : StopEntry → StopEntry) : State := s.modTrip fun t => { t with stops := t.stops.map f }

/-- Every TARGET or committed entry becomes QUEUED; no target and no commit remains (R176). -/
def State.requeue (s : State) : State :=
  ((s.mapStops fun e => if e.state = 1 then { e with state := 0 } else e).modTrip fun t => { t with commit := none }).w
    Reg.TRIP_TARGET_TARGET 0

/-- STATE of a car that stands: OUT_OF_SERVICE, IDLE between car stops, or HOLD at one. -/
def State.restState (s : State) : Nat :=
  if s.r Reg.TRIP_OOS_CAUSES != 0 then 5 else if s.r Reg.TRIP_STATUS_CAR_STOP = 0 then 0 else 3

/-- A start in progress is given up: its stop is queued again, the requests are withdrawn. -/
def abandonStart (s : State) : State :=
  let s := (s.requeue.modTrip fun t => { t with starting := none }).requestDrive false
  s.w Reg.TRIP_STATUS_STATE s.restState

/-- Entries of a car stop take a state. -/
def State.markStop (s : State) (n state : Nat) : State :=
  s.mapStops fun e => if e.stop = n then { e with state := state } else e

/-! ### Out of service (R190) -/

/-- The car is out of service. -/
def State.outOfService (s : State) : Bool := s.r Reg.TRIP_OOS_CAUSES != 0

/-- The car goes out of service for a cause, or a further cause is recorded (R190). -/
def goOos (cause : Nat) (s : State) : State :=
  let s := if s.outOfService then s
    else
      let s := s.requeue.modTrip fun t => { t with stops := [], starting := none, rescueHeld := none }
      (s.when_ (s.r Reg.TRIP_STATUS_STATE == 1) fun s => s.requestDrive false).when_ (!(s.chan 0).moving) fun s =>
        s.w Reg.TRIP_STATUS_STATE 5
  ((s.setBitOf Reg.TRIP_OOS_CAUSES cause true).w Reg.TRIP_OOS_LAST cause).raise Evt.OUT_OF_SERVICE [.code cause]

/-! ### Controlled stops (R176, R183, R184) -/

namespace StopCause
/-- SEPARATION -/
def separation : Nat := 0
/-- SEP_TIMEOUT -/
def sepTimeout : Nat := 1
/-- LIMIT -/
def limit : Nat := 2
/-- LOSS -/
def loss : Nat := 3
end StopCause

/-- A separation cause is set. -/
def State.sepCause (s : State) : Bool := s.r Reg.TRIP_STATUS_STOP_CAUSE % 4 != 0

/-- The stop of the stop store for a direction, bin and load class (Table 06-4). -/
def State.stopTrip (s : State) (up : Bool) (bin load : Nat) : Trip :=
  nth s.trip.env.stopStore (((if up then 0 else s.trip.env.bins.length) + bin) * 4 + load) {}

/-- The controlled stop for the present direction, bin and load class. -/
def State.presentStop (s : State) : Trip :=
  let v := (s.chan 0).refSpeed
  let up := if v = 0 then s.rb Reg.TRIP_STATUS_DIR else decide (0 < v)
  s.stopTrip up (binOf s.bins v) (s.r Reg.TRIP_STATUS_LOAD_CLASS)

/-- A cause of a controlled stop (R184): added to STOP_CAUSE; a moving car not already stopping takes the stop at rank 2 for
its next step, its marks disarmed and its own program staged (R149); a running stop that becomes a LOSS stop takes the car out of service (R190); a start in
progress is given up; a standing car holds. -/
def ctrlStopGo (cause : Nat) (s : State) : State :=
  let fresh := !bitAt (s.r Reg.TRIP_STATUS_STOP_CAUSE) cause
  let s := s.setBitOf Reg.TRIP_STATUS_STOP_CAUSE cause true
  let c := s.chan 0
  if c.moving then
    if c.trip.kind = 4 then s.when_ (cause == StopCause.loss && fresh) (goOos 3)
    else if c.stopPend.isSome then s
    else
      let x := s.presentStop
      let s := s.modChan 0 fun c => { c with stopPend := some x, evalPend := none, splicePend := none, cont := none, spliceX := none }
      let s := reactSet 0 (s.modTrip fun t => { t with stopCode := cause, frozen := false })
      let s := (s.wb Reg.TRIP_STATUS_CONTINUATION false).wb Reg.TRIP_STATUS_FINISH false
      reactLoad 0 x.region x.retProg s
  else if s.r Reg.TRIP_STATUS_STATE = 1 then abandonStart (reactSet 0 s)
  else s

/-- A cause of a controlled stop, decided by the active module and entered in its journal (R184, R354). -/
def ctrlStop (cause : Nat) (s : State) : State :=
  if s.active then ctrlStopGo cause (s.journal (.ctrlStop cause)) else s

/-! ### Causes of an end of service (R190) -/

/-- A cause that takes effect after the running trip ends (Table 06-9, R272). -/
def oosAfterTrip (cause : Nat) (s : State) : State :=
  if (s.chan 0).moving then
    if s.trip.oosDue.elem cause then s else s.modTrip fun t => { t with oosDue := t.oosDue ++ [cause] }
  else goOos cause s

/-- A TRIP_LIMIT fault latches and starts a controlled stop with cause LIMIT (R163). -/
def tripLimit (kind : Nat) (s : State) : State :=
  if s.rb Reg.TRIP_STATUS_TRIP_LIMIT then s
  else
    let s := (s.wb Reg.TRIP_STATUS_TRIP_LIMIT true).raise Evt.TRIP_LIMIT [.code kind]
    oosAfterTrip 0 (ctrlStop StopCause.limit s)

/-! ### Car stops (R164) -/

/-- A car stop of the stop map, 1 to N_STOPS. -/
def State.carStop (s : State) (n : Nat) : CarStop := if n = 0 then {} else nth s.trip.env.stops (n - 1) {}

/-- The VALID car stops. -/
def State.validStops (s : State) : List Nat :=
  ((List.range s.trip.env.stops.length).map fun i => i + 1).filter fun n => (s.carStop n).valid

/-- The car stop of a list nearest to a position, the lower one on a tie; 0 for an empty list (R171, R180). -/
def State.nearest (s : State) (l : List Nat) (p : Int) : Nat :=
  l.foldl (fun b n =>
    if b = 0 then n
    else
      let dn := mag ((s.carStop n).pos - p)
      let db := mag ((s.carStop b).pos - p)
      if dn < db || (dn = db && decide ((s.carStop n).pos < (s.carStop b).pos)) then n else b) 0

/-- The car stop within RELEVEL_START of the reported position, 0 if there is none (log entry 17). -/
def State.stopHere (s : State) : Nat :=
  let n := s.nearest s.validStops s.pos.sample.pos
  if n ≠ 0 ∧ mag ((s.carStop n).pos - s.pos.sample.pos) ≤ s.trip.env.relevelStart then n else 0

end Sys2Proof.Machine
end

