-- ==== Sys2Proof/Machine/Door.lean ====
section
/-! DEFINITION. Door operators and the deck (file 07, R211 to R226, R453): profiles, starts and stops, reversal, obstruction,
kinetic energy, faults and the door cycle. -/

namespace Sys2Proof.Machine

/-! ### Operators -/

/-- A door operator, 1 to 4. -/
def State.door (s : State) (d : Nat) : DoorOp := nth s.loop.ops (d - 1) {}

/-- A door operator changed. -/
def State.modDoor (s : State) (d : Nat) (f : DoorOp → DoorOp) : State :=
  { s with loop := { s.loop with ops := modAt s.loop.ops (d - 1) f {} } }

/-- The deck changed. -/
def State.modDeck (s : State) (f : DeckState → DeckState) : State := { s with loop := { s.loop with deck := f s.loop.deck } }

/-- The quadrature channel of an operator. -/
def State.doorChan (s : State) (d : Nat) : Nat := s.r (Reg.LOOP_DOOR_CFG_CHANNEL (d - 1))

/-- The operator's channel is HOMED. -/
def State.doorHomed (s : State) (d : Nat) : Bool := s.rb (Reg.PFE_QD_STATUS_HOMED (s.doorChan d))

/-- DOOR_FAULT is latched on an operator. -/
def State.doorFaulted (s : State) (d : Nat) : Bool := s.rb (Reg.LOOP_DOOR_STATUS_DOOR_FAULT (d - 1))

/-- The position of an operator at the latest door sample. -/
def State.doorAt (s : State) (d : Nat) : Int := nth s.pos.doorPos (d - 1) 0

/-- The closed-limit input of an operator is active. -/
def State.closedInput (s : State) (d : Nat) : Bool := s.inputOn (s.r (Reg.LOOP_DOOR_CFG_CLOSED_INPUT (d - 1)))

/-- A profile by its number, if the DOORS section has it. -/
def State.profile? (s : State) (n : Nat) : Option Profile := (s.loop.doors.profiles.find? fun x => x.1 == n).map fun x => x.2

/-- The profile running on an operator, if one runs. -/
def State.runningProfile (s : State) (d : Nat) : Option Profile := (s.door d).profile.bind s.profile?

/-- The window address of an offset in the DOORS section (R213, log entry 13). -/
def State.doorsAddr (s : State) (o : Nat) : Nat := 0x3C000000 + s.coreOffset 7 + o

/-- Tolerances of the join check (R163). -/
def State.joinTol (s : State) : JoinTol := ⟨s.r Reg.TRIP_TOL_P_TOL, s.r Reg.TRIP_TOL_V_TOL, s.r Reg.TRIP_TOL_A_TOL⟩

/-- An EXPECT mismatch of a channel (R163). -/
def continuityEvent (k i : Nat) (s : State) : State :=
  (s.when_ (k == 0) fun s => s.wb Reg.TRIP_LIMIT_STATUS_CONT true).raise Evt.TRIP_CONTINUITY [.code k, .code i]

/-! ### The door cycle (R225) -/

/-- The door cycle is complete. -/
def State.cycleComplete (s : State) : Bool :=
  [1, 2, 3, 4].all fun d =>
    if s.loop.doorSet.elem d then (s.door d).closed && !s.doorFaulted d
    else !s.loopUsed d || s.closedInput d

/-- DOOR_CYCLE_DONE is raised when the cycle becomes complete. -/
def cycleCheck (s : State) : State :=
  let c := s.cycleComplete
  let s' := { s with loop := { s.loop with cycleDone := c } }
  if c && !s.loop.cycleDone then s'.raise Evt.DOOR_CYCLE_DONE [.code (s.r Reg.TRIP_STATUS_CAR_STOP)] else s'

/-- The operators whose (DECK, SIDE) appears in the door masks of the entries at a car stop (R225). -/
def State.doorSetOf (s : State) (stop : Nat) : List Nat :=
  [1, 2, 3, 4].filter fun d => s.loopUsed d && s.trip.stops.any fun e =>
    e.stop == stop && (e.upper == s.rb (Reg.LOOP_DOOR_CFG_DECK (d - 1))) &&
      bitAt e.doors (s.r (Reg.LOOP_DOOR_CFG_SIDE (d - 1)))

/-- A trip reaches HOLD at a car stop: its door set; where the car has arrived there, and has not only levelled, no CLOSE since
(R225). -/
def doorsArrive (stop : Nat) (levelled : Bool) (s : State) : State :=
  let set := s.doorSetOf stop
  cycleCheck { s with loop := { s.loop with
    doorSet := set, cycleDone := levelled && s.loop.cycleDone,
    ops := if levelled then s.loop.ops else s.loop.ops.map fun o => { o with closed := false } } }

/-! ### HOLD of a profile (R214, R221) -/

/-- STATE of LOOP_DOOR_STATUS while a profile of a kind runs. -/
def runState (kind : Nat) : Nat :=
  if kind = 0 then 2 else if kind = 1 then 4 else if kind = 2 then 5 else if kind = 3 then 6 else if kind = 5 then 0 else 7

/-- STATE once a profile of a kind has reached HOLD. -/
def holdState (kind : Nat) : Nat :=
  if kind = 0 then 3 else if kind = 1 then 1 else if kind = 2 then 3 else if kind = 3 then 1 else if kind = 5 then 1 else 7

/-- The mode of a door loop at HOLD: FORCE, or OFF for HOLD_FORCE 0 and for the STOP branch of a DOOR_FAULT, whether or not the
fault has been cleared since (R214, R223). -/
def holdMode (s : State) (d : Nat) (p : Profile) : Nat :=
  if p.holdForce = 0 || s.doorFaulted d || (s.door d).faultStop then 0 else 3

/-- The running profile of an operator reaches HOLD; one selected by a reaction gives the operator back to the lower ranks, which
the end of the abandoned profile does not (R214, R220, R221, R225). -/
def doorHold (d : Nat) (s : State) : State :=
  match s.runningProfile d with
  | none => s
  | some p =>
    let close := (p.kind == 1 || p.kind == 3) && s.closedInput d
    let s := s.when_ close (recDoorClose d (s.since (s.door d).startAt / 1000))
    let s := recFePeak d (s.eng d).epPeak s
    let m := holdMode s d p
    let s := s.when_ (s.door d).revPend.isNone fun s => s.freeMarks d
    let s := (s.modChan d Channel.idle).modDoor d fun o => { o with
      profile := none, rank2 := o.rank2 && o.revPend.isSome, faultStop := false, holdForce := p.holdForce, closed := close }
    let s := s.when_ close fun s => s.w (Reg.LOOP_DOOR_STATUS_REV_COUNT (d - 1)) 0
    let s := s.w (Reg.LOOP_DOOR_STATUS_STATE (d - 1)) (holdState p.kind)
    cycleCheck (s.modeNext d m)

/-! ### The beginning of a profile (R213, R214) -/

/-- A loop is OFF or in FORCE: a profile then starts from the measured position. -/
def State.loopResting (s : State) (n : Nat) : Bool := s.modeOf n == 0 || s.modeOf n == 3

/-- A profile begins on an operator; reaction says that a fault reaction of rank 2 begins it (R149, R214, R220). -/
def beginProfile (d n : Nat) (reaction : Bool) (s : State) : State :=
  match s.profile? n with
  | none => s
  | some p =>
    let place := s.loopResting d
    let x := s.doorAt d
    let s := s.modChan d fun c => (if place then c.place x else c).begin_ p.toTrip
    let s := s.modDoor d fun o => { o with
      profile := some n, startPend := none, held := none, revPend := none, obsPend := false, rank2 := reaction,
      faultStop := false, closed := false, startAt := s.optime }
    let s := s.modEng d fun e => { e with epPeak := 0 }
    let s := (s.w (Reg.LOOP_DOOR_STATUS_STATE (d - 1)) (runState p.kind)).w (Reg.LOOP_DOOR_STATUS_PROFILE (d - 1)) n
    let s := (s.wb (Reg.LOOP_DOOR_STATUS_DECK_HOLD (d - 1)) false).modeNext d (if p.speedMode then 2 else 1)
    let s := if reaction then beginStaged d (s.doorsAddr 0) p.retProg s else beginProgram d (s.doorsAddr 0) p.retProg s
    let c := s.chan d
    let s := s.when_ ((c.enter s.joinTol).any fun x => x == Note.continuity 0) (continuityEvent d 0)
    cycleCheck (s.when_ (c.cur.ending == 4) (doorHold d))

/-- What waits of the commands of ranks 3 and 4 to an operator is discarded (R21, R220). -/
def dropStarts (d : Nat) (s : State) : State :=
  (s.modDoor d fun o => { o with startPend := none, held := none }).wb (Reg.LOOP_DOOR_STATUS_DECK_HOLD (d - 1)) false

/-- The loop of an operator goes OFF at the next period; its channel stands, and no command waits (R453). -/
def doorOff (d : Nat) (s : State) : State :=
  let s := ((dropStarts d s).modChan d Channel.idle).modDoor d fun o => { o with
    profile := none, rank2 := false, faultStop := false, revPend := none, obsPend := false }
  cycleCheck ((s.w (Reg.LOOP_DOOR_STATUS_STATE (d - 1)) 7).modeNext d 0)

/-- The program of a profile that a reaction selects is staged (R219). -/
def stageProfile (d n : Nat) (s : State) : State :=
  match s.profile? n with
  | some q => if q.retProg = 0 then s else reactLoad d (s.doorsAddr 0) q.retProg s
  | none => s

/-- The STOP branch of the running profile is called for: it begins from the carried state and, where a reaction calls for it, its
program is staged in the same step; a running STOP runs on, at the rank of the call (R219, R453). -/
def stopBranch (d : Nat) (reaction : Bool) (s : State) : State :=
  match s.runningProfile d with
  | none => s
  | some p =>
    let s := s.when_ reaction (reactSet d)
    match p.stop with
    | some m => beginProfile d m reaction (s.when_ reaction (stageProfile d m))
    | none => if p.kind = 4 then s.modDoor d fun o => { o with rank2 := o.rank2 || reaction } else doorOff d s

/-! ### Faults (R203, R210, R223) -/

/-- DOOR_FAULT latches on an operator, whose set's marks are disarmed at rank 2 whether or not a profile runs (R149, R223). -/
def doorFault (d cause : Nat) (s : State) : State :=
  if s.doorFaulted d then s
  else
    let s := (s.wb (Reg.LOOP_DOOR_STATUS_DOOR_FAULT (d - 1)) true).w (Reg.LOOP_DOOR_STATUS_CAUSE (d - 1)) cause
    let s := (s.raise Evt.DOOR_FAULT [.code d, .code cause]).modDoor d fun o => { o with
      startPend := none, held := none, revPend := none, obsPend := false, keRun := 0 }
    let s := s.wb (Reg.LOOP_DOOR_STATUS_DECK_HOLD (d - 1)) false
    if (s.door d).profile.isSome then
      cycleCheck ((stopBranch d true s).modDoor d fun o => { o with faultStop := o.profile.isSome })
    else cycleCheck (((reactSet d s).modDoor d fun o => { o with rank2 := false }).modeNext d 0)

/-- DECK_FAULT latches with a cause of Table 07-7. -/
def deckFault (cause : Nat) (s : State) : State :=
  if s.rb Reg.LOOP_DECK_STATUS_DECK_FAULT then s
  else ((s.wb Reg.LOOP_DECK_STATUS_DECK_FAULT true).w Reg.LOOP_DECK_STATUS_CAUSE cause).raise Evt.DECK_FAULT [.code cause]

/-- DECK_FAULT latches for a fault of the deck's drive (R207), for which Table 07-7 has no cause: the cause is a free value. -/
def deckDriveFault (s : State) : State :=
  if s.rb Reg.LOOP_DECK_STATUS_DECK_FAULT then s else deckFault (s.freeNat 3) s.took

/-! ### The deck (R211, R212) -/

/-- The deck position from a count, µm (R211). -/
def State.deckPosition (s : State) (count : Int) : Int :=
  divOpen (count * (s.r Reg.LOOP_DECK_SCALE : Int)) 1000 + s.loop.deck.offset

/-- A deck move is pending or running. -/
def State.deckMoving (s : State) : Bool := s.loop.deck.movePend.isSome || s.rb Reg.LOOP_DECK_STATUS_MOVING

/-- The deck is in position (R212). -/
def State.deckInPosition (s : State) : Bool :=
  !s.deckMoving && decide (mag (s.ri Reg.LOOP_DECK_POS - s.ri Reg.LOOP_DECK_TARGET) ≤ s.r Reg.LOOP_DECK_CFG_DECK_TOL)

/-- The index of a spacing value. -/
def State.spacingIndex (s : State) (x : Int) : Option Nat := s.loop.doors.head.spacings.findIdx? (· == x)

/-- The deck target is set; a changed target makes a move pending, and TO shows it (R212). -/
def deckTarget (x : Int) (s : State) : State :=
  if !s.loopUsed 5 || s.ri Reg.LOOP_DECK_TARGET = x then s
  else
    match s.spacingIndex x with
    | some j => ((s.wi Reg.LOOP_DECK_TARGET x).w Reg.LOOP_DECK_STATUS_TO j).modDeck fun k => { k with movePend := some j }
    | none => s.wi Reg.LOOP_DECK_TARGET x

/-- A deck profile reaches HOLD: the deck stays in POSITION at its end position (R212, R214). -/
def deckHold (s : State) : State :=
  let s := ((recFePeak 5 (s.eng 5).epPeak s).modChan 5 Channel.idle).modDeck fun k => { k with profile := none }
  if s.rb Reg.LOOP_DECK_STATUS_MOVING then
    ((s.wb Reg.LOOP_DECK_STATUS_MOVING false).modeNext 5 1).raise Evt.DECK_DONE [.code s.loop.deck.dest]
  else s.modeNext 5 1

/-- A profile begins on the deck; DECK_HOME runs in SPEED (R211, R214). -/
def deckBegin (n : Nat) (s : State) : State :=
  match s.profile? n with
  | none => s
  | some p =>
    let place := s.loopResting 5
    let x := s.ri Reg.LOOP_DECK_POS
    let s := s.modChan 5 fun c => (if place then c.place x else c).begin_ p.toTrip
    let s := ((s.modDeck fun k => { k with profile := some n }).modEng 5 fun e => { e with epPeak := 0 }).modeNext 5 (if p.speedMode || p.kind == 5 then 2 else 1)
    let s := s.wb Reg.LOOP_DECK_STATUS_MOVING (p.kind == 6)
    let c := s.chan 5
    let s := s.when_ ((c.enter s.joinTol).any fun x => x == Note.continuity 0) (continuityEvent 5 0)
    s.when_ (c.cur.ending == 4) deckHold

/-- A pending deck move starts once no move runs (R212). -/
def deckMoveStart (s : State) : State :=
  match s.loop.deck.movePend with
  | none => s
  | some j =>
    if s.rb Reg.LOOP_DECK_STATUS_MOVING then s
    else
      let i := s.loop.deck.dest
      let s := s.modDeck fun k => { k with movePend := none, dest := j }
      if i = j then s
      else
        let s := s.w Reg.LOOP_DECK_STATUS_FROM i
        match s.loop.doors.head.moves.find? fun x => x.1 == 16 * i + j with
        | some x => deckBegin x.2 s
        | none => s

/-- A filtered edge of the DECK_REF input (R211). -/
def deckReference (s : State) : State :=
  let c := s.qdCount (s.r Reg.LOOP_DECK_CFG_CHANNEL)
  let s := s.modDeck fun k => { k with
    offset := s.ri Reg.LOOP_DECK_REF_POS - divOpen (c * (s.r Reg.LOOP_DECK_SCALE : Int)) 1000 }
  let s := ((s.wb Reg.LOOP_DECK_STATUS_HOMED true).wi Reg.LOOP_DECK_POS (s.ri Reg.LOOP_DECK_REF_POS)).raise Evt.DECK_HOMED [.code 0]
  match s.loop.deck.profile.bind s.profile? with
  | some p =>
    if p.kind = 5 then
      ((s.modChan 5 fun c => (c.place (s.ri Reg.LOOP_DECK_REF_POS)).idle).modDeck fun k => { k with profile := none }).modeNext 5 1
    else s
  | none => s

/-! ### Commands to an operator (R217 to R221) -/

/-- A start that is discarded (R217). -/
def discardStart (d n : Nat) (s : State) : State := s.raise Evt.DOOR_CMD_DISCARDED [.code d, .ident n]

/-- The profile a start of a CLOSE begins: its NUDGE from the third reversal on (R221). -/
def nudged (d n : Nat) (p : Profile) (s : State) : Nat × State :=
  if p.kind = 1 && decide (3 ≤ s.r (Reg.LOOP_DOOR_STATUS_REV_COUNT (d - 1))) then
    match p.nudge with
    | some m => (m, s.raise Evt.DOOR_NUDGE [.code d])
    | none => (n, s)
  else (n, s)

/-- A DOOR start (R217, R221): discarded, held until the deck is in position, or taken for the channel's next step. During a
reaction of rank 2 it has no effect (R220). -/
def doorStart (d n : Nat) (s : State) : State :=
  if (s.door d).rank2 then s
  else
    match s.profile? n with
    | none => discardStart d n s
    | some p =>
      if !(p.kind == 0 || p.kind == 1 || p.kind == 5) || s.doorFaulted d || (!s.doorHomed d && p.kind != 5) then discardStart d n s
      else if p.kind = 0 && !s.deckInPosition then
        ((s.modDoor d fun o => { o with held := some n, startPend := none }).wb
          (Reg.LOOP_DOOR_STATUS_DECK_HOLD (d - 1)) true).raise Evt.DECK_HOLD [.code d]
      else
        let x := nudged d n p s
        x.2.modDoor d fun o => { o with startPend := some x.1, held := none }

/-- A detection has selected, or selects at the next step, a branch at rank 2 (R219, R220). -/
def State.doorTaken (s : State) (d : Nat) : Bool := (s.door d).rank2 || (s.door d).obsPend

/-- A held OPEN begins at the first step with the deck in position, and not during a brake test; a selection of rank 2 goes before it
(R21, R217, R220, R273). -/
def doorOpenRelease (d : Nat) (s : State) : State :=
  match (s.door d).held with
  | some n => if s.deckInPosition && s.saf.bt.brake == 0 && !s.doorTaken d then beginProfile d n false s else s
  | none => s

/-- A DOOR stop (R217, R220). -/
def doorStop (d : Nat) (s : State) : State := if (s.door d).rank2 then s else stopBranch d false s

/-- The entry of a reversal table, whose edges ascend, for a door position: the largest EDGE at or below it, or the first (R213,
R219). -/
def reversalEntry (l : List (Int × Nat)) (x : Int) : Nat := (l.takeWhile fun e => decide (e.1 ≤ x)).length - 1

/-- The selection at the channel's step after a detection: a reversal whose program is staged, or the STOP branch (R219). Starts that
wait are discarded (R21, R220). -/
def doorSelect (d : Nat) (s : State) : State :=
  if !(s.door d).obsPend then s
  else
    let s := dropStarts d (s.modDoor d fun o => { o with obsPend := false })
    match s.runningProfile d with
    | none => s
    | some p =>
      if p.revTab.isEmpty || p.kind = 0 then stopBranch d true s
      else
        let i := reversalEntry p.revTab (s.doorAt d)
        let n := (nth p.revTab i (0, 0)).2
        stageProfile d n ((reactSet d s).modDoor d fun o => { o with revPend := some (n, i), rank2 := true })

/-- A selected reversal begins once its program is staged (R219, R221). -/
def doorReversal (d : Nat) (s : State) : State :=
  match (s.door d).revPend with
  | none => s
  | some (n, i) =>
    match s.profile? n with
    | none => s
    | some q =>
      if q.retProg = 0 || s.holdsStaged d (s.doorsAddr 0 + q.retProg) then
        let s := (s.inc (Reg.LOOP_DOOR_STATUS_REV_COUNT (d - 1))).inc (Reg.LOOP_DOOR_OBS_REVERSALS (d - 1))
        let s := s.raise Evt.DOOR_REVERSAL [.code d, .code i, .code (s.r (Reg.LOOP_DOOR_STATUS_REV_COUNT (d - 1)))]
        beginProfile d n true s
      else s

/-- A pending start begins at the channel's step; a running brake test holds it, and a selection of rank 2 stands before it (R217, R220,
R273). -/
def doorBeginPending (d : Nat) (s : State) : State :=
  match (s.door d).startPend with
  | some n => if s.saf.bt.brake = 0 && !(s.door d).rank2 then beginProfile d n false s else s
  | none => s

/-- A filtered edge of an operator's closed-limit input ends DOOR_HOME and holds the door (R115, R217). -/
def doorClosedEdge (d : Nat) (s : State) : State :=
  let s := doorReference (s.doorChan d) s
  match s.runningProfile d with
  | some p =>
    if p.kind = 5 then
      let m := holdMode s d p
      let s := (s.modChan d Channel.idle).modDoor d fun o => { o with profile := none, rank2 := false, holdForce := p.holdForce }
      (s.w (Reg.LOOP_DOOR_STATUS_STATE (d - 1)) 1).modeNext d m
    else s
  | none => s

/-- A filtered edge of an input named by its code reaches the counters, the reference points, the doors and the deck that name it
(R293, R115, R124, R211). -/
def doorInputEdge (code : Nat) (s : State) : State :=
  let s := noteEdge code (portTen code s)
  let s := [1, 2, 3, 4].foldl (fun s d =>
    if s.loopUsed d && s.r (Reg.LOOP_DOOR_CFG_CLOSED_INPUT (d - 1)) == code then doorClosedEdge d s else s) s
  let s := if s.loopUsed 5 && s.r Reg.LOOP_DECK_CFG_REF_INPUT == code then deckReference s else s
  cycleCheck s

/-! ### Obstruction and kinetic energy (R218, R222) -/

/-- A detection is reported (R218). -/
def obstruct (d source : Nat) (s : State) : State :=
  let mm := divOpen (s.doorAt d) 1000
  ((s.w (Reg.LOOP_DOOR_OBS_SOURCE (d - 1)) source).wi (Reg.LOOP_DOOR_OBS_POS_MM (d - 1)) mm).raise Evt.DOOR_OBSTRUCT
    [.code d, .code source, .signed mm]

/-- A detection selects a branch at the channel's next step, unless one is selected already (R218, R220). -/
def select (d : Nat) (s : State) : State :=
  if (s.door d).rank2 then s else s.modDoor d fun o => { o with obsPend := true }

/-- The expected force at a door position (R218). -/
def ForceTable.at_ (t : ForceTable) (x : Int) : Int :=
  let i := (divImg x (t.posStep : Int)).toNat
  nth t.forces (min i (t.forces.length - 1)) 0

/-- The force detection of a period with force f against motion (R218). -/
def forceDetect (d : Nat) (p : Profile) (f : Int) (s : State) : State :=
  match p.torq with
  | none => s
  | some t =>
    let n := if t.at_ (s.doorAt d) + t.margin < f then (s.door d).obsRun + 1 else 0
    if n ≠ 0 && decide (t.obsN ≤ n) then
      let s := obstruct d 0 (s.modDoor d fun o => { o with obsRun := 0 })
      if p.kind = 0 || p.kind = 1 || p.kind = 3 then select d s else s
    else s.modDoor d fun o => { o with obsRun := n }

/-- The level detections of a period: light curtain and safety edge while a CLOSE or NUDGE runs (R218). -/
def levelDetect (d : Nat) (p : Profile) (s : State) : State :=
  if p.kind = 1 || p.kind = 3 then
    let s := if s.inputOn (s.r (Reg.LOOP_DOOR_CFG_LC_INPUT (d - 1))) then
        (obstruct d 1 s).when_ (p.kind == 1 || !p.lcIgnore) (select d)
      else s
    if s.inputOn (s.r (Reg.LOOP_DOOR_CFG_EDGE_INPUT (d - 1))) then select d (obstruct d 2 s) else s
  else s

/-- Kinetic energy in units of 1 / (2 × 10^10) mJ: MASS × v² (R222). -/
def kinetic (mass : Nat) (v : Int) : Nat := mass * (mag v * mag v)

/-- The kinetic-energy rule of a period with reference speed vr and measured speed v (R222). -/
def kineticCheck (d : Nat) (p : Profile) (vr v : Int) (s : State) : State :=
  let mj := (divOpen (kinetic p.mass v : Int) 20000000000).toNat
  let s := (s.w (Reg.LOOP_DOOR_KE_KE (d - 1)) (satN 16 mj)).peak (Reg.LOOP_DOOR_KE_PEAK (d - 1)) mj
  let refOut := decide (p.keMax * 20000000000 < kinetic p.mass vr)
  let measOut := decide (p.keMax * s.r (Reg.LOOP_DOOR_LIM_KE_TRIP (d - 1)) * 200000000 < kinetic p.mass v)
  let s := s.when_ refOut fun s => s.raise Evt.DOOR_LIMIT [.code d, .code 0]
  let s := s.when_ measOut fun s => s.raise Evt.DOOR_LIMIT [.code d, .code 1]
  s.modDoor d fun o => { o with
    keRun := if refOut || measOut then o.keRun + 1 else 0, keKind := if refOut then 1 else if measOut then 2 else o.keKind }

/-- KE_N consecutive periods with a violation latch DOOR_FAULT (R222, R223). -/
def kineticFault (d : Nat) (s : State) : State :=
  let n := s.r (Reg.LOOP_DOOR_LIM_KE_N (d - 1))
  if n ≠ 0 ∧ n ≤ (s.door d).keRun then doorFault d (s.door d).keKind s else s

/-- The measured door speed from the door samples (R216). -/
def State.doorSpeed (s : State) (d : Nat) : Int :=
  let w := s.r (Reg.LOOP_DOOR_LIM_DOOR_SPEED_WIN (d - 1))
  let l := (s.door d).samples
  divOpen ((nth l 0 0 - nth l w 0) * 250000) (w : Int)

/-! ### Door outputs (R215) -/

/-- The STOP branch that R223 began runs. -/
def State.faultBranch (s : State) (d : Nat) : Bool := (s.door d).faultStop && (s.door d).profile.isSome

/-- EN of an operator (R215). -/
def State.doorEn (s : State) (d : Nat) : Bool :=
  s.r (Reg.LOOP_CFG_MODE d) != 0 && (!s.doorFaulted d || s.faultBranch d)

/-- The duty and the direction an output gives, for the next PWM period start (R215). -/
def doorDuty (d : Nat) (u : Int) (s : State) : State :=
  let n := min (divImg (2500 * mag u : Nat) (s.r (Reg.LOOP_DOOR_PWM_FS (d - 1)))).toNat (s.r (Reg.LOOP_DOOR_LIM_DUTY_MAX (d - 1)))
  s.modDoor d fun o => { o with dutyNext := n, dirNext := decide (0 < u) != s.rb (Reg.LOOP_DOOR_CFG_DIR_INV (d - 1)) }

/-- A PWM period starts: the duty and direction of every set are taken (R215). -/
def pwmStart (s : State) : State :=
  [1, 2, 3, 4].foldl (fun s d =>
    let o := s.door d
    (s.w (Reg.LOOP_DOOR_DUTY_DUTY (d - 1)) o.dutyNext).wb (Reg.LOOP_DOOR_DUTY_DIR (d - 1)) o.dirNext) s

/-- A DOOR start of the active module, entered in its journal (R217, R354); one that a handover or an adoption holds is
kept (R363, R367). -/
def doorStartCmd (d profile : Nat) (s : State) : State :=
  if !s.active then s
  else if s.rb Reg.MIR_STATUS_HOLD_STARTS then s.modMir fun x => { x with heldDoors := x.heldDoors ++ [(d, profile)] }
  else doorStart d profile (s.journal (.doorStart d profile))

/-- A DOOR stop of the active module, entered in its journal (R453, R354). -/
def doorStopCmd (d : Nat) (s : State) : State := if s.active then doorStop d (s.journal (.doorStop d)) else s

/-! ### Meanings -/

/-- DECK_MOVE_START (R212). -/
def execDeckMoveStart (s : State) : Res := (s.awake deckMoveStart).done
/-- DOOR_START (R217). -/
def execDoorStart (op profile : Nat) (s : State) : Res := (s.graphDoes (doorStartCmd (op % 4 + 1) profile)).done
/-- DOOR_OPEN_RELEASE (R217). -/
def execDoorOpenRelease (op : Nat) (s : State) : Res := (s.awake (doorOpenRelease (op % 4 + 1))).done
/-- DOOR_STOP (R453). -/
def execDoorStop (op : Nat) (s : State) : Res := (s.graphDoes (doorStopCmd (op % 4 + 1))).done
/-- DOOR_REVERSAL (R219). -/
def execDoorReversal (op : Nat) (s : State) : Res := (s.awake (doorReversal (op % 4 + 1))).done
/-- DOOR_FAULT (R223): KE_N consecutive violations. -/
def execDoorFault (op : Nat) (s : State) : Res := (kineticFault (op % 4 + 1) s).done

end Sys2Proof.Machine
end

