-- ==== Sys2Proof/Machine/Loop.lean ====
section
/-! DEFINITION. The loop engines (file 07): the cascade, its modes, following error, torque delivery over DriveLink and the
analog outputs, the spare engine and LOOP_CMD (R193 to R210, R224). -/

namespace Sys2Proof.Machine

/-! ### Periods (R194) -/

/-- Microseconds since the first tick after CONTROL_READY. -/
def State.loopT (s : State) : Nat := s.since s.loop.readyAt

/-- The count of R194 has begun: CONTROL_READY lies before this tick. -/
def State.counting (s : State) : Bool := s.controlReady && decide (s.loop.readyAt ≤ s.optime)

/-- Microseconds since a time, or since the first tick after CONTROL_READY where there is none. -/
def State.sinceOrReady (s : State) (t : Option Time) : Nat :=
  match t with
  | some t => s.since t
  | none => if s.counting then s.loopT else 0

/-- The length of the car period that begins at this tick, if one does. -/
def State.carPeriod (s : State) : Option Nat :=
  if !s.counting then none else if s.loopT % 125 = 0 then some 62 else if s.loopT % 125 = 62 then some 63 else none

/-- A door period begins at this tick. -/
def State.doorPeriod (s : State) : Bool := s.counting && s.loopT % 125 == 0

/-- The number of the car period that begins at this tick: the module's own count with the pair's offset (R352). -/
def State.periodIndex (s : State) : Nat := ((2 * s.loopT + 124) / 125 + s.mir.kOfs) % 2 ^ 32

/-! ### Engines (R193, R208 to R210) -/

/-- The engine of a loop; 15 for none. -/
def State.engineOf (s : State) (n : Nat) : Nat := bits (s.r Reg.LOOP_MAP) (4 * n + 3) (4 * n)

/-- An engine is given to a loop. -/
def State.setEngine (s : State) (n e : Nat) : State :=
  s.w Reg.LOOP_MAP (s.r Reg.LOOP_MAP - s.engineOf n * 16 ^ n + e * 16 ^ n)

/-- The spare engines, ascending: unfenced and not mapped. -/
def State.spares (s : State) : List Nat :=
  (List.range 7).filter fun e => !bitAt (s.r Reg.LOOP_FENCED) e && (List.range 6).all fun n => s.engineOf n != e

/-- SPARES follows the engines. -/
def State.countEngines (s : State) : State := s.w Reg.LOOP_STATUS_SPARES s.spares.length

/-- An engine is fenced. -/
def State.fenceEngine (s : State) (e : Nat) : State := (s.setBitOf Reg.LOOP_FENCED e true).countEngines

/-- LOOP_LOST is latched on a loop. -/
def State.loopLost (s : State) (n : Nat) : Bool := s.rb (Reg.LOOP_STATE_LOOP_LOST n)

/-! ### Nodes and faults (R204, R207, R210) -/

/-- OUT of a loop names a DriveLink node, 1 or 2. -/
def State.outNames (s : State) (n node : Nat) : Bool :=
  s.loopUsed n && (let o := s.r (Reg.LOOP_CFG_OUT n); if node = 1 then o == 0 || o == 4 else o == 1)

/-- The loop a node serves: CAR, DECK or none (R204). -/
def State.nodeLoop (s : State) (node : Nat) : Option Nat :=
  if s.outNames 0 node then some 0 else if s.outNames 5 node then some 5 else none

/-- DRIVELINK_LOST or DRIVE_FAULT is latched for a node. -/
def State.nodeFault (s : State) (node : Nat) : Bool :=
  if node = 1 then s.rb Reg.LOOP_DL_STATUS_1_DRIVELINK_LOST || s.rb Reg.LOOP_DL_STATUS_1_DRIVE_FAULT
  else s.rb Reg.LOOP_DL_STATUS_2_DRIVELINK_LOST || s.rb Reg.LOOP_DL_STATUS_2_DRIVE_FAULT

/-- A fault of R207 stands for a loop: of a node that serves it, or LOOP_LOST. -/
def State.driveFaulted (s : State) (n : Nat) : Bool :=
  s.loopLost n || (s.outNames n 1 && s.nodeFault 1) || (s.outNames n 2 && s.nodeFault 2)

/-- A fault of R203, R207 or R210 is latched on the CAR loop (R226). -/
def State.carLoopFault (s : State) : Bool := s.rb (Reg.LOOP_STATE_FOLLOW_ERR 0) || s.driveFaulted 0

/-- The requests withdrawn at rank 2, and the loop's mode held with them (R22). -/
def State.holdRequests (s : State) : State := (s.requestDrive false).holdLoop.modTrip fun t => { t with reqHeld := true }

/-- The reaction at rank 2 of a fault of the car's drive (R207): the requests withdrawn, the car's marks disarmed whatever the car does
(R149), the controlled stop begun. The torque 0 and STOP follow from the latched fault. -/
def carDriveReact (s : State) : State := if s.active then ctrlStop StopCause.limit (reactSet 0 s).holdRequests else s

/-- A lost car drive or engine: an active module with a ready partner resigns instead (R359). -/
def carDriveLost (s : State) : State :=
  if s.paired && s.active && s.partnerReady then resign s else carDriveReact s

/-- Entry to a mode (Table 07-2); a change of mode resets the following-error timer (R202). -/
def enterMode (old m : Nat) (fill ilim : Int) (e : Engine) : Engine :=
  let e := { e with modePend := none }
  if m = old then e
  else
    let e := { e with feSince := none, feWarned := false }
    let h : Notch := ⟨fill, fill, fill, fill⟩
    if m = 0 then { e with i := 0, n1 := {}, n2 := {} }
    else if m = 1 then
      if old = 4 then { e with i := clampI (-ilim) ilim (fill * 65536), n1 := h, n2 := h }
      else if old = 0 then { e with i := 0 } else e
    else if m = 3 || m = 4 then { e with n1 := h, n2 := h }
    else e

/-- The analog code of an output (R204). -/
def analogCode (u : Int) (fs : Nat) : Int := clampI (-32767) 32767 (divImg (u * 32767) (fs : Int))

/-- The analog outputs that OUT of the CAR or DECK loop names take its output; 0 V while the loop is OFF (R204). -/
def analogOut (n : Nat) (s : State) : State :=
  let o := s.r (Reg.LOOP_CFG_OUT n)
  let code := fun fs => if s.r (Reg.LOOP_CFG_MODE n) = 0 then 0 else analogCode (s.ri (Reg.LOOP_OUTPUT n)) fs
  let s := if o = 2 ∨ o = 4 then s.wi Reg.LOOP_AO_CODE_AO1 (code (s.r Reg.LOOP_AO_FS1)) else s
  if o = 3 then s.wi Reg.LOOP_AO_CODE_AO2 (code (s.r Reg.LOOP_AO_FS2)) else s

/-- A loop whose engine is lost runs no further period: it is OFF, with all that entry to OFF clears, and its actuator at 0 (R199,
R202, R204, R215). -/
def loopOff (n : Nat) (s : State) : State :=
  let s := s.modEng n fun e => enterMode (s.r (Reg.LOOP_CFG_MODE n)) 0 0 0 e
  let s := ((s.w (Reg.LOOP_CFG_MODE n) 0).wi (Reg.LOOP_OUTPUT n) 0).wi (Reg.LOOP_INTEGRATOR n) 0
  if 1 ≤ n ∧ n ≤ 4 then doorDuty n 0 s else analogOut n s

/-- LOOP_LOST latches for a loop (R210). -/
def loseLoop (n : Nat) (s : State) : State :=
  let s := (s.wb (Reg.LOOP_STATE_LOOP_LOST n) true).raise Evt.LOOP_LOST [.code n]
  let s := loopOff n (s.setEngine n 15)
  if n = 0 then carDriveLost s else if n = 5 then deckFault 4 s else doorFault n 4 s

/-- A substitution is due for a loop: the lowest spare takes it over and the old engine is fenced, or LOOP_LOST (R209, R210,
R371). -/
def substitute (n : Nat) (s : State) : State :=
  let old := s.engineOf n
  match s.spares with
  | [] => loseLoop n (s.fenceEngine old)
  | e :: _ =>
    let s := (((s.setEngine n e).fenceEngine old).inc Reg.LOOP_SUBST_COUNT_SUBST).spareUsed
    let s := (s.raise Evt.LOOP_SUBSTITUTED [.code n, .code old, .code e]).w Reg.LOOP_STATUS_CHECK_LOOP 7
    s.when_ s.spares.isEmpty fun s => s.raise Evt.SPARES_LOW [.code 4]

/-- The next loop a check window goes to after loop n: ascending code, then from the lowest again (R208). -/
def State.nextCheck (s : State) (n : Nat) : Nat :=
  let l := (List.range 6).filter fun k => s.loopUsed k && !s.loopLost k
  (l.find? fun k => decide (n < k)).getD (l.headD 7)

/-- The lowest spare's check of the period a loop has just run: windows of 16 periods, loop after loop (R208); mismatch says
that outputs or states differed, sparePass that the spare then passed its self-test (R209). -/
def spareCheck (n : Nat) (mismatch sparePass : Bool) (s : State) : State :=
  match s.spares with
  | [] => s.w Reg.LOOP_STATUS_CHECK_LOOP 7
  | e :: _ =>
    let s := if s.r Reg.LOOP_STATUS_CHECK_LOOP = 7 then
        ({ s with loop := { s.loop with checkLeft := 16 } }).w Reg.LOOP_STATUS_CHECK_LOOP (s.nextCheck 6)
      else s
    if s.r Reg.LOOP_STATUS_CHECK_LOOP ≠ n then s
    else if mismatch then
      let s := (s.raise Evt.LOOP_CHECK_MISMATCH [.code n, .code (s.engineOf n)]).inc Reg.LOOP_SUBST_COUNT_MISMATCH
      if sparePass then substitute n s
      else ((s.fenceEngine e).raise Evt.LOOP_SPARE_FAIL [.code e]).w Reg.LOOP_STATUS_CHECK_LOOP 7
    else if s.loop.checkLeft ≤ 1 then
      ({ s with loop := { s.loop with checkLeft := 16 } }).w Reg.LOOP_STATUS_CHECK_LOOP (s.nextCheck n)
    else { s with loop := { s.loop with checkLeft := s.loop.checkLeft - 1 } }

/-! ### The cascade (R195 to R199) -/

/-- What a period works with (R196). -/
structure PeriodIn where
  /-- reference position -/
  pr : Int
  /-- reference speed -/
  vr : Int
  /-- reference acceleration -/
  ar : Int
  /-- position used -/
  x : Int
  /-- speed used -/
  v : Int
  /-- length of the period, µs -/
  dt : Nat
  /-- g, 0x8000 = 1.0 -/
  g : Int
  /-- PRETORQUE value or HOLD_FORCE -/
  fill : Int
  /-- time of the sample -/
  time : Time
  deriving DecidableEq, Repr

/-- What a period gives. -/
structure PeriodOut where
  /-- the engine after it -/
  e : Engine
  /-- position error -/
  ep : Int := 0
  /-- speed command -/
  vc : Int := 0
  /-- output -/
  u : Int := 0
  /-- output limited -/
  limited : Bool := false
  /-- R197 acted -/
  clamped : Bool := false
  deriving DecidableEq, Repr

/-- One period of a notch: a direct-form-I biquad with coefficients b0, b1, b2, a1, a2 in Q2.30, its accumulator held to 64
bits; a disabled notch passes its input (R195, R198). -/
def notch (en : Bool) (c : List Int) (h : Notch) (x : Int) : Int × Notch :=
  if en then
    let acc := nth c 0 0 * x + nth c 1 0 * h.x1 + nth c 2 0 * h.x2 - nth c 3 0 * h.y1 - nth c 4 0 * h.y2
    let y := divZ (satI 64 acc) 1073741824
    (y, ⟨x, h.x1, y, h.y1⟩)
  else (x, h)

/-- An unsigned gain of a loop. -/
def State.gain (s : State) (f : Nat → Field) (n : Nat) : Int := (s.r (f n) : Int)

/-- I_LIM of a loop in the integrator's format. -/
def State.iLim (s : State) (n : Nat) : Int := s.gain Reg.LOOP_I_LIM n * 65536

/-- w, with vc, the integrator and whether R197 acted, in POSITION and SPEED (R196, R197). -/
def speedLoop (s : State) (n : Nat) (ep : Int) (p : PeriodIn) (e : Engine) : Int × Int × Int × Bool :=
  let vlim := s.gain Reg.LOOP_V_CMD_LIM n
  let vc := clampI (-vlim) vlim
    (satI 32 (divZ (p.g * s.gain Reg.LOOP_KP n * ep) 2147483648 + divZ (s.gain Reg.LOOP_KVF n * p.vr) 65536))
  let ev := satI 32 (vc - p.v)
  let hold := e.limLast && sgn ev == e.limSign
  let next := e.i + divZ (p.g * s.gain Reg.LOOP_KI n * ev * (p.dt : Int)) 32768000000
  let i := if hold then e.i else satI 48 (clampI (-s.iLim n) (s.iLim n) next)
  let w := divZ (divZ (p.g * s.gain Reg.LOOP_KV n * ev) 32768 + i + s.gain Reg.LOOP_KAF n * p.ar) 65536
  (w, vc, i, hold || i != next)

/-- The cascade of a loop in a mode (R196). -/
def cascade (s : State) (n m : Nat) (p : PeriodIn) (e : Engine) : PeriodOut :=
  if m = 0 then { e := { e with i := 0, n1 := {}, n2 := {} } }
  else
    let ep := if m = 1 then satI 32 (p.pr - p.x) else 0
    let y := if m = 4 || m = 3 then (p.fill, 0, e.i, false)
      else if m = 5 then (divZ (e.i + s.gain Reg.LOOP_KAF n * p.ar) 65536, 0, e.i, false)
      else speedLoop s n ep p e
    let c := nth s.loop.coefs n []
    let n1 := notch (s.rb (Reg.LOOP_CFG_N1_EN n)) c e.n1 (satI 32 y.1)
    let n2 := notch (s.rb (Reg.LOOP_CFG_N2_EN n)) (c.drop 5) e.n2 n1.1
    let u := satI 32 (clampI (-s.gain Reg.LOOP_T_LIM_NEG n) (s.gain Reg.LOOP_T_LIM_POS n) n2.1)
    let lim := u != n2.1
    { e := { e with i := y.2.2.1, n1 := n1.2, n2 := n2.2, limLast := lim, limSign := sgn n2.1 },
      ep := ep, vc := y.2.1, u := u, limited := lim, clamped := y.2.2.2 }

/-- The following-error rule of a period (R202). -/
def following (n m : Nat) (ep : Int) (s : State) : State :=
  if m = 1 then
    let a := mag ep
    let warn := decide (s.r (Reg.LOOP_FE_WARN n) < a)
    let s := s.when_ (warn && !(s.eng n).feWarned) fun s => s.raise Evt.FE_WARN [.code n, .signed ep]
    let above := decide (s.r (Reg.LOOP_FE_CFG_FE_LIMIT n) < a)
    let s := s.modEng n fun e => { e with
      feWarned := warn, feSince := if above then some (e.feSince.getD s.optime) else none, epPeak := max e.epPeak a }
    s.peak (Reg.LOOP_FE_PEAK n) a
  else s.modEng n fun e => { e with feSince := none, feWarned := false }

/-- One period of a loop: mode entry, cascade, registers and following error (R196 to R202). The period of an engine with an
uncorrectable error repeats the previous output (R209). -/
def loopPeriod (n : Nat) (p : PeriodIn) (s : State) : State :=
  let e := s.eng n
  if e.replace then s.modEng n fun e => { e with replace := false, lastAt := some s.optime }
  else
    let old := s.r (Reg.LOOP_CFG_MODE n)
    let m := e.modePend.getD old
    let e := enterMode old m p.fill (s.iLim n) { e with i := e.i + e.drift, drift := 0 }
    let o := cascade s n m p e
    let s := s.modEng n fun _ => { o.e with vr := p.vr, time := p.time, lastAt := some s.optime }
    let s := (((s.w (Reg.LOOP_CFG_MODE n) m).wi (Reg.LOOP_ERR_POS n) o.ep).wi (Reg.LOOP_V_CMD n) o.vc).wi (Reg.LOOP_INTEGRATOR n)
      (divZ o.e.i 65536)
    let s := ((s.wi (Reg.LOOP_OUTPUT n) o.u).wb (Reg.LOOP_STATE_LIMITED n) o.limited).wb (Reg.LOOP_STATE_I_CLAMPED n) o.clamped
    following n m o.ep (s.when_ o.limited fun s => s.inc (Reg.LOOP_STATE_LIMITED_COUNT n))

/-! ### Torque delivery (R204 to R206) -/

/-- The command frame of a node (Table 07-4, R204, R206). -/
def dlFrame (s : State) (node : Nat) : List Byte :=
  let body := match s.nodeLoop node with
    | some n =>
      let flags := b2n (s.r (Reg.LOOP_CFG_MODE n) != 0) + 2 * s.r (Reg.LOOP_STATE_LIMITED n) + 4 * b2n (s.driveFaulted n)
      let u := if n = 0 ∧ s.driveFaulted 0 then 0 else s.r (Reg.LOOP_OUTPUT n)
      [0xA5, BitVec.ofNat 8 node, BitVec.ofNat 8 s.mir.k, BitVec.ofNat 8 flags] ++ leBytes 4 u ++
        leBytes 4 (ofI 32 (s.eng n).vr) ++ leBytes 2 (s.eng n).time.toNat
    | none =>
      [0xA5, BitVec.ofNat 8 node, BitVec.ofNat 8 s.mir.k, 0] ++ leBytes 8 0 ++ leBytes 2 s.pos.sample.time.toNat
  body ++ leBytes 2 (crc16 body)

/-- A DriveLink node. -/
def State.dlNode (s : State) (node : Nat) : DlNode := nth s.loop.dl (node - 1) {}

/-- A DriveLink node changed. -/
def State.modDl (s : State) (node : Nat) (f : DlNode → DlNode) : State :=
  { s with loop := { s.loop with dl := modAt s.loop.dl (node - 1) f {} } }

/-- NODE1_EN, NODE2_EN. -/
def State.nodeEn (s : State) (node : Nat) : Bool :=
  if node = 1 then s.rb Reg.LOOP_DL_CFG_NODE1_EN else s.rb Reg.LOOP_DL_CFG_NODE2_EN

/-- A command is sent to an enabled node by a module that drives the car (R205, R349). -/
def dlSend (node : Nat) (s : State) : State :=
  if s.nodeEn node && s.active then
    s.modDl node fun d => { d with seq := s.mir.k % 256, cmd := dlFrame s node, waiting := true }
  else s

/-! ### The car loop in operation (R201, R163) -/

/-- The levelling result of a HOLD enters the recorder at the report of both brakes applied (Table 13-4). -/
def levelReport (s : State) : State :=
  let n := s.r Reg.TRIP_STATUS_CAR_STOP
  let s := if n = 0 then s else recLevel n (s.pos.sample.pos - (s.carStop n).pos) s
  s.modTrip fun t => { t with levelDue := false }

/-- The car engine's own mode changes that a period finds due (R201, steps 1, 4 and 6). An OFF of step 6 holds the mode with the
rank of what withdrew the grant; FEEDFORWARD ends as soon as both brakes are reported applied. -/
def carModes (s : State) : State :=
  let granted := s.granted
  let applied := s.brakes 0
  let m := s.modeOf 0
  let change := fun m (s : State) => (s.modeNext 0 m).journal (.mode 0 m)
  let s' :=
    if !s.active then s
    else if s.loop.grantSeen && !granted && m != 0 then (change 0 s).holdLoop
    else if applied && (!s.loop.appliedSeen || m == 5) && m != 0 then (change 0 s).request 1 false
    else if granted && s.trip.starting.isSome && m != 4 then change 4 s
    else s
  let s' := s'.when_ (applied && !s.loop.appliedSeen && s.trip.levelDue) levelReport
  { s' with loop := { s'.loop with grantSeen := granted, appliedSeen := applied } }

/-- The limits violated since the last car period began are judged for the period (R163). -/
def limitPeriod (s : State) : State :=
  let v := s.trip.limitNow
  let s := s.w Reg.TRIP_LIMIT_STATUS_LAST v
  let s := s.when_ (v != 0) fun s => s.inc Reg.TRIP_LIMIT_STATUS_VIOLATIONS
  s.modTrip fun t => { t with limitRun := if v = 0 then 0 else t.limitRun + 1, limitNow := 0 }

/-- The test torque of a brake test, ppm: ramp, hold and ramp back (R274). -/
def State.testTorque (s : State) : Int :=
  let x := s.saf.bt
  let full := s.parI 0 Reg.SAF_BT_TORQUE
  let ramp := s.par 0 Reg.SAF_BT_TIMES_BT_RAMP_MS * 1000
  let t := min ramp (s.since x.at_)
  if x.phase = 3 then divOpen (full * (t : Int)) (ramp : Int)
  else if x.phase = 4 then full
  else if x.phase = 5 then divOpen (full * ((ramp - t : Nat) : Int)) (ramp : Int)
  else 0

/-- What the car loop works with (R194, R196); in a brake test the pretorque value is the test torque (R274). -/
def carIn (s : State) (dt : Nat) : PeriodIn :=
  let c := s.chan 0
  { pr := c.refPos, vr := c.refSpeed, ar := c.refAccel, x := s.pos.sample.pos, v := s.pos.sample.speed, dt := dt,
    g := if s.pos.sample.conf = 2 then s.gain Reg.LOOP_SHAFT_SCALE 0 else 32768,
    fill := if s.saf.bt.brake ≠ 0 then s.testTorque
      else toI 32 (nth [s.r (Reg.LOOP_PRETORQUE_0 0), s.r (Reg.LOOP_PRETORQUE_1 0), s.r (Reg.LOOP_PRETORQUE_2 0),
        s.r (Reg.LOOP_PRETORQUE_3 0)] (s.r Reg.TRIP_STATUS_LOAD_CLASS) 0),
    time := s.pos.sample.time }

/-- A car period of a given length: the loop, its outputs, the DriveLink commands, the spare's check, and the period's end at port 7 (R194 to
R209, Table 03-4). -/
def carPeriod (dt : Nat) (mismatch sparePass : Bool) (s : State) : State :=
  let s := limitPeriod (s.modMir fun x => { x with k := s.periodIndex })
  let s := if s.loopUsed 0 && !s.loopLost 0 then
      spareCheck 0 mismatch sparePass (analogOut 0 (loopPeriod 0 (carIn s dt) (carModes s)))
    else s.modEng 0 fun e => { e with lastAt := some s.optime }
  let s := dlSend 1 s
  (if s.loopT % 125 = 0 then dlSend 2 s else s).post 7 0

/-- A car period runs once at each tick that begins one, and not while the module is Parked with its loop clock-gated (R406). -/
def carLoopPeriod (mismatch sparePass : Bool) (s : State) : State :=
  match s.carPeriod with
  | some dt => if (s.eng 0).lastAt = some s.optime then s else carPeriod dt mismatch sparePass s
  | none => s

/-! ### Door and deck periods -/

/-- Force against motion (R218). -/
def against (p : Profile) (u : Int) : Int := if p.opening then u else -u

/-- What obstruction and kinetic energy make of a door period (R218, R222). -/
def doorJudge (d : Nat) (vr v : Int) (s : State) : State :=
  let s := s.wi (Reg.LOOP_DOOR_SPEED (d - 1)) v
  match s.runningProfile d with
  | none => s.modDoor d fun o => { o with obsRun := 0, keRun := 0 }
  | some p =>
    let f := against p (s.ri (Reg.LOOP_OUTPUT d))
    kineticCheck d p vr v (levelDetect d p (forceDetect d p f (s.wi (Reg.LOOP_DOOR_FORCE (d - 1)) f)))

/-- A door period of an operator (R196, R215 to R222). -/
def doorPeriod (d : Nat) (mismatch sparePass : Bool) (s : State) : State :=
  let c := s.chan d
  let v := s.doorSpeed d
  let p : PeriodIn :=
    { pr := c.refPos, vr := c.refSpeed, ar := c.refAccel, x := s.doorAt d, v := v, dt := 125, g := 32768,
      fill := (s.door d).holdForce, time := s.pos.sample.time }
  let s := loopPeriod d p s
  spareCheck d mismatch sparePass (doorJudge d c.refSpeed v (doorDuty d (s.ri (Reg.LOOP_OUTPUT d)) s))

/-- A period of the deck loop on the deck count latched at its tick (R194, R211). -/
def deckPeriod (mismatch sparePass : Bool) (s : State) : State :=
  let x := s.deckPosition (nth s.pos.qdLatched (s.r Reg.LOOP_DECK_CFG_CHANNEL) 0)
  let s := (s.wi Reg.LOOP_DECK_POS x).modDeck fun k => { k with samples := (x :: k.samples).take 65 }
  let c := s.chan 5
  let p : PeriodIn :=
    { pr := c.refPos, vr := c.refSpeed, ar := c.refAccel, x := x, v := Config.deckSpeed s.loop.deck.samples, dt := 125,
      g := 32768, fill := 0, time := s.optime }
  spareCheck 5 mismatch sparePass (analogOut 5 (loopPeriod 5 p s))

/-- A door or deck period runs once at each tick that begins one; its end goes to port 8 (Table 03-4). -/
def doorLoopPeriod (n : Nat) (mismatch sparePass : Bool) (s : State) : State :=
  if !s.doorPeriod || !s.loopUsed n || s.loopLost n || decide ((s.eng n).lastAt = some s.optime) then s
  else if n = 5 then (deckPeriod mismatch sparePass s).post 8 n
  else if 1 ≤ n ∧ n ≤ 4 then (doorPeriod n mismatch sparePass s).post 8 n
  else s

/-! ### Following error (R202, R203) -/

/-- FOLLOW_ERR latches for a loop once its timer has reached FE_TIME. -/
def followErr (n : Nat) (s : State) : State :=
  match (s.eng n).feSince with
  | none => s
  | some t =>
    if s.rb (Reg.LOOP_STATE_FOLLOW_ERR n) || decide (s.since t < s.r (Reg.LOOP_FE_CFG_FE_TIME n) * 1000) then s
    else
      let s := (s.wb (Reg.LOOP_STATE_FOLLOW_ERR n) true).raise Evt.FOLLOW_ERR [.code n]
      if n = 0 then ctrlStop StopCause.limit s else if n = 5 then deckFault 0 s else doorFault n 0 s

/-! ### Drive responses (R207) -/

/-- The reason a response is bad: 1 missing, 2 CRC, 3 NODE or SEQ; 0 for a valid one. -/
def dlJudge (cmd frame : List Byte) : Nat :=
  if frame.head? ≠ some 0x5A then 1
  else if frame.length ≠ 16 ∨ crc16 (frame.take 14) ≠ leAt frame 14 2 then 2
  else if nth frame 1 0 ≠ nth cmd 1 0 ∨ nth frame 2 0 ≠ nth cmd 2 0 then 3
  else 0

/-- A bad response of a node. -/
def dlBad (node reason : Nat) (s : State) : State :=
  let s := (s.modDl node fun d => { d with waiting := false, good := 0 }).raise Evt.DRIVELINK_ERR [.code node, .code reason]
  if node = 1 then (s.inc Reg.LOOP_DL_STATUS_1_CONSEC_BAD).inc Reg.LOOP_DL_ERRORS_NODE1
  else (s.inc Reg.LOOP_DL_STATUS_2_CONSEC_BAD).inc Reg.LOOP_DL_ERRORS_NODE2

/-- The reaction to a fault of a node, by the loop it serves (R207). -/
def nodeReact (node : Nat) (lost : Bool) (s : State) : State :=
  match s.nodeLoop node with
  | some 0 => if lost then carDriveLost s else carDriveReact s
  | some _ => deckDriveFault s
  | none => s

/-- A valid response shown in the registers of its node. -/
def dlShow (node : Nat) (f : List Byte) (s : State) : State :=
  let status := leAt f 3 1
  if node = 1 then
    ((((s.w Reg.LOOP_DL_STATUS_1_STATUS status).w Reg.LOOP_DL_STATUS_1_CONSEC_BAD 0).w Reg.LOOP_DL_STATUS_1_TEMP (leAt f 10 1)).w
      Reg.LOOP_DL_TORQUE_1 (leAt f 4 4)).w Reg.LOOP_DL_DCBUS_NODE1 (leAt f 8 2)
  else
    ((((s.w Reg.LOOP_DL_STATUS_2_STATUS status).w Reg.LOOP_DL_STATUS_2_CONSEC_BAD 0).w Reg.LOOP_DL_STATUS_2_TEMP (leAt f 10 1)).w
      Reg.LOOP_DL_TORQUE_2 (leAt f 4 4)).w Reg.LOOP_DL_DCBUS_NODE2 (leAt f 8 2)

/-- DRIVE_FAULT latches for a node (R207). -/
def driveFault (node code : Nat) (s : State) : State :=
  let latched := if node = 1 then s.rb Reg.LOOP_DL_STATUS_1_DRIVE_FAULT else s.rb Reg.LOOP_DL_STATUS_2_DRIVE_FAULT
  let s := if node = 1 then s.w Reg.LOOP_DL_STATUS_1_FAULT_CODE code else s.w Reg.LOOP_DL_STATUS_2_FAULT_CODE code
  if latched then s
  else
    let s := if node = 1 then s.wb Reg.LOOP_DL_STATUS_1_DRIVE_FAULT true else s.wb Reg.LOOP_DL_STATUS_2_DRIVE_FAULT true
    nodeReact node false (s.raise Evt.DRIVE_FAULT [.code node, .code code])

/-- TORQUE_ACT of a response in the sense of the test torque, ppm (R276). -/
def holdTorque (full : Int) (frame : List Byte) : Nat := (leAtI frame 4 4 * sgn full).toNat

/-- A response received within 3 µs of the command's end; one that no command awaits is ignored (R205, R207). -/
def driveResponse (node : Nat) (frame : List Byte) (s : State) : State :=
  let d := s.dlNode node
  if !d.waiting || !s.nodeEn node then s
  else
    match dlJudge d.cmd frame with
    | 0 =>
      let fault := bitAt (leAt frame 3 1) 1
      let s := dlShow node frame (s.modDl node fun d => { d with
        waiting := false, good := if fault then 0 else min 64 (d.good + 1) })
      let s := if s.saf.bt.phase = 4 ∧ s.nodeLoop node = some 0 then
          s.modSaf fun x => { x with bt := { x.bt with torque := max x.bt.torque (holdTorque (s.parI 0 Reg.SAF_BT_TORQUE) frame) } }
        else s
      if fault then driveFault node (leAt frame 11 1) s else s
    | reason => dlBad node reason s

/-- No response began within 3 µs (R207). -/
def driveMissing (node : Nat) (s : State) : State :=
  if (s.dlNode node).waiting && s.nodeEn node then dlBad node 1 s else s

/-- DL_FAIL_N consecutive bad responses latch DRIVELINK_LOST (R207, R359). -/
def drivelinkLost (node : Nat) (s : State) : State :=
  let n := s.r Reg.LOOP_DL_CFG_DL_FAIL_N
  let run := if node = 1 then s.r Reg.LOOP_DL_STATUS_1_CONSEC_BAD else s.r Reg.LOOP_DL_STATUS_2_CONSEC_BAD
  let latched := if node = 1 then s.rb Reg.LOOP_DL_STATUS_1_DRIVELINK_LOST else s.rb Reg.LOOP_DL_STATUS_2_DRIVELINK_LOST
  if latched || n == 0 || decide (run < n) then s
  else
    let s := if node = 1 then s.wb Reg.LOOP_DL_STATUS_1_DRIVELINK_LOST true else s.wb Reg.LOOP_DL_STATUS_2_DRIVELINK_LOST true
    nodeReact node true (s.raise Evt.DRIVELINK_LOST [.code node])

/-! ### LOOP_CMD (R224) -/

/-- CONFIRM of LOOP_CMD. -/
def loopConfirm : Nat := 0x4D27

/-- The faults of the nodes that serve a loop are cleared. -/
def clearNodes (n : Nat) (s : State) : State :=
  let s := if s.outNames n 1 then (s.wb Reg.LOOP_DL_STATUS_1_DRIVELINK_LOST false).wb Reg.LOOP_DL_STATUS_1_DRIVE_FAULT false else s
  if s.outNames n 2 then (s.wb Reg.LOOP_DL_STATUS_2_DRIVELINK_LOST false).wb Reg.LOOP_DL_STATUS_2_DRIVE_FAULT false else s

/-- The node that serves the car has answered 64 times in a row without FAULT, if a fault of it is latched (R224). -/
def State.nodesRecovered (s : State) (n : Nat) : Bool :=
  [1, 2].all fun node => !s.outNames n node || !s.nodeFault node || (s.dlNode node).good == 64

/-- The conditions of a CLEAR hold for a loop (R224). -/
def State.clearable (s : State) (n : Nat) : Bool :=
  if n = 0 then decide (mag s.pos.sample.speed < 1000) && s.brakes 0 && s.nodesRecovered 0
  else if n = 5 then decide (mag (Config.deckSpeed s.loop.deck.samples) < 5000)
  else decide (1 ≤ n) && decide (n ≤ 4) && decide (mag (s.doorSpeed n) < 5000)

/-- The faults of a loop other than LOOP_LOST are cleared (R211, R217, R224); the clearing of the car's faults ends what their
reaction holds (R22). -/
def clearLoop (n : Nat) (s : State) : State :=
  let s := s.wb (Reg.LOOP_STATE_FOLLOW_ERR n) false
  if n = 0 then (clearNodes 0 s).releaseHolds
  else if n = 5 then
    let had := s.rb Reg.LOOP_DECK_STATUS_DECK_FAULT
    let s := clearNodes 5 ((s.wb Reg.LOOP_DECK_STATUS_DECK_FAULT false).w Reg.LOOP_DECK_STATUS_CAUSE 0)
    if had then deckBegin s.loop.doors.head.deckHome s else s
  else
    let had := s.doorFaulted n
    let s := ((s.freeMarks n).wb (Reg.LOOP_DOOR_STATUS_DOOR_FAULT (n - 1)) false).w (Reg.LOOP_DOOR_STATUS_CAUSE (n - 1)) 0
    let s := if had && !s.doorHomed n then
        s.modDoor n fun o => { o with startPend := some (nth s.loop.doors.head.doorHome (n - 1) 0) }
      else s
    cycleCheck s

/-- LOOP_CMD CLEAR (R224). -/
def loopCmdClear (n confirm : Nat) (s : State) : State :=
  if confirm ≠ loopConfirm then s
  else if s.clearable n then (clearLoop n s).journal (.loopCmd n 1)
  else s.wb Reg.LOOP_STATUS_CMD_REFUSED true

/-- LOOP_CMD 2 for a loop (R224). -/
def loopCmdPeakClear (n confirm : Nat) (s : State) : State :=
  if confirm ≠ loopConfirm ∨ 5 < n then s
  else
    let s := s.w (Reg.LOOP_FE_PEAK n) 0
    let s := if 1 ≤ n ∧ n ≤ 4 then s.w (Reg.LOOP_DOOR_KE_PEAK (n - 1)) 0 else s
    s.journal (.loopCmd n 2)

/-- An uncorrectable memory error in an engine (R209): in a mapped one it makes a substitution due, and the period's output
repeats the previous one. -/
def engineUncorr (engine : Nat) (s : State) : State :=
  match (List.range 6).find? fun n => s.loopUsed n && s.engineOf n == engine with
  | some n => substitute n (s.modEng n fun e => { e with replace := true })
  | none => s

/-! ### Meanings -/

/-- DOOR_LOOP_PERIOD (R196). -/
def execDoorLoopPeriod (loop : Nat) (mismatch sparePass : Bool) (s : State) : Res :=
  (s.awake (doorLoopPeriod loop mismatch sparePass)).done
/-- FOLLOW_ERR (R202). -/
def execFollowErr (loop : Nat) (s : State) : Res := (followErr (loop % 6) s).done
/-- DRIVELINK_RESPONSE (R207). -/
def execDrivelinkResponse (node : Nat) (frame : List Byte) (s : State) : Res := (driveResponse (node % 2 + 1) frame s).done
/-- DRIVELINK_RESPONSE_MISSING (R207). -/
def execDrivelinkResponseMissing (node : Nat) (s : State) : Res := (driveMissing (node % 2 + 1) s).done
/-- DRIVELINK_LOST (R207). -/
def execDrivelinkLost (node : Nat) (s : State) : Res := (drivelinkLost (node % 2 + 1) s).done
/-- LOOP_ENGINE_UNCORR (R209). -/
def execLoopEngineUncorr (engine : Nat) (s : State) : Res := (engineUncorr (engine % 7) s).done
/-- LOOP_CMD_CLEAR (R224). -/
def execLoopCmdClear (loop confirm : Nat) (s : State) : Res := (s.served (loopCmdClear loop confirm)).done
/-- LOOP_CMD_PEAK_CLEAR (R224). -/
def execLoopCmdPeakClear (loop confirm : Nat) (s : State) : Res := (s.served (loopCmdPeakClear loop confirm)).done

end Sys2Proof.Machine
end

