-- ==== Sys2Proof/Machine/Sep.lean ====
section
/-! DEFINITION. The separation comparator (file 06, R186 to R189). -/

namespace Sys2Proof.Machine

/-- A named neighbour: 0 the car above, 1 the car below. -/
def State.nbr (s : State) (i : Nat) : Neighbour := nth s.trip.nbrs i {}

/-- A neighbour changed. -/
def State.modNbr (s : State) (i : Nat) (f : Neighbour → Neighbour) : State :=
  s.modTrip fun t => { t with nbrs := modAt t.nbrs i f {} }

/-- NBR_UP or NBR_DOWN; 0 for none. -/
def State.nbrAddr (s : State) (i : Nat) : Nat :=
  if i = 0 then s.r Reg.NET_NBR_CFG_NBR_UP else s.r Reg.NET_NBR_CFG_NBR_DOWN

/-- UP_STATE or DOWN_STATE. -/
def nbrStateField (i : Nat) : Field := if i = 0 then Reg.TRIP_SEP_STATUS_UP_STATE else Reg.TRIP_SEP_STATUS_DOWN_STATE

/-- The gap to a neighbour at a position, from the own last delivered sample (R186). -/
def State.gapTo (s : State) (i : Nat) (p : Int) : Int :=
  if i = 0 then p - s.pos.sample.pos - s.trip.env.gapUp else s.pos.sample.pos - p - s.trip.env.gapDown

/-- G_REQ and G_HARD for an own and a neighbour signed bin (R167, Table 06-4). -/
def State.sepEntry (s : State) (i own nb : Nat) : Nat × Nat :=
  SMap.get (if i = 0 then s.trip.env.sepAbove else s.trip.env.sepBelow) (own * 64 + nb) (0, 0)

/-- SEP_HARD on the lines to both lanes. -/
def State.sepHardLines (s : State) (i : Nat) (on : Bool) : State :=
  [0, 1].foldl (fun s l => s.modLane l fun x => { x with nbrs := modAt x.nbrs i (fun n => { n with hard := on }) {} }) s

/-- The separation stop or hold with a cause (R184). -/
def sepStop (cause i : Nat) (s : State) : State :=
  let fresh := !bitAt (s.r Reg.TRIP_STATUS_STOP_CAUSE) cause
  let s := (s.modTrip fun t => { t with stoppedUp := s.rb Reg.TRIP_STATUS_DIR }).modNbr i fun n => { n with
    failed := true, passSince := none }
  ctrlStop cause (s.when_ (fresh && cause == StopCause.separation) fun s => s.inc Reg.TRIP_SEP_COUNT_STOPS)

/-- A failed comparison with cause SEP_TIMEOUT (R188). -/
def sepTimeout (i : Nat) (s : State) : State :=
  let fresh := s.r (nbrStateField i) != 3
  let s := (s.w (nbrStateField i) 3).when_ fresh fun s => s.raise Evt.SEP_TIMEOUT [.code (s.nbrAddr i)]
  sepStop StopCause.sepTimeout i s

/-- The comparison at an accepted frame (R186 to R188). -/
def sepCompare (i : Nat) (s : State) : State :=
  let n := s.nbr i
  let gap := s.gapTo i n.pos
  let s := s.wi (if i = 0 then Reg.TRIP_SEP_GAP_UP else Reg.TRIP_SEP_GAP_DOWN) gap
  let e := s.sepEntry i (signedBin s.bins s.pos.sample.speed) (signedBin s.bins n.speed)
  let hard := decide (gap < (e.2 : Int))
  let s := s.sepHardLines i hard
  if n.conf = 3 then sepTimeout i s
  else
    let mm := divOpen gap 1000
    let was := s.r (nbrStateField i)
    if hard then
      let s := if was = 2 then s
        else ((s.inc Reg.TRIP_SEP_COUNT_HARD).w (nbrStateField i) 2).raise Evt.SEP_HARD [.code (s.nbrAddr i), .signed mm]
      sepStop StopCause.separation i s
    else if gap < ((e.1 + s.trip.env.sepMargin : Nat) : Int) then
      let s := if was = 1 then s else (s.w (nbrStateField i) 1).raise Evt.SEP_STOP [.code (s.nbrAddr i), .signed mm]
      sepStop StopCause.separation i s
    else
      (s.w (nbrStateField i) 0).modNbr i fun n => { n with passSince := some (n.passSince.getD s.optime) }

/-- An accepted frame's position, speed, CONF and sample time reach both lanes on their lines (R284). -/
def State.laneFrame (s : State) (i : Nat) (p v : Int) (conf time : Nat) : State :=
  [0, 1].foldl (fun s l => s.modLane l fun x => { x with
    nbrs := modAt x.nbrs i (fun n => { n with pos := p, speed := v, conf := conf, time := time, seen := true, at_ := s.optime, stale := none }) {} }) s

/-- An accepted frame of a neighbour enters the comparator and, on the same lines, the lanes (R186, R284). -/
def sepFrame (i : Nat) (p v : Int) (conf time : Nat) (s : State) : State :=
  sepCompare i ((s.laneFrame i p v conf time).modNbr i fun n => { n with
    pos := p, speed := v, conf := conf, seen := true, lastAt := s.optime, timedOut := false, pathOut := false })

/-- 1,500 µs have passed without an accepted frame of a named neighbour, counted from CONTROL_READY before the first one (R328). -/
def State.nbrLate (s : State) (i : Nat) : Bool :=
  let n := s.nbr i
  decide (1500 ≤ s.sinceOrReady (if n.seen then some n.lastAt else none))

/-- A report on a neighbour's frames reaches the comparator: 0 timeout, 1 path expired, 2 path mismatch (R188, R328). -/
def nbrReport (i reason : Nat) (s : State) : State :=
  let s := s.modNbr i fun n =>
    if reason = 0 then { n with timedOut := true, passSince := none } else { n with pathOut := true, passSince := none }
  let s := (s.inc Reg.NET_NBR_COUNT_TIMEOUTS).raise Evt.NBR_TIMEOUT [.code (s.nbrAddr i), .code reason]
  sepTimeout i s

/-- A neighbour timeout is reported to the comparator (R188, R328). -/
def neighbourTimeout (i : Nat) (s : State) : State :=
  if s.nbrAddr i = 0 ∨ !s.controlReady ∨ !s.nbrLate i ∨ (s.nbr i).timedOut then s
  else nbrReport i 0 s

/-- The start check against one neighbour, the own bin taken from the trip's direction and PEAK_BIN (R189). -/
def State.startPasses (s : State) (x : Trip) (i : Nat) : Bool :=
  let n := s.nbr i
  let own := x.peakBin + (if x.up then 0 else 32)
  s.nbrAddr i == 0 ||
    (n.seen && n.conf != 3 && !s.nbrLate i &&
      decide (((s.sepEntry i own (signedBin s.bins n.speed)).1 + s.trip.env.sepMargin : Nat) ≤ s.gapTo i n.pos))

/-- The neighbour that holds a start, if one does (R189). -/
def State.startHeld (s : State) (x : Trip) : Option Nat := [0, 1].find? fun i => !s.startPasses x i

/-- Every named neighbour has passed for SEP_CLEAR_MS with its frames accepted (R189). -/
def State.sepClear (s : State) : Bool :=
  [0, 1].all fun i => s.nbrAddr i == 0 || (!s.nbrLate i && (match (s.nbr i).passSince with
    | some t => decide (s.trip.env.sepClearMs * 1000 ≤ s.since t)
    | none => false))

/-- The separation causes clear (R189). -/
def sepClearCauses (s : State) : State :=
  let s := [0, 1].foldl (fun s i =>
    if (s.nbr i).failed then
      ((s.modNbr i fun n => { n with failed := false }).w (nbrStateField i) 0).raise Evt.SEP_CLEARED [.code (s.nbrAddr i)]
    else s) s
  (((s.freeMarks 0).setBitOf Reg.TRIP_STATUS_STOP_CAUSE 0 false).setBitOf Reg.TRIP_STATUS_STOP_CAUSE 1 false).modTrip fun t => { t with
    resumeDue := true }

/-! ### Meanings -/

/-- NEIGHBOUR_TIMEOUT (R328). -/
def execNeighbourTimeout (below : Bool) (s : State) : Res := (neighbourTimeout (b2n below) s).done

end Sys2Proof.Machine
end

