-- ==== Sys2Proof/Machine/Stops.lean ====
section
/-! DEFINITION. The stop list and the diversion splice (file 06, R169 to R176, R182). -/

namespace Sys2Proof.Machine

/-! ### Atlas lookups (R165, R166) -/

/-- PHASE is ATLAS_READY. -/
def State.fullAtlas (s : State) : Bool := s.r Reg.IMG_MODULE_STATE_PHASE == 2

/-- The active slot. -/
def State.activeSlot (s : State) : Nat := s.r Reg.IMG_STATUS_TS_ACTIVE_SLOT

/-- The index of the active slot's atlas. -/
def State.atlas (s : State) : AtlasIndex := nth s.trip.full s.activeSlot {}

/-- The window address of the region an atlas trip lies in: the active slot, or the common region (Table 02-5). -/
def State.region (s : State) (full : Bool) : Nat :=
  if full then 0x20000000 + s.activeSlot * 0xE000000 else 0x3C000000

/-- The trip at an offset of a region. -/
def State.tripAt (s : State) (region o : Nat) : Trip := parseTrip (fun a => s.tableRd (region + a)) region o

/-- An index word in an index, 0 for a miss. -/
def indexWord (m : SMap Nat) (n : Nat) : Nat := SMap.get m n 0

/-- u of a direction: 0 up, 1 down. -/
def dirCode (up : Bool) : Nat := if up then 0 else 1

/-- Class index of the latched load class and profile (R165). -/
def State.classIx (s : State) : Nat := classIndex (s.r Reg.TRIP_STATUS_LOAD_CLASS) (s.r Reg.TRIP_STATUS_PROFILE)

/-- An atlas miss (R165). -/
def atlasMiss (kind origin dest : Nat) (s : State) : State :=
  s.raise Evt.TRIP_ATLAS_MISS [.code kind, .code origin, .code dest]

/-! ### Car stops -/

/-- P lies ahead of another position in a direction. -/
def aheadOf (up : Bool) (p x : Int) : Bool := if up then decide (x < p) else decide (p < x)

/-- The position of a car stop. -/
def State.stopPos (s : State) (n : Nat) : Int := (s.carStop n).pos

/-- The travel direction of the running trip, or of the last one. -/
def State.up (s : State) : Bool := s.rb Reg.TRIP_STATUS_DIR

/-- The car stops of QUEUED entries. -/
def State.queuedStops (s : State) : List Nat := (s.trip.stops.filter fun e => e.state == 0).map StopEntry.stop

/-- The next car stop of a list, from a position and a direction (R171). -/
def State.pickStop (s : State) (l : List Nat) (p : Int) (dir : Option Bool) : Nat :=
  match dir with
  | none => s.nearest l p
  | some up =>
    let a := l.filter fun n => aheadOf up (s.stopPos n) p
    if a.isEmpty then s.nearest l p else s.nearest a p

/-- The next car stop (R171); 0 if there is none. -/
def State.nextStop (s : State) : Nat :=
  s.pickStop s.queuedStops s.pos.sample.pos (if s.trip.tripped then some s.up else none)

/-- Entries in the order in which R171 serves their car stops, from a position and a direction. -/
def serviceOrder (s : State) : Nat → List StopEntry → Int → Option Bool → List StopEntry
  | 0, l, _, _ => l
  | fuel + 1, l, p, dir =>
    let n := s.pickStop (l.map StopEntry.stop) p dir
    let x := s.stopPos n
    l.filter (fun e => e.stop == n) ++
      serviceOrder s fuel (l.filter fun e => e.stop != n) x (if x = p then dir else some (decide (p < x)))

/-- The stop list in service order: the entries served now, those of the target, then the others from the target on (R169, R171). -/
def State.stopsInOrder (s : State) : List StopEntry :=
  let l := s.trip.stops
  let t := s.r Reg.TRIP_TARGET_TARGET
  l.filter (fun e => e.state == 2) ++ l.filter (fun e => e.state == 1) ++
    serviceOrder s 64 (l.filter fun e => e.state == 0) (if t = 0 then s.pos.sample.pos else s.stopPos t)
      (if s.trip.tripped then some s.up else none)

/-- The door mask of a landing and deck (R164). -/
def State.doorMask (s : State) (landing : Nat) (upper : Bool) : Nat :=
  if landing = 0 then 0
  else
    let m := nth s.trip.env.doors (landing - 1) (0, 0)
    if upper then m.2 else m.1

/-- The landing count. -/
def State.landings (s : State) : Nat := s.trip.env.doors.length

/-! ### Stop-list changes -/

/-- A request's payload as R332 lays it out: LANDING, FLAGS and OP. -/
def payloadOf (op landing : Nat) (upper : Bool) (doors profile : Nat) : Nat :=
  landing % 256 + 256 * (b2n upper + 2 * (doors % 4) + 8 * (profile % 2)) + 65536 * op

/-- An answered request, or any other change of the stop list, is counted in STOPS_VER and entered in the journal (R354, Table
12-2). -/
def noteStops (old : List StopEntry) (req payload code : Nat) (s : State) : State :=
  let s' := if s.trip.stops = old then s else s.modMir fun x => { x with stopsVer := (x.stopsVer + 1) % 65536 }
  if s.trip.stops = old ∧ payload = 0 then s' else s'.journal (.stops ⟨req, payload, code, s.trip.stops⟩)

/-- The target car stop; its QUEUED entries become TARGET. -/
def setTarget (n : Nat) (s : State) : State :=
  (s.mapStops fun e => if e.stop = n ∧ e.state = 0 ∧ n ≠ 0 then { e with state := 1 } else e).w Reg.TRIP_TARGET_TARGET n

/-- TARGET entries of a car stop return to QUEUED. -/
def untarget (n : Nat) (s : State) : State := s.mapStops fun e => if e.stop = n ∧ e.state = 1 then { e with state := 0 } else e

/-! ### Commit entries and splices (R172 to R174) -/

/-- The destination the running trip still reaches: that of the continuation if one is set, else its own. -/
def State.reachTarget (s : State) : Nat :=
  let c := s.chan 0
  match c.cont with
  | some x => x.dest
  | none => c.trip.dest

/-- The SPLICE_OK segment of the running trip has not ended (R172). -/
def State.cruising (s : State) : Bool :=
  let c := s.chan 0
  c.running && s.r Reg.TRIP_STATUS_STATE == 2 && (c.trip.segs.drop c.seg).any Seg.spliceOk

/-- The running trip is in its SPLICE_OK segment (R182). -/
def State.inCruise (s : State) : Bool :=
  let c := s.chan 0
  c.running && s.r Reg.TRIP_STATUS_STATE == 2 && c.cur.spliceOk

/-- A commit entry stands in the position list, expired or not (R82). -/
def State.commitListed (s : State) (tag : Nat) : Bool :=
  (s.dsp.up ++ s.dsp.down).any fun x => x.tag == tag && x.arg == tag

/-- A commit entry of the position list has not expired (R175). -/
def State.commitWaits (s : State) (tag : Nat) : Bool :=
  (s.dsp.up ++ s.dsp.down).any fun x => x.tag == tag && x.arg == tag && !x.due

/-- The diversion of the running trip's direction, PEAK_BIN and class to a car stop, by its index word (R172); none before
ATLAS_READY. -/
def State.diversion (s : State) (d : Nat) : Option (Option (Nat × Trip)) :=
  if !s.fullAtlas then some none
  else
    let a := s.atlas
    let b := (s.chan 0).trip.peakBin
    let w := indexWord a.diversions (((dirCode s.up * 32 + b) * 8 + s.classIx) * a.nStops + (d - 1))
    if w = 0 then none else some (some (w, s.tripAt (s.region true) w))

/-- A diversion handled: TRIP_SPLICE shows it, and whether it is an ALT. -/
def showSplice (stop state : Nat) (alt : Bool) (x : Trip) (s : State) : State :=
  let s := ((s.w Reg.TRIP_SPLICE_CAR_STOP stop).w Reg.TRIP_SPLICE_STATE state).wb Reg.TRIP_SPLICE_ALT alt
  (s.wi Reg.TRIP_SPLICE_C x.commit).wi Reg.TRIP_SPLICE_X x.aux

/-- TRIP_SPLICE of a diversion that is no longer awaited: the continuation that is still set, or none. -/
def endSplice (s : State) : State :=
  match (s.chan 0).cont with
  | some x => showSplice x.dest 3 s.trip.contAlt x s
  | none => s.w Reg.TRIP_SPLICE_STATE 0

/-- A commit entry at C with a TAG of its own; the graph's node and level for it are free values (log entry 20). False if the
position list is full. -/
def insertCommit (stop word : Nat) (x : Trip) (alt : Bool) (s : State) : State × Bool :=
  let tag := s.trip.nextTag
  let node := s.freeNat 10
  let level := s.took.freeNat 3
  match posInsert (!s.up) node level tag tag x.commit s.took.took with
  | (s, true) =>
    let s := s.modTrip fun t => { t with nextTag := (tag + 1) % 2 ^ 16, commit := some { stop := stop, trip := x, tag := tag, word := word, alt := alt } }
    (showSplice stop 1 alt x s, true)
  | (s, false) => (s, false)

/-- The diversion's program is staged for its SPLICE (R173 step 2). -/
def stageSplice (c : Commit) (s : State) : State :=
  let s := (s.modTrip fun t => { t with commit := some { c with issued := false, staged := true } }).w Reg.TRIP_SPLICE_STATE 2
  if c.trip.retProg = 0 then s else reticleLoad 0 (c.trip.region + c.trip.retProg) s

/-- No ALT remains: the stop returns to QUEUED and the old target is restored (R173). -/
def demote (stop : Nat) (s : State) : State :=
  let s := setTarget s.reachTarget (untarget stop (s.modTrip fun t => { t with commit := none }))
  ((s.w Reg.TRIP_SPLICE_STATE 5).inc Reg.TRIP_REQ_COUNT_DEMOTED).raise Evt.STOP_DEMOTED [.code stop]

/-- A position has been passed in the travel direction. -/
def State.passed (s : State) (x : Int) : Bool :=
  if s.up then decide (x ≤ s.pos.sample.pos) else decide (s.pos.sample.pos ≤ x)

/-- The diversion named in ALT is taken: a commit entry at its COMMIT, or its SPLICE at once where that is already passed
(R173). -/
def takeAlt (c : Commit) (s : State) : State :=
  if c.trip.alt = 0 then demote c.stop s
  else
    let x := s.tripAt c.trip.region c.trip.alt
    let s := s.raise Evt.SPLICE_ALT [.code c.stop]
    if s.passed x.commit then
      stageSplice { c with trip := x, word := c.trip.alt, alt := true } (showSplice c.stop 2 true x s)
    else
      match insertCommit c.stop c.trip.alt x true s with
      | (s, true) => s
      | (s, false) => demote c.stop s

/-- The item of an expired commit entry (R173): a LATE one takes ALT; otherwise the diversion is re-read and staged. -/
def spliceItem (late : Bool) (s : State) : State :=
  match s.trip.commit with
  | none => s
  | some c =>
    if !s.active || c.staged || s.commitListed c.tag then s
    else if late then takeAlt c s
    else if c.alt then stageSplice c s
    else
      match s.diversion c.stop with
      | some (some (w, x)) => stageSplice { c with trip := x, word := w } (showSplice c.stop 2 false x s)
      | some none => demote c.stop s
      | none => demote c.stop (atlasMiss 1 0 c.stop s)

/-- SPLICE is issued once the car staging half is valid (R173 step 3, R174). -/
def spliceCommand (s : State) : State :=
  match s.trip.commit with
  | none => s
  | some c =>
    if !s.active || c.issued || !c.staged || (c.trip.retProg != 0 && !(s.set 0).valid) then s
    else
      let s := (s.modChan 0 fun k => { k with splicePend := some c.trip }).modTrip fun t => { t with
        commit := some { c with issued := true } }
      s.journal (.splice c.trip c.word s.mir.k)

/-! ### Assigns (R170, R172) -/

/-- Conditions 1 and 2 of R172. -/
def State.splicePossible (s : State) (d : Nat) : Bool :=
  let t := s.r Reg.TRIP_TARGET_TARGET
  s.cruising && aheadOf s.up (s.stopPos d) s.pos.sample.pos && (t == 0 || aheadOf s.up (s.stopPos t) (s.stopPos d))

/-- Condition 4 of R172. -/
def State.reachable (s : State) (x : Trip) : Bool :=
  let m : Int := (nth s.trip.env.reach (binOf s.bins s.pos.sample.speed) 0 : Nat)
  if s.up then decide (m ≤ x.commit - s.pos.sample.pos) else decide (m ≤ s.pos.sample.pos - x.commit)

/-- The commit entry of a diversion that awaits it is cancelled by its TAG (R75, R172). -/
def cancelCommit (c : Option Commit) (s : State) : State :=
  match c with
  | some c => if c.staged then s else delayCancel true c.tag s
  | none => s

/-- A car stop is accepted into the running trip: the commit entry at C, the earlier commit cancelled, the new target (R172). -/
def acceptRun (d word : Nat) (x : Trip) (s : State) : State × Bool :=
  match insertCommit d word x false s with
  | (s', true) =>
    let s' := cancelCommit s.trip.commit s'
    (setTarget d (untarget (s.r Reg.TRIP_TARGET_TARGET) s'), true)
  | (s', false) => (s', false)

/-- R172 for a car stop: true if it became the target. -/
def tryRun (d : Nat) (s : State) : State × Bool :=
  if !s.splicePossible d then (s, false)
  else
    match s.diversion d with
    | some (some (w, x)) => if s.reachable x then acceptRun d w x s else (s, false)
    | some none => (s, false)
    | none => (atlasMiss 1 0 d s, false)

/-- The car stands at a car stop and serves it (R178). -/
def State.standsAt (s : State) (n : Nat) : Bool :=
  n != 0 && s.r Reg.TRIP_STATUS_CAR_STOP == n && (s.r Reg.TRIP_STATUS_STATE == 0 || s.r Reg.TRIP_STATUS_STATE == 3)

/-- The refusal of an assign (R164, R170, R190), if one applies; R332 answers OUT_OF_SERVICE while Listening. -/
def State.assignRefusal (s : State) (landing : Nat) (upper : Bool) (doors : Nat) : Option Nat :=
  let stop := if upper then landing - 1 else landing
  let mask := s.doorMask landing upper
  if s.rb Reg.IMG_MODULE_STATE_LISTENING || s.outOfService then some 0x13
  else if landing = 0 || decide (s.landings < landing) then some 0x10
  else if mask = 0 || !(s.carStop stop).valid || Nat.land doors (3 - mask % 4) != 0 then some 0x11
  else none

/-- A request that would change the frozen stop list changes nothing (R182); which code of Table 06-5 answers it, of those that its kind
of request has, is a free value, counted as the code it is (log entry 112). -/
def frozenAnswer (codes : List Nat) (s : State) : State × Nat :=
  let code := nth codes (s.freeNat 8 % codes.length) 0
  let s := s.took
  (if code = 0 then s.inc Reg.TRIP_REQ_COUNT_RUN else if code = 1 then s.inc Reg.TRIP_REQ_COUNT_QUEUED
    else if 0x10 ≤ code ∧ code ≤ 0x13 then s.inc Reg.TRIP_REQ_COUNT_REFUSED else s, code)

/-- An assign (R170, R172, R178): the state and the answered CODE. -/
def assign (req landing : Nat) (upper : Bool) (doors profile : Nat) (s : State) : State × Nat :=
  match s.assignRefusal landing upper doors with
  | some c => (s.inc Reg.TRIP_REQ_COUNT_REFUSED, c)
  | none => if s.trip.frozen then frozenAnswer [0, 1, 2, 3, 0x10, 0x11, 0x12, 0x13] s else
    let stop := if upper then landing - 1 else landing
    let here := s.standsAt stop
    let same := fun (e : StopEntry) => e.landing == landing && e.upper == upper
    if s.trip.stops.any same then
      let s' := s.mapStops fun e => if same e then { e with doors := Nat.lor e.doors doors } else e
      (s', if s.trip.stops.any fun e => same e && (here || e.state == 2) then 3 else 2)
    else if 64 ≤ s.trip.stops.length then
      ((s.inc Reg.TRIP_REQ_COUNT_REFUSED).raise Evt.STOPLIST_FULL [.ident req], 0x12)
    else
      let e : StopEntry := ⟨landing, upper, doors, profile, req, if here then 2 else 0⟩
      let s := s.modTrip fun t => { t with stops := t.stops ++ [e] }
      if here then (s, 3)
      else
        match tryRun stop s with
        | (s, true) => (s.inc Reg.TRIP_REQ_COUNT_RUN, 0)
        | (s, false) => (s.inc Reg.TRIP_REQ_COUNT_QUEUED, 1)

/-! ### Cancels (R175) -/

/-- The QUEUED car stops beyond the target (R175). -/
def State.beyondStops (s : State) (target : Nat) : List Nat :=
  s.queuedStops.filter fun n => aheadOf s.up (s.stopPos n) (s.stopPos target)

/-- The atlas misses of the diversions looked up for the car stops beyond the target (R165). -/
def beyondMisses (target : Nat) (s : State) : State :=
  (s.beyondStops target).foldl (fun s n => if (s.diversion n).isNone then atlasMiss 1 0 n s else s) s

/-- A QUEUED car stop beyond the target with a diversion whose X lies ahead of p, the nearest first (R175). -/
def State.beyond (s : State) (target : Nat) : Option (Nat × Nat × Trip) :=
  let c := s.chan 0
  let l := s.beyondStops target
  let ok := l.filterMap fun n => match s.diversion n with
    | some (some (w, x)) => if c.reached x.aux then none else some (n, w, x)
    | _ => none
  let best := s.nearest (ok.map fun y => y.1) (s.stopPos target)
  ok.find? fun y => y.1 == best

/-- The cancel of the target's last entry: CANCELLED with the diversion beyond it or the commit entry removed, else STOP_KEPT
(R175). -/
def cancelTarget (stop : Nat) (s : State) : State × Nat :=
  let waiting := match s.trip.commit with
    | some c => c.stop == stop && !c.staged && s.commitWaits c.tag
    | none => false
  if waiting then
    let s := cancelCommit s.trip.commit s
    (setTarget s.reachTarget (endSplice (s.modTrip fun t => { t with commit := none })), 0x20)
  else if s.cruising then
    let s := beyondMisses stop s
    match s.beyond stop with
    | some (n, w, x) =>
      (setTarget n (stageSplice { stop := n, trip := x, tag := 0, word := w } (showSplice n 2 false x s)), 0x20)
    | none => (s, 0x21)
  else (s, 0x21)

/-- A cancel (R175): the state and the answered CODE. -/
def cancelRequest (landing : Nat) (upper : Bool) (s : State) : State × Nat :=
  let same := fun (e : StopEntry) => e.landing == landing && e.upper == upper
  match s.trip.stops.find? same with
  | none => (s, 0x22)
  | some e => if s.trip.frozen then frozenAnswer [0x20, 0x21, 0x22] s else
    let s := s.modTrip fun t => { t with stops := t.stops.filter fun e => !same e }
    if e.state != 1 || s.trip.stops.any (fun x => x.stop == e.stop) then (s, 0x20) else cancelTarget e.stop s

/-! ### The finish rule (R182) -/

/-- The first car stop of a list, the nearest ahead first, that passes R172. -/
def finishAt (l : List Nat) (s : State) : State × Bool :=
  let ahead := l.filter fun n => aheadOf s.up (s.stopPos n) s.pos.sample.pos
  let order := sortBy (fun n => mag (s.stopPos n - s.pos.sample.pos)) ahead
  order.foldl (fun acc n => if acc.2 then acc else tryRun n acc.1) (s, false)

/-- On entry to SHAFT_ONLY a running trip still in its SPLICE_OK segment finishes at the nearest car stop that can be spliced to, and
the stop list is frozen (R182). -/
def finishRule (s : State) : State :=
  let s' := if s.inCruise then
      match finishAt s.queuedStops s with
      | (s, true) => s
      | (s, false) => (finishAt s.validStops s).1
    else s
  (s'.wb Reg.TRIP_STATUS_FINISH true).modTrip fun t => { t with frozen := true }

/-- CONF permits a trip to start (Table 06-6); cmd says that TRIP_CMD RESCUE asks for it. -/
def State.confPermits (s : State) (cmd : Bool) (x : Trip) : Bool :=
  let c := s.pos.sample.conf
  if c = 0 then true
  else if c = 1 then decide (1 ≤ x.minConf) && (!bitAt (s.r Reg.PFE_STATUS_CAUSE) Cause.start || bitAt x.flags 0)
  else if c = 2 then cmd && (x.kind == 2 || x.kind == 3) && x.minConf == 2
  else false

/-- CONF still permits the trip whose start is in progress (R181). -/
def State.startPermitted (s : State) : Bool :=
  match s.trip.starting with
  | some x => s.confPermits s.trip.startCmd x
  | none => true

/-- A CONF change is applied: to a start in progress as to a new trip, and to the running trip (R181). -/
def confChange (s : State) : State :=
  let conf := s.pos.sample.conf
  let enter := conf = 2 ∧ s.trip.confSeen ≠ 2
  let s := s.modTrip fun t => { t with confSeen := conf }
  if !s.active then s
  else if !s.startPermitted then abandonStart s
  else if enter ∧ s.r Reg.TRIP_STATUS_STATE = 2 then finishRule s
  else s

/-! ### Meanings -/

/-- SPLICE_ITEM (R173). -/
def execSpliceItem (late : Bool) (s : State) : Res := (noteStops s.trip.stops 0 0 0 (s.awake (spliceItem late))).done
/-- SPLICE_COMMAND (R174). -/
def execSpliceCommand (s : State) : Res := (s.awake spliceCommand).done
/-- CONF_CHANGE_ITEM (R181). -/
def execConfChangeItem (s : State) : Res := (noteStops s.trip.stops 0 0 0 (s.awake confChange)).done

end Sys2Proof.Machine
end

