-- ==== Sys2Proof/Machine/Trip.lean ====
section
/-! DEFINITION. Starting, running and ending trips (file 06): starts, levelling, rescue, the steps of the evaluator channels,
HOLD, limits, out of service and the host's trip commands (R159 to R163, R177 to R185, R189 to R191). -/

namespace Sys2Proof.Machine

/-! ### Starting a trip (R177, R189, R226) -/

/-- The module may start a movement of a standing car: it drives the car, is not Listening, no start is held or in progress, the car
stands with no separation cause (R184), and no fault of R226 is latched. -/
def State.canMove (s : State) : Bool :=
  let state := s.r Reg.TRIP_STATUS_STATE
  s.controlReady && s.active && !s.rb Reg.IMG_MODULE_STATE_LISTENING && !s.rb Reg.MIR_STATUS_HOLD_STARTS && s.saf.bt.brake == 0 &&
    (state == 0 || state == 3 || state == 5) && s.trip.starting.isNone && !s.sepCause && !s.carLoopFault &&
    !s.rb Reg.LOOP_DECK_STATUS_DECK_FAULT

/-- The module may start a trip of its stop list or a rescue trip: the car is in service too (R177). -/
def State.canStart (s : State) : Bool := s.canMove && s.r Reg.TRIP_STATUS_STATE != 5 && !s.outOfService

/-- P_DEST resolved: 0x8000_0000 is the P_STOP of a car stop (Table 06-1). -/
def State.resolveDest (s : State) (x : Trip) (stop : Nat) : Trip :=
  if x.pDest = -2147483648 then { x with pDest := s.stopPos stop } else x

/-- The running trip is shown in the TRIP_ registers. -/
def showTrip (x : Trip) (s : State) : State :=
  let s := ((s.w Reg.TRIP_STATUS_KIND x.kind).w Reg.TRIP_ID x.id).w Reg.TRIP_TARGET_PEAK_BIN x.peakBin
  s.wi Reg.TRIP_DEST_POS x.pDest

/-- A trip start (R22, R177, R221, R212): the trip is copied and its program staged, drive and brakes are requested. cmd says that
TRIP_CMD RESCUE asked for it. -/
def startTrip (cmd : Bool) (x : Trip) (word stop : Nat) (s : State) : State :=
  let x := s.resolveDest x stop
  let s := s.releaseHolds
  let s := if x.kind = 3 then s else s.modTrip fun t => { t with stops := t.stops.filter fun e => e.state != 2 }
  let s := setTarget stop (s.modTrip fun t => { t with 
    starting := some x, startWord := word, startCmd := cmd, rescueHeld := none, waitAt := none, resumeDue := false })
  let s := ((s.w Reg.TRIP_STATUS_STATE 1).wb Reg.TRIP_STATUS_DIR x.up).w Reg.TRIP_TARGET_ORIGIN (s.r Reg.TRIP_STATUS_CAR_STOP)
  let s := (showTrip x s).w Reg.TRIP_STATUS_STOP_CAUSE (s.r Reg.TRIP_STATUS_STOP_CAUSE % 4)
  let s := [0, 1, 2, 3].foldl (fun s i => s.w (Reg.LOOP_DOOR_STATUS_REV_COUNT i) 0) (s.wb Reg.TRIP_SEP_STATUS_WAIT false)
  let s := deckTarget (s.carStop stop).spacing s
  let s := if x.retProg = 0 then s else reticleLoad 0 (x.region + x.retProg) s
  s.requestDrive true

/-- A start that only the separation check can hold: it starts, or is held with WAIT set (R189). -/
def startChecked (cmd : Bool) (x : Trip) (word stop : Nat) (s : State) : State × Bool :=
  match s.startHeld x with
  | some _ => (s.wb Reg.TRIP_SEP_STATUS_WAIT true, false)
  | none => (startTrip cmd x word stop s, true)

/-- The profile of the target's entries: 1 if any asks for it (R177). -/
def State.profileFor (s : State) (stop : Nat) : Nat :=
  b2n (s.trip.stops.any fun e => e.stop == stop && e.state == 0 && e.profile % 2 == 1)

/-- The index word of the trip between two car stops for a class (R165, R166): none where no index has it. -/
def State.tripWord (s : State) (o d k : Nat) : Option Nat :=
  if s.fullAtlas then
    let a := s.atlas
    some (indexWord a.trips (((o - 1) * a.nStops + (d - 1)) * 8 + k))
  else if d = o + 1 ∨ o = d + 1 then some (indexWord s.trip.core.adjacent (((o - 1) * 2 + dirCode (decide (o < d))) * 8 + k))
  else none

/-- The deck permits a trip to a car stop: a changed target needs HOMED (R226). -/
def State.deckPermits (s : State) (stop : Nat) : Bool :=
  !s.loopUsed 5 || s.ri Reg.LOOP_DECK_TARGET == (s.carStop stop).spacing || s.rb Reg.LOOP_DECK_STATUS_HOMED

/-- The car stop a trip would start for, with the load class, the profile and the index word, if all but CONF and separation
allow it (R177). -/
def State.startFor (s : State) : Option (Nat × Nat × Nat × Nat) :=
  let o := s.r Reg.TRIP_STATUS_CAR_STOP
  let d := s.nextStop
  if !s.canStart || o == 0 || d == 0 || d == o || !s.cycleComplete || !s.deckPermits d then none
  else
    let load := s.loadInputs
    let prof := s.profileFor d
    (s.tripWord o d (classIndex load prof)).map fun w => (d, load, prof, w)

/-- A trip to the next car stop starts when all conditions hold (R177). -/
def tripStart (s : State) : State :=
  match s.startFor with
  | none => s
  | some (d, load, prof, w) =>
    if w = 0 then atlasMiss 0 (s.r Reg.TRIP_STATUS_CAR_STOP) d s
    else
      let x := s.tripAt (s.region s.fullAtlas) w
      if !s.confPermits false x then s
      else if (s.startHeld x).isSome then s.wb Reg.TRIP_SEP_STATUS_WAIT true
      else startTrip false x w d ((s.w Reg.TRIP_STATUS_LOAD_CLASS load).w Reg.TRIP_STATUS_PROFILE prof)

/-! ### Levelling and rescue (R179, R180) -/

/-- Both lanes grant DZ_BRIDGE and RELEVEL: the car is bridged in each (R179, R278). -/
def State.bridged (s : State) : Bool := (s.lane 0).bridged && (s.lane 1).bridged

/-- The levelling trip of a direction for the latched load class: index word and trip. -/
def State.levelTrip (s : State) (up : Bool) : Nat × Trip :=
  let w := indexWord s.trip.core.levelling (dirCode up * 4 + s.r Reg.TRIP_STATUS_LOAD_CLASS)
  (w, s.tripAt (s.region false) w)

/-- The levelling trip that a standing car beyond RELEVEL_START needs, in service or not, where the deck permits it: its index word and
the trip (R179, R226). -/
def State.levelDue (s : State) : Option (Nat × Trip) :=
  let n := s.r Reg.TRIP_STATUS_CAR_STOP
  let off := s.pos.sample.pos - s.stopPos n
  if n = 0 ∨ !s.canMove ∨ !s.deckPermits n ∨ mag off ≤ s.trip.env.relevelStart then none else some (s.levelTrip (decide (off < 0)))

/-- With doors open the levelling trip awaits the lanes' DZ_BRIDGE and RELEVEL (R179). -/
def State.levelWaits (s : State) : Bool := !s.cycleComplete && !s.bridged

/-- A standing car beyond RELEVEL_START starts the levelling trip; with doors open the graph requests DZ_BRIDGE and RELEVEL,
and the trip runs only with both granted by the lanes (R179). -/
def levellingStart (s : State) : State :=
  let n := s.r Reg.TRIP_STATUS_CAR_STOP
  match s.levelDue with
  | none => s
  | some (w, x) =>
    if s.levelWaits then (s.request 4 true).request 5 true
    else if w = 0 then atlasMiss 3 n n s
    else if !s.confPermits false x then s
    else (startChecked false x w n s).1

/-- The offset of the band with the largest D_MIN not above a distance. -/
def bandFor (l : List (Nat × Nat)) (dist : Nat) : Option Nat :=
  (l.foldl (fun (b : Option (Nat × Nat)) x =>
    if dist < x.1 then b
    else match b with
      | some y => if y.1 ≤ x.1 then some x else b
      | none => some x) none).map fun x => x.2

/-- The rescue trip to the nearest car stop, in a direction if one is given: car stop, index word, trip and distance; no trip
where none fits, and the word 0 with the KIND looked for at an atlas miss (R165, R180). -/
def State.rescue (s : State) (dir : Option Bool) : Nat × Option (Nat × Trip) × Nat :=
  let p := s.pos.sample.pos
  let l := match dir with
    | some up => s.validStops.filter fun n => aheadOf up (s.stopPos n) p
    | none => s.validStops
  let d := s.nearest l p
  if d = 0 then (0, none, 0)
  else
    let up := decide (p ≤ s.stopPos d)
    let dist := mag (s.stopPos d - p)
    let rec_ := (d - 1) * 2 + dirCode up
    let bands := if s.fullAtlas then SMap.get s.atlas.rescue (rec_ * 8 + s.classIx) [] else SMap.get s.trip.core.rescue rec_ []
    match bandFor bands dist with
    | some w => (d, some (w, if w = 0 then { kind := 2 } else s.tripAt (s.region s.fullAtlas) w), dist)
    | none =>
      let x := s.levelTrip up
      (d, if dist ≤ s.trip.env.relevelStart then some (x.1, if x.1 = 0 then { kind := 3 } else x.2) else none, dist)

/-- No rescue trip is awaited any more. -/
def State.endRescue (s : State) : State := s.modTrip fun t => { t with resumeDue := false, rescueHeld := none }

/-- Everything but the separation check allows a rescue trip to a car stop (R177, R181, R226). -/
def State.rescuePermitted (s : State) (cmd : Bool) (d : Nat) (x : Trip) : Bool := s.canStart && s.confPermits cmd x && s.deckPermits d

/-- A rescue trip starts, is held by the separation check, misses the atlas, or has none that fits (R165, R180, R189). A held one that
TRIP_CMD asked for is accepted and starts when the check passes. -/
def rescueStart (dir : Option Bool) (cmd : Bool) (s : State) : State × Bool :=
  match s.rescue dir with
  | (_, none, dist) => ((s.raise Evt.TRIP_RESCUE_NONE [.qty (dist / 1000)]).endRescue, false)
  | (d, some (0, x), _) => ((atlasMiss x.kind 0 d s).endRescue, false)
  | (d, some (w, x), _) =>
    if !s.rescuePermitted cmd d x then (s, false)
    else
      match startChecked cmd x w d s with
      | (s, true) => (s, true)
      | (s, false) => if cmd then (s.modTrip fun t => { t with rescueHeld := some dir }, true) else (s, false)

/-- The separation causes clear once every comparison has passed for SEP_CLEAR_MS; a car that a separation stop left between
car stops then runs its rescue trip, and so does one whose TRIP_CMD RESCUE the check has held (R189). -/
def separationClear (s : State) : State :=
  let s := if s.sepCause && s.sepClear && s.active then sepClearCauses s else s
  if !s.canStart then s
  else if s.r Reg.TRIP_STATUS_CAR_STOP ≠ 0 then s.endRescue
  else
    match s.trip.rescueHeld with
    | some dir => (rescueStart dir true s).1
    | none => if s.trip.resumeDue then (rescueStart (some s.trip.stoppedUp) false s).1 else s

/-- The neighbour that holds a rescue trip, if one is awaited and only the separation check holds it. -/
def State.rescueWaits (s : State) (dir : Option Bool) (cmd : Bool) : Option Nat :=
  match s.rescue dir with
  | (d, some (w, x), _) => if w != 0 && s.rescuePermitted cmd d x then s.startHeld x else none
  | _ => none

/-- The neighbour that holds a start, if one is due that only the separation check holds: the next stop's trip, a levelling trip, a
rescue trip on command or the resumption after a separation stop (R189). -/
def State.waitingOn (s : State) : Option Nat :=
  let next := match s.startFor with
    | some (_, _, _, w) =>
      let x := s.tripAt (s.region s.fullAtlas) w
      if w ≠ 0 ∧ s.confPermits false x then s.startHeld x else none
    | none => none
  let level := match s.levelDue with
    | some (w, x) => if w ≠ 0 ∧ !s.levelWaits ∧ s.confPermits false x then s.startHeld x else none
    | none => none
  let between := s.r Reg.TRIP_STATUS_CAR_STOP == 0
  let rescue := match s.trip.rescueHeld with
    | some dir => if between then s.rescueWaits dir true else none
    | none => if between && s.trip.resumeDue then s.rescueWaits (some s.trip.stoppedUp) false else none
  next <|> level <|> rescue

/-- SEP_WAIT is raised at once and then every 10 s while the separation check holds a start; WAIT shows that it does (R189). -/
def sepWait (s : State) : State :=
  match s.waitingOn with
  | none => (s.wb Reg.TRIP_SEP_STATUS_WAIT false).modTrip fun t => { t with waitAt := none }
  | some i =>
    let s := s.wb Reg.TRIP_SEP_STATUS_WAIT true
    let due := match s.trip.waitAt with
      | some t => decide (10000000 ≤ s.since t)
      | none => true
    if due then (s.modTrip fun t => { t with waitAt := some s.optime }).raise Evt.SEP_WAIT [.code (s.nbrAddr i)] else s

/-! ### HOLD (R178, R182) -/

/-- Causes that waited for the end of the trip take the car out of service (Table 06-9). -/
def takeDue (s : State) : State :=
  let l := s.trip.oosDue
  l.foldl (fun s c => goOos c s) (s.modTrip fun t => { t with oosDue := [] })

/-- The finish rule ends: the car returns to service, or goes out of it with MACH_OK still 0 (R182). -/
def finishEnd (s : State) : State :=
  if s.rb Reg.TRIP_STATUS_FINISH then
    let s := (s.wb Reg.TRIP_STATUS_FINISH false).modTrip fun t => { t with frozen := false }
    if s.machOk then s else goOos 1 s
  else s

/-- The car's trip reaches HOLD (R178); a diversion still awaited is given up first. -/
def carHold (s : State) : State :=
  let x := (s.chan 0).trip
  let s := match s.trip.commit with
    | some c => if x.kind = 4 then s else demote c.stop (cancelCommit (some c) s)
    | none => s
  let t := s.r Reg.TRIP_TARGET_TARGET
  let stop := if x.kind = 4 then s.stopHere else if t ≠ 0 then t else s.r Reg.TRIP_STATUS_CAR_STOP
  let s := recFePeak 0 (s.eng 0).epPeak (recTrip (s.r Reg.TRIP_TARGET_ORIGIN) stop s)
  let s := ((s.modChan 0 Channel.idle).modTrip fun t => { t with levelDue := true }).wb Reg.MIR_STATUS_FOREIGN false
  let s := if x.kind ≠ 4 ∧ t ≠ 0 then s.markStop t 2 else s
  let s := (((s.w Reg.TRIP_STATUS_STATE 3).w Reg.TRIP_STATUS_CAR_STOP stop).w Reg.TRIP_TARGET_TARGET 0).modTrip fun t => { t with
    commit := none }
  let s := (s.request 2 false).request 3 false
  let s := if x.kind = 3 then (s.request 4 false).request 5 false else s
  let s := if s.trip.loopHeld then s else (s.modeNext 0 1).journal (.mode 0 1)
  let s := doorsArrive stop (x.kind == 3) s
  let s := finishEnd (takeDue s)
  if s.outOfService then s.w Reg.TRIP_STATUS_STATE 5 else s

/-! ### A channel's step (R159 to R163, R174, R184) -/

/-- A controlled stop has begun (R176, R184). -/
def stopBegun (s : State) : State :=
  let x := (s.chan 0).trip
  let s := cancelCommit s.trip.commit s
  let s := (showTrip x s.requeue).w Reg.TRIP_STATUS_STATE 4
  let s := (s.w Reg.TRIP_SPLICE_STATE 0).raise Evt.CTRL_STOP [.code s.trip.stopCode]
  let s := beginStaged 0 x.region x.retProg s
  if bitAt (s.r Reg.TRIP_STATUS_STOP_CAUSE) StopCause.loss then goOos 3 s else s

/-- A commit other than that of a diversion is awaited: a later car stop's, which is kept as it stands. -/
def State.laterCommit (s : State) (x : Trip) : Bool :=
  match s.trip.commit with
  | some c => !(c.issued && c.trip == x)
  | none => false

/-- The diversion awaited is an ALT; without one, what TRIP_SPLICE shows. -/
def State.spliceAlt (s : State) : Bool :=
  match s.trip.commit with
  | some c => c.alt
  | none => s.rb Reg.TRIP_SPLICE_ALT

/-- A SPLICE was accepted (R174). -/
def spliceAccepted (s : State) : State :=
  match (s.chan 0).cont with
  | some x =>
    if s.laterCommit x then s
    else (showSplice x.dest 3 s.spliceAlt x s).modTrip fun t => { t with
      contAlt := s.spliceAlt, contWord := match s.trip.commit with
        | some c => c.word
        | none => t.contWord }
  | none => s

/-- A diversion has begun (R174, R212); the commit of a later car stop goes on. -/
def diversionBegun (s : State) : State :=
  let x := (s.chan 0).trip
  let later := s.laterCommit x
  let s := beginProgram 0 x.region x.retProg (showTrip x (s.modTrip fun t => { t with runWord := t.contWord }))
  let s := if later then s else (s.modTrip fun t => { t with commit := none }).w Reg.TRIP_SPLICE_STATE 4
  deckTarget (s.carStop x.dest).spacing (s.raise Evt.SPLICE_DONE [.code x.dest])

/-- A refused SPLICE takes ALT (R173), unless a controlled stop has discarded it (R176). -/
def spliceRefused (s : State) : State :=
  match s.trip.commit with
  | some c => if c.issued then takeAlt { c with issued := false, staged := false } s else s
  | none => s

/-- What others do about a step of channel k. -/
def takeNote (k : Nat) (s : State) : Note → State
  | .evalBad i => s.raise Evt.TRIP_EVAL_BAD [.code k, .code i]
  | .spliceSet => spliceAccepted s
  | .spliceRefused => spliceRefused s
  | .stopStarted => stopBegun s
  | .continuity i => continuityEvent k i s
  | .segEnd => s.post 11 k
  | .spliceDone => diversionBegun s
  | .hold => if k = 0 then carHold s else if k = 5 then deckHold s else doorHold k s

/-- A channel's result is stored and its notes taken. -/
def channelResult (k : Nat) (x : Channel × List Note) (s : State) : State :=
  let s := x.2.foldl (takeNote k) (s.modChan k fun _ => x.1)
  if k = 0 then s.wb Reg.TRIP_STATUS_CONTINUATION (s.chan 0).cont.isSome else s

/-- The fault of a SEG_TIMEOUT on a channel (R163, R222). -/
def timeoutFault (k : Nat) (s : State) : State :=
  if k = 0 then tripLimit 3 s else if k = 5 then deckFault 3 s else doorFault k 3 s

/-- A segment other than TIME has reached DUR: it ends, and the fault latches (R159, R163). -/
def segTimeout (k : Nat) (s : State) : State :=
  let c := s.chan k
  if c.running && c.timeout then timeoutFault k (channelResult k (c.segEnd s.joinTol) s) else s

/-- The limit checker's comparison of a step of the car: the state that the step has made, under the jerk of the segment that made it
(R163). -/
def limitStep (c : Channel) (s : State) : State :=
  let above := fun (x : Int) (f : Field) => decide ((s.r f : Int) * one32 < (mag x : Int))
  if c.moving then
    let v := b2n (above c.v Reg.TRIP_V_LIM) + 2 * b2n (above c.a Reg.TRIP_A_LIM) + 4 * b2n (above (c.cur.j * one32) Reg.TRIP_J_LIM)
    s.modTrip fun t => { t with limitNow := Nat.lor t.limitNow v }
  else s

/-- What a door's channel does before its step: a selection, then a pending start (R217, R219). -/
def doorBefore (k : Nat) (s : State) : State := if 1 ≤ k ∧ k ≤ 4 then doorBeginPending k (doorSelect k s) else s

/-- One step of a channel, once at each tick (R159). -/
def evaluatorStep (k : Nat) (s : State) : State :=
  if (s.chan k).last = some s.optime then s
  else
    let s := doorBefore k (segTimeout k (s.modChan k fun c => { c with last := some s.optime }))
    let c := s.chan k
    channelResult k (c.step s.joinTol) (s.when_ (k == 0) (limitStep (c.pending s.joinTol).1.advance))

/-- The evaluator begins the trip once drive enable is granted and both brakes are lifted (R177, R201 step 2); a start that CONF no
longer permits is given up (R181). -/
def tripBegin (s : State) : State :=
  match s.trip.starting with
  | none => s
  | some x =>
    if !s.active || !s.granted || !s.brakes 1 then s
    else if !s.startPermitted then abandonStart s
    else
      let s := s.releaseHolds
      let s := s.modTrip fun t => { t with starting := none, tripped := true, limitRun := 0, limitNow := 0, runWord := t.startWord }
      let s := s.wb Reg.MIR_STATUS_FOREIGN false
      let s := if x.kind = 3 then s else s.w Reg.TRIP_STATUS_CAR_STOP 0
      let s := (s.w Reg.TRIP_STATUS_STATE 2).modEng 0 fun e => { e with epPeak := 0 }
      let s := (beginProgram 0 x.region x.retProg s).modeNext 0 1
      let s := (s.journal (.tripStart x s.trip.startWord s.mir.k)).journal (.mode 0 1)
      let c := (s.chan 0).begin_ x
      channelResult 0 (c, c.enter s.joinTol) s

/-- Violations in LIMIT_N consecutive car periods latch TRIP_LIMIT (R163). -/
def tripLimitDue (s : State) : State :=
  let n := s.r Reg.TRIP_LIMIT_STATUS_LIMIT_N
  let last := s.r Reg.TRIP_LIMIT_STATUS_LAST
  if n = 0 ∨ s.trip.limitRun < n then s
  else tripLimit (if bitAt last 0 then 0 else if bitAt last 1 then 1 else 2) s

/-! ### TRIP_CMD (R190, R191) -/

/-- OUT_OF_SERVICE takes effect at the end of the running trip (R191). -/
def cmdOutOfService (s : State) : State × Bool := (oosAfterTrip 2 s, true)

/-- BRAKE_FAULT or BRAKE_TEST_FAIL is latched for either brake in either lane. -/
def State.brakeFaulted (s : State) : Bool := bits (s.lane 0).faults 35 32 != 0 || bits (s.lane 1).faults 35 32 != 0

/-- RETURN awaits a passing brake test on command (R190). -/
def State.btPending (s : State) : Bool := s.trip.btRecorded && !s.trip.btPassed.all id

/-- RETURN is refused (R190). -/
def State.returnRefused (s : State) : Bool :=
  decide (2 ≤ s.pos.sample.conf) || s.sepCause || (bitAt (s.r Reg.TRIP_OOS_CAUSES) 4 && (s.brakeFaulted || s.btPending))

/-- RETURN brings the car back to service (R190). -/
def cmdReturn (s : State) : State × Bool :=
  if s.returnRefused then (s, false)
  else
    let s := ((s.wb Reg.TRIP_STATUS_TRIP_LIMIT false).w Reg.TRIP_OOS_CAUSES 0).wb Reg.TRIP_OOS_BT_PENDING false
    let s := ((s.freeMarks 0).w Reg.TRIP_STATUS_STOP_CAUSE (s.r Reg.TRIP_STATUS_STOP_CAUSE % 4)).modTrip fun t => { t with
      btRecorded := false, btPassed := [false, false], limitRun := 0 }
    (if s.r Reg.TRIP_STATUS_STATE = 5 then s.w Reg.TRIP_STATUS_STATE 0 else s, true)

/-- RESCUE is accepted in STATE IDLE or HOLD, away from every car stop (R180, R191). -/
def cmdRescue (dir : Nat) (s : State) : State × Bool :=
  let st := s.r Reg.TRIP_STATUS_STATE
  if (st ≠ 0 ∧ st ≠ 3) ∨ s.stopHere ≠ 0 then (s, false)
  else rescueStart (if dir = 1 then some true else if dir = 2 then some false else none) true s

/-- A command of TRIP_CMD carried out: entered in the journal, or refused (R191, R354). -/
def tripCmdDo (cmd dir : Nat) (s : State) : State :=
  match if cmd = 1 then cmdOutOfService s else if cmd = 2 then cmdReturn s else cmdRescue dir s with
  | (s, true) => s.journal (.tripCmd cmd dir)
  | (s, false) => s.raise Evt.TRIP_CMD_REFUSED [.code cmd]

/-- A write of TRIP_CMD with its CONFIRM goes through port 15; one that meets a full FIFO has no effect and is refused (R81, R191). In
Parked the port holds its decrement, and the command waits for the exit (R406). -/
def tripCmd (cmd dir confirm : Nat) (s : State) : State :=
  if confirm ≠ 0x7E19 then s
  else
    match tripCmdPush (cmd + 16 * (dir % 4) + 65536 * confirm) s with
    | (s, false) => s.raise Evt.TRIP_CMD_REFUSED [.code cmd]
    | (s, true) =>
      if !s.active then s
      else if s.parked then s.modTrip fun t => { t with cmdsHeld := t.cmdsHeld ++ [(cmd, dir)] }
      else tripCmdDo cmd dir s

/-- The commands of TRIP_CMD that port 15 has held are carried out after the exit from Parked, oldest first (R406, R407). -/
def tripCmdsHeld (s : State) : State :=
  s.trip.cmdsHeld.foldl (fun s x => tripCmdDo x.1 x.2 s) (s.modTrip fun t => { t with cmdsHeld := [] })

/-! ### Meanings -/

/-- A meaning that may change the stop list: the change is noted (R354). -/
def noted (f : State → State) (s : State) : Res := (noteStops s.trip.stops 0 0 0 (f s)).done

/-- EVALUATOR_STEP (R159). -/
def execEvaluatorStep (channel : Nat) (s : State) : Res := noted (fun s => s.awake (evaluatorStep (channel % 6))) s
/-- SEG_TIMEOUT (R159). -/
def execSegTimeout (channel : Nat) (s : State) : Res := noted (fun s => s.awake (segTimeout (channel % 6))) s
/-- TRIP_LIMIT (R163). -/
def execTripLimit (s : State) : Res := noted (fun s => s.awake tripLimitDue) s
/-- TRIP_START (R177). -/
def execTripStart (s : State) : Res := noted (fun s => s.awake tripStart) s
/-- TRIP_BEGIN (R177). -/
def execTripBegin (s : State) : Res := noted (fun s => s.awake tripBegin) s
/-- LEVELLING_START (R179). -/
def execLevellingStart (s : State) : Res := noted (fun s => s.awake levellingStart) s
/-- TRIP_CMD_OUT_OF_SERVICE (R191). -/
def execTripCmdOutOfService (confirm : Nat) (s : State) : Res :=
  noted (fun s => s.served (tripCmd 1 0 confirm)) s
/-- TRIP_CMD_RETURN (R190). -/
def execTripCmdReturn (confirm : Nat) (s : State) : Res :=
  noted (fun s => s.served (tripCmd 2 0 confirm)) s
/-- TRIP_CMD_RESCUE (R180). -/
def execTripCmdRescue (dir confirm : Nat) (s : State) : Res :=
  noted (fun s => s.served (tripCmd 3 (dir % 4) confirm)) s
/-- SEPARATION_CLEAR (R189). -/
def execSeparationClear (s : State) : Res := noted (fun s => s.awake separationClear) s
/-- SEP_WAIT (R189). -/
def execSepWait (s : State) : Res := (sepWait s).done

end Sys2Proof.Machine
end

