-- ==== Sys2Proof/Machine/Lane.lean ====
section
/-! DEFINITION. The safety lanes' judgement (files 08 and 09): parameters, inputs, functions, poles, latching, and what a lane
does at its sample instants (R228 to R231, R237 to R248, R264 to R285). -/

namespace Sys2Proof.Machine

/-! ### The canonical list (R454) -/

/-- The canonical values a lane applies, overrides included (R454). -/
def State.canon (s : State) (l : Nat) : List Int :=
  let t := s.laneTable l
  t.overs.foldl (fun c o => match lookup (s.lane l).overrides o.index with
    | some v => setNth c o.place (toI 32 v)
    | none => c) t.canon

/-- A table with one of its values in place. -/
def LaneTable.put (t : LaneTable) (v : Int) : LaneValue → LaneTable
  | .stop n => { t with stops := setNth t.stops n v }
  | .envDist true n => { t with envUp := modAt t.envUp n (fun x => (v.toNat, x.2)) (0, 0) }
  | .envDist false n => { t with envDown := modAt t.envDown n (fun x => (v.toNat, x.2)) (0, 0) }
  | .envSpeed true n => { t with envUp := modAt t.envUp n (fun x => (x.1, v.toNat)) (0, 0) }
  | .envSpeed false n => { t with envDown := modAt t.envDown n (fun x => (x.1, v.toNat)) (0, 0) }
  | .terminal true => { t with terminalUp := v }
  | .terminal false => { t with terminalDown := v }
  | .hard true b => { t with hardAbove := SMap.insert t.hardAbove b v.toNat }
  | .hard false b => { t with hardBelow := SMap.insert t.hardBelow b v.toNat }
  | .gap true => { t with gapUp := v }
  | .gap false => { t with gapDown := v }
  | .bin n => { t with bins := setNth t.bins n v.toNat }

/-- A lane's table as the lane applies it: the overrides in force in place of the values they name (R260). -/
def State.applied (s : State) (l : Nat) : LaneTable :=
  let t := s.laneTable l
  t.overs.foldl (fun u o => match o.value, lookup (s.lane l).overrides o.index with
    | some x, some v => u.put (toI 32 v) x
    | _, _ => u) t

/-- DIGEST of a lane (R454). -/
def State.digest (s : State) (l : Nat) : Nat := crc32c ((s.canon l).flatMap fun v => leBytes 4 (ofI 32 v))

/-! ### Faults (R235, R269) -/

/-! Places of the faults in the FAULTS field (Tables 08-3 and 09-4). -/

namespace FaultBit
/-- PRISM_LINK -/
def prismLink : Nat := 26
/-- LANE_CLOCK -/
def laneClock : Nat := 27
/-- PARAM_MISMATCH -/
def param : Nat := 28
/-- LANE_POS_DIFF -/
def posDiff : Nat := 29
/-- SAFETY_SET_LOAD -/
def setLoad : Nat := 30
/-- SAFETY_SET_MISMATCH -/
def setMismatch : Nat := 31
/-- BRAKE_FAULT of brake 1 -/
def brake : Nat := 32
/-- BRAKE_TEST_FAIL of brake 1 -/
def brakeTest : Nat := 34
/-- DZB_TRIP -/
def dzb : Nat := 36
/-- UCM -/
def ucm : Nat := 37
/-- OVERSPEED -/
def overspeed : Nat := 38
/-- FINAL_LIMIT -/
def finalLimit : Nat := 39
/-- REDUCED_STROKE -/
def reduced : Nat := 40
/-- INSP_OVERSPEED -/
def insp : Nat := 41
/-- LOCK_OPENED -/
def lockOpened : Nat := 42
/-- LOCK_BRIDGED -/
def lockBridged : Nat := 43
/-- SEP_TRIP -/
def sep : Nat := 44
/-- STOP_OPENED -/
def stop : Nat := 45
/-- FAST_CUT -/
def fastCut : Nat := 46
/-- PERM_MISMATCH -/
def perm : Nat := 48
/-- OUT_CMD_MISMATCH -/
def outCmd : Nat := 49
/-- TP_FAULT of TP1 -/
def tp : Nat := 50
end FaultBit

/-- A fault is latched in a lane. -/
def State.faulted (s : State) (l bit : Nat) : Bool := bitAt (s.lane l).faults bit

/-- A fault latches in a lane; the event is raised by the first lane that finds it. -/
def latchFault (l bit : Nat) (e : Evt) (args : List Arg) (s : State) : State :=
  let first := !s.faulted 0 bit && !s.faulted 1 bit
  (s.modLane l fun x => { x with faults := setBit x.faults bit true }).when_ first fun s => s.raise e args

/-! ### Inputs (R239, R240, R244 to R247, R264, R265) -/

/-- An input is in use. -/
def State.siEn (s : State) (l i : Nat) : Bool := s.parB l (Reg.SAF_SI_CFG_EN i)

/-- The input is fast class. -/
def State.siFast (s : State) (l i : Nat) : Bool := s.parB l (Reg.SAF_SI_CFG_FAST i)

/-- The TP, 1 to 4, that feeds a lane's channel of an input; 0 static. -/
def State.siTp (s : State) (l i : Nat) : Nat :=
  if l = 0 then s.par 0 (Reg.SAF_SI_CFG_TP_A i)
  else
    let v := s.par 1 (Reg.SAF_SI_CFG_TP_B i)
    if v = 0 then 0 else v + 2

/-- A TP_FAULT holds an input OFF (R247). -/
def State.tpHeld (s : State) (l i : Nat) : Bool :=
  [0, 1].any fun m =>
    let t := if m = 0 then s.par l (Reg.SAF_SI_CFG_TP_A i)
      else if s.par l (Reg.SAF_SI_CFG_TP_B i) = 0 then 0 else s.par l (Reg.SAF_SI_CFG_TP_B i) + 2
    t != 0 && s.faulted l (FaultBit.tp + t - 1)

/-- The state of an input in a lane (R240, R244, R246, R247): its own filtered channel and the other lane's latest both ON, no
fault holding it. -/
def State.siState (s : State) (l i : Nat) : Bool :=
  let x := s.lane l
  s.siEn l i && bitAt x.chan i && x.heard && bitAt (nth x.other.samples 4 0) i && !bitAt x.faults i && !s.tpHeld l i

/-- The input of a role, 0 for SI01; none for a disabled role (R265). -/
def State.role (s : State) (l r : Nat) : Option Nat :=
  let v := s.par l (Reg.SAF_ROLE (r / 4)) / 256 ^ (r % 4) % 256
  if 1 ≤ v ∧ v ≤ 16 then some (v - 1) else none

/-- The input of a role is ON; a disabled role is ignored. -/
def State.roleOn (s : State) (l r : Nat) : Bool :=
  match s.role l r with
  | some i => s.siState l i
  | none => true

/-- The same where the rule asks for enabled inputs only. -/
def State.roleOnEn (s : State) (l r : Nat) : Bool :=
  match s.role l r with
  | some i => !s.siEn l i || s.siState l i
  | none => true

/-- The first role of a list whose input is not ON. -/
def State.firstOff (s : State) (l : Nat) (rs : List Nat) : Nat := (rs.find? fun r => !s.roleOnEn l r).getD 0

/-- Every STOP1 and STOP2 input is ON. -/
def State.stopOn (s : State) (l : Nat) : Bool := [0, 1].all fun r => s.roleOn l r

/-- The doors are closed (Table 09-1). -/
def State.doorsClosed (s : State) (l : Nat) : Bool := [2, 3, 4, 5].all fun r => s.roleOnEn l r

/-- Every enabled DZ input is ON. -/
def State.dzOn (s : State) (l : Nat) : Bool := [6, 7].all fun r => s.roleOnEn l r

/-- Inspection operation: the INSP input is OFF. -/
def State.inspection (s : State) (l : Nat) : Bool := !s.roleOn l 10

/-! ### Outputs and permissions (R228, R229, R266, R270) -/

/-- An output is in use. -/
def State.outEn (s : State) (l o : Nat) : Bool := s.parB l (Reg.SAF_OUT_CFG_EN o)

/-- The request of an output; 0 always requested. -/
def State.outReq (s : State) (l o : Nat) : Nat := s.par l (Reg.SAF_FN_OUT_REQ o)

/-- The function mask of an output. -/
def State.outMask (s : State) (l o : Nat) : Nat := s.par l (Reg.SAF_FN_OUT_FUNC_MASK o)

/-- The request assigned to an output is present at the lane's own request input. -/
def State.outRequested (s : State) (l o : Nat) : Bool := s.outReq l o == 0 || bitAt (s.lane l).req (s.outReq l o - 1)

/-- The outputs in use whose REQ is a function. -/
def State.outsOf (s : State) (l f : Nat) : List Nat := (List.range 10).filter fun o => s.outEn l o && s.outReq l o == f

/-- An output reads energized in a lane: its own pole live, the other from the other lane's latest valid record (R270). -/
def State.energized (s : State) (l o : Nat) : Bool :=
  bitAt (s.lane l).rb o && (s.lane l).heard && bitAt (s.lane l).other.outRb o

/-- Both poles conduct (R228). -/
def State.conducting (s : State) (o : Nat) : Bool := bitAt (s.lane 0).rb o && bitAt (s.lane 1).rb o

/-- The number with the bits of a predicate below n. -/
def maskOf (n : Nat) (p : Nat → Bool) : Nat := ofBits ((List.range n).map p)

/-- The field side can close a lane's pole: its logic is powered, its group is not silent and its coupler lane not lost (R231, R304,
R310). -/
def State.poleLive (s : State) (l o : Nat) : Bool :=
  let g := 13 + 2 * l + o / 8
  s.fio.power && !s.sideSilent g && !s.channelLost g (o % 8)

/-- A pole's readback stage: conducting up to 2.0 V across its switch, open from 6.0 V, its previous report between them (R435). -/
def stageReport (was : Bool) (mv : Nat) : Bool := decide (mv ≤ 2000) || (was && decide (mv < 6000))

/-- A lane's readbacks from the voltages across its switches, mV; a pole that the field side holds open reads open (R435,
Table 10-5). -/
def State.readPoles (s : State) (l : Nat) (volts : List Nat) : Nat :=
  maskOf 10 fun o => stageReport (bitAt (s.lane l).rb o) (nth volts o 6000) && s.poleLive l o

/-- The coupler lane of a lane's BK group, Table 10-1's group 14 or 16, is lost: 2 and 3 the current senses, 4 and 5 the TPs, 6 SRST. -/
def State.senseLost (s : State) (l k : Nat) : Bool := s.channelLost (14 + 2 * l) k

/-- Outputs that a latched fault holds in a lane (Tables 08-5 and 08-9, R241, R248). -/
def State.faultHold (s : State) (l : Nat) : Nat :=
  let x := s.lane l
  if bits x.faults 31 26 ≠ 0 then 1023
  else
    let cut := (bitNums 16 x.fastCut).foldl (fun m i => Nat.lor m (s.par l (Reg.SAF_SI_CUT i))) 0
    Nat.lor (Nat.lor (bits x.faults 25 16) (if bitAt x.faults FaultBit.outCmd then x.cmdHeld else 0))
      (if bitAt x.faults FaultBit.fastCut then cut else 0)

/-- Some lane's position is valid for a lane: its own, or the other's in its record (R237). -/
def State.anyPos (s : State) (l : Nat) : Bool := (s.lane l).posValid || ((s.lane l).heard && bitAt (s.lane l).other.flags 4)

/-- Outputs for which conditions 1, 2 and 4 of R229 hold, with R56 and the last case of R237. -/
def State.allowed (s : State) (l : Nat) : Nat :=
  let x := s.lane l
  if !x.started || !s.controlReady || !s.anyPos l then 0
  else maskOf 10 fun o => s.outEn l o && s.outRequested l o && Nat.land x.perm (s.outMask l o) == s.outMask l o &&
    !bitAt (s.faultHold l) o

/-- Outputs for which condition 3 of R229 holds too. -/
def State.closable (s : State) (l : Nat) : Nat :=
  let x := s.lane l
  Nat.land (s.allowed l) (maskOf 10 fun o => x.heard && Nat.land x.other.perm (s.outMask l o) == s.outMask l o)

/-- Outputs held open by a cut or fault in a lane: held by a fault, or requested and not permitted (R267). -/
def State.held (s : State) (l : Nat) : Nat :=
  if !(s.lane l).started then 1023
  else Nat.lor (s.faultHold l) (maskOf 10 fun o => s.outEn l o && s.outRequested l o && !bitAt (s.closable l) o)

/-- The pole of a running pulse: lane and output. -/
def Pulse.pole (p : Pulse) : Option (Nat × Nat) :=
  if p.slot < 10 then some (0, p.slot) else if p.slot < 20 then some (1, p.slot - 10) else none

/-- The output whose pole a lane has open for a running pulse. -/
def State.pulsed (s : State) (l : Nat) : Option Nat :=
  s.saf.pulse.bind fun p => p.pole.bind fun x => if x.1 = l then some x.2 else none

/-- A lane's pole commands. -/
def setCmd (l new : Nat) (s : State) : State :=
  s.modLane l fun x => { x with
    cmd := new
    cmdAt := (List.range 10).map fun o => if bitAt x.cmd o == bitAt new o then nth x.cmdAt o 0 else s.optime }

/-- A demand during a pulse: the test is aborted (R252). -/
def abortPulse (l o : Nat) (s : State) : State :=
  match s.saf.pulse with
  | some p =>
    if p.aborted then s
    else
      let s := (s.modSaf fun x => { x with pulse := some { p with aborted := true } }).modLane l fun x => { x with aborted := true }
      (s.inc Reg.SAF_TEST_COUNT_ABORTED).raise Evt.OUT_TEST_ABORTED [.code o, .code l]
  | none => s

/-- A lane opens at once every pole whose condition 1, 2 or 4 has ceased (R229, R252). -/
def laneOpen (l : Nat) (s : State) : State :=
  let a := s.allowed l
  let s := match s.pulsed l with
    | some o => if bitAt a o then s else abortPulse l o s
    | none => s
  setCmd l (Nat.land (s.lane l).cmd a) s

/-! ### Position functions (R268, R277 to R285) -/

/-- The distance to the nearest P_STOP of a lane's table, if it has one. -/
def State.stopDist (s : State) (l : Nat) (p : Int) : Option Nat :=
  (s.applied l).stops.foldl (fun b x =>
    let d := mag (p - x)
    match b with
    | some y => some (min d y)
    | none => some d) none

/-- The car lies within DZB_WIN of the nearest car stop. -/
def State.inWindow (s : State) (l : Nat) : Bool :=
  match s.stopDist l (s.lane l).pos with
  | some d => decide (d ≤ s.par l Reg.SAF_DZ_CFG_DZB_WIN * 1000)
  | none => false

/-- The first door-zone condition that fails: 0 DZ input, 1 window, 2 speed, 3 inspection (R278, Table 09-9). -/
def State.dzbFail (s : State) (l : Nat) : Option Nat :=
  if !s.dzOn l then some 0
  else if !s.inWindow l then some 1
  else if s.par l Reg.SAF_DZ_CFG_DZB_SPEED * 1000 < mag (s.lane l).speed then some 2
  else if s.inspection l then some 3
  else none

/-- Whether a speed exceeds a reduced-stroke envelope at a distance: linear between points, the first point's speed below it, no
limit beyond the last (R281). Distances in µm against mm, speeds in µm/s against mm/s. -/
def envExceeded : List (Nat × Nat) → Nat → Nat → Bool
  | [], _, _ => false
  | [(d0, v0)], d, v => decide (d ≤ d0 * 1000) && decide (v0 * 1000 < v)
  | (d0, v0) :: (d1, v1) :: rest, d, v =>
    if d ≤ d0 * 1000 then decide (v0 * 1000 < v)
    else if d ≤ d1 * 1000 then
      let w := (d1 - d0) * 1000
      decide ((((v0 * 1000 * w : Nat) : Int) + ((v1 : Int) - (v0 : Int)) * 1000 * ((d - d0 * 1000 : Nat) : Int)) < ((v * w : Nat) : Int))
    else envExceeded ((d1, v1) :: rest) d v

/-- The car lies beyond the upper or the lower final limit: the own position past it, or the FL input of that terminal OFF (R282). -/
def State.beyondLimit (s : State) (l : Nat) (up : Bool) : Bool :=
  let p := (s.lane l).pos
  if up then decide (s.parI l Reg.SAF_FINAL_UP < p) || !s.roleOn l 8 else decide (p < s.parI l Reg.SAF_FINAL_DN) || !s.roleOn l 9

/-- The speed exceeds the reduced-stroke envelope of the terminal the car moves toward (R281): 0 up, 1 down. -/
def State.strokeExceeded (s : State) (l : Nat) : Option Nat :=
  let x := s.lane l
  let t := s.applied l
  if 0 < x.speed ∧ !s.beyondLimit l true ∧ envExceeded t.envUp (t.terminalUp - x.pos).toNat (mag x.speed) then some 0
  else if x.speed < 0 ∧ !s.beyondLimit l false ∧ envExceeded t.envDown (x.pos - t.terminalDown).toNat (mag x.speed) then some 1
  else none

/-- What R282 puts in place of the travel conditions for a terminal beyond whose final limit the car lies: inspection operation,
and a speed toward that terminal below 10 mm/s. A car within that limit meets it. -/
def finalLimitHolds (s : State) (l : Nat) (up : Bool) : Bool :=
  let v := (s.lane l).speed
  !s.beyondLimit l up || (s.inspection l && decide ((if up then v else -v) < 10000))

/-- The travel conditions of EOT (R281), with R282 in their place at a terminal beyond whose final limit the car lies. -/
def State.eotHolds (s : State) (l : Nat) : Bool :=
  (s.strokeExceeded l).isNone && finalLimitHolds s l true && finalLimitHolds s l false

/-- The gap a lane forms to a neighbour (R186, R284). -/
def State.laneGap (s : State) (l i : Nat) : Int :=
  let x := s.lane l
  let n := nth x.nbrs i {}
  if i = 0 then n.pos - x.pos - (s.applied l).gapUp else x.pos - n.pos - (s.applied l).gapDown

/-- G_HARD of a lane's table for the own and the neighbour's signed bin (R284). -/
def State.laneHard (s : State) (l i : Nat) : Nat :=
  let t := s.applied l
  SMap.get (if i = 0 then t.hardAbove else t.hardBelow)
    (signedBin t.bins (s.lane l).speed * 64 + signedBin t.bins (nth (s.lane l).nbrs i {}).speed) 0

/-- The car's slowing violates the stale-data rule for a neighbour; a car that stands, below 1 mm/s, keeps SEP (R285). -/
def State.staleViolated (s : State) (l i : Nat) : Bool :=
  match (nth (s.lane l).nbrs i {}).stale with
  | some (t0, v0) =>
    decide (1000 ≤ mag (s.lane l).speed) && decide ((v0 + s.par l Reg.SAF_SEP_LANE_SEP_V_TOL * 1000) * 1000 <
      mag (s.lane l).speed * 1000 + s.par l Reg.SAF_SEP_LANE_SEP_DEC * s.since t0)
  | none => false

/-- Why SEP ceases in a lane: reason and neighbour (R284, Table 09-9). -/
def State.sepFail (s : State) (l : Nat) : Option (Nat × Nat) :=
  let one := fun i =>
    let n := nth (s.lane l).nbrs i {}
    if s.nbrAddr i = 0 then none
    else if n.hard then some (0, i)
    else if s.staleViolated l i then some (2, i)
    else if n.seen && decide (s.laneGap l i < (s.laneHard l i : Int)) then some (1, i)
    else none
  (one 0).orElse fun _ => one 1

/-- Data of a named neighbour becomes stale: v0 is recorded (R285). -/
def sepStale (l i : Nat) (s : State) : State :=
  let x := s.lane l
  let n := nth x.nbrs i {}
  let last := if n.seen then n.at_ else x.firstAt
  if s.nbrAddr i = 0 ∨ !x.started ∨ n.stale.isSome ∨ s.since last < s.par l Reg.SAF_SEP_LANE_SEP_AGE_MS * 1000 then s
  else
    let other := (nth (s.lane (1 - l)).nbrs i {}).stale.isSome
    (s.modLane l fun x => { x with nbrs := modAt x.nbrs i (fun n => { n with stale := some (s.optime, mag x.speed) }) {} }).when_ (!other)
      fun s => s.raise Evt.SEP_STALE [.code (s.nbrAddr i)]

/-! ### Brakes (R271, R272, R275) -/

/-- The coil limits of a brake, 0 or 1: I_PICK, I_HOLD_MIN, T_PICK, I_MAX, I_OFF. -/
def State.brakeLim (s : State) (l b : Nat) : Nat × Nat × Nat × Nat × Nat :=
  if b = 0 then (s.par l Reg.SAF_BRAKE_CFG_1_I_PICK, s.par l Reg.SAF_BRAKE_CFG_1_I_HOLD_MIN, s.par l Reg.SAF_BRAKE_CFG_1_T_PICK,
    s.par l Reg.SAF_BRAKE_LIM_1_I_MAX, s.par l Reg.SAF_BRAKE_LIM_1_I_OFF)
  else (s.par l Reg.SAF_BRAKE_CFG_2_I_PICK, s.par l Reg.SAF_BRAKE_CFG_2_I_HOLD_MIN, s.par l Reg.SAF_BRAKE_CFG_2_T_PICK,
    s.par l Reg.SAF_BRAKE_LIM_2_I_MAX, s.par l Reg.SAF_BRAKE_LIM_2_I_OFF)

/-- A brake of a lane. -/
def State.laneBrake (s : State) (l b : Nat) : LaneBrake := nth (s.lane l).brakes b {}

/-- A brake of a lane changed. -/
def State.modBrake (s : State) (l b : Nat) (f : LaneBrake → LaneBrake) : State :=
  s.modLane l fun x => { x with brakes := modAt x.brakes b f {} }

/-- The LIFT input of a brake as a lane itself reads it (R271): 1 ON, 0 OFF, 2 if the role is disabled. -/
def State.liftInput (s : State) (l b : Nat) : Nat :=
  match s.role l (11 + b) with
  | some i => b2n (s.siEn l i && bitAt (s.lane l).chan i)
  | none => 2

/-- What a lane reports of a brake (R271): 0 applied, 1 lifted, 2 changing. -/
def State.brakeReport (s : State) (l b : Nat) : Nat :=
  let lim := s.brakeLim l b
  let on := s.energized l (8 + b)
  let i := (s.laneBrake l b).current
  if on && s.liftInput l b != 1 && decide (lim.2.1 ≤ i) then 1
  else if !on && s.liftInput l b != 0 && decide (i < lim.2.2.2.2) then 0
  else 2

/-- BRAKE_FAULT latches in a lane with a cause, and the fabric takes the car out of service (R272). -/
def brakeFault (l b cause : Nat) (s : State) : State :=
  if s.faulted l (FaultBit.brake + b) then s
  else
    let first := !s.faulted (1 - l) (FaultBit.brake + b)
    let s := latchFault l (FaultBit.brake + b) Evt.BRAKE_FAULT [.code (b + 1), .code cause] s
    s.when_ first fun s =>
      oosAfterTrip 4 (s.w (if b = 0 then Reg.SAF_BRAKE_STATUS_CAUSE1 else Reg.SAF_BRAKE_STATUS_CAUSE2) cause)

/-- LIFT_TIME_MS, DROP_TIME_MS or T_PICK has expired without the expected state or current (Table 09-5). -/
def brakeTimeout (l b : Nat) (s : State) : State :=
  let x := s.laneBrake l b
  let lim := s.brakeLim l b
  match x.onAt, x.offAt with
  | some t, _ =>
    let s := if !x.lifted && decide (s.par l Reg.SAF_BRAKE_TIMES_LIFT_TIME_MS * 1000 ≤ s.since t) then brakeFault l b 0 s else s
    if !x.picked && decide (lim.2.2.1 * 1000 ≤ s.since t) then
      let s := s.modBrake l b fun y => { y with picked := true }
      if x.current < lim.1 then brakeFault l b 2 s else s
    else s
  | none, some t =>
    if !x.applied && decide (s.par l Reg.SAF_BRAKE_TIMES_DROP_TIME_MS * 1000 ≤ s.since t) then brakeFault l b 1 s else s
  | none, none => s

/-- A lane takes a brake's energization and state; a change of lane A's report is raised (R271). -/
def brakeObserve (l b : Nat) (s : State) : State :=
  let on := s.energized l (8 + b)
  let v := s.brakeReport l b
  let was := (s.laneBrake l b).state
  let s := s.modBrake l b fun x =>
    let x := if on && x.onAt.isNone then
        { x with onAt := some s.optime, offAt := none, lifted := false, picked := false, lowRun := 0, liftRun := 0 }
      else if !on && (x.onAt.isSome || (x.offAt.isNone && s.outEn l (8 + b))) then
        { x with onAt := none, offAt := some s.optime, applied := false }
      else x
    { x with state := v, lifted := x.lifted || (on && v == 1), applied := x.applied || (!on && v == 0) }
  s.when_ (l == 0 && v != was) fun s => s.raise Evt.BRAKE_STATE [.code (b + 1), .code v]

/-- A lane judges a brake at a sample instant (Table 09-5, causes 0 to 5). -/
def brakeSample (l b : Nat) (s : State) : State :=
  let s := brakeTimeout l b (brakeObserve l b s)
  let lim := s.brakeLim l b
  let s := s.modBrake l b fun x => { x with
    overRun := if lim.2.2.2.1 < x.current then x.overRun + 1 else 0
    lowRun := if x.onAt.isSome && x.lifted && decide (x.current < lim.2.1) then x.lowRun + 1 else 0
    liftRun := if x.onAt.isSome && x.lifted && s.liftInput l b == 1 then x.liftRun + 1 else 0 }
  let x := s.laneBrake l b
  let s := if 4 ≤ x.lowRun then brakeFault l b 3 s else s
  let s := if 2 ≤ x.overRun then brakeFault l b 4 s else s
  if 20 ≤ x.liftRun then brakeFault l b 5 s else s

/-- A brake is the held brake of a running brake test in a lane: BRAKE_TEST is present and the brake is not requested lifted; of
two requested brakes only the one already granted is lifted (R274). -/
def State.heldBrake (s : State) (l b : Nat) : Bool :=
  let x := s.lane l
  bitAt x.req 5 && (!bitAt x.req (1 + b) || (bitAt x.req (2 - b) && !bitAt x.perm (9 + b)))

/-- BRAKE_TEST_FAIL latches for a brake; the car finishes where it stands and goes out of service (R275). -/
def brakeTestFail (l b : Nat) (s : State) : State :=
  if s.faulted l (FaultBit.brakeTest + b) then s
  else
    let first := !s.faulted (1 - l) (FaultBit.brakeTest + b)
    let s := latchFault l (FaultBit.brakeTest + b) Evt.BRAKE_TEST_FAIL [.code (b + 1), .qty (s.lane l).btPeak] s
    s.when_ first fun s =>
      ((oosAfterTrip 4 s).modTrip fun t => { t with btRecorded := true, btPassed := [false, false] }).wb Reg.TRIP_OOS_BT_PENDING true

/-- The window of a running brake test, at a sample instant (R275). -/
def brakeWindow (l : Nat) (s : State) : State :=
  let x := s.lane l
  if !bitAt x.req 5 then s
  else
    let m := mag (x.pos - x.btAnchor)
    let s := s.modLane l fun x => { x with btPeak := max x.btPeak m }
    if m ≤ s.par l Reg.SAF_BT_CFG_BT_WIN then s
    else [0, 1].foldl (fun s b => if s.heldBrake l b then brakeTestFail l b s else s) s

/-! ### Functions (R264, R267, R278 to R284) -/

/-- The request of an output with a function in its FUNC_MASK is present (R267). -/
def State.fnRequested (s : State) (l n : Nat) : Bool :=
  (List.range 10).any fun o => s.outEn l o && bitAt (s.outMask l o) n && s.outRequested l o

/-- A trip fault latches when a permission ceases because its conditions cease while a dependent request is present (R267). -/
def tripFault (l n bit : Nat) (holds : Bool) (e : Evt) (args : List Arg) (s : State) : State :=
  if bitAt (s.lane l).perm n && !holds && s.fnRequested l n && !s.faulted l bit then latchFault l bit e args s else s

/-- DZB is present in a lane: its conditions hold, DZB_TRIP is not latched and PERM_MISMATCH has not withdrawn it (R278,
Table 08-5). -/
def State.dzbPresent (s : State) (l : Nat) : Bool :=
  (s.dzbFail l).isNone && !s.faulted l FaultBit.dzb && !(s.faulted l FaultBit.perm && bitAt (s.lane l).permOff 2)

/-- The car is bridged: DZB present, every DZ_BRIDGE output energized, RELEVEL requested (R278). -/
def State.bridgedIn (s : State) (l : Nat) : Bool :=
  s.dzbPresent l && bitAt (s.lane l).req 4 && (s.outsOf l 4).all fun o => s.energized l o

/-- No bit of a range of FAULTS is latched in a lane. -/
def State.clearOf (s : State) (l : Nat) (bs : List Nat) : Bool := bs.all fun b => !s.faulted l b

/-- The permissions of Table 09-1 in a lane, those that PERM_MISMATCH withdraws taken away. -/
def State.permNow (s : State) (l : Nat) : Nat :=
  let x := s.lane l
  let v := mag x.speed
  let brk := s.clearOf l [32, 33, 34, 35]
  let drv := (s.outsOf l 1).all fun o => s.energized l o
  let p := ofBits [
    s.stopOn l && s.clearOf l [FaultBit.stop, FaultBit.fastCut],
    (s.doorsClosed l || x.bridged) && s.clearOf l [FaultBit.lockOpened, FaultBit.lockBridged],
    (s.dzbFail l).isNone && s.clearOf l [FaultBit.dzb],
    s.clearOf l [FaultBit.ucm],
    decide (v ≤ s.par l Reg.SAF_SPEED_LIMITS_OS_TRIP * 1000) && s.clearOf l [FaultBit.overspeed],
    s.eotHolds l && s.clearOf l [FaultBit.finalLimit, FaultBit.reduced],
    (!s.inspection l || decide (v ≤ s.par l Reg.SAF_SPEED_LIMITS_INSP_SPEED * 1000)) && s.clearOf l [FaultBit.insp],
    (s.sepFail l).isNone && s.clearOf l [FaultBit.sep],
    brk, brk && drv && !s.heldBrake l 0, brk && drv && !s.heldBrake l 1]
  if bitAt x.faults FaultBit.perm then Nat.land p (Nat.xor x.permOff 2047) else p

/-- The arguments of SEP_TRIP. -/
def sepArgs (s : State) : Option (Nat × Nat) → List Arg
  | some (reason, i) => [.code (s.nbrAddr i), .code reason]
  | none => [.code 0, .code 0]

/-- UCM is armed when the doors stop being closed, its anchor the own position then, and disarmed when they are closed again
(R279). -/
def Lane.armUcm (x : Lane) (was closed : Bool) : Lane :=
  if closed then { x with ucmArmed := false } else if was then { x with ucmArmed := true, ucmAnchor := x.pos } else x

/-- A lane judges its functions anew and opens the poles concerned (R264, R267, R268). -/
def laneFunctions (l : Nat) (s : State) : State :=
  let dz := s.dzbFail l
  let s := tripFault l 0 FaultBit.stop (s.stopOn l) Evt.STOP_OPENED [.code (s.firstOff l [0, 1])] s
  let s := tripFault l 2 FaultBit.dzb dz.isNone Evt.DZB_TRIP [.code (dz.getD 0)] s
  let br := s.bridgedIn l
  let s := tripFault l 1 FaultBit.lockOpened (s.doorsClosed l || br) Evt.LOCK_OPENED [.code (s.firstOff l [2, 3, 4, 5])] s
  let sf := s.sepFail l
  let s := tripFault l 7 FaultBit.sep sf.isNone Evt.SEP_TRIP (sepArgs s sf) s
  let closed := s.doorsClosed l
  let s := s.modLane l fun x => { x with bridged := br, closed := closed }.armUcm x.closed closed
  laneOpen l (s.modLane l fun x => { x with perm := s.permNow l })

/-- Unintended car movement at a sample instant (R279). -/
def ucmSample (l : Nat) (s : State) : State :=
  let x := s.lane l
  let closed := s.doorsClosed l
  let br := s.bridgedIn l
  if closed then s.modLane l fun y => y.armUcm x.closed closed
  else
    let s := s.modLane l fun y => y.armUcm x.closed closed
    let s := s.modLane l fun x => if br && x.ucmArmed then { x with ucmAnchor := x.pos } else x
    let x := s.lane l
    let d := mag (x.pos - x.ucmAnchor)
    let cause := if (br || x.bridged) && !s.inWindow l then some 1
      else if !br && decide (s.par l Reg.SAF_DZ_CFG_UCM_DIST * 1000 < d) then some 0
      else if !s.dzOn l then some 2
      else none
    match cause with
    | some c => if x.ucmArmed && !s.faulted l FaultBit.ucm then
        latchFault l FaultBit.ucm Evt.UCM [.code c, .qty (d / 1000)] s
      else s
    | none => s

/-- FINAL_LIMIT and REDUCED_STROKE at a sample instant (R281, R282). -/
def travelSample (l : Nat) (s : State) : State :=
  let x := s.lane l
  let p := x.pos
  let fail := if !s.roleOn l 8 then some (0, 0)
    else if s.parI l Reg.SAF_FINAL_UP < p then some (0, 1)
    else if !s.roleOn l 9 then some (1, 0)
    else if p < s.parI l Reg.SAF_FINAL_DN then some (1, 1)
    else none
  let s := match fail with
    | some (d, k) => if x.limitHeld then latchFault l FaultBit.finalLimit Evt.FINAL_LIMIT [.code d, .code k] s else s
    | none => s
  let s := s.modLane l fun x => { x with limitHeld := fail.isNone }
  match s.strokeExceeded l with
  | some d => latchFault l FaultBit.reduced Evt.REDUCED_STROKE [.code d, .qty (mag x.speed / 1000)] s
  | none => s

/-- OVERSPEED and INSP_OVERSPEED at a sample instant (R280, R283). -/
def speedSample (l : Nat) (s : State) : State :=
  let v := mag (s.lane l).speed
  let s := if s.par l Reg.SAF_SPEED_LIMITS_OS_TRIP * 1000 < v then
      latchFault l FaultBit.overspeed Evt.OVERSPEED [.code l, .qty (v / 1000)] s
    else s
  if s.inspection l && decide (s.par l Reg.SAF_SPEED_LIMITS_INSP_SPEED * 1000 < v) then
    latchFault l FaultBit.insp Evt.INSP_OVERSPEED [.qty (v / 1000)] s
  else s

/-- A deck's lock check: CDOOR has stayed OFF for LOCK_CHECK_MS at a car stop; a miss is raised once, by the lane that finds it first
(R277). -/
def lockCheck (l deck : Nat) (s : State) : State :=
  let x := nth (s.lane l).locks deck {}
  match x.openAt with
  | none => s
  | some t =>
    if x.judged || !s.inWindow l || decide (s.since t < s.par l Reg.SAF_LOCK_CHECK_LOCK_CHECK_MS * 1000) then s
    else
      let n := if x.seen then 0 else min 15 (x.misses + 1)
      let s := s.modLane l fun y => { y with locks := modAt y.locks deck (fun z => { z with judged := true, misses := n }) {} }
      if x.seen then s
      else
        let y := nth (s.lane (1 - l)).locks deck {}
        let known := y.openAt.isSome && y.judged && !y.seen
        let s := s.when_ (!known) fun s => (s.inc Reg.SAF_LOCK_CHECK_MISSES).raise Evt.LOCK_CHECK_MISS [.code deck, .qty n]
        if s.par l Reg.SAF_LOCK_CHECK_LOCK_CHECK_N ≤ n then latchFault l FaultBit.lockBridged Evt.LOCK_BRIDGED [.code deck] s
        else s

/-- A deck's lock check with CDOOR off or not and LCLOSED off or not at an instant. -/
def lockSeen (now : Time) (off lc : Bool) (z : LockCheck) : LockCheck :=
  if off then
    let z := if z.openAt.isNone then { z with openAt := some now, seen := false, judged := false } else z
    { z with seen := z.seen || lc }
  else { z with openAt := none }

/-- The lock check's observation at a sample instant: when CDOOR went OFF, and whether LCLOSED has read OFF since (R277). -/
def lockSample (l deck : Nat) (s : State) : State :=
  match s.role l (4 + deck), s.role l 3 with
  | some i, some j =>
    let off := !s.siState l i
    let lc := !s.siState l j
    let s := s.modLane l fun y => { y with locks := modAt y.locks deck (lockSeen s.optime off lc) {} }
    lockCheck l deck s
  | _, _ => s

/-- What a lane judges on position and speed at a sample instant, once it has a valid position (R237, R268). -/
def motionSample (l : Nat) (s : State) : State :=
  if !s.anyPos l then s
  else
    let s := travelSample l (speedSample l (ucmSample l s))
    let s := lockSample l 1 (lockSample l 0 s)
    brakeWindow l (sepStale l 1 (sepStale l 0 s))

/-! ### Port 9 and the quiet point (R270, R271, R273) -/

/-- What a lane reports to the fabric: permissions, held outputs, the grant and the brakes. -/
def State.laneReport (s : State) (l : Nat) : Nat :=
  let x := s.lane l
  x.perm + 2 ^ 11 * s.held l + 2 ^ 21 * b2n x.grant + 2 ^ 22 * s.brakeOf l 0 + 2 ^ 24 * s.brakeOf l 1

/-- A change of a lane's permission or cut is reported through port 9 (Table 03-4). -/
def portNine (s : State) : State :=
  [0, 1].foldl (fun s l =>
    let v := s.laneReport l
    if nth s.saf.reported l 0 = v then s
    else (s.modSaf fun x => { x with reported := setAt x.reported l v 0 }).post 9 l) s

/-- A door operator runs a profile. -/
def State.doorRuns (s : State) : Bool := [1, 2, 3, 4].any fun d => (s.chan d).moving

/-- The conditions of a quiet point hold at this moment. -/
def State.quietNow (s : State) : Bool :=
  (s.r Reg.TRIP_STATUS_STATE == 0 || s.r Reg.TRIP_STATUS_STATE == 3) && s.r Reg.TRIP_STATUS_CAR_STOP != 0 && s.brakes 0 &&
    !s.doorRuns && s.saf.bt.brake == 0 && decide (mag (s.lane 0).speed < 1000) && decide (mag (s.lane 1).speed < 1000)

/-- The conditions of a quiet point are followed. -/
def quietWatch (s : State) : State :=
  s.modSaf fun x => { x with quietAt := if s.quietNow then some (x.quietAt.getD s.optime) else none }

/-- A quiet point: its conditions have held continuously for 1 s. -/
def State.quiet (s : State) : Bool :=
  s.quietNow && (match s.saf.quietAt with
    | some t => decide (1000000 ≤ s.since t)
    | none => false)

end Sys2Proof.Machine
end

