-- ==== Sys2Proof/Machine/Saf.lean ====
section
/-! DEFINITION. The lane period, the exchange records over the prism, the comparison points, sample instants, requests,
overrides, seal switches and the safety reset (files 08 and 09: R229 to R263, R284 to R288). -/

namespace Sys2Proof.Machine

/-! ### Exchange records (R233, R454) -/

/-- Bytes 0 to 59 of an exchange record (Table 08-3). -/
def Rec.body (r : Rec) : List Byte :=
  leBytes 2 r.seq ++ leBytes 1 r.lane ++ leBytes 1 r.flags ++ ((List.range 5).flatMap fun j => leBytes 2 (nth r.samples j 0)) ++
    leBytes 2 r.fast ++ leBytes 4 r.perm ++ leBytes 1 r.req ++ leBytes 1 r.switch ++ leBytes 2 r.outCmd ++ leBytes 2 r.outRb ++
    leBytes 2 r.span ++ leBytes 4 (ofI 32 r.pos) ++ leBytes 4 (ofI 32 r.speed) ++ leBytes 8 r.faults ++ leBytes 4 r.digest ++
    leBytes 1 r.ovrIndex ++ leBytes 1 r.ovrState ++ leBytes 2 r.ovrApply ++ leBytes 4 r.ovrValue ++ leBytes 2 r.test ++ leBytes 2 0

/-- The 64 bytes of an exchange record. -/
def Rec.bytes (r : Rec) : List Byte := r.body ++ leBytes 4 (crc32c r.body)

/-- The CRC of 64 received bytes holds. -/
def recOk (b : List Byte) : Bool := b.length == 64 && crc32c (b.take 60) == leAt b 60 4

/-- The fields of 64 received bytes. -/
def parseRec (b : List Byte) : Rec :=
  { seq := leAt b 0 2, lane := leAt b 2 1, flags := leAt b 3 1, samples := (List.range 5).map fun j => leAt b (4 + 2 * j) 2,
    fast := leAt b 14 2, perm := leAt b 16 4, req := leAt b 20 1, switch := leAt b 21 1, outCmd := leAt b 22 2,
    outRb := leAt b 24 2, span := leAt b 26 2, pos := leAtI b 28 4, speed := leAtI b 32 4, faults := leAt b 36 8,
    digest := leAt b 44 4, ovrIndex := leAt b 48 1, ovrState := leAt b 49 1, ovrApply := leAt b 50 2, ovrValue := leAt b 52 4,
    test := leAt b 56 2 }

/-- LANE of a lane's records. -/
def laneCode (l : Nat) : Nat := if l = 0 then 0xA1 else 0xB2

/-- A lane's own position, speed and their validity (Table 08-1, R237, R268). -/
def State.ownMotion (s : State) (l : Nat) : Int × Int × Bool :=
  if l = 0 then (s.saf.feed.pos, s.saf.feed.speed, s.saf.feed.conf != 3)
  else
    let x := s.lane 1
    match x.ssi with
    | [] => (0, 0, false)
    | (p, _) :: _ => (p, ssiSpeed x.ssi, !x.ssiLost)

/-- A lane's code match (R256). -/
def State.sealMatch (s : State) : Bool :=
  s.r Reg.IMG_SEAL_IMAGE_SET_ID != 0 && s.r Reg.IMG_SEAL_SWITCH_CODE == s.r Reg.IMG_SEAL_IMAGE_SET_ID

def State.codeMatch (s : State) (l : Nat) : Bool := (s.lane l).code == s.r Reg.IMG_SEAL_IMAGE_SET_ID

/-- The present test slot: that of the running pulse, else the 1 ms slot of the running sequence; 0 without one (R249). -/
def State.testSlot (s : State) : Nat :=
  if s.saf.seq = 0 then 0
  else match s.saf.pulse with
    | some p => p.slot
    | none => min 31 (s.since s.saf.seqAt / 1000)

/-- A pulse of a lane's own is active: of a pole it holds, or of a TP it drives (Tables 08-3, 08-7). -/
def State.pulseActive (s : State) (l : Nat) : Bool :=
  match s.saf.pulse with
  | some p => (s.pulsed l).isSome ||
      (decide (20 ≤ p.slot) && (p.slot - 20) / 2 == l && decide (s.since p.at_ < s.par l Reg.SAF_TP_CFG_TP_PULSE_US))
  | none => false

/-- The record a lane sends at its period start (Table 08-3). -/
def State.laneRecord (s : State) (l : Nat) : Rec :=
  let x := s.lane l
  let m := s.ownMotion l
  let reset := decide (0 < x.resetLeft)
  { seq := x.period % 65536
    lane := laneCode l
    flags := ofBits [s.held l != 0, s.paired, x.sw1, s.codeMatch l, m.2.2]
    samples := x.prev
    fast := x.prevFast
    perm := x.perm
    req := x.reqSeen % 64 + 64 * b2n (reset && x.resetLocal) + 128 * b2n reset
    switch := x.code
    outCmd := x.cmd
    outRb := x.rb
    span := if l = 1 then x.span else 0
    pos := m.1
    speed := m.2.1
    faults := x.faults
    digest := s.digest l
    ovrIndex := x.ovrIndex
    ovrState := x.ovrState
    ovrApply := x.ovrApply
    ovrValue := x.ovrValue
    test := s.testSlot + 32 * b2n (s.pulseActive l) + 64 * b2n x.aborted }

/-! ### Overrides (R260, R261) -/

/-- The entry of an overridable parameter in a lane's table. -/
def State.overEntry (s : State) (l index : Nat) : Option OverEntry := (s.laneTable l).overs.find? fun o => o.index == index

/-- A value lies within MIN to MAX of an entry. -/
def OverEntry.fits (o : OverEntry) (v : Nat) : Bool := decide (o.min ≤ toI 32 v) && decide (toI 32 v ≤ o.max)

/-- An override is refused with a reason. -/
def refuseOverride (index reason : Nat) (s : State) : State :=
  ((s.w Reg.SAF_PARAM_INFO_OVR_STATE 3).w Reg.SAF_PARAM_INFO_REASON reason).raise Evt.SAF_OVERRIDE_REFUSED [.code index, .code reason]

/-- An override in progress ends. -/
def endOverride (s : State) : State :=
  (s.modSaf fun x => { x with overriding := none }).modLane 0 fun x => { x with ovrState := 0 }

/-- The confirmation write, accepted under the seal: lane A checks and offers the override (R260). -/
def startOverride (confirm : Nat) (s : State) : State :=
  let index := s.r Reg.SAF_PARAM_SEL
  let v := s.r Reg.SAF_PARAM_VALUE
  match s.overEntry 0 index with
  | none => refuseOverride index 1 s
  | some o =>
    if !o.fits v then refuseOverride index 2 s
    else if confirm % 2 ^ 32 + v ≠ 2 ^ 32 - 1 then refuseOverride index 3 s
    else if s.saf.overriding.isSome then refuseOverride index 5 s
    else
      let s := (s.modSaf fun x => { x with overriding := some (index, v) }).w Reg.SAF_PARAM_INFO_OVR_STATE 1
      s.modLane 0 fun x => { x with
        ovrIndex := index, ovrState := 1, ovrApply := (x.period + 4) % 65536, ovrValue := v }

/-- What a lane makes of the override fields of the other lane's record: lane B answers an offer, lane A takes the answer. -/
def overrideExchange (l : Nat) (r : Rec) (s : State) : State :=
  if l = 1 then
    if r.ovrState = 1 then
      let ok := match s.overEntry 1 r.ovrIndex with
        | some o => o.fits r.ovrValue
        | none => false
      s.modLane 1 fun x => { x with
        ovrIndex := r.ovrIndex, ovrState := if ok then 2 else 3, ovrApply := r.ovrApply, ovrValue := r.ovrValue }
    else if r.ovrState = 0 ∧ (s.lane 1).ovrState = 3 then s.modLane 1 fun x => { x with ovrState := 0 }
    else s
  else
    match s.saf.overriding with
    | none => s
    | some (index, _) =>
      if (s.lane 0).ovrState = 1 ∧ r.ovrIndex = index then
        if r.ovrState = 2 then (s.modLane 0 fun x => { x with ovrState := 2 }).w Reg.SAF_PARAM_INFO_OVR_STATE 2
        else if r.ovrState = 3 then refuseOverride index 4 (endOverride s)
        else s
      else s

/-- An accepted override applies in a lane at the start of period OVR_APPLY; one not accepted by both lanes by then changes
nothing in lane A (R260). The override mark takes the number of overrides in force; a removal raises no event (R415). -/
def overrideApply (l : Nat) (s : State) : State :=
  let x := s.lane l
  if x.ovrState = 0 ∨ !x.started ∨ x.period % 65536 ≠ x.ovrApply then s
  else if x.ovrState = 2 then
    let img := match s.overEntry l x.ovrIndex with
      | some o => ofI 32 o.image
      | none => 0
    let s := s.modLane l fun x => { x with
      overrides := if x.ovrValue = img then SMap.erase x.overrides x.ovrIndex else SMap.insert x.overrides x.ovrIndex x.ovrValue
      ovrState := 0 }
    if l = 0 then
      let s := { s with pwr := { s.pwr with ovrMark := (s.lane 0).overrides.length } }
      (s.modSaf fun y => { y with overriding := none }).when_ (x.ovrValue != img) fun s => s.raise Evt.SAF_OVERRIDE [.code x.ovrIndex]
    else s
  else if l = 0 ∧ x.ovrState = 1 then refuseOverride x.ovrIndex 4 (endOverride s)
  else s

/-! ### Period starts (R232) -/

/-- A test or recheck sequence ends 32 ms after it began (R249, R255). -/
def sequenceEnd (s : State) : State :=
  if s.saf.seq = 0 ∨ s.since s.saf.seqAt < 32000 then s
  else
    let s := if s.saf.seq = 1 then
        let s := [0, 1].foldl (fun s l => s.modLane l fun x => { x with tpOk := Nat.xor (Nat.land x.tpDiffer 3) 3 }) s
        (s.incWrap Reg.SAF_TEST_STATUS_SEQUENCES).modSaf fun x => { x with seqEnd := some s.optime, seqEnds := x.seqEnds + 1 }
      else s.modSaf fun x => { x with
        recheck := Nat.land x.recheck (Nat.xor x.recheckSet 1023), recheckDue := Nat.land x.recheckDue (Nat.xor x.recheckSet 1023) }
    (s.wb Reg.SAF_TEST_STATUS_RUNNING false).modSaf fun x => { x with seq := 0, recheckSet := 0, slotAt := none }

/-- A PARTNER output of a released module, whose OUT_STUCK and OUT_CROSS are not judged and whose pulses are skipped (R365). -/
def State.releasedOut (s : State) (l o : Nat) : Bool :=
  s.rb Reg.MIR_STATUS_RELEASED && s.parB l (Reg.SAF_OUT_CFG_PARTNER o)

/-- A pole's pulse is skipped: the output is not energized, not marked TEST_EN, held by a fault, or a PARTNER output of a released
module (R250, R365). -/
def State.pulseSkipped (s : State) (l o : Nat) : Bool :=
  !s.energized l o || !s.parB l (Reg.SAF_OUT_CFG_TEST_EN o) || bitAt (s.faultHold l) o || s.releasedOut l o

/-- The lane whose slot a slot is (Table 08-7); the last eight hold no pulse. -/
def slotLane (slot : Nat) : Nat := if (10 ≤ slot ∧ slot < 20) ∨ slot = 22 ∨ slot = 23 then 1 else 0

/-- A slot of the running sequence begins with a period of a lane whose index is a multiple of 4; whether its pole's pulse is
skipped is judged now, by the lane whose slot it is (R249, R250). -/
def slotBegin (l : Nat) (s : State) : State :=
  let k := s.since s.saf.seqAt / 1000
  if s.saf.seq = 0 ∨ (s.lane l).period % 4 ≠ 0 ∨ 32 ≤ k then s
  else
    let s := if l = 0 then s.w Reg.SAF_TEST_STATUS_SLOT k else s
    if slotLane k = l then
      s.modSaf fun x => { x with slotAt := some k, slotSkip := decide (k < 20) && s.pulseSkipped l (k % 10) }
    else s

/-- A lane begins its period at an instant and sends its record (R232); k is the index of its first period. -/
def laneBegin (l k : Nat) (at_ : Time) (volts : List Nat) (s : State) : State :=
  let s := s.modLane l fun x => { x with
    started := true
    period := if x.started then (x.period + 1) % 2 ^ 32 else k
    firstAt := if x.started then x.firstAt else at_
    startAt := at_
    prev := (List.range 5).map fun j => nth x.samples j 0
    samples := []
    prevFast := x.fast
    fast := 0
    rb := s.readPoles l volts
    sentCur := x.brakes.map LaneBrake.current
    compared := false }
  let s := slotBegin l (overrideApply l (if l = 0 then sequenceEnd s else s))
  let r := s.laneRecord l
  s.modLane l fun x => { x with sent := r, resetLeft := x.resetLeft - 1, aborted := false }

/-- Lane A's period k begins at lane A cycle 50,000 × k from its first, 250 µs after period k − 1; the first is the first exchange
of step 4 (R232). -/
def laneAStart (volts : List Nat) (s : State) : State :=
  let x := s.lane 0
  if x.started then
    if 250 ≤ s.since x.startAt then laneBegin 0 0 (x.startAt + 250) volts s else s
  else if s.img.loaded then laneBegin 0 0 s.optime volts s
  else s

/-- Lane B's period begins on the arrival of lane A's record, held within 24,750 to 25,250 bc of its previous start; its first
begins on the first record of lane A that reaches it, whose index it takes (R232). bc is what its clock has counted since its
previous start. -/
def laneBStart (bc : Nat) (volts : List Nat) (s : State) : State :=
  let x := s.lane 1
  match x.started, x.inbox with
  | false, some r => if r.lane = laneCode 0 then laneBegin 1 r.seq s.optime volts s else s
  | false, none => s
  | true, r =>
    let arrived := match r with
      | some r => r.seq == (x.period + 1) % 65536
      | none => false
    if arrived && decide (24750 ≤ bc) then laneBegin 1 0 s.optime volts s
    else if 25250 ≤ bc then (laneBegin 1 0 s.optime volts s).modLane 1 fun x => { x with noRecord := true }
    else s

/-- An exchange record arrives over the prism; lane B counts the bc between arrivals (R233, R234). -/
def prismRecord (l span : Nat) (bytes : List Byte) (s : State) : State :=
  s.modLane l fun x => { x with
    inbox := if recOk bytes then some (parseRec bytes) else x.inbox
    span := if l = 1 then min span 65535 else x.span }

/-! ### Comparison points (R234 to R237, R243, R258, R263) -/

/-- The record of the present period is valid in a lane (R234). -/
def State.recValid (s : State) (l : Nat) : Option Rec :=
  let x := s.lane l
  match x.inbox with
  | some r => if !x.noRecord && r.lane == laneCode (1 - l) && r.seq == x.period % 65536 then some r else none
  | none => none

/-- A missing record: the last valid content stays; the first raises PRISM_LATE, a second consecutive one latches PRISM_LINK
(R234). -/
def recMissing (l : Nat) (s : State) : State :=
  let s := s.modLane l fun x => { x with
    miss := x.miss + 1, missed := satN 16 (x.missed + 1), validRun := 0, fresh := false }
  if 2 ≤ (s.lane l).miss then latchFault l FaultBit.prismLink Evt.PRISM_LINK [.code l] s
  else s.raise Evt.PRISM_LATE [.code l, .qty ((s.lane l).period % 65536)]

/-- A valid record is taken, and every fault in it is adopted (R235). DESIGN CHOICE (log 115): with it the lane learns the coil
currents that the other lane had when it sent the record. -/
def recTake (l : Nat) (r : Rec) (s : State) : State :=
  s.modLane l fun x => { x with
    otherCur := (s.lane (1 - l)).sentCur
    other := r, heard := true, fresh := true, miss := 0, validRun := x.validRun + 1
    faults := Nat.lor x.faults r.faults
    fastCut := if bitAt r.faults FaultBit.fastCut then Nat.lor x.fastCut r.fast else x.fastCut }

/-- A period with an item unequal (SAF_PRISM, SAF_PRISM_COUNT). -/
def itemBad (l code : Nat) (s : State) : State := s.modLane l fun x => { x with lastItem := code }

/-- A run counted up while an item is unequal, and down to 0 when it is equal: the bad run and the good run. -/
def runs (bad : Bool) (b g : Nat) : Nat × Nat := if bad then (b + 1, 0) else (0, g + 1)

/-- Item 2: SPAN within its band; 3 consecutive periods outside are tolerated. -/
def itemClock (l : Nat) (r : Rec) (s : State) : State :=
  let span := if l = 0 then r.span else (s.lane l).sent.span
  let bad := decide (span < 24750) || decide (25250 < span)
  let s := s.modLane l fun x => let y := runs bad x.spanBad x.spanGood; { x with spanBad := y.1, spanGood := y.2 }
  let s := s.when_ bad (itemBad l 2)
  if 3 < (s.lane l).spanBad then latchFault l FaultBit.laneClock Evt.LANE_CLOCK [.qty span] s else s

/-- Item 3: DIGEST equal. -/
def itemDigest (l : Nat) (r : Rec) (s : State) : State :=
  let bad := (s.lane l).sent.digest != r.digest
  let s := s.modLane l fun x => let y := runs bad x.digestBad x.digestGood; { x with digestBad := y.1, digestGood := y.2 }
  let s := s.when_ bad (itemBad l 3)
  if 1 < (s.lane l).digestBad then latchFault l FaultBit.param Evt.PARAM_MISMATCH [.code 0] s else s

/-- The codes of the two lanes, lane A's first, as a lane has them. -/
def switchArgs (l : Nat) (r : Rec) (s : State) : List Arg :=
  if l = 0 then [.code (s.lane l).code, .code r.switch] else [.code r.switch, .code (s.lane l).code]

/-- Item 4: SWITCH and SW1 equal; 160 periods of difference are tolerated. -/
def itemSwitch (l : Nat) (r : Rec) (s : State) : State :=
  let x := s.lane l
  let bad := r.switch != x.sent.switch || bitAt r.flags 2 != bitAt x.sent.flags 2
  let s := s.modLane l fun x => { x with switchBad := if bad then x.switchBad + 1 else 0 }
  let s := s.when_ bad (itemBad l 4)
  let now := decide (160 < (s.lane l).switchBad)
  let s := s.modLane l fun x => { x with switchOff := now }
  s.when_ (now && !x.switchOff && !(s.lane (1 - l)).switchOff) fun s => s.raise Evt.SWITCH_DISAGREE (switchArgs l r s)

/-- Item 5: REQ [5:0] equal; differing requests are absent until it has been equal for 4 periods (R263). -/
def itemRequest (l : Nat) (r : Rec) (s : State) : State :=
  let diff := Nat.xor ((s.lane l).sent.req % 64) (r.req % 64)
  let bad := diff != 0
  let s := s.when_ (l == 0 && bad && (s.lane l).reqBad == 0) fun s => s.raise Evt.REQ_MISMATCH [.code diff]
  let s := s.modLane l fun x =>
    let y := runs bad x.reqBad x.reqGood
    let absent := if bad && decide (1 < y.1) then Nat.lor x.reqAbsent diff else if 4 ≤ y.2 then 0 else x.reqAbsent
    { x with reqBad := y.1, reqGood := y.2, reqAbsent := absent, req := Nat.land x.reqSeen (Nat.xor absent 63) }
  s.when_ bad (itemBad l 5)

/-- The lowest bit of a mask below n. -/
def lowest (n m : Nat) : Nat := ((bitNums n m).head?).getD 0

/-- Item 6: PERM equal; the functions that differ once the fault is latched, in this lane or the other, are withdrawn. -/
def itemPerm (l : Nat) (r : Rec) (s : State) : State :=
  let diff := Nat.xor (s.lane l).sent.perm r.perm
  let bad := diff != 0
  let s := s.modLane l fun x =>
    let y := runs bad x.permBad x.permGood
    let latched := decide (1 < y.1) || bitAt x.faults FaultBit.perm
    { x with permBad := y.1, permGood := y.2, permOff := if bad && latched then Nat.lor x.permOff diff else x.permOff }
  let s := s.when_ bad (itemBad l 6)
  if 1 < (s.lane l).permBad then latchFault l FaultBit.perm Evt.PERM_MISMATCH [.code (lowest 32 diff)] s else s

/-- The output whose pole a record shows in a test pulse, as a mask. -/
def Rec.pulseMask (r : Rec) : Nat :=
  let slot := r.test % 32
  if bitAt r.test 5 && decide (slot < 20) then 2 ^ (slot % 10) else 0

/-- Item 7: OUT_CMD equal but for a pole in a test pulse; the outputs that differ once the fault is latched, in this lane or the
other, are held. -/
def itemCmd (l : Nat) (r : Rec) (s : State) : State :=
  let own := (s.lane l).sent
  let diff := Nat.land (Nat.xor own.outCmd r.outCmd) (Nat.xor (Nat.lor own.pulseMask r.pulseMask) 1023)
  let bad := diff != 0
  let s := s.modLane l fun x =>
    let y := runs bad x.cmdBad x.cmdGood
    let latched := decide (1 < y.1) || bitAt x.faults FaultBit.outCmd
    { x with cmdBad := y.1, cmdGood := y.2, cmdHeld := if bad && latched then Nat.lor x.cmdHeld diff else x.cmdHeld }
  let s := s.when_ bad (itemBad l 7)
  if 1 < (s.lane l).cmdBad then latchFault l FaultBit.outCmd Evt.OUT_CMD_MISMATCH [.code (lowest 10 diff)] s else s

/-- Lane A's value less lane B's, in thousandths of its unit, as SAF_POS_DIFF shows it and the events carry it (R237, R376). -/
def laneDiff (l : Nat) (own other : Int) : Int := (if l = 0 then own - other else other - own).tdiv 1000

/-- Item 8: position and speed (R237). -/
def itemPosition (l : Nat) (r : Rec) (s : State) : State :=
  let own := (s.lane l).sent
  let a := bitAt own.flags 4
  let b := bitAt r.flags 4
  if a && b then
    let dp := mag (own.pos - r.pos)
    let dv := mag (own.speed - r.speed)
    let vlim := s.par l Reg.SAF_SPEED_CFG * 1000
    let warn := decide (s.par l Reg.SAF_POS_CFG_POS_WARN * 1000 < dp)
    let far := decide (s.par l Reg.SAF_POS_CFG_POS_LIMIT * 1000 < dp)
    let bad := far || decide (vlim < dv)
    let s := s.when_ (warn && !(s.lane l).posWarn && l == 0) fun s => s.raise Evt.LANE_POS_WARN [.signed (laneDiff l own.pos r.pos)]
    let s := s.modLane l fun x => { x with
      single := false, posWarn := warn, posBad := if bad then x.posBad + 1 else 0
      posGood := if !warn && decide (dv ≤ vlim) then x.posGood + 1 else 0 }
    let s := s.when_ bad (itemBad l 8)
    if bad && decide (s.par l Reg.SAF_POS_CFG_POS_N ≤ (s.lane l).posBad) then
      latchFault l FaultBit.posDiff Evt.LANE_POS_DIFF (if far then [.code 0, .signed (laneDiff l own.pos r.pos)] else [.code 1, .signed (laneDiff l own.speed r.speed)]) s
    else s
  else
    let one := a || b
    let was := (s.lane l).single
    let s := s.modLane l fun x => { x with single := one, posBad := 0, posGood := 0 }
    s.when_ (one && !was) fun s => s.raise Evt.POS_SINGLE [.code (if a then l else 1 - l)]

/-- An input fault shown in SAF_SI_FAULT_LAST. -/
def showInputFault (i kind channel tp : Nat) (s : State) : State :=
  (((s.w Reg.SAF_SI_FAULT_LAST_INPUT i).w Reg.SAF_SI_FAULT_LAST_KIND kind).w Reg.SAF_SI_FAULT_LAST_CHANNEL channel).w
    Reg.SAF_SI_FAULT_LAST_TP tp

/-- The discrepancy rule on one sample pair of input i (R243, R244): the run, whether it latches, both OFF, agreement. -/
def discSample (s : State) (l i : Nat) (a b : Bool) (x : Lane) : Lane × Bool :=
  let run := if a == b then 0 else nth x.discRun i 0 + 1
  let latch := decide (s.par l (Reg.SAF_SI_CFG_DISC_MS i) * 20 < run - 1) && !bitAt x.disc i
  let off := bitAt x.disc i && !a && !b
  ({ x with
    discRun := setAt x.discRun i run 0
    disc := if latch then setBit x.disc i true else x.disc
    faults := if latch then setBit x.faults i true else x.faults
    discOff := if latch then setBit x.discOff i false else if off then setBit x.discOff i true else x.discOff
    agree := if a == b then x.agree else setBit x.agree i false }, latch)

/-- Item 9 for input i: the five sample pairs of the previous period, in order (R243). -/
def itemInput (l : Nat) (r : Rec) (i : Nat) (s : State) : State :=
  if !s.siEn l i then s
  else
    let own := (s.lane l).sent.samples
    let x0 := { s.lane l with agree := setBit (s.lane l).agree i true }
    let y := (List.range 5).foldl (fun (y : Lane × Bool) j =>
      let z := discSample s l i (bitAt (nth own j 0) i) (bitAt (nth r.samples j 0) i) y.1
      (z.1, y.2 || z.2)) (x0, false)
    let known := bitAt (s.lane (1 - l)).disc i
    let s := s.modLane l fun _ => y.1
    let s := s.when_ (!bitAt y.1.agree i) (itemBad l 9)
    s.when_ (y.2 && !known) fun s => (showInputFault i 0 0 0 s).raise Evt.INPUT_DISC [.code (i + 1)]

/-- The items of Table 08-5 judged on a valid record. -/
def judgeItems (l : Nat) (r : Rec) (s : State) : State :=
  let last := (s.lane l).lastItem
  let s := s.modLane l fun x => { x with lastItem := 0 }
  let s := itemCmd l r (itemPerm l r (itemRequest l r (itemSwitch l r (itemDigest l r (itemClock l r s)))))
  let s := (List.range 16).foldl (fun s i => itemInput l r i s) (itemPosition l r s)
  if (s.lane l).lastItem = 0 then s.modLane l fun x => { x with lastItem := last }
  else s.modLane l fun x => { x with unequal := satN 16 (x.unequal + 1) }

/-- The code match has ended or SWITCH_DISAGREE is in effect, as a lane sees it (R258). -/
def State.switchWrong (s : State) (l : Nat) : Bool :=
  let x := s.lane l
  !s.codeMatch l || (x.heard && !bitAt x.other.flags 3) || x.switchOff

/-- SWITCH_CHANGED is set in a lane: no open pole closes (R258). -/
def switchChanged (l : Nat) (args : List Arg) (s : State) : State :=
  if (s.lane l).noClose then s
  else
    (s.modLane l fun x => { x with noClose := true }).when_ (!(s.lane (1 - l)).noClose) fun s => s.raise Evt.SWITCH_CHANGED args

/-- SAFETY_SET_MISMATCH latches in a lane (R59, R258). -/
def setMismatch (l : Nat) (s : State) : State :=
  latchFault l FaultBit.setMismatch Evt.SAFETY_SET_MISMATCH [.code (s.lane l).code, .code (s.r Reg.IMG_SEAL_IMAGE_SET_ID)] s

/-- The seal switches at a comparison point (R258). -/
def switchPoint (l : Nat) (s : State) : State :=
  let x := s.lane l
  let wrong := s.switchWrong l
  let s := if wrong then
      if (x.matched && s.controlReady) || x.switchOff then switchChanged l (switchArgs l x.other s) s else s
    else s.modLane l fun x => { x with noClose := false }
  let s := s.modLane l fun x => { x with matched := !wrong }
  if (s.lane l).noClose && (List.range 10).all (fun o => !s.energized l o) then setMismatch l s else s

/-- Each brake at a comparison point: 16 periods reported applied count for a reset, 4 with the currents apart are a fault.
DESIGN CHOICE (log 115): the lane compares the currents it had at its own record with those that came with the other lane's latest
valid record. -/
def brakePoint (l b : Nat) (s : State) : State :=
  let lim := s.brakeLim l b
  let i := nth (s.lane l).sentCur b 0
  let j := nth (s.lane l).otherCur b 0
  let s := brakeObserve l b s
  let s := s.modBrake l b fun x => { x with
    appliedRun := if x.state = 0 then x.appliedRun + 1 else 0
    apartRun := if (s.lane l).heard && decide (lim.2.2.2.1 < (max i j - min i j) * 10) then x.apartRun + 1 else 0 }
  if 4 ≤ (s.laneBrake l b).apartRun then brakeFault l b 6 s else s

/-! ### The safety reset (R286 to R288) -/

/-- Detail of an input's faults meets its clearing condition in lane m (R244, R246). -/
def State.inputClear (s : State) (i m : Nat) : Bool :=
  let x := s.lane m
  (!bitAt x.disc i || (bitAt x.discOff i && bitAt x.agree i)) && (!bitAt x.wiring i || bitAt x.wiringOk i)

/-- Both poles have read open while commanded open for 16 consecutive periods, and so has every output that the lane has found wired
to it (R255). -/
def State.outputClear (s : State) (l o : Nat) : Bool :=
  (o :: bitNums 10 (nth (s.lane l).wired o 0)).all fun p => decide (16 ≤ nth (s.lane l).openRun p 0)

/-- |speed| is below 1 mm/s in both lanes. -/
def State.stopped (s : State) (l : Nat) : Bool :=
  decide (mag (s.lane l).speed < 1000) && decide (mag (s.lane l).other.speed < 1000)

/-- A latched fault meets its clearing condition in a lane (Tables 08-9 and 09-4), judged on what the lane itself reads and on the
other's record (R15): an input's own channel and samples, a TP it drives itself. What only the other lane can judge keeps its fault
there, from where it is adopted again (R288). -/
def State.faultClear (s : State) (l bit : Nat) : Bool :=
  let x := s.lane l
  if bit < 16 then s.inputClear bit l
  else if bit < 26 then s.outputClear l (bit - 16)
  else if bit = 26 then decide (16 ≤ x.validRun)
  else if bit = 27 then decide (4000 ≤ x.spanGood)
  else if bit = 28 then decide (16 ≤ x.digestGood)
  else if bit = 29 then decide (16 ≤ x.posGood)
  else if bit = 31 then s.codeMatch l && bitAt x.other.flags 3
  else if bit < 36 then decide (16 ≤ (s.laneBrake l (bit % 2)).appliedRun)
  else if bit = 36 then (s.outsOf l 4).all fun o => !s.energized l o
  else if bit = 37 then s.stopped l && s.doorsClosed l
  else if bit < 42 then s.stopped l
  else if bit < 44 then s.doorsClosed l
  else if bit = 44 then decide (16 ≤ x.sepRun)
  else if bit = 45 then s.stopOn l
  else if bit = 46 then (bitNums 16 x.fastCut).all fun i => s.siState l i
  else if bit = 48 then decide (16 ≤ x.permGood)
  else if bit = 49 then decide (16 ≤ x.cmdGood)
  else
    let t := bit - 50
    l != t / 2 || bitAt x.tpOk (t % 2)

/-- The reset source of a fault is SRST (Table 09-4). -/
def srstOnly (bit : Nat) : Bool := [34, 35, 37, 38, 39, 40, 43].elem bit

/-- Faults latched in a lane that a reset can clear, in the order of FAULTS; SAFETY_SET_LOAD takes no part (R288). -/
def State.resetFaults (s : State) (l : Nat) : List Nat := (bitNums 54 (s.lane l).faults).filter fun b => b != 30 && b != 47

/-- Why a reset is refused, with the first blocking fault: 1 CAUSE, 2 LOCAL (R288). -/
def State.resetBlock (s : State) (l : Nat) (localBoth : Bool) : Option (Nat × Nat) :=
  ((s.resetFaults l).filterMap fun b =>
    if !s.faultClear l b then some (1, b) else if srstOnly b && !localBoth then some (2, b) else none).head?

/-- An accepted reset clears a lane's faults and the cuts they caused (R288). -/
def clearFaults (l : Nat) (s : State) : State :=
  let x := s.lane l
  let outs := bits x.faults 25 16
  let s := (bitNums 10 outs).foldl (fun s o =>
    ((s.w (Reg.SAF_OUT_INFO_KIND o) 0).w (Reg.SAF_OUT_INFO_POLE o) 0).w (Reg.SAF_OUT_INFO_PARTNER o) 15) s
  let s := s.modSaf fun y => { y with recheck := Nat.lor y.recheck outs }
  s.modLane l fun x => { x with
    faults := if bitAt x.faults FaultBit.setLoad then 2 ^ FaultBit.setLoad else 0
    disc := 0, wiring := 0, fastCut := 0, stuck := 0, cross := 0, opened := 0, wired := List.replicate 10 0, permOff := 0, cmdHeld := 0,
    limitHeld := x.limitHeld && !bitAt x.faults FaultBit.finalLimit }

/-- A lane has judged the reset of a period with a result: true accepted. -/
def State.judgedAs (s : State) (l k : Nat) (ok : Bool) : Bool := (s.lane l).resetJudged == some (k % 65536, ok)

/-- A lane's judgement of a reset is kept, and the event of it is raised once for both lanes (R288). -/
def raiseJudged (l : Nat) (ok : Bool) (e : Evt) (args : List Arg) (s : State) : State :=
  let k := (s.lane l).period
  (s.modLane l fun x => { x with resetJudged := some (k % 65536, ok) }).when_ (!s.judgedAs (1 - l) k ok) fun s => s.raise e args

/-- A refused reset is shown in lane A's view and raised: with CAUSE or LOCAL once for both lanes, with DISAGREE by each (R287,
R288). -/
def resetRefused (l reason bit : Nat) (s : State) : State :=
  let s := if reason = 3 then s.raise Evt.RESET_REFUSED [.code reason, .code bit]
    else raiseJudged l false Evt.RESET_REFUSED [.code reason, .code bit] s
  if l = 0 then
    (((s.w Reg.SAF_RESET_STATUS_LAST_RESULT 2).w Reg.SAF_RESET_STATUS_REASON reason).w Reg.SAF_RESET_STATUS_BLOCKING bit).inc
      Reg.SAF_RESET_COUNT_REFUSED
  else s

/-- An accepted reset is shown in lane A's view and raised once for both lanes. -/
def resetAccepted (l : Nat) (srst : Bool) (n : Nat) (s : State) : State :=
  let s := raiseJudged l true Evt.RESET_ACCEPTED [.code (b2n srst), .qty n] s
  if l = 0 then
    let s := ((s.w Reg.SAF_RESET_STATUS_LAST_RESULT 1).w Reg.SAF_RESET_STATUS_REASON 0).w Reg.SAF_RESET_STATUS_BLOCKING 0
    s.inc Reg.SAF_RESET_COUNT_ACCEPTED
  else s

/-- A reset is judged where both records of the period carry RESET; a lane whose 8 records have passed alone gives DISAGREE
(R287, R288). -/
def resetPoint (l : Nat) (s : State) : State :=
  let x := s.lane l
  if !bitAt x.sent.req 7 then s
  else if x.fresh && bitAt x.other.req 7 then
    let s := s.modLane l fun y => { y with resetLeft := 0 }
    let loc := bitAt x.sent.req 6 && bitAt x.other.req 6
    match s.resetBlock l loc with
    | some (reason, b) => resetRefused l reason b s
    | none => resetAccepted l (bitAt x.sent.req 6) (s.resetFaults l).length (clearFaults l s)
  else if x.resetLeft = 0 then resetRefused l 3 0 s
  else s

/-- A reset source whose level has fallen; a pulse that does not count starts the 1 s low again. -/
def resetFallen (now : Time) (block : Bool) (z : ResetSource) : ResetSource :=
  { z with level := false, riseAt := none, stuck := false, blocked := block, lowAt := if block then some now else none }

/-- The reset pulse of a source ends in a lane after a time at high level (R286, R287). -/
def resetPulse (l src width : Nat) (s : State) : State :=
  let x := nth (s.lane l).srcs src {}
  let lost := decide (src = 1) && s.senseLost l 6
  let early := (s.lane l).started && decide (s.since (s.lane l).firstAt < width)
  let lowLong := match x.lowAt with
    | some t => decide (1000000 + width ≤ s.since t)
    | none => !x.blocked
  let counts := (s.lane l).started && !lost && !x.stuck && !early && lowLong && decide (width < 5000000)
  let block := x.stuck || early || !lowLong || decide (5000000 ≤ width)
  let s := s.modLane l fun y => { y with srcs := modAt y.srcs src (resetFallen s.optime block) {} }
  if counts && decide (100000 ≤ width) then
    s.modLane l fun y => { y with resetLeft := 8, resetLocal := decide (src = 1) }
  else s

/-- A source whose level a lane has read high for 5 s raises STUCK_RESET and resets nothing (R286). -/
def stuckReset (l src : Nat) (s : State) : State :=
  let x := nth (s.lane l).srcs src {}
  let long := match x.riseAt with
    | some t => decide (5000000 ≤ s.since t)
    | none => false
  if x.stuck ∨ !(s.lane l).started ∨ !x.level ∨ !long ∨ (src = 1 ∧ s.senseLost l 6) then s
  else
    let known := (nth (s.lane (1 - l)).srcs src {}).stuck
    let s := s.modLane l fun y => { y with srcs := modAt y.srcs src (fun z => { z with stuck := true, blocked := true }) {} }
    s.when_ (!known) fun s => s.raise Evt.STUCK_RESET [.code src]

/-! ### The comparison point as a whole -/

/-- Poles at a comparison point: every pole R229 allows closes, but for a pulsed one and, with SWITCH_CHANGED set, an open one
(R229, R252, R258). -/
def closePoles (l : Nat) (s : State) : State :=
  let c := s.closable l
  let s := match s.pulsed l with
    | some o => if bitAt c o then s else abortPulse l o s
    | none => s
  let cmd := (s.lane l).cmd
  let new := if (s.lane l).noClose then Nat.land c cmd else c
  setCmd l (match s.pulsed l with
    | some o => setBit new o false
    | none => new) s

/-- What a comparison point counts for later resets (R255, Table 09-4) and for rechecks (R255). -/
def pointCounts (l : Nat) (s : State) : State :=
  let x := s.lane l
  let s := s.modLane l fun x => { x with
    openRun := (List.range 10).map fun o =>
      if bitAt (Nat.lor (Nat.lor x.sent.outCmd x.rb) (Nat.lor x.other.outCmd x.other.outRb)) o then 0 else nth x.openRun o 0 + 1
    sepRun := if (s.sepFail l).isNone then x.sepRun + 1 else 0 }
  let due := maskOf 10 fun o => bitAt s.saf.recheck o && bitAt x.rb o && bitAt x.other.outRb o
  s.modSaf fun y => { y with recheckDue := Nat.lor y.recheckDue due }

/-- The grant of DRIVE_EN at a comparison point (R270). -/
def grantPoint (l : Nat) (s : State) : State :=
  let os := s.outsOf l 1
  s.modLane l fun x => { x with grant := !os.isEmpty && os.all fun o => s.energized l o }

end Sys2Proof.Machine
end

