-- ==== Sys2Proof/Machine/Brake.lean ====
section
/-! DEFINITION. The static brake test (file 09, R273 to R276). -/

namespace Sys2Proof.Machine

/-- The brake test changed. -/
def State.modBt (s : State) (f : BrakeTest → BrakeTest) : State := s.modSaf fun x => { x with bt := f x.bt }

/-- Hours of operating time since the last brake test that passed, saturating at 65,535. -/
def State.btHours (s : State) : Nat := satN 16 ((s.r Reg.PWR_OP_SECONDS - s.saf.bt.lastPass) / 3600)

/-- The other brake, 1 or 2. -/
def otherBrake (b : Nat) : Nat := 3 - b

/-- The request that lifts brake 1 or 2. -/
def liftRequest (b : Nat) : Nat := 1 + b

/-- The largest movement that the lanes have seen in the running test, µm. -/
def State.btMovement (s : State) : Nat := max (s.lane 0).btPeak (s.lane 1).btPeak

/-- A brake test falls due BT_INTERVAL_H after the last pass (R273). -/
def brakeTestDue (s : State) : State :=
  let h := s.par 0 Reg.SAF_BT_CFG_BT_INTERVAL_H
  if !s.controlReady ∨ s.saf.bt.due ∨ s.saf.bt.brake ≠ 0 ∨ h = 0 ∨ s.btHours < h then s
  else (s.modBt fun x => { x with due := true }).w Reg.SAF_BT_STATUS_STATE 1

/-- The grace has passed too (R273). -/
def brakeTestOverdue (s : State) : State :=
  let h := s.par 0 Reg.SAF_BT_CFG_BT_INTERVAL_H
  if !s.controlReady ∨ s.rb Reg.SAF_BT_STATUS_OVERDUE ∨ !s.saf.bt.due ∨ h = 0 ∨ s.btHours < h + s.par 0 Reg.SAF_BT_CFG_BT_GRACE_H then s
  else (s.wb Reg.SAF_BT_STATUS_OVERDUE true).raise Evt.BRAKE_TEST_OVERDUE [.qty s.btHours]

/-- The test of a brake begins: BRAKE_TEST and DRIVE_EN requested, the car loop in PRETORQUE at torque 0 (R274, steps 1 and 2). -/
def brakeBegin (b : Nat) (s : State) : State :=
  let s := s.modBt fun x => { x with brake := b, phase := 1, at_ := s.optime, torque := 0 }
  (((s.w Reg.SAF_BT_STATUS_STATE (1 + b)).request 6 true).request 1 true).modeNext 0 4

/-- A due test starts at a quiet point with the doors closed, LOCK present and the stop list empty, or overdue with whatever it
holds (R273). -/
def brakeTestStart (s : State) : State :=
  let lock := [0, 1].all fun l => (s.lane l).closed && bitAt (s.lane l).perm 1
  if s.controlReady && s.active && s.saf.bt.due && s.quiet && lock && s.trip.starting.isNone &&
      (s.trip.stops.isEmpty || s.rb Reg.SAF_BT_STATUS_OVERDUE) then brakeBegin 1 s
  else s

/-- Every request of the test withdrawn, the car loop OFF. -/
def brakeRelease (s : State) : State :=
  ((((s.request 2 false).request 3 false).request 6 false).request 1 false).modeNext 0 0

/-- The result and the movement of a brake's test are recorded. -/
def brakeResult (b result : Nat) (s : State) : State :=
  let m := satN 16 s.btMovement
  if b = 1 then (s.w Reg.SAF_BT_STATUS_RESULT1 result).w Reg.SAF_BT_MOVE_BRAKE1 m
  else (s.w Reg.SAF_BT_STATUS_RESULT2 result).w Reg.SAF_BT_MOVE_BRAKE2 m

/-- A test ends without a pass. It stays due if it was aborted or inconclusive, and not after a failure (R276). -/
def brakeStop (b result : Nat) (s : State) : State :=
  let due := result != 2
  let s := (brakeRelease (brakeResult b result s)).modBt fun x => { x with brake := 0, phase := 0, due := due }
  s.wb Reg.SAF_BT_STATUS_STATE due

/-- A test ends as ABORTED (reason 0) or INCONCLUSIVE (reason 1) (R276). -/
def brakeAbort (b reason : Nat) (s : State) : State :=
  (brakeStop b 3 s).raise Evt.BRAKE_TEST_ABORTED [.code b, .code reason]

/-- A brake's test has passed: the test of brake 2 follows that of brake 1; after brake 2 the test is no longer due (R274, R276,
R190). -/
def brakePass (b : Nat) (s : State) : State :=
  let s := (brakeResult b 1 s).raise Evt.BRAKE_TEST_PASS [.code b, .qty s.btMovement]
  let s := if s.saf.bt.onCommand then
      let s := s.modTrip fun t => { t with btPassed := setAt t.btPassed (b - 1) true false }
      s.wb Reg.TRIP_OOS_BT_PENDING s.btPending
    else s
  let s := brakeRelease s
  if b = 1 then s.modBt fun x => { x with brake := 2, phase := 7, at_ := s.optime }
  else
    let s := s.modBt fun x => { x with
      brake := 0, phase := 0, due := false, onCommand := false, lastPass := s.r Reg.PWR_OP_SECONDS }
    (s.w Reg.SAF_BT_STATUS_STATE 0).wb Reg.SAF_BT_STATUS_OVERDUE false

/-- An output with DRIVE_EN or a brake's lift as its request is requested and cut in a lane: held by a latched fault, or without
the lane's own permission (R241, R248, R264, R276). -/
def State.cutIn (s : State) (l : Nat) : Bool :=
  (List.range 10).any fun o => s.outEn l o && decide (1 ≤ s.outReq l o) && decide (s.outReq l o ≤ 3) && s.outRequested l o &&
    (bitAt (s.faultHold l) o || Nat.land (s.lane l).perm (s.outMask l o) != s.outMask l o)

/-- A lane cuts an output of the running brake test. -/
def State.anyCut (s : State) : Bool := s.cutIn 0 || s.cutIn 1

/-- What ends a running test, and what its first phases wait for (R274 to R276): BRAKE_TEST_FAIL, a cut, a fault of R207, a
withdrawal of DRIVE_EN; the grant, then the lift of the other brake. -/
def brakeWatch (s : State) : State :=
  let b := s.saf.bt.brake
  let o := otherBrake b
  let ph := s.saf.bt.phase
  if b = 0 then s
  else if [0, 1].any (fun l => s.faulted l (FaultBit.brakeTest + b - 1)) then brakeStop b 2 s
  else if s.anyCut || s.driveFaulted 0 || (decide (2 ≤ ph) && decide (ph ≤ 6) && !s.granted) then brakeAbort b 0 s
  else if ph = 1 ∧ s.granted then (s.request (liftRequest o) true).modBt fun x => { x with phase := 2, at_ := s.optime }
  else if ph = 2 ∧ s.brakeIs (o - 1) 1 then s.modBt fun x => { x with phase := 3, at_ := s.optime }
  else s

/-- A ramp or the hold has elapsed (R274, R276); between the brakes, brake 2's test begins once the lanes have seen BRAKE_TEST
withdrawn. -/
def brakePhaseEnd (s : State) : State :=
  let s := brakeWatch s
  let x := s.saf.bt
  let ramp := s.par 0 Reg.SAF_BT_TIMES_BT_RAMP_MS * 1000
  let hold := s.par 0 Reg.SAF_BT_TIMES_BT_HOLD_MS * 1000
  let t := s.since x.at_
  let next := fun n (s : State) => s.modBt fun y => { y with phase := n, at_ := s.optime }
  if x.phase = 3 ∧ ramp ≤ t then (next 4 s).modBt fun y => { y with torque := 0 }
  else if x.phase = 4 ∧ hold ≤ t then
    if mag (s.parI 0 Reg.SAF_BT_TORQUE) * 95 ≤ x.torque * 100 then next 5 s else brakeAbort x.brake 1 s
  else if x.phase = 5 ∧ ramp ≤ t then next 6 (s.request (liftRequest (otherBrake x.brake)) false)
  else if x.phase = 7 ∧ !bitAt (s.lane 0).reqSeen 5 ∧ !bitAt (s.lane 1).reqSeen 5 then brakeBegin 2 s
  else s

/-- A brake's test ends: passed once the other brake is reported applied again, or as R276 gives. -/
def brakeTestEnd (s : State) : State :=
  let s := brakeWatch s
  let x := s.saf.bt
  if x.phase = 6 ∧ s.brakeIs (otherBrake x.brake - 1) 0 then brakePass x.brake s else s

/-- CONFIRM of SAF_BT_CMD. -/
def btConfirm : Nat := 0x6B1D

/-- SAF_BT_CMD with CMD START (R273). -/
def btCmdStart (confirm : Nat) (s : State) : State :=
  if confirm ≠ btConfirm then s
  else
    let s := s.modBt fun x => { x with due := true, onCommand := true }
    if s.saf.bt.brake = 0 then s.w Reg.SAF_BT_STATUS_STATE 1 else s

/-- SAF_BT_CMD with CMD ABORT (R276). -/
def btCmdAbort (confirm : Nat) (s : State) : State :=
  if confirm ≠ btConfirm ∨ s.saf.bt.brake = 0 then s else brakeAbort s.saf.bt.brake 0 s

/-! ### Meanings -/

/-- BRAKE_TEST_DUE (R273). -/
def execBrakeTestDue (s : State) : Res := (brakeTestDue s).done
/-- BRAKE_TEST_OVERDUE (R273). -/
def execBrakeTestOverdue (s : State) : Res := (brakeTestOverdue s).done
/-- SAF_BT_CMD_START (R273). -/
def execSafBtCmdStart (confirm : Nat) (s : State) : Res := (s.served (btCmdStart confirm)).done
/-- SAF_BT_CMD_ABORT (R276). -/
def execSafBtCmdAbort (confirm : Nat) (s : State) : Res := (s.served (btCmdAbort confirm)).done
/-- BRAKE_TEST_START (R274). -/
def execBrakeTestStart (s : State) : Res := (brakeTestStart s).done
/-- BRAKE_TEST_PHASE_END (R274). -/
def execBrakeTestPhaseEnd (s : State) : Res := (brakePhaseEnd s).done
/-- BRAKE_TEST_END (R276). -/
def execBrakeTestEnd (s : State) : Res := (brakeTestEnd s).done

end Sys2Proof.Machine
end

