-- ==== Sys2Proof/Machine/Pulses.lean ====
section
/-! DEFINITION. Supervision of the safety outputs and inputs: pole readbacks, test and recheck sequences, the pulses and what
they find, the test-pulse outputs (file 08, R245 to R255). -/

namespace Sys2Proof.Machine

/-- A lane's own FS2 measurement is MISSING (R306). -/
def State.fs2Missing (s : State) (l : Nat) : Bool := (if l = 0 then s.r Reg.FIO_STATUS_FS2A_BAND else s.r Reg.FIO_STATUS_FS2B_BAND) == 3

/-- An output fault shown in SAF_OUT_INFO. -/
def showOutFault (o kind pole partner : Nat) (s : State) : State :=
  ((s.w (Reg.SAF_OUT_INFO_KIND o) kind).w (Reg.SAF_OUT_INFO_POLE o) pole).w (Reg.SAF_OUT_INFO_PARTNER o) partner

/-- OUT_STUCK latches for an output in the lane that holds the pole (R248, R251). -/
def outStuck (l o partner : Nat) (s : State) : State :=
  if bitAt (s.lane l).stuck o || s.releasedOut l o then s
  else
    let s := s.modLane l fun x => { x with stuck := setBit x.stuck o true, faults := setBit x.faults (16 + o) true }
    (showOutFault o 1 l partner s).raise Evt.OUT_STUCK [.code o, .code l]

/-- OUT_OPEN latches for an output in the lane that holds the pole (R248). -/
def outOpen (l o : Nat) (s : State) : State :=
  if bitAt (s.lane l).opened o then s
  else
    let s := s.modLane l fun x => { x with opened := setBit x.opened o true, faults := setBit x.faults (16 + o) true }
    (showOutFault o 3 l 15 s).raise Evt.OUT_OPEN [.code o, .code l]

/-- A lane compares a pole's readback with its command, 200 µs after a change and from then on; not while the pole is in a test
pulse (R248, R254, R306). -/
def readbackCheck (l o : Nat) (s : State) : State :=
  let x := s.lane l
  if !x.started || !s.outEn l o || s.pulsed l == some o || decide (s.since (nth x.cmdAt o 0) < 200) then s
  else
    let cmd := bitAt x.cmd o
    let rb := bitAt x.rb o
    if rb && !cmd then if s.releasedOut l o then s else laneOpen l (outStuck l o 14 s)
    else if cmd && !rb && !s.parB l (Reg.SAF_OUT_CFG_PARTNER o) && !s.fs2Missing l then laneOpen l (outOpen l o s)
    else s

/-- An SQ or BK pole above its current limit switches off and is latched as OUT_OPEN (R434). -/
def currentLimit (l o : Nat) (s : State) : State :=
  let x := s.lane l
  if 10 ≤ o || !x.started || !s.outEn l o || !bitAt x.cmd o then s
  else laneOpen l (outOpen l o ((setCmd l (setBit x.cmd o false) s).modLane l fun x => { x with rb := setBit x.rb o false }))

/-- POLE_READBACK_CHECK with the voltage across the pole's switch at that moment, mV (R435). -/
def poleReadback (l o mv : Nat) (s : State) : State :=
  readbackCheck l o (s.modLane l fun x => { x with rb := setBit x.rb o (stageReport (bitAt x.rb o) mv && s.poleLive l o) })

/-! ### Test-pulse outputs (R245, R247) -/

/-- A lane's TP n, 0 or 1, as commanded: on but for its pulse. -/
def State.tpCommand (s : State) (l n : Nat) : Bool :=
  (s.lane l).started && !(match s.saf.pulse with
    | some p => p.slot == 20 + 2 * l + n && decide (s.since p.at_ < s.par l Reg.SAF_TP_CFG_TP_PULSE_US)
    | none => false)

/-- A channel of a lane is masked: its TP is in its window (R245). -/
def State.masked (s : State) (l i : Nat) : Bool :=
  match s.saf.pulse with
  | some p =>
    decide (20 ≤ p.slot) && s.siTp l i == p.slot - 19 &&
      decide (s.since p.at_ < s.par l Reg.SAF_TP_CFG_TP_PULSE_US + s.par l Reg.SAF_TP_CFG_TP_SETTLE_US)
  | none => false

/-- TP_FAULT latches for a TP, 1 to 4, whose readback has differed from its command for 200 µs (R247). -/
def tpFault (tp : Nat) (s : State) : State :=
  let l := (tp - 1) / 2
  match nth (s.lane l).tpBadAt ((tp - 1) % 2) none with
  | some t =>
    if 200 ≤ s.since t ∧ !s.faulted l (FaultBit.tp + tp - 1) then
      (latchFault l (FaultBit.tp + tp - 1) Evt.TP_FAULT [.code tp] s).modLane l fun x => { x with tpOk := setBit x.tpOk ((tp - 1) % 2) false }
    else s
  | none => s

/-- The readbacks of a lane's TPs at a sample instant. -/
def tpSample (l rb : Nat) (s : State) : State :=
  let s := [0, 1].foldl (fun s n =>
    let bad := bitAt rb n != s.tpCommand l n
    s.modLane l fun x => { x with
      tpRb := setBit x.tpRb n (bitAt rb n)
      tpBadAt := modAt x.tpBadAt n (fun t => if bad then some (t.getD s.optime) else none) none
      tpDiffer := if bad then setBit x.tpDiffer n true else x.tpDiffer }) s
  tpFault (2 * l + 2) (tpFault (2 * l + 1) s)

/-! ### Sequences (R249, R255) -/

/-- Lane A's present period has just begun, before its comparison point, and its index is a multiple of 4. -/
def State.sequenceSlot (s : State) : Bool :=
  (s.lane 0).started && (s.lane 0).period % 4 == 0 && decide (s.since (s.lane 0).startAt < 15) && s.saf.seq == 0

/-- TEST_INTERVAL_S has elapsed since the last test sequence began, or since the lanes began. -/
def State.testDue (s : State) : Bool :=
  let t := if s.saf.seqEnd.isSome then s.saf.seqLast else (s.lane 0).firstAt
  let n := s.par 0 Reg.SAF_TEST_CFG_TEST_INTERVAL_S
  n != 0 && decide (n * 1000000 ≤ s.since t)

/-- A sequence begins with its slot 0 at lane A's period start. -/
def sequenceBegin (kind : Nat) (s : State) : State :=
  slotBegin 0 ((s.wb Reg.SAF_TEST_STATUS_RUNNING (kind = 1)).modSaf fun x => { x with
    seq := kind, seqAt := (s.lane 0).startAt, slot := 0, slotAt := none, pulse := none })

/-- A test sequence begins (R249). -/
def testSequenceStart (s : State) : State :=
  if s.sequenceSlot && s.testDue then
    let s := (sequenceBegin 1 s).modSaf fun x => { x with seqLast := s.optime }
    [0, 1].foldl (fun s l => s.modLane l fun x => { x with tpDiffer := 0, wiringOk := 0 }) s
  else s

/-- A recheck sequence begins for the outputs whose recheck is due (R255). -/
def recheckSequenceStart (s : State) : State :=
  let far := match s.saf.seqEnd with
    | some t => decide (25000 ≤ s.since t)
    | none => true
  if s.sequenceSlot && !s.testDue && far && s.saf.recheckDue != 0 then
    (sequenceBegin 2 s).modSaf fun x => { x with recheckSet := x.recheckDue }
  else s

/-- A pole's pulse starts: the pole opens, and the poles of the same kind that conduct although commanded open are noted (R251,
R253). -/
def polePulse (slot l o : Nat) (s : State) : State :=
  let x := s.lane l
  let before := maskOf 10 fun p => p != o && bitAt x.rb p && !bitAt x.cmd p
  let s := s.modSaf fun y => { y with pulse := some { slot := slot, at_ := s.optime, before := before, closed := bitAt x.cmd o } }
  setCmd l (setBit x.cmd o false) s

/-- The pulse of a slot starts 100 µs after the slot begins, or is skipped as its slot start gave it (R249 to R251, R255). -/
def pulseStart (slot : Nat) (s : State) : State :=
  let t := s.since s.saf.seqAt
  if s.saf.seq = 0 ∨ s.saf.pulse.isSome ∨ slot < s.saf.slot ∨ s.saf.slotAt ≠ some slot ∨ 24 ≤ slot ∨ t < slot * 1000 + 100 ∨ slot * 1000 + 1000 ≤ t then s
  else
    let s := s.modSaf fun x => { x with slot := slot + 1 }
    if slot < 20 then
      let l := slot / 10
      let o := slot % 10
      if s.saf.seq = 2 ∧ !bitAt s.saf.recheckSet o then s
      else if s.saf.slotSkip then s.inc Reg.SAF_TEST_COUNT_SKIPPED
      else polePulse slot l o s
    else if s.saf.seq = 1 then
      let s := [0, 1].foldl (fun s l => s.modLane l fun x => { x with tpBefore := x.raw }) s
      s.modSaf fun x => { x with pulse := some { slot := slot, at_ := s.optime } }
    else s

/-- What the readbacks and channels showed during a pulse or its window, as the 10 µs samples saw them (R246, R251, R253). -/
structure PulseSeen where
  /-- the pulsed pole read open on a sample -/
  opened : Bool
  /-- poles of the same kind that read open on a sample -/
  follow : Nat
  /-- lane A's channels that read OFF on a sample inside the window -/
  offA : Nat
  /-- lane B's -/
  offB : Nat
  /-- lane A's channels that read ON on a sample inside the window -/
  onA : Nat
  /-- lane B's -/
  onB : Nat
  /-- lane A's channels that read ON after the window -/
  afterA : Nat
  /-- lane B's -/
  afterB : Nat
  deriving DecidableEq, Repr

/-- OUT_CROSS latches on both outputs (R253). -/
def outCross (l o p : Nat) (s : State) : State :=
  let s := s.modLane l fun x => { x with
    cross := setBit (setBit x.cross o true) p true
    wired := modAt (modAt x.wired o (setBit · p true) 0) p (setBit · o true) 0
    faults := setBit (setBit x.faults (16 + o) true) (16 + p) true }
  (showOutFault p 2 l o (showOutFault o 2 l p s)).raise Evt.OUT_CROSS [.code o, .code p]

/-- A pole's pulse ends: judged unless aborted; a pole closed before closes again only if conditions 1, 2 and 4 hold and
SWITCH_CHANGED is not set (R251 to R253, R258). -/
def polePulseEnd (l o : Nat) (p : Pulse) (x : PulseSeen) (s : State) : State :=
  let s := s.modSaf fun y => { y with pulse := none }
  if p.aborted then s
  else
    let s := if x.opened then s else outStuck l o 15 (s.inc Reg.SAF_TEST_COUNT_FAILED)
    let s := ((bitNums 10 (Nat.land p.before x.follow)).filter fun q => !s.releasedOut l q).foldl (fun s q => outCross l o q s) s
    let s := if p.closed && bitAt (s.allowed l) o && !(s.lane l).noClose then setCmd l (setBit (s.lane l).cmd o true) s else s
    laneOpen l s

/-- A wiring fault latches on a lane's channel: kind 1 STUCK, 2 CROSS (R246). -/
def wiringFault (kind l i tp : Nat) (s : State) : State :=
  if bitAt (s.lane l).wiring i then s
  else
    let s := s.modLane l fun x => { x with wiring := setBit x.wiring i true, faults := setBit x.faults i true }
    let s := showInputFault i kind l tp s
    if kind = 1 then s.raise Evt.INPUT_STUCK [.code (i + 1), .code l]
    else s.raise Evt.INPUT_CROSS [.code (i + 1), .code l, .code tp]

/-- A lane's channel is judged after a TP window (R246). -/
def tpJudge (tp l i : Nat) (off on after : Bool) (s : State) : State :=
  let before := bitAt (s.lane l).tpBefore i
  if !s.siEn l i || !before then s
  else if s.siTp l i = tp then
    if off then s.modLane l fun x => { x with wiringOk := setBit x.wiringOk i true }
    else wiringFault 1 l i tp s
  else if after && !on then wiringFault 2 l i tp s
  else s

/-- A TP window ends: every channel of both lanes is judged (R246). -/
def tpWindowEnd (tp : Nat) (x : PulseSeen) (s : State) : State :=
  let s := s.modSaf fun y => { y with pulse := none }
  let s := (List.range 16).foldl (fun s i => tpJudge tp 0 i (bitAt x.offA i) (bitAt x.onA i) (bitAt x.afterA i) s) s
  let s := (List.range 16).foldl (fun s i => tpJudge tp 1 i (bitAt x.offB i) (bitAt x.onB i) (bitAt x.afterB i) s) s
  laneFunctions 1 (laneFunctions 0 s)

/-- A pulse ends after OUT_PULSE_US; a TP window TP_SETTLE_US after its pulse (R245, R249, R251). -/
def pulseEnd (x : PulseSeen) (s : State) : State :=
  match s.saf.pulse with
  | none => s
  | some p =>
    match p.pole with
    | some (l, o) => if s.since p.at_ < s.par l Reg.SAF_TEST_CFG_OUT_PULSE_US then s else polePulseEnd l o p x s
    | none =>
      let l := (p.slot - 20) / 2
      if s.since p.at_ < s.par l Reg.SAF_TP_CFG_TP_PULSE_US + s.par l Reg.SAF_TP_CFG_TP_SETTLE_US then s
      else tpWindowEnd (p.slot - 19) x s

/-! ### Meanings -/

/-- TEST_SEQUENCE_START (R249). -/
def execTestSequenceStart (s : State) : Res := (testSequenceStart s).done
/-- RECHECK_SEQUENCE_START (R255). -/
def execRecheckSequenceStart (s : State) : Res := (recheckSequenceStart s).done
/-- TEST_PULSE_START (R251). -/
def execTestPulseStart (slot : Nat) (s : State) : Res := (pulseStart slot s).done
/-- TEST_PULSE_END (R251). -/
def execTestPulseEnd (opened : Bool) (follow offA offB onA onB afterA afterB : Nat) (s : State) : Res :=
  (pulseEnd ⟨opened, follow, offA, offB, onA, onB, afterA, afterB⟩ s).done
/-- POLE_READBACK_CHECK (R248). -/
def execPoleReadbackCheck (laneB : Bool) (output mv : Nat) (s : State) : Res := (poleReadback (b2n laneB) (output % 10) mv s).done
/-- TP_FAULT (R247). -/
def execTpFault (tp : Nat) (s : State) : Res := (tpFault (tp % 4 + 1) s).done

end Sys2Proof.Machine
end

