-- ==== Sys2Proof/Machine/Lanes.lean ====
section
/-! DEFINITION. The commands of the safety lanes: period starts, records, comparison points, sample instants, requests, demands,
seal switches, writes under the seal, overrides and resets (files 08 and 09). -/

namespace Sys2Proof.Machine

/-- A comparison point without a valid record: at the first of a row the items are judged on the content kept (R234). -/
def missPoint (l : Nat) (s : State) : State :=
  let s := recMissing l s
  if (s.lane l).heard && (s.lane l).miss == 1 then judgeItems l (s.lane l).other s else s

/-- A comparison point, 15 µs into the lane's period, with the voltages across its own switches (R229, R235). -/
def comparison (l : Nat) (volts : List Nat) (s : State) : State :=
  let x := s.lane l
  if !x.started || x.compared || decide (s.since x.startAt < 15) then s
  else
    let s := s.modLane l fun x => { x with compared := true, rb := s.readPoles l volts }
    let rec_ := s.recValid l
    let s := s.modLane l fun x => { x with inbox := none, noRecord := false }
    let s := match rec_ with
      | some r => overrideExchange l r (judgeItems l r (recTake l r s))
      | none => missPoint l s
    let s := resetPoint l (brakePoint l 1 (brakePoint l 0 (switchPoint l s)))
    let s := pointCounts l (closePoles l (laneFunctions l s))
    brakeWatch (portNine (grantPoint l s))

/-- The comparison point at which a tolerance of Table 08-5 runs out: one whose outcome p holds where it did not before. -/
def comparisonIf (l : Nat) (volts : List Nat) (p : State → Bool) (s : State) : State :=
  let t := comparison l volts s
  if p t && !p s then t else s

/-- What a lane reads at a sample instant (R239, R245, R248, R271, R286). -/
structure LaneInputs where
  /-- the terminal level of its channel of each input -/
  levels : Nat
  /-- for each fast-class input, its consecutive 0.5 µs samples at that level up to this one, those of a masked window left out -/
  runs : List Nat
  /-- voltage across the switch of each of its poles, mV (R435) -/
  volts : List Nat
  /-- readbacks of its TPs -/
  tps : Nat
  /-- coil current of brake 1, mA; the sense reads up to 4,095 (R434) -/
  cur1 : Nat
  /-- coil current of brake 2 -/
  cur2 : Nat
  /-- filtered level of SRST -/
  srst : Bool
  deriving DecidableEq, Repr

/-- A lane's channel of an input takes a level; lane A's is the input of position, doors and deck (R240, Table 04-3, R218). -/
def setChannel (l i : Nat) (on : Bool) (s : State) : State :=
  let s := s.modLane l fun x => { x with chan := setBit x.chan i on, run := setAt x.run i 0 0 }
  if l = 0 then doorInputEdge (i + 1) s else s

/-- A fast-class demand: the lane opens its poles of CUT_MASK and latches FAST_CUT (R241, R267). -/
def fastDemand (l i : Nat) (s : State) : State :=
  let known := bitAt (s.lane 0).fastCut i || bitAt (s.lane 1).fastCut i
  let s := setChannel l i false s
  let s := s.modLane l fun x => { x with
    fast := setBit x.fast i true, fastCut := setBit x.fastCut i true, faults := setBit x.faults FaultBit.fastCut true }
  let s := s.when_ (!known) fun s => s.raise Evt.FAST_CUT [.code (i + 1), .code l]
  laneFunctions l s

/-- A run of 0.5 µs samples at a new level passes the filter of a fast-class input; the filter counts from the first sample of the
lane's first period (R239). -/
def State.fastPasses (s : State) (l i run : Nat) : Bool :=
  decide (s.par l (Reg.SAF_SI_CFG_FILT i) ≤ min run (2 * s.since (s.lane l).firstAt + 1))

/-- One channel at a sample instant; a lost one reads OFF (R239, R240, R245, R310). -/
def channelSample (l i : Nat) (level : Bool) (fastRun : Nat) (s : State) : State :=
  let x := s.lane l
  let on := !s.channelLost (9 + 2 * l + i / 8) (i % 8) && level != (l == 1 && s.parB l (Reg.SAF_SI_CFG_ANTI i))
  if !s.siEn l i || s.masked l i then s
  else
    let s := s.modLane l fun x => { x with raw := setBit x.raw i on }
    if on == bitAt x.chan i then s.modLane l fun x => { x with run := setAt x.run i 0 0 }
    else if s.siFast l i then
      if !s.fastPasses l i fastRun then s else if on then setChannel l i true s else fastDemand l i s
    else
      let n := nth x.run i 0 + 1
      if s.par l (Reg.SAF_SI_CFG_FILT i) * 20 ≤ n then setChannel l i on s
      else s.modLane l fun x => { x with run := setAt x.run i n 0 }

/-- A lane takes its position and speed: its own while valid, else the valid one of the record (R237, R268). -/
def takeMotion (l : Nat) (s : State) : State :=
  let m := s.ownMotion l
  s.modLane l fun x =>
    if m.2.2 then { x with pos := m.1, speed := m.2.1, posValid := true }
    else if x.heard && bitAt x.other.flags 4 then { x with pos := x.other.pos, speed := x.other.speed, posValid := false }
    else { x with posValid := false }

/-- The levels of the reset sources and since when they are high (R286): one high in the first lane period counts only after 1 s low. -/
def sourceLevels (l : Nat) (srst : Bool) (s : State) : State :=
  s.modLane l fun x => { x with
    srcs := ([s.netLine, srst].zip x.srcs).map fun y => { y.2 with
      level := y.1, riseAt := if y.1 then some (y.2.riseAt.getD s.optime) else none, blocked := y.2.blocked || (y.1 && x.period == 0) } }

/-- What a lane reads at a sample instant is taken: switch voltages, coil currents, the levels of the reset sources, and each
channel through its filter (R239, R248, R272, R286). -/
def laneTake (l : Nat) (x : LaneInputs) (s : State) : State :=
  let s := s.modLane l fun y => { y with
    aliveAt := s.optime
    rb := s.readPoles l x.volts
    brakes := ([if s.senseLost l 2 then 0 else x.cur1, if s.senseLost l 3 then 0 else x.cur2].zip y.brakes).map fun z => { z.2 with current := min z.1 4095 } }
  let s := sourceLevels l (x.srst && !s.senseLost l 6) s
  (List.range 16).foldl (fun s i => channelSample l i (bitAt x.levels i) (nth x.runs i 0) s) s

/-- The filtered states of a lane's channels in use, bit n of input n + 1, as a record's sample carries them (R233, R239). -/
def State.channelStates (s : State) (l : Nat) : Nat := maskOf 16 fun i => s.siEn l i && bitAt (s.lane l).chan i

/-- A sample instant of a lane, j = 0 to 4 of its period (R239, R248, R268, R272). -/
def laneSample (l : Nat) (x : LaneInputs) (s : State) : State :=
  let n := (s.lane l).samples.length
  if !(s.lane l).started || decide (5 ≤ n) || decide (s.since (s.lane l).startAt < 50 * n) then s
  else
    let s := laneTake l x s
    let s := s.modLane l fun y => { y with samples := y.samples ++ [s.channelStates l] }
    let s := takeMotion l (tpSample l (maskOf 2 fun n => bitAt x.tps n && s.fio.power && !s.senseLost l (4 + n)) s)
    let s := brakeSample l 1 (brakeSample l 0 s)
    let s := laneFunctions l (motionSample l s)
    let s := (List.range 10).foldl (fun s o => readbackCheck l o s) s
    brakeWatch (portNine (if l = 0 then quietWatch s else s))

/-- A functional request reaches a lane through its synchroniser (R230); at BRAKE_TEST the lane records its test anchor (R274). -/
def requestChange (l bus : Nat) (s : State) : State :=
  let s := s.modMir fun x => { x with bus := bus % 128 }
  let old := (s.lane l).reqSeen
  let new := s.laneReqs % 64
  let s := s.modLane l fun x => { x with reqSeen := new, req := Nat.land new (Nat.xor (Nat.land x.reqAbsent 63) 63) }
  let s := if bitAt new 5 && !bitAt old 5 then s.modLane l fun x => { x with btAnchor := x.pos, btPeak := 0 } else s
  portNine (laneFunctions l s)

/-- A fast-class channel that reads ON changes to OFF, unless masked (R241, R245). -/
def fastOff (l i : Nat) (s : State) : State :=
  if (s.lane l).started && s.siEn l i && s.siFast l i && bitAt (s.lane l).chan i && !s.masked l i then portNine (fastDemand l i s)
  else s

/-- A fast-class channel that has read ON for a run of 0.5 µs samples since the last instant takes ON (R239). -/
def fastOn (l i run : Nat) (s : State) : State :=
  if (s.lane l).started && s.siEn l i && s.siFast l i && !bitAt (s.lane l).chan i && !s.masked l i && s.fastPasses l i run then
    setChannel l i true s
  else s

/-- A fast-class channel's filtered change to OFF after a run of 0.5 µs samples OFF, before which it read ON for another run: an
input in use, ON and not masked (R239, R241, R245). -/
def fastInput (l i on off : Nat) (s : State) : State := if s.fastPasses l i off then fastOff l i (fastOn l i on s) else s

/-! ### Seal switches and writes under the seal (R256 to R259, R421) -/

/-- SW2 as the main die's debounced sense line reads it (R421). -/
def sw2Change (level : Bool) (s : State) : State :=
  if s.rb Reg.IMG_SEAL_SW2 = level then s
  else ((s.wb Reg.IMG_SEAL_SW2 level).wb Reg.SEC_STATUS_SW2 level).raise Evt.SW2_CHANGED [.code (b2n level)]

/-- The main die's sense line of a switch, 1 to 8, for IMG_SEAL (R256). -/
def mainSwitch (sw : Nat) (level : Bool) (s : State) : State :=
  if sw = 1 then s.wb Reg.IMG_SEAL_SW1 level
  else if sw = 2 then sw2Change level s
  else if 3 ≤ sw ∧ sw ≤ 8 then
    let s := s.setBitOf Reg.IMG_SEAL_SWITCH_CODE (sw - 3) level
    s.wb Reg.IMG_SEAL_MATCH s.sealMatch
  else s

/-- A lane takes a new level of a switch, 1 to 8, after 20 ms stable; a code match that ends in operation sets SWITCH_CHANGED
(R256, R258). -/
def laneSwitch (l sw : Nat) (level : Bool) (s : State) : State :=
  let was := s.codeMatch l
  let s := s.modLane l fun x =>
    if sw = 1 then { x with sw1 := level }
    else if sw = 2 then { x with sw2 := level }
    else if 3 ≤ sw ∧ sw ≤ 8 then { x with code := setBit x.code (sw - 3) level }
    else x
  if was && !s.codeMatch l && (s.lane l).matched && s.controlReady then
    switchChanged l (switchArgs l (s.lane l).other s) (s.modLane l fun x => { x with matched := false })
  else s

/-- A seal switch has had a new level for a number of lane periods: lane A (0) and lane B (1) take it after 80, 20 ms (R256); 2 is
the main die's sense line. -/
def sealSwitch (reader sw periods : Nat) (level : Bool) (s : State) : State :=
  if periods < 80 then s
  else if reader < 2 then laneSwitch reader sw level s else mainSwitch sw level s

/-- SW1 reads set and the code match holds in both lanes' latest readings (R259). -/
def State.sealOpen (s : State) : Bool := [0, 1].all fun l => (s.lane l).sw1 && s.codeMatch l

/-- A write to an RWS register (R259): its effect under the seal, else a refusal with the register offset. -/
def rwsWrite (addr v : Nat) (s : State) : State :=
  if addr ≠ Reg.SAF_PARAM_VALUE.addr ∧ addr ≠ Reg.SAF_PARAM_CONFIRM.addr then s
  else if !s.sealOpen then (s.wb Reg.SAF_STATUS_RWS_REFUSED true).raise Evt.SAF_RWS_REFUSED [.qty (addr % 65536)]
  else if addr = Reg.SAF_PARAM_VALUE.addr then s.w Reg.SAF_PARAM_VALUE v
  else startOverride v (s.w Reg.SAF_PARAM_CONFIRM v)

/-! ### Lane B's decoder (R118, R119) -/

/-- The format of SSI2 from lane B's table. -/
def LaneTable.ssiFormat (t : LaneTable) : SsiFormat :=
  { first := t.ssiFirst, nbits := t.ssiBits, gray := t.ssiGray, errPos := t.ssiErrPos, errActive := t.ssiErrActive,
    parPos := t.ssiParPos, parOdd := t.ssiParOdd, nm := t.ssiNm, offset := t.ssiOffset }

/-- Lane B's decoder rejects a frame; FAIL_N in a row latch SSI_LOST (R118, R119). -/
def Lane.ssiReject (failN : Nat) (x : Lane) : Lane :=
  let n := x.ssiBad + 1
  let lost := decide (failN ≤ n)
  { x with ssiBad := n, ssiGood := 0, ssiLost := x.ssiLost || lost, ssiFresh := x.ssiFresh || (lost && !x.ssiLost) }

/-- A frame of SSI2 in lane B's own decoder, age µs after its latching edge (R118, R119, R268). -/
def laneFrame (bits : List Bool) (idleLow : Bool) (age : Nat) (s : State) : State :=
  let t := s.laneTable 1
  let x := s.lane 1
  let p := ssiPosition t.ssiFormat bits
  let at_ := s.optime - BitVec.ofNat 48 age
  let bad := ssiFrameError t.ssiFormat bits idleLow != 0 || (!x.ssiFresh && ssiJump x.ssi p at_ (t.ssiJump * 100))
  s.modLane 1 fun x =>
    let x := { x with ssiAt := some s.optime }
    if bad then x.ssiReject t.ssiFailN
    else
      let n := min 64 (x.ssiGood + 1)
      { x with
        ssi := ((p, at_) :: (if x.ssiFresh then [] else x.ssi)).take 4, ssiBad := 0, ssiGood := n, ssiFresh := false
        ssiLost := x.ssiLost && decide (n < 64) }

/-! ### Meanings -/

/-- LANE_A_PERIOD_START (R232). -/
def execLaneAPeriodStart (volts : List Nat) (s : State) : Res := (laneAStart volts s).done
/-- LANE_B_PERIOD_START (R232). -/
def execLaneBPeriodStart (bc : Nat) (volts : List Nat) (s : State) : Res := (laneBStart bc volts s).done
/-- PRISM_RECORD (R233). -/
def execPrismRecord (toB : Bool) (bytes : List Byte) (span : Nat) (s : State) : Res := (prismRecord (b2n toB) span bytes s).done
/-- COMPARISON_POINT (R235). -/
def execComparisonPoint (laneB : Bool) (volts : List Nat) (s : State) : Res := (comparison (b2n laneB) volts s).done
/-- PRISM_LINK (R234). -/
def execPrismLink (laneB : Bool) (volts : List Nat) (s : State) : Res :=
  (comparisonIf (b2n laneB) volts (fun s => s.faulted (b2n laneB) FaultBit.prismLink) s).done
/-- LANE_CLOCK (R235). -/
def execLaneClock (laneB : Bool) (volts : List Nat) (s : State) : Res :=
  (comparisonIf (b2n laneB) volts (fun s => s.faulted (b2n laneB) FaultBit.laneClock) s).done
/-- LANE_POS_DIFF (R237). -/
def execLanePosDiff (laneB : Bool) (volts : List Nat) (s : State) : Res :=
  (comparisonIf (b2n laneB) volts (fun s => s.faulted (b2n laneB) FaultBit.posDiff) s).done
/-- SWITCH_DISAGREE (R235, R258). -/
def execSwitchDisagree (laneB : Bool) (volts : List Nat) (s : State) : Res :=
  (comparisonIf (b2n laneB) volts (fun s => (s.lane (b2n laneB)).switchOff) s).done
/-- LANE_REQUEST_CHANGE (R230). -/
def execLaneRequestChange (laneB : Bool) (bus : Nat) (s : State) : Res := (requestChange (b2n laneB) bus s).done
/-- LANE_SAMPLE_INSTANT (R268). -/
def execLaneSampleInstant (laneB : Bool) (levels : Nat) (runs volts : List Nat) (tps cur1 cur2 : Nat) (srst : Bool) (s : State) : Res :=
  noted (laneSample (b2n laneB) ⟨levels, runs, volts, tps, cur1, cur2, srst⟩) s
/-- BRAKE_TIMEOUT (R272). -/
def execBrakeTimeout (laneB brake2 : Bool) (s : State) : Res :=
  noted (fun s => portNine (laneFunctions (b2n laneB) (brakeTimeout (b2n laneB) (b2n brake2) s))) s
/-- FAST_INPUT_DEMAND (R241). -/
def execFastInputDemand (laneB : Bool) (input on off : Nat) (s : State) : Res :=
  noted (fastInput (b2n laneB) (input % 16) on off) s
/-- SEAL_SWITCH_CHANGE (R256). -/
def execSealSwitchChange (reader sw periods : Nat) (level : Bool) (s : State) : Res := (sealSwitch reader sw periods level s).done
/-- RWS_WRITE (R259). -/
def execRwsWrite (addr value : Nat) (s : State) : Res := (s.served (rwsWrite addr value)).done
/-- SAF_PARAM_CONFIRM (R260). -/
def execSafParamConfirm (confirm : Nat) (s : State) : Res := (s.served (rwsWrite Reg.SAF_PARAM_CONFIRM.addr confirm)).done
/-- OVERRIDE_APPLY (R260). -/
def execOverrideApply (laneB : Bool) (s : State) : Res := (overrideApply (b2n laneB) s).done
/-- LOCK_CHECK (R277). -/
def execLockCheck (laneB upper : Bool) (s : State) : Res :=
  (portNine (laneFunctions (b2n laneB) (lockCheck (b2n laneB) (b2n upper) s))).done
/-- SEP_STALE (R285). -/
def execSepStale (laneB below : Bool) (s : State) : Res := (sepStale (b2n laneB) (b2n below) s).done
/-- RESET_PULSE (R287). -/
def execResetPulse (laneB srst : Bool) (width : Nat) (s : State) : Res := (resetPulse (b2n laneB) (b2n srst) width s).done
/-- STUCK_RESET (R286). -/
def execStuckReset (laneB srst : Bool) (s : State) : Res := (stuckReset (b2n laneB) (b2n srst) s).done
/-- LANE_B_SSI_FRAME (R119). -/
def execLaneBSsiFrame (bits : List Bool) (idleLow : Bool) (age : Nat) (s : State) : Res :=
  (ssiFrame 1 bits idleLow (s.optime - BitVec.ofNat 48 age) (laneFrame bits idleLow age s)).done

end Sys2Proof.Machine
end

