-- ==== Sys2Proof/Machine/Fio.lean ====
section
/-! DEFINITION. Standard field I/O (file 10): standard inputs and their wire-break classes, standard outputs with overload,
readback and off-pulses, silence, field supplies, and the coupler lanes with their spares (R291 to R310). -/

namespace Sys2Proof.Machine

/-! ### Standard inputs (R293, R294) -/

/-- An input changed, 0 for DI01. -/
def State.modDi (s : State) (i : Nat) (f : DiState → DiState) : State := s.modFio fun x => { x with di := modAt x.di i f {} }

/-- A bit of a pair of LO and HI registers. -/
def setPair (lo hi : Field) (i : Nat) (b : Bool) (s : State) : State :=
  if i < 32 then s.setBitOf lo i b else s.setBitOf hi (i - 32) b

/-- A bit of a pair of LO and HI registers read. -/
def pairBit (s : State) (lo hi : Field) (i : Nat) : Bool := if i < 32 then bitAt (s.r lo) i else bitAt (s.r hi) (i - 32)

/-- The filtered state of an input takes a level; a change reaches counters, reference points, doors and deck (R293). -/
def diSet (i : Nat) (on : Bool) (s : State) : State :=
  if s.diFiltered i = on then s
  else doorInputEdge (0x21 + i) (setPair Reg.FIO_DI_STATE_LO Reg.FIO_DI_STATE_HI i on s)

/-- The class of a current in 0.01 mA (Table 10-3): 0 CLOSED, 1 OPEN, 2 UNDEFINED, 3 BREAK. -/
def wbClass (c : Nat) : Nat :=
  if 500 < c then 0 else if 350 < c then 2 else if 120 ≤ c then 1 else if 50 ≤ c then 2 else 3

/-- A coupler lane changed. -/
def State.modCpl (s : State) (g k : Nat) (f : CplLane → CplLane) : State :=
  s.modFio fun x => { x with groups := modAt x.groups g (fun y => { y with lanes := modAt y.lanes k f {} }) {} }

/-- A coupler group changed. -/
def State.modGroup (s : State) (g : Nat) (f : CplGroup → CplGroup) : State :=
  s.modFio fun x => { x with groups := modAt x.groups g f {} }

/-- A class is taken after DI_FILT consecutive samples in it (R294). -/
def classTaken (i k : Nat) (s : State) : State :=
  let broken := pairBit s Reg.FIO_DI_BREAK_LO Reg.FIO_DI_BREAK_HI i
  let s := s.modDi i fun d => { d with taken := some k }
  if k = 2 then s
  else
    let s := setPair Reg.FIO_DI_UNDEF_LO Reg.FIO_DI_UNDEF_HI i false s
    let s := if k = 3 then
        if broken then s
        else (setPair Reg.FIO_DI_BREAK_LO Reg.FIO_DI_BREAK_HI i true s).raise Evt.DI_WIRE_BREAK [.code (i + 1)]
      else if broken then
        (setPair Reg.FIO_DI_BREAK_LO Reg.FIO_DI_BREAK_HI i false s).raise Evt.DI_WIRE_OK [.code (i + 1)]
      else s
    diSet i (decide (k = 0)) s

/-- A sample of an input: threshold level, and current in 0.01 mA (R293, R294). -/
def diSample (i : Nat) (level : Bool) (current : Nat) (s : State) : State :=
  let d := nth s.fio.di i {}
  if !s.rb (Reg.FIO_DI_CFG_EN i) then s
  else if s.channelLost (i / 8) (i % 8) then diSet i false s
  else
    let s := s.modDi i fun d => { d with current := min current 1023 }
    let filt := s.r (Reg.FIO_DI_CFG_DI_FILT i)
    if s.rb (Reg.FIO_DI_CFG_WB i) then
      let k := wbClass current
      let n := if d.run ≠ 0 ∧ d.cand = k then min 65535 (d.run + 1) else 1
      let s := s.modDi i fun d => { d with cand := k, run := n, undef := if k = 2 then min 65535 (d.undef + 1) else 0 }
      if filt ≤ n && d.taken != some k then classTaken i k s else s
    else
      if level = s.diFiltered i then s.modDi i fun d => { d with run := 0 }
      else if filt ≤ d.run + 1 then diSet i level (s.modDi i fun d => { d with run := 0 })
      else s.modDi i fun d => { d with run := d.run + 1 }

/-- A current UNDEFINED for 400 consecutive samples sets the state OFF until a defined class is taken (R294). -/
def diUndefined (i : Nat) (s : State) : State :=
  let d := nth s.fio.di i {}
  if d.undef < 400 || pairBit s Reg.FIO_DI_UNDEF_LO Reg.FIO_DI_UNDEF_HI i || !s.rb (Reg.FIO_DI_CFG_WB i) then s
  else
    let s := (setPair Reg.FIO_DI_UNDEF_LO Reg.FIO_DI_UNDEF_HI i true s).raise Evt.DI_UNDEFINED [.code (i + 1), .qty d.current]
    diSet i false s

/-! ### Field supplies (R305, R306) -/

/-- VOLT, MIN and BAND of FS1, FS2A and FS2B. -/
def fsFields (i : Nat) : Field × Field × Field :=
  if i = 0 then (Reg.FIO_FS1_VOLT, Reg.FIO_FS1_MIN, Reg.FIO_STATUS_FS1_BAND)
  else if i = 1 then (Reg.FIO_FS2A_VOLT, Reg.FIO_FS2A_MIN, Reg.FIO_STATUS_FS2A_BAND)
  else (Reg.FIO_FS2B_VOLT, Reg.FIO_FS2B_MIN, Reg.FIO_STATUS_FS2B_BAND)

/-- The band of a voltage in 0.1 V (Table 10-4). -/
def fsBand (v : Nat) : Nat := if v < 120 then 3 else if v < 192 then 1 else if v ≤ 300 then 0 else 2

/-- The band a supply moves to from a band: a move toward NORMAL needs 0.3 V inside the threshold crossed (R305). -/
def fsNext (now v : Nat) : Nat :=
  let b := fsBand v
  if now = 3 then
    if b = 3 ∨ v < 123 then 3 else if b = 0 ∧ v < 195 then 1 else b
  else if now = 1 then if b = 0 ∧ v < 195 then 1 else b
  else if now = 2 then if b = 0 ∧ 297 < v then 2 else b
  else b

/-- A measurement of a field supply, 0.1 V (R305). -/
def fsSample (i v : Nat) (s : State) : State :=
  let f := fsFields i
  let v := min v 1023
  let s := (s.w f.1 v).w f.2.1 (min (s.r f.2.1) v)
  let b := fsNext (s.r f.2.2) v
  let s := recSupply (i + 1) v s
  s.modFio fun x => { x with fs := modAt x.fs i (fun y => if y.1 = b then (b, min 65535 (y.2 + 1)) else (b, 1)) (3, 0) }

/-- A supply takes a new band after 20 consecutive samples in it (R305). -/
def fsTake (i : Nat) (s : State) : State :=
  let f := fsFields i
  let y := nth s.fio.fs i (3, 0)
  if y.1 = s.r f.2.2 ∨ y.2 < 20 then s
  else (s.w f.2.2 y.1).raise Evt.FS_BAND [.code (i + 1), .code y.1, .qty (s.r f.1)]

/-- A 50 µs instant of the field side: every enabled input and the three supplies (R293, R305). -/
def inputSample (levels : Nat) (currents volts : List Nat) (s : State) : State :=
  if s.optime.toNat % 50 ≠ 0 ∨ !s.fio.power then s
  else
    let s := (List.range 48).foldl (fun s i => diSample i (bitAt levels i) (nth currents i 0) s) s
    (List.range 3).foldl (fun s i => fsSample i (nth volts i 0) s) s

/-! ### Standard outputs (R295 to R304) -/

/-- FIO_DO_CMD: the command applied to each output. -/
def State.doApplied (s : State) : Nat := maskOf 24 fun i => s.doLevel i && !(match s.fio.pulse with
  | some (n, _) => n == i
  | none => false)

/-- KIND and PARTNER of an output. -/
def doInfo (i kind partner : Nat) (s : State) : State := (s.w (Reg.FIO_DO_INFO_KIND i) kind).w (Reg.FIO_DO_INFO_PARTNER i) partner

/-- KIND of an output. -/
def State.doKind (s : State) (i : Nat) : Nat := s.r (Reg.FIO_DO_INFO_KIND i)

/-- An output wire-ORed with the partner module (R301). -/
def State.doPartner (s : State) (i : Nat) : Bool := s.paired && s.rb (Reg.FIO_DO_CFG_PARTNER i)

/-- The command the readback is compared with: the pair's on a PARTNER output (R301). -/
def State.doExpected (s : State) (i : Nat) : Bool := s.doLevel i || (s.doPartner i && bitAt s.mir.partnerDo i)

/-- An output carries more than 1.0 A for 50 µs, or its switch is at its thermal limit (R296). -/
def doOverload (i : Nat) (s : State) : State :=
  if !s.doLevel i then s
  else
    let n := min 3 (s.r (Reg.FIO_DO_INFO_OVERLOADS i) + 1)
    let last := decide (3 ≤ n)
    let s := (doInfo i (if last then 5 else 4) 0 s).w (Reg.FIO_DO_INFO_OVERLOADS i) n
    ((s.modDo i fun d => { d with overAt := if last then none else some s.optime, latched := last }).doChanged i).raise
      Evt.DO_OVERLOAD [.code (i + 1), .qty n]

/-- One second after an overload the standing command is applied again (R296). -/
def doRetry (i : Nat) (s : State) : State :=
  match (s.dout i).overAt with
  | some t =>
    if s.since t < 1000000 then s
    else ((doInfo i 0 0 s).modDo i fun d => { d with overAt := none }).doRestart i
  | none => s

/-- CONFIRM of FIO_CMD. -/
def fioConfirm : Nat := 0x2E71

/-- FIO_CMD CLEAR_OVERLOAD releases an output that stays off (R296). -/
def fioClear (output confirm : Nat) (s : State) : State :=
  let i := output - 1
  if confirm ≠ fioConfirm ∨ output = 0 ∨ 24 < output ∨ !(s.dout i).latched then s
  else (((doInfo i 0 0 s).w (Reg.FIO_DO_INFO_OVERLOADS i) 0).modDo i fun d => { d with latched := false }).doRestart i

/-- An output whose readback is judged now: RB_EN, not switched off by overload, its group not silent, not in a pulse (R296, R297,
R303). -/
def State.doJudged (s : State) (i : Nat) : Bool :=
  s.rb (Reg.FIO_DO_CFG_EN i) && s.rb (Reg.FIO_DO_CFG_RB_EN i) && !s.doOverloaded i && !s.doSilent i && s.fio.power &&
    !(match s.fio.pulse with
      | some (n, _) => n == i
      | none => false)

/-- The fault of an output whose readback differed at all three points (R297). -/
def doStuck (i : Nat) (high : Bool) (s : State) : State :=
  if high then
    if s.doKind i = 1 ∨ s.doKind i = 3 then s else (doInfo i 1 0x1E s).raise Evt.DO_STUCK_HIGH [.code (i + 1), .code 0x1E]
  else if s.doKind i = 2 then s
  else (doInfo i 2 0 s).raise Evt.DO_STUCK_LOW [.code (i + 1)]

/-- 16 consecutive agreeing judgements clear an output's fault, and end a run of overloads (R297). -/
def doAgree (i : Nat) (s : State) : State :=
  if (s.dout i).good < 16 then s
  else
    let s := if s.doLevel i then s.w (Reg.FIO_DO_INFO_OVERLOADS i) 0 else s
    if s.doKind i = 0 ∨ 3 < s.doKind i then s else (doInfo i 0 0 s).raise Evt.DO_CLEARED [.code (i + 1)]

/-- A judging point of an output's readback: the first 200 µs after the command, then the 50 µs instants (R297). -/
def State.doPoint (s : State) (i : Nat) : Bool :=
  let d := s.dout i
  decide (200 ≤ s.since d.at_) && (d.judged == 0 || (s.optime.toNat % 50 == 0 && s.optime != d.lastAt))

/-- The readback of an output at a judging point. Not judged: low while commanded on with FS1 MISSING, and the standby's PARTNER
output in an off-pulse of the active module (R297, R301, R306). -/
def doReadback (i : Nat) (high pulse : Bool) (s : State) : State :=
  let s := s.setBitOf Reg.FIO_DO_RB i high
  if !s.doJudged i || (s.doExpected i && !high && s.r Reg.FIO_STATUS_FS1_BAND == 3) ||
      (pulse && s.doPartner i && !s.active) || !s.doPoint i then s
  else
    let d := s.dout i
    let bad := high != s.doExpected i
    let s := s.modDo i fun d => { d with
      lastAt := s.optime
      judged := min 3 (d.judged + 1), bad := if d.judged < 3 ∧ bad then d.bad + 1 else d.bad
      good := if bad then 0 else min 16 (d.good + 1) }
    if d.judged = 2 ∧ (s.dout i).bad = 3 then doStuck i high s else doAgree i s

/-! ### Off-pulse tests (R298 to R300) -/

/-- A standard test sequence begins 1 ms after the end of every DO_TEST_EVERY-th safety test sequence (R298). -/
def standardSequence (s : State) : State :=
  let n := s.r Reg.FIO_TEST_CFG_DO_TEST_EVERY
  match s.saf.seqEnd with
  | some t =>
    if !s.controlReady || n == 0 || decide (s.saf.seqEnds < n) || decide (s.since t < 1000) || decide (2000 ≤ s.since t) then s
    else ((s.modSaf fun x => { x with seqEnds := 0 }).incWrap Reg.FIO_TEST_COUNT_SEQUENCES).modFio fun x => { x with
      seqAt := some s.optime, slot := 0, pulse := none }
  | none => s

/-- An output is pulsed in its slot, or skipped (R298, R303). -/
def doPulseStart (i : Nat) (s : State) : State :=
  match s.fio.seqAt with
  | none => s
  | some t =>
    let e := s.since t
    if s.fio.pulse.isSome ∨ 24 ≤ i ∨ i < s.fio.slot ∨ e < 1000 * i + 100 ∨ 1000 * i + 1000 ≤ e then s
    else
      let ok := s.doLevel i && s.rb (Reg.FIO_DO_CFG_TEST_EN i) && s.doKind i == 0 && !s.doOverloaded i &&
        s.r Reg.FIO_STATUS_FS1_BAND != 3 && !s.doSilent i
      let s := s.modFio fun x => { x with slot := i + 1 }
      if ok then s.modFio fun x => { x with
        pulse := some (i, s.optime)
        dout := (List.range 24).map fun j => { nth x.dout j {} with before := bitAt (s.r Reg.FIO_DO_RB) j && !s.doLevel j } }
      else s.inc Reg.FIO_TEST_COUNT_SKIPPED

/-- A fault of an output clears after 16 agreeing judgements from now on (R297, R300). -/
def doAfresh (i : Nat) (s : State) : State := s.modDo i fun d => { d with good := 0 }

/-- DO_CROSS on two outputs (R300). -/
def doCross (i j : Nat) (s : State) : State :=
  let s := doAfresh j (doAfresh i (doInfo j 3 (i + 1) (doInfo i 3 (j + 1) s)))
  (s.raise Evt.DO_CROSS [.code (i + 1), .code (j + 1)]).raise Evt.DO_CROSS [.code (j + 1), .code (i + 1)]

/-- The readback words of a pulse that are judged, of those taken every 10 µs from its start: from 40 µs after the start to its end
(R299). -/
def pulseWindow (us : Nat) (samples : List Nat) : List Nat := (samples.take (us / 10 + 1)).drop 4

/-- A pulse is judged on its readback words: the pulsed output's own low sample, then the outputs commanded off throughout that read
high before it and low on every word (R299 to R301). An output whose RB_EN is 0 has no judgement of its own (R297). -/
def doPulseJudge (i : Nat) (words : List Nat) (s : State) : State :=
  let s := if !s.rb (Reg.FIO_DO_CFG_RB_EN i) || words.any fun w => !bitAt w i then s
    else
      let p := if s.doPartner i && !bitAt s.mir.partnerDo i then 0x1D else 0x1E
      (doAfresh i (doInfo i 1 p (s.inc Reg.FIO_TEST_COUNT_FAILED))).raise Evt.DO_STUCK_HIGH [.code (i + 1), .code p]
  let wired := (List.range 24).filter fun j =>
    j != i && !s.doLevel j && (s.dout j).before && !words.isEmpty && words.all fun w => !bitAt w j
  wired.foldl (fun s j => doCross i j s) s

/-- A pulse ends after DO_PULSE_US: the command that stands is applied; one that turned the output off aborts the test (R299). -/
def doPulseEnd (samples : List Nat) (s : State) : State :=
  match s.fio.pulse with
  | none => s
  | some (i, t) =>
    if s.since t < s.r Reg.FIO_TEST_CFG_DO_PULSE_US then s
    else
      let s := s.modFio fun x => { x with pulse := none }
      if !s.doLevel i then (s.inc Reg.FIO_TEST_COUNT_ABORTED).raise Evt.DO_TEST_ABORTED [.code (i + 1)]
      else doPulseJudge i (pulseWindow (s.r Reg.FIO_TEST_CFG_DO_PULSE_US) samples) s

/-! ### Silence and power (R231, R302 to R304) -/

/-- The poles a field-side group carries read open in their lane (R231). -/
def polesOpen (g : Nat) (s : State) : State :=
  let clear := fun l lo hi (s : State) => s.modLane l fun x => { x with
    rb := maskOf 10 fun o => bitAt x.rb o && !(decide (lo ≤ o) && decide (o ≤ hi)) }
  if g = 13 then clear 0 0 7 s else if g = 14 then clear 0 8 9 s
  else if g = 15 then clear 1 0 7 s else if g = 16 then clear 1 8 9 s else s

/-- The lane that advances the alive count of group 9 to 16 (Table 10-1). -/
def groupLane (g : Nat) : Nat := if g = 9 ∨ g = 10 ∨ g = 13 ∨ g = 14 then 0 else 1

/-- OPTIME of the last new alive count of a group: where the supervisor stopped the counts, else now for the field I/O controller's
groups and a lane's last sample instant for its own (R302). -/
def State.aliveAt (s : State) (g : Nat) : Time :=
  match s.fio.stopAt with
  | some t => t
  | none => if g < 9 then s.optime else (s.lane (groupLane g)).aliveAt

/-- A group falls silent: its outputs stay as last applied, its poles read open (R231, R303). -/
def silence (g : Nat) (s : State) : State :=
  if 16 < g ∨ (nth s.fio.groups g {}).silentAt.isSome then s
  else
    let now := maskOf 24 fun i => s.doLevel i
    let s := s.modFio fun x => { x with
      frozen := maskOf 24 fun i => if doGroup i = g then bitAt now i else bitAt x.frozen i
      pulse := match x.pulse with
        | some (n, t) => if doGroup n = g then none else some (n, t)
        | none => none
      dout := (List.range 24).map fun i =>
        let d := nth x.dout i {}
        if doGroup i = g then { d with expired := false } else d }
    polesOpen g (s.modGroup g fun x => { x with silentAt := some s.optime })

/-- A group's field side has seen no new alive count for 2 ms (R302). -/
def groupSilent (g : Nat) (s : State) : State := if s.since (s.aliveAt g) < 2000 then s else silence g s

/-- The count of a silent group advances again: no supervisor stops it, and the lane that advances it has since come to an instant
(R302). -/
def State.aliveAgain (s : State) (g : Nat) (silentAt : Time) : Bool :=
  s.fio.stopAt.isNone && (decide (g < 9) || decide (s.since (s.lane (groupLane g)).aliveAt < s.since silentAt))

/-- The alive count returns: groups 6 to 8 apply the commands at once and report the silence (R303). -/
def aliveReturn (g : Nat) (s : State) : State :=
  match (nth s.fio.groups g {}).silentAt with
  | none => s
  | some t =>
    if s.channelLost g 8 || !s.aliveAgain g t then s
    else
      let s := s.modGroup g fun x => { x with silentAt := none }
      if g < 6 ∨ 8 < g then s
      else
        let ms := s.since t / 1000
        let s := (List.range 24).foldl (fun s i => if doGroup i = g then s.doRestart i else s) s
        ((s.inc Reg.FIO_HOLD_COUNT_HOLDS).peak Reg.FIO_HOLD_COUNT_LONGEST ms).raise Evt.FIO_HOLD_EXIT [.code g, .qty ms]

/-- A silent output's HOLD_TIME expires; 0 never does (R303). -/
def holdExpiry (i : Nat) (s : State) : State :=
  let h := s.r (Reg.FIO_DO_CFG_HOLD_TIME i)
  match (nth s.fio.groups (doGroup i) {}).silentAt with
  | some t => if h = 0 ∨ s.since t < h * 1000 then s else s.modDo i fun d => { d with expired := true }
  | none => s

/-- Field-side logic power fails: every standard output, pole and test-pulse output is de-energized (R304). -/
def fieldPowerFail (s : State) : State :=
  let s := s.modFio fun x => { x with power := false, pulse := none, frozen := 0 }
  [0, 1].foldl (fun s l => s.modLane l fun x => { x with rb := 0, tpRb := 0 }) s

/-! ### Coupler lanes (R307 to R310) -/

/-- The loupe's read of a lane, once a second: margin, and check-code errors since the last read (R307). A takeover that has failed
twice is not asked for again until its cause has gone (R308). -/
def couplerCheck (g k margin errors : Nat) (s : State) : State :=
  if 16 < g ∨ 9 < k then s
  else
    let s := loupeRan 7 s
    let s := if 86400000000 ≤ s.since s.fio.window then
        s.modFio fun x => { x with
          window := s.optime
          groups := x.groups.map fun y => { y with lanes := y.lanes.map fun z => { z with errors := 0 } } }
      else s
    let was := (s.cplLane g k).low
    let low := decide (margin < s.r Reg.FIO_CPL_PARAM_CPL_WARN)
    let s := s.modCpl g k fun z => { z with
      margin := min margin 255, min := Min.min z.min margin, errors := satN 8 (z.errors + errors), low := low }
    let z := s.cplLane g k
    let many := s.r Reg.FIO_CPL_PARAM_CPL_ERR != 0 && decide (s.r Reg.FIO_CPL_PARAM_CPL_ERR ≤ z.errors)
    let s := s.when_ (low && !was && (z.state == 0 || z.state == 6)) fun s => s.raise Evt.CPL_MARGIN [.code g, .code k]
    if !low && !many then s.modCpl g k fun z => { z with spent := false }
    else if z.state == 0 && !z.spent && (nth s.fio.groups g {}).wanted.isNone then
      s.modGroup g fun y => { y with wanted := some (k, if low then 0 else 1, none) }
    else s

/-- The spare is connected in parallel with the old lane for the comparison (R308). -/
def cplTakeover (g : Nat) (s : State) : State :=
  match (nth s.fio.groups g {}).wanted with
  | none => s
  | some (k, reason, t) =>
    let late := match t with
      | some t => decide (1000000 ≤ s.since t)
      | none => true
    if (s.cplLane g 9).state ≠ 4 ∨ !late then s
    else (s.modGroup g fun y => { y with taking := some (k, reason), wanted := none, repeated := t.isSome }).modCpl g 9 fun z => { z with
      state := 1 }

/-- The spare carries a lane's channel: the lane is fenced, and the group's only spare is in use (R308, R309, R371). -/
def cplSwitch (g k reason : Nat) (s : State) : State :=
  let s := (s.modCpl g k fun z => { z with state := 2 }).modCpl g 9 fun z => { z with state := 6 }
  let s := s.modGroup g fun y => { y with taking := none, wanted := none }
  let s := ((s.setBitOf Reg.FIO_CPL_SPARE g true).wb Reg.FIO_STATUS_CPL_SPARE_USED true).inc Reg.FIO_CPL_COUNT_TAKEOVERS
  (s.spareUsed.raise Evt.CPL_TAKEOVER [.code g, .code k, .code reason]).raise Evt.SPARES_LOW [.code 5]

/-- The comparison over 1,024 crossings ends: a switch, or the spare's test pattern (R308). -/
def cplCompareEnd (g : Nat) (equal pattern : Bool) (s : State) : State :=
  let y := nth s.fio.groups g {}
  match y.taking with
  | none => s
  | some (k, reason) =>
    if equal then cplSwitch g k reason s
    else if pattern then
      let s := if y.repeated then s.modCpl g k fun z => { z with spent := true } else s
      (s.modGroup g fun y => { y with
        taking := none, wanted := if y.repeated then none else some (k, reason, some s.optime) }).modCpl g 9 fun z => { z with state := 4 }
    else
      let s := (s.modGroup g fun y => { y with taking := none, wanted := none }).modCpl g 9 fun z => { z with state := 5 }
      (s.setBitOf Reg.FIO_CPL_SPARE g true).raise Evt.CPL_SPARE_FAIL [.code g]

/-- A lane's channel of an input reads OFF, a demand with its normal consequences (Table 10-5). -/
def demandOff (l i : Nat) (s : State) : State :=
  if s.siFast l i then fastOff l i s
  else if (s.lane l).started && s.siEn l i && bitAt (s.lane l).chan i then portNine (laneFunctions l (setChannel l i false s))
  else s

/-- SRST reads low in a lane (Table 10-5). -/
def srstLow (l : Nat) (s : State) : State :=
  s.modLane l fun x => { x with srcs := modAt x.srcs 1 (fun z => { z with level := false, riseAt := none }) {} }

/-- What the channel of a failed lane does until the spare takes over: a safety input reads OFF, a pole is opened by its field side,
SRST is low; current senses and test-pulse outputs keep what they had (Table 10-5). -/
def channelOff (g k : Nat) (s : State) : State :=
  if g = 9 ∨ g = 10 then demandOff 0 (8 * (g - 9) + k) s
  else if g = 11 ∨ g = 12 then demandOff 1 (8 * (g - 11) + k) s
  else if 13 ≤ g then
    let l := (g - 13) / 2
    let o := if g % 2 = 1 then k else 8 + k
    if g % 2 = 1 ∨ k < 2 then s.modLane l fun x => { x with rb := setBit x.rb o false }
    else if k = 6 then srstLow l s
    else s
  else s

/-- Four consecutive bad crossings fail a lane: the spare takes over without comparison, or the lane is lost (R309, R310). -/
def cplFail (g k : Nat) (s : State) : State :=
  let st := (s.cplLane g k).state
  if 16 < g ∨ 9 < k ∨ (st ≠ 0 ∧ st ≠ 6) then s
  else
    let ch := if k = 9 then ((List.range 9).find? fun j => (s.cplLane g j).state == 2).getD 9 else k
    let s := if ch < 8 then channelOff g ch s else s
    let spare := (s.cplLane g 9).state
    if k < 9 ∧ (spare = 4 ∨ spare = 1) then cplSwitch g k 2 (s.inc Reg.FIO_CPL_COUNT_FAILURES)
    else
      let s := s.modCpl g k fun z => { z with state := 3 }
      let s := (s.setBitOf Reg.FIO_CPL_LOST g true).wb Reg.FIO_STATUS_CPL_LOST true
      let s := if g < 6 ∧ ch < 8 then diSet (8 * g + ch) false s else s
      let s := if ch = 8 then silence g s else s
      s.raise Evt.CPL_LOST [.code g, .code k]

/-! ### Meanings -/

/-- STANDARD_INPUT_SAMPLE (R293, R305). -/
def execStandardInputSample (levels : Nat) (currents volts : List Nat) (s : State) : Res := (inputSample levels currents volts s).done
/-- DI_UNDEFINED (R294). -/
def execDiUndefined (input : Nat) (s : State) : Res := (diUndefined (input % 48) s).done
/-- DO_OVERLOAD (R296). -/
def execDoOverload (output : Nat) (s : State) : Res := (doOverload (output % 24) s).done
/-- DO_OVERLOAD_RETRY (R296). -/
def execDoOverloadRetry (output : Nat) (s : State) : Res := (doRetry (output % 24) s).done
/-- FIO_CMD_CLEAR_OVERLOAD (R296). -/
def execFioCmdClearOverload (output confirm : Nat) (s : State) : Res := (s.served (fioClear output confirm)).done
/-- DO_READBACK_CHECK (R297). -/
def execDoReadbackCheck (output : Nat) (high pulse : Bool) (s : State) : Res := (doReadback (output % 24) high pulse s).done
/-- STANDARD_TEST_SEQUENCE (R298). -/
def execStandardTestSequence (s : State) : Res := (standardSequence s).done
/-- DO_PULSE_START (R299). -/
def execDoPulseStart (output : Nat) (s : State) : Res := (doPulseStart (output % 24) s).done
/-- DO_PULSE_END (R299). -/
def execDoPulseEnd (samples : List Nat) (s : State) : Res := (doPulseEnd samples s).done
/-- GROUP_SILENT (R302). -/
def execGroupSilent (group : Nat) (s : State) : Res := (groupSilent group s).done
/-- ALIVE_COUNT_RETURN (R303). -/
def execAliveCountReturn (group : Nat) (s : State) : Res := (aliveReturn group s).done
/-- DO_HOLD_EXPIRY (R303). -/
def execDoHoldExpiry (output : Nat) (s : State) : Res := (holdExpiry (output % 24) s).done
/-- FIELD_POWER_FAIL (R304). -/
def execFieldPowerFail (s : State) : Res := (fieldPowerFail s).done
/-- FS_BAND (R305). -/
def execFsBand (supply : Nat) (s : State) : Res := (fsTake (supply % 3) s).done
/-- COUPLER_CHECK (R307). -/
def execCouplerCheck (group lane margin errors : Nat) (s : State) : Res := (couplerCheck group lane margin errors s).done
/-- CPL_ORDERLY_TAKEOVER (R308). -/
def execCplOrderlyTakeover (group : Nat) (s : State) : Res := (cplTakeover (group % 17) s).done
/-- CPL_COMPARISON_END (R308). -/
def execCplComparisonEnd (group : Nat) (equal pattern : Bool) (s : State) : Res := (cplCompareEnd (group % 17) equal pattern s).done
/-- CPL_LANE_FAIL (R309). -/
def execCplLaneFail (group lane : Nat) (s : State) : Res := noted (cplFail group lane) s

end Sys2Proof.Machine
end

