-- ==== Sys2Proof/Machine/Net.lean ====
section
/-! DEFINITION. The shaft networks (file 11): frames, switches and their queues, the dual-path and duplicate rules, NEIGHBOUR
frames, requests, network reset, management frames as received, addresses and PTP. Ports are numbered 0 A1, 1 A2, 2 B1,
3 B2. -/

namespace Sys2Proof.Machine

/-- The networks changed. -/
def State.modNet (s : State) (f : NetState → NetState) : State := { s with net := f s.net }

/-! ### Frames (R315 to R318) -/

/-- NEIGHBOUR of Table 11-2. -/
abbrev Kind.neighbour : Nat := 1
/-- STATUS. -/
abbrev Kind.status : Nat := 2
/-- EVENT. -/
abbrev Kind.event : Nat := 3
/-- REQUEST. -/
abbrev Kind.request : Nat := 4
/-- REPLY. -/
abbrev Kind.reply : Nat := 5
/-- RESET. -/
abbrev Kind.reset : Nat := 6
/-- SNAPSHOT. -/
abbrev Kind.snapshot : Nat := 7
/-- MGMT_REQ. -/
abbrev Kind.mgmtReq : Nat := 8
/-- MGMT_REPLY. -/
abbrev Kind.mgmtReply : Nat := 9
/-- ENUMERATE. -/
abbrev Kind.enumerate : Nat := 10
/-- ADJ. -/
abbrev Kind.adj : Nat := 11

/-- The EtherType of PTP (Table 11-5). -/
def ptpType : Nat := 0x88F7

/-- The EtherType of an Ethernet frame. -/
def etherType (f : List Byte) : Nat := beNat (slice f 12 2)

/-- A frame with the FCS of its bytes (R320). -/
def withFcs (b : List Byte) : List Byte := b ++ leBytes 4 (crc32 b)

/-- The FCS of a frame of at least 64 B is good. -/
def fcsOk (f : List Byte) : Bool :=
  decide (64 ≤ f.length) && crc32 (f.take (f.length - 4)) == leNat (f.drop (f.length - 4))

/-- A Rhaquadan frame (Table 11-1). -/
structure Rh where
  /-- HOPS -/
  hops : Nat
  /-- VERSION -/
  version : Nat
  /-- KIND -/
  kind : Nat
  /-- SRC -/
  src : Nat
  /-- SIDE -/
  side : Nat
  /-- ACTIVE -/
  active : Bool
  /-- ORIGIN -/
  origin : Nat
  /-- FIRST -/
  first : Bool
  /-- DST -/
  dst : Nat
  /-- DST_SEL [1:0] -/
  sel : Nat
  /-- SEQ -/
  seq : Nat
  /-- payload -/
  payload : List Byte
  /-- bytes 2 to 19 + LEN, in which two identical copies agree (R317) -/
  body : List Byte
  /-- the CRC matches -/
  crcOk : Bool
  deriving DecidableEq, Repr

/-- Length of the Ethernet header. -/
def ethHead : Nat := 14

/-- The Rhaquadan frame an Ethernet frame carries (R316, R317). -/
def parseRh (f : List Byte) : Rh :=
  let b := fun i => leAt f (ethHead + i) 1
  let len := leAt f (ethHead + 12) 2
  { hops := b 0, version := b 2, kind := b 3, src := b 4, side := b 5 % 2, active := bitAt (b 5) 1, origin := b 5 / 4 % 4,
    first := bitAt (b 5) 4, dst := b 6, sel := b 7 % 4, seq := leAt f (ethHead + 8) 4, payload := slice f (ethHead + 16) len,
    body := slice f (ethHead + 2) (18 + len),
    crcOk := decide (ethHead + 20 + len + 4 ≤ f.length) &&
      crc32c (slice f (ethHead + 2) (14 + len)) == leAt f (ethHead + 16 + len) 4 }

/-- The six octets of the module's MAC address for a network (NET_MAC_A, NET_MAC_B). -/
def State.macBytes (s : State) (net : Nat) : List Byte :=
  if net = 0 then beBytes 2 (s.r Reg.NET_MAC_A_HI % 65536) ++ beBytes 4 (s.r Reg.NET_MAC_A_LO)
  else beBytes 2 (s.r Reg.NET_MAC_B_HI % 65536) ++ beBytes 4 (s.r Reg.NET_MAC_B_LO)

/-- What a frame to send says beside its payload. -/
structure FrameHead where
  /-- HOPS -/
  hops : Nat
  /-- KIND -/
  kind : Nat
  /-- SRC -/
  src : Nat
  /-- SRC_INFO -/
  info : Nat
  /-- DST -/
  dst : Nat
  /-- DST_SEL -/
  sel : Nat
  /-- SEQ -/
  seq : Nat

/-- The destination address of every Rhaquadan frame (R315). -/
def rhDest : List Byte := beBytes 6 0x034B43524800

/-- An Ethernet frame with a Rhaquadan header, payload and CRC, padded to 64 B, FCS included (R315, R316). -/
def buildFrame (s : State) (net : Nat) (h : FrameHead) (payload : List Byte) : List Byte :=
  let core := leBytes 1 1 ++ leBytes 1 h.kind ++ leBytes 1 h.src ++ leBytes 1 h.info ++ leBytes 1 h.dst ++ leBytes 1 h.sel ++
    leBytes 4 h.seq ++ leBytes 2 payload.length ++ leBytes 2 0 ++ payload
  let b := rhDest ++ s.macBytes net ++ beBytes 2 (s.r Reg.NET_MAP_CFG_ETHERTYPE) ++
    leBytes 1 h.hops ++ leBytes 1 net ++ core ++ leBytes 4 (crc32c core)
  withFcs (b ++ List.replicate (60 - b.length) 0)

/-! ### Ports and queues (R320, R321) -/

/-- FCS_ERR of a port. -/
def fcsErrField (p : Nat) : Field :=
  nth [Reg.NET_PORT_A1_FCS_ERR, Reg.NET_PORT_A2_FCS_ERR, Reg.NET_PORT_B1_FCS_ERR] p Reg.NET_PORT_B2_FCS_ERR

/-- DROPPED of a port. -/
def droppedField (p : Nat) : Field :=
  nth [Reg.NET_PORT_A1_DROPPED, Reg.NET_PORT_A2_DROPPED, Reg.NET_PORT_B1_DROPPED] p Reg.NET_PORT_B2_DROPPED

/-- The link of a port is up. -/
def State.linkUp (s : State) (p : Nat) : Bool := bitAt (s.r Reg.NET_STATUS_LINK) p

/-- A port. -/
def State.port (s : State) (p : Nat) : PortSt := nth s.net.ports p {}

/-- A port changed. -/
def State.modPort (s : State) (p : Nat) (f : PortSt → PortSt) : State := s.modNet fun n => { n with ports := modAt n.ports p f {} }

/-- The other port of a switch. -/
def otherPort (p : Nat) : Nat := if p % 2 = 0 then p + 1 else p - 1

/-- The priority class of a KIND (R321). -/
def kindClass (k : Nat) : Nat :=
  if k = 1 ∨ k = 6 ∨ k = 11 then 1 else if k = 8 ∨ k = 9 then 3 else 2

/-- The size of a class's queue (R321). -/
def classCap (c : Nat) : Nat := nth [8, 16, 64, 16] c 0

/-- A frame enters a port's queue, or is dropped and counted (R321). -/
def enqueue (p cls : Nat) (f : NetFrame) (s : State) : State :=
  let q := nth (s.port p).queues cls []
  if q.length < classCap cls then s.modPort p fun x => { x with queues := setAt x.queues cls (q ++ [f]) [] }
  else s.inc (droppedField p)

/-! Peer-delay messages (R336; their layout is that of IEEE 1588, log entry 22). -/

/-- The clock identity of a network's port: its MAC address as an EUI-64. -/
def State.clockIdentity (s : State) (net : Nat) : List Byte := let m := s.macBytes net; m.take 3 ++ beBytes 2 0xFFFE ++ m.drop 3

/-- A 10-byte PTP timestamp of a network's clock now. -/
def State.ptpStamp (s : State) (net : Nat) : List Byte :=
  let t := (nth s.net.clocks net {}).half / 2
  beBytes 6 (t / 1000000000) ++ beBytes 4 (t % 1000000000)

/-- A peer-delay message of a port: type, flags, sequence, log interval, and the two 10-byte fields of its body. -/
def State.pdelayFrame (s : State) (p kind flags seq interval : Nat) (body : List Byte) : List Byte :=
  withFcs (beBytes 6 0x0180C200000E ++ s.macBytes (p / 2) ++ beBytes 2 ptpType ++
    beBytes 1 kind ++ beBytes 1 0x12 ++ beBytes 2 54 ++ beBytes 1 (s.r Reg.NET_MISC_CFG_PTP_DOMAIN) ++ beBytes 1 0 ++ beBytes 2 flags ++
    beBytes 8 0 ++ beBytes 4 0 ++ s.clockIdentity (p / 2) ++ beBytes 2 (p % 2 + 1) ++ beBytes 2 seq ++ beBytes 1 5 ++
    beBytes 1 interval ++ body)

/-- The Follow_Up of a Pdelay_Resp, with the time at which that left. -/
def State.pdelayFollowUp (s : State) (p : Nat) (who : List Byte) (seq : Nat) : List Byte :=
  s.pdelayFrame p 10 0 seq 0x7F (s.ptpStamp (p / 2) ++ who)

/-- A port sends the oldest frame of its first class that holds one (R321); a Pdelay_Resp is followed by its Follow_Up (R336). -/
def transmit (p : Nat) (s : State) : State :=
  let qs := (s.port p).queues
  match [0, 1, 2, 3].find? fun c => nth qs c [] != [] with
  | none => s
  | some c =>
    if !s.linkUp p then s
    else match nth qs c [] with
      | [] => s
      | f :: rest =>
        let s' := s.modPort p fun x => { x with queues := setAt x.queues c rest [], sent := some f }
        match f with
        | .pdelayResp _ who seq => enqueue p 0 (.raw (s.pdelayFollowUp p who seq)) s'
        | .raw _ => s'


/-- The next SEQ and the FIRST flag of a KIND (R319). -/
def State.nextSeq (s : State) (kind : Nat) : Nat × Bool := (nth s.net.seq kind 0, decide (nth s.net.firsts kind 0 < 16))

/-- A frame of a KIND counted (R319). -/
def State.countSeq (s : State) (kind : Nat) : State :=
  s.modNet fun n => { n with
    seq := modAt n.seq kind (fun v => (v + 1) % 2 ^ 32) 0, firsts := modAt n.firsts kind (fun v => min 16 (v + 1)) 0 }

/-- SRC_INFO of a module's own frame (Table 11-1). -/
def State.srcInfo (s : State) (first : Bool) : Nat :=
  s.r Reg.NET_ADDR_SIDE + 2 * b2n s.active + 16 * b2n first

/-- A frame of the module's own is sent on both networks, by the given ports (R317). -/
def sendFrame (kind hops dst sel : Nat) (payload : List Byte) (ports : List Nat) (s : State) : State :=
  if s.rb Reg.NET_STATUS_TRANSPARENT then s
  else
    let x := s.nextSeq kind
    let h : FrameHead := ⟨hops, kind, s.r Reg.NET_ADDR_ADDRESS, s.srcInfo x.2, dst, sel, x.1⟩
    (ports.foldl (fun s p => enqueue p (kindClass kind) (.raw (buildFrame s (p / 2) h payload)) s) s).countSeq kind

/-- Ports toward the head: A1 and B1. -/
def headPorts : List Nat := [0, 2]

/-! ### Listening (R341) -/

/-- The committed address differs from OWN_ADDR in a phase in which it counts (R341). -/
def State.addrMismatch (s : State) : Bool :=
  let a := s.r Reg.NET_ADDR_ADDRESS
  let own := s.r Reg.NET_MAP_CFG_OWN_ADDR
  s.controlReady && a != 0 && own != 0 && a != own

/-- Whether the module is Listening (R341). -/
def State.mustListen (s : State) : Bool :=
  !s.controlReady || s.r Reg.NET_ADDR_ADDRESS == 0 || s.addrMismatch || s.net.split || s.net.duplicate

/-- LISTENING follows its conditions (R341). -/
def listenUpdate (s : State) : State :=
  let bad := s.addrMismatch
  let s := if bad && !s.net.imageMismatch then
      s.raise Evt.ADDR_IMAGE_MISMATCH [.code (s.r Reg.NET_ADDR_ADDRESS), .code (s.r Reg.NET_MAP_CFG_OWN_ADDR)]
    else s
  let s := s.modNet fun n => { n with imageMismatch := bad }
  let new := s.mustListen
  if s.rb Reg.IMG_MODULE_STATE_LISTENING = new then s
  else (s.wb Reg.IMG_MODULE_STATE_LISTENING new).raise Evt.NET_LISTENING [.code (b2n new)]

/-- NET_STATUS.ADDR_STATE. -/
def State.addrState (s : State) : Nat :=
  if s.net.duplicate then 5
  else if s.net.split then 2
  else if s.r Reg.NET_ADDR_ADDRESS = 0 then s.net.noAddr
  else if s.net.imageMismatch then 6
  else 1

/-! ### What the partner is told (Table 12-1, NEIGHBOURS) -/

/-- The words of one port's adjacency data. -/
def adjWords (a : Adj) : List Nat :=
  [a.addr + 256 * a.side + 512 * b2n a.committed + 1024 * b2n a.present + 2048 * b2n a.listening + 4096 * b2n a.paired, a.serial]

/-- The adjacency data of two words. -/
def adjOf (w serial : Nat) : Adj :=
  { addr := w % 256, side := b2n (bitAt w 8), committed := bitAt w 9, present := bitAt w 10, listening := bitAt w 11,
    paired := bitAt w 12, serial := serial }

/-- Adjacency and address data go to the partner at each change (R338, R339, Table 12-1). -/
def tellPartner (s : State) : State :=
  if s.paired then
    s.sendLink (.neighbours (s.net.adj.flatMap adjWords ++ [s.r Reg.NET_ADDR_ADDRESS, s.r Reg.NET_ADDR_ENUM_ID]))
  else s

/-! ### Adjacency (R338) -/

/-- The module's own serial number. -/
def State.serial (s : State) : Nat := s.r Reg.SEC_SERIAL_LO + 2 ^ 32 * s.r Reg.SEC_SERIAL_HI

/-- The adjacent module is the module's own mirror partner: by its serial where the partner has told it, else by the same
address and the other side (R338). -/
def State.isPartner (s : State) (a : Adj) : Bool :=
  a.present && s.paired && (match s.mir.partner with
    | some h => a.serial == h.serial
    | none => a.addr != 0 && a.addr == s.r Reg.NET_ADDR_ADDRESS && a.side != s.r Reg.NET_ADDR_SIDE)

/-- The neighbour of a network, upstream (0) or downstream (1): the partner's where the adjacent module is the partner. -/
def State.neighbourOn (s : State) (net down : Nat) : Adj :=
  let a := nth s.net.adj (2 * net + down) {}
  if s.isPartner a then nth s.net.partnerAdj (2 * net + down) {} else a

/-- CHAIN_ORDER: upstream neighbours on A and B that differ in serial (R338). -/
def chainCheck (s : State) : State :=
  let a := s.neighbourOn 0 0
  let b := s.neighbourOn 1 0
  let bad := a.present && b.present && a.serial != b.serial
  let s' := s.wb Reg.NET_STATUS_CHAIN_ORDER bad
  if bad && !s.rb Reg.NET_STATUS_CHAIN_ORDER then s'.raise Evt.CHAIN_ORDER [.code 0] else s'

/-- The adjacency data of a port replaced; the partner is told of a change (R338, Table 12-1). -/
def setAdj (p : Nat) (a : Adj) (s : State) : State :=
  let old := nth s.net.adj p {}
  let s' := s.modNet fun n => { n with adj := setAt n.adj p a {} }
  chainCheck (if adjWords old = adjWords a then s' else tellPartner s')

/-- An ADJ frame on a port (R338). -/
def adjFrame (p : Nat) (h : Rh) (s : State) : State :=
  let fl := leAt h.payload 9 1
  setAdj p { present := true, addr := leAt h.payload 8 1, side := h.side, committed := bitAt fl 0, listening := bitAt fl 1,
             paired := bitAt fl 2, serial := leAt h.payload 0 8, at_ := s.optime } s

/-- 300 ms without an ADJ frame make the adjacent module absent (R338). -/
def adjAbsent (p : Nat) (s : State) : State :=
  let a := nth s.net.adj p {}
  if a.present && decide (300000 < s.since a.at_) then setAdj p { a with present := false } s else s

/-- The ADJ payload a module sends from port 1 (0) or port 2 (1) (R338). -/
def State.adjPayload (s : State) (port : Nat) : List Byte :=
  let fl := ofBits [s.r Reg.NET_ADDR_ADDRESS != 0, s.rb Reg.IMG_MODULE_STATE_LISTENING, s.paired]
  leBytes 8 s.serial ++ leBytes 1 (s.r Reg.NET_ADDR_ADDRESS) ++ leBytes 1 fl ++ leBytes 1 (port + 1) ++ leBytes 1 0

/-- Every 100 ms an ADJ frame leaves each port (R338). -/
def adjSend (s : State) : State :=
  let due := match s.net.adjSent with
    | some t => decide (100000 ≤ s.since t)
    | none => true
  if !due || s.rb Reg.NET_STATUS_TRANSPARENT then s
  else
    let s := s.modNet fun n => { n with adjSent := some s.optime }
    chainCheck (sendFrame Kind.adj 1 255 3 (s.adjPayload 1) [1, 3] (sendFrame Kind.adj 1 255 3 (s.adjPayload 0) headPorts s))

/-! ### Addresses (R339, R340) -/

/-- An address is committed with the enumeration that assigned it (R340). -/
def commitAddr (a id : Nat) (s : State) : State :=
  let s := ((s.w Reg.NET_ADDR_ADDRESS a).w Reg.NET_ADDR_ENUM_ID id).raise Evt.ADDR_ASSIGNED [.code a, .ident id]
  listenUpdate (tellPartner ({ s with mem := { s.mem with lost := s.mem.lost.filter (· != SysRecord.address) } }.modNet fun n => { n with noAddr := 0 }))

/-- The gap rule for a COUNTER, and the downstream address for its report (R340). -/
def State.gapRule (s : State) (counter : Nat) : Bool × Nat :=
  let a := s.neighbourOn 0 1
  let b := s.neighbourOn 1 1
  let same := if a.present && b.present then a.serial == b.serial else !a.present && !b.present
  (same && (!a.present || a.addr == 0 || decide (counter + 1 < a.addr)), if a.present then a.addr else b.addr)

/-- The regenerated ENUMERATE frame leaves port 2 of each network that has a counter to send: ORIGIN 1, FIRST clear, a SEQ of the
module's own (R339). -/
def sendEnum (id : Nat) (counters : List (Option Nat)) (s : State) : State :=
  let seq := (s.nextSeq Kind.enumerate).1
  let one := fun (s : State) (x : Nat × Option Nat) => match x.2 with
    | none => s
    | some c =>
      let h : FrameHead := ⟨255, Kind.enumerate, 0, 4, 255, 3, seq⟩
      enqueue (2 * x.1 + 1) 2 (.raw (buildFrame s x.1 h (leBytes 2 id ++ leBytes 1 c ++ leBytes 1 0))) s
  (([0, 1].zip counters).foldl one s).countSeq Kind.enumerate

/-- The partner has taken or holds an address for an ENUM_ID (R339). -/
def State.partnerTook (s : State) (id : Nat) : Option Nat :=
  let said := s.net.partnerAddr
  let hello := match s.mir.partner with
    | some h => (h.addr, h.enumId)
    | none => (0, 0)
  if !s.paired then none
  else if said.1 ≠ 0 ∧ said.2 = id then some said.1
  else if hello.1 ≠ 0 ∧ hello.2 = id then some hello.1
  else none

/-- The decision on a COUNTER that arrived on both networks: rules 2 to 5 of R339. -/
def enumDecide (id c : Nat) (s : State) : State :=
  let own := s.r Reg.NET_ADDR_ADDRESS
  let both := fun v => [some v, some v]
  let s := listenUpdate (s.modNet fun n => { n with split := false })
  if own ≠ 0 then
    sendEnum id (both (max own c)) (if own ≤ c then s.raise Evt.ADDR_ORDER [.code own, .code c] else s)
  else
    match s.partnerTook id with
    | some a => sendEnum id (both a) (commitAddr a id s)
    | none =>
      if c = 254 then sendEnum id (both 254) ((s.modNet fun n => { n with noAddr := 4 }).raise Evt.ADDR_FULL [.code 0])
      else
        let g := s.gapRule c
        if g.1 then sendEnum id (both (c + 1)) (commitAddr (c + 1) id s)
        else sendEnum id (both c) ((s.modNet fun n => { n with noAddr := 3 }).raise Evt.ADDR_NO_GAP [.code c, .code g.2])

/-- ADDR_SPLIT: each network is sent the counter that arrived on it (R339 rule 1). -/
def enumSplit (id : Nat) (cs : List (Option Nat)) (s : State) : State :=
  let show_ := fun i => (nth cs i none).getD 0xFF
  let s := (s.modNet fun n => { n with split := true }).raise Evt.ADDR_SPLIT [.code (show_ 0), .code (show_ 1)]
  sendEnum id cs (listenUpdate s)

/-- After both copies or 10 ms the module decides (R339). -/
def enumDecision (s : State) : State :=
  match s.net.enum with
  | none => s
  | some w =>
    let s' := s.modNet fun n => { n with enum := none, enumDone := some w.id }
    match nth w.counters 0 none, nth w.counters 1 none with
    | some a, some b => if a = b then enumDecide w.id a s' else enumSplit w.id w.counters s'
    | _, _ => if 10000 ≤ s.since w.at_ then enumSplit w.id w.counters s' else s

/-- An ENUMERATE frame on a port (R339). -/
def enumFrame (p : Nat) (h : Rh) (s : State) : State :=
  let id := leAt h.payload 0 2
  let c := leAt h.payload 2 1
  if h.origin ≠ 1 ∨ p % 2 ≠ 0 ∨ s.net.enumDone = some id then s
  else
    match s.net.enum with
    | none => s.modNet fun n => { n with enum := some ⟨id, setAt [none, none] (p / 2) (some c) none, s.optime⟩ }
    | some w =>
      if w.id ≠ id ∨ (nth w.counters (p / 2) none).isSome then s
      else s.modNet fun n => { n with enum := some { w with counters := setAt w.counters (p / 2) (some c) none } }

/-- A write of NET_ADDR_CMD (R340): CLEAR under the seal and with the car idle or out of service, else CMD_REFUSED. -/
def addrCmd (cmd confirm : Nat) (s : State) : State :=
  let st := s.r Reg.TRIP_STATUS_STATE
  if cmd = 1 ∧ confirm = 0x51D7 ∧ s.sealOpen ∧ (st = 0 ∨ st = 5) then
    listenUpdate (tellPartner ((s.w Reg.NET_ADDR_ADDRESS 0).w Reg.NET_ADDR_ENUM_ID 0))
  else s.wb Reg.NET_STATUS_CMD_REFUSED true

/-! ### The dual-path rule (R323, R324) -/

/-- SEQ s is newer than l (R319). -/
def seqNewer (s l : Nat) : Bool :=
  let d := (s + 2 ^ 32 - l % 2 ^ 32) % 2 ^ 32
  decide (1 ≤ d) && decide (d ≤ 2 ^ 31)

/-- A frame is newer than the last one, or restarts the tracking (R319). -/
def Rh.newer (h : Rh) (last : Option Nat) : Bool :=
  match last with
  | none => true
  | some l => (h.first && h.seq != l) || seqNewer h.seq l

/-- A named neighbour's number, if an address is one. -/
def State.nbrOf (s : State) (a : Nat) : Option Nat := [0, 1].find? fun i => a != 0 && s.nbrAddr i == a

/-- A producer is tracked: each side of NBR_UP and NBR_DOWN, and the group controller. -/
def State.tracked (s : State) (h : Rh) : Bool := h.origin == 1 || (h.origin == 0 && (s.nbrOf h.src).isSome)

/-- The path state of a producer and kind. -/
def State.pathSt (s : State) (h : Rh) : PathSt :=
  match s.net.paths.find? fun x => x.origin == h.origin && x.src == h.src && x.side == h.side && x.kind == h.kind with
  | some x => x
  | none => { origin := h.origin, src := h.src, side := h.side, kind := h.kind }

/-- Whether two path states are of the same producer and kind. -/
def PathSt.same (x y : PathSt) : Bool := x.origin == y.origin && x.src == y.src && x.side == y.side && x.kind == y.kind

/-- A path state stored. -/
def setPathSt (x : PathSt) (s : State) : State :=
  s.modNet fun n => { n with
    paths := if n.paths.any x.same then n.paths.map (fun y => if x.same y then x else y) else n.paths ++ [x] }

/-- The arguments producer, side and kind of an event. -/
def PathSt.args (x : PathSt) : List Arg := [.code x.src, .code x.side, .code x.kind]

/-- The reset line is driven (R333). -/
def resetLine (on : Bool) (s : State) : State := s.wb Reg.NET_RESET_LINE on

/-- RESET_ABANDONED with a reason. -/
def resetAbandoned (id reason : Nat) (s : State) : State :=
  (s.inc Reg.NET_RESET_ABANDONED).raise Evt.RESET_ABANDONED [.ident id, .code reason]

/-- A press is abandoned; the line stays high until 5 s after its first PRESS (R333). -/
def abandon (reason : Nat) (s : State) : State :=
  match s.net.press with
  | none => s
  | some x =>
    if x.abandoned then s
    else resetAbandoned x.id reason ((s.modNet fun n => { n with press := some { x with abandoned := true } }).wb
      Reg.NET_RESET_ABANDONING true)

/-- The safe reaction of a path state that has become EXPIRED or MISMATCH (R324, R328). -/
def pathReact (x : PathSt) (s : State) : State :=
  if x.kind = Kind.reset then abandon 4 s
  else match (if x.origin = 0 then s.nbrOf x.src else none) with
    | some i => nbrReport i (if x.path = 5 then 2 else 1) s
    | none => s

/-- DUAL_MISMATCH is raised and counted. -/
def dualMismatch (x : PathSt) (s : State) : State := (s.inc Reg.NET_PATH_COUNT_MISMATCH).raise Evt.DUAL_MISMATCH x.args

/-- The other copy contradicts the first: MISMATCH (R323). -/
def pathMismatch (x : PathSt) (s : State) : State :=
  let y := { x with pending := false, path := 5, run := 0 }
  let s := dualMismatch y (setPathSt y s)
  if x.path = 5 then s else pathReact y s

/-- An identical pair: dual(st) (R323). -/
def pathDual (x : PathSt) (s : State) : State :=
  let y := { x with pending := false, run := x.run + 1 }
  if y.path = 0 ∨ y.path = 2 ∨ y.path = 3 then setPathSt { y with path := 1 } s
  else if (y.path = 4 ∨ y.path = 5) ∧ 16 ≤ y.run then (setPathSt { y with path := 1 } s).raise Evt.DUAL_RESTORED x.args
  else setPathSt y s

/-- The other copy never came: single(st, n) (R323). -/
def pathSingle (x : PathSt) (s : State) : State :=
  let y := { x with pending := false, run := 0 }
  if x.path = 0 ∨ x.path = 1 then
    let s := (setPathSt { y with path := 2 + x.net % 2, since := s.optime } s).inc Reg.NET_PATH_COUNT_SINGLE
    s.raise Evt.SINGLE_PATH [.code x.src, .code x.side, .code x.net]
  else setPathSt y s

/-- Deadlines that have passed without the other copy (R323). -/
def pathDeadlines (s : State) : State :=
  (s.net.paths.filter fun x => x.pending && decide (s.since x.deadline < 2 ^ 47)).foldl (fun s x => pathSingle x s) s

/-- A single path held for SINGLE_PATH_MS expires (R324). -/
def pathExpire (x : PathSt) (s : State) : State :=
  let y := { x with path := 4 }
  pathReact y (((setPathSt y s).inc Reg.NET_PATH_COUNT_EXPIRED).raise Evt.SINGLE_PATH_EXPIRED x.args)

/-- Single paths that have lasted SINGLE_PATH_MS (R324). -/
def pathExpiries (s : State) : State :=
  (s.net.paths.filter fun x =>
    (x.path == 2 || x.path == 3) && decide (s.r Reg.NET_PATH_CFG_SINGLE_PATH_MS * 1000 ≤ s.since x.since)).foldl
    (fun s x => pathExpire x s) s

/-- A discarded stale or repeated copy is counted. -/
def staleCopy (s : State) : State := s.inc Reg.NET_FOREIGN_STALE

/-- A copy of a class S frame of a tracked producer (R323); true if it is used. -/
def dualCopy (p : Nat) (h : Rh) (s : State) : State × Bool :=
  let x := s.pathSt h
  let net := p / 2
  if x.pending ∧ x.last = some h.seq ∧ net ≠ x.net then
    (if h.body = x.bytes then pathDual x s else pathMismatch x s, false)
  else if h.newer x.last then
    let y := { x with last := some h.seq, bytes := h.body, net := net, pending := true,
                      deadline := s.optime + BitVec.ofNat 48 (s.r Reg.NET_PATH_CFG_SKEW_US) }
    (setPathSt y s, decide (x.path < 4))
  else (staleCopy s, false)

/-! ### The duplicate rule (R325) -/

/-- What names a producer and kind for the duplicate rule; ADJ frames are judged for each port (R338). -/
def Rh.key (h : Rh) (p : Nat) : Nat × Nat × Nat × Nat × Nat :=
  (h.origin, h.src, h.side, h.kind, if h.kind = Kind.adj then p else 0)

/-- The port on which a management request's other copy arrived is noted (R335). -/
def notePort (p : Nat) (h : Rh) (s : State) : State :=
  s.modNet fun n => { n with bufMgmt := n.bufMgmt.map fun x =>
    if x.origin = h.origin ∧ x.src = h.src ∧ x.seq = h.seq then { x with ports := setAt x.ports (p / 2) (some (p % 2)) none }
    else x }

/-- A copy of a class N frame (R325); true if it is used. -/
def dupCopy (p : Nat) (h : Rh) (s : State) : State × Bool :=
  let k := h.key p
  let put := fun (s : State) => s.modNet fun n => { n with dups := ⟨k, h.seq, h.body⟩ :: n.dups.filter fun x => x.key != k }
  match s.net.dups.find? fun x => x.key == k with
  | none => (put s, true)
  | some x =>
    if h.newer (some x.last) then (put s, true)
    else if x.last = h.seq ∧ x.bytes = h.body then (if h.kind = Kind.mgmtReq then notePort p h (staleCopy s) else staleCopy s, false)
    else if x.last = h.seq then
      (dualMismatch { origin := h.origin, src := h.src, side := h.side, kind := h.kind } (staleCopy s), false)
    else (staleCopy s, false)

/-! ### PTP (R336, R337) -/

/-- The module's PTP time, ns. -/
def State.ptpNow (s : State) : Nat := s.net.half / 2

/-- PTP_A or PTP_B. -/
def ptpField (n : Nat) : Field := if n = 0 then Reg.NET_STATUS_PTP_A else Reg.NET_STATUS_PTP_B

/-- A network's ordinary clock is locked. -/
def State.lockedOn (s : State) (n : Nat) : Bool := s.r (ptpField n) == 2

/-- The module's PTP time is locked. -/
def State.ptpLocked (s : State) : Bool := s.lockedOn 0 || s.lockedOn 1

/-- A network's ordinary clock. -/
def State.clock (s : State) (n : Nat) : NetClock := nth s.net.clocks n {}

/-- A network's ordinary clock changed. -/
def State.modClock (s : State) (n : Nat) (f : NetClock → NetClock) : State :=
  s.modNet fun x => { x with clocks := modAt x.clocks n f {} }

/-- A CLOCK_STEP event and its record (R385): the step in ms, rounded toward zero. -/
def clockStep (new old cause : Nat) (s : State) : State :=
  let ms : Int := if cause = 1 then 0 else divZ ((new : Int) - (old : Int)) 1000000
  { s with raised := s.raised ++ [{ evt := Evt.CLOCK_STEP, arg := packArgs [.signed ms],
                                    how := .clockStep new (if cause = 1 then 0 else old) cause }] }

/-- The wall clock follows the module's PTP time (R384, R385). -/
def wallFollow (stepped : Bool) (s : State) : State :=
  let old := s.wall.ns
  let src := s.wall.source
  let s' := { s with wall := { source := 1, ns := s.ptpNow } }
  if src = 0 then clockStep s.ptpNow 0 1 s'
  else if src = 2 then clockStep s.ptpNow old 3 s'
  else if stepped then clockStep s.ptpNow old 2 s'
  else s'

/-- The module's PTP time is corrected to a time: a step above 100 µs, else slewing; the wall clock follows (R337, R384). -/
def discipline (goal : Nat) (s : State) : State :=
  let off : Int := (s.ptpNow : Int) - (goal : Int)
  if 100000 < mag off then
    let s := (s.modNet fun n => { n with half := 2 * goal, slew := 0 }).raise Evt.PTP_STEP [.signed (divZ (-off) 1000)]
    wallFollow true s
  else wallFollow false (s.modNet fun n => { n with slew := -2 * off })

/-- The source of the module's PTP time: network A while it is locked, else B while it is (R337). -/
def ptpSource (s : State) : State :=
  let new := if s.lockedOn 0 then 0 else if s.lockedOn 1 then 1 else s.r Reg.NET_STATUS_PTP_SOURCE
  if s.r Reg.NET_STATUS_PTP_SOURCE = new then s
  else (s.w Reg.NET_STATUS_PTP_SOURCE new).raise Evt.PTP_SOURCE [.code new]

/-- A network's clock locks or unlocks (R337). -/
def setLock (n st : Nat) (s : State) : State :=
  let was := s.lockedOn n
  let s := s.w (ptpField n) st
  if st = 2 ∧ !was then s.raise Evt.PTP_LOCKED [.code n]
  else if st ≠ 2 ∧ was then s.raise Evt.PTP_UNLOCKED [.code n]
  else s

/-- Once neither network is locked the module's PTP time runs at the rate of the local timebase, and the wall clock with it (R337,
R384). -/
def wallUnlock (s : State) : State :=
  let s := if s.ptpLocked then s else s.modNet fun n => { n with slew := 0 }
  if s.wall.source = 1 ∧ !s.ptpLocked then { s with wall := { s.wall with source := 3 } } else s

/-- PTP_DIVERGE while both clocks are locked and differ by more than 1 µs (R337). -/
def ptpDiverge (s : State) : State :=
  let d : Int := ((s.clock 0).half / 2 : Nat) - ((s.clock 1).half / 2 : Nat)
  let bad := s.lockedOn 0 && s.lockedOn 1 && decide (1000 < mag d)
  let s' := s.modNet fun n => { n with diverged := bad }
  if bad && !s.net.diverged then s'.raise Evt.PTP_DIVERGE [.signed d] else s'

/-- A network's own clock at a Sync: its offset, its lock, its correction (R337). -/
def clockSync (n grand : Nat) (s : State) : State :=
  let c := s.clock n
  let off : Int := ((c.half / 2 : Nat) : Int) - (grand : Int)
  let run := if mag off ≤ 200 then c.run + 1 else 0
  let lock := if s.lockedOn n then decide (mag off ≤ 1000) else decide (8 ≤ run)
  let s := s.modClock n fun c =>
    if 100000 < mag off then { c with half := 2 * grand, slew := 0, run := run, lastSync := s.optime }
    else { c with slew := -2 * off, run := run, lastSync := s.optime }
  setLock n (if lock then 2 else 1) (s.wi (if n = 0 then Reg.NET_PTP_OFFSET_A else Reg.NET_PTP_OFFSET_B) off)

/-- A Sync comes from the grandmaster that the best master clock algorithm has chosen on a network (Table 11-5). -/
def State.fromMaster (s : State) (n gm : Nat) : Bool := (s.clock n).best.any fun a => a.identity == gm

/-- A Sync and its Follow_Up from a clock (R336, R337): the grandmaster's time as the ordinary clock forms it, ns. -/
def ptpSync (n domain : Nat) (twoStep : Bool) (interval : Int) (grand gm : Nat) (s : State) : State :=
  if !s.controlReady || !s.fromMaster n gm || domain != s.r Reg.NET_MISC_CFG_PTP_DOMAIN || !twoStep || decide (interval < -7) || decide (0 < interval)
  then s
  else
    let was := s.r Reg.NET_STATUS_PTP_SOURCE
    let s := ptpSource (clockSync n grand s)
    let src := s.r Reg.NET_STATUS_PTP_SOURCE
    let s := if !s.ptpLocked then s
      else if src = n then discipline grand s
      else if src ≠ was then discipline ((s.clock src).half / 2) s
      else s
    ptpDiverge (wallUnlock s)

/-- 3 s without a Sync unlock a network's clock (R337); its grandmaster is then chosen anew (log 64). -/
def ptpTimeout (n : Nat) (s : State) : State :=
  if s.r (ptpField n) = 0 ∨ s.since (s.clock n).lastSync < 3000000 then s
  else
    let was := s.r Reg.NET_STATUS_PTP_SOURCE
    let s := ptpSource (setLock n 0 (s.modClock n fun c => { c with run := 0, best := none }))
    let src := s.r Reg.NET_STATUS_PTP_SOURCE
    let s := if s.ptpLocked && src != was then discipline ((s.clock src).half / 2) s else s
    ptpDiverge (wallUnlock s)

/-- One µs of the module's PTP time and of the two clocks: the local rate, slewed by 500 ppm or not at all (R337, log entry
21). -/
def ptpTick (slewing : Bool) (s : State) : State :=
  let d := fun (slew : Int) => if slewing then sgn slew else 0
  let s := s.modNet fun n => { n with
    half := ((n.half : Int) + 2000 + d n.slew).toNat, slew := n.slew - d n.slew,
    clocks := n.clocks.map fun c => { c with half := ((c.half : Int) + 2000 + d c.slew).toNat, slew := c.slew - d c.slew } }
  { s with wall := { s.wall with ns :=
    if s.wall.source = 0 then 0 else if s.wall.source = 2 then s.wall.ns + 1000 else s.ptpNow } }

/-- Whether a grandmaster's data set is better than another's (Table 11-5). -/
def rankBefore : List Nat → List Nat → Bool
  | x :: xs, y :: ys => if x < y then true else if y < x then false else rankBefore xs ys
  | _, _ => false

/-- The data set of an Announce message (IEEE 1588, log entry 22). -/
def parseAnnounce (f : List Byte) : Announce :=
  let be := fun o n => beNat (slice f (ethHead + o) n)
  { rank := [be 47 1, be 48 1, be 49 1, be 50 2, be 52 1, be 53 8], identity := be 53 8, steps := be 61 2 }

/-- The best master clock algorithm takes an Announce (Table 11-5). -/
def bestMaster (new : Announce) (old : Option Announce) : Announce :=
  match old with
  | none => new
  | some o => if o.identity = new.identity then new else if rankBefore new.rank o.rank then new else o

/-- An Announce is forwarded and read for the grandmaster choice (R336). -/
def announce (p : Nat) (f : List Byte) (s : State) : State :=
  let s := enqueue (otherPort p) 0 (.raw f) s
  if s.controlReady ∧ leAt f (ethHead + 4) 1 = s.r Reg.NET_MISC_CFG_PTP_DOMAIN then
    s.modClock (p / 2) fun c => { c with best := some (bestMaster (parseAnnounce f) c.best) }
  else s

/-- A received Pdelay_Req is answered with a Pdelay_Resp that carries the time of its reception; the Follow_Up leaves after it
(R336). -/
def pdelayReq (p : Nat) (f : List Byte) (s : State) : State :=
  let who := slice f (ethHead + 20) 10
  let seq := beNat (slice f (ethHead + 30) 2)
  if s.controlReady ∧ s.linkUp p then
    enqueue p 0 (.pdelayResp (s.pdelayFrame p 3 0x0200 seq 0x7F (s.ptpStamp (p / 2) ++ who)) who seq) s
  else s

/-- Once per second each port sends a Pdelay_Req (R336). -/
def pdelaySend (p : Nat) (s : State) : State :=
  let x := s.port p
  let due := match x.pdelayAt with
    | some t => decide (1000000 ≤ s.since t)
    | none => true
  if !due || !s.controlReady then s
  else enqueue p 0 (.raw (s.pdelayFrame p 2 0 x.pdelaySeq 0 (List.replicate 20 0))) (s.modPort p fun x => { x with
    pdelaySeq := (x.pdelaySeq + 1) % 65536, pdelayWait := true, pdelayAt := some s.optime })

/-- The answer to the port's own Pdelay_Req gives its peer delay (R336). -/
def pdelayResp (p seq delay : Nat) (s : State) : State :=
  let x := s.port p
  if !x.pdelayWait || (seq + 1) % 65536 != x.pdelaySeq then s
  else
    let f := nth [Reg.NET_PTP_PDELAY_A_PORT1, Reg.NET_PTP_PDELAY_A_PORT2, Reg.NET_PTP_PDELAY_B_PORT1] p
      Reg.NET_PTP_PDELAY_B_PORT2
    (s.modPort p fun x => { x with pdelayWait := false }).w f (satN 16 delay)

/-- The peer delay of a port. -/
def State.peerDelay (s : State) (p : Nat) : Nat :=
  s.r (nth [Reg.NET_PTP_PDELAY_A_PORT1, Reg.NET_PTP_PDELAY_A_PORT2, Reg.NET_PTP_PDELAY_B_PORT1] p Reg.NET_PTP_PDELAY_B_PORT2)

/-- A Follow_Up with the residence time of its Sync and the peer delay of the ingress link added to its correctionField, in ns of
2^16 units (R336, log entry 22). -/
def followUp (ns : Nat) (f : List Byte) : List Byte :=
  let b := f.take (f.length - 4)
  let o := ethHead + 8
  withFcs (b.take o ++ beBytes 8 ((beNat (slice b o 8) + ns * 65536) % 2 ^ 64) ++ b.drop (o + 8))

/-- A PTP frame at a port (R336): peer-delay messages end here, Announce is read, Follow_Up is corrected, the rest forwarded. -/
def ptpFrame (p residence : Nat) (f : List Byte) (s : State) : State :=
  let kind := leAt f ethHead 1 % 16
  if !s.controlReady then enqueue (otherPort p) 0 (.raw f) s
  else if kind = 2 then pdelayReq p f s
  else if kind = 3 ∨ kind = 10 then s
  else if kind = 11 then announce p f s
  else if kind = 8 then enqueue (otherPort p) 0 (.raw (followUp (residence + s.peerDelay p) f)) s
  else enqueue (otherPort p) 0 (.raw f) s

/-! ### NEIGHBOUR frames (R327) -/

/-- Frames that wait in buffer 5: accepted NEIGHBOUR frames whose decrement port 5 has not delivered (R322). -/
def State.nbrWaiting (s : State) : Nat := (nth s.dsp.ports 5 []).length + (nth s.dsp.held 5 []).length

/-- A delivered frame met a full buffer (R322). -/
def rxOverflow (p port : Nat) (s : State) : State := (s.inc (droppedField p)).raise Evt.NET_RX_OVERFLOW [.code port]

/-- The age of a NEIGHBOUR frame, ns: the receiver's PTP time minus SAMPLE_TIME. -/
def State.nbrAgeNs (s : State) (h : Rh) : Int := (s.ptpNow : Int) - (leAt h.payload 12 8 : Int)

/-- Both PTP locks hold and the frame is older than NBR_AGE_US (R327). -/
def State.nbrStale (s : State) (h : Rh) : Bool :=
  bitAt (leAt h.payload 25 1) 0 && s.ptpLocked &&
    decide (((s.r Reg.NET_NBR_CFG_NBR_AGE_US * 1000 : Nat) : Int) < s.nbrAgeNs h)

/-- An accepted NEIGHBOUR frame enters the separation comparator, the lanes and, if a counter is bound to it, buffer 5 and port 5
(R322, R327). -/
def nbrAccept (p i : Nat) (h : Rh) (s : State) : State :=
  let age := (max 0 (s.nbrAgeNs h)).toNat / 1000
  let s := s.modNet fun n => { n with nbrSide := setAt n.nbrSide i h.side 0, nbrAge := setAt n.nbrAge i (satN 16 age) 0 }
  let s := sepFrame i (leAtI h.payload 0 4) (leAtI h.payload 4 4) (leAt h.payload 24 1 % 4) (leAt h.payload 12 8) s
  let s := portNine (laneFunctions 1 (laneFunctions 0 s))
  match portCounter s.dsp 5 0 with
  | none => s
  | some _ => if 4 ≤ s.nbrWaiting then rxOverflow p 5 s else s.post 5 0

/-- A NEIGHBOUR frame that its path rule lets be used (R327). -/
def nbrFrame (p : Nat) (h : Rh) (s : State) : State :=
  match s.nbrOf h.src with
  | none => s
  | some i =>
    if !h.active || !s.controlReady then s
    else if s.nbrStale h then
      (s.inc Reg.NET_NBR_COUNT_STALE).raise Evt.NBR_STALE_FRAME [.code h.src, .qty ((s.nbrAgeNs h).toNat / 1000)]
    else nbrAccept p i h s

/-! ### Snapshots as received (R343) -/

/-- SNAP_REFUSED with a TAG and a reason. -/
def snapRefused (tag reason : Nat) (s : State) : State :=
  (s.inc Reg.NET_SNAP_COUNT_REFUSED).raise Evt.SNAP_REFUSED [.ident tag, .code reason]

/-- A snapshot is armed. -/
def snapArm (tag : Nat) (overwrite : Bool) (instant : Nat) (s : State) : State :=
  let s := ((s.wb Reg.NET_SNAP_STATUS_ARMED true).w Reg.NET_SNAP_ARMED_TAG tag).wb Reg.NET_SNAP_ARMED_OVERWRITE overwrite
  (s.w Reg.NET_SNAP_AT_LO (instant % 2 ^ 32)).w Reg.NET_SNAP_AT_HI (instant / 2 ^ 32)

/-- A SNAPSHOT frame (R343). -/
def snapFrame (h : Rh) (s : State) : State :=
  let tag := leAt h.payload 0 2
  let instant := leAt h.payload 4 8
  let armed := s.rb Reg.NET_SNAP_STATUS_ARMED
  let ahead : Int := (instant : Int) - (s.ptpNow : Int)
  if h.origin ≠ 1 ∨ h.dst ≠ 255 then s
  else if s.net.capture.any (fun c => c.tag == tag) then s
  else if armed ∧ s.r Reg.NET_SNAP_ARMED_TAG = tag ∨ s.net.captured ∧ s.r Reg.NET_SNAP_STATUS_LAST_TAG = tag then s
  else if ahead < 100000 then snapRefused tag 1 s
  else if 60000000000 < ahead then snapRefused tag 2 s
  else snapArm tag (bitAt (leAt h.payload 2 1) 0) instant (if armed then snapRefused (s.r Reg.NET_SNAP_ARMED_TAG) 3 s else s)

/-! ### Delivery (R320, R322) -/

/-- A RESET frame enters buffer 2. -/
def bufReset (p : Nat) (h : Rh) (s : State) : State :=
  if 4 ≤ s.net.bufReset.length then rxOverflow p 2 s
  else
    let x : ResetFrame := ⟨h.origin, h.dst, leAt h.payload 0 2, leAt h.payload 2 1⟩
    (s.modNet fun n => { n with bufReset := n.bufReset ++ [x] }).post 2 0

/-- A REQUEST frame enters buffer 4. -/
def bufRequest (p : Nat) (h : Rh) (s : State) : State :=
  if 16 ≤ s.net.bufReq.length then rxOverflow p 4 s
  else
    let x : Request := ⟨leAt h.payload 0 2, leAt h.payload 3 1 + 256 * leAt h.payload 4 1 + 65536 * leAt h.payload 2 1⟩
    ((s.modNet fun n => { n with bufReq := n.bufReq ++ [x] }).inc Reg.NET_REQ_COUNT_REQUESTS).post 4 0

/-- A MGMT_REQ frame enters buffer 3 if this module is to execute it (R334). -/
def bufMgmt (p : Nat) (h : Rh) (s : State) : State :=
  if h.dst = 255 ∧ leAt h.payload 4 8 ≠ s.serial then s
  else if 8 ≤ s.net.bufMgmt.length then rxOverflow p 3 s
  else
    let n := min 32 (leAt h.payload 2 1)
    let x : MgmtReq :=
      { origin := h.origin, src := h.src, seq := h.seq, tag := leAt h.payload 0 2,
        accesses := (List.range n).map fun i => (leAt h.payload (12 + 8 * i) 4, leAt h.payload (16 + 8 * i) 4),
        ports := setAt [none, none] (p / 2) (some (p % 2)) none }
    (s.modNet fun n => { n with bufMgmt := n.bufMgmt ++ [x] }).post 3 0

/-- A frame that is used goes where its KIND is delivered (Table 11-2). -/
def useFrame (p : Nat) (h : Rh) (s : State) : State :=
  if h.kind = Kind.neighbour then nbrFrame p h s
  else if h.kind = Kind.reset then bufReset p h s
  else if h.kind = Kind.request then bufRequest p h s
  else if h.kind = Kind.mgmtReq then bufMgmt p h s
  else if h.kind = Kind.snapshot then snapFrame h s
  else if h.kind = Kind.adj then adjFrame p h s
  else s

/-- A delivered frame is judged by the rule of its class and used; ENUMERATE frames are taken from both networks (R323 to R325,
R339). -/
def deliver (p : Nat) (h : Rh) (s : State) : State :=
  if h.kind = Kind.enumerate then enumFrame p h s
  else
    let x := if (h.kind = Kind.neighbour ∨ h.kind = Kind.reset) ∧ s.tracked h then dualCopy p h s else dupCopy p h s
    if x.2 then useFrame p h x.1 else x.1

/-- DST_SEL names this module (R320). -/
def State.selNames (s : State) (sel : Nat) : Bool :=
  if sel = 0 then s.active else sel == 3 || sel == 1 + s.r Reg.NET_ADDR_SIDE

/-- A frame is addressed to this module by its address (R320). -/
def State.isDst (s : State) (h : Rh) : Bool := h.dst != 0 && h.dst != 255 && h.dst == s.r Reg.NET_ADDR_ADDRESS

/-- A frame is delivered to the internal port (R320). -/
def State.delivers (s : State) (h : Rh) : Bool := h.dst == 255 || (s.isDst h && s.selNames h.sel)

/-- A frame is consumed: its DST_SEL names this module's side alone (R320). -/
def State.consumes (s : State) (h : Rh) : Bool := s.isDst h && h.sel == 1 + s.r Reg.NET_ADDR_SIDE

/-- A forwarded STATUS frame of the own address and side with another serial (R342). -/
def dupCheck (h : Rh) (s : State) : State :=
  let a := s.r Reg.NET_ADDR_ADDRESS
  if h.kind = Kind.status ∧ a ≠ 0 ∧ h.src = a ∧ h.side = s.r Reg.NET_ADDR_SIDE ∧ leAt h.payload 24 4 ≠ s.r Reg.SEC_SERIAL_LO ∧
      !s.net.duplicate then
    listenUpdate ((s.modNet fun n => { n with duplicate := true }).raise Evt.ADDR_DUPLICATE [.code a, .code h.side])
  else s

/-- A frame with other HOPS, its FCS redone. -/
def withHops (hops : Nat) (f : List Byte) : List Byte :=
  withFcs (f.take ethHead ++ leBytes 1 hops ++ (f.take (f.length - 4)).drop (ethHead + 1))

/-- The switch forwards a frame with HOPS reduced by one (R320). -/
def forward (p : Nat) (h : Rh) (f : List Byte) (s : State) : State :=
  if 2 ≤ h.hops ∧ !s.consumes h ∧ h.kind ≠ Kind.enumerate then
    dupCheck h (enqueue (otherPort p) (kindClass h.kind) (.raw (withHops (h.hops - 1) f)) s)
  else s

/-- The class in which a transparent switch sends a frame. -/
def frameClass (f : List Byte) : Nat :=
  if etherType f = ptpType then 0 else if etherType f = 0x88B5 then kindClass (parseRh f).kind else 3

/-- A valid KIND (Table 11-2). -/
def kindValid (k : Nat) : Bool := decide (1 ≤ k) && decide (k ≤ 11)

/-- A frame received at a port (R314, R315, R317, R320); residence is, for a PTP Follow_Up, the residence time of its Sync in
ns. -/
def frameReceived (p residence : Nat) (f : List Byte) (s : State) : State :=
  if 4 ≤ p ∨ !s.linkUp p then s
  else if !fcsOk f then s.inc (fcsErrField p)
  else if s.rb Reg.NET_STATUS_TRANSPARENT then enqueue (otherPort p) (frameClass f) (.raw f) s
  else if etherType f = ptpType ∧ f.length ≤ 512 then ptpFrame p residence f s
  else if 512 < f.length ∨ etherType f ≠ s.r Reg.NET_MAP_CFG_ETHERTYPE ∨ slice f 0 6 ≠ rhDest then s.inc Reg.NET_FOREIGN_FOREIGN
  else
    let h := parseRh f
    if !h.crcOk || h.version != 1 || !kindValid h.kind then s.inc Reg.NET_PATH_COUNT_CRC_ERR
    else if h.origin = 1 ∧ p % 2 = 1 then (s.wb Reg.NET_STATUS_PORT_REVERSED true).raise Evt.PORT_REVERSED [.code (p / 2)]
    else
      let s' := forward p h f s
      if s.delivers h then deliver p h s' else s'

/-- A frame of a KIND that the switch passes to the internal port, taken by itself. -/
def kindFrame (kind p : Nat) (f : List Byte) (s : State) : State :=
  let h := parseRh f
  if p < 4 ∧ h.crcOk ∧ h.version = 1 ∧ h.kind = kind ∧ s.delivers h ∧ !s.rb Reg.NET_STATUS_TRANSPARENT ∧
      !(h.origin == 1 && p % 2 == 1) then deliver p h s
  else s

/-! ### Requests (R332) -/

/-- OP of a request's payload. -/
def Request.op (x : Request) : Nat := x.payload / 65536 % 256

/-- The car stop concerned by a request. -/
def Request.stop (x : Request) : Nat := if bitAt x.payload 8 then x.payload % 256 - 1 else x.payload % 256

/-- A REPLY frame (R332). -/
def sendReply (x : Request) (code : Nat) (s : State) : State :=
  sendFrame Kind.reply 255 0 0 (leBytes 2 x.id ++ leBytes 1 x.op ++ leBytes 1 code ++ leBytes 1 x.stop ++
    leBytes 1 s.trip.stops.length ++ leBytes 2 0) headPorts s

/-- An answered request is recorded, the last 64 being kept (R332). -/
def recordAnswer (x : Answer) (s : State) : State := s.modNet fun n => { n with answers := (x :: n.answers).take 64 }

/-- A request is taken from buffer 4: answered again from the record, or passed to the stop-list graph (R332). -/
def takeRequest (s : State) : State :=
  match s.net.bufReq with
  | [] => s
  | x :: rest =>
    let s := s.modNet fun n => { n with bufReq := rest }
    if !s.active then s
    else
      match s.net.answers.find? fun a => a.id == x.id && a.payload == x.payload with
      | some a => sendReply x a.code (s.inc Reg.NET_REQ_COUNT_REPEATS)
      | none => if x.op = 1 ∨ x.op = 2 then s.modNet fun n => { n with graphReq := n.graphReq ++ [x] } else s

/-- The stop-list graph's answer to a request: its change applied, recorded, entered in the journal and replied (R170, R332,
R354). -/
def answer (op req landing : Nat) (upper : Bool) (doors profile : Nat) (f : State → State × Nat) (s : State) : State :=
  let made : Request := ⟨req % 65536, payloadOf op landing upper doors profile⟩
  let mine := fun (x : Request) => x.id == req % 65536 && x.op == op && x.payload % 256 == landing % 256 &&
    bitAt x.payload 8 == upper && (op == 2 || x.payload / 256 % 16 == made.payload / 256 % 16)
  let x := (s.net.graphReq.find? mine).getD made
  let old := s.trip.stops
  let s := s.modNet fun n => { n with graphReq := n.graphReq.erase x }
  let y := f s
  sendReply x y.2 (noteStops old x.id x.payload y.2 (recordAnswer ⟨x.id, x.payload, y.2⟩ y.1))

/-- A cancel; while the module is Listening every request is answered OUT_OF_SERVICE (R175, R332). -/
def cancelAnswer (landing : Nat) (upper : Bool) (s : State) : State × Nat :=
  if s.rb Reg.IMG_MODULE_STATE_LISTENING then (s, 0x13) else cancelRequest landing upper s

/-! ### Network reset (R333) -/

/-- The condition for a RESET frame to be accepted (R333). -/
def State.resetAccepts (s : State) (x : ResetFrame) : Bool :=
  x.origin == 1 && x.dst != 255 && x.dst == s.r Reg.NET_ADDR_ADDRESS && s.rb Reg.NET_MAP_CFG_RESET_EN

/-- An accepted PRESS (R333). -/
def press (id : Nat) (s : State) : State :=
  match s.net.press with
  | none =>
    if s.net.pressDone = some id then s
    else resetLine true ((s.modNet fun n => { n with press := some ⟨id, s.optime, s.optime, false⟩ }).w Reg.NET_RESET_RESET_ID id)
  | some x =>
    if x.abandoned then s
    else if x.id = id then s.modNet fun n => { n with press := some { x with last := s.optime } }
    else abandon 3 s

/-- An accepted RELEASE (R333). -/
def release (id : Nat) (s : State) : State :=
  match s.net.press with
  | none => s
  | some x =>
    if x.abandoned ∨ x.id ≠ id then s
    else resetLine false (s.modNet fun n => { n with press := none, pressDone := some id })

/-- The oldest RESET frame of buffer 2 is taken if it is a PRESS (or of no known STATE), or a RELEASE (R333). -/
def takeReset (releases : Bool) (s : State) : State :=
  match s.net.bufReset with
  | [] => s
  | x :: rest =>
    if (x.state == 2) != releases then s
    else
      let s := s.modNet fun n => { n with bufReset := rest }
      if !s.resetAccepts x then resetAbandoned x.id 1 s
      else if x.state = 1 then press x.id s
      else if x.state = 2 then release x.id s
      else resetAbandoned x.id 1 s

/-- 30 ms without a PRESS or RELEASE of its RESET_ID abandon a press (R333). -/
def pressTimeout (s : State) : State :=
  match s.net.press with
  | none => s
  | some x => if !x.abandoned && decide (30000 ≤ s.since x.last) then abandon 2 s else s

/-- An abandoned press lets the line go low 5 s after its first PRESS (R333). -/
def abandonEnd (s : State) : State :=
  match s.net.press with
  | none => s
  | some x =>
    if x.abandoned && decide (5000000 ≤ s.since x.first) then
      resetLine false ((s.modNet fun n => { n with press := none, pressDone := some x.id }).wb Reg.NET_RESET_ABANDONING false)
    else s

/-! ### Snapshot banks (R344, R345) -/

/-- State of a bank: 0 EMPTY, 1 FULL, 2 READING, 3 READ. -/
def State.bank (s : State) (b : Nat) : Nat := s.r Reg.NET_SNAP_STATUS_BANKS / 4 ^ b % 4

/-- The paths' apertures changed. -/
def State.modAps (s : State) (f : Aperture → Aperture) : State :=
  { s with pathHost := { s.pathHost with ap := f s.pathHost.ap }, pathMgmt := { s.pathMgmt with ap := f s.pathMgmt.ap } }

/-- A bank takes a state; out of READING, no path is the one that reads it. -/
def setBank (b v : Nat) (s : State) : State :=
  let s := if v = 2 then s else s.modAps fun a => if a.sel = b + 3 then { a with reading := false } else a
  s.w Reg.NET_SNAP_STATUS_BANKS (s.r Reg.NET_SNAP_STATUS_BANKS - 4 ^ b * s.bank b + 4 ^ b * v)

/-- The capture set is copied into the next bank, or the snapshot is refused (R344, R345). -/
def bankCopy (s : State) : State :=
  match s.net.capture with
  | none => s
  | some c =>
    let s := s.modNet fun n => { n with capture := none, captured := true }
    let s := s.w Reg.NET_SNAP_STATUS_LAST_TAG c.tag
    let b := s.r Reg.NET_SNAP_STATUS_NEXT
    if (s.bank b = 1 ∨ s.bank b = 2) ∧ !c.overwrite then snapRefused c.tag 4 s
    else
      let s := s.modAps fun a => if a.sel = b + 3 then { a with fresh := false } else a
      let s := (setBank b 1 (s.modNet fun n => { n with banks := setAt n.banks b c {} })).w Reg.NET_SNAP_STATUS_NEXT ((b + 1) % 4)
      let s := (s.inc Reg.NET_SNAP_COUNT_TAKEN).when_ c.unlocked fun s => s.inc Reg.NET_SNAP_COUNT_UNLOCKED
      s.raise Evt.SNAP_TAKEN [.ident c.tag, .code b]

/-- The named banks become READ (R345). -/
def snapRelease (v : Nat) (s : State) : State :=
  [0, 1, 2, 3].foldl (fun s b => if bitAt v b then setBank b 3 s else s) s

/-! ### Links (R312, R313) -/

/-- The PHYs of a network are ready and its bypass relay opens (R313). -/
def phyReady (n : Nat) (s : State) : State := s.modNet fun x => { x with bypass := setAt x.bypass n false true }

/-- A port's link comes up (R312): not while the bypass relay joins its pairs. -/
def linkUp (p : Nat) (s : State) : State :=
  if 4 ≤ p ∨ s.linkUp p ∨ nth s.net.bypass (p / 2) true then s
  else (s.w Reg.NET_STATUS_LINK (setBit (s.r Reg.NET_STATUS_LINK) p true)).raise Evt.LINK_UP [.code (p / 2), .code (p % 2 + 1)]

/-- A port's link goes down (R312). -/
def linkDown (p : Nat) (s : State) : State :=
  if 4 ≤ p ∨ !s.linkUp p then s
  else (s.w Reg.NET_STATUS_LINK (setBit (s.r Reg.NET_STATUS_LINK) p false)).raise Evt.LINK_DOWN [.code (p / 2), .code (p % 2 + 1)]

/-- The input supply is lost: the relays join the pairs of both networks, and every link is down (R313). -/
def bypassClose (s : State) : State :=
  (List.range 4).foldl (fun s p => linkDown p s) (s.modNet fun x => { x with bypass := [true, true] })

/-! ### Meanings -/

/-- LINK_UP (R312). -/
def execLinkUp (port : Nat) (s : State) : Res := (linkUp (port % 4) s).done
/-- LINK_DOWN (R312). -/
def execLinkDown (port : Nat) (s : State) : Res := (linkDown (port % 4) s).done
/-- FRAME_RECEIVED (R320). -/
def execFrameReceived (port : Nat) (frame : List Byte) (residence : Nat) (s : State) : Res :=
  (noteStops s.trip.stops 0 0 0 (frameReceived (port % 4) residence frame s)).done
/-- FRAME_TRANSMIT (R321). -/
def execFrameTransmit (port : Nat) (s : State) : Res := (transmit (port % 4) s).done
/-- DUAL_PATH_DEADLINE (R323). -/
def execDualPathDeadline (s : State) : Res := (pathDeadlines s).done
/-- SINGLE_PATH_EXPIRED (R324). -/
def execSinglePathExpired (s : State) : Res := (noteStops s.trip.stops 0 0 0 (pathExpiries s)).done
/-- NEIGHBOUR_FRAME (R323, R327). -/
def execNeighbourFrame (port : Nat) (frame : List Byte) (s : State) : Res :=
  (noteStops s.trip.stops 0 0 0 (kindFrame Kind.neighbour (port % 4) frame s)).done
/-- REQUEST_FRAME (R332); in Parked the request waits for the exit (R407). -/
def execRequestFrame (s : State) : Res := (s.awake takeRequest).done
/-- ASSIGN (R170, R172, R332): answered by the active module, whose graphs stand still in Parked (R406). -/
def execAssign (req landing : Nat) (upper : Bool) (doors profile : Nat) (s : State) : Res :=
  if s.active then
    (s.awake (answer 1 req landing upper doors profile (assign (req % 65536) (landing % 256) upper (doors % 4) (profile % 2)))).done
  else s.done
/-- CANCEL_REQUEST (R175, R332): answered by the active module, whose graphs stand still in Parked (R406). -/
def execCancelRequest (req landing : Nat) (upper : Bool) (s : State) : Res :=
  if s.active then (s.awake (answer 2 req landing upper 0 0 (cancelAnswer (landing % 256) upper))).done else s.done
/-- RESET_PRESS (R333). -/
def execResetPress (s : State) : Res := (takeReset false s).done
/-- RESET_RELEASE (R333). -/
def execResetRelease (s : State) : Res := (takeReset true s).done
/-- RESET_PRESS_TIMEOUT (R333). -/
def execResetPressTimeout (s : State) : Res := (pressTimeout s).done
/-- RESET_ABANDON_END (R333). -/
def execResetAbandonEnd (s : State) : Res := (abandonEnd s).done
/-- SNAPSHOT_FRAME (R343). -/
def execSnapshotFrame (port : Nat) (frame : List Byte) (s : State) : Res := (kindFrame Kind.snapshot (port % 4) frame s).done
/-- SNAPSHOT_BANK_COPY (R344). -/
def execSnapshotBankCopy (s : State) : Res := (bankCopy s).done
/-- NET_SNAP_RELEASE (R345). -/
def execNetSnapRelease (banks : Nat) (s : State) : Res := (s.served (snapRelease banks)).done
/-- MGMT_REQ_FRAME (R334). -/
def execMgmtReqFrame (port : Nat) (frame : List Byte) (s : State) : Res := (kindFrame Kind.mgmtReq (port % 4) frame s).done
/-- ENUMERATE_FRAME (R339). -/
def execEnumerateFrame (port : Nat) (frame : List Byte) (s : State) : Res := (kindFrame Kind.enumerate (port % 4) frame s).done
/-- ENUMERATE_DECISION (R339). -/
def execEnumerateDecision (s : State) : Res := (enumDecision s).done
/-- NET_ADDR_CMD_CLEAR (R340). -/
def execNetAddrCmdClear (cmd confirm : Nat) (s : State) : Res := (s.served (addrCmd cmd confirm)).done
/-- ADJ_SEND (R338). -/
def execAdjSend (s : State) : Res := (adjSend s).done
/-- ADJ_FRAME (R338). -/
def execAdjFrame (port : Nat) (frame : List Byte) (s : State) : Res := (kindFrame Kind.adj (port % 4) frame s).done
/-- ADJ_ABSENT (R338). -/
def execAdjAbsent (port : Nat) (s : State) : Res := (adjAbsent (port % 4) s).done
/-- PTP_SYNC (R337). -/
def execPtpSync (netB : Bool) (domain : Nat) (twoStep : Bool) (interval : Int) (grand gm : Nat) (s : State) : Res :=
  (ptpSync (b2n netB) domain twoStep interval grand gm s).done
/-- PTP_SYNC_TIMEOUT (R337). -/
def execPtpSyncTimeout (netB : Bool) (s : State) : Res := (ptpTimeout (b2n netB) s).done
/-- PDELAY_REQ_SEND (R336). -/
def execPdelayReqSend (port : Nat) (s : State) : Res := (pdelaySend (port % 4) s).done
/-- PDELAY_REQ (R336). -/
def execPdelayReq (port : Nat) (frame : List Byte) (s : State) : Res := (pdelayReq (port % 4) frame s).done
/-- PDELAY_RESP (R336). -/
def execPdelayResp (port seq delay : Nat) (s : State) : Res := (pdelayResp (port % 4) seq delay s).done
/-- ANNOUNCE (R336). -/
def execAnnounce (port : Nat) (frame : List Byte) (s : State) : Res := (announce (port % 4) frame s).done
/-- PHY_READY (R313). -/
def execPhyReady (netB : Bool) (s : State) : Res := (phyReady (b2n netB) s).done

end Sys2Proof.Machine
end

