-- ==== Sys2Proof/Machine/Mir.lean ====
section
/-! DEFINITION. The mirror pair (file 12): role lines, the link and its messages, shadowing, takeover, handover, exchange and
update of a module. -/

namespace Sys2Proof.Machine

/-! ### Role lines and requests (R348 to R350) -/

/-- The own side. -/
def State.side (s : State) : Nat := s.r Reg.NET_ADDR_SIDE

/-- Both lanes take the requests and the reset line from the source that the role lines select (R350). -/
def lanesTake (s : State) : State := requestChange 1 s.mir.bus (requestChange 0 s.mir.bus s)

/-- Both modules enter Parked (R405, R406). -/
def enterPark (s : State) : State :=
  if s.rb Reg.PWR_STATUS_PARKED then s
  else
    let s := { s with pwr := { s.pwr with exit := none, parkDue := false } }
    lanesTake (((s.wb Reg.PWR_STATUS_PARKED true).modSaf fun x => { x with req := 0 }).raise Evt.PARKED [.code 1, .code 0])

/-- The module leaves Parked for an exit cause of R407; 0 for a standby that follows its active. -/
def exitPark (cause : Nat) (s : State) : State :=
  if !s.parked then s
  else
    let s := { s with pwr := { s.pwr with exit := none, leftAt := s.optime } }
    (s.wb Reg.PWR_STATUS_PARKED false).raise Evt.PARKED [.code 0, .code cause]

/-- ROLE of a pair member: active, standby, or neither (R348, R444). -/
def showRole (s : State) : State :=
  s.w Reg.MIR_STATUS_ROLE
    (if s.rb Reg.MIR_STATUS_OWN_LINE then 1
     else if s.mir.clash then 3
     else if s.rb Reg.MIR_STATUS_PARTNER_LINE then 2
     else s.r Reg.MIR_STATUS_ROLE)

/-- The partner's role line has read low for 2 µs (R349, R359). -/
def State.partnerLow (s : State) : Bool := !s.rb Reg.MIR_STATUS_PARTNER_LINE && decide (2 ≤ s.since s.mir.lowAt)

/-- The module may raise its role line at all: a pair member in operation, not released, without a side clash (R349, R365,
R444). -/
def State.mayRaise (s : State) : Bool :=
  s.paired && s.controlReady && !s.rb Reg.MIR_STATUS_OWN_LINE && !s.rb Reg.MIR_STATUS_RELEASED && !s.mir.clash && s.partnerLow

/-- The module raises its role line and is active, its shadowing over; both lanes take its requests (R349, R350, R364). Its partner,
standby now, commands every standard output off (R301). -/
def raiseLine (s : State) : State :=
  let s := s.modMir fun x => { x with raisedAt := some s.optime, resigned := false, handAt := none, hbMiss := 0, due := [],
                                       syncWait := none, held := 0, partnerDo := 0, passRun := 0, syncedAt := none }
  let s := s.w Reg.MIR_STATUS_SHADOW 0
  let s := ((s.wb Reg.MIR_STATUS_OWN_LINE true).wb Reg.MIR_STATUS_REQ_HOLD false).w Reg.MIR_LAST_TAKEOVER s.now32
  lanesTake (doRefresh (showRole s))

/-- A change of the partner's role line (R349, R350): the lanes' source moves; if both lines rise in the same tick, side 1 drops
its own. -/
def roleLineChange (level : Bool) (bus : Nat) (s : State) : State :=
  let s := s.modMir fun x => { x with bus := bus % 128 }
  if !s.paired || s.rb Reg.MIR_STATUS_PARTNER_LINE = level then s
  else
    let taken := s.laneReqs
    let own := s.rb Reg.MIR_STATUS_OWN_LINE
    let s := s.wb Reg.MIR_STATUS_PARTNER_LINE level
    let s := if level then s.wb Reg.MIR_STATUS_REQ_HOLD false
      else (s.modMir fun x => { x with lowAt := s.optime, held := if own then x.held else taken,
                                        holdAt := if own then x.holdAt else s.optime }).wb Reg.MIR_STATUS_REQ_HOLD (!own)
    let s := if level then s else exitPark 0 s
    let s := if level && own && s.mir.raisedAt == some s.optime && s.side == 1 then dropLine s else s
    lanesTake (showRole s)

/-- The supervisor drops the role line after 100 µs without a completed car period, or, while Parked, without a car sample compared
(R349). -/
def roleLineDrop (s : State) : State :=
  let quiet := s.sinceOrReady (if s.rb Reg.PWR_STATUS_PARKED then some s.pos.sample.time else (s.eng 0).lastAt)
  if s.paired && s.rb Reg.MIR_STATUS_OWN_LINE && decide (100 < quiet) &&
      (s.parked || decide (100 < s.since s.pwr.leftAt)) then lanesTake (dropLine s) else s

/-! ### The shadow state (R355) -/

/-- The shadow state. -/
def State.shadow (s : State) : Nat := s.r Reg.MIR_STATUS_SHADOW

/-- The shadow is SYNCED or CLEAN. -/
def State.synced (s : State) : Bool := s.shadow == 2 || s.shadow == 3

/-- The module shadows its partner: a pair member whose role line is not asserted. -/
def State.standby (s : State) : Bool := s.paired && !s.rb Reg.MIR_STATUS_OWN_LINE

/-- SYNC_REQ is sent and, while the link is up, the shadow is SYNCING (R355). -/
def askSync (item : Nat) (s : State) : State :=
  ((s.sendLink (.syncReq item)).w Reg.MIR_STATUS_SHADOW (if s.rb Reg.MIR_STATUS_LINK_UP then 1 else s.shadow)).modMir fun x => { x with passRun := 0, syncedAt := none }

/-- A failed item: MIR_SHADOW_MISMATCH and SYNC_REQ (R355). -/
def shadowFail (item : Nat) (s : State) : State :=
  let s := (s.w Reg.MIR_SHADOW_LAST_ITEM item).inc Reg.MIR_SHADOW_MISMATCHES
  askSync item (s.raise Evt.MIR_SHADOW_MISMATCH [.code item])

/-- A period in which every item passed; the 16th in a row makes the shadow SYNCED (R355). -/
def shadowPass (s : State) : State :=
  let n := min 16 (s.mir.passRun + 1)
  let s := s.modMir fun x => { x with passRun := n }
  if n = 16 ∧ s.shadow = 1 then
    ((s.w Reg.MIR_STATUS_SHADOW 2).modMir fun x => { x with syncedAt := some s.optime }).raise Evt.MIR_SYNCED [.code 0]
  else s

/-- MIR_CLEAN_S of unbroken SYNCED make the shadow CLEAN (R355). -/
def mirClean (s : State) : State :=
  match s.mir.syncedAt with
  | none => s
  | some t =>
    if s.standby && s.shadow == 2 && decide (s.r Reg.MIR_CFG_MIR_CLEAN_S * 1000000 ≤ s.since t) then
      (s.w Reg.MIR_STATUS_SHADOW 3).raise Evt.MIR_CLEAN [.code 0]
    else s

/-- MIR_SHADOW.CLEAN_S: seconds of unbroken SYNCED. -/
def State.cleanSeconds (s : State) : Nat :=
  match s.mir.syncedAt with
  | some t => satN 16 (s.since t / 1000000)
  | none => 0

/-! ### The STATE message (R353, Table 12-2) -/

/-- The STATE payload of this module's present state (Table 12-2). -/
def State.statePayload (s : State) : List Byte :=
  let c := s.chan 0
  let modes := (List.range 6).map fun n => s.r (Reg.LOOP_CFG_MODE n)
  let nib := fun (l : List Nat) => l.foldr (fun x acc => x % 16 + 16 * acc) 0
  leBytes 4 s.mir.k ++ leBytes 4 (ofI 32 s.pos.sample.pos) ++ leBytes 4 (ofI 32 s.pos.sample.speed) ++
  leBytes 1 s.pos.sample.conf ++
  leBytes 1 (s.r Reg.TRIP_STATUS_STATE + 8 * (c.seg % 16) + 128 * s.r Reg.TRIP_STATUS_DIR) ++
  leBytes 2 s.mir.stopsVer ++ leBytes 4 (s.r Reg.TRIP_ID) ++ leBytes 4 c.tau ++
  leBytes 8 (ofI 64 c.p) ++ leBytes 8 (ofI 64 c.v) ++ leBytes 8 (ofI 64 c.a) ++
  ((List.range 6).flatMap fun n => leBytes 4 (ofI 32 (divZ (s.eng n).i 65536)) ++ leBytes 4 (s.r (Reg.LOOP_OUTPUT n))) ++
  leBytes 4 (nib modes) ++ leBytes 4 (s.saf.req % 64) ++ leBytes 4 s.doApplied ++
  ((List.range 2).flatMap fun i => leBytes 4 (ofI 32 (nth s.pos.emu i {}).edges)) ++
  ((List.range 5).flatMap fun k => leBytes 4 (s.set k).prog) ++
  leBytes 2 (nib ((List.range 4).map fun d =>
    s.r (Reg.LOOP_DOOR_STATUS_STATE d) + 8 * s.r (Reg.LOOP_DOOR_STATUS_DOOR_FAULT d))) ++
  leBytes 2 (b2n s.quiet + 2 * s.r Reg.MIR_STATUS_HOLD_STARTS) ++ leBytes 4 0

/-- A link message as the wire carries it: head, payload and CRC (R351). -/
def linkBytes (kind flags : Nat) (payload : List Byte) : List Byte :=
  let b := leBytes 1 kind ++ leBytes 1 flags ++ leBytes 2 payload.length ++ payload
  b ++ leBytes 4 (crc32c b)

/-- The payload of a STATE message whose CRC matches (R351). -/
def stateOf (m : List Byte) : Option (List Byte) :=
  let b := m.take (m.length - 4)
  if m.length = 152 ∧ leAt m 0 1 = 2 ∧ leAt m 2 2 = 144 ∧ crc32c b = leAt m 148 4 then some (slice m 4 144) else none

/-- The items of R355 that fail between the own payload and the active's. -/
def State.shadowFails (s : State) (act : List Byte) : List Nat :=
  let own := s.statePayload
  let differ := fun o n => slice own o n != slice act o n
  let progs := if s.rb Reg.MIR_STATUS_FOREIGN then differ 120 16 else differ 116 20
  let pos := decide ((s.r Reg.MIR_TOL_MIR_POS_TOL : Int) < mag (leAtI own 4 4 - leAtI act 4 4))
  let tol : Int := (s.r Reg.MIR_TOL_MIR_TORQ_TOL : Nat)
  let loops := (List.range 6).any fun n => s.r (Reg.LOOP_CFG_MODE n) != 0 &&
    (decide (tol < mag (leAtI own (48 + 8 * n) 4 - leAtI act (48 + 8 * n) 4)) ||
     decide (tol < mag (leAtI own (52 + 8 * n) 4 - leAtI act (52 + 8 * n) 4)))
  ([(1, differ 0 4 || differ 13 1 || differ 16 4), (2, differ 20 28), (3, differ 14 2), (4, differ 96 4), (5, progs),
    (6, differ 136 2), (7, pos), (8, loops)].filter fun x => x.2).map fun x => x.1

/-- What the standby takes over from a heartbeat beside the comparison: the drift correction of each integrator, the emulators'
counts, the active's requests and standard outputs (R301, R355). -/
def takeHeartbeat (act : List Byte) (s : State) : State :=
  let s := (List.range 6).foldl (fun s n =>
    s.modEng n fun e => { e with drift := divZ (leAtI act (48 + 8 * n) 4 * 65536 - e.i) 16 }) s
  let s := [0, 1].foldl (fun s i => s.modEmu i fun e => { e with edges := leAtI act (108 + 4 * i) 4, acc := 0 }) s
  (s.modSaf fun x => { x with req := leAt act 100 4 % 64 }).modMir fun x => { x with partnerDo := leAt act 104 4 % 2 ^ 24 }

/-- A received message is reported through port 6 (Table 03-4). -/
def linkPort (s : State) : State := s.post 6 0

/-- A message with a bad CRC is discarded and counted (R351). -/
def linkBad (s : State) : State := s.inc Reg.MIR_LINK_CRC_ERR

/-- A message is taken if its CRC matches and the module is a pair member. -/
def linkTake (crcOk : Bool) (f : State → State) (s : State) : State :=
  if !s.paired then s else if crcOk then f (linkPort s) else linkBad s

/-- A period named by a message lies at or before the present one (modulo 2^32). -/
def State.periodDue (s : State) (k : Nat) : Bool := decide ((s.mir.k + 2 ^ 32 - k % 2 ^ 32) % 2 ^ 32 < 2 ^ 31)

/-- The period of a planned handover has come. -/
def State.handoverDue (s : State) : Bool :=
  match s.mir.handAt with
  | some k => s.periodDue k
  | none => false

/-- A heartbeat of the period of a planned handover, or of a later one, shows that it was cancelled: an active module that hands over
sends none (R363). -/
def handoverPassed (s : State) : State := if s.handoverDue then s.modMir fun x => { x with handAt := none } else s

/-- The first STATE heard, age µs after the start of its period, gives the standby the active's car-period index and phase: its own
period k begins with the active's (R352). -/
def pairAlign (k age : Nat) (s : State) : State :=
  let s := s.modMir fun x => { x with aligned := true, kOfs := k, k := k }
  { s with loop := { s.loop with readyAt := s.optime - BitVec.ofNat 48 age } }

/-- A valid heartbeat (R353): of the present period, complete by 20 µs into it. -/
def heartbeat (act : List Byte) (age : Nat) (s : State) : State :=
  let k := leAt act 0 4
  let s := if s.mir.aligned then s else pairAlign k age s
  let s := if s.shadow = 0 ∧ s.rb Reg.MIR_STATUS_LINK_UP then s.w Reg.MIR_STATUS_SHADOW 1 else s
  let s := handoverPassed s
  let start := (s.eng 0).lastAt.getD s.optime
  if k ≠ s.mir.k ∨ 20 < s.since start then s
  else
    let fails := s.shadowFails act
    let s := s.modMir fun x => { x with hb := some act, hbK := some k, hbMiss := 0 }
    let s := if fails = [] then shadowPass s else fails.foldl (fun s i => shadowFail i s) s
    takeHeartbeat act s

/-- A STATE message, taken by the standby alone (R351, R353, R355); in Parked it is the active's exit (R407). -/
def stateMessage (m : List Byte) (age : Nat) (s : State) : State :=
  if !s.paired then s
  else match stateOf m with
    | none => linkBad s
    | some act => if s.standby then heartbeat act age (exitPark 0 (linkPort s)) else linkPort s

/-- No valid heartbeat was complete by T_k + 20 µs (R353); not while both modules are Parked (R405). -/
def heartbeatMissing (s : State) : State :=
  let start := (s.eng 0).lastAt
  if !s.standby || !s.mir.aligned || s.rb Reg.PWR_STATUS_PARKED || s.mir.hbK == some s.mir.k || s.mir.missK == some s.mir.k then s
  else match start with
    | none => s
    | some t =>
      if s.since t < 20 then s
      else (s.inc Reg.MIR_LINK_MISSED).modMir fun x => { x with hbMiss := min 2 (x.hbMiss + 1), missK := some x.k, passRun := 0 }

/-! ### Journal (R354) -/

/-- The own trip at a journal's index word, in the region of the kind the record names. -/
def State.ownTrip (s : State) (x : Trip) (word : Nat) : Trip := s.tripAt (s.region (decide (x.region < 0x3C000000))) word

/-- The car set stages the own program of a trip; the standby's load is complete when the trip begins (log entry 23). -/
def stageNow (x : Trip) (s : State) : State :=
  if x.retProg = 0 then s else reticleLoadDone 0 false (reticleLoad 0 (x.region + x.retProg) s)

/-- The standby's evaluator begins a trip of the journal; a foreign trip has an empty car set (R354). -/
def shadowTrip (x : Trip) (word : Nat) (s : State) : State :=
  let own := s.ownTrip x word
  let foreign := own.id != x.id
  let s := s.wb Reg.MIR_STATUS_FOREIGN foreign
  let s := s.releaseHolds.modTrip fun t => { t with starting := none, tripped := true, limitRun := 0, limitNow := 0, runWord := word }
  let s := if x.kind = 3 then s else s.w Reg.TRIP_STATUS_CAR_STOP 0
  let s := ((s.w Reg.TRIP_STATUS_STATE 2).wb Reg.TRIP_STATUS_DIR x.up).w Reg.TRIP_STATUS_LOAD_CLASS x.load
  let s := showTrip x (s.w Reg.TRIP_TARGET_TARGET x.dest)
  let s := beginProgram 0 own.region (if foreign then 0 else own.retProg) (if foreign then s else stageNow own s)
  let c := (s.chan 0).begin_ x
  channelResult 0 (c, c.enter s.joinTol) s

/-- The standby's evaluator takes a SPLICE of the journal (R354). -/
def shadowSplice (x : Trip) (word : Nat) (s : State) : State :=
  let own := s.ownTrip x word
  let foreign := own.id != x.id
  let x := { x with retProg := if foreign then 0 else own.retProg, region := own.region }
  let s := (s.modChan 0 fun c => { c with splicePend := some x }).modTrip fun t => { t with contWord := word }
  let s := s.wb Reg.MIR_STATUS_FOREIGN foreign
  if foreign then s else stageNow own s

/-- The standby applies a stop-list change with its request's record (R332, R354). -/
def shadowStops (x : StopChange) (s : State) : State :=
  let s := if s.trip.stops = x.list then s
    else (s.modTrip fun t => { t with stops := x.list }).modMir fun m => { m with stopsVer := (m.stopsVer + 1) % 65536 }
  if x.payload = 0 then s else recordAnswer ⟨x.req, x.payload, x.code⟩ s

/-- The standby applies a TRIP_CMD; the trip of a RESCUE comes in a record of its own (R354). -/
def shadowTripCmd (cmd : Nat) (s : State) : State :=
  if cmd = 1 then (cmdOutOfService s).1 else if cmd = 2 then (cmdReturn s).1 else s

/-- The standby applies a LOOP_CMD (R354). -/
def shadowLoopCmd (n cmd : Nat) (s : State) : State :=
  if cmd = 1 then clearLoop n s else loopCmdPeakClear n loopConfirm s

/-- The standby applies a journal record (R354); one that names a later period waits for it. -/
def applyJournal (x : JournalRec) (s : State) : State :=
  let wait := fun (s : State) => s.modMir fun m => { m with due := m.due ++ [x] }
  match x with
  | .stops c => shadowStops c s
  | .tripStart t w k => if s.periodDue k then shadowTrip t w s else wait s
  | .splice t w k => if s.periodDue k then shadowSplice t w s else wait s
  | .ctrlStop c => ctrlStopGo c s
  | .doorStart d n => doorStart d n s
  | .doorStop d => doorStop d s
  | .tripCmd c _ => shadowTripCmd c s
  | .loopCmd n c => shadowLoopCmd n c s
  | .mode n m => s.modeNext n m
  | .park k => if s.periodDue k then enterPark s else wait s

/-- Records whose period has come (R354). -/
def applyDue (s : State) : State :=
  let l := s.mir.due
  l.foldl (fun s x => applyJournal x s) (s.modMir fun m => { m with due := [] })

/-! ### SYNC (R355) -/

/-- The state a SYNC carries (R355). -/
def State.syncBody (s : State) : SyncBody :=
  { period := s.mir.k, chans := s.trip.chans, stops := s.trip.stops, eng := s.loop.eng,
    modes := (List.range 6).map fun n => s.r (Reg.LOOP_CFG_MODE n), ops := s.loop.ops,
    doorStates := (List.range 4).map fun d => s.r (Reg.LOOP_DOOR_STATUS_STATE d),
    doorFaults := (List.range 4).map fun d => s.r (Reg.LOOP_DOOR_STATUS_DOOR_FAULT d), deck := s.loop.deck,
    progs := (List.range 5).map fun k => (s.set k).prog, word := s.trip.runWord,
    trip := (s.r Reg.TRIP_STATUS_STATE, s.rb Reg.TRIP_STATUS_DIR, s.r Reg.TRIP_ID, s.r Reg.TRIP_TARGET_TARGET, s.mir.stopsVer) }

/-- A set adopts a program identifier; a live program other than the one named has no marks here (R355, log entry 73). -/
def adoptProg (k prog : Nat) (s : State) : State :=
  if (s.set k).prog = prog then s else (emptySet k s).modSet k fun x => { x with prog := prog }

/-- The trip that runs on adoption is foreign, or the car stands (R354). A controlled stop leaves the mark of the trip it ends. -/
def State.foreignRuns (s : State) : Bool :=
  let c := s.chan 0
  if c.moving && c.trip.kind == 4 then s.rb Reg.MIR_STATUS_FOREIGN
  else c.moving && (s.ownTrip c.trip s.trip.runWord).id != c.trip.id

/-- The standby adopts the SYNC state (R355); the car set of a foreign trip is empty (R354). -/
def adoptSync (x : SyncBody) (s : State) : State :=
  let s := { s with
    trip := { s.trip with chans := x.chans, stops := x.stops, runWord := x.word }
    loop := { s.loop with eng := x.eng, ops := x.ops, deck := x.deck } }
  let s := ([0, 1, 2, 3, 4, 5].zip x.modes).foldl (fun s y => s.w (Reg.LOOP_CFG_MODE y.1) y.2) s
  let s := ([0, 1, 2, 3].zip x.doorStates).foldl (fun s y => s.w (Reg.LOOP_DOOR_STATUS_STATE y.1) y.2) s
  let s := ([0, 1, 2, 3].zip x.doorFaults).foldl (fun s y => s.w (Reg.LOOP_DOOR_STATUS_DOOR_FAULT y.1) y.2) s
  let s := ([0, 1, 2, 3, 4].zip x.progs).foldl (fun s y => adoptProg y.1 y.2 s) s
  let foreign := s.foreignRuns
  let s := if foreign then emptySet 0 s else s
  let s := s.wb Reg.MIR_STATUS_FOREIGN foreign
  let s := ((s.w Reg.TRIP_STATUS_STATE x.trip.1).wb Reg.TRIP_STATUS_DIR x.trip.2.1).w Reg.TRIP_ID x.trip.2.2.1
  let s := s.w Reg.TRIP_TARGET_TARGET x.trip.2.2.2.1
  (s.w Reg.MIR_STATUS_SHADOW 1).modMir fun m => { m with stopsVer := x.trip.2.2.2.2, passRun := 0, syncWait := none, resync := false }

/-- A SYNC is adopted at the period it names (R355). One that a synced standby did not ask for follows an overflow of the active's
queue, item 9 (R351; log entry 122). -/
def syncMessage (x : SyncBody) (s : State) : State :=
  let s := s.when_ (s.standby && s.synced) fun s => s.w Reg.MIR_SHADOW_LAST_ITEM 9
  if !s.standby then s
  else if s.periodDue x.period then adoptSync x s
  else s.modMir fun m => { m with syncWait := some x }

/-- The active sends a SYNC (R355). -/
def sendSync (s : State) : State := if s.paired && s.rb Reg.MIR_STATUS_OWN_LINE then s.sendLink (.sync s.syncBody) else s

/-- The active answers SYNC_REQ with SYNC; the standby that asks is SYNCING, no longer CLEAN (R355, R363). -/
def syncReq (s : State) : State :=
  sendSync (s.modMir fun x => { x with partner := x.partner.map fun h => { h with shadow := 1 } })

/-- After an overflow of the link's queue the pair resynchronises as soon as a message has room: the active sends a SYNC, the standby
asks for one (R351; log entry 122). -/
def linkResync (s : State) : State :=
  if s.mir.resync && decide (s.mir.out.length < 64) then
    let s := s.modMir fun x => { x with resync := false }
    if s.standby then shadowFail 9 s else sendSync s
  else s

/-- What a period finds due at the standby: journal records and a SYNC (R354, R355). -/
def shadowDue (s : State) : State :=
  let s := applyDue s
  match s.mir.syncWait with
  | some x => if s.periodDue x.period then adoptSync x s else s
  | none => s

/-! ### HELLO and the link (R351, R362, R366, R444) -/

/-- The HELLO of this module (Table 12-1). -/
def State.hello (s : State) : Hello :=
  { serial := s.serial, side := s.side, role := if s.paired then s.r Reg.MIR_STATUS_ROLE else 0, shadow := s.shadow,
    addr := s.r Reg.NET_ADDR_ADDRESS, enumId := s.r Reg.NET_ADDR_ENUM_ID, conflict := s.net.split || s.net.duplicate,
    imageId := s.img.loadedSeal.imageId, core := s.img.loadedSeal.digest, atlas := s.img.loadedSeal.atlas,
    released := s.rb Reg.MIR_STATUS_RELEASED, stamp := s.optime.toNat * 1000 }

/-- A HELLO is sent (R351). -/
def sendHello (s : State) : State :=
  if s.paired then (s.modMir fun x => { x with helloSent := some s.optime }).sendLink (.hello s.hello) else s

/-- HELLO every 10 ms (R351). -/
def helloSend (s : State) : State :=
  let due := match s.mir.helloSent with
    | some t => decide (10000 ≤ s.since t)
    | none => true
  if due && s.controlReady then sendHello s else s

/-- The link comes up; a detached standby asks for SYNC (R351, R362). -/
def mirLinkUp (s : State) : State :=
  if s.rb Reg.MIR_STATUS_LINK_UP then s
  else
    let s := (s.wb Reg.MIR_STATUS_LINK_UP true).raise Evt.MIR_LINK_UP [.code 0]
    if s.standby && s.shadow == 4 then askSync 0 s
    else if s.standby && s.shadow == 0 && s.mir.aligned then s.w Reg.MIR_STATUS_SHADOW 1
    else s

/-- A HELLO of the partner (R351, R366). One that reports the own side leaves the role line low (R444; log entry 123). -/
def helloTake (x : Hello) (delay : Nat) (s : State) : State :=
  let s := s.modMir fun m => { m with
    partner := some x, lastHello := s.optime, clash := x.side % 2 == s.side
    adoptSeen := m.adoptSeen || (x.shadow != 2 && x.shadow != 3) }
  let s := mirLinkUp ((s.wb Reg.MIR_STATUS_PARTNER true).wb Reg.NET_ADDR_PAIRED true)
  let s := (s.w Reg.MIR_PARTNER_SERIAL_LO (x.serial % 2 ^ 32)).w Reg.MIR_PARTNER_SERIAL_HI (x.serial / 2 ^ 32)
  let s := (s.w Reg.MIR_PARTNER_ID_LO (x.imageId % 2 ^ 32)).w Reg.MIR_PARTNER_ID_HI (x.imageId / 2 ^ 32)
  let s := s.w Reg.MIR_LINK_DELAY_NS (satN 16 delay)
  let s := showRole (if s.mir.clash && s.rb Reg.MIR_STATUS_OWN_LINE then lanesTake (dropLine s) else s)
  let s := if s.mir.clash then s.raise Evt.MIR_SIDE_CLASH [.code s.side] else s
  if s.r Reg.NET_ADDR_ADDRESS = 0 ∧ x.addr ≠ 0 ∧ !x.conflict then commitAddr (x.addr % 256) (x.enumId % 65536) s else s

/-- 30 ms without a HELLO take the link down: the standby detaches, the active has lost its partner (R351, R362). -/
def mirLinkDown (s : State) : State :=
  if !s.rb Reg.MIR_STATUS_LINK_UP || decide (s.since s.mir.lastHello ≤ 30000) then s
  else
    let s := ((s.wb Reg.MIR_STATUS_LINK_UP false).wb Reg.MIR_STATUS_PARTNER false).wb Reg.NET_ADDR_PAIRED false
    let s := s.modMir fun x => { x with adoptSeen := true }
    if s.rb Reg.MIR_STATUS_OWN_LINE then s.raise Evt.MIR_PARTNER_LOST [.code 0]
    else ((s.w Reg.MIR_STATUS_SHADOW 4).modMir fun x => { x with passRun := 0, syncedAt := none }).raise Evt.MIR_LINK_DOWN [.code 0]

/-! ### Takeover (R359 to R361) -/

/-- The DriveLink commands of the present period leave at once (R359). -/
def sendDrive (s : State) : State := dlSend 2 (dlSend 1 s)

/-- MIR_TAKEOVER: period, SYNCED, FOREIGN, RESIGN. -/
def takeoverEvent (synced resign : Bool) (s : State) : State :=
  (s.inc Reg.MIR_COUNT_TAKEOVERS).raise Evt.MIR_TAKEOVER
    [.code s.mir.k, .code (b2n synced), .code (s.r Reg.MIR_STATUS_FOREIGN), .code (b2n resign)]

/-- A foreign trip is ended by a controlled stop with cause LIMIT; the rescue trip in the direction of travel follows its HOLD
(R360). -/
def foreignStop (s : State) : State :=
  if s.rb Reg.MIR_STATUS_FOREIGN && (s.chan 0).moving then
    ctrlStop StopCause.limit (s.modTrip fun t => { t with resumeDue := true, stoppedUp := s.rb Reg.TRIP_STATUS_DIR })
  else s

/-- A SYNCED or CLEAN standby takes control on two missing heartbeats or a resignation (R359, R360). -/
def takeover (s : State) : State :=
  if s.mayRaise && s.synced && (decide (2 ≤ s.mir.hbMiss) || s.mir.resigned) && !s.rb Reg.PWR_STATUS_PARKED then
    let resign := s.mir.resigned
    foreignStop (takeoverEvent true resign (sendDrive (raiseLine s)))
  else s

/-- The car stands: both lanes' speeds lie below 1,000 µm/s. -/
def State.standstill (s : State) : Bool := [0, 1].all fun l => decide (mag (s.lane l).speed < 1000)

/-- A HANDOVER names the present period or a later one (R361, R363). -/
def State.handoverAhead (s : State) : Bool :=
  match s.mir.handAt with
  | some k => s.mir.k == k || !s.periodDue k
  | none => false

/-- A standby that is not synced takes control at standstill once the request hold has ended, and keeps the car out of service
(R361). -/
def unsyncedTakeover (s : State) : State :=
  if s.mayRaise && !s.synced && !s.handoverAhead && !s.mir.resigned && s.standstill then
    goOos 5 (takeoverEvent false false (raiseLine s))
  else s

/-- With neither role line asserted for REQ_HOLD, the held requests become absent (R350, R361). -/
def reqHoldExpiry (s : State) : State :=
  if !s.standby || s.rb Reg.MIR_STATUS_PARTNER_LINE || decide (s.since s.mir.holdAt < 250) || s.rb Reg.PWR_STATUS_PARKED then s
  else unsyncedTakeover (lanesTake ((s.modMir fun x => { x with held := 0 }).wb Reg.MIR_STATUS_REQ_HOLD false))

/-! ### Handover (R363, R364) -/

/-- The hold on starts ends; the door starts held begin (R363, R367). -/
def releaseStarts (s : State) : State :=
  let l := s.mir.heldDoors
  let s := (s.modMir fun x => { x with heldDoors := [] }).wb Reg.MIR_STATUS_HOLD_STARTS false
  if s.active then l.foldl (fun s x => doorStart x.1 x.2 (s.journal (.doorStart x.1 x.2))) s else s

/-- The partner reports, as standby, CLEAN over a link that is up, and is not released. -/
def State.partnerClean (s : State) : Bool :=
  s.rb Reg.MIR_STATUS_LINK_UP && (match s.mir.partner with
    | some h => h.role == 2 && h.shadow == 3 && !h.released
    | none => false)

/-- Why a handover would start at a quiet point: 0 command, 1 takeback, 2 adoption (R364). -/
def State.handoverCause (s : State) : Option Nat :=
  if s.mir.handCmd then some 0
  else if s.side != s.r Reg.MIR_CFG_HOME_SIDE then some 1
  else if s.mir.partnerAdopted then some 2
  else none

/-- A handover starts at a quiet point (R363, R364): HANDOVER names a period 4 ahead and starts are held. -/
def autoHandover (s : State) : State :=
  if !s.paired || !s.rb Reg.MIR_STATUS_OWN_LINE || s.mir.handAt.isSome || !s.quiet || !s.partnerClean || s.mir.adoptAt.isSome then s
  else match s.handoverCause with
    | none => s
    | some why =>
      let k := (s.mir.k + 4) % 2 ^ 32
      ((s.modMir fun x => { x with handAt := some k, handWhy := why }).wb Reg.MIR_STATUS_HOLD_STARTS true).sendLink (.handover k false)

/-- Why a handover under way must be cancelled: 0 quiet point ended, 1 cut, 2 standby not CLEAN (R363). -/
def State.handoverBroken (s : State) : Option Nat :=
  if s.held 0 != 0 || s.held 1 != 0 then some 1
  else if !s.quietNow then some 0
  else if !s.partnerClean then some 2
  else none

/-- MIR_CMD_STATUS of the last command. -/
def cmdResult (cmd result reason : Nat) (s : State) : State :=
  ((s.w Reg.MIR_CMD_STATUS_CMD cmd).w Reg.MIR_CMD_STATUS_RESULT result).w Reg.MIR_CMD_STATUS_REASON reason

/-- A handover is done: counted and reported (R363). -/
def handoverEvent (why : Nat) (s : State) : State :=
  ((s.inc Reg.MIR_COUNT_HANDOVERS).w Reg.MIR_LAST_TAKEOVER s.now32).raise Evt.MIR_HANDOVER [.code s.mir.k, .code why]

/-- The active at or before k_h: the handover is cancelled, or carried out at k_h by dropping the role line (R363). -/
def handoverActive (k : Nat) (s : State) : State :=
  match s.handoverBroken with
  | some r =>
    releaseStarts ((s.modMir fun x => { x with handAt := none }).raise Evt.MIR_HANDOVER_FAIL [.code r])
  | none =>
    if !s.periodDue k then s
    else
      let s := if s.mir.handCmd then cmdResult 1 2 0 s else s
      let s := handoverEvent s.mir.handWhy s
      let s := dropLine (s.modMir fun x => { x with handAt := none, handCmd := false, partnerAdopted := false, heldDoors := [] })
      lanesTake (s.wb Reg.MIR_STATUS_HOLD_STARTS false)

/-- The standby at k_h takes control once the partner's line is low (R363). -/
def handoverStandby (k : Nat) (s : State) : State :=
  if s.periodDue k && s.mayRaise && s.synced then
    let why := if s.mir.adopted then 2 else if s.side = s.r Reg.MIR_CFG_HOME_SIDE then 1 else 0
    handoverEvent why ((sendDrive (raiseLine s)).modMir fun x => { x with adopted := false })
  else s

/-- HANDOVER_EXECUTE (R363). -/
def handoverExecute (s : State) : State :=
  match s.mir.handAt with
  | none => s
  | some k => if s.rb Reg.MIR_STATUS_OWN_LINE then handoverActive k s else handoverStandby k s

/-- A HANDOVER message at the standby (R359, R363). -/
def handoverMessage (k : Nat) (resign : Bool) (s : State) : State :=
  if !s.standby then s
  else if resign then s.modMir fun x => { x with resigned := true }
  else s.modMir fun x => { x with handAt := some (k % 2 ^ 32) }

/-! ### MIR_CMD (R364, R365, R367) -/

/-- CONFIRM of MIR_CMD. -/
def mirConfirm : Nat := 0x3C96

/-- A MIR_CMD is refused. -/
def mirRefused (cmd reason : Nat) (s : State) : State :=
  (cmdResult cmd 3 reason s).raise Evt.MIR_CMD_REFUSED [.code cmd, .code reason]

/-- A MIR_CMD write with its CONFIRM. -/
def mirCmd (confirm : Nat) (f : State → State) (s : State) : State := if confirm = mirConfirm then f s else s

/-- MIR_CMD HANDOVER waits for a quiet point (R364). -/
def cmdHandover (s : State) : State :=
  if !s.paired || !s.rb Reg.MIR_STATUS_OWN_LINE then mirRefused 1 1 s
  else if !s.partnerClean then mirRefused 1 5 s
  else (cmdResult 1 1 0 s).modMir fun x => { x with handCmd := true }

/-- A command of R365 or R367 is sent to the partner (Table 12-1). -/
def State.tellCommand (s : State) (cmd : Nat) : State := if s.paired then s.sendLink (.command cmd none) else s

/-- MIR_CMD RELEASE makes a standby released (R365). -/
def cmdRelease (s : State) : State :=
  if s.active then mirRefused 2 1 s
  else (doRefresh ((cmdResult 2 2 0 s).wb Reg.MIR_STATUS_RELEASED true)).raise Evt.MIR_RELEASED [.code 1] |>.tellCommand 2

/-- A PARTNER output reads conducting with its pole commanded open (R365). -/
def State.partnerConducts (s : State) : Bool :=
  [0, 1].any fun l => (List.range 10).any fun o =>
    s.outEn l o && s.parB l (Reg.SAF_OUT_CFG_PARTNER o) && bitAt (s.lane l).rb o && !bitAt (s.lane l).cmd o

/-- MIR_CMD ATTACH clears RELEASED (R365). -/
def cmdAttach (s : State) : State :=
  if s.partnerConducts then mirRefused 3 6 s
  else (doRefresh ((cmdResult 3 2 0 s).wb Reg.MIR_STATUS_RELEASED false)).raise Evt.MIR_RELEASED [.code 0] |>.tellCommand 3

/-- Why MIR_CMD ADOPT is refused, if it is (R367). -/
def State.adoptRefusal (s : State) : Option Nat :=
  let b := s.r Reg.IMG_STATUS_DESIGNATED_BANK
  if !s.standby || s.r Reg.MIR_STATUS_ROLE != 2 then some 1
  else if !s.rb Reg.MIR_STATUS_PARTNER_LINE then some 2
  else if !s.img.activated || b == s.r Reg.IMG_STATUS_LOADED_BANK then some 3
  else if (s.sealOf b).setId != s.img.loadedSeal.setId then some 4
  else none

/-- MIR_CMD ADOPT waits for a quiet point; the active is told (R367). -/
def cmdAdopt (s : State) : State :=
  match s.adoptRefusal with
  | some r => mirRefused 4 r s
  | none => ((cmdResult 4 1 0 s).modMir fun x => { x with adoptWait := true }).sendLink (.command 4 none)

/-- What a module learns from a command of its partner: released, attached, or about to adopt (R365, R367). -/
def partnerCommand (cmd : Nat) (s : State) : State :=
  s.modMir fun x =>
    if cmd = 4 then { x with partnerAdopts := x.partnerAdopts || s.rb Reg.MIR_STATUS_OWN_LINE }
    else { x with partner := x.partner.map fun h => { h with released := decide (cmd = 2) } }

/-- A COMMAND message (Table 12-1): the partner's command is taken and answered. -/
def commandMessage (cmd : Nat) (answered : Bool) (s : State) : State :=
  if !answered ∧ (cmd = 2 ∨ cmd = 3 ∨ cmd = 4 ∧ s.rb Reg.MIR_STATUS_OWN_LINE) then
    (partnerCommand cmd s).sendLink (.command cmd (some 0))
  else s

/-- The active's last heartbeat shows a quiet point and its starts held, FLAGS of Table 12-2. -/
def State.partnerHolds (s : State) : Bool :=
  match s.mir.hb with
  | some act => bitAt (leAt act 138 2) 0 && bitAt (leAt act 138 2) 1
  | none => false

/-- The active holds trip and door starts at the quiet point at which its standby adopts (R367). -/
def adoptHold (s : State) : State :=
  if s.mir.partnerAdopts && s.rb Reg.MIR_STATUS_OWN_LINE && s.quiet then
    (s.modMir fun x => { x with partnerAdopts := false, partnerAdopted := true, adoptAt := some s.optime, adoptSeen := false }).wb
      Reg.MIR_STATUS_HOLD_STARTS true
  else s

/-- The hold ends when the standby is SYNCED after its restart, or 100 ms after its reset (R367). -/
def adoptRelease (s : State) : State :=
  match s.mir.adoptAt with
  | none => s
  | some t =>
    if (s.partnerReady && s.mir.adoptSeen) || decide (100000 ≤ s.since t) then
      releaseStarts (s.modMir fun x => { x with adoptAt := none })
    else s

/-! ### The partner's neighbours (R338, Table 12-1) -/

/-- The NEIGHBOURS message (R338, R339). -/
def neighboursMessage (ws : List Nat) (s : State) : State :=
  let a := (List.range 4).map fun i => adjOf (nth ws (2 * i) 0) (nth ws (2 * i + 1) 0)
  chainCheck (s.modNet fun n => { n with partnerAdj := a, partnerAddr := (nth ws 8 0, nth ws 9 0) })

/-! ### The car period of a pair member (R353, R354) -/

/-- A car period with what a pair adds: the standby's due records before it, the active's STATE message after it. -/
def pairPeriod (mismatch sparePass : Bool) (s : State) : State :=
  if s.rb Reg.PWR_STATUS_PARKED then s
  else
    let ran := s.carPeriod.isSome && (s.eng 0).lastAt != some s.optime
    let s := if ran then s.modMir fun x => { x with k := s.periodIndex } else s
    let s := if ran && s.standby then shadowDue s else s
    if s.parked then s
    else if ran && s.pwr.parkDue then enterPark (s.w Reg.PWR_CMD_STATUS_RESULT 2)
    else
    let s := carLoopPeriod mismatch sparePass s
    if ran && s.paired && s.rb Reg.MIR_STATUS_OWN_LINE && !s.handoverDue then s.sendLink (.state s.statePayload) else s

/-! ### Encoder frames of a listener (R356) -/

/-- A frame of SSI1 starts: clocked by the module that drives, heard by the listener, whose latch time is the first edge it sees
(R116, R356). -/
def ssiBegin (s : State) : State :=
  if s.active then ssiStart s
  else if s.rb (Reg.PFE_SSI_CFG_ENABLE 0) then s.modSsi 0 fun x => { x with lastStart := some s.optime, latch := some s.optime }
  else s

/-- A listener that sees no frame for two periods counts a rejected frame with reason TIMING; of SSI2, both lane B's decoder and the
main die's channel (R356). -/
def ssiNoFrame (laneB : Bool) (s : State) : State :=
  if s.active then s
  else if laneB then
    let t := s.laneTable 1
    if s.sinceOrReady (s.lane 1).ssiAt < 2 * t.ssiPeriod then s
    else
      let s := s.modLane 1 fun x => { x.ssiReject t.ssiFailN with ssiAt := some s.optime }
      if s.rb (Reg.PFE_SSI_CFG_ENABLE 1) && s.controlReady then ssiReject 1 5 s else s
  else
    let x := s.ssiChan 0
    if s.rb (Reg.PFE_SSI_CFG_ENABLE 0) && s.controlReady &&
        decide (2 * s.r (Reg.PFE_SSI_CFG_PERIOD_US 0) ≤ s.sinceOrReady x.lastStart) then
      ssiReject 0 5 (s.modSsi 0 fun x => { x with lastStart := some s.optime, latch := none })
    else s

/-! ### Meanings -/

/-- CAR_LOOP_PERIOD (R194, R353). -/
def execCarLoopPeriod (mismatch sparePass : Bool) (s : State) : Res := noted (pairPeriod mismatch sparePass) s
/-- HELLO_SEND (R351). -/
def execHelloSend (s : State) : Res := (helloSend s).done
/-- HELLO (R351). -/
def execHello (hello : Hello) (delayNs : Nat) (crcOk : Bool) (s : State) : Res := (linkTake crcOk (helloTake hello delayNs) s).done
/-- MIR_LINK_DOWN (R362). -/
def execMirLinkDown (s : State) : Res := (mirLinkDown s).done
/-- STATE_MESSAGE (R353, R355). -/
def execStateMessage (message : List Byte) (age : Nat) (s : State) : Res := (stateMessage message age s).done
/-- MIR_CLEAN (R355). -/
def execMirClean (s : State) : Res := (mirClean s).done
/-- HEARTBEAT_MISSING (R353). -/
def execHeartbeatMissing (s : State) : Res := (heartbeatMissing s).done
/-- TAKEOVER (R359). -/
def execTakeover (s : State) : Res := noted takeover s
/-- JOURNAL (R354): applied by the standby. -/
def execJournal (record : JournalRec) (crcOk : Bool) (s : State) : Res :=
  (linkTake crcOk (fun s => if s.standby then applyJournal record s else s) s).done
/-- SYNC_REQ (R355). -/
def execSyncReq (item : Nat) (crcOk : Bool) (s : State) : Res :=
  (linkTake (crcOk && decide (item < 16)) syncReq s).done
/-- SYNC (R355). -/
def execSync (body : SyncBody) (crcOk : Bool) (s : State) : Res := (linkTake crcOk (syncMessage body) s).done
/-- HANDOVER_MESSAGE (R359, R363). -/
def execHandoverMessage (period : Nat) (resign crcOk : Bool) (s : State) : Res :=
  (linkTake crcOk (handoverMessage period resign) s).done
/-- NEIGHBOURS_MESSAGE (R338, R351). -/
def execNeighboursMessage (words : List Nat) (crcOk : Bool) (s : State) : Res := (linkTake crcOk (neighboursMessage words) s).done
/-- COMMAND_MESSAGE (R365, R367). -/
def execCommandMessage (cmd : Nat) (answered crcOk : Bool) (s : State) : Res := (linkTake crcOk (commandMessage cmd answered) s).done
/-- ROLE_LINE_CHANGE (R349, R350). -/
def execRoleLineChange (level : Bool) (bus : Nat) (s : State) : Res := (roleLineChange level bus s).done
/-- ROLE_LINE_DROP (R349). -/
def execRoleLineDrop (s : State) : Res := (roleLineDrop s).done
/-- REQ_HOLD_EXPIRY (R350, R361). -/
def execReqHoldExpiry (s : State) : Res := noted reqHoldExpiry s
/-- MIR_CMD_HANDOVER (R364). -/
def execMirCmdHandover (confirm : Nat) (s : State) : Res := (s.served (mirCmd confirm cmdHandover)).done
/-- AUTO_HANDOVER (R364). -/
def execAutoHandover (s : State) : Res := (autoHandover s).done
/-- HANDOVER_EXECUTE (R363). -/
def execHandoverExecute (s : State) : Res := (handoverExecute s).done
/-- MIR_CMD_RELEASE (R365). -/
def execMirCmdRelease (confirm : Nat) (s : State) : Res := (s.served (mirCmd confirm cmdRelease)).done
/-- MIR_CMD_ATTACH (R365). -/
def execMirCmdAttach (confirm : Nat) (s : State) : Res := (s.served (mirCmd confirm cmdAttach)).done
/-- MIR_CMD_ADOPT (R367). -/
def execMirCmdAdopt (confirm : Nat) (s : State) : Res := (s.served (mirCmd confirm cmdAdopt)).done
/-- ADOPT_HOLD_RELEASE (R367). -/
def execAdoptHoldRelease (s : State) : Res := (adoptRelease s).done
/-- SSI_FRAME_START (R116, R356). -/
def execSsiFrameStart (s : State) : Res := (ssiBegin s).done
/-- SSI_NO_FRAME (R356). -/
def execSsiNoFrame (laneB : Bool) (s : State) : Res := (ssiNoFrame laneB s).done

end Sys2Proof.Machine
end

