-- ==== Sys2Proof/Machine/Mem.lean ====
section
/-! DEFINITION. Errors of the memories and their spares, and the loupe's scrubs (files 02 and 12: R55, R62, R368 to R372). -/

namespace Sys2Proof.Machine

/-- The memory state changed. -/
def State.modMem (s : State) (f : MemState → MemState) : State := { s with mem := f s.mem }

/-- Bytes of a row of the near store or of a page of the table store (Table 12-4). -/
def rowBytes (table : Bool) : Nat := if table then 4096 else 1024

/-- Rows of the near store, pages of the table store. -/
def rowCount (table : Bool) : Nat := if table then 2 ^ 17 else 2 ^ 15

/-- The class K count of spare rows or pages free. -/
def spareFree (table : Bool) : Field := if table then Reg.MIR_SPARE_TABLE_FREE else Reg.MIR_SPARE_NEAR_FREE

/-! ### Corrected and uncorrectable errors (R368) -/

/-- The 24 h window of corrected errors begins anew when it has run out. -/
def errorWindow (s : State) : State :=
  if 86400000000 ≤ s.since s.mem.windowAt then
    ((s.modMem fun m => { m with windowAt := s.optime, nearErr := [], tableErr := [] }).w Reg.MIR_ECC_NEAR 0).w Reg.MIR_ECC_TABLE 0
  else s

/-- A row or page is due for remapping. -/
def remapDue (table : Bool) (row : Nat) (s : State) : State :=
  if s.mem.due.elem (table, row) then s else s.modMem fun m => { m with due := m.due ++ [(table, row)] }

/-- A corrected error found by a read; MEM_ERR_RELAY of them within the window make the row or page due. -/
def correctedAt (table : Bool) (s : State) (o : Nat) : State :=
  let row := o / rowBytes table
  let n := SMap.get (if table then s.mem.tableErr else s.mem.nearErr) row 0 + 1
  let s := s.modMem fun m => if table then { m with tableErr := SMap.put m.tableErr row n 0 }
    else { m with nearErr := SMap.put m.nearErr row n 0 }
  let s := s.inc (if table then Reg.MIR_ECC_TABLE else Reg.MIR_ECC_NEAR)
  if s.r Reg.MIR_CFG_MEM_ERR_RELAY ≠ 0 ∧ s.r Reg.MIR_CFG_MEM_ERR_RELAY ≤ n then remapDue table row s else s

/-- The word at an offset reads as all ones from now on (R368). -/
def spoilWord (table : Bool) (o : Nat) (s : State) : State :=
  let ones := List.replicate 4 (0xFF : Byte)
  if table then { s with table := memWrite s.table (o / 4 * 4) ones } else { s with near := memWrite s.near (o / 4 * 4) ones }

/-- An uncorrectable error reported in the incoming slot fails a staged atlas (R55). -/
def stagedUncorr (o : Nat) (s : State) : State :=
  if s.r Reg.IMG_STATUS_TS_INCOMING_STATE = 2 ∧ 0xE000000 * s.incoming ≤ o ∧ o < 0xE000000 * (s.incoming + 1) then
    s.w Reg.IMG_STATUS_TS_INCOMING_STATE 3
  else s

/-- An uncorrectable word found by any read: it reads as all ones, and its row or page is due (R368). -/
def uncorrAt (table : Bool) (s : State) (o : Nat) : State :=
  let o := o % (rowCount table * rowBytes table)
  let s := (spoilWord table o s).modMem fun m => { m with bad := (table, o / 4 * 4) :: m.bad.filter (· != (table, o / 4 * 4)) }
  remapDue table (o / rowBytes table) (s.when_ table (stagedUncorr o))

/-- A foreground read of an uncorrectable word, for a facet's item if one made it (R368). -/
def memoryUncorrectable (table : Bool) (o : Nat) (facet : Option Nat) (s : State) : State :=
  let row := o % (rowCount table * rowBytes table) / rowBytes table
  let s := (uncorrAt table s o).raise (if table then Evt.TABLE_UNCORR else Evt.NEAR_UNCORR) [.code row]
  match facet with
  | some p => abortItem p s
  | none => s

/-! ### Remapping (R368, R371) -/

/-- The remap of a due row or page starts; margin says that the loupe finds its retention margin below limit. -/
def remapStart (table : Bool) (row : Nat) (margin : Bool) (s : State) : State :=
  if s.mem.remap.isSome ∨ s.r (spareFree table) = 0 ∨ rowCount table ≤ row ∨ !(margin || s.mem.due.elem (table, row)) then s
  else
    let spare := (spareFree table).reset - s.r (spareFree table)
    s.modMem fun m => { m with remap := some ⟨table, row, spare⟩, due := m.due.filter (· != (table, row)) }

/-- The copy is complete: the mapping switches, the old row or page is fenced, and the remap is reported; its uncorrectable
words have been copied as they read (R368, R371). -/
def remapSwitch (s : State) : State :=
  match s.mem.remap with
  | none => s
  | some x =>
    let s := s.modMem fun m =>
      let m := { m with bad := m.bad.filter fun y => y.1 != x.table || y.2 / rowBytes x.table != x.row }
      if x.table then { m with
        remap := none, tableErr := SMap.erase m.tableErr x.row, tableMap := SMap.insert m.tableMap x.row x.spare,
        tableFenced := m.tableFenced ++ [match SMap.get (m.tableMap.map fun y => (y.1, some y.2)) x.row none with
          | some old => 2 ^ 20 + old
          | none => x.row] }
      else { m with
        remap := none, nearErr := SMap.erase m.nearErr x.row, nearMap := SMap.insert m.nearMap x.row x.spare,
        nearFenced := m.nearFenced ++ [match SMap.get (m.nearMap.map fun y => (y.1, some y.2)) x.row none with
          | some old => 2 ^ 15 + old
          | none => x.row] }
    let s := (s.w (spareFree x.table) (s.r (spareFree x.table) - 1)).inc
      (if x.table then Reg.MIR_SPARE_TABLE_REMAPS else Reg.MIR_SPARE_NEAR_REMAPS)
    let s := s.spareUsed.raise (if x.table then Evt.TABLE_REMAP else Evt.NEAR_REMAP) [.code x.row]
    s.when_ (s.r (spareFree x.table) == 0) fun s => s.raise Evt.SPARES_LOW [.code (b2n x.table)]

/-! ### The deep store (R369) -/

/-- The block that stands for a user block: itself, or a spare block from 16,384 on. -/
def State.deepBlock (s : State) (block : Nat) : Nat :=
  match SMap.get (s.mem.deepMap.map fun y => (y.1, some y.2)) block none with
  | some x => 16384 + x
  | none => block

/-- A block is retired: counted, and never used again. -/
def deepRetire (old : Nat) (s : State) : State :=
  (s.modMem fun m => { m with retired := m.retired ++ [old] }).inc Reg.MIR_SPARE_DEEP_RETIRED

/-- A user block is replaced by a spare block and never used again. -/
def deepReplace (block : Nat) (s : State) : State :=
  let old := s.deepBlock block
  let spare := Reg.MIR_SPARE_DEEP_FREE.reset - s.r Reg.MIR_SPARE_DEEP_FREE
  let s := deepRetire old (s.modMem fun m => { m with deepMap := SMap.insert m.deepMap block spare })
  let s := (s.w Reg.MIR_SPARE_DEEP_FREE (s.r Reg.MIR_SPARE_DEEP_FREE - 1)).spareUsed
  s.when_ (s.r Reg.MIR_SPARE_DEEP_FREE == 163) fun s => s.raise Evt.SPARES_LOW [.code 2]

/-- A block fails an erase or a program: retired, its data placed in a spare; with no spare left it is retired all the same and the
write session ends with error MEDIUM (R369, Table 02-6). -/
def deepBlockFail (block : Nat) (s : State) : State :=
  if s.r Reg.MIR_SPARE_DEEP_FREE = 0 then
    let old := s.deepBlock (block % 16384)
    let s := if old ∈ s.mem.retired then s else (deepRetire old s).raise Evt.DEEP_RETIRED [.code (block % 16384)]
    if s.sessionOpen ∧ 2 ≤ s.r Reg.IMG_WRITE_STATUS_TARGET then endSession s ImgErr.medium 0 else s
  else (deepReplace (block % 16384) s).raise Evt.DEEP_RETIRED [.code (block % 16384)]

/-- A block that needs more corrected bits than DEEP_REFRESH is rewritten into a spare block. -/
def deepRefresh (s : State) (x : Nat × Nat) : State :=
  if x.2 ≤ s.r Reg.MIR_CFG_DEEP_REFRESH ∨ s.r Reg.MIR_SPARE_DEEP_FREE = 0 then s
  else (deepReplace (x.1 % 16384) s).raise Evt.DEEP_REFRESH [.code (x.1 % 16384)]

/-- An uncorrectable error in a core bank or deep slot sets it FAILED (R62). -/
def storeAtRisk (s : State) (target : Nat) : State :=
  (s.w (sealField (target % 4)) 3).raise Evt.STORE_AT_RISK [.code (target % 4)]

/-! ### Scrubs and the loupe's other tasks (Table 12-5) -/

/-- A scrub of the near store or the table store: the offsets of the words it corrected and of those it could not. -/
def storeScrub (table : Bool) (corrected uncorr : List Nat) (s : State) : State :=
  if table && s.parked then s
  else
    let s := errorWindow (loupeRan (b2n table) s)
    uncorr.foldl (uncorrAt table) (corrected.foldl (correctedAt table) s)

/-- A record of the system region is damaged and so reads as absent (R370, log entry 126): a seal record leaves its bank or slot EMPTY,
the activation record the module without a designation, a key slot empty, the certificate not intact; what a start reads is absent to
the next one. -/
def recordLost (r : SysRecord) (s : State) : State :=
  match r with
  | .seal t =>
    if s.r (sealField (t % 4)) = 1 then s
    else { s with img := { s.img with seals := setAt s.img.seals (t % 4) {} {} } }.w (sealField (t % 4)) 0
  | .activation => { s with img := { s.img with activated := false } }
  | .keySlot n => { s with sec := { s.sec with keys := setAt s.sec.keys n none none } }
  | .certificate => { s with sec := { s.sec with certOk := false } }
  | .other => s
  | r => s.modMem fun m => { m with lost := r :: m.lost.filter (· != r) }

/-- An uncorrectable word of the keep store: in a core bank it fails the bank, elsewhere it is reported with its offset (R370). -/
def keepUncorr (s : State) (o : Nat) : State :=
  if o < 0x600000 then storeAtRisk s 0
  else if o < 0xC00000 then storeAtRisk s 1
  else if o < 0xE00000 then
    ({ s.took with keep := memWrite s.keep (o / 4 * 4) (leBytes 4 (s.freeNat 32)) }).raise Evt.KEEP_UNCORR [.qty o]
  else (recordLost (Config.systemRecord (o / 4 * 4)) s).raise Evt.KEEP_UNCORR [.qty o]

/-- The keep-store scrub. -/
def keepScrub (uncorr : List Nat) (s : State) : State := uncorr.foldl keepUncorr (loupeRan 2 s)

/-- The patrol read of the deep store: blocks with the most corrected bits found in a page of each, and the deep slots with an
uncorrectable page (R369). -/
def deepPatrol (blocks : List (Nat × Nat)) (slots : List Nat) (s : State) : State :=
  (slots.map fun n => 2 + n % 2).foldl storeAtRisk (blocks.foldl deepRefresh (loupeRan 3 s))

/-! ### Meanings -/

/-- MEMORY_UNCORRECTABLE (R368). -/
def execMemoryUncorrectable (table : Bool) (offset : Nat) (facet : Option Nat) (s : State) : Res :=
  (memoryUncorrectable table offset facet s).done
/-- MEMORY_REMAP_START (R368). -/
def execMemoryRemapStart (table : Bool) (row : Nat) (margin : Bool) (s : State) : Res := (remapStart table row margin s).done
/-- MEMORY_REMAP_SWITCH (R368). -/
def execMemoryRemapSwitch (s : State) : Res := (remapSwitch s).done
/-- DEEP_BLOCK_FAIL (R369). -/
def execDeepBlockFail (block : Nat) (s : State) : Res := (deepBlockFail block s).done
/-- NEAR_STORE_SCRUB (R372). -/
def execNearStoreScrub (corrected uncorr : List Nat) (s : State) : Res := (storeScrub false corrected uncorr s).done
/-- TABLE_STORE_SCRUB (R55). -/
def execTableStoreScrub (corrected uncorr : List Nat) (s : State) : Res := (storeScrub true corrected uncorr s).done
/-- KEEP_STORE_SCRUB (R370). -/
def execKeepStoreScrub (uncorr : List Nat) (s : State) : Res := (keepScrub uncorr s).done
/-- DEEP_STORE_PATROL (R369). -/
def execDeepStorePatrol (blocks : List (Nat × Nat)) (slots : List Nat) (s : State) : Res := (deepPatrol blocks slots s).done
/-- TELEMETRY (R372): the loupe's task 8; the recorder's values enter at their own occurrences (Table 13-4). -/
def execTelemetry (s : State) : Res := (loupeRan 8 s).done

end Sys2Proof.Machine
end

