-- ==== Sys2Proof/Machine/Logs.lean ====
section
/-! DEFINITION. The trouble log's own commands and failures, the recorder's commands, the host queue, the counter map and the
apertures (file 13). -/

namespace Sys2Proof.Machine

/-! ### The host queue (R377) -/

/-- A read of EVT_Q_SRC: the oldest entry is removed, its argument and time latched into the path's shadow; EMPTY of an empty
queue. -/
def evtQRead (p : Path) (s : State) : State :=
  match s.ev.queue with
  | [] => s.answerRead p (2 ^ 31)
  | x :: rest =>
    let s := { s with ev := { s.ev with queue := rest } }
    let s := s.latch p [(0xD000C, x.arg), (0xD0010, x.time % 2 ^ 32), (0xD0014, x.time / 2 ^ 32)]
    s.answerRead p (x.src + 2 ^ 9 * b2n x.fault)

/-! ### The trouble log (R384 to R388) -/

/-- The bytes of a record (Table 13-1). -/
def LogRec.bytes (x : LogRec) : List Byte :=
  leBytes 2 x.code ++ leBytes 2 x.rep ++ leBytes 6 x.optime ++ leBytes 6 x.last ++ leBytes 4 x.arg ++ leBytes 4 x.pcc ++
  leBytes 8 x.wall

/-- Little-endian words of a byte string. -/
def wordsOf (bs : List Byte) : List Nat := (List.range (bs.length / 4)).map fun i => leAt bs (4 * i) 4

/-- LOG_CMD CLEAR: the active region is emptied and LOG_CLEARED is record 0 (R388). -/
def logClear (confirm : Nat) (s : State) : State :=
  if confirm ≠ 0x1C8B then s
  else
    let n := s.log.recs.length
    let l := { s.log.setRecs [] with next := 0, oldest := 0, wrapped := false, wrapSaid := false }
    let s := { s with log := logWrite (logRecord s Evt.LOG_CLEARED n) l }
    { s with raised := s.raised ++ [{ evt := Evt.LOG_CLEARED, arg := n, how := .written }] }

/-- A write of LOG_WALL_SET_HI (R384, R385). -/
def logWallSet (p : Path) (hi : Nat) (s : State) : State :=
  if s.ptpLocked then s.wb Reg.LOG_WALL_STATUS_HOST_REFUSED true
  else
    let ns := (s.path p).wallLo + 2 ^ 32 * (hi % 2 ^ 32)
    let old := s.wall.ns
    let first := s.wall.source == 0
    clockStep ns old (if first then 1 else 4) { s with wall := { source := 2, ns := ns } }

/-- The record number at a place of the main region: of the record it holds, or of the next one written there. -/
def LogState.numberAt (l : LogState) (offset : Nat) : Nat :=
  let slot := offset / 32 % 65536
  match l.main.find? fun x => x.num % 65536 == slot with
  | some x => x.num
  | none => l.next + (slot + 65536 - l.next % 65536) % 65536

/-- An uncorrectable error in the main region: the first one moves logging to the spare region (R386). -/
def logMediumFail (addr offset syndrome : Nat) (s : State) : State :=
  let s := remapDue false (addr % 2 ^ 25 / 1024) s
  let l := { s.log with failMain := satN 16 (s.log.failMain + 1), bad := offset / 4 * 4 :: s.log.bad }
  if s.log.region ≠ 0 then { s with log := l }
  else
    let last := match s.log.main with
      | x :: _ => wordsOf (x.bytes.take 24)
      | [] => List.replicate 6 0
    let l := { l with
      lw := [addr % 2 ^ 32, syndrome % 2 ^ 16 + 2 ^ 16 * (s.log.numberAt offset % 2 ^ 16)] ++ last,
      region := 1, spare := [], oldest := l.next }
    let arg := offset % 2 ^ 32
    let s := { s with log := logWrite (logRecord s Evt.LOG_MEDIUM_FAIL arg) l }
    recCounter 8 0 1 { s with raised := s.raised ++ [{ evt := Evt.LOG_MEDIUM_FAIL, arg := arg, how := .written }] }

/-- Where the words of the spare region begin among those of the log's two regions: behind the 65,536 records of 32 B of the main
region. -/
def spareBase : Nat := 65536 * 32

/-- An uncorrectable error in the spare region stops logging (R387). -/
def logStopped (offset : Nat) (s : State) : State :=
  let s := { s with log := { s.log with
    failSpare := satN 16 (s.log.failSpare + 1), bad := (spareBase + offset / 4 * 4) :: s.log.bad } }
  if s.log.stopped then s
  else recCounter 8 1 1 ({ s with log := { s.log with stopped := true } }.raise Evt.LOG_STOPPED [.qty offset])

/-! ### The recorder's commands (R390, R392) -/

/-- The commit due every 10 s of operating time. -/
def recorderCommit (bad : Option Nat) (s : State) : State := if s.since s.rcd.lastAt < 10000000 then s else recCommit bad s

/-- LOG_REC_CMD CLEAR. -/
def logRecClear (confirm : Nat) (bad : Option Nat) (s : State) : State := if confirm = 0x72E4 then recClear bad s else s

/-! ### The counter map (R344, R395) -/

/-- The counters of the module, in ascending address order (log entry 28). -/
def counterFields : List Field :=
  [Reg.IMG_WRITE_STATUS_FOREIGN, Reg.DSP_BP_COUNT_READY_FULL, Reg.DSP_BP_COUNT_DELAY_FULL, Reg.DSP_BP_COUNT_TICKS_MERGED,
   Reg.DSP_BP_COUNT_DISABLED_HIT, Reg.DSP_BP_COUNT_DOORBELL_LOST, Reg.DSP_OVERRUNS, Reg.DSP_COUNTER_FIRES,
   Reg.DSP_RELAY_COUNT_RELAYS,
   Reg.DSP_RELAY_COUNT_FAULT_RELAYS] ++
  (List.range 112).flatMap (fun i => [Reg.DSP_FCT_ITEMS i, Reg.DSP_FCT_ECC_CORRECTED i, Reg.DSP_FCT_ECC_UNCORRECTED i]) ++
  (List.range 2).flatMap (fun i => [Reg.PFE_SC_INDEX_MISSING i]) ++
  (List.range 6).flatMap (fun i => [Reg.PFE_QD_STATUS_ILL_COUNT i]) ++
  (List.range 2).flatMap (fun i => [Reg.PFE_SSI_STATUS_BAD_COUNT i]) ++
  [Reg.RET_FIRE_COUNT, Reg.RET_EXC_COUNT_WITHHELD, Reg.RET_EXC_COUNT_LATE, Reg.RET_EXC_COUNT_CONFLICT,
   Reg.RET_EXC_COUNT_POST_LOST, Reg.TRIP_LIMIT_STATUS_VIOLATIONS, Reg.TRIP_REQ_COUNT_RUN, Reg.TRIP_REQ_COUNT_QUEUED,
   Reg.TRIP_REQ_COUNT_REFUSED, Reg.TRIP_REQ_COUNT_DEMOTED, Reg.TRIP_SEP_COUNT_STOPS, Reg.TRIP_SEP_COUNT_HARD,
   Reg.LOOP_SUBST_COUNT_SUBST, Reg.LOOP_SUBST_COUNT_MISMATCH] ++
  (List.range 6).flatMap (fun i => [Reg.LOOP_STATE_LIMITED_COUNT i]) ++
  (List.range 4).flatMap (fun i => [Reg.LOOP_DOOR_STATUS_REV_COUNT i, Reg.LOOP_DOOR_OBS_REVERSALS i]) ++
  [Reg.LOOP_DL_ERRORS_NODE1, Reg.LOOP_DL_ERRORS_NODE2, Reg.SAF_PERIOD, Reg.SAF_PRISM_COUNT_MISSED,
   Reg.SAF_PRISM_COUNT_UNEQUAL, Reg.SAF_TEST_STATUS_SEQUENCES, Reg.SAF_TEST_COUNT_ABORTED, Reg.SAF_TEST_COUNT_SKIPPED,
   Reg.SAF_TEST_COUNT_FAILED, Reg.SAF_LOCK_CHECK_MISSES, Reg.SAF_RESET_COUNT_ACCEPTED, Reg.SAF_RESET_COUNT_REFUSED,
   Reg.FIO_TEST_COUNT_ABORTED, Reg.FIO_TEST_COUNT_SKIPPED, Reg.FIO_TEST_COUNT_FAILED, Reg.FIO_TEST_COUNT_SEQUENCES,
   Reg.FIO_HOLD_COUNT_HOLDS, Reg.FIO_CPL_LANE_ERRORS, Reg.FIO_CPL_COUNT_TAKEOVERS, Reg.FIO_CPL_COUNT_FAILURES, Reg.NET_NBR_COUNT_TIMEOUTS,
   Reg.NET_NBR_COUNT_STALE, Reg.NET_PATH_COUNT_MISMATCH, Reg.NET_PATH_COUNT_EXPIRED, Reg.NET_PATH_COUNT_SINGLE,
   Reg.NET_PATH_COUNT_CRC_ERR, Reg.NET_PORT_A1_FCS_ERR, Reg.NET_PORT_A1_DROPPED, Reg.NET_PORT_A2_FCS_ERR,
   Reg.NET_PORT_A2_DROPPED, Reg.NET_PORT_B1_FCS_ERR, Reg.NET_PORT_B1_DROPPED, Reg.NET_PORT_B2_FCS_ERR,
   Reg.NET_PORT_B2_DROPPED, Reg.NET_FOREIGN_FOREIGN, Reg.NET_FOREIGN_STALE, Reg.NET_SNAP_COUNT_TAKEN,
   Reg.NET_SNAP_COUNT_REFUSED, Reg.NET_SNAP_COUNT_UNLOCKED, Reg.NET_RESET_ABANDONED, Reg.NET_REQ_COUNT_REQUESTS,
   Reg.NET_REQ_COUNT_REPEATS, Reg.MIR_LINK_CRC_ERR, Reg.MIR_LINK_MISSED, Reg.MIR_SHADOW_MISMATCHES, Reg.MIR_COUNT_TAKEOVERS,
   Reg.MIR_COUNT_HANDOVERS, Reg.MIR_SPARE_NEAR_REMAPS, Reg.MIR_SPARE_TABLE_REMAPS, Reg.MIR_SPARE_DEEP_RETIRED,
   Reg.MIR_ECC_NEAR, Reg.MIR_ECC_TABLE, Reg.MIR_LOUPE_LATE_EVENTS, Reg.LOG_STATUS_THROTTLED, Reg.LOG_OVERWRITTEN,
   Reg.LOG_FAIL_COUNT_MAIN, Reg.LOG_FAIL_COUNT_SPARE, Reg.LOG_REC_STATUS_DISCARDED, Reg.LOG_AP_STATUS_SKIPPED,
   Reg.EVT_Q_STATUS_LOST, Reg.EVT_FRAME_STATUS_LOST, Reg.EVT_COUNT, Reg.PWR_DIM_COUNT_ENTER_200, Reg.PWR_DIM_COUNT_ENTER_100,
   Reg.PWR_PCC, Reg.SEC_KEY_COUNT_ENROLLED, Reg.SEC_KEY_COUNT_REMOVED, Reg.SEC_RNG_STATUS_FAILS]

/-- An entry of the counter map. -/
def mapEntry (f : Field) : Nat := f.addr % 2 ^ 20 + 2 ^ 20 * f.lo + 2 ^ 25 * (f.width - 1)

/-- The counter map. -/
def counterMap : List Byte :=
  leBytes 2 counterFields.length ++ List.replicate 14 0 ++ counterFields.flatMap fun f => leBytes 4 (mapEntry f)

/-- A snapshot bank's content. -/
def Snap.bytes (x : Snap) : List Byte :=
  leBytes 2 x.tag ++ leBytes 1 (b2n x.unlocked) ++ leBytes 1 0 ++ leBytes 8 x.instant ++ leBytes 6 x.optime ++ leBytes 2 0 ++
  leBytes 2 x.words.length ++ List.replicate 42 0 ++ x.words.flatMap fun w => leBytes 4 w

/-! ### The aperture (R393, R394, R396) -/

/-- The words of a record as the aperture shows it: those that lie on a failed word read as all ones (R368, R386). -/
def LogState.wordsAt (l : LogState) (main : Bool) (x : LogRec) : List Nat :=
  let base := if main then x.num % 65536 * 32 else spareBase + x.num % 8192 * 32
  (wordsOf x.bytes).zipIdx.map fun w => if l.bad.elem (base + 4 * w.2) then 2 ^ 32 - 1 else w.1

/-- The 8 records of a region from a record number on; one that is absent reads with PRESENT 0 in its place, and what lies beyond the
last is no part of the window. -/
def LogState.window (g : LogState) (main : Bool) (l : List LogRec) (n : Nat) : List Nat :=
  let rs := (List.range 8).map fun i => l.find? fun x => x.num == (n + i) % 2 ^ 32
  (rs.reverse.dropWhile (·.isNone)).reverse.flatMap fun x => match x with
    | some x => g.wordsAt main x
    | none => List.replicate 8 0

/-- Number of the oldest record that the main region held when it failed. -/
def LogState.mainOldest (g : LogState) : Nat :=
  match g.main.getLast? with
  | some x => if g.region = 0 then 0 else x.num
  | none => 0

/-- One window of 256 B of a byte string. -/
def windowOf (bs : List Byte) (cursor : Nat) : List Nat := wordsOf ((bs.drop (256 * cursor)).take 256)

/-- A snapshot bank's content as source 3 to 6; an EMPTY bank has none. -/
def State.bankBytes (s : State) (b : Nat) : List Byte := if s.bank b = 0 then [] else (nth s.net.banks b {}).bytes

/-- A recorder window: 256 B of the newer valid copy of a slot, zeros for a slot without one and for an unused
slot. -/
def State.recWindow (s : State) (cursor : Nat) : List Nat :=
  if 4096 ≤ cursor then []
  else if s.rcd.slots.length ≤ cursor / 16 then List.replicate 64 0
  else match s.recNewer (cursor / 16) with
    | some c => wordsOf (memRead s.keep (recBase (cursor / 16) c + 256 * (cursor % 16)) 256)
    | none => List.replicate 64 0

/-- A change of a path's aperture. -/
def State.modAp (s : State) (p : Path) (f : Aperture → Aperture) : State := s.setPath p { s.path p with ap := f (s.path p).ap }

/-- The window buffer takes words. -/
def Aperture.take (a : Aperture) (ws : List Nat) : Aperture :=
  { a with filling := false, ready := true, gap := false, words := ws.length, win := ws }

/-- The first fill from a FULL bank makes it READING (R396). -/
def bankReading (p : Path) (b : Nat) (s : State) : State :=
  if s.bank b = 1 then (setBank b 2 s).modAp p fun a => { a with reading := true } else s

/-- A window of the trouble log: 8 records from the cursor, or from the region's oldest one where the cursor's has been overwritten; the
records skipped are counted (R394). -/
def Aperture.takeLog (oldest : Nat) (window : Nat → List Nat) (a : Aperture) : Aperture :=
  let skip := (oldest + 2 ^ 32 - a.cursor) % 2 ^ 32
  let gap := decide (0 < skip) && decide (skip < 2 ^ 31)
  let from_ := if gap then oldest else a.cursor
  { a.take (window from_) with cursor := from_, gap := gap, skipped := if gap then satN 16 (a.skipped + skip) else a.skipped }

/-- The fill of a path's window buffer (R394). -/
def apFill (p : Path) (s : State) : State :=
  let a := (s.path p).ap
  let g := s.log
  if !a.filling then s
  else if a.sel = 0 then s.modAp p (Aperture.takeLog g.oldest (g.window (g.region == 0) g.recs))
  else if a.sel = 1 then
    if g.region = 0 then s.modAp p fun a => a.take [] else s.modAp p (Aperture.takeLog g.mainOldest (g.window true g.main))
  else if a.sel = 2 then s.modAp p fun a => a.take (s.recWindow a.cursor)
  else if a.sel = 7 then s.modAp p fun a => a.take (windowOf counterMap a.cursor)
  else (bankReading p (a.sel - 3) s).modAp p fun a => { a.take (windowOf (s.bankBytes (a.sel - 3)) a.cursor) with fresh := true }

/-- A READING bank returns to FULL when the path that read it selects another source (R396). -/
def bankLeft (p : Path) (s : State) : State :=
  let a := (s.path p).ap
  let s' := s.modAp p fun a => { a with reading := false }
  if a.reading && decide (3 ≤ a.sel) && s.bank (a.sel - 3) == 2 then setBank (a.sel - 3) 1 s' else s'

/-- The cursor's start value (Table 13-5). -/
def State.apStart (s : State) (source : Nat) : Nat :=
  if source = 0 then s.log.oldest
  else if source = 1 then s.log.mainOldest
  else 0

/-- A write of LOG_AP_SEL (R393). -/
def apSelect (p : Path) (source : Nat) (s : State) : State :=
  let s := if (s.path p).ap.sel = source then s else bankLeft p s
  s.modAp p fun a => { a with sel := source, cursor := s.apStart source, filling := true, ready := false }

/-- A write of LOG_AP_CURSOR (R393). -/
def apCursor (p : Path) (cursor : Nat) (s : State) : State :=
  s.modAp p fun a => { a with cursor := cursor, filling := true, ready := false }

/-- The bank becomes READ when any path reads the window word that holds its last counter (R396). -/
def bankRead (p : Path) (w : Nat) (s : State) : State :=
  let a := (s.path p).ap
  if a.sel < 3 ∨ a.sel = 7 ∨ !a.fresh ∨ s.bank (a.sel - 3) = 0 then s
  else if 64 * a.cursor + w = 15 + (nth s.net.banks (a.sel - 3) {}).words.length then setBank (a.sel - 3) 3 s else s

/-- A read of window word w; word 63 then advances the cursor by one window and starts the next fill (R394). -/
def apRead (p : Path) (w : Nat) (s : State) : State :=
  let s := s.answerRead p (nth (s.path p).ap.win w 0)
  let s := bankRead p w s
  if w ≠ 63 then s
  else s.modAp p fun a => { a with
    cursor := (a.cursor + (if a.sel < 2 then 8 else 1)) % 2 ^ 32, filling := true, ready := false }

/-- An access of a path to its aperture: while the window buffer is being filled, a host-port frame is answered NOT_READY and does
nothing more, and a management access waits for the fill (R30, R394). -/
def State.apAccess (s : State) (p : Path) (f : State → State) : State :=
  if !(s.path p).ap.filling then f s else match p with
    | .host => s
    | .mgmt _ _ => f (apFill p s)

/-! ### Meanings -/

/-- EVT_Q_SRC_READ (R377). -/
def execEvtQSrcRead (path : Path) (s : State) : Res := (s.servedOn path (evtQRead path)).done
/-- LOG_CMD_CLEAR (R388). -/
def execLogCmdClear (confirm : Nat) (s : State) : Res := (s.served (logClear confirm)).done
/-- LOG_WALL_SET (R384). -/
def execLogWallSet (path : Path) (hi : Nat) (s : State) : Res := (s.served (logWallSet path hi)).done
/-- LOG_MEDIUM_FAIL (R386). -/
def execLogMediumFail (addr offset syndrome : Nat) (s : State) : Res := (logMediumFail addr offset syndrome s).done
/-- LOG_STOPPED (R387). -/
def execLogStopped (offset : Nat) (s : State) : Res := (logStopped offset s).done
/-- RECORDER_COMMIT (R390). -/
def execRecorderCommit (uncorr : Option Nat) (s : State) : Res := (recorderCommit uncorr s).done
/-- LOG_REC_CMD_COMMIT (R390). -/
def execLogRecCmdCommit (uncorr : Option Nat) (s : State) : Res := (s.served (recCommit uncorr)).done
/-- LOG_REC_CMD_CLEAR (R392). -/
def execLogRecCmdClear (confirm : Nat) (uncorr : Option Nat) (s : State) : Res := (s.served (logRecClear confirm uncorr)).done
/-- APERTURE_SELECT (R393). -/
def execApertureSelect (path : Path) (source : Nat) (s : State) : Res := (s.servedOn path fun s => s.apAccess path (apSelect path (source % 8))).done
/-- APERTURE_CURSOR (R393). -/
def execApertureCursor (path : Path) (cursor : Nat) (s : State) : Res := (s.servedOn path fun s => s.apAccess path (apCursor path (cursor % 2 ^ 32))).done
/-- APERTURE_FILL (R394). -/
def execApertureFill (path : Path) (s : State) : Res := (apFill path s).done
/-- APERTURE_ADVANCE (R394): a read of LOG_AP_WIN_63. -/
def execApertureAdvance (path : Path) (s : State) : Res := (s.servedOn path fun s => s.apAccess path (apRead path 63)).done

end Sys2Proof.Machine
end

