-- ==== Sys2Proof/Machine/Pwr.lean ====
section
/-! DEFINITION. Supply, clocks, Dim, Parked, temperature and the FACET reset (file 14, R399 to R407, R412, R416, R417). -/

namespace Sys2Proof.Machine

/-- The power state changed. -/
def State.modPwr (s : State) (f : PwrState → PwrState) : State := { s with pwr := f s.pwr }

/-! ### Dim (R403, R404) -/

/-- The comparators of Table 14-4 that hold: X1 below 20.0 V, below 19.4 V, droop above 4 %, above 6 %. -/
def dimCause (vinMv coreMv : Nat) : Nat :=
  ofBits [decide (vinMv < 20000), decide (vinMv < 19400), decide (coreMv < 768), decide (coreMv < 752)]

/-- The step that comparators call for. -/
def dimEntry (cause : Nat) : Nat := if bitAt cause 1 || bitAt cause 3 then 2 else if cause = 0 then 0 else 1

/-- A new step, reported and counted. -/
def dimStep (step cause : Nat) (s : State) : State :=
  let s := ((s.w Reg.PWR_STATUS_STEP step).w Reg.PWR_STATUS_DIM_CAUSE cause).modPwr fun x => { x with exitAt := none }
  let s := if step = 1 then recCounter 6 2 1 (s.inc Reg.PWR_DIM_COUNT_ENTER_200)
    else if step = 2 then recCounter 6 3 1 (s.inc Reg.PWR_DIM_COUNT_ENTER_100) else s
  s.raise Evt.DIM_STEP [.code step, .code cause]

/-- The exit thresholds of a step hold (Table 14-4). -/
def dimExit (step vinMv coreMv : Nat) : Bool :=
  if step = 1 then decide (20300 ≤ vinMv) && decide (776 < coreMv)
  else step == 2 && decide (19700 ≤ vinMv) && decide (760 < coreMv)

/-- What the supply shows of the present step's exit thresholds: met, the millisecond of R404 runs on or begins; not met, a crossing
back, it begins anew when they are met again. -/
def dimWatch (vinMv coreMv : Nat) (s : State) : State :=
  s.modPwr fun x => { x with exitAt := if dimExit (s.r Reg.PWR_STATUS_STEP) vinMv coreMv then some (s.pwr.exitAt.getD s.optime) else none }

/-- A comparator crossing: the slowest step for which a condition holds, never a faster one. -/
def dimDown (vinMv coreMv : Nat) (s : State) : State :=
  let cause := dimCause vinMv coreMv
  let step := max (s.r Reg.PWR_STATUS_STEP) (dimEntry cause)
  dimWatch vinMv coreMv (if s.r Reg.PWR_STATUS_STEP < step then dimStep step cause s else s.w Reg.PWR_STATUS_DIM_CAUSE cause)

/-- One step faster after 1 ms continuously above the exit thresholds, each step with its own full 1 ms; thresholds first met here begin
the millisecond (R404). -/
def dimUp (vinMv coreMv : Nat) (s : State) : State :=
  let s := dimWatch vinMv coreMv s
  match s.pwr.exitAt with
  | none => s
  | some t =>
    if s.since t < 1000 then s
    else dimWatch vinMv coreMv (dimStep (s.r Reg.PWR_STATUS_STEP - 1) (dimCause vinMv coreMv) s)

/-! ### Supply (R399, R408, R417) -/

/-- The band of a voltage in 0.1 V (Table 14-2). -/
def vinBand (v : Nat) : Nat := if v < 160 then 3 else if v < 192 then 1 else if v ≤ 300 then 0 else 2

/-- The band X1 moves to from a band: a move toward NORMAL needs 0.3 V inside the threshold crossed (R399). -/
def vinNext (now v : Nat) : Nat :=
  let b := vinBand v
  if now = 3 then if b = 3 ∨ v < 163 then 3 else if b = 0 ∧ v < 195 then 1 else b
  else if now = 1 then if b = 0 ∧ v < 195 then 1 else b
  else if now = 2 then if b = 0 ∧ 297 < v then 2 else b
  else b

/-- A 50 µs measurement of X1, 0.1 V; the 20th consecutive sample in another band makes it the new one (R399). A
voltage below the exit threshold of the Dim step breaks its millisecond (R404). -/
def vinSample (v : Nat) (s : State) : State :=
  let v := min v 1023
  let s := recSupply 0 v ((s.w Reg.PWR_VIN_VIN v).w Reg.PWR_VIN_MIN (min (s.r Reg.PWR_VIN_MIN) v))
  let s := if 160 ≤ v then s.wb Reg.PWR_STATUS_PWR_FAIL false else s
  let s := if dimExit (s.r Reg.PWR_STATUS_STEP) (100 * v) 800 then s else s.modPwr fun x => { x with exitAt := none }
  let b := vinNext (s.r Reg.PWR_STATUS_VIN_BAND) v
  let run := if s.pwr.vin.1 = b then min 65535 (s.pwr.vin.2 + 1) else 1
  let s := s.modPwr fun x => { x with vin := (b, run) }
  if b = s.r Reg.PWR_STATUS_VIN_BAND ∨ run < 20 then s
  else (s.w Reg.PWR_STATUS_VIN_BAND b).raise Evt.VIN_BAND [.code b, .qty v]

/-- X1 falls below 16.0 V; the class K operating seconds stand in the keep store from here on (R408), and the bypass relays close
(R313). -/
def powerFail (s : State) : State := bypassClose (s.wb Reg.PWR_STATUS_PWR_FAIL true)

/-- A rail more than 4 % below nominal: 0 core, 1 I/O, 2 retention, mV (R417). The core's nominal is 800 mV (R403). -/
def railWarn (rail mv : Nat) (s : State) : State :=
  if rail = 0 ∧ 768 ≤ mv then s
  else
    let f := if rail = 0 then Reg.PWR_RAILS_CORE else if rail = 1 then Reg.PWR_RAILS_IO else Reg.PWR_RETENTION
    (s.w f (satN 12 mv)).raise Evt.RAIL_WARN [.code rail, .qty mv]

/-! ### PLLs (R400 to R402) -/

/-- The lock bit of a PLL. -/
def pllLock (p : Nat) : Field := if p = 0 then Reg.PWR_CLOCK_PLL0_LOCK else Reg.PWR_CLOCK_PLL1_LOCK

/-- A PLL is fenced. -/
def State.pllFenced (s : State) (p : Nat) : Bool := bitAt (s.r Reg.PWR_CLOCK_FENCED) p

/-- A PLL is fenced in its class K record. -/
def fencePll (p : Nat) (s : State) : State := s.w Reg.PWR_CLOCK_FENCED (setBit (s.r Reg.PWR_CLOCK_FENCED) p true)

/-- The switch to the spare PLL; the old one is fenced, and the last spare is in use (R400, R371). -/
def pllSwitch (reason : Nat) (s : State) : State :=
  let old := s.r Reg.PWR_STATUS_PLL_IN_SERVICE
  let s := ((fencePll old s).w Reg.PWR_STATUS_PLL_IN_SERVICE (1 - old)).wb Reg.PWR_STATUS_SPARE_OK false
  (s.spareUsed.raise Evt.PLL_SWITCH [.code old, .code (1 - old), .code reason]).raise Evt.SPARES_LOW [.code 6]

/-- Lock lost, or the timebase of the PLL in service more than 0.2 % from lane A's clock, in ppm (R400). -/
def pllCheck (lockLost : Bool) (dev : Int) (s : State) : State :=
  let s := s.wi Reg.PWR_CLOCK_TB_DEV (satI 16 dev)
  let s := s.when_ lockLost fun s => s.wb (pllLock (s.r Reg.PWR_STATUS_PLL_IN_SERVICE)) false
  if (lockLost || decide (2000 < mag dev)) && s.rb Reg.PWR_STATUS_SPARE_OK then pllSwitch (if lockLost then 0 else 1) s else s

/-- The jitter margins of PLL0 and PLL1 with their verdicts, and the spare's lock (R401). -/
def pllMargins (margins : List Nat) (passes : List Bool) (spareLocked : Bool) (s : State) : State :=
  let p := s.r Reg.PWR_STATUS_PLL_IN_SERVICE
  let q := 1 - p
  let s := s.w Reg.PWR_CLOCK_MARGIN (satN 8 (nth margins p 0))
  if !s.rb Reg.PWR_STATUS_SPARE_OK then s
  else if !(spareLocked && nth passes q true) then
    ((fencePll q (s.wb (pllLock q) (spareLocked && s.rb (pllLock q)))).wb Reg.PWR_STATUS_SPARE_OK false).raise Evt.PLL_SPARE_FAIL [.code q]
  else if !nth passes p true then
    let s := pllSwitch 2 s
    s.w Reg.PWR_CLOCK_MARGIN (satN 8 (nth margins q 0))
  else s

/-- The lowest-numbered PLL that is not fenced and locks goes into service, the other one is the spare (R400); none if neither
locks. -/
def pllStart (locks : List Bool) (s : State) : Option State :=
  let good := fun (p : Nat) => nth locks p false && !s.pllFenced p
  match [0, 1].find? good with
  | none => none
  | some p =>
    let s := ((s.wb (pllLock 0) (nth locks 0 false)).wb (pllLock 1) (nth locks 1 false)).wb Reg.PWR_CLOCK_REF_OK true
    some ((s.w Reg.PWR_STATUS_PLL_IN_SERVICE p).wb Reg.PWR_STATUS_SPARE_OK (p == 0 && good 1))

/-! ### Temperature (R416) -/

/-- The limit of a sensor, °C. -/
def tempLimit (i : Nat) : Field :=
  if i = 0 then Reg.PWR_TEMP_LIM_LIM0 else if i = 1 then Reg.PWR_TEMP_LIM_LIM1
  else if i = 2 then Reg.PWR_TEMP_LIM_LIM2 else Reg.PWR_TEMP_LIM_LIM3

/-- One sensor's reading, 0.1 °C: TEMP, MAX, the recorder, and TEMP_WARN once per excursion. -/
def tempRead (s : State) (x : Int × Nat) : State :=
  let v := satI 16 x.1
  let i := x.2
  let s := recTemp i v (s.wi (Reg.PWR_TEMP_TEMP i) v)
  let s := if s.ri (Reg.PWR_TEMP_MAX i) < v then s.wi (Reg.PWR_TEMP_MAX i) v else s
  let lim : Int := 10 * (s.r (tempLimit i) : Nat)
  let hot := nth s.pwr.hot i false
  let s := s.modPwr fun p => { p with hot := setAt p.hot i (if hot then decide (lim - 50 < v) else decide (lim < v)) false }
  s.when_ (!hot && decide (lim < v)) fun s => s.raise Evt.TEMP_WARN [.code i, .signed v]

/-- The four sensors are read once per second. -/
def temperatureRead (l : List Int) (s : State) : State := ((l.take 4).zipIdx).foldl tempRead s

/-! ### PWR_CMD (R405, R407, R411, R412) -/

/-- PWR_CMD_STATUS. -/
def pwrResult (cmd result reason : Nat) (s : State) : State :=
  ((s.w Reg.PWR_CMD_STATUS_CMD cmd).w Reg.PWR_CMD_STATUS_RESULT result).w Reg.PWR_CMD_STATUS_REASON reason

/-- A refused command. -/
def pwrRefuse (cmd reason : Nat) (s : State) : State := (pwrResult cmd 3 reason s).raise Evt.PWR_CMD_REFUSED [.code cmd, .code reason]

/-- A write of PWR_CMD takes effect only with its CONFIRM. -/
def pwrCmd (confirm : Nat) (f : State → State) (s : State) : State := if confirm = 0x9A5E then f s else s

/-- The reason a PARK is refused, 0 if it is accepted (R405). -/
def State.parkRefusal (s : State) : Nat :=
  let st := s.r Reg.TRIP_STATUS_STATE
  let off := [0, 1, 2, 3, 4, 5].all fun n => s.modeOf n == 0
  if !s.quiet then 1
  else if !(st == 5 || (st == 0 && s.trip.stops.isEmpty)) || !off || s.saf.bt.due || s.saf.bt.brake != 0 then 2
  else if s.r Reg.IMG_MODULE_STATE_PHASE ≠ 2 then 3
  else if !s.active then 4
  else if s.parked then 6
  else 0

/-- PWR_CMD PARK: a single module parks at once; in a pair both do at the start of the next car period, which the JOURNAL record
names (R405). -/
def cmdPark (s : State) : State :=
  match s.parkRefusal with
  | 0 =>
    if s.paired then ((pwrResult 3 1 0 s).journal (.park ((s.mir.k + 1) % 2 ^ 32))).modPwr fun x => { x with parkDue := true }
    else enterPark (pwrResult 3 2 0 s)
  | n => pwrRefuse 3 n s

/-- PWR_CMD UNPARK: an exit cause (R407). -/
def cmdUnpark (s : State) : State := (pwrResult 4 2 0 s).wake 2

/-- The class C fields of a facet's registers at their Reset values (R10, R12). -/
def clearFacetRegs (p : Nat) (s : State) : State :=
  (s.clear [Reg.DSP_FCT_CYCLES_LAST p, Reg.DSP_FCT_CYCLES_MAX p, Reg.DSP_FCT_ITEMS p, Reg.DSP_FCT_MARGIN_MARGIN p,
    Reg.DSP_FCT_ECC_CORRECTED p, Reg.DSP_FCT_ECC_UNCORRECTED p, Reg.DSP_FCT_STALL_LAST p, Reg.DSP_FCT_STALL_MAX p]).w
    (Reg.DSP_FCT_MARGIN_MIN p) 0xFF

/-- PWR_CMD FACET: the facet's items, registers, code and data as at its start; a relay of it that runs has failed (R91, R412). A
facet that a FAULT relay had stopped stays stopped (log entry 124, DESIGN CHOICE). -/
def facetReset (k p : Nat) (s : State) : State :=
  let s := if s.relayBusy && s.r Reg.DSP_RELAY_STATUS_LOGICAL == k then relayFail k (s.r Reg.DSP_RELAY_STATUS_REASON) s else s
  let was := (s.facet p).stopped
  let s := clearFacetRegs p (stopFacet p s)
  let s := s.modFacet p fun f => { f with
    stopped := was, testPass := false, code := nth s.dsp.graphs.code k [], data := nth s.dsp.graphs.data k [] }
  recCounter 9 3 1 (s.loupePort (nth s.dsp.fab.restart k 0))

/-- PWR_CMD FACET (R412). -/
def cmdFacet (k : Nat) (s : State) : State :=
  if s.parked then pwrRefuse 2 6 s
  else
    match s.physOf k with
    | none => pwrRefuse 2 5 s
    | some p =>
      if s.dsp.fab.allocCount ≤ k ∨ s.dsp.lost.elem k then pwrRefuse 2 5 s else facetReset k p (pwrResult 2 2 0 s)

/-! ### Leaving Parked (R407) -/

/-- The exit cause in force, if there is one: the first one seen, or what the state shows. -/
def State.exitCause (s : State) : Option Nat :=
  match s.pwr.exit with
  | some c => some c
  | none =>
    if 1000 < mag s.pos.sample.speed then some 4
    else if [0, 1].any fun i => s.nbrAddr i != 0 && s.r (nbrStateField i) != 0 then some 7
    else match s.dsp.timeList with
      | [] => none
      | e :: _ => if (e.expiry - s.optime).toNat ≤ 60 ∨ 2 ^ 47 ≤ (e.expiry - s.optime).toNat then some 8 else none

/-- The module leaves Parked; in a pair the active judges the causes. -/
def parkExit (s : State) : State :=
  if !s.parked || !s.active then s
  else match s.exitCause with
    | some c => exitPark c s
    | none => s

/-! ### The operating-time counter (R4) -/

/-- One µs of operating time; at the wrap the power-cycle count is incremented. -/
def optimeStep (s : State) : State :=
  let t := s.optime + 1
  { s with optime := t, pcc := if t = 0 then (s.pcc + 1) % 2 ^ 32 else s.pcc }

/-- The wrap after 2^48 µs. -/
def optimeWrap (s : State) : State := if s.optime + 1 = 0 then optimeStep s else s

/-! ### Meanings -/

/-- VIN_BAND (R399). -/
def execVinBand (volts : Nat) (s : State) : Res := (vinSample volts s).done
/-- DIM_STEP_DOWN (R403). -/
def execDimStepDown (vinMv coreMv : Nat) (s : State) : Res := (dimDown vinMv coreMv s).done
/-- DIM_STEP_UP (R404). -/
def execDimStepUp (vinMv coreMv : Nat) (s : State) : Res := (dimUp vinMv coreMv s).done
/-- PLL_SWITCH (R400). -/
def execPllSwitch (lockLost : Bool) (deviation : Int) (s : State) : Res := (pllCheck lockLost deviation s).done
/-- PLL_MARGIN_CHECK (R401). -/
def execPllMarginCheck (margins : List Nat) (passes : List Bool) (spareLocked : Bool) (s : State) : Res :=
  (pllMargins margins passes spareLocked s).done
/-- PWR_CMD_PARK (R405). -/
def execPwrCmdPark (confirm : Nat) (s : State) : Res := (s.served (pwrCmd confirm cmdPark)).done
/-- PWR_CMD_UNPARK (R407). -/
def execPwrCmdUnpark (confirm : Nat) (s : State) : Res := (s.served (pwrCmd confirm cmdUnpark)).done
/-- PWR_CMD_FACET (R412). -/
def execPwrCmdFacet (logical confirm : Nat) (s : State) : Res := (s.served (pwrCmd confirm (cmdFacet (logical % 128)))).done
/-- POWER_FAIL (R408). -/
def execPowerFail (s : State) : Res := (powerFail s).done
/-- TEMPERATURE_READ (R416). -/
def execTemperatureRead (readings : List Int) (s : State) : Res := (temperatureRead readings s).done
/-- OPTIME_WRAP (R4). -/
def execOptimeWrap (s : State) : Res := (optimeWrap s).done
/-- RAIL_WARN (R417). -/
def execRailWarn (rail mv : Nat) (s : State) : Res := (railWarn (rail % 3) mv s).done
/-- OUTPUT_CURRENT_LIMIT (R434). -/
def execOutputCurrentLimit (lane : Bool) (output : Nat) (s : State) : Res := (currentLimit (b2n lane) output s).done

end Sys2Proof.Machine
end

