-- ==== Sys2Proof/Machine/Sample.lean ====
section
/-! DEFINITION. The delivery of a car position sample to every consumer (R97): the channels, the position model, the door
samples (R98), the position list (R77), the mark sets and what their actions do at the actuators (R147). -/

namespace Sys2Proof.Machine

/-! ### Door samples (R98, R144, R216) -/

/-- The door sample of operator d with the counts latched at the tick: its position, and what the reticle and the speed window
keep of it. -/
def doorSample (x : RawSample) (d : Nat) (s : State) : State :=
  let q := s.doorChan d
  let p := if s.rb (Reg.PFE_QD_CFG_DOOR q) then qdPosition s q (nth x.qd q 0) else 0
  let s := { s with
    ret := { s.ret with
      doorPrev := setAt s.ret.doorPrev (d - 1) (s.door d).samples.head? none,
      doorOk := setAt s.ret.doorOk (d - 1) (s.doorHomed d) false },
    pos := { s.pos with doorPos := setAt s.pos.doorPos (d - 1) p 0 } }
  s.modDoor d fun o => { o with samples := (p :: o.samples).take 65 }

/-- The door samples of a tick whose OPTIME is divisible by 4, and the deck's position beside them. -/
def doorSamples (x : RawSample) (s : State) : State :=
  let s := [1, 2, 3, 4].foldl (fun s d => doorSample x d s) s
  let p := s.deckPosition (nth x.qd (s.r Reg.LOOP_DECK_CFG_CHANNEL) 0)
  s.modDeck fun k => { k with samples := (p :: k.samples).take 65 }

/-- The tick of a sample is one of the door samples' (R98). -/
def RawSample.doors (x : RawSample) : Bool := x.time.toNat % 4 == 0

/-! ### Entry to LOST, and the first position (R160, R183, R201) -/

/-- On entry to LOST the active module starts the controlled stop with cause LOSS, and its loop goes to FEEDFORWARD at rank 2, unless a
cut has put it OFF (R22, R149, R183, R201). -/
def lossStop (s : State) : State :=
  let off := s.trip.loopHeld && s.modeOf 0 == 0
  let s := ctrlStop StopCause.loss (s.when_ (s.active && !off) (reactSet 0))
  if s.active && !off then ((s.modeNext 0 5).holdLoop).journal (.mode 0 5) else s

/-- The first position after a reset, from CONTROL_READY on, is the evaluator's reference, and the car stop at which the car stands
(R56, R160, log entry 17). -/
def firstPosition (s : State) : State :=
  if s.trip.refSet || !s.controlReady || s.pos.sample.conf = 3 then s
  else
    let s := (s.modTrip fun t => { t with refSet := true }).modChan 0 fun c => c.place s.pos.sample.pos
    s.w Reg.TRIP_STATUS_CAR_STOP s.stopHere

/-! ### Actions (Table 05-3, R147, R148) -/

/-- An EVAL action: the evaluator of the set continues at the segment at its next step, unless a reaction holds the evaluator or the
door (R21, R149, R161, R220). -/
def evalAction (k seg : Nat) (s : State) : State :=
  if (s.chan k).stopPend.isSome || (s.set k).held || (k != 0 && (s.door k).rank2) then s
  else s.modChan k fun c => { c with evalPend := some seg }

/-- A LOOP action: the mode of the set's loop from its next period, unless a cut or a reaction has chosen the car's mode or holds the
door (R21, R22, R199, R220). -/
def loopAction (k mode : Nat) (s : State) : State :=
  if (if k = 0 then s.trip.loopHeld else (s.door k).rank2) then s else s.modeNext k mode

/-- A REQUEST action; a reaction that has withdrawn the drive and brake requests discards it (R22, R138). Against a cut the request
stands and the lanes refuse it (R149). -/
def requestAction (f : Nat) (on : Bool) (s : State) : State := if s.trip.reqHeld && f ≤ 3 then s else s.request f on

/-- What a surviving command does at its actuator. -/
def act (s : State) (c : Command) : State :=
  let a := c.fire.mark.action
  match c.target with
  | .output n => s.doCommand n (bitAt a 8)
  | .request f => requestAction f (bitAt a 8) s
  | .evaluator k => evalAction k (a % 256) s
  | .mode k => loopAction k (a % 16) s
  | .door d => if bitAt a 16 then doorStartCmd d (bits a 15 4) s else doorStopCmd d s
  | .slot k i => if bitAt a 16 then armSlot k i s else disarmSlot k i s
  | .program k => if bitAt a 0 then swapCommand k s else s
  | .capture n => capture n c.fire s

/-- The marks that fire on the sample: posts made, conflicts resolved, the surviving commands carried out (R147 to R150). -/
def fireMarks (fires : List Fire) (s : State) : State :=
  let x := resolveMarks fires (fires.foldl queuePost s)
  x.2.foldl act x.1

/-- The sets that are compared with a sample: the car set, and the door sets at a door sample. -/
def setsFor (x : RawSample) : List Nat := if x.doors then [0, 1, 2, 3, 4] else [0]

/-! ### Delivery -/

/-- Lane A receives the sample's position, speed, CONF and source, and the SC2 count (R97, R130). -/
def feedLane (s : State) : State :=
  let x := s.pos.sample
  s.modSaf fun f => { f with feed := { f.feed with
    pos := x.pos, speed := x.speed, conf := x.conf, source := x.source, sc2 := (s.scChan 1).count } }

/-- The channels, the model, the door samples and lane A's share of a delivery. -/
def deliverFront (x : RawSample) (s : State) : State :=
  let s := scDeliver (scDeliver s 0 (nth x.sc 0 { sin := 0, cos := 0 })) 1 (nth x.sc 1 { sin := 0, cos := 0 })
  let s := positionModel x.time (s.pmOf (s.mcWith fun q => nth x.qd q 0)) s
  let s := if x.doors then doorSamples x s else s
  feedLane { s with ret := { s.ret with seen := true } }

/-- A sample is delivered in cycle s to every consumer (R97). -/
def sampleDelivery (s : State) : State :=
  match s.pos.raw with
  | none => s
  | some x =>
    let was := s.pos.sample.conf
    let s := firstPosition (deliverFront x { s with pos := { s.pos with raw := none } })
    let s := if s.pos.sample.conf = 3 && was != 3 then lossStop s else s
    let s := if 1000 < mag s.pos.sample.speed then s.wake 4 else s
    let s := s.awake (posListExpiry s.pos.sample.pos s.pos.sample.speed)
    let r := (setsFor x).foldl compareSet (s, [])
    fireMarks r.2 r.1

/-- A reference-mark pulse that has ended gives a mark count that commits or is judged (R108, R109). -/
def referenceMark (ch : Nat) (s : State) : State :=
  match (s.scChan ch).mark with
  | none => s
  | some m =>
    let s := s.modSc ch fun x => { x with mark := none }
    if markTaken ch m.illegal s then onMark ch m.count s else s

/-! ### Meanings -/

/-- SAMPLE_DELIVERY (R97). -/
def execSampleDelivery (s : State) : Res := (sampleDelivery s).done
/-- REFERENCE_MARK (R109). -/
def execReferenceMark (channel : Nat) (s : State) : Res := (referenceMark (channel % 2) s).done
/-- SSI_FRAME_END (R118). -/
def execSsiFrameEnd (bits : List Bool) (idleLow : Bool) (s : State) : Res := (ssiEnd bits idleLow s).done

end Sys2Proof.Machine
end

