-- ==== Sys2Proof/Machine/Verify.lean ====
section
/-! DEFINITION. The checks of FINISH (R51): header (R39, R40), directory (R41, R42), what the content of the sections must hold
(R81, R449, R137, R158, R168, R199, R211 to R213, R238, R266, R284, R452), digest, signature, atlas binding and seal rule. -/

namespace Sys2Proof.Machine

namespace ImgErr
/-- HEADER -/
def header : Nat := 0x03
/-- STEPPING -/
def stepping : Nat := 0x04
/-- SECTION -/
def section_ : Nat := 0x05
/-- KEY -/
def key : Nat := 0x06
/-- SIGNATURE -/
def signature : Nat := 0x07
/-- ATLAS_BINDING -/
def binding : Nat := 0x08
/-- SEAL -/
def sealSwitch : Nat := 0x09
end ImgErr

/-! ### Header and directory -/

/-- The fields that a header of the kind must hold, IMAGE_LEN and the stored length included (R36, R39, R40). -/
def headerOk (core : Bool) (stored : Nat) (h : Header) : Bool :=
  h.magic == 0x4B434149 && h.format == 1 && h.kind == (if core then 1 else 2) && h.part == 0x8440 &&
    h.imageLen == h.sigOffset + 96 && h.sigOffset % 64 == 0 && (h.imageLen + 4091) / 4092 * 4096 == stored && h.reserved &&
    (if core then decide (1 ≤ h.setId ∧ h.setId ≤ 63) && decide (h.flags ≤ 1)
     else h.setId == 0 && h.flags == 0 && h.atlasLen == 0 && h.atlas == 0 && h.digestA == 0 && h.digestB == 0)

/-- The section types an image of the kind holds, each with its maximum length; the atlas sections are limited by R34 only
(Table 02-3). -/
def sectionTypes (core : Bool) : List (Nat × Nat) :=
  if core then
    [(1, 256 * 1024), (2, 1280 * 1024), (3, 16384), (4, 512 * 1024), (5, 2097152), (6, 1048576), (7, 512 * 1024), (8, 16384),
     (9, 16384), (10, 256 * 1024), (11, 16384)]
  else [(0x0101, 209715200), (0x0102, 209715200), (0x0103, 209715200), (0x0104, 209715200)]

/-- Two sections do not overlap. -/
def apart (x y : Section) : Bool := decide (x.offset + x.length ≤ y.offset) || decide (y.offset + y.length ≤ x.offset)

/-- The sections of a directory do not overlap each other. -/
def allApart : List Section → Bool
  | [] => true
  | x :: rest => rest.all (apart x) && allApart rest

/-- A section lies where R41 allows, in a supported version and within its maximum length. -/
def sectionOk (types : List (Nat × Nat)) (first last : Nat) (x : Section) : Bool :=
  x.version == 1 && x.offset % 64 == 0 && decide (first ≤ x.offset) && decide (x.offset + x.length ≤ last) &&
    types.any fun t => t.1 == x.kind && decide (x.length ≤ t.2)

/-- The directory rules (R41, R42). -/
def directoryOk (core : Bool) (h : Header) (dir : List Section) : Bool :=
  let types := sectionTypes core
  h.sections == types.length && dir.all (sectionOk types (0x100 + 16 * h.sections) h.sigOffset) && allApart dir &&
    (types.all fun t => (dir.filter fun x => x.kind == t.1).length == 1) &&
    (dir.all fun x => x.kind != 10 || decide (x.count ≤ x.length))

/-! ### Register entries (R449) -/

/-- The ranges this manual states for img fields of the sections with register entries, within what their width holds: field,
least and greatest value. -/
def imgRanges : List (Field × Nat × Nat) :=
  [ (Reg.PFE_SCALE_DEN, 1, 2 ^ 32 - 1), (Reg.PFE_SLIP_CFG_SLIP_TIME, 1, 255), (Reg.PFE_REF_CFG_REF_SLEW, 1, 255),
    (Reg.PFE_REF_CFG_REF_REJECT_N, 1, 15), (Reg.TRIP_LIMIT_STATUS_LIMIT_N, 1, 15), (Reg.LOOP_DECK_CFG_CHANNEL, 4, 5),
    (Reg.LOOP_DL_CFG_DL_FAIL_N, 1, 15), (Reg.FIO_TEST_CFG_DO_PULSE_US, 100, 300), (Reg.FIO_TEST_CFG_DO_TEST_EVERY, 1, 15),
    (Reg.FIO_CPL_PARAM_CPL_ERR, 1, 255), (Reg.NET_MAP_CFG_NBR_HOPS, 1, 8), (Reg.NET_PATH_CFG_SKEW_US, 100, 1000),
    (Reg.NET_PATH_CFG_SINGLE_PATH_MS, 5, 10000), (Reg.NET_NBR_CFG_NBR_AGE_US, 200, 5000),
    (Reg.NET_MISC_CFG_EVT_FRAME_RATE, 1, 20), (Reg.MIR_CFG_MIR_CLEAN_S, 60, 255), (Reg.MIR_CFG_MEM_ERR_RELAY, 1, 255) ] ++
  ((List.range 2).flatMap fun i =>
    [ (Reg.PFE_SC_CFG_LINES i, 1, 65535), (Reg.PFE_SC_INDEX_CFG_INDEX_GOOD i, 1, 15), (Reg.PFE_SSI_CFG_CLK_KHZ i, 100, 2000),
      (Reg.PFE_SSI_CFG_PERIOD_US i, 20, 1000), (Reg.PFE_SSI_CFG_MONO_US i, 1, 63), (Reg.PFE_SSI_FMT_FRAME_LEN i, 1, 34),
      (Reg.PFE_SSI_FMT_DATA_FIRST i, 1, 34), (Reg.PFE_SSI_CHECK_FAIL_N i, 1, 15), (Reg.PFE_EMU_CFG_SOURCE i, 0, 7), (Reg.PFE_EMU_CFG_Z_MODE i, 0, 2),
      (Reg.PFE_EMU_CFG_Z_PERIOD i, 1, 65535), (Reg.PFE_EMU_NUM i, 1, 2 ^ 24 - 1), (Reg.PFE_EMU_DEN i, 1, 2 ^ 24 - 1) ]) ++
  ((List.range 6).flatMap fun i =>
    [ (Reg.LOOP_CFG_OUT i, 0, 5), (Reg.LOOP_V_CMD_LIM i, 1, 2 ^ 31 - 1), (Reg.LOOP_I_LIM i, 1, 2 ^ 31 - 1),
      (Reg.LOOP_T_LIM_POS i, 1, 2 ^ 31 - 1), (Reg.LOOP_T_LIM_NEG i, 1, 2 ^ 31 - 1), (Reg.LOOP_FE_CFG_FE_TIME i, 1, 255) ]) ++
  ((List.range 4).flatMap fun i =>
    [ (Reg.LOOP_DOOR_CFG_CHANNEL i, 0, 5), (Reg.LOOP_DOOR_LIM_DUTY_MAX i, 0, 2500), (Reg.LOOP_DOOR_LIM_KE_N i, 1, 15),
      (Reg.LOOP_DOOR_LIM_KE_TRIP i, 100, 255), (Reg.LOOP_DOOR_LIM_DOOR_SPEED_WIN i, 1, 64) ]) ++
  ((List.range 48).map fun i => (Reg.FIO_DI_CFG_DI_FILT i, 1, 255)) ++
  ((List.range 24).map fun i => (Reg.FIO_DO_CFG_HOLD_TIME i, 0, 60000))

/-- An input code of Table 04-3, or 0 for none. -/
def inputCode (v : Nat) : Bool := v == 0 || decide (0x01 ≤ v ∧ v ≤ 0x10) || decide (0x21 ≤ v ∧ v ≤ 0x50)

/-- The img fields that hold an input code. -/
def codeFields : List Field :=
  Reg.LOOP_DECK_CFG_REF_INPUT :: (List.range 4).flatMap fun i =>
    [Reg.LOOP_DOOR_CFG_LC_INPUT i, Reg.LOOP_DOOR_CFG_EDGE_INPUT i, Reg.LOOP_DOOR_CFG_CLOSED_INPUT i]

/-- A field value lies within the range stated for it, if one is. -/
def inRange (f : Field) (v : Nat) : Bool :=
  (!codeFields.elem f || inputCode v) && imgRanges.all fun r => r.1 != f || (decide (r.2.1 ≤ v) && decide (v ≤ r.2.2))

/-- One register entry: in the section's list, its bits outside img fields 0, its field values within their ranges. -/
def entryOk (kind : Nat) (e : Nat × Nat) : Bool :=
  (sectionRegs kind).elem e.1 && ((imgFields e.1).all fun f => inRange f (fieldOf f e.2)) &&
    e.2 == (imgFields e.1).foldl (fun acc f => acc + fieldOf f e.2 * 2 ^ f.lo) 0

/-- No register has two entries. -/
def noTwice : List (Nat × Nat) → Bool
  | [] => true
  | x :: rest => rest.all (fun y => y.1 != x.1) && noTwice rest

/-- A reference-point entry holds values of Table 04-3. -/
def refOk (x : RefPoint) : Bool := decide (1 ≤ x.landing) && x.input != 0 && inputCode x.input && decide (1 ≤ x.win)

/-- A function-map entry: a KIND of R449, an input code, and a function for KIND 0. -/
def mapOk (x : Nat × Nat × Nat) : Bool :=
  x.2.1 != 0 && inputCode x.2.1 && (x.1 == 1 || (x.1 == 0 && (x.2.2 == 1 || x.2.2 == 2)))

/-- The tail of a section with register entries is as R449 gives for its type. -/
def tailOk (kind : Nat) (bs : List Byte) : Bool :=
  let p := parsePart bs
  p.tailOffset % 4 == 0 && decide (p.tailOffset + p.tailLen ≤ bs.length) &&
    (if kind = 3 then
      decide (leAt bs p.tailOffset 4 ≤ 1000) && p.tailLen == 4 + 12 * leAt bs p.tailOffset 4 && (parseRefs bs).all refOk
     else if kind = 8 then p.tailLen == 240
     else if kind = 9 then p.tailLen % 8 == 0 && (parseMap bs).all mapOk
     else p.tailLen == 0)

/-- A section with register entries obeys R449. -/
def partOk (kind : Nat) (bs : List Byte) : Bool :=
  let es := (parsePart bs).entries
  es.all (entryOk kind) && noTwice es && tailOk kind bs

/-- The value a section's entries give a field (R449). -/
def partField (bs : List Byte) (f : Field) : Nat :=
  match lookup (parsePart bs).entries f.addr with
  | some v => fieldOf f v
  | none => imgDefault f

/-! ### Reticle programs (R137, R138, R199) -/

/-- The mode a LOOP action may name in a set: CAR for the car set, DOOR for a door set (Table 07-2). -/
def modeAllowed (car : Bool) (m : Nat) : Bool := if car then [0, 1, 2, 4, 5].elem m else [0, 1, 2, 3].elem m

/-- An action word is of a known kind that its set allows, with operands this manual gives (Table 05-3). -/
def actionOk (car : Bool) (a : Nat) : Bool :=
  let kind := bits a 31 28
  if kind = 2 then car && decide (1 ≤ bits a 3 0 ∧ bits a 3 0 ≤ 5)
  else if kind = 4 then modeAllowed car (bits a 3 0)
  else if kind = 5 then car
  else decide (kind ≤ 8)

/-- A reticle program may be stored. -/
def programOk (car : Bool) (p : Program) : Bool :=
  decide (p.marks.length ≤ (if car then 256 else 64)) && p.marks.all fun m => actionOk car m.action

/-- The program at an offset of a byte source may be stored; 0 names none. -/
def programAtOk (rd : Rd) (car : Bool) (base o : Nat) : Bool := o == 0 || programOk car (parseProgram rd (base + o))

/-! ### Trips (R158) -/

/-- The last segment has END HOLD and no other. -/
def holdLast : List Seg → Bool
  | [] => false
  | [g] => g.ending == 4
  | g :: rest => g.ending != 4 && holdLast rest

/-- A SPLICE_OK segment is one a splice can use. -/
def spliceOk (bins : Nat) (g : Seg) : Bool := !g.spliceOk || (g.ending == 1 && g.j == 0 && g.a0 == 0 && decide (g.bin < bins))

/-- Segment 0 of a diversion carries EXPECT and begins at AUX. -/
def diversionOk (x : Trip) : Bool :=
  x.kind != 1 || (match x.segs with
    | [] => false
    | g :: _ => g.expect && g.p0 == x.aux)

/-- The rules of R158 for one trip. -/
def tripOk (bins : Nat) (x : Trip) : Bool :=
  decide (1 ≤ x.segs.length ∧ x.segs.length ≤ 15) && holdLast x.segs && x.segs.all (spliceOk bins) && diversionOk x

/-- A trip at an offset, its program, and the ALT chain behind it, which returns to no earlier diversion (R158). -/
def chainOk (rd : Rd) (bins : Nat) : Nat → List Nat → Nat → Bool
  | 0, _, _ => true
  | fuel + 1, seen, o =>
    let x := parseTrip rd 0 o
    tripOk bins x && programAtOk rd true 0 x.retProg &&
      (x.kind != 1 || x.alt == 0 || (!(seen.elem x.alt) && chainOk rd bins fuel (x.alt :: seen) x.alt))

/-- Every trip that an index names may be stored. -/
def atlasOk (rd : Rd) (bins len : Nat) (a : AtlasIndex) : Bool :=
  let ok := fun o => o == 0 || chainOk rd bins len [o] o
  (a.trips.all fun e => ok e.2) && (a.diversions.all fun e => ok e.2) && (a.adjacent.all fun e => ok e.2) &&
    (a.levelling.all fun e => ok e.2) && (a.rescue.all fun e => e.2.all fun b => ok b.2)

/-! ### Envelopes and doors (R168, R211 to R213, R452) -/

/-- Every controlled stop is present and a trip of R158 with a program that may be stored, and no separation entry has G_HARD over
G_REQ (R137, R168). -/
def envelopesOk (rd : Rd) (e : Envelopes) : Bool :=
  e.stopStore.length == 8 * e.bins.length &&
    (e.stopStore.all fun x => tripOk e.bins.length x && programAtOk rd true 0 x.retProg) &&
    (e.sepAbove.all fun x => decide (x.2.2 ≤ x.2.1)) && (e.sepBelow.all fun x => decide (x.2.2 ≤ x.2.1))

/-- A profile of a number exists with the KIND that the reference requires. -/
def refers (d : DoorTables) (n kind : Nat) : Bool := d.profiles.any fun x => x.1 == n && x.2.kind == kind

/-- A profile obeys R158 as it applies to a trip, and its references name profiles of the KIND Table 07-6 requires (R213). -/
def profileOk (d : DoorTables) (p : Profile) : Bool :=
  decide (1 ≤ p.segs.length ∧ p.segs.length ≤ 15) && holdLast p.segs &&
    (p.segs.all fun g => !g.spliceOk && !g.destRel && g.bin == 0xFF) &&
    (p.revTab.all fun e => refers d e.2 2) && (p.revTab.isEmpty || p.kind == 1 || p.kind == 3) &&
    (match p.nudge with
      | none => true
      | some n => p.kind == 1 && refers d n 3) &&
    (match p.stop with
      | none => true
      | some n => p.kind != 4 && refers d n 4)

/-- The DOORS section: every index word lies in the section, every profile and its door program may be stored (R213). -/
def doorsOk (bs : List Byte) : Bool :=
  let d := parseDoors bs
  let rd : Rd := fun o => nth bs o 0
  ((List.range d.head.count).all fun n =>
      decide (leAt bs (d.head.index + 4 * n) 4 + 32 + 32 * leAt bs (leAt bs (d.head.index + 4 * n) 4 + 5) 1 ≤ bs.length)) &&
    (d.profiles.all fun x => profileOk d x.2 && programAtOk rd false 0 x.2.retProg) &&
    (d.head.moves.all fun m => refers d m.2 6) && (d.head.doorHome.all fun n => refers d n 5) && refers d d.head.deckHome 5

/-- An emulator copies Z only at NUM = DEN = 1 (R134). -/
def emulatorsOk (position : List Byte) : Bool :=
  [0, 1].all fun i => partField position (Reg.PFE_EMU_CFG_Z_MODE i) != 1 ||
    (partField position (Reg.PFE_EMU_NUM i) == 1 && partField position (Reg.PFE_EMU_DEN i) == 1)

/-- Every car stop's SPACING is in the spacing list (R212). -/
def spacingsOk (e : Envelopes) (d : DoorTables) : Bool := e.stops.all fun c => d.head.spacings.elem c.spacing

/-- The node or the analog outputs that an OUT code names: node 1, node 2, AO1, AO2 (R204). -/
def outSet (code : Nat) : List Nat :=
  if code = 0 then [1] else if code = 1 then [2] else if code = 2 then [3] else if code = 3 then [4] else if code = 4 then [1, 3] else []

/-- CAR and DECK name no common DriveLink node and no common analog output (R452). -/
def outsOk (loops : List Byte) : Bool :=
  let o := fun n => outSet (partField loops (Reg.LOOP_CFG_OUT n))
  (o 0).all fun x => !((o 5).elem x)

/-- The DECK loop's channel is QD5 or QD6 and not the machine source (R211). -/
def deckOk (position loops map : List Byte) : Bool :=
  let ch := partField map Reg.LOOP_DECK_CFG_CHANNEL
  !bitAt (partField loops Reg.LOOP_STATUS_IN_USE) 5 ||
    ((ch == 4 || ch == 5) && partField position Reg.PFE_MODEL_CFG_MACH_SRC + 2 != ch)

/-! ### Safety set (R238, R266, R284) -/

/-- A parameter in a lane table. -/
def tableField (t : LaneTable) (f : Field) : Nat :=
  match lookup t.regs f.addr with
  | some v => fieldOf f v
  | none => 0

/-- The parameters of one safety input are within Table 08-6 (R238). -/
def inputOk (t : LaneTable) (i : Nat) : Bool :=
  let v := fun (f : Nat → Field) => tableField t (f i)
  (lookup t.regs (Reg.SAF_SI_CFG_EN i).addr).isNone ||
    ((if v Reg.SAF_SI_CFG_FAST = 1 then decide (20 ≤ v Reg.SAF_SI_CFG_FILT ∧ v Reg.SAF_SI_CFG_FILT ≤ 4000) && v Reg.SAF_SI_CUT != 0
      else decide (1 ≤ v Reg.SAF_SI_CFG_FILT ∧ v Reg.SAF_SI_CFG_FILT ≤ 100)) &&
     decide (5 ≤ v Reg.SAF_SI_CFG_DISC_MS ∧ v Reg.SAF_SI_CFG_DISC_MS ≤ 2000) && decide (v Reg.SAF_SI_CFG_TP_A ≤ 2) &&
     decide (v Reg.SAF_SI_CFG_TP_B ≤ 2))

/-- The functions a mask must hold, as bits of Table 09-1. -/
def holdsAll (mask need : Nat) : Bool := Nat.land mask need == need

/-- REQ and FUNC_MASK of one output obey R266; outputs 8 and 9 are BK1 and BK2. -/
def outputOk (t : LaneTable) (o : Nat) : Bool :=
  let req := tableField t (Reg.SAF_FN_OUT_REQ o)
  let m := tableField t (Reg.SAF_FN_OUT_FUNC_MASK o)
  decide (req ≤ 5) && (req != 1 || holdsAll m 0x138) && (req != 2 || ((o == 8 || o == 9) && holdsAll m 0x338)) &&
    (req != 3 || ((o == 8 || o == 9) && holdsAll m 0x538)) && (req == 2 || !bitAt m 9) && (req == 3 || !bitAt m 10)

/-- The input a role names in a table, 0 for SI01. -/
def tableRole (t : LaneTable) (r : Nat) : Option Nat :=
  let v := tableField t (Reg.SAF_ROLE (r / 4)) / 256 ^ (r % 4) % 256
  if 1 ≤ v ∧ v ≤ 16 then some (v - 1) else none

/-- Outputs whose REQ is DRIVE_EN, BRAKE1_LIFT or BRAKE2_LIFT, as a mask. -/
def driveMask (t : LaneTable) : Nat :=
  ofBits ((List.range 10).map fun o => let r := tableField t (Reg.SAF_FN_OUT_REQ o); r == 1 || r == 2 || r == 3)

/-- The input a role names is of the class the role requires (Table 09-2, R266). -/
def roleOk (t : LaneTable) (r : Nat) : Bool :=
  match tableRole t r with
  | none => true
  | some i =>
    let fast := tableField t (Reg.SAF_SI_CFG_FAST i) == 1
    if r ≤ 1 then true
    else if r = 8 ∨ r = 9 then fast && holdsAll (tableField t (Reg.SAF_SI_CUT i)) (driveMask t)
    else !fast

/-- A lane table holds the ENVELOPES section's values (R284). -/
def lanesMatch (e : Envelopes) (t : LaneTable) : Bool :=
  t.gapUp == e.gapUp && t.gapDown == e.gapDown && t.bins == e.bins.map (fun b => b.1) &&
    t.hardAbove == e.sepAbove.map (fun x => (x.1, x.2.2)) && t.hardBelow == e.sepBelow.map (fun x => (x.1, x.2.2))

/-- A lane table may be stored. -/
def laneTableOk (e : Envelopes) (t : LaneTable) : Bool :=
  (List.range 16).all (inputOk t) && (List.range 10).all (outputOk t) && (List.range 13).all (roleOk t) && lanesMatch e t

/-- The bytes of a lane table in a core image: false lane A's, true lane B's (R42). -/
def laneBytes (rd : Rd) (dir : List Section) (b : Bool) : List Byte :=
  match findSection dir 10 with
  | none => []
  | some x => if b then rdBytes rd (x.offset + x.count) (x.length - x.count) else rdBytes rd x.offset x.count

/-! ### The checks in order (R51) -/

/-- TRIP_CMD is bound to a counter of INITIAL 1 (R81). -/
def tripCmdOk (f : FabricTables) : Bool := (nth f.counters f.tripCmd {}).initial == 1

/-- What the sections of a core image hold may be stored. -/
def coreContentOk (rd : Rd) (h : Header) (dir : List Section) : Bool :=
  let sec := sectionBytes rd dir
  let e := parseEnvelopes (sec 6)
  tripCmdOk (parseFabric (sec 1)) && ([3, 8, 9, 11].all fun k => partOk k (sec k)) && envelopesOk rd e &&
    atlasOk rd e.bins.length h.sigOffset (parseCoreAtlas (sec 5)) && doorsOk (sec 7) && spacingsOk e (parseDoors (sec 7)) &&
    emulatorsOk (sec 3) && outsOk (sec 8) && deckOk (sec 3) (sec 8) (sec 9) &&
    [false, true].all fun b => laneTableOk e (Config.decodeLane b (laneBytes rd dir b))

/-- The bin count that bounds BIN: that of the loaded core, for an atlas that is written beside it; the most bins there are without one
(R158, R167, log entry 113). -/
def State.binCount (s : State) : Nat := if s.img.loaded then s.trip.env.bins.length else 32

/-- The first of the checks 1 and 2 that fails; 0 if both pass. -/
def formError (s : State) (core : Bool) (stored : Nat) (rd : Rd) : Nat :=
  let h := parseHeader rd
  let dir := parseDir rd h.sections
  if !headerOk core stored h then ImgErr.header
  else if s.r Reg.SEC_PART_ID_STEPPING < h.minStepping then ImgErr.stepping
  else if !directoryOk core h dir then ImgErr.section_
  else if core then (if coreContentOk rd h dir then 0 else ImgErr.section_)
  else if atlasOk rd s.binCount h.sigOffset (atlasOf rd dir) then 0 else ImgErr.section_

/-- The signature block of an image: r then s (R44). -/
def signatureOf (rd : Rd) (h : Header) : BitVec 768 := BitVec.ofNat 768 (beNat (rdBytes rd h.sigOffset 96))

/-- The first of the checks 4 to 6 that fails; 0 if all pass. The key slots and the seal switches are those of the moment of
FINISH (R52, R422). -/
def sealError (s : State) (core : Bool) (rd : Rd) : Nat :=
  let h := parseHeader rd
  match nth s.img.finishKeys h.authorKey none with
  | none => ImgErr.key
  | some k =>
    if !ecdsaVerify k (imageDigest rd) (signatureOf rd h) then ImgErr.signature
    else if core && !s.atlasHeld h.atlas then ImgErr.binding
    else
      let changes := !s.img.loaded || h.digestA != s.img.loadedSeal.digestA || h.digestB != s.img.loadedSeal.digestB
      let open_ := s.img.finishSw1 && s.img.finishCode == h.setId
      if core && changes && !open_ then ImgErr.sealSwitch else 0

/-- The seal record of a verified image (R46). -/
def sealFor (rd : Rd) (stored : Nat) : SealRec :=
  let h := parseHeader rd
  { storedLen := stored, digest := imageDigest rd, imageId := h.imageId, authorKey := h.authorKey, setId := h.setId,
    digestA := h.digestA, digestB := h.digestB, atlas := h.atlas }

/-- The checks of FINISH end: the first failing one fails the target, else it is sealed (R51). -/
def imgVerifyEnd (medium : Bool) (s : State) : State :=
  if s.r Reg.IMG_WRITE_STATUS_STATE != 2 then s
  else
    let t := s.r Reg.IMG_WRITE_STATUS_TARGET
    let core := decide (t < 2)
    let stored := s.r Reg.IMG_WRITE_COUNT
    let rd := logicalRd (targetRd s t)
    let form := formError s core stored rd
    let err := if medium then ImgErr.medium else if form != 0 then form else sealError s core rd
    if err = 0 then
      (((s.setSeal t (sealFor rd stored)).w (sealField t) 2).w Reg.IMG_WRITE_STATUS_STATE 3).raise Evt.IMG_WRITE_DONE [.code t]
    else (endSession s err 3).raise Evt.IMG_WRITE_FAIL [.code t, .code err]

/-- IMG_VERIFY_END (R51). -/
def execImgVerifyEnd (medium : Bool) (s : State) : Res := (imgVerifyEnd medium s).done

end Sys2Proof.Machine
end

