-- ==== Sys2Proof/Machine/Start.lean ====
section
/-! DEFINITION. Resets and start-up (files 02 and 14): what each reset keeps, the core image load, CONTROL_READY, the choice and
the streaming of the full atlas, the WARM reset and the adoption of a new image (R56 to R60, R65, R193, R367, R400 to R415). -/

namespace Sys2Proof.Machine

/-! ### What a reset keeps (R10, R11, R414) -/

/-- A retention class survives a reset: kind 0 POWER-ON, 1 DIP, 2 WARM (Table 00-3). -/
def survives (kind : Nat) : Kept → Bool
  | .k => true
  | .h => kind != 0
  | .w => kind == 2
  | .c => false

/-- The fields that show a level outside the main die. -/
def liveFields : List Field :=
  [Reg.NET_ADDR_SIDE, Reg.IMG_SEAL_SWITCH_CODE, Reg.IMG_SEAL_SW1, Reg.IMG_SEAL_SW2, Reg.SEC_STATUS_SW2,
   Reg.MIR_STATUS_PARTNER_LINE] ++ (List.range 6).map Reg.PFE_QD_STATUS_LEVELS

/-- The fields of the clocks and of the Dim step, which the supervisor sets again at once after a WARM reset (R400, R403). -/
def clockFields : List Field :=
  [Reg.PWR_CLOCK_PLL0_LOCK, Reg.PWR_CLOCK_PLL1_LOCK, Reg.PWR_CLOCK_REF_OK, Reg.PWR_STATUS_PLL_IN_SERVICE,
   Reg.PWR_STATUS_SPARE_OK, Reg.PWR_STATUS_STEP, Reg.PWR_STATUS_DIM_CAUSE]

/-- A field that shows a level outside the main die. -/
def liveField (f : Field) : Bool := liveFields.elem f

/-- A register field keeps its value over a reset. -/
def keptField (kind key : Nat) : Bool :=
  match fieldOfKey key with
  | some f => survives kind f.kept
  | none => false

/-- The fields that a reset clears to their Reset value and that show again at once what they showed: a level outside the main die,
which the reset does not change, and after a WARM reset the clock in service and the Dim step (R10, log entry 98). -/
def shownFields (kind : Nat) : List Field :=
  (liveFields ++ if kind = 2 then clockFields else []).filter fun f => !survives kind f.kept

/-- The fields that show again what they showed before a reset. -/
def showAgain (kind : Nat) (before s : State) : State :=
  (shownFields kind).foldl (fun s f => { s with regs := SMap.put s.regs f.key (before.r f) f.reset }) s

/-- PLL_IN_SERVICE of a reset: 1 if PLL0 is fenced (R10). -/
def resetPll (s : State) : State := s.wb Reg.PWR_STATUS_PLL_IN_SERVICE (bitAt (s.r Reg.PWR_CLOCK_FENCED) 0)

/-- The register fields that a reset leaves. -/
def keptRegs (kind : Nat) (regs : SMap Nat) : SMap Nat := regs.filter fun c => keptField kind c.1

/-- The committed address is absent to a start that finds its record damaged (R370, log entry 126). -/
def lostRegs (lost : List SysRecord) (regs : SMap Nat) : SMap Nat :=
  if SysRecord.address ∈ lost then
    [Reg.NET_ADDR_ADDRESS, Reg.NET_ADDR_ENUM_ID].foldl (fun m f => SMap.put m f.key f.reset f.reset) regs
  else regs

/-- What a lane keeps: its latched faults, class H, with what they withdraw and hold (R235, R236, Table 14-7). -/
def keptLane (kind : Nat) (x : Lane) : Lane :=
  if kind = 0 then {}
  else { faults := x.faults, disc := x.disc, discOff := x.discOff, wiring := x.wiring, fastCut := x.fastCut, stuck := x.stuck,
         cross := x.cross, opened := x.opened, wired := x.wired, permOff := x.permOff, cmdHeld := x.cmdHeld, aliveAt := x.aliveAt }

/-- What a coupler group keeps: the fence records of its lanes and the place of the spare, class K (R309); while the field side has its
power, also its silence (R303). -/
def keptGroup (kind : Nat) (g : CplGroup) : CplGroup :=
  { lanes := (g.lanes.zip ({ : CplGroup }).lanes).map fun x => if [2, 3, 5, 6].elem x.1.state then { state := x.1.state } else x.2
    silentAt := if kind = 0 then none else g.silentAt }

/-- The field side over a reset. In a POWER-ON or DIP reset, for which the core rail or the clock has left, the supervisor stops the
alive counts and no new command crosses, so the outputs keep what they had; a WARM reset commands them off (R56, R302, R303). -/
def keptFio (kind : Nat) (s : State) : FioState :=
  let frozen := if kind = 0 then 0 else maskOf 24 fun i => if s.doSilent i || s.fio.stopAt.isSome then bitAt s.fio.frozen i else s.doLevel i
  { groups := s.fio.groups.map (keptGroup kind), window := s.optime, power := s.fio.power
    frozen := frozen
    dout := (List.range 24).map fun i =>
      let e := kind != 0 && (s.dout i).expired
      { expired := e, applied := (kind == 1 || s.doSilent i) && bitAt frozen i && !e }
    stopAt := if kind = 2 then none else some (s.fio.stopAt.getD s.optime) }

/-- What the loaded image and the write session leave (R46, R49, R54, R60). -/
def keptImg (kind : Nat) (s : State) : ImgState :=
  { seals := s.img.seals, activated := s.img.activated,
    slotDigest := if kind = 2 then s.img.slotDigest else [none, none],
    slotDir := if kind = 2 then s.img.slotDir else [[], []],
    supplyAt := s.optime, warm := kind == 2 }

/-- What the position front ends keep: their latched faults, class H. -/
def keptPos (kind : Nat) (s : State) : PosState :=
  { sc := s.pos.sc.map fun x => if kind = 0 then {} else { indexLost := x.indexLost }
    qd := s.pos.qd.map fun x => if kind = 0 then {} else { lost := x.lost }
    calAt := List.replicate 4 s.optime }

/-- What the networks keep: SEQ, snapshot banks, the open bypass, the enumeration of the committed address, and an ADDR_SPLIT, which
only an enumeration ends (R319, R339, R341, R344). -/
def keptNet (kind : Nat) (s : State) : NetState :=
  { seq := if kind = 0 then List.replicate 12 0 else s.net.seq,
    bypass := if kind = 2 then s.net.bypass else [true, true],
    banks := if kind = 2 then s.net.banks else List.replicate 4 {},
    captured := kind == 2 && s.net.captured, split := s.net.split,
    enumDone := if s.r Reg.NET_ADDR_ADDRESS = 0 ∨ SysRecord.address ∈ s.mem.lost then none else some (s.r Reg.NET_ADDR_ENUM_ID) }

/-- What the memories' error handling keeps: remaps, fences and retired blocks, class K; the uncorrectable words of what is kept. -/
def keptMem (kind : Nat) (s : State) : MemState :=
  { nearMap := s.mem.nearMap, tableMap := s.mem.tableMap, nearFenced := s.mem.nearFenced, tableFenced := s.mem.tableFenced,
    bad := s.mem.bad.filter fun x => if x.1 then kind == 2 else kind != 0, deepMap := s.mem.deepMap, retired := s.mem.retired,
    lost := if kind = 0 then [] else s.mem.lost.filter (· != SysRecord.address), windowAt := s.optime, loupeAt := List.replicate 10 s.optime }

/-- A write target whose writing the reset cuts off is EMPTY; an atlas being brought in is not there. -/
def cutWrites (s : State) : State :=
  let s := [0, 1, 2, 3].foldl (fun s t => if s.r (sealField t) = 1 then s.w (sealField t) 0 else s) s
  let st := s.r Reg.IMG_STATUS_TS_INCOMING_STATE
  if st = 1 ∨ st = 4 then s.w Reg.IMG_STATUS_TS_INCOMING_STATE 0 else s

/-- The state a reset leaves, with its kind and cause: every structure by its class of Table 14-7, everything else as in a new
module. -/
def resetState (kind cause : Nat) (s : State) : State :=
  let t : State :=
    { pending := s.pending, free := s.free, raised := s.raised, optime := if kind = 0 then 0 else s.optime,
      pcc := if kind = 0 ∧ SysRecord.cycles ∈ s.mem.lost then 0 else s.pcc,
      regs := keptRegs kind (lostRegs s.mem.lost s.regs),
      log := if kind = 0 then {} else { s.log with wrapSaid := false },
      keep := s.keep, deep := s.deep,
      near := if kind = 0 then [] else s.near,
      table := if kind = 2 then s.table else [],
      img := keptImg kind s,
      dsp := { lost := if kind = 2 then s.dsp.lost else [], eccStart := s.optime },
      pos := keptPos kind s,
      trip := { full := if kind = 2 then s.trip.full else [{}, {}] },
      saf := { lanes := s.saf.lanes.map (keptLane kind), bt := { lastPass := s.saf.bt.lastPass }, seqLast := s.optime },
      fio := keptFio kind s,
      net := keptNet kind s,
      mir := { bus := s.mir.bus, holdAt := s.optime, lowAt := s.optime },
      rcd := if kind = 0 then {} else s.rcd,
      mem := keptMem kind s,
      pwr := { supplied := kind == 2, dipAt := s.optime, ovrMark := s.pwr.ovrMark },
      sec := { keys := s.sec.keys, cert := s.sec.cert, certOk := s.sec.certOk } }
  let t := cutWrites ((t.w Reg.PWR_RESET_CAUSE_KIND kind).w Reg.PWR_RESET_CAUSE_CAUSE cause)
  showAgain kind s (resetPll t)

/-! ### POWER-ON and DIP (R402, R409, R410) -/

/-- A POWER-ON or DIP reset is in progress. -/
def State.down (s : State) : Bool := !s.pwr.supplied

/-- A POWER-ON reset: first supply, or the retention rail lost. -/
def powerOnReset (retentionLost : Bool) (s : State) : State := resetState 0 (b2n retentionLost) s

/-- A DIP reset: cause 2 the input, 3 the core rail, 4 the I/O rail. A reset in progress of this kind or a higher one goes on. -/
def dipReset (cause : Nat) (s : State) : State := if s.down then s else resetState 1 cause s

/-- The clock is lost: the main die is held in reset, the lanes see the requests absent and go on (R402). -/
def clockLost (refLost : Bool) (s : State) : State :=
  if s.down then s
  else
    let lanes := s.saf.lanes
    let tables := s.saf.tables
    let s := (resetState 1 5 s).modSaf fun x => { x with lanes := lanes, tables := tables }
    let s := { s with pwr := { s.pwr with clockLost := true, retryAt := some s.optime } }
    lanesTake (s.wb Reg.PWR_CLOCK_REF_OK (!refLost))

/-- Every 10 ms: a PLL that is not fenced and locks starts the module again under a DIP reset with cause CLOCK (R402). -/
def pllRetry (locks : List Bool) (s : State) : State :=
  let due := match s.pwr.retryAt with
    | some t => decide (10000 ≤ s.since t)
    | none => true
  if !s.pwr.clockLost || !due then s
  else if [0, 1].any fun p => nth locks p false && !s.pllFenced p then
    let at_ := s.pwr.dipAt
    let s := resetState 1 5 s
    { s with pwr := { s.pwr with dipAt := at_ } }
  else { s with pwr := { s.pwr with retryAt := some s.optime } }

/-! ### The core image load (R57, R58, Table 02-7) -/

/-- The stored frames of a bank are read from frame i on, each one again once if its CRC fails; the frames that were re-read well
are given. The first frame that fails twice ends the reading (R57). -/
def readFrames (bank : Nat) (retries : List (Nat × Nat)) : Nat → Nat → State → State × Bool
  | 0, _, s => (s, true)
  | n + 1, i, s =>
    let ok := frameOk (targetRd s bank) i
    let s := s.when_ (!ok || retries.elem (bank, i)) fun s => s.raise Evt.IMG_FRAME_RETRY [.code bank, .code i]
    if ok then readFrames bank retries n (i + 1) s else (s, false)

/-- Steps 2 and 3 on a bank: its frames and its digest. A bank that fails is FAILED. -/
def tryBank (bank : Nat) (retries : List (Nat × Nat)) (s : State) : State × Bool :=
  if !s.verified bank then (s, false)
  else
    let x := s.sealOf bank
    let r := readFrames bank retries (x.storedLen / 4096) 0 s
    if r.2 && imageDigest (logicalRd (targetRd s bank)) == x.digest then (r.1, true)
    else (r.1.w (sealField bank) 3, false)

/-- FLAGS.FALLBACK_OK of a bank's image. -/
def fallbackOk (s : State) (bank : Nat) : Bool := bitAt (parseHeader (logicalRd (targetRd s bank))).flags 0

/-- The bank that is loaded, if one can be (R58). -/
def chooseBank (retries : List (Nat × Nat)) (s : State) : State × Option Nat :=
  if !s.img.activated then (s, none)
  else
    let b := s.r Reg.IMG_STATUS_DESIGNATED_BANK
    let r := tryBank b retries s
    if r.2 then (r.1, some b)
    else if fallbackOk s b then
      let q := tryBank (1 - b) retries r.1
      if q.2 then ((q.1.wb Reg.IMG_STATUS_FALLBACK true).raise Evt.IMG_FALLBACK [.code (1 - b)], some (1 - b)) else (q.1, none)
    else (r.1, none)

/-- The logical image at the start of the common region of the table store (log entry 13). -/
def placeCommon (rd : Rd) (len : Nat) (s : State) : State :=
  let base := 0x1C000000
  let kept := s.table.filter fun c => decide (c.1 < base) || decide (0x20000000 ≤ c.1)
  { s with table := memWrite kept base (rdBytes rd 0 len), mem := { s.mem with bad := clearBad base 0x4000000 s.mem.bad } }

/-- The physical facets that are not fenced, ascending. -/
def State.goodFacets (s : State) : List Nat := (List.range 112).filter fun p => !s.fenced p

/-- Logical facet k on the (k + 1)-th facet that is not fenced, with its code and data (R65). -/
def mapFacets (s : State) : State :=
  let good := s.goodFacets
  let s := { s with dsp := { s.dsp with map := (List.range 96).map fun k => good[k]? } }
  let put := fun (s : State) (k : Nat) => match s.physOf k with
    | some p => s.modFacet p fun f => { f with code := nth s.dsp.graphs.code k [], data := nth s.dsp.graphs.data k [] }
    | none => s
  ((List.range 96).foldl put s).countSpares

/-- The enabled loops, ascending, on the engines that are not fenced, ascending (R193). -/
def mapEngines (s : State) : State :=
  let good := (List.range 7).filter fun e => !bitAt (s.r Reg.LOOP_FENCED) e
  let used := (List.range 6).filter s.loopUsed
  ((used.zip good).foldl (fun s x => s.setEngine x.1 x.2) s).countEngines

/-- Whether too few facets, or too few engines, are left for the image: the fault's event, if so (R65, R193). -/
def mapFails (s : State) : Option Evt :=
  if s.goodFacets.length < s.dsp.fab.allocCount then some Evt.FACET_LOST
  else if ((List.range 7).filter fun e => !bitAt (s.r Reg.LOOP_FENCED) e).length < ((List.range 6).filter s.loopUsed).length then
    some Evt.LOOP_LOST
  else none

/-- The configuration fields of SSI2 show lane B's values (R119). -/
def placeSsi2 (t : LaneTable) (s : State) : State :=
  let s := ((s.w (Reg.PFE_SSI_CFG_CLK_KHZ 1) t.ssiClk).w (Reg.PFE_SSI_CFG_PERIOD_US 1) t.ssiPeriod).w (Reg.PFE_SSI_CFG_MONO_US 1) t.ssiMono
  let s := ((s.wb (Reg.PFE_SSI_CFG_ENABLE 1) t.ssiEnable).w (Reg.PFE_SSI_FMT_FRAME_LEN 1) t.ssiLen).w (Reg.PFE_SSI_FMT_DATA_FIRST 1) t.ssiFirst
  let s := ((s.w (Reg.PFE_SSI_FMT_DATA_BITS 1) (t.ssiBits - 1)).wb (Reg.PFE_SSI_FMT_GRAY 1) t.ssiGray).w (Reg.PFE_SSI_FMT_ERR_POS 1) t.ssiErrPos
  let s := ((s.wb (Reg.PFE_SSI_FMT_ERR_ACTIVE 1) t.ssiErrActive).w (Reg.PFE_SSI_FMT_PAR_POS 1) t.ssiParPos).wb (Reg.PFE_SSI_FMT_PAR_ODD 1) t.ssiParOdd
  let s := ((s.w (Reg.PFE_SSI_SCALE 1) t.ssiNm).wi (Reg.PFE_SSI_OFFSET 1) t.ssiOffset).w (Reg.PFE_SSI_CHECK_JUMP 1) t.ssiJump
  (s.w (Reg.PFE_SSI_CHECK_LATENCY_US 1) t.ssiLatency).w (Reg.PFE_SSI_CHECK_FAIL_N 1) t.ssiFailN

/-- The register fields that the sections give (R42, R449). -/
def placeFields (sec : Nat → List Byte) (t : LaneTable) (e : Envelopes) (s : State) : State :=
  let s := [3, 8, 9, 11].foldl (fun s k => loadPart k (sec k) s) s
  let s := (imgRegs safetyRows).foldl (loadReg t.regs) s
  let s := (s.w Reg.TRIP_SEP_CFG_SEP_MARGIN (e.sepMargin / 1000)).w Reg.TRIP_SEP_CFG_SEP_CLEAR_MS e.sepClearMs
  let s := (s.w Reg.DSP_STATUS_ALLOC_COUNT s.dsp.fab.allocCount).w Reg.DSP_RELAY_PARAM_MARGIN_WARN s.dsp.fab.marginWarn
  (s.w Reg.DSP_RELAY_PARAM_ERR_RELAY s.dsp.fab.errRelay).wb Reg.NET_STATUS_TRANSPARENT false

/-- The sections of a bank's core image in their places (Table 02-3). -/
def placeImage (bank : Nat) (s : State) : State :=
  let rd := logicalRd (targetRd s bank)
  let h := parseHeader rd
  let dir := parseDir rd h.sections
  let sec := sectionBytes rd dir
  let x := s.sealOf bank
  let fab := parseFabric (sec 1)
  let e := parseEnvelopes (sec 6)
  let ta := Config.decodeLane false (laneBytes rd dir false)
  let s := placeCommon rd (x.storedLen / 4096 * 4092) s
  let s := { s with
    img := { s.img with loaded := true, loadedSeal := x, coreDir := dir, loading := true }
    dsp := { s.dsp with fab := fab, graphs := Config.decodeGraphs (sec 2), counts := fab.counters.map fun c => c.initial }
    pos := { s.pos with refs := parseRefs (sec 3) }
    trip := { s.trip with env := e, core := parseCoreAtlas (sec 5) }
    loop := { s.loop with coefs := parseCoefs (sec 8), doors := parseDoors (sec 7) }
    fio := { s.fio with map := parseMap (sec 9) }
    saf := { s.saf with tables := [ta, Config.decodeLane true (laneBytes rd dir true)] }
    sec := { s.sec with laneHash := [sha384 (laneBytes rd dir false), sha384 (laneBytes rd dir true)] } }
  let s := alignEmus (placeSsi2 (s.laneTable 1) (placeFields sec ta e s))
  let s := (s.w Reg.IMG_STATUS_LOADED_BANK bank).w Reg.IMG_SEAL_IMAGE_SET_ID x.setId
  let s := s.wb Reg.IMG_SEAL_MATCH s.sealMatch
  (s.w Reg.IMG_LOADED_ID_LO (x.imageId % 2 ^ 32)).w Reg.IMG_LOADED_ID_HI (x.imageId / 2 ^ 32)

/-- No image can be loaded, or none can be mapped: IMAGE_FAIL. -/
def imageFail (e : Evt) (arg : Nat) (s : State) : State :=
  recStartBare ((s.w Reg.IMG_MODULE_STATE_PHASE 7).raise e [.code arg])

/-- Steps 1 to 3 of Table 02-7. -/
def loadImage (retries : List (Nat × Nat)) (s : State) : State :=
  let r := chooseBank retries s
  match r.2 with
  | none => imageFail Evt.IMG_LOAD_FAIL 0 r.1
  | some b =>
    let s := placeImage b r.1
    match mapFails s with
    | some e => imageFail e 0xFF r.1
    | none => recStart (mapEngines (mapFacets s))

/-- The reset is counted in the recorder (Table 13-4, item 9). -/
def countReset (s : State) : State := recCounter 9 (s.r Reg.PWR_RESET_CAUSE_KIND) 1 s

/-- The Dim step under Table 14-4 at a start (Table 14-6). -/
def dimStart (vinMv coreMv : Nat) (s : State) : State :=
  let cause := dimCause vinMv coreMv
  let s := s.modPwr fun x => { x with exitAt := none }
  if dimEntry cause = 0 then s else dimStep (dimEntry cause) cause s

/-- A start counts the power cycle of a POWER-ON, and gives the length of a dip (R413). -/
def countCycle (s : State) : State :=
  if s.r Reg.PWR_RESET_CAUSE_KIND = 0 then { s with pcc := (s.pcc + 1) % 2 ^ 32 }
  else s.w Reg.PWR_RESET_CAUSE_DIP_MS (satN 16 (s.since s.pwr.dipAt / 1000))

/-- Supplies and clocks stand: the field sides, powered from the module's input, are powered too (log entry 29), the alive counts
advance, MIR_SIDE is read and the Dim step taken (R302, R304, R413, Table 14-6). -/
def suppliesUp (vinMv coreMv side : Nat) (s : State) : State :=
  let s := doRefresh ((s.modPwr fun x => { x with supplied := true }).modFio fun x => { x with power := true, stopAt := none })
  let s := { s with img := { s.img with supplyAt := s.optime } }
  dimStart vinMv coreMv (s.w Reg.NET_ADDR_SIDE side)

/-- Supplies valid (R413): OPTIME runs, the clocks start, MIR_SIDE is read, PCC counts a POWER-ON, the image is loaded. -/
def suppliesValid (vinMv coreMv : Nat) (locks : List Bool) (side : Nat) (retries : List (Nat × Nat)) (s : State) : State :=
  if !s.down || s.pwr.clockLost || decide (vinMv < 18000) then s
  else
    let s := countCycle s
    match pllStart locks s with
    | none => { s with pwr := { s.pwr with clockLost := true, retryAt := some s.optime } }
    | some s => countReset (loadImage retries (suppliesUp vinMv coreMv side s))

/-! ### CONTROL_READY (R59, R60, R211, R217, R415) -/

/-- A lane takes the seal switches as its contacts read: SW1 to SW8 in bits 0 to 7 (R59, R256). -/
def takeContacts (l c : Nat) (s : State) : State :=
  s.modLane l fun x => { x with code := c / 4 % 64, sw1 := bitAt c 0, sw2 := bitAt c 1 }

/-- A lane compares the hash of its table with the image's (R59). -/
def setLoadCheck (s : State) (l : Nat) : State :=
  let want := if l = 0 then s.img.loadedSeal.digestA else s.img.loadedSeal.digestB
  if nth s.sec.laneHash l 0 == want then s
  else (s.modLane l fun x => { x with faults := setBit x.faults FaultBit.setLoad true }).raise Evt.SAFETY_SET_LOAD [.code l]

/-- Both hashes match: SAFETY_SET_LOAD is cleared. -/
def setLoadClear (s : State) : State :=
  if nth s.sec.laneHash 0 0 == s.img.loadedSeal.digestA && nth s.sec.laneHash 1 0 == s.img.loadedSeal.digestB then
    [0, 1].foldl (fun s l => s.modLane l fun x => { x with faults := setBit x.faults FaultBit.setLoad false }) s
  else s

/-- Step 4: the lanes check their tables and the switch code (R59). -/
def laneChecks (contactsA contactsB : Nat) (s : State) : State :=
  let s := setLoadClear ([0, 1].foldl setLoadCheck s)
  let s := takeContacts 1 contactsB (takeContacts 0 contactsA s)
  let s := [0, 1].foldl (fun s l => if s.codeMatch l then s else setMismatch l s) s
  let ok := s.codeMatch 0 && s.codeMatch 1
  [0, 1].foldl (fun s l => s.modLane l fun x => { x with matched := ok }) s

/-- What a start reports: RESET_CAUSE, and the overrides lost (R415). -/
def startEvents (s : State) : State :=
  let s := s.raise Evt.RESET_CAUSE [.code (s.r Reg.PWR_RESET_CAUSE_KIND), .code (s.r Reg.PWR_RESET_CAUSE_CAUSE),
    .qty (s.r Reg.PWR_RESET_CAUSE_DIP_MS)]
  if s.pwr.ovrMark = 0 then s
  else (s.raise Evt.OVERRIDE_LOST [.code s.pwr.ovrMark]).modPwr fun x => { x with ovrMark := 0 }

/-- Rule 3 of R60: the first VERIFIED deep slot with the bound digest that has not failed is streamed. -/
def streamNext (s : State) : State :=
  let good := fun (n : Nat) => s.verified (2 + n) && (s.sealOf (2 + n)).digest == s.img.loadedSeal.atlas && !s.img.streamTried.elem n
  match [0, 1].find? good with
  | some n =>
    let s := (s.w Reg.IMG_STATUS_TS_INCOMING_STATE 4).dropSlot s.incoming
    { s with img := { s.img with streamSlot := n } }
  | none =>
    let s := if s.img.streamTried = [] then s else s.w Reg.IMG_STATUS_TS_INCOMING_STATE 3
    s.raise Evt.ATLAS_UNAVAILABLE [.code 0]

/-- The full atlas is chosen (R60). -/
def chooseAtlas (s : State) : State :=
  let bound := some s.img.loadedSeal.atlas
  if s.img.warm && s.r Reg.IMG_STATUS_TS_INCOMING_STATE == 2 && nth s.img.slotDigest s.incoming none == bound then
    atlasReady ((swapSlots s).wb Reg.IMG_STATUS_ATLAS_KEPT true)
  else if s.img.warm && nth s.img.slotDigest s.activeSlot none == bound then atlasReady (s.wb Reg.IMG_STATUS_ATLAS_KEPT true)
  else streamNext s

/-- The deck and the doors look for their references (R211, R217). -/
def homing (s : State) : State :=
  let h := s.loop.doors.head
  let s := if s.loopUsed 5 then deckBegin h.deckHome s else s
  [1, 2, 3, 4].foldl (fun s d =>
    if s.loopUsed d && !s.doorFaulted d && !s.doorHomed d then s.modDoor d fun o => { o with startPend := some (nth h.doorHome (d - 1) 0) }
    else s) s

/-- Step 4 of Table 02-7 ends: CONTROL_READY. -/
def controlReadyNow (contactsA contactsB : Nat) (s : State) : State :=
  if s.r Reg.IMG_MODULE_STATE_PHASE ≠ 0 ∨ !s.img.loaded ∨ !s.img.loading ∨ s.down ∨ s.pwr.clockLost then s
  else
    let s := laneChecks contactsA contactsB s
    let s := (s.w Reg.IMG_MODULE_STATE_PHASE 1).w Reg.IMG_LOAD_TIMES_CTRL_READY_US (satN 16 (s.since s.img.supplyAt))
    let s := { s.post 12 0 with img := { s.img with loading := false }, loop := { s.loop with readyAt := s.optime + 1 } }
    let s := sendHello (showRole (listenUpdate (startEvents s)))
    chooseAtlas (homing (doRefresh s))

/-- Start-up streaming ends: what was streamed stands in the incoming slot, and its digest is judged (R60). -/
def atlasStreamEnd (uncorr : Bool) (s : State) : State :=
  if s.r Reg.IMG_STATUS_TS_INCOMING_STATE ≠ 4 ∨ s.img.swapDue then s
  else
    let n := s.img.streamSlot
    let x := s.sealOf (2 + n)
    let rd := targetRd s (2 + n)
    let bad := uncorr || !((List.range (x.storedLen / 4096)).all (frameOk rd))
    let s := if bad then copyCut s n s.incoming else copySlot s n s.incoming
    if bad || imageDigest (logicalRd rd) != x.digest then
      let s := (s.w (sealField (2 + n)) 3).raise Evt.ATLAS_DIGEST_FAIL [.code n]
      streamNext { s with img := { s.img with streamTried := s.img.streamTried ++ [n] } }
    else swapWhenFree (fillSlot s n s.incoming)

/-! ### WARM (R367, R411) -/

/-- A WARM reset before the image is loaded: the clocks stay as they are. -/
def warmState (cause : Nat) (s : State) : State :=
  let s := resetState 2 cause s
  (pllStart [s.rb Reg.PWR_CLOCK_PLL0_LOCK, s.rb Reg.PWR_CLOCK_PLL1_LOCK] s).getD s

/-- A WARM reset: cause 6 a host command, 7 an adoption; MIR_SIDE is sampled, as at every reset (R443), and the image is loaded again
from step 1 (Table 14-5). -/
def warmReset (cause side : Nat) (retries : List (Nat × Nat)) (s : State) : State :=
  countReset (loadImage retries ((warmState cause s).w Reg.NET_ADDR_SIDE (side % 2)))

/-- A WARM is carried out only at a quiet point, out of service with both brakes applied, or in START or IMAGE_FAIL (R411). -/
def State.warmAllowed (s : State) : Bool :=
  let p := s.r Reg.IMG_MODULE_STATE_PHASE
  s.quiet || (s.r Reg.TRIP_STATUS_STATE == 5 && s.brakes 0) || p == 0 || p == 7

/-- PWR_CMD WARM; in Parked it first leaves Parked (R411). -/
def cmdWarm (side : Nat) (retries : List (Nat × Nat)) (s : State) : State :=
  if s.down then s
  else if !s.warmAllowed then pwrRefuse 1 1 s
  else if s.parked then ((pwrResult 1 1 0 s).modPwr fun x => { x with warmDue := true }).wake 2
  else warmReset 6 side retries s

/-- The exit from Parked: what port 15 has held takes effect, or the WARM reset that waits for the exit is made (R407, R411). -/
def parkExitWarm (side : Nat) (s : State) : State :=
  let t := parkExit s
  if t.parked || !s.parked then t else if t.pwr.warmDue then warmReset 6 side [] t
  else noteStops s.trip.stops 0 0 0 (tripCmdsHeld t)

/-- At the next quiet point the active holds its starts, and the standby, which sees that in the heartbeats of a link that is up, restarts
with its designated bank (R367). -/
def adoptExecute (side : Nat) (retries : List (Nat × Nat)) (s : State) : State :=
  let s := adoptHold s
  if s.mir.adoptWait && s.quiet && (s.partnerHolds || !s.rb Reg.MIR_STATUS_LINK_UP) then (warmReset 7 side retries s).modMir fun m => { m with adopted := true } else s

/-! ### Meanings -/

/-- SUPPLIES_VALID (R413). -/
def execSuppliesValid (vinMv coreMv : Nat) (locks : List Bool) (side : Nat) (retries : List (Nat × Nat)) (s : State) : Res :=
  (suppliesValid vinMv coreMv locks (side % 2) retries s).done
/-- CONTROL_READY (R59). -/
def execControlReady (contactsA contactsB : Nat) (s : State) : Res := (controlReadyNow contactsA contactsB s).done
/-- ATLAS_STREAM_END (R60). -/
def execAtlasStreamEnd (uncorr : Bool) (s : State) : Res := (atlasStreamEnd uncorr s).done
/-- POWER_ON_RESET (R409). -/
def execPowerOnReset (retentionLost : Bool) (s : State) : Res := (powerOnReset retentionLost s).done
/-- DIP_RESET (R409). -/
def execDipReset (cause : Nat) (s : State) : Res := (dipReset (2 + cause % 3) s).done
/-- CLOCK_LOST (R402). -/
def execClockLost (refLost : Bool) (s : State) : Res := (clockLost refLost s).done
/-- PLL_RETRY (R402). -/
def execPllRetry (locks : List Bool) (s : State) : Res := (pllRetry locks s).done
/-- PWR_CMD_WARM (R411). -/
def execPwrCmdWarm (confirm side : Nat) (retries : List (Nat × Nat)) (s : State) : Res := (pwrCmd confirm (cmdWarm side retries) s).done
/-- PARK_EXIT (R407). -/
def execParkExit (side : Nat) (s : State) : Res := (parkExitWarm side s).done
/-- ADOPT_EXECUTE (R367). -/
def execAdoptExecute (side : Nat) (retries : List (Nat × Nat)) (s : State) : Res := (adoptExecute side retries s).done

end Sys2Proof.Machine
end

