-- ==== Sys2Proof/Machine/Views.lean ====
section
/-! DEFINITION. What the register fields show that State holds elsewhere than in the register-field file: the view of each block,
and the word a register shows to an access path (files 01 to 15). -/

namespace Sys2Proof.Machine

/-- What a block shows: field key and value. -/
abbrev View := List (Nat × Nat)

/-- A field shown with a value. -/
def shows (f : Field) (v : Nat) : Nat × Nat := (f.key, v)

/-- A field shown as a bit. -/
def showsB (f : Field) (b : Bool) : Nat × Nat := (f.key, b2n b)

/-- A field shown with a signed value. -/
def showsI (f : Field) (v : Int) : Nat × Nat := (f.key, ofI f.width v)

/-- A group of fields shown. -/
def showsN (n : Nat) (f : Nat → Field) (v : Nat → Nat) : View := (List.range n).map fun i => shows (f i) (v i)

/-! ### Lines that a pair shares (R349, Table 12-3) -/

/-- What a driver enabled with the own role line puts on its line; none is high impedance (R349). -/
def State.driven {α : Type} (s : State) (x : α) : Option α := if s.active then some x else none

/-- The code that AO1 or AO2 drives. -/
def State.aoPin (s : State) (n : Nat) : Option Nat := s.driven (s.r (if n = 1 then Reg.LOOP_AO_CODE_AO1 else Reg.LOOP_AO_CODE_AO2))

/-- Duty, DIR and EN at X15 for a door operator, 1 to 4. -/
def State.doorPins (s : State) (d : Nat) : Option (Nat × Bool × Bool) :=
  s.driven (s.r (Reg.LOOP_DOOR_DUTY_DUTY (d - 1)), s.rb (Reg.LOOP_DOOR_DUTY_DIR (d - 1)), s.doorEn d)

/-- A, B and Z of an emulator's outputs. -/
def State.emuPins (s : State) (i : Nat) : Option Nat := s.driven (nth s.pos.emu i {}).out

/-- The input of a sin/cos channel is terminated: TERM, while the drivers are enabled (R107, R349). -/
def State.terminated (s : State) (i : Nat) : Bool := s.rb (Reg.PFE_SC_CFG_TERM i) && s.active

/-- The input of a quadrature channel is terminated while the drivers are enabled (R349, R439); it has no TERM of its own (log entry
130). -/
def State.quadTerminated (s : State) : Bool := s.active

/-- ENC+ of a sin/cos channel, mV: 5 V or 12 V, off while SUPPLY_ON is 0 (R398, R438). -/
def State.encVolts (s : State) (i : Nat) : Nat :=
  if !s.rb (Reg.PFE_SC_CFG_SUPPLY_ON i) then 0 else if s.rb (Reg.PFE_SC_CFG_SUPPLY_12V i) then 12000 else 5000

/-! ### File 01 to 03 -/

/-- Overrides in force. -/
def State.overridden (s : State) : Bool := [0, 1].any fun l => (s.lane l).overrides != []

/-- IMG_MODULE_STATE.ROLE: not decided before an image says whether the module is paired. -/
def State.roleCode (s : State) : Nat := if !s.img.loaded then 3 else if s.paired then s.r Reg.MIR_STATUS_ROLE else 0

/-- The identity and global block. -/
def globalView (s : State) : View :=
  [ shows Reg.IMG_MODULE_STATE_ROLE s.roleCode,
    showsB Reg.IMG_MODULE_STATE_SAFE_STATE (s.held 0 != 0 || s.held 1 != 0),
    showsB Reg.IMG_MODULE_STATE_DIM (s.r Reg.PWR_STATUS_STEP != 0 && !s.parked),
    showsB Reg.IMG_MODULE_STATE_OVERRIDE_ACTIVE s.overridden,
    shows Reg.EVT_GROUP_SUMMARY s.evtSummary ]

/-- Image control. -/
def imgView (s : State) : View :=
  showsN 12 Reg.IMG_DIGEST fun i => nth (digestWords (selectedDigest s (s.r Reg.IMG_DIGEST_SEL))) i 0

/-- The dispatcher. -/
def dspView (s : State) : View :=
  let c := s.r Reg.DSP_COUNTER_SEL
  let e := s.counter c
  let k := s.r Reg.DSP_MAP_SEL
  let flow := s.dsp.flows.find? fun u => u.flow == s.r Reg.DSP_FLOW_SEL
  let alloc := decide (k < s.dsp.fab.allocCount)
  [ shows Reg.DSP_DELAY_TIME_OCC s.dsp.timeList.length, shows Reg.DSP_DELAY_POS_OCC_UP s.dsp.up.length,
    shows Reg.DSP_DELAY_POS_OCC_DOWN s.dsp.down.length,
    shows Reg.DSP_COUNTER_VALUE (nth s.dsp.counts c 0), shows Reg.DSP_COUNTER_INITIAL e.initial,
    showsB Reg.DSP_COUNTER_HOST_OK e.hostOk, shows Reg.DSP_COUNTER_FIRES (SMap.get s.dsp.fires c 0),
    showsB Reg.DSP_FLOW_IN_SERVICE flow.isSome,
    shows Reg.DSP_FLOW_FACET (match flow with | some u => u.facet | none => 0x7F),
    shows Reg.DSP_FLOW_NODE (match flow with | some u => u.node | none => 0),
    shows Reg.DSP_MAP_PHYS ((s.physOf k).getD 0),
    showsB Reg.DSP_MAP_VALID (alloc && (s.physOf k).isSome && !s.dsp.lost.elem k),
    showsB Reg.DSP_MAP_RESERVED (!alloc && (s.physOf k).isSome) ] ++
  showsN 8 Reg.DSP_READY_OCC fun i => (nth s.dsp.ready i []).length

/-- STATE of a facet. -/
def State.facetState (s : State) (p : Nat) : Nat :=
  if s.fenced p then 5
  else if s.relayBusy && s.r Reg.DSP_RELAY_STATUS_TO_PHYS == p then 4
  else match s.logicalOf p with
    | none => 0
    | some k =>
      if s.dsp.fab.allocCount ≤ k then 6
      else if (s.facet p).latch.isSome then 3 else if (s.facet p).running.isSome then 2 else 1

/-- The registers of facet p (R24); no index before an image is loaded (R10). -/
def facetView (s : State) (p : Nat) : View :=
  let f := s.facet p
  let node := fun (d : Option Desc) => match d with | some x => x.node | none => 0
  [ shows (Reg.DSP_FCT_STATUS_STATE p) (s.facetState p), shows (Reg.DSP_FCT_STATUS_INDEX p) (if s.img.loaded then s.indexOf p else 0x7F),
    showsB (Reg.DSP_FCT_STATUS_TEST_PASS p) f.testPass, shows (Reg.DSP_FCT_NODE_NODE p) (node f.running),
    showsB (Reg.DSP_FCT_NODE_RUNNING p) f.running.isSome, shows (Reg.DSP_FCT_NODE_PREF_NODE p) (node f.pref),
    showsB (Reg.DSP_FCT_NODE_PREFETCHED p) f.pref.isSome ]

/-! ### Files 04 to 07 -/

/-- The position front ends. -/
def posView (s : State) : View :=
  [ showsI Reg.PFE_OFFSET (divF s.pos.offHalf 2), showsI Reg.PFE_REF_PENDING (divF s.pos.pendHalf 2),
    showsI Reg.PFE_LANEB_POS (s.lane 0).other.pos ] ++
  showsN 2 Reg.PFE_SC_COUNT_LO (fun i => ofI 48 (nth s.pos.sc i {}).count % 2 ^ 32) ++
  showsN 2 Reg.PFE_SC_COUNT_HI (fun i => ofI 32 (toI 48 (ofI 48 (nth s.pos.sc i {}).count) / ((2 ^ 32 : Nat) : Int))) ++
  showsN 2 Reg.PFE_SC_CFG_TERM (fun i => b2n (s.terminated i)) ++
  showsN 6 Reg.PFE_QD_POS (fun q => ofI 32 (qdPos s q)) ++
  showsN 2 Reg.PFE_EMU_STATUS_BACKLOG fun i => satN 16 (mag (nth s.pos.emu i {}).pending)

/-- The armed slots of a set, or those that have fired, as bits. -/
def slotBits (p : Slot → Bool) (l : List Slot) (word : Nat) : Nat := ofBits (((l.drop (32 * word)).take 32).map p)

/-- The mark of a staging slot. -/
def MarkSet.stagedMark (x : MarkSet) (n : Nat) : Mark := nth x.staging.marks n {}

/-- The reticle. -/
def retView (s : State) : View :=
  let car := s.set 0
  let set := s.set (s.r Reg.RET_MARK_SEL_SET)
  let n := s.r Reg.RET_MARK_SEL_SLOT
  let staging := s.rb Reg.RET_MARK_SEL_STAGING
  let slot := nth set.live n {}
  let m := if staging then set.stagedMark n else slot.mark
  let c := nth s.ret.caps (s.r Reg.RET_CAP_SEL) {}
  let doors := [1, 2, 3, 4]
  [ shows Reg.RET_STATUS_CAR_ARMED (car.live.countP fun x => x.armed), showsB Reg.RET_STATUS_CAR_STAGED car.valid,
    showsB Reg.RET_STATUS_CAR_LOADING car.loading,
    shows Reg.RET_STATUS_DOOR_STAGED (ofBits (doors.map fun d => (s.set d).valid)),
    shows Reg.RET_STATUS_DOOR_LOADING (ofBits (doors.map fun d => (s.set d).loading)),
    shows Reg.RET_STATUS_DOOR_HOMED (ofBits s.ret.doorOk),
    shows Reg.RET_CAR_PROG car.prog, shows Reg.RET_CAR_STAGE_PROG (if car.valid then car.staging.id else 0),
    shows Reg.RET_POST_PENDING s.ret.posts.length,
    showsI Reg.RET_MARK_THRESH m.thresh, shows Reg.RET_MARK_FLAGS_FLAGS m.flags, shows Reg.RET_MARK_FLAGS_PRIO m.prio,
    showsB Reg.RET_MARK_FLAGS_ARMED (!staging && slot.armed), showsB Reg.RET_MARK_FLAGS_SIDE (!staging && slot.above),
    shows Reg.RET_MARK_FLAGS_TAG m.tag, shows Reg.RET_MARK_ACTION m.action,
    showsI Reg.RET_CAP_POS c.pos, showsI Reg.RET_CAP_SPEED c.speed, shows Reg.RET_CAP_TIME c.time,
    shows Reg.RET_CAP_INFO_SLOT c.slot, shows Reg.RET_CAP_INFO_SET c.set, showsB Reg.RET_CAP_INFO_LATE c.late,
    showsB Reg.RET_CAP_INFO_OVERWRITTEN c.overwritten, showsB Reg.RET_CAP_INFO_VALID c.valid, shows Reg.RET_CAP_INFO_TAG c.tag ] ++
  showsN 4 Reg.RET_DOOR_PROG (fun i => (s.set (i + 1)).prog) ++
  showsN 4 Reg.RET_DOOR_STAGE_PROG (fun i => if (s.set (i + 1)).valid then (s.set (i + 1)).staging.id else 0) ++
  showsN 8 Reg.RET_CAR_ARMED (slotBits (fun x => x.armed) car.live) ++ showsN 8 Reg.RET_CAR_FIRED (slotBits (fun x => x.fired) car.live) ++
  showsN 8 Reg.RET_DOOR_ARMED fun i => slotBits (fun x => x.armed) (s.set (i / 2 + 1)).live (i % 2)

/-- Trips. -/
def tripView (s : State) : View :=
  let c := s.chan 0
  let e := s.stopsInOrder[s.r Reg.TRIP_STOP_SEL]?
  let get := fun (f : StopEntry → Nat) => match e with | some x => f x | none => 0
  [ shows Reg.TRIP_STATUS_SEG c.seg, showsB Reg.TRIP_STATUS_FULL_ATLAS s.fullAtlas, shows Reg.TRIP_TARGET_BIN (signedBin s.bins c.refSpeed),
    showsI Reg.TRIP_REF_POS c.refPos, showsI Reg.TRIP_REF_SPEED c.refSpeed, showsI Reg.TRIP_REF_ACCEL c.refAccel,
    shows Reg.TRIP_SEG_TIME c.tau, shows Reg.TRIP_STOPS_COUNT s.trip.stops.length, shows Reg.TRIP_STOPS_NEXT s.nextStop,
    shows Reg.TRIP_STOP_ENTRY_LANDING (get fun x => x.landing), shows Reg.TRIP_STOP_ENTRY_DECK (get fun x => b2n x.upper),
    shows Reg.TRIP_STOP_ENTRY_DOORS (get fun x => x.doors), shows Reg.TRIP_STOP_ENTRY_PROFILE (get fun x => x.profile),
    shows Reg.TRIP_STOP_ENTRY_STATE (get fun x => x.state), shows Reg.TRIP_STOP_ENTRY_REQ_ID (get fun x => x.req),
    shows Reg.TRIP_SEP_STATUS_NBR_UP (s.nbrAddr 0), shows Reg.TRIP_SEP_STATUS_NBR_DOWN (s.nbrAddr 1) ]

/-- A fault is latched on a loop: LOOP_STATUS.FAULT. -/
def State.loopFaulted (s : State) (n : Nat) : Bool :=
  s.rb (Reg.LOOP_STATE_FOLLOW_ERR n) || s.loopLost n || s.driveFaulted n || (decide (1 ≤ n ∧ n ≤ 4) && s.doorFaulted n) ||
    (n == 5 && s.rb Reg.LOOP_DECK_STATUS_DECK_FAULT)

/-- The loop engines. -/
def loopView (s : State) : View :=
  [ shows Reg.LOOP_STATUS_FAULT (maskOf 6 s.loopFaulted), showsB Reg.LOOP_DECK_STATUS_IN_POSITION s.deckInPosition ] ++
  showsN 6 Reg.LOOP_NOTCH_COEF (fun n =>
    ofI 32 (nth (nth s.loop.coefs n []) (5 * s.r (Reg.LOOP_NOTCH_SEL_NOTCH n) + s.r (Reg.LOOP_NOTCH_SEL_COEF n)) 0)) ++
  showsN 6 Reg.LOOP_STATE_FE_RUNNING (fun n => b2n (s.eng n).feSince.isSome) ++
  showsN 6 Reg.LOOP_STATE_FE_TIMER (fun n => match (s.eng n).feSince with | some t => satN 8 (s.since t / 1000) | none => 0) ++
  showsN 4 Reg.LOOP_DOOR_STATUS_LC (fun i => b2n (s.inputOn (s.r (Reg.LOOP_DOOR_CFG_LC_INPUT i)))) ++
  showsN 4 Reg.LOOP_DOOR_STATUS_EDGE (fun i => b2n (s.inputOn (s.r (Reg.LOOP_DOOR_CFG_EDGE_INPUT i)))) ++
  showsN 4 Reg.LOOP_DOOR_STATUS_EN fun i => b2n (s.doorEn (i + 1))

/-! ### Files 08 and 09 -/

/-- The pole mask of both lanes, as bits 0 to 9. -/
def State.heldAny (s : State) : Nat := Nat.lor (s.held 0) (s.held 1)

/-- Bits 8 to 11 of SAF_TP and the TP commands and readbacks. -/
def tpBits (p : Nat → Nat → Bool) : Nat := ofBits [p 0 0, p 0 1, p 1 0, p 1 1]

/-- The selected overridable parameter of a lane. -/
def State.paramEntry (s : State) (l : Nat) : Option OverEntry := s.overEntry l (s.r Reg.SAF_PARAM_SEL)

/-- The registers of the safety block as a lane shows them: lane A at 0x000, lane B at 0x400 (file 08, SAF_ registers). -/
def laneView (s : State) (l : Nat) : View :=
  let x := s.lane l
  let o := x.other
  let fault := fun (b : Nat) => bitAt x.faults b
  let e := s.paramEntry l
  let ovr := e.bind fun y => lookup x.overrides y.index
  let entry := fun (f : OverEntry → Int) => match e with | some y => f y | none => 0
  [ showsB Reg.SAF_STATUS_SAFE_STATE (s.heldAny != 0), showsB Reg.SAF_STATUS_PAIRED s.paired,
    showsB Reg.SAF_STATUS_PRISM_LINK (fault FaultBit.prismLink), showsB Reg.SAF_STATUS_LANE_CLOCK (fault FaultBit.laneClock),
    showsB Reg.SAF_STATUS_PARAM_MISMATCH (fault FaultBit.param), showsB Reg.SAF_STATUS_PERM_MISMATCH (fault FaultBit.perm),
    showsB Reg.SAF_STATUS_OUT_CMD_MISMATCH (fault FaultBit.outCmd), showsB Reg.SAF_STATUS_LANE_POS_DIFF (fault FaultBit.posDiff),
    showsB Reg.SAF_STATUS_SAFETY_SET_LOAD (fault FaultBit.setLoad),
    showsB Reg.SAF_STATUS_SAFETY_SET_MISMATCH (fault FaultBit.setMismatch), showsB Reg.SAF_STATUS_SWITCH_CHANGED x.noClose,
    showsB Reg.SAF_STATUS_SWITCH_DISAGREE x.switchOff, showsB Reg.SAF_STATUS_POS_SINGLE x.single,
    showsB Reg.SAF_STATUS_OVERRIDE s.overridden, shows Reg.SAF_STATUS_HELD s.heldAny, shows Reg.SAF_PERIOD x.period,
    shows Reg.SAF_PRISM_SEQ o.seq, shows Reg.SAF_PRISM_CONSEC_MISS (satN 4 x.miss), shows Reg.SAF_PRISM_LAST_ITEM x.lastItem,
    shows Reg.SAF_PRISM_COUNT_MISSED (satN 16 x.missed), shows Reg.SAF_PRISM_COUNT_UNEQUAL (satN 16 x.unequal),
    showsI Reg.SAF_POS_A x.sent.pos, showsI Reg.SAF_POS_B o.pos, showsI Reg.SAF_POS_DIFF (satI 32 (x.sent.pos - o.pos)),
    showsI Reg.SAF_SPEED_DIFF (satI 32 (x.sent.speed - o.speed)), shows Reg.SAF_TP_CMD (tpBits s.tpCommand),
    shows Reg.SAF_TP_RB (tpBits fun m n => bitAt (s.lane m).tpRb n),
    shows Reg.SAF_TP_TP_FAULT (bits x.faults (FaultBit.tp + 3) FaultBit.tp), shows Reg.SAF_SI_CH_OWN x.chan,
    shows Reg.SAF_SI_CH_OTHER (nth o.samples 4 0), shows Reg.SAF_SI_STATE_STATE (maskOf 16 (s.siState l)),
    shows Reg.SAF_SI_STATE_MASKED (maskOf 16 (s.masked l)), shows Reg.SAF_SI_FAULT_DISC x.disc,
    shows Reg.SAF_SI_FAULT_WIRING (Nat.lor x.wiring (Nat.land (bits x.faults 15 0) (Nat.xor x.disc 0xFFFF))), shows Reg.SAF_OUT_STATE_REQUEST (maskOf 10 fun o => s.img.loaded && s.outRequested l o),
    shows Reg.SAF_OUT_STATE_ENERGIZED (maskOf 10 (s.energized l)), shows Reg.SAF_OUT_POLES_P_CMD x.cmd,
    shows Reg.SAF_OUT_POLES_M_CMD o.outCmd, shows Reg.SAF_OUT_RB_P_RB x.rb, shows Reg.SAF_OUT_RB_M_RB o.outRb,
    shows Reg.SAF_OUT_FAULT (bits x.faults 25 16), shows Reg.SAF_SEAL_CODE_A x.code,
    showsB Reg.SAF_SEAL_SW1_A x.sw1, shows Reg.SAF_SEAL_CODE_B o.switch, showsB Reg.SAF_SEAL_SW1_B (bitAt o.flags 2),
    showsB Reg.SAF_SEAL_MATCH_A (s.codeMatch l), showsB Reg.SAF_SEAL_MATCH_B (bitAt o.flags 3),
    showsB Reg.SAF_PARAM_INFO_OVERRIDABLE e.isSome, showsB Reg.SAF_PARAM_INFO_OVERRIDDEN ovr.isSome,
    showsI Reg.SAF_PARAM_MIN (entry fun y => y.min), showsI Reg.SAF_PARAM_MAX (entry fun y => y.max),
    shows Reg.SAF_PARAM_APPLIED (match ovr with | some v => v | none => ofI 32 (entry fun y => y.image)) ]

/-- The registers of the safety functions, from offset 0x800 (file 09): lane A's view. -/
def functionView (s : State) : View :=
  let x := s.lane 0
  let brake := fun (b : Nat) => s.laneBrake 0 b
  let srst := fun (l : Nat) => (nth (s.lane l).srcs 1 {}).level
  [ shows Reg.SAF_FN_PERM_PERM_A x.perm, shows Reg.SAF_FN_PERM_PERM_B x.other.perm,
    shows Reg.SAF_FN_FAULT_FAULT (bits x.faults 46 32), shows Reg.SAF_FN_FAULT_FAST_CUT_IN x.fastCut,
    showsB Reg.SAF_MOTION_STATE_DOORS_CLOSED (s.img.loaded && s.doorsClosed 0), showsB Reg.SAF_MOTION_STATE_BRIDGED x.bridged,
    showsB Reg.SAF_MOTION_STATE_UCM_ARMED x.ucmArmed, showsB Reg.SAF_MOTION_STATE_INSPECTION (s.inspection 0),
    showsB Reg.SAF_MOTION_STATE_QUIET s.quiet, showsB Reg.SAF_MOTION_STATE_SEP_STALE (x.nbrs.any fun n => n.stale.isSome),
    showsI Reg.SAF_UCM_ANCHOR x.ucmAnchor, shows Reg.SAF_BRAKE_STATUS_BRAKE1 (brake 0).state,
    shows Reg.SAF_BRAKE_STATUS_BRAKE2 (brake 1).state, shows Reg.SAF_BRAKE_CURRENT_BK1 (satN 16 (brake 0).current),
    shows Reg.SAF_BRAKE_CURRENT_BK2 (satN 16 (brake 1).current), shows Reg.SAF_BT_STATUS_HOURS s.btHours,
    shows Reg.SAF_LOCK_CHECK_CONSEC (satN 4 (x.locks.foldl (fun n y => max n y.misses) 0)),
    showsB Reg.SAF_RESET_STATUS_SRST_A (srst 0), showsB Reg.SAF_RESET_STATUS_SRST_B (srst 1),
    showsB Reg.SAF_RESET_STATUS_NET_LINE (nth x.srcs 0 {}).level,
    showsB Reg.SAF_RESET_STATUS_STUCK ([0, 1].any fun l => (s.lane l).srcs.any fun y => y.stuck) ]

/-- Lane B's view of an img field comes from lane B's table. -/
def laneBImg (s : State) (f : Field) : Nat :=
  match lookup (s.laneTable 1).regs f.addr with
  | some x => fieldOf f x
  | none => imgDefault f

/-! ### Files 10 to 15 -/

/-- Standard field I/O. -/
def fioView (s : State) : View :=
  let i := s.r Reg.FIO_DI_CUR_SEL
  let d := nth s.fio.di i {}
  let c := s.cplLane (s.r Reg.FIO_CPL_SEL_GROUP) (s.r Reg.FIO_CPL_SEL_LANE)
  let faults := maskOf 24 fun n => s.doKind n != 0
  [ showsB Reg.FIO_STATUS_STANDBY_OFF (s.paired && !s.active), showsB Reg.FIO_STATUS_DO_FAULT (faults != 0),
    showsB Reg.FIO_STATUS_DI_FAULT ([Reg.FIO_DI_BREAK_LO, Reg.FIO_DI_BREAK_HI, Reg.FIO_DI_UNDEF_LO, Reg.FIO_DI_UNDEF_HI].any fun f => s.rb f),
    shows Reg.FIO_DI_CURRENT_CURRENT (satN 10 d.current),
    shows Reg.FIO_DI_CURRENT_CLASS (if s.rb (Reg.FIO_DI_CFG_WB i) then d.taken.getD d.cand else if s.img.loaded then 7 else 0),
    shows Reg.FIO_DO_CMD s.doApplied, shows Reg.FIO_DO_FAULT faults, shows Reg.FIO_CPL_LANE_MARGIN c.margin,
    shows Reg.FIO_CPL_LANE_MIN c.min, shows Reg.FIO_CPL_LANE_ERRORS c.errors, shows Reg.FIO_CPL_LANE_STATE c.state ]

/-- NET_ADJ of a port. -/
def adjView (p : Nat) (a s c pr l se : Field) (x : State) : View :=
  let j := nth x.net.adj p {}
  [ shows a j.addr, shows s j.side, showsB c j.committed, showsB pr j.present, showsB l j.listening, shows se (j.serial % 65536) ]

/-- NET_NBR_UP (0) and NET_NBR_DOWN (1). -/
def nbrView (i : Nat) (path to_ side run age : Field) (s : State) : View :=
  let sd := nth s.net.nbrSide i 0
  let p := s.net.paths.find? fun x => x.origin == 0 && x.src == s.nbrAddr i && x.side == sd && x.kind == Kind.neighbour
  [ shows path (match p with | some x => x.path | none => 0), showsB to_ ((s.nbr i).timedOut || (s.nbr i).pathOut), shows side sd,
    shows run (match p with | some x => satN 8 x.run | none => 0), shows age (satN 16 (nth s.net.nbrAge i 0)) ]

/-- The networks. -/
def netView (s : State) : View :=
  let gm := match (s.clock (s.r Reg.NET_STATUS_PTP_SOURCE)).best with | some a => a.identity | none => 0
  let sec := s.ptpNow / 1000000000
  [ shows Reg.NET_STATUS_ADDR_STATE s.addrState, shows Reg.NET_STATUS_LISTENING (s.r Reg.IMG_MODULE_STATE_LISTENING),
    shows Reg.NET_RX_BUF_RESET s.net.bufReset.length, shows Reg.NET_RX_BUF_MGMT s.net.bufMgmt.length,
    shows Reg.NET_RX_BUF_REQUEST s.net.bufReq.length, shows Reg.NET_RX_BUF_NBR (satN 3 s.nbrWaiting),
    shows Reg.NET_PTP_TIME_NS (s.ptpNow % 1000000000), shows Reg.NET_PTP_TIME_SEC_LO (sec % 2 ^ 32),
    shows Reg.NET_PTP_TIME_SEC_HI (sec / 2 ^ 32), shows Reg.NET_PTP_GM_LO (gm % 2 ^ 32), shows Reg.NET_PTP_GM_HI (gm / 2 ^ 32) ] ++
  nbrView 0 Reg.NET_NBR_UP_PATH Reg.NET_NBR_UP_TIMEOUT Reg.NET_NBR_UP_SIDE Reg.NET_NBR_UP_DUAL_RUN Reg.NET_NBR_UP_AGE_US s ++
  nbrView 1 Reg.NET_NBR_DOWN_PATH Reg.NET_NBR_DOWN_TIMEOUT Reg.NET_NBR_DOWN_SIDE Reg.NET_NBR_DOWN_DUAL_RUN Reg.NET_NBR_DOWN_AGE_US s ++
  adjView 0 Reg.NET_ADJ_A1_ADDRESS Reg.NET_ADJ_A1_SIDE Reg.NET_ADJ_A1_COMMITTED Reg.NET_ADJ_A1_PRESENT Reg.NET_ADJ_A1_LISTENING
    Reg.NET_ADJ_A1_SERIAL s ++
  adjView 1 Reg.NET_ADJ_A2_ADDRESS Reg.NET_ADJ_A2_SIDE Reg.NET_ADJ_A2_COMMITTED Reg.NET_ADJ_A2_PRESENT Reg.NET_ADJ_A2_LISTENING
    Reg.NET_ADJ_A2_SERIAL s ++
  adjView 2 Reg.NET_ADJ_B1_ADDRESS Reg.NET_ADJ_B1_SIDE Reg.NET_ADJ_B1_COMMITTED Reg.NET_ADJ_B1_PRESENT Reg.NET_ADJ_B1_LISTENING
    Reg.NET_ADJ_B1_SERIAL s ++
  adjView 3 Reg.NET_ADJ_B2_ADDRESS Reg.NET_ADJ_B2_SIDE Reg.NET_ADJ_B2_COMMITTED Reg.NET_ADJ_B2_PRESENT Reg.NET_ADJ_B2_LISTENING
    Reg.NET_ADJ_B2_SERIAL s

/-- The mirror. -/
def mirView (s : State) : View :=
  [ shows Reg.MIR_STATUS_ROLE s.roleCode, showsB Reg.MIR_STATUS_HOME (s.img.loaded && s.side == s.r Reg.MIR_CFG_HOME_SIDE),
    shows Reg.MIR_SHADOW_CLEAN_S s.cleanSeconds ]

/-- The trouble log and the aperture of a path. -/
def logView (p : Path) (s : State) : View :=
  let a := (s.path p).ap
  [ shows Reg.LOG_STATUS_REGION s.log.region, showsB Reg.LOG_STATUS_STOPPED s.log.stopped, showsB Reg.LOG_STATUS_WRAPPED s.log.wrapped,
    shows Reg.LOG_STATUS_THROTTLED s.log.throttled, shows Reg.LOG_NEXT s.log.next, shows Reg.LOG_OLDEST s.log.oldest,
    shows Reg.LOG_OVERWRITTEN s.log.overwritten, shows Reg.LOG_WALL_STATUS_SOURCE s.wall.source,
    shows Reg.LOG_WALL_LO (s.wall.ns % 2 ^ 32), shows Reg.LOG_WALL_HI (s.wall.ns / 2 ^ 32),
    shows Reg.LOG_FAIL_COUNT_MAIN s.log.failMain, shows Reg.LOG_FAIL_COUNT_SPARE s.log.failSpare, shows Reg.LOG_AP_SEL a.sel,
    shows Reg.LOG_AP_CURSOR a.cursor, showsB Reg.LOG_AP_STATUS_READY a.ready, showsB Reg.LOG_AP_STATUS_GAP a.gap,
    shows Reg.LOG_AP_STATUS_WORDS a.words, shows Reg.LOG_AP_STATUS_SKIPPED a.skipped ] ++
  showsN 8 Reg.LOG_LW (fun i => nth s.log.lw i 0) ++ showsN 64 Reg.LOG_AP_WIN fun i => nth a.win i 0

/-- The events. EVT_Q_SRC is read by the row of its own and shows an empty queue otherwise. -/
def evtView (s : State) : View :=
  [ shows Reg.EVT_Q_STATUS_COUNT s.ev.queue.length, shows Reg.EVT_Q_STATUS_LOST s.ev.lost,
    shows Reg.EVT_FRAME_STATUS_COUNT s.ev.frames.length, shows Reg.EVT_FRAME_STATUS_LOST s.ev.frameLost,
    shows Reg.EVT_COUNT (SMap.get s.ev.counts (s.r Reg.EVT_COUNT_SEL) 0) ] ++
  (match s.ev.queue with
   | [] => []
   | x :: _ => [shows Reg.EVT_Q_ARG x.arg, shows Reg.EVT_Q_TIME_LO (x.time % 2 ^ 32), shows Reg.EVT_Q_TIME_HI (x.time / 2 ^ 32)]) ++
  showsN 16 Reg.EVT_PEND fun n => bits s.ev.pend (32 * n + 31) (32 * n)

/-- Power, clocks and resets. -/
def pwrView (s : State) : View :=
  [ showsB Reg.PWR_STATUS_OVR_MARK (s.pwr.ovrMark != 0), shows Reg.PWR_PCC s.pcc, shows Reg.PWR_OPTIME_LO (s.optime.toNat % 2 ^ 32),
    shows Reg.PWR_OPTIME_HI (s.optime.toNat / 2 ^ 32) ]

/-- VERIFIED banks and deep slots sealed under a key slot (R423). -/
def State.sealedUnder (s : State) (n : Nat) : Nat :=
  [0, 1, 2, 3].countP fun t => s.verified t && (s.sealOf t).authorKey == n

/-- The fingerprint's key bytes: 0x04, X, Y (R418). -/
def keyBytes (k : BitVec 768) : List Byte := leBytes 1 4 ++ beBytes 96 k.toNat

/-- An object of SEC_BUF_SEL (R426). -/
def secObject (s : State) (n : Nat) : List Byte :=
  if n = 0 then s.sec.cert
  else if n = 1 then s.sec.report
  else if n ≤ 5 then
    match nth s.sec.keys (n - 2) none with
    | some k => keyBytes k ++ beBytes 48 (sha384 (keyBytes k)).toNat
    | none => []
  else []

/-- The 64 words of the part that a path has selected (R426). -/
def secPart (p : Path) (s : State) : List Nat :=
  let b := secObject s (s.path p).bufObject
  (List.range 64).map fun w => leAt b (256 * (s.path p).bufPart + 4 * w) 4

/-- The security block to a path. SEC_RNG is read by the row of its own. -/
def secView (p : Path) (s : State) : View :=
  [ showsB Reg.SEC_STATUS_RNG_HEALTHY (s.rb Reg.SEC_RNG_STATUS_HEALTHY), showsB Reg.SEC_STATUS_KEY_BUSY s.sec.running.isSome,
    shows Reg.SEC_STATUS_SLOTS (maskOf 4 fun n => (nth s.sec.keys n none).isSome), shows Reg.SEC_BUF_SEL_OBJECT (s.path p).bufObject,
    shows Reg.SEC_BUF_SEL_PART (s.path p).bufPart ] ++
  showsN 4 Reg.SEC_KEY_INFO_ENROLLED (fun n => b2n (nth s.sec.keys n none).isSome) ++
  showsN 4 Reg.SEC_KEY_INFO_IMAGES s.sealedUnder ++ showsN 8 Reg.SEC_ATT_NONCE (fun n => nth (s.path p).nonce n 0) ++
  showsN 64 Reg.SEC_BUF fun w => nth (secPart p s) w 0

/-! ### The word of a register -/

/-- The view of the block at a base address (Table 01-6). -/
def blockView (p : Path) (s : State) (addr : Nat) : View :=
  match addr / 0x10000 with
  | 0 => globalView s
  | 1 => imgView s
  | 2 => dspView s
  | 3 => facetView s (addr % 0x10000 / 0x100)
  | 4 => posView s
  | 5 => retView s
  | 6 => tripView s
  | 7 => loopView s
  | 8 => if addr % 0x10000 < 0x800 then laneView s 0 else functionView s
  | 9 => fioView s
  | 10 => netView s
  | 11 => mirView s
  | 12 => logView p s
  | 13 => evtView s
  | 14 => pwrView s
  | 15 => secView p s
  | _ => []

/-- The value a field shows to a path; a WO field reads 0 (R8). -/
def State.field (s : State) (p : Path) (f : Field) : Nat :=
  if f.acc = .wo then 0
  else match lookup (blockView p s f.addr) f.key with
    | some v => v % 2 ^ f.width
    | none => s.r f

/-- A field of lane B's view, named by its field of lane A's block: what lane B shows; an img field from lane B's table. -/
def State.fieldB (s : State) (f : Field) : Nat :=
  match lookup (laneView s 1) f.key with
  | some v => v % 2 ^ f.width
  | none => if f.acc = .wo then 0 else if f.img then laneBImg s f else s.r f

/-- A word put together from its fields. -/
def packFields (v : Field → Nat) (l : List Field) : Nat := l.foldl (fun n f => n + v f * 2 ^ f.lo) 0

/-- An address lies in lane B's view (file 08). -/
def inLaneB (addr : Nat) : Bool := decide (0x80400 ≤ addr) && decide (addr < 0x80600)

/-- The present word of a register for a path; an unassigned offset reads 0 (R7). -/
def State.word (s : State) (p : Path) (addr : Nat) : Nat :=
  if inLaneB addr then packFields s.fieldB (fieldsAt (addr - 0x400)) else packFields (s.field p) (fieldsAt addr)

end Sys2Proof.Machine
end

