-- ==== Sys2Proof/Machine/Sec.lean ====
section
/-! DEFINITION. The security block (file 15): key commands, attestation, random numbers, the identity check (R418 to R427). -/

namespace Sys2Proof.Machine

/-- The security block changed. -/
def State.modSec (s : State) (f : SecState → SecState) : State := { s with sec := f s.sec }

/-! ### Key commands (R421 to R423) -/

/-- The confirm value of SEC_KEY_CMD. -/
def keyConfirm : Nat := 0xE5A7

/-- SEC_KEY_STATUS. -/
def keyResult (result reason slot : Nat) (s : State) : State :=
  ((s.w Reg.SEC_KEY_STATUS_RESULT result).w Reg.SEC_KEY_STATUS_REASON reason).w Reg.SEC_KEY_STATUS_SLOT slot

/-- A key command refused (Table 15-2); reason CONFIRM raises no event. -/
def keyRefuse (reason slot : Nat) (s : State) : State :=
  (keyResult 3 reason slot s).when_ (reason != 1) fun s => s.raise Evt.KEY_CMD_REFUSED [.code slot, .code reason]

/-- The first reason of Table 15-2 that can be judged at the command, 0 if none applies. -/
def keyReason (enroll : Bool) (slot confirm : Nat) (s : State) : Nat :=
  if confirm ≠ keyConfirm then 1
  else if !s.rb Reg.IMG_SEAL_SW2 then 2
  else if s.sec.running.isSome || s.r Reg.IMG_WRITE_STATUS_STATE == 2 then 3
  else if enroll && (nth s.sec.keys slot none).isSome then 4
  else if !enroll && (nth s.sec.keys slot none).isNone then 5
  else 0

/-- A path's key buffer as X then Y (R422). -/
def State.keyBuffer (s : State) (p : Path) : BitVec 768 := BitVec.ofNat 768 (beNat ((s.path p).keyBuf.flatMap (leBytes 4)))

/-- SEC_KEY_CMD ENROLL or REMOVE. -/
def keyCommand (p : Path) (enroll : Bool) (slot confirm : Nat) (s : State) : State :=
  match keyReason enroll slot confirm s with
  | 0 => keyResult 1 0 slot (s.modSec fun x => { x with running := some ⟨enroll, slot, s.keyBuffer p, p⟩ })
  | n => keyRefuse n slot s

/-- The fingerprint of a key (R418). -/
def fingerprint (k : BitVec 768) : Digest := sha384 (keyBytes k)

/-- Another slot holds a key's fingerprint. -/
def State.keyTwice (s : State) (slot : Nat) (k : BitVec 768) : Bool :=
  (List.range 4).any fun n => n != slot && (match nth s.sec.keys n none with
    | some x => fingerprint x == fingerprint k
    | none => false)

/-- The key command that runs ends (R422). -/
def keyCmdDone (s : State) : State :=
  match s.sec.running with
  | none => s
  | some c =>
    let s := s.modSec fun x => { x with running := none }
    if !c.enroll then
      let s := s.modSec fun x => { x with keys := setAt x.keys c.slot none none }
      ((keyResult 2 0 c.slot s).inc Reg.SEC_KEY_COUNT_REMOVED).raise Evt.KEY_REMOVED [.code c.slot]
    else if !pointValid c.key then keyRefuse 6 c.slot s
    else if s.keyTwice c.slot c.key then keyRefuse 7 c.slot s
    else
      let s := s.modSec fun x => { x with keys := setAt x.keys c.slot (some c.key) none }
      let s := s.setPath c.path { s.path c.path with keyBuf := List.replicate 24 0 }
      ((keyResult 2 0 c.slot s).inc Reg.SEC_KEY_COUNT_ENROLLED).raise Evt.KEY_ENROLLED [.code c.slot]

/-! ### Attestation (R424, R425) -/

/-- KEYS_DIGEST (R425). -/
def State.keysDigest (s : State) : Digest :=
  sha384 ((List.range 4).flatMap fun n => match nth s.sec.keys n none with
    | some k => leBytes 1 1 ++ keyBytes k
    | none => List.replicate 98 0)

/-- STATE of a report (Table 15-3). -/
def State.reportState (s : State) : Nat :=
  s.word .host 0xC % 1024 + 1024 * s.r Reg.IMG_STATUS_FALLBACK + 2048 * s.r Reg.IMG_SEAL_SW1 + 4096 * s.r Reg.IMG_SEAL_SW2 +
    8192 * s.r Reg.IMG_SEAL_SWITCH_CODE + 2 ^ 19 * s.r Reg.IMG_SEAL_MATCH

/-- The digest bytes of a report field. -/
def digestBytes (d : Digest) : List Byte := beBytes 48 d.toNat

/-- Bytes 0x000 to 0x19F of a report (Table 15-3). -/
def State.reportBody (s : State) (p : Path) (seq : Nat) : List Byte :=
  let seal_ : SealRec := if s.img.loaded then s.img.loadedSeal else {}
  let atlas : Digest := if s.fullAtlas then (nth s.img.slotDigest s.activeSlot none).getD 0 else 0
  leBytes 4 0x4B434152 ++ leBytes 2 1 ++ leBytes 2 512 ++ leBytes 8 s.serial ++ leBytes 4 (s.word .host 0) ++ leBytes 4 seq ++
  leBytes 4 s.pcc ++ leBytes 4 (s.r Reg.PWR_OP_SECONDS) ++ leBytes 8 s.optime.toNat ++ leBytes 4 s.reportState ++
  leBytes 1 (s.r Reg.NET_ADDR_ADDRESS) ++ leBytes 1 (s.r Reg.NET_ADDR_SIDE) ++ leBytes 2 0 ++
  ((s.path p).nonce.flatMap (leBytes 4)) ++ leBytes 8 seal_.imageId ++ digestBytes seal_.digest ++ digestBytes atlas ++
  digestBytes (nth s.sec.laneHash 0 0) ++ digestBytes (nth s.sec.laneHash 1 0) ++ digestBytes s.keysDigest ++
  digestBytes (sha384 s.sec.cert) ++ List.replicate 40 0

/-- ATTEST refused. -/
def attestRefuse (reason : Nat) (s : State) : State :=
  ((s.w Reg.SEC_ATT_STATUS_STATE 3).w Reg.SEC_ATT_STATUS_REASON reason).raise Evt.ATTEST_REFUSED [.code reason]

/-- SEC_ATT_CMD ATTEST: the fields are latched and signing starts (R424). -/
def attest (p : Path) (s : State) : State :=
  if s.sec.pending.isSome then attestRefuse 1 s
  else if !s.rb Reg.SEC_RNG_STATUS_HEALTHY then attestRefuse 2 s
  else if !s.rb Reg.SEC_STATUS_IDENTITY_OK then attestRefuse 3 s
  else
    let s := s.incWrap Reg.SEC_ATT_SEQ
    let b := s.reportBody p (s.r Reg.SEC_ATT_SEQ)
    (s.w Reg.SEC_ATT_STATUS_STATE 1).modSec fun x => { x with pending := some (b, ownerCode p) }

/-- The signature of a report's bytes with the identity key and a fresh nonce, both below the order of the curve (R419, R424). -/
def State.signature (s : State) (b : List Byte) : BitVec 768 :=
  ecdsaSign (1 + Config.identityKey % (curveN - 1)) (1 + Config.nonce s.free % (curveN - 1)) (sha384 b)

/-- The report is signed with a fresh nonce and ready; without a healthy TRNG the signature is refused (R419, R424). -/
def attestDone (s : State) : State :=
  match s.sec.pending with
  | none => s
  | some (b, code) =>
    let s := s.modSec fun x => { x with pending := none }
    if !s.rb Reg.SEC_RNG_STATUS_HEALTHY then attestRefuse 2 s
    else
      let sig := s.signature b
      let s := s.took.modSec fun x => { x with report := b ++ beBytes 96 sig.toNat }
      ((s.w Reg.SEC_ATT_STATUS_STATE 2).w Reg.SEC_ATT_STATUS_PATH code).raise Evt.ATTEST_DONE [.ident (leAt b 0x14 4)]

/-! ### Random numbers and identity (R419, R420) -/

/-- A read of SEC_RNG: 32 bits that nothing else has used, 0 while the TRNG is unhealthy. -/
def rngRead (p : Path) (s : State) : State :=
  if s.rb Reg.SEC_RNG_STATUS_HEALTHY then s.took.answerRead p (s.freeNat 32) else s.answerRead p 0

/-- A health test fails. -/
def rngFail (adaptive : Bool) (s : State) : State :=
  ((s.wb Reg.SEC_RNG_STATUS_HEALTHY false).inc Reg.SEC_RNG_STATUS_FAILS).raise Evt.RNG_FAIL [.code (b2n adaptive)]

/-- 1,024 consecutive blocks have passed both tests. -/
def rngOk (s : State) : State :=
  if s.rb Reg.SEC_RNG_STATUS_HEALTHY then s else (s.wb Reg.SEC_RNG_STATUS_HEALTHY true).raise Evt.RNG_OK [.code 0]

/-- The check of R420: the private key belongs to PUBLIC_KEY, SERIAL matches, the record is intact. A failure holds until a later
start passes the check. -/
def identityCheck (keyOk : Bool) (s : State) : State :=
  let ok := keyOk && s.sec.certOk && leAt s.sec.cert 8 8 == s.serial && !s.sec.idFailed
  ((s.wb Reg.SEC_STATUS_IDENTITY_OK ok).modSec fun x => { x with idFailed := !ok }).when_ (!ok) fun s => s.raise Evt.IDENTITY_FAIL [.code 0]

/-- A read of SEC_BUF_0 latches the whole part (R426). -/
def secBufRead (p : Path) (s : State) : State :=
  let ws := secPart p s
  (s.latch p (wordsAt 0xF0204 (ws.drop 1))).answerRead p (nth ws 0 0)

/-! ### Meanings -/

/-- SEC_KEY_ENROLL (R422). -/
def execSecKeyEnroll (path : Path) (slot confirm : Nat) (s : State) : Res :=
  (s.servedOn path (keyCommand path true (slot % 4) confirm)).done
/-- SEC_KEY_REMOVE (R422). -/
def execSecKeyRemove (path : Path) (slot confirm : Nat) (s : State) : Res :=
  (s.servedOn path (keyCommand path false (slot % 4) confirm)).done
/-- KEY_CMD_DONE (R422). -/
def execKeyCmdDone (s : State) : Res := (keyCmdDone s).done
/-- SEC_ATT_ATTEST (R424). -/
def execSecAttAttest (path : Path) (s : State) : Res := (s.servedOn path (attest path)).done
/-- ATTEST_DONE (R424). -/
def execAttestDone (s : State) : Res := (attestDone s).done
/-- SEC_RNG_READ (R419). -/
def execSecRngRead (path : Path) (s : State) : Res := (s.servedOn path (rngRead path)).done
/-- RNG_FAIL (R419). -/
def execRngFail (adaptive : Bool) (s : State) : Res := (rngFail adaptive s).done
/-- RNG_OK (R419). -/
def execRngOk (s : State) : Res := (rngOk s).done
/-- IDENTITY_CHECK (R420). -/
def execIdentityCheck (keyOk : Bool) (s : State) : Res := (identityCheck keyOk s).done
/-- SW2_CHANGED (R421). -/
def execSw2Changed (level : Bool) (s : State) : Res := (sw2Change level s).done
/-- SEC_BUF_READ (R426). -/
def execSecBufRead (path : Path) (s : State) : Res := (s.servedOn path (secBufRead path)).done

end Sys2Proof.Machine
end

