-- ==== Sys2Proof/Machine/HostPort.lean ====
section
/-! DEFINITION. The access paths: reads and writes of registers and memory windows by address (R7, R8, R23 to R27, R58), and the
host-port frames (R28 to R31). -/

namespace Sys2Proof.Machine

/-! ### Addresses (Table 01-6) -/

/-- An address in the near-store window. -/
def inNear (a : Nat) : Bool := decide (0x10000000 ≤ a) && decide (a < 0x12000000)

/-- An address in the table-store window. -/
def inTable (a : Nat) : Bool := decide (0x20000000 ≤ a) && decide (a < 0x40000000)

/-- An address in a memory window. -/
def addrWindow (a : Nat) : Bool := inNear a || inTable a

/-- An address that an access may have (R23). -/
def addrValid (a : Nat) : Bool := a % 4 == 0 && (decide (a < 0x100000) || addrWindow a)

/-- The word of a memory window: a word that met an uncorrectable error holds all ones (R25). -/
def State.windowWord (s : State) (a : Nat) : Nat :=
  if inNear a then memLe s.near (a - 0x10000000) 4 else memLe s.table (a - 0x20000000) 4

/-- The present word at an address, read without any effect. -/
def State.present (s : State) (p : Path) (a : Nat) : Nat := if addrWindow a then s.windowWord a else s.word p a

/-! ### Reads (R27) -/

/-- The multi-word values whose lowest-offset register alone latches them: that register and the others (R27). -/
def latchTable : List (Nat × List Nat) :=
  [(0x00004, [0x00008]), (0x10008, [0x1000C]), (0x40108, [0x4010C]), (0x40148, [0x4014C]), (0xA0020, [0xA0024]),
   (0xA0028, [0xA002C]), (0xA0080, [0xA0084, 0xA0088]), (0xA008C, [0xA0090]), (0xA00A8, [0xA00AC]), (0xB0018, [0xB001C]),
   (0xB0020, [0xB0024]), (0xC0020, [0xC0024]), (0xE0048, [0xE004C])]

/-- A latching read of a register of `latchTable`. -/
def pairRead (p : Path) (a : Nat) (others : List Nat) (s : State) : State :=
  (s.latch p (others.map fun b => (b, s.word p b))).answerRead p (s.word p a)

/-- A read of a register that neither latches nor changes anything: the path's shadow, else the live value (R27). -/
def plainRead (p : Path) (a : Nat) (s : State) : State :=
  s.answerRead p ((lookup (s.path p).shadow a).getD (s.word p a))

/-- The reads that have an effect of their own. -/
def readEffects (p : Path) : List (Nat × (State → State)) :=
  [(0x10040, imgDigestRead p), (0x500C8, retCapPosRead p), (0xD0008, evtQRead p), (0xF0200, secBufRead p), (0xF00E0, rngRead p)]

/-- A read of a register by a path; PathState.data takes the value. -/
def readReg (p : Path) (a : Nat) (s : State) : State :=
  if 0xC0200 ≤ a ∧ a < 0xC0300 then apRead p ((a - 0xC0200) / 4) s
  else match lookup (readEffects p) a with
    | some f => f s
    | none => match lookup latchTable a with
      | some others => pairRead p a others s
      | none => plainRead p a s

/-- A read of a memory window; one that meets an uncorrectable word raises that memory's event (R25, R368). -/
def windowRead (p : Path) (a : Nat) (s : State) : State :=
  let o := if inNear a then a - 0x10000000 else a - 0x20000000
  let s := s.answerRead p (s.windowWord a)
  if s.mem.bad.elem (inTable a, o) then
    s.raise (if inTable a then Evt.TABLE_UNCORR else Evt.NEAR_UNCORR) [.code (o / rowBytes (inTable a))]
  else s

/-- A read by address, for a valid address; the windows are read in every PHASE (log entry 98). -/
def readAt (p : Path) (a : Nat) (s : State) : State := if addrWindow a then windowRead p a s else readReg p a s

/-! ### Writes (R8) -/

/-- A field's new value when a word is written to its register (Table 00-2). -/
def fieldWrite (v : Nat) (s : State) (f : Field) : State :=
  match f.acc with
  | .rw => s.w f (v / 2 ^ f.lo)
  | .w1c => s.w f (Nat.land (s.r f) (Nat.xor (v / 2 ^ f.lo % 2 ^ f.width) (2 ^ f.width - 1)))
  | _ => s

/-- A write by access code alone. -/
def plainWrite (a v : Nat) (s : State) : State := (fieldsAt a).foldl (fieldWrite v) s

/-- IMG_WRITE_CTRL. -/
def writeImgCtrl (p : Path) (v : Nat) (s : State) : State :=
  match v % 4 with
  | 1 => imgWriteBegin p (bits v 5 4) s
  | 2 => imgWriteFinish p s
  | 3 => imgWriteAbort p s
  | _ => if s.foreign p then foreignWrite s else s

/-- IMG_WRITE_LEN: a write while a session is open changes nothing. -/
def writeImgLen (v : Nat) (s : State) : State := if s.sessionOpen then s else plainWrite 0x10014 v s

/-- IMG_STAGE. -/
def writeImgStage (v : Nat) (s : State) : State :=
  match v % 4 with
  | 1 => imgStage (bits v 4 4) s
  | 3 => imgStageAbort s
  | _ => s

/-- TRIP_CMD (R191). -/
def writeTripCmd (v : Nat) (s : State) : State :=
  let c := v / 65536
  let d := bits v 5 4
  if v % 4 = 0 then s else noteStops s.trip.stops 0 0 0 (tripCmd (v % 4) d c s)

/-- LOOP_CMD (R224). -/
def writeLoopCmd (v : Nat) (s : State) : State :=
  match bits v 5 4 with
  | 1 => loopCmdClear (v % 8) (v / 65536) s
  | 2 => loopCmdPeakClear (v % 8) (v / 65536) s
  | _ => s

/-- SAF_BT_CMD (R273, R276). -/
def writeBtCmd (v : Nat) (s : State) : State :=
  match v % 4 with
  | 1 => btCmdStart (v / 65536) s
  | 2 => btCmdAbort (v / 65536) s
  | _ => s

/-- FIO_CMD (R296). -/
def writeFioCmd (v : Nat) (s : State) : State := if bits v 9 8 = 1 then fioClear (v % 32) (v / 65536) s else s

/-- MIR_CMD (R364 to R367). -/
def writeMirCmd (v : Nat) (s : State) : State :=
  match v % 8 with
  | 1 => mirCmd (v / 65536) cmdHandover s
  | 2 => mirCmd (v / 65536) cmdRelease s
  | 3 => mirCmd (v / 65536) cmdAttach s
  | 4 => mirCmd (v / 65536) cmdAdopt s
  | _ => s

/-- LOG_CMD (R388). -/
def writeLogCmd (v : Nat) (s : State) : State := if v % 4 = 1 then logClear (v / 65536) s else s

/-- LOG_REC_CMD (R390, R392). -/
def writeRecCmd (v : Nat) (s : State) : State :=
  match v % 4 with
  | 1 => recCommit none s
  | 2 => logRecClear (v / 65536) none s
  | _ => s

/-- PWR_CMD (R405, R407, R411, R412). -/
def writePwrCmd (v : Nat) (s : State) : State :=
  match v % 8 with
  | 1 => pwrCmd (v / 65536) (cmdWarm s.side []) s
  | 2 => pwrCmd (v / 65536) (cmdFacet (bits v 14 8)) s
  | 3 => pwrCmd (v / 65536) cmdPark s
  | 4 => pwrCmd (v / 65536) cmdUnpark s
  | _ => s

/-- SEC_KEY_CMD (R422). -/
def writeKeyCmd (p : Path) (v : Nat) (s : State) : State :=
  match v % 4 with
  | 1 => keyCommand p true (bits v 5 4) (v / 65536) s
  | 2 => keyCommand p false (bits v 5 4) (v / 65536) s
  | _ => s

/-- The writes whose register has a command or a holder of its own, by address. -/
def writeEffects (p : Path) (v : Nat) : List (Nat × (State → State)) :=
  [(0x10010, writeImgCtrl p v), (0x10014, writeImgLen v), (0x10018, imgWriteData p v),
   (0x10024, imgActivate (v % 2) (v / 65536)), (0x10028, writeImgStage v),
   (0x20054, dspPeakClear v), (0x20078, dspDoorbell (v % 4096)), (0x20080, dspRelayCtrl (v % 128) (v / 65536)),
   (0x500C0, retStatClear v), (0x60080, writeTripCmd v), (0x70010, writeLoopCmd v),
   (0x80154, rwsWrite 0x80154 v), (0x80158, rwsWrite 0x80158 v), (0x80894, writeBtCmd v), (0x9004C, writeFioCmd v),
   (0xA0008, addrCmd (v % 4) (v / 65536)), (0xA00B0, snapRelease v), (0xB0030, writeMirCmd v), (0xC0010, writeLogCmd v),
   (0xC0018, fun s => s.setPath p { s.path p with wallLo := v }), (0xC001C, logWallSet p v), (0xC0084, writeRecCmd v),
   (0xC0100, apSelect p (v % 8)), (0xC0104, apCursor p v), (0xE0060, writePwrCmd v), (0xF0010, writeKeyCmd p v),
   (0xF00A0, fun s => if v % 2 = 1 then attest p s else s),
   (0xF0100, fun s => s.setPath p { s.path p with bufObject := v % 8, bufPart := bits v 4 4 })]

/-- EVT_PEND_n: 1 clears a pending bit (R375). -/
def clearPending (n v : Nat) (s : State) : State :=
  { s with ev := { s.ev with pend := s.ev.pend - 2 ^ (32 * n) * Nat.land (bits s.ev.pend (32 * n + 31) (32 * n)) v } }

/-- A register whose write is a command, or goes to a holder of its own, beside the access codes of its fields. -/
def ownWrite (a : Nat) : Bool :=
  (decide (0xD0100 ≤ a) && decide (a < 0xD0140)) || (decide (0xF0040 ≤ a) && decide (a < 0xF00A0)) ||
    (decide (0xF00B0 ≤ a) && decide (a < 0xF00D0)) || (writeEffects .host 0).any fun x => x.1 == a

/-- A write of a register by a path. -/
def writeReg (p : Path) (a v : Nat) (s : State) : State :=
  if 0xD0100 ≤ a ∧ a < 0xD0140 then clearPending ((a - 0xD0100) / 4) v s
  else if 0xF0040 ≤ a ∧ a < 0xF00A0 then
    s.setPath p { s.path p with keyBuf := setAt (s.path p).keyBuf ((a - 0xF0040) / 4) v 0 }
  else if 0xF00B0 ≤ a ∧ a < 0xF00D0 then
    s.setPath p { s.path p with nonce := setAt (s.path p).nonce ((a - 0xF00B0) / 4) v 0 }
  else match lookup (writeEffects p v) a with
    | some f => f s
    | none => plainWrite a v s

/-- The registers whose only effect is to select what a read shows (R58). -/
def selectRegs : List Nat :=
  [0x10034, 0x20060, 0x2006C, 0x20090, 0x500B0, 0x500C4, 0x60054, 0x70134, 0x701B4, 0x70234, 0x702B4, 0x70334, 0x703B4, 0x80150,
   0x90028, 0x90058, 0xC0100, 0xC0104, 0xD0500, 0xF0100]

/-- A host-port write is served in IMAGE_FAIL: selections, image writes and activation, key commands, attestation, WARM (R58). -/
def servedInFail (a v : Nat) : Bool :=
  selectRegs.elem a || [0x10010, 0x10014, 0x10018, 0x10024, 0xF0010, 0xF00A0].elem a ||
    (decide (0xF0040 ≤ a) && decide (a < 0xF00A0)) || (decide (0xF00B0 ≤ a) && decide (a < 0xF00D0)) || (a == 0xE0060 && v % 8 == 1)

/-- Status bit RANGE (Table 01-8). -/
def Status.range : Nat := 4
/-- Status bit REFUSED. -/
def Status.refused : Nat := 16

/-- A write is refused: to a window (R25), or in IMAGE_FAIL, where the host port alone is served (R58). -/
def State.writeRefused (s : State) (p : Path) (a v : Nat) : Bool :=
  addrWindow a || (s.r Reg.IMG_MODULE_STATE_PHASE == 7 && (ownerCode p == 2 || !servedInFail a v))

/-- A write by address and its status: RANGE and REFUSED change nothing. -/
def writeAt (p : Path) (a v : Nat) (s : State) : State × Nat :=
  if !addrValid a then (s, Status.range)
  else if s.writeRefused p a v then (s, Status.refused)
  else (writeReg p a v s, 0)

/-! ### Host-port frames (R28 to R31) -/

/-- A response frame, CRC-8 included (Table 01-8). -/
def responseBytes (x : HostResp) : List Byte :=
  let b := leBytes 1 x.status ++ leBytes 4 x.addr ++ leBytes 4 x.data
  b ++ leBytes 1 (crc8 b)

/-- The status bits EVT_PENDING and SEQ as they stand. -/
def State.hostStatus (s : State) : Nat := 32 * b2n s.evtPin + 64 * s.host.seq

/-- A change of the host port. -/
def State.modHost (s : State) (f : HostPort → HostPort) : State := { s with host := f s.host }

/-- The response that the next frame shifts out. -/
def respond (status addr data hold : Nat) (s : State) : State :=
  s.modHost fun h => { h with resp := ⟨status + s.hostStatus, addr, data⟩, holdNs := hold }

/-- A frame is 10 bytes long and its CRC matches (R28). -/
def frameGood (f : List Byte) : Bool := f.length == 10 && crc8 (f.take 9) == leAt f 9 1

/-- A request is executed: SEQ counts it. -/
def countRequest (s : State) : State := s.modHost fun h => { h with seq := (h.seq + 1) % 4 }

/-- A host-port read is executed and its response formed. -/
def hostRead (a : Nat) (s : State) : State :=
  let s := countRequest s
  if !addrValid a then respond Status.range a 0 200 s
  else
    let s := (readAt .host a s).fin
    respond 0 a (s.path .host).data (if addrWindow a then 2000 else 200) s

/-- A host-port write is executed and its response formed, with the register's value after the write. -/
def hostWrite (a v : Nat) (s : State) : State :=
  let x := writeAt .host a v (countRequest s)
  let t := x.1.fin
  respond x.2 a (if addrValid a then t.present .host a else 0) 200 t

/-- A request frame carried by a frame that found the previous result ready. -/
def hostRequest (f : List Byte) (s : State) : State :=
  let op := leAt f 0 1
  let a := leAt f 1 4
  if !frameGood f then respond 1 a 0 200 s
  else if op = 0x0B then hostRead a s
  else if op = 0x02 then hostWrite a (leAt f 5 4) s
  else if op = 0x00 then respond 0 0 0 200 (countRequest s)
  else respond 2 a 0 200 s

/-- How long chip select must have been high for the previous result to be ready: a fill takes 1.5 µs (R30, R394). -/
def State.hostWait (s : State) : Nat :=
  if (s.path .host).ap.filling then max s.host.holdNs 1500 else s.host.holdNs

/-- A frame on X21 that begins gapNs after the previous one ended: the previous response is shifted out and the request executed, or
NOT_READY is answered and the previous result kept (R29, R30). Without supplies there is no port. -/
def hostFrame (f : List Byte) (gapNs : Nat) (s : State) : State :=
  if s.down then s
  else if gapNs < s.hostWait then
    (apFill .host s).modHost fun h => { h with miso := responseBytes ⟨8 + s.hostStatus, 0, 0⟩, holdNs := 0 }
  else hostRequest f ((apFill .host s).modHost fun h => { h with miso := responseBytes s.host.resp })

/-! ### Meanings -/

/-- HOST_READ (R29): the frame's own op byte decides. -/
def execHostRead (frame : List Byte) (gapNs : Nat) (s : State) : Res := (hostFrame frame gapNs s).done
/-- HOST_WRITE (R28). -/
def execHostWrite (frame : List Byte) (gapNs : Nat) (s : State) : Res := (hostFrame frame gapNs s).done
/-- HOST_NO_OPERATION (R29). -/
def execHostNoOperation (frame : List Byte) (gapNs : Nat) (s : State) : Res := (hostFrame frame gapNs s).done
/-- REGISTER_WRITE (R8). -/
def execRegisterWrite (path : Path) (addr value : Nat) (s : State) : Res := (writeAt path addr (value % 2 ^ 32) s).1.done
/-- LATCHING_READ (R27); a misaligned or unassigned address changes nothing (R23). -/
def execLatchingRead (path : Path) (addr : Nat) (s : State) : Res := (s.servedOn path fun s => if addrValid addr then readAt path addr s else s).done

end Sys2Proof.Machine
end

