-- ==== Sys2Proof/Machine/NetTx.lean ====
section
/-! DEFINITION. What the network block sends and does of itself: NEIGHBOUR, STATUS and EVENT frames, the snapshot capture and the
management frames (file 11, R326, R330, R331, R334, R335, R344, R378). -/

namespace Sys2Proof.Machine

/-! ### Send slots -/

/-- The module's PTP time has reached a slot of a period within the last µs (log entry 24). -/
def State.inSlot (s : State) (period slot : Nat) : Bool := decide ((s.ptpNow + period - slot % period) % period < 1000)

/-- A frame of a kind was already sent in this slot. -/
def State.sentNow (s : State) (last : Option Time) : Bool :=
  match last with
  | some t => decide (s.since t < 100)
  | none => false

/-- PTP time of the delivered sample, ns. -/
def State.samplePtp (s : State) : Nat := s.ptpNow - 1000 * s.since s.pos.sample.time

/-- SEP_HARD is asserted to the lanes. -/
def State.sepHardOn (s : State) : Bool := (s.lane 0).nbrs.any fun n => n.hard

/-- The NEIGHBOUR payload (Table 11-3). -/
def State.nbrPayload (s : State) : List Byte :=
  let x := s.pos.sample
  let st := s.r Reg.TRIP_STATUS_STATE
  leBytes 4 (ofI 32 x.pos) ++ leBytes 4 (ofI 32 x.speed) ++ leBytes 4 (ofI 32 x.accel) ++ leBytes 8 s.samplePtp ++
  leBytes 4 (x.time.toNat % 2 ^ 32) ++ leBytes 1 x.conf ++
  leBytes 1 (ofBits [s.ptpLocked, st == 4, s.outOfService, s.sepHardOn, s.rb Reg.TRIP_STATUS_DIR]) ++ leBytes 1 st ++
  leBytes 1 (s.r Reg.TRIP_TARGET_TARGET) ++ leBytes 4 (s.r Reg.TRIP_DEST_POS) ++ leBytes 4 (ofI 32 s.presentStop.aux) ++
  leBytes 4 (s.r Reg.TRIP_SEP_GAP_UP) ++ leBytes 4 (s.r Reg.TRIP_SEP_GAP_DOWN) ++ leBytes 4 (s.r Reg.LOOP_DECK_TARGET) ++
  List.replicate 22 0

/-- The switches are configured, so that the module sends frames of its own (R315). -/
def State.onNet (s : State) : Bool := !s.rb Reg.NET_STATUS_TRANSPARENT

/-- NEIGHBOUR frames are sent by the active module that is not Listening (R326). -/
def State.sendsNbr (s : State) : Bool := s.onNet && s.active && !s.rb Reg.IMG_MODULE_STATE_LISTENING

/-- The slot of this module's NEIGHBOUR frames, ns (R326). -/
def State.nbrSlot (s : State) : Nat := s.r Reg.NET_ADDR_ADDRESS % 16 * 25000

/-- A NEIGHBOUR frame at its 500 µs slot (R326). -/
def neighbourSend (s : State) : State :=
  if !s.sendsNbr || !s.inSlot 500000 s.nbrSlot || s.sentNow s.net.nbrSent then s
  else
    sendFrame Kind.neighbour (s.r Reg.NET_MAP_CFG_NBR_HOPS) 255 3 s.nbrPayload [0, 1, 2, 3]
      (s.modNet fun n => { n with nbrSent := some s.optime })

/-- DOORS of a STATUS frame for an operator: 0 closed, 1 moving, 2 open, 3 fault (Table 11-4). -/
def State.doorCode (s : State) (d : Nat) : Nat :=
  let st := s.r (Reg.LOOP_DOOR_STATUS_STATE d)
  if s.rb (Reg.LOOP_DOOR_STATUS_DOOR_FAULT d) then 3 else if st = 1 then 0 else if st = 3 then 2 else 1

/-- The STATUS payload (Table 11-4). -/
def State.statusPayload (s : State) : List Byte :=
  let x := s.pos.sample
  leBytes 2 (s.word .host 0xC % 1024) ++
  leBytes 1 (s.r Reg.TRIP_STATUS_STATE + 8 * s.r Reg.TRIP_STATUS_DIR + 16 * b2n s.fullAtlas) ++
  leBytes 1 (s.r Reg.TRIP_STATUS_CAR_STOP) ++ leBytes 4 (ofI 32 x.pos) ++ leBytes 4 (ofI 32 x.speed) ++ leBytes 1 x.conf ++
  leBytes 1 s.trip.stops.length ++ leBytes 1 (s.r Reg.TRIP_TARGET_TARGET) ++ leBytes 1 s.evtSummary ++
  leBytes 2 (s.word .host 0x80804 % 2 ^ 15) ++ leBytes 2 (bits (s.word .host 0x80000) 9 2) ++
  leBytes 1 (s.doorCode 0 + 4 * s.doorCode 1 + 16 * s.doorCode 2 + 64 * s.doorCode 3) ++
  leBytes 1 (s.r Reg.NET_STATUS_LINK + 16 * b2n (s.lockedOn 0) + 32 * b2n (s.lockedOn 1)) ++
  leBytes 1 (maskOf 4 fun b => s.bank b == 1) ++ leBytes 1 (b2n s.ev.frameLostFlag) ++ leBytes 4 (s.r Reg.SEC_SERIAL_LO) ++
  leBytes 8 s.ptpNow ++ leBytes 2 0

/-- The slot of this module's STATUS frames, ns; an unassigned module counts as address 255 (R330). -/
def State.statusSlot (s : State) : Nat :=
  let a := s.r Reg.NET_ADDR_ADDRESS
  (((if a = 0 then 255 else a) - 1) * 2 + s.side) * 19000

/-- A STATUS frame at its 10 ms slot (R330); it clears FRAME_LOST, which the next one sets again (R378). -/
def statusSend (s : State) : State :=
  if !s.onNet || !s.inSlot 10000000 s.statusSlot || s.sentNow s.net.statusSent then s
  else
    let t := sendFrame Kind.status 255 0 0 s.statusPayload headPorts (s.modNet fun n => { n with statusSent := some s.optime })
    { t with ev := { t.ev with frameLostFlag := false } }

/-! ### EVENT frames (R331, R378) -/

/-- An event record of 16 B. -/
def QEntry.bytes (x : QEntry) : List Byte := leBytes 2 x.src ++ leBytes 4 x.arg ++ leBytes 6 x.time ++ leBytes 4 x.pcc

/-- The payload of an EVENT frame. -/
def eventPayload (l : List QEntry) : List Byte :=
  leBytes 1 l.length ++ leBytes 3 0 ++ l.flatMap QEntry.bytes

/-- The previous EVENT frame lies at least 1 / EVT_FRAME_RATE s in the past (R378). -/
def State.eventDue (s : State) : Bool :=
  match s.ev.lastFrame with
  | none => true
  | some t => decide (1000000 ≤ s.since t * s.r Reg.NET_MISC_CFG_EVT_FRAME_RATE)

/-- An EVENT frame with the oldest 1 to 4 entries of the frame queue (R378). -/
def eventSend (s : State) : State :=
  if !s.onNet || s.ev.frames.isEmpty || !s.eventDue then s
  else
    let t := sendFrame Kind.event 255 0 0 (eventPayload (s.ev.frames.take 4)) headPorts s
    { t with ev := { t.ev with frames := t.ev.frames.drop 4, lastFrame := some s.optime } }

/-! ### Snapshots (R344) -/

/-- INSTANT of the armed snapshot. -/
def State.snapInstant (s : State) : Nat := s.r Reg.NET_SNAP_AT_LO + 2 ^ 32 * s.r Reg.NET_SNAP_AT_HI

/-- The capture set that every counter is latched into. -/
def State.captureSet (s : State) : Snap :=
  { tag := s.r Reg.NET_SNAP_ARMED_TAG, unlocked := !s.ptpLocked, overwrite := s.rb Reg.NET_SNAP_ARMED_OVERWRITE,
    instant := s.snapInstant, optime := s.optime.toNat, words := counterFields.map (s.field .host) }

/-- The capture of an armed snapshot once its INSTANT has come (R344). -/
def snapCapture (s : State) : State :=
  if !s.rb Reg.NET_SNAP_STATUS_ARMED || decide (s.ptpNow < s.snapInstant) then s
  else (s.wb Reg.NET_SNAP_STATUS_ARMED false).modNet fun n => { n with capture := some s.captureSet }

/-! ### Management frames (R334, R335) -/

/-- The path of a management frame. -/
def MgmtReq.path (x : MgmtReq) : Path := .mgmt x.origin x.src

/-- MGMT_WRITERS allows writes from an ORIGIN: 1 group controller, 2 tool. -/
def State.writerOk (s : State) (origin : Nat) : Bool :=
  decide (1 ≤ origin) && decide (origin ≤ 2) && bitAt (s.r Reg.NET_MAP_CFG_MGMT_WRITERS) (origin - 1)

/-- An entry of the reply. -/
def mgmtEntry (addrOp data status : Nat) : List Byte := leBytes 4 addrOp ++ leBytes 4 data ++ leBytes 1 status ++ leBytes 3 0

/-- One access of a management frame, after the path's fill (R394), and its entry of the reply. -/
def mgmtAccess (x : MgmtReq) (acc : Nat × Nat) (s : State) : State × List Byte :=
  let p := x.path
  let a := acc.1 - acc.1 % 4
  let s := apFill p s
  match acc.1 % 4 with
  | 1 =>
    if !addrValid a then (s, mgmtEntry acc.1 0 Status.range)
    else
      let t := (readAt p a s).fin
      (t, mgmtEntry acc.1 (t.path p).data 0)
  | 2 =>
    let data := fun (t : State) => if addrValid a then t.present p a else 0
    if !s.writerOk x.origin then (s, mgmtEntry acc.1 (data s) 64)
    else
      let y := writeAt p a acc.2 s
      let t := y.1.fin
      (t, mgmtEntry acc.1 (data t) y.2)
  | _ => (s, mgmtEntry acc.1 0 2)

/-- The ports by which a reply leaves: that of the request on each network, or port 1. -/
def MgmtReq.replyPorts (x : MgmtReq) : List Nat := [(nth x.ports 0 none).getD 0, 2 + (nth x.ports 1 none).getD 0]

/-- The MGMT_REPLY of a frame that has been executed. -/
def mgmtReply (x : MgmtReq) (entries : List Byte) (s : State) : State :=
  sendFrame Kind.mgmtReply 255 x.src 0 (leBytes 2 x.tag ++ leBytes 1 x.accesses.length ++ leBytes 1 0 ++ entries) x.replyPorts s

/-- The accesses of a frame in order, then its reply. A reset that one of them causes empties the buffer and ends the frame. -/
def mgmtRun (x : MgmtReq) : List (Nat × Nat) → List Byte → State → State
  | [], out, s => mgmtReply x out (s.modNet fun n => { n with bufMgmt := n.bufMgmt.drop 1 })
  | acc :: rest, out, s =>
    let y := mgmtAccess x acc s
    if y.1.net.bufMgmt.isEmpty then y.1 else mgmtRun x rest (out ++ y.2) y.1

/-- The oldest management frame of buffer 3 is executed; in IMAGE_FAIL only the host port is served (R58). -/
def mgmtExecute (s : State) : State :=
  match s.net.bufMgmt with
  | [] => s
  | x :: rest =>
    if s.r Reg.IMG_MODULE_STATE_PHASE = 7 then s.modNet fun n => { n with bufMgmt := rest } else mgmtRun x x.accesses [] s

/-! ### Meanings -/

/-- NEIGHBOUR_SEND (R326). -/
def execNeighbourSend (s : State) : Res := (neighbourSend s).done
/-- STATUS_SEND (R330). -/
def execStatusSend (s : State) : Res := (statusSend s).done
/-- EVENT_FRAME_SEND (R378). -/
def execEventFrameSend (s : State) : Res := (eventSend s).done
/-- SNAPSHOT_CAPTURE (R344). -/
def execSnapshotCapture (s : State) : Res := (snapCapture s).done
/-- MGMT_EXECUTE (R334). -/
def execMgmtExecute (s : State) : Res := (mgmtExecute s).done

end Sys2Proof.Machine
end

