-- ==== Sys2Proof/Machine/Clock.lean ====
section
/-! DEFINITION. One microsecond without a command: operating time, the PTP and wall clocks, the PWM periods, the counters of time, the
loupe's schedule and the mirror link's queue (R4, R215, R337, R351, R372, R384, R404; log entry 5). -/

namespace Sys2Proof.Machine

/-- A ms counter and the recorder's DIM item count one µs (file 14, Table 13-4). -/
def countTime (i entry : Nat) (f : Field) (s : State) : State :=
  let n := nth s.pwr.partMs i 0 + 1
  let s := (recCounter 6 entry 1 s).modPwr fun x => { x with partMs := setAt x.partMs i (n % 1000) 0 }
  s.when_ (n == 1000) fun s => s.inc f

/-- Time at the Dim steps, and Parked apart from them. -/
def dimTime (s : State) : State :=
  if s.parked then countTime 2 4 Reg.PWR_PARK_TIME s
  else if s.r Reg.PWR_STATUS_STEP = 1 then countTime 0 0 Reg.PWR_DIM_TIME_200 s
  else if s.r Reg.PWR_STATUS_STEP = 2 then countTime 1 1 Reg.PWR_DIM_TIME_100 s
  else s

/-- What happens every 50 µs, 1 ms and 1 s of operating time. -/
def periodic (s : State) : State :=
  let t := s.optime.toNat
  let s := s.when_ (t % 50 == 0) fun s => s.awake pwmStart
  let s := s.when_ (t % 1000 == 0) loupeShare
  s.when_ (t % 1000000 == 0) fun s => s.inc Reg.PWR_OP_SECONDS

/-- Whether the oldest message for the mirror link leaves its queue in this µs: that depends on the link and on the partner's credits
(R351, log entry 76). Room after an overflow lets the pair resynchronise. -/
def linkSend (leaves : Bool) (s : State) : State := linkResync (s.when_ leaves fun s => s.modMir fun x => { x with out := x.out.tail })

/-- One µs of operating time. During a DIP or without a clock the retention counter alone goes on; before the first supply nothing does
(R4, R402, R410). -/
def tick (s : State) : State :=
  if s.down then (if s.r Reg.PWR_RESET_CAUSE_KIND = 0 ∧ !s.pwr.clockLost then s else optimeStep s)
  else
    let s := optimeStep s
    let s := loupeTick (dimTime (periodic (ptpTick (s.freeNat 1 == 1) s.took)))
    linkSend (s.freeNat 1 == 1) s.took

end Sys2Proof.Machine
end

