-- ==== Sys2Proof/Machine/Dispatch.lean ====
section
/-! DEFINITION. The meaning of every command: one arm per constructor of Instr, one direct call of its meaning. -/

namespace Sys2Proof.Machine

def exec (i : Instr) (s : State) : Host.Outcome State Fault Refusal :=
  match i with
  | .hostRead frame gapNs => Sys2Proof.Machine.execHostRead frame gapNs s
  | .hostWrite frame gapNs => Sys2Proof.Machine.execHostWrite frame gapNs s
  | .hostNoOperation frame gapNs => Sys2Proof.Machine.execHostNoOperation frame gapNs s
  | .registerWrite path addr value => Sys2Proof.Machine.execRegisterWrite path addr value s
  | .latchingRead path addr => Sys2Proof.Machine.execLatchingRead path addr s
  | .imgDigestRead path => Sys2Proof.Machine.execImgDigestRead path s
  | .imgWriteBegin path target => Sys2Proof.Machine.execImgWriteBegin path target s
  | .imgWriteData path word => Sys2Proof.Machine.execImgWriteData path word s
  | .imgWriteFinish path => Sys2Proof.Machine.execImgWriteFinish path s
  | .imgWriteAbort path => Sys2Proof.Machine.execImgWriteAbort path s
  | .imgSessionTimeout => Sys2Proof.Machine.execImgSessionTimeout s
  | .imgVerifyEnd medium => Sys2Proof.Machine.execImgVerifyEnd medium s
  | .imgActivate bank confirm => Sys2Proof.Machine.execImgActivate bank confirm s
  | .imgStage slot => Sys2Proof.Machine.execImgStage slot s
  | .imgStageAbort => Sys2Proof.Machine.execImgStageAbort s
  | .atlasStagingEnd uncorr => Sys2Proof.Machine.execAtlasStagingEnd uncorr s
  | .suppliesValid vinMv coreMv locks side retries => Sys2Proof.Machine.execSuppliesValid vinMv coreMv locks side retries s
  | .controlReady contactsA contactsB => Sys2Proof.Machine.execControlReady contactsA contactsB s
  | .atlasStreamEnd uncorr => Sys2Proof.Machine.execAtlasStreamEnd uncorr s
  | .complete facet mask cycles writes outs => Sys2Proof.Machine.execComplete facet mask cycles writes outs s
  | .completionCollect => Sys2Proof.Machine.execCompletionCollect s
  | .counterApply => Sys2Proof.Machine.execCounterApply s
  | .readyListEntry => Sys2Proof.Machine.execReadyListEntry s
  | .descriptorPlacement => Sys2Proof.Machine.execDescriptorPlacement s
  | .delayInsert inserts => Sys2Proof.Machine.execDelayInsert inserts s
  | .delayCancel logical position tag => Sys2Proof.Machine.execDelayCancel logical position tag s
  | .timeListExpiry => Sys2Proof.Machine.execTimeListExpiry s
  | .portDelivery port => Sys2Proof.Machine.execPortDelivery port s
  | .dspDoorbell counter => Sys2Proof.Machine.execDspDoorbell counter s
  | .dspPeakClear value => Sys2Proof.Machine.execDspPeakClear value s
  | .facetOverrun facet writes => Sys2Proof.Machine.execFacetOverrun facet writes s
  | .dspRelayCtrl logical confirm => Sys2Proof.Machine.execDspRelayCtrl logical confirm s
  | .relayStart => Sys2Proof.Machine.execRelayStart s
  | .relayCopyDone => Sys2Proof.Machine.execRelayCopyDone s
  | .relaySwitch => Sys2Proof.Machine.execRelaySwitch s
  | .facetStall facet => Sys2Proof.Machine.execFacetStall facet s
  | .facetMemoryUncorr facet => Sys2Proof.Machine.execFacetMemoryUncorr facet s
  | .faultRelayLoadDone => Sys2Proof.Machine.execFaultRelayLoadDone s
  | .carPositionSample sc => Sys2Proof.Machine.execCarPositionSample sc s
  | .sampleDelivery => Sys2Proof.Machine.execSampleDelivery s
  | .sincosLost channel => Sys2Proof.Machine.execSincosLost channel s
  | .referenceMark channel => Sys2Proof.Machine.execReferenceMark channel s
  | .indexLost channel => Sys2Proof.Machine.execIndexLost channel s
  | .adcCalSwap channel track diffs => Sys2Proof.Machine.execAdcCalSwap channel track diffs s
  | .quadEdge channel a b z => Sys2Proof.Machine.execQuadEdge channel a b z s
  | .emulatorEdge emu => Sys2Proof.Machine.execEmulatorEdge emu s
  | .ssiFrameStart => Sys2Proof.Machine.execSsiFrameStart s
  | .ssiFrameEnd bits idleLow => Sys2Proof.Machine.execSsiFrameEnd bits idleLow s
  | .slip => Sys2Proof.Machine.execSlip s
  | .ssiLost channel => Sys2Proof.Machine.execSsiLost channel s
  | .ssiRestored channel => Sys2Proof.Machine.execSsiRestored channel s
  | .laneBSsiFrame bits idleLow age => Sys2Proof.Machine.execLaneBSsiFrame bits idleLow age s
  | .referencePoint input rising => Sys2Proof.Machine.execReferencePoint input rising s
  | .reticleLoad set addr => Sys2Proof.Machine.execReticleLoad set addr s
  | .reticleLoadDone set uncorr => Sys2Proof.Machine.execReticleLoadDone set uncorr s
  | .reticleCancel set => Sys2Proof.Machine.execReticleCancel set s
  | .reticleSwap set => Sys2Proof.Machine.execReticleSwap set s
  | .postDelivery => Sys2Proof.Machine.execPostDelivery s
  | .retCapPosRead path => Sys2Proof.Machine.execRetCapPosRead path s
  | .retStatClear value => Sys2Proof.Machine.execRetStatClear value s
  | .evaluatorStep channel => Sys2Proof.Machine.execEvaluatorStep channel s
  | .segTimeout channel => Sys2Proof.Machine.execSegTimeout channel s
  | .tripLimit => Sys2Proof.Machine.execTripLimit s
  | .spliceCommand => Sys2Proof.Machine.execSpliceCommand s
  | .assign req landing upper doors profile => Sys2Proof.Machine.execAssign req landing upper doors profile s
  | .cancelRequest req landing upper => Sys2Proof.Machine.execCancelRequest req landing upper s
  | .spliceItem late => Sys2Proof.Machine.execSpliceItem late s
  | .tripStart => Sys2Proof.Machine.execTripStart s
  | .tripBegin => Sys2Proof.Machine.execTripBegin s
  | .levellingStart => Sys2Proof.Machine.execLevellingStart s
  | .confChangeItem => Sys2Proof.Machine.execConfChangeItem s
  | .tripCmdOutOfService confirm => Sys2Proof.Machine.execTripCmdOutOfService confirm s
  | .tripCmdReturn confirm => Sys2Proof.Machine.execTripCmdReturn confirm s
  | .tripCmdRescue dir confirm => Sys2Proof.Machine.execTripCmdRescue dir confirm s
  | .neighbourFrame port frame => Sys2Proof.Machine.execNeighbourFrame port frame s
  | .neighbourTimeout below => Sys2Proof.Machine.execNeighbourTimeout below s
  | .separationClear => Sys2Proof.Machine.execSeparationClear s
  | .sepWait => Sys2Proof.Machine.execSepWait s
  | .carLoopPeriod mismatch sparePass => Sys2Proof.Machine.execCarLoopPeriod mismatch sparePass s
  | .doorLoopPeriod loop mismatch sparePass => Sys2Proof.Machine.execDoorLoopPeriod loop mismatch sparePass s
  | .followErr loop => Sys2Proof.Machine.execFollowErr loop s
  | .drivelinkResponse node frame => Sys2Proof.Machine.execDrivelinkResponse node frame s
  | .drivelinkResponseMissing node => Sys2Proof.Machine.execDrivelinkResponseMissing node s
  | .drivelinkLost node => Sys2Proof.Machine.execDrivelinkLost node s
  | .loopEngineUncorr engine => Sys2Proof.Machine.execLoopEngineUncorr engine s
  | .deckMoveStart => Sys2Proof.Machine.execDeckMoveStart s
  | .doorStart op profile => Sys2Proof.Machine.execDoorStart op profile s
  | .doorOpenRelease op => Sys2Proof.Machine.execDoorOpenRelease op s
  | .doorStop op => Sys2Proof.Machine.execDoorStop op s
  | .doorReversal op => Sys2Proof.Machine.execDoorReversal op s
  | .doorFault op => Sys2Proof.Machine.execDoorFault op s
  | .loopCmdClear loop confirm => Sys2Proof.Machine.execLoopCmdClear loop confirm s
  | .loopCmdPeakClear loop confirm => Sys2Proof.Machine.execLoopCmdPeakClear loop confirm s
  | .laneAPeriodStart volts => Sys2Proof.Machine.execLaneAPeriodStart volts s
  | .laneBPeriodStart bc volts => Sys2Proof.Machine.execLaneBPeriodStart bc volts s
  | .prismRecord toB bytes span => Sys2Proof.Machine.execPrismRecord toB bytes span s
  | .comparisonPoint laneB volts => Sys2Proof.Machine.execComparisonPoint laneB volts s
  | .prismLink laneB volts => Sys2Proof.Machine.execPrismLink laneB volts s
  | .laneClock laneB volts => Sys2Proof.Machine.execLaneClock laneB volts s
  | .lanePosDiff laneB volts => Sys2Proof.Machine.execLanePosDiff laneB volts s
  | .switchDisagree laneB volts => Sys2Proof.Machine.execSwitchDisagree laneB volts s
  | .laneRequestChange laneB bus => Sys2Proof.Machine.execLaneRequestChange laneB bus s
  | .laneSampleInstant laneB levels runs volts tps cur1 cur2 srst => Sys2Proof.Machine.execLaneSampleInstant laneB levels runs volts tps cur1 cur2 srst s
  | .brakeTimeout laneB brake2 => Sys2Proof.Machine.execBrakeTimeout laneB brake2 s
  | .fastInputDemand laneB input on off => Sys2Proof.Machine.execFastInputDemand laneB input on off s
  | .testSequenceStart => Sys2Proof.Machine.execTestSequenceStart s
  | .recheckSequenceStart => Sys2Proof.Machine.execRecheckSequenceStart s
  | .testPulseStart slot => Sys2Proof.Machine.execTestPulseStart slot s
  | .testPulseEnd opened follow offA offB onA onB afterA afterB => Sys2Proof.Machine.execTestPulseEnd opened follow offA offB onA onB afterA afterB s
  | .poleReadbackCheck laneB output mv => Sys2Proof.Machine.execPoleReadbackCheck laneB output mv s
  | .tpFault tp => Sys2Proof.Machine.execTpFault tp s
  | .sealSwitchChange reader sw periods level => Sys2Proof.Machine.execSealSwitchChange reader sw periods level s
  | .rwsWrite addr value => Sys2Proof.Machine.execRwsWrite addr value s
  | .safParamConfirm confirm => Sys2Proof.Machine.execSafParamConfirm confirm s
  | .overrideApply laneB => Sys2Proof.Machine.execOverrideApply laneB s
  | .brakeTestDue => Sys2Proof.Machine.execBrakeTestDue s
  | .brakeTestOverdue => Sys2Proof.Machine.execBrakeTestOverdue s
  | .safBtCmdStart confirm => Sys2Proof.Machine.execSafBtCmdStart confirm s
  | .safBtCmdAbort confirm => Sys2Proof.Machine.execSafBtCmdAbort confirm s
  | .brakeTestStart => Sys2Proof.Machine.execBrakeTestStart s
  | .brakeTestPhaseEnd => Sys2Proof.Machine.execBrakeTestPhaseEnd s
  | .brakeTestEnd => Sys2Proof.Machine.execBrakeTestEnd s
  | .lockCheck laneB upper => Sys2Proof.Machine.execLockCheck laneB upper s
  | .sepStale laneB below => Sys2Proof.Machine.execSepStale laneB below s
  | .resetPulse laneB srst width => Sys2Proof.Machine.execResetPulse laneB srst width s
  | .stuckReset laneB srst => Sys2Proof.Machine.execStuckReset laneB srst s
  | .standardInputSample levels currents volts => Sys2Proof.Machine.execStandardInputSample levels currents volts s
  | .diUndefined input => Sys2Proof.Machine.execDiUndefined input s
  | .doOverload output => Sys2Proof.Machine.execDoOverload output s
  | .doOverloadRetry output => Sys2Proof.Machine.execDoOverloadRetry output s
  | .fioCmdClearOverload output confirm => Sys2Proof.Machine.execFioCmdClearOverload output confirm s
  | .doReadbackCheck output high pulse => Sys2Proof.Machine.execDoReadbackCheck output high pulse s
  | .standardTestSequence => Sys2Proof.Machine.execStandardTestSequence s
  | .doPulseStart output => Sys2Proof.Machine.execDoPulseStart output s
  | .doPulseEnd samples => Sys2Proof.Machine.execDoPulseEnd samples s
  | .groupSilent group => Sys2Proof.Machine.execGroupSilent group s
  | .aliveCountReturn group => Sys2Proof.Machine.execAliveCountReturn group s
  | .doHoldExpiry output => Sys2Proof.Machine.execDoHoldExpiry output s
  | .fieldPowerFail => Sys2Proof.Machine.execFieldPowerFail s
  | .fsBand supply => Sys2Proof.Machine.execFsBand supply s
  | .couplerCheck group lane margin errors => Sys2Proof.Machine.execCouplerCheck group lane margin errors s
  | .cplOrderlyTakeover group => Sys2Proof.Machine.execCplOrderlyTakeover group s
  | .cplComparisonEnd group equal pattern => Sys2Proof.Machine.execCplComparisonEnd group equal pattern s
  | .cplLaneFail group lane => Sys2Proof.Machine.execCplLaneFail group lane s
  | .linkUp port => Sys2Proof.Machine.execLinkUp port s
  | .linkDown port => Sys2Proof.Machine.execLinkDown port s
  | .frameReceived port frame residence => Sys2Proof.Machine.execFrameReceived port frame residence s
  | .frameTransmit port => Sys2Proof.Machine.execFrameTransmit port s
  | .dualPathDeadline => Sys2Proof.Machine.execDualPathDeadline s
  | .singlePathExpired => Sys2Proof.Machine.execSinglePathExpired s
  | .neighbourSend => Sys2Proof.Machine.execNeighbourSend s
  | .statusSend => Sys2Proof.Machine.execStatusSend s
  | .eventFrameSend => Sys2Proof.Machine.execEventFrameSend s
  | .requestFrame => Sys2Proof.Machine.execRequestFrame s
  | .resetPress => Sys2Proof.Machine.execResetPress s
  | .resetRelease => Sys2Proof.Machine.execResetRelease s
  | .resetPressTimeout => Sys2Proof.Machine.execResetPressTimeout s
  | .resetAbandonEnd => Sys2Proof.Machine.execResetAbandonEnd s
  | .snapshotFrame port frame => Sys2Proof.Machine.execSnapshotFrame port frame s
  | .snapshotCapture => Sys2Proof.Machine.execSnapshotCapture s
  | .snapshotBankCopy => Sys2Proof.Machine.execSnapshotBankCopy s
  | .mgmtReqFrame port frame => Sys2Proof.Machine.execMgmtReqFrame port frame s
  | .mgmtExecute => Sys2Proof.Machine.execMgmtExecute s
  | .enumerateFrame port frame => Sys2Proof.Machine.execEnumerateFrame port frame s
  | .enumerateDecision => Sys2Proof.Machine.execEnumerateDecision s
  | .netAddrCmdClear cmd confirm => Sys2Proof.Machine.execNetAddrCmdClear cmd confirm s
  | .adjSend => Sys2Proof.Machine.execAdjSend s
  | .adjFrame port frame => Sys2Proof.Machine.execAdjFrame port frame s
  | .adjAbsent port => Sys2Proof.Machine.execAdjAbsent port s
  | .ptpSync netB domain twoStep interval grand gm => Sys2Proof.Machine.execPtpSync netB domain twoStep interval grand gm s
  | .ptpSyncTimeout netB => Sys2Proof.Machine.execPtpSyncTimeout netB s
  | .pdelayReqSend port => Sys2Proof.Machine.execPdelayReqSend port s
  | .pdelayReq port frame => Sys2Proof.Machine.execPdelayReq port frame s
  | .announce port frame => Sys2Proof.Machine.execAnnounce port frame s
  | .netSnapRelease banks => Sys2Proof.Machine.execNetSnapRelease banks s
  | .helloSend => Sys2Proof.Machine.execHelloSend s
  | .hello hello delayNs crcOk => Sys2Proof.Machine.execHello hello delayNs crcOk s
  | .mirLinkDown => Sys2Proof.Machine.execMirLinkDown s
  | .stateMessage message age => Sys2Proof.Machine.execStateMessage message age s
  | .mirClean => Sys2Proof.Machine.execMirClean s
  | .heartbeatMissing => Sys2Proof.Machine.execHeartbeatMissing s
  | .takeover => Sys2Proof.Machine.execTakeover s
  | .journal record crcOk => Sys2Proof.Machine.execJournal record crcOk s
  | .syncReq item crcOk => Sys2Proof.Machine.execSyncReq item crcOk s
  | .sync body crcOk => Sys2Proof.Machine.execSync body crcOk s
  | .handoverMessage period resign crcOk => Sys2Proof.Machine.execHandoverMessage period resign crcOk s
  | .neighboursMessage words crcOk => Sys2Proof.Machine.execNeighboursMessage words crcOk s
  | .commandMessage cmd answered crcOk => Sys2Proof.Machine.execCommandMessage cmd answered crcOk s
  | .roleLineChange level bus => Sys2Proof.Machine.execRoleLineChange level bus s
  | .roleLineDrop => Sys2Proof.Machine.execRoleLineDrop s
  | .reqHoldExpiry => Sys2Proof.Machine.execReqHoldExpiry s
  | .mirCmdHandover confirm => Sys2Proof.Machine.execMirCmdHandover confirm s
  | .autoHandover => Sys2Proof.Machine.execAutoHandover s
  | .handoverExecute => Sys2Proof.Machine.execHandoverExecute s
  | .mirCmdRelease confirm => Sys2Proof.Machine.execMirCmdRelease confirm s
  | .mirCmdAttach confirm => Sys2Proof.Machine.execMirCmdAttach confirm s
  | .mirCmdAdopt confirm => Sys2Proof.Machine.execMirCmdAdopt confirm s
  | .adoptExecute side retries => Sys2Proof.Machine.execAdoptExecute side retries s
  | .adoptHoldRelease => Sys2Proof.Machine.execAdoptHoldRelease s
  | .memoryUncorrectable table offset facet => Sys2Proof.Machine.execMemoryUncorrectable table offset facet s
  | .memoryRemapStart table row margin => Sys2Proof.Machine.execMemoryRemapStart table row margin s
  | .memoryRemapSwitch => Sys2Proof.Machine.execMemoryRemapSwitch s
  | .deepBlockFail block => Sys2Proof.Machine.execDeepBlockFail block s
  | .nearStoreScrub corrected uncorr => Sys2Proof.Machine.execNearStoreScrub corrected uncorr s
  | .tableStoreScrub corrected uncorr => Sys2Proof.Machine.execTableStoreScrub corrected uncorr s
  | .keepStoreScrub uncorr => Sys2Proof.Machine.execKeepStoreScrub uncorr s
  | .deepStorePatrol blocks slots => Sys2Proof.Machine.execDeepStorePatrol blocks slots s
  | .facetMarginCheck margins eccs tests => Sys2Proof.Machine.execFacetMarginCheck margins eccs tests s
  | .telemetry => Sys2Proof.Machine.execTelemetry s
  | .evtQSrcRead path => Sys2Proof.Machine.execEvtQSrcRead path s
  | .logCmdClear confirm => Sys2Proof.Machine.execLogCmdClear confirm s
  | .logWallSet path hi => Sys2Proof.Machine.execLogWallSet path hi s
  | .logMediumFail addr offset syndrome => Sys2Proof.Machine.execLogMediumFail addr offset syndrome s
  | .logStopped offset => Sys2Proof.Machine.execLogStopped offset s
  | .recorderCommit uncorr => Sys2Proof.Machine.execRecorderCommit uncorr s
  | .logRecCmdCommit uncorr => Sys2Proof.Machine.execLogRecCmdCommit uncorr s
  | .logRecCmdClear confirm uncorr => Sys2Proof.Machine.execLogRecCmdClear confirm uncorr s
  | .apertureSelect path source => Sys2Proof.Machine.execApertureSelect path source s
  | .apertureCursor path cursor => Sys2Proof.Machine.execApertureCursor path cursor s
  | .apertureFill path => Sys2Proof.Machine.execApertureFill path s
  | .apertureAdvance path => Sys2Proof.Machine.execApertureAdvance path s
  | .vinBand volts => Sys2Proof.Machine.execVinBand volts s
  | .dimStepDown vinMv coreMv => Sys2Proof.Machine.execDimStepDown vinMv coreMv s
  | .dimStepUp vinMv coreMv => Sys2Proof.Machine.execDimStepUp vinMv coreMv s
  | .pllSwitch lockLost deviation => Sys2Proof.Machine.execPllSwitch lockLost deviation s
  | .pllMarginCheck margins passes spareLocked => Sys2Proof.Machine.execPllMarginCheck margins passes spareLocked s
  | .clockLost refLost => Sys2Proof.Machine.execClockLost refLost s
  | .pllRetry locks => Sys2Proof.Machine.execPllRetry locks s
  | .pwrCmdPark confirm => Sys2Proof.Machine.execPwrCmdPark confirm s
  | .pwrCmdUnpark confirm => Sys2Proof.Machine.execPwrCmdUnpark confirm s
  | .parkExit side => Sys2Proof.Machine.execParkExit side s
  | .pwrCmdWarm confirm side retries => Sys2Proof.Machine.execPwrCmdWarm confirm side retries s
  | .pwrCmdFacet logical confirm => Sys2Proof.Machine.execPwrCmdFacet logical confirm s
  | .powerFail => Sys2Proof.Machine.execPowerFail s
  | .dipReset cause => Sys2Proof.Machine.execDipReset cause s
  | .powerOnReset retentionLost => Sys2Proof.Machine.execPowerOnReset retentionLost s
  | .temperatureRead readings => Sys2Proof.Machine.execTemperatureRead readings s
  | .optimeWrap => Sys2Proof.Machine.execOptimeWrap s
  | .secKeyEnroll path slot confirm => Sys2Proof.Machine.execSecKeyEnroll path slot confirm s
  | .secKeyRemove path slot confirm => Sys2Proof.Machine.execSecKeyRemove path slot confirm s
  | .keyCmdDone => Sys2Proof.Machine.execKeyCmdDone s
  | .secAttAttest path => Sys2Proof.Machine.execSecAttAttest path s
  | .attestDone => Sys2Proof.Machine.execAttestDone s
  | .secRngRead path => Sys2Proof.Machine.execSecRngRead path s
  | .rngFail adaptive => Sys2Proof.Machine.execRngFail adaptive s
  | .rngOk => Sys2Proof.Machine.execRngOk s
  | .identityCheck keyOk => Sys2Proof.Machine.execIdentityCheck keyOk s
  | .sw2Changed level => Sys2Proof.Machine.execSw2Changed level s
  | .secBufRead path => Sys2Proof.Machine.execSecBufRead path s
  | .phyReady netB => Sys2Proof.Machine.execPhyReady netB s
  | .pdelayResp port seq delay => Sys2Proof.Machine.execPdelayResp port seq delay s
  | .encSupply supply millivolt milliamp => Sys2Proof.Machine.execEncSupply supply millivolt milliamp s
  | .railWarn rail mv => Sys2Proof.Machine.execRailWarn rail mv s
  | .relayCodeLoaded => Sys2Proof.Machine.execRelayCodeLoaded s
  | .ssiNoFrame laneB => Sys2Proof.Machine.execSsiNoFrame laneB s
  | .outputCurrentLimit lane output => Sys2Proof.Machine.execOutputCurrentLimit lane output s

end Sys2Proof.Machine
end

