-- ==== Sys2Proof/Safety.lean ====
section
/-! DEFINITION. The terms in which claims about the 8440 are put: the canonical form of its stores, what two states share, and an event
that is pending. -/

namespace Sys2Proof

open Sys2Proof.Machine

/-- The register-field file and every memory are in canonical form. -/
def Canonical (s : Machine.State) : Prop :=
  regsWf s.regs = true ∧ Memory.wf s.keep = true ∧ Memory.wf s.near = true ∧ Memory.wf s.table = true ∧
    ∀ m ∈ s.deep, Memory.wf m = true

/-- Register writes are served: the module is not in IMAGE_FAIL (R58). -/
abbrev Serving (s : Machine.State) : Prop := s.r Reg.IMG_MODULE_STATE_PHASE ≠ 7

/-- The accesses of a path are served: in IMAGE_FAIL those of the host port alone (R58). -/
abbrev Served (p : Path) (s : Machine.State) : Prop := Serving s ∨ p = .host

/-- Two states hold the same memories. -/
def SameMemory (s t : Machine.State) : Prop := t.keep = s.keep ∧ t.deep = s.deep ∧ t.near = s.near ∧ t.table = s.table

/-- Two states agree on every register field but those listed. -/
def RegsBut (l : List Field) (s t : Machine.State) : Prop := ∀ g : Field, g.key ∉ l.map Field.key → t.r g = s.r g

/-- An event is pending (R375). -/
def Pending (e : Evt) (s : Machine.State) : Prop := bitAt s.ev.pend e.src = true

/-- A state's events, log, exit cause and the events still to be taken are all that the end of a step may have changed. -/
def SameButEvents (s t : Machine.State) : Prop := { t with ev := s.ev, log := s.log, pwr := { t.pwr with exit := s.pwr.exit }, raised := s.raised } = s

/-- A frame of a kind that the switch passes to the internal port at a port (R317, R320). -/
def Passed (kind p : Nat) (f : List Byte) (s : Machine.State) : Prop :=
  p < 4 ∧ (parseRh f).crcOk = true ∧ (parseRh f).version = 1 ∧ (parseRh f).kind = kind ∧ s.delivers (parseRh f) = true ∧
    s.r Reg.NET_STATUS_TRANSPARENT = 0 ∧ ((parseRh f).origin = 1 → p % 2 = 0)

/-- The duplicate rule knows nothing of the producer and kind of a frame (R319, R325). -/
def FirstSeen (p : Nat) (f : List Byte) (s : Machine.State) : Prop :=
  s.net.dups.find? (fun x => x.key == (parseRh f).key p) = none

/-- The queue of a class at a port (R321). -/
def queueOf (s : Machine.State) (p cls : Nat) : List NetFrame := nth (s.port p).queues cls []

/-- What a reset of a kind, 0 POWER-ON or 1 DIP, cuts off is not there: a write target that was being written, and an atlas that was
being written or streamed into the incoming slot, are EMPTY; every other target keeps its state (R409, Table 14-7). -/
def CutOff (kind : Nat) (s t : Machine.State) : Prop :=
  (∀ n, n < 4 → t.r (sealField n) = if s.r (sealField n) = 1 then 0 else s.r (sealField n)) ∧
  t.r Reg.IMG_STATUS_TS_INCOMING_STATE =
    (let v := if survives kind Reg.IMG_STATUS_TS_INCOMING_STATE.kept then s.r Reg.IMG_STATUS_TS_INCOMING_STATE else 0
     if v = 1 ∨ v = 4 then 0 else v)

/-- A management frame of one access is done: it has left buffer 3, and its MGMT_REPLY with the access's entry, built of the state
u after the access, is queued on each network at the port of the request where that has room (R334, R335). -/
def Replied (x : MgmtReq) (entry : List Byte) (u t : Machine.State) : Prop :=
  t.net.bufMgmt = u.net.bufMgmt.drop 1 ∧
  (∀ n p, n < 2 → p = 2 * n + (nth x.ports n none).getD 0 → p / 2 = n → (queueOf u p 3).length < 16 →
    queueOf t p 3 = queueOf u p 3 ++ [.raw (buildFrame u n
      ⟨255, Kind.mgmtReply, u.r Reg.NET_ADDR_ADDRESS, u.srcInfo (u.nextSeq Kind.mgmtReply).2, x.src, 0, (u.nextSeq Kind.mgmtReply).1⟩
      (leBytes 2 x.tag ++ leBytes 1 1 ++ leBytes 1 0 ++ entry))]) ∧
  RegsBut [Reg.NET_PORT_A1_DROPPED, Reg.NET_PORT_A2_DROPPED, Reg.NET_PORT_B1_DROPPED, Reg.NET_PORT_B2_DROPPED] u t ∧ SameMemory u t

/-- Conditions 1, 2 and 4 of R229 for a lane's pole of an output: its request is present, the lane permits every function assigned
to it, and no fault latched in the lane holds it. -/
def MayConduct (l o : Nat) (s : Machine.State) : Prop :=
  s.outRequested l o = true ∧ Nat.land (s.lane l).perm (s.outMask l o) = s.outMask l o ∧ bitAt (s.faultHold l) o = false

/-- A step that is a comparison point of a running lane: the one of its period, at least 15 µs in and not yet made (R234). -/
def ComparisonPoint (l : Nat) (s t : Machine.State) : Prop :=
  (s.lane l).started = true ∧ (s.lane l).compared = false ∧ 15 ≤ s.since (s.lane l).startAt ∧ (t.lane l).compared = true

/-- A step that ends a test pulse of a lane's pole which was closed before it, without a demand or SWITCH_CHANGED meanwhile (R251,
R252, R258). -/
def PulseEnd (l o : Nat) (s t : Machine.State) : Prop :=
  t.saf.pulse = none ∧ (t.lane l).noClose = false ∧
    ∃ p, s.saf.pulse = some p ∧ p.pole = some (l, o) ∧ p.closed = true ∧ p.aborted = false

/-- A number of a record's body that its field can hold: signed in a TABLE's MIN, MAX and SUM and in an EXTREMES entry's values
(Table 13-3). -/
def cellFits (r : RecSlot) (k : Nat) (v : Int) : Prop :=
  let w := 8 * nth r.sizes k 0
  if r.kind = 3 ∧ k % 2 = 0 ∨ r.kind = 2 ∧ k % 4 ≠ 0 then -(2 ^ (w - 1) : Int) ≤ v ∧ v < 2 ^ (w - 1) else 0 ≤ v ∧ v < 2 ^ w

/-- Every number of a record lies in the range of its field, and its body has room for all of them (Tables 13-2, 13-3). -/
def RecInRange (r : RecSlot) : Prop :=
  r.item < 2 ^ 16 ∧ r.kind < 256 ∧ r.inst < 256 ∧ r.count < 2 ^ 64 ∧ (-(2 ^ 63) ≤ r.sum ∧ r.sum < 2 ^ 63) ∧
    (-(2 ^ 31) ≤ r.low ∧ r.low < 2 ^ 31) ∧ r.width < 2 ^ 32 ∧ r.nbins < 2 ^ 16 ∧ r.started < 2 ^ 32 ∧ r.sizes.sum ≤ 4032 ∧
    SMap.sorted r.cells = true ∧ ∀ c ∈ r.cells, c.2 ≠ 0 ∧ c.1 < r.sizes.length ∧ cellFits r c.1 c.2

end Sys2Proof
end

