-- ==== Sys2Proof/WellFormed.lean ====
section
/-! DEFINITION. Well-formed commands: every operand lies in the range that its field or number has in spec/. A command that is not
well-formed still runs (Machine/Dispatch.lean): its meaning reduces the operand to its range or changes nothing. -/

namespace Sys2Proof

open Sys2Proof.Machine

/-- A network port: A1, A2, B1, B2 (file 11). -/
def isPort (n : Nat) : Bool := decide (n < 4)

/-- A port of the dispatcher (Table 03-4). -/
def isFifo (n : Nat) : Bool := decide (n < 16)

/-- A physical facet (R24). -/
def isFacet (n : Nat) : Bool := decide (n < 112)

/-- A logical facet as a command carries it. -/
def isLogical (n : Nat) : Bool := decide (n < 128)

/-- A write target: bank 0 or 1, deep slot 0 or 1 (IMG_WRITE_CTRL). -/
def isTarget (n : Nat) : Bool := decide (n < 4)

/-- One of two: a bank, a slot, a channel, a track, a side, a DriveLink node. -/
def isTwo (n : Nat) : Bool := decide (n < 2)

/-- A sin/cos, quadrature or loop channel, or a profile channel. -/
def isSix (n : Nat) : Bool := decide (n < 6)

/-- A mark set: the car set or a door set. -/
def isSet (n : Nat) : Bool := decide (n < 5)

/-- A door operator. -/
def isOperator (n : Nat) : Bool := decide (n < 4)

/-- A two-bit code or number: a key slot, a command code, a direction, a test point. -/
def isFour (n : Nat) : Bool := decide (n < 4)

/-- One of three: a supply, a rail. -/
def isThree (n : Nat) : Bool := decide (n < 3)

/-- A loop engine with the spare. -/
def isEngine (n : Nat) : Bool := decide (n < 7)

/-- A mask of four bits. -/
def isMask (n : Nat) : Bool := decide (n < 16)

/-- A slot of Table 08-7 that holds a pulse. -/
def isSlot (n : Nat) : Bool := decide (n < 24)

/-- A safety output. -/
def isPole (n : Nat) : Bool := decide (n < 10)

/-- A standard output. -/
def isOutput (n : Nat) : Bool := decide (n < 24)

/-- A safety input. -/
def isSafeInput (n : Nat) : Bool := decide (n < 16)

/-- A standard input. -/
def isInput (n : Nat) : Bool := decide (n < 48)

/-- A channel group of the couplers. -/
def isGroup (n : Nat) : Bool := decide (n < 17)

/-- A coupler lane. -/
def isCoupler (n : Nat) : Bool := decide (n < 10)

/-- A priority level of the ready lists; the source of the aperture; a loop code. -/
def isLevel (n : Nat) : Bool := decide (n < 8)

/-- An 8-bit quantity. -/
def isByte (n : Nat) : Bool := decide (n < 256)

/-- A dependence counter. -/
def isCounter (n : Nat) : Bool := decide (n < 4096)

/-- A 16-bit quantity: a TAG, an identifier, a CONFIRM value. -/
def isTag (n : Nat) : Bool := decide (n < 65536)

/-- A 32-bit word. -/
def isWord (n : Nat) : Bool := decide (n < 2 ^ 32)

/-- One bit for each standard input. -/
def isLevels (n : Nat) : Bool := decide (n < 2 ^ 48)

/-- A 64-bit time in ns. -/
def isTime (n : Nat) : Bool := decide (n < 2 ^ 64)

/-- An access path: ORIGIN has two bits and SRC eight (Table 11-1). -/
def okPath (p : Path) : Bool :=
  match p with
  | .host => true
  | .mgmt origin src => isFour origin && isByte src

/-- A byte string no longer than a chip-select period or an Ethernet frame could carry. -/
def okBytes (l : List Byte) : Bool := decide (l.length ≤ 2048)

/-- A list of 32-bit words. -/
def okWords (l : List Nat) : Bool := l.all isWord

/-- The voltages across a lane's ten switches, mV. -/
def okVolts (l : List Nat) : Bool := decide (l.length = 10) && l.all isTag

/-- Writes of an item lie in its facet data memory of 4 KiB. -/
def okWrites (l : List (Nat × Byte)) : Bool := l.all fun x => decide (x.1 < 4096)

/-- Commands of standard outputs, 1 to 24. -/
def okOuts (l : List (Nat × Bool)) : Bool := l.all fun x => decide (1 ≤ x.1) && decide (x.1 ≤ 24)

/-- Inserts of the items of one cycle, each of a logical facet of its own. -/
def okInserts (l : List DelayInsert) : Bool :=
  l.all (fun x => decide (x.facet < 96) && isCounter x.node && isLevel x.level && isWord x.arg && isTag x.tag && decide (x.delay < 2 ^ 24)) &&
    decide ((l.map fun x => x.facet).Nodup)

/-- A command whose operands lie in their ranges. -/
def Instr.wf (i : Instr) : Bool :=
  match i with
  | .hostRead frame _ => okBytes frame
  | .hostWrite frame _ => okBytes frame
  | .hostNoOperation frame _ => okBytes frame
  | .registerWrite path addr value => okPath path && isWord addr && isWord value
  | .latchingRead path addr => okPath path && isWord addr
  | .imgDigestRead path => okPath path
  | .imgWriteBegin path target => okPath path && isTarget target
  | .imgWriteData path word => okPath path && isWord word
  | .imgWriteFinish path => okPath path
  | .imgWriteAbort path => okPath path
  | .imgSessionTimeout => true
  | .imgVerifyEnd _ => true
  | .imgActivate bank confirm => isTwo bank && isTag confirm
  | .imgStage slot => isTwo slot
  | .imgStageAbort => true
  | .atlasStagingEnd _ => true
  | .suppliesValid _ _ _ side _ => isTwo side
  | .controlReady _ _ => true
  | .atlasStreamEnd _ => true
  | .complete facet mask cycles writes outs => isFacet facet && isMask mask && isTag cycles && okWrites writes && okOuts outs
  | .completionCollect => true
  | .counterApply => true
  | .readyListEntry => true
  | .descriptorPlacement => true
  | .delayInsert inserts => okInserts inserts
  | .delayCancel logical _ tag => isLogical logical && isTag tag
  | .timeListExpiry => true
  | .portDelivery port => isFifo port
  | .dspDoorbell counter => isCounter counter
  | .dspPeakClear value => isWord value
  | .facetOverrun facet writes => isFacet facet && okWrites writes
  | .dspRelayCtrl logical confirm => isLogical logical && isTag confirm
  | .relayStart => true
  | .relayCopyDone => true
  | .relaySwitch => true
  | .facetStall facet => isFacet facet
  | .facetMemoryUncorr facet => isFacet facet
  | .faultRelayLoadDone => true
  | .carPositionSample _ => true
  | .sampleDelivery => true
  | .sincosLost channel => isTwo channel
  | .referenceMark channel => isTwo channel
  | .indexLost channel => isTwo channel
  | .adcCalSwap channel track _ => isTwo channel && isTwo track
  | .quadEdge channel _ _ _ => isSix channel
  | .emulatorEdge emu => isTwo emu
  | .ssiFrameStart => true
  | .ssiFrameEnd _ _ => true
  | .slip => true
  | .ssiLost channel => isTwo channel
  | .ssiRestored channel => isTwo channel
  | .laneBSsiFrame _ _ age => isTag age
  | .referencePoint input _ => isByte input
  | .reticleLoad set addr => isSet set && isWord addr
  | .reticleLoadDone set _ => isSet set
  | .reticleCancel set => isSet set
  | .reticleSwap set => isSet set
  | .postDelivery => true
  | .retCapPosRead path => okPath path
  | .retStatClear value => isWord value
  | .evaluatorStep channel => isSix channel
  | .segTimeout channel => isSix channel
  | .tripLimit => true
  | .spliceCommand => true
  | .assign req landing _ doors profile => isTag req && isByte landing && isFour doors && isTwo profile
  | .cancelRequest req landing _ => isTag req && isByte landing
  | .spliceItem _ => true
  | .tripStart => true
  | .tripBegin => true
  | .levellingStart => true
  | .confChangeItem => true
  | .tripCmdOutOfService confirm => isTag confirm
  | .tripCmdReturn confirm => isTag confirm
  | .tripCmdRescue dir confirm => isFour dir && isTag confirm
  | .neighbourFrame port frame => isPort port && okBytes frame
  | .neighbourTimeout _ => true
  | .separationClear => true
  | .sepWait => true
  | .carLoopPeriod _ _ => true
  | .doorLoopPeriod loop _ _ => isSix loop
  | .followErr loop => isSix loop
  | .drivelinkResponse node frame => isTwo node && okBytes frame
  | .drivelinkResponseMissing node => isTwo node
  | .drivelinkLost node => isTwo node
  | .loopEngineUncorr engine => isEngine engine
  | .deckMoveStart => true
  | .doorStart op profile => isOperator op && isCounter profile
  | .doorOpenRelease op => isOperator op
  | .doorStop op => isOperator op
  | .doorReversal op => isOperator op
  | .doorFault op => isOperator op
  | .loopCmdClear loop confirm => isLevel loop && isTag confirm
  | .loopCmdPeakClear loop confirm => isLevel loop && isTag confirm
  | .laneAPeriodStart volts => okVolts volts
  | .laneBPeriodStart _ volts => okVolts volts
  | .prismRecord _ bytes _ => okBytes bytes
  | .comparisonPoint _ volts => okVolts volts
  | .prismLink _ volts => okVolts volts
  | .laneClock _ volts => okVolts volts
  | .lanePosDiff _ volts => okVolts volts
  | .switchDisagree _ volts => okVolts volts
  | .laneRequestChange _ bus => isWord bus
  | .laneSampleInstant _ levels runs volts _ _ _ _ => isWord levels && okWords runs && okVolts volts
  | .brakeTimeout _ _ => true
  | .fastInputDemand _ input on off => isSafeInput input && isWord on && isWord off
  | .testSequenceStart => true
  | .recheckSequenceStart => true
  | .testPulseStart slot => isSlot slot
  | .testPulseEnd _ _ _ _ _ _ _ _ => true
  | .poleReadbackCheck _ output mv => isPole output && isTag mv
  | .tpFault tp => isFour tp
  | .sealSwitchChange reader sw _ _ => isFour reader && isByte sw
  | .rwsWrite addr value => isWord addr && isWord value
  | .safParamConfirm confirm => isWord confirm
  | .overrideApply _ => true
  | .brakeTestDue => true
  | .brakeTestOverdue => true
  | .safBtCmdStart confirm => isTag confirm
  | .safBtCmdAbort confirm => isTag confirm
  | .brakeTestStart => true
  | .brakeTestPhaseEnd => true
  | .brakeTestEnd => true
  | .lockCheck _ _ => true
  | .sepStale _ _ => true
  | .resetPulse _ _ _ => true
  | .stuckReset _ _ => true
  | .standardInputSample levels _ _ => isLevels levels
  | .diUndefined input => isInput input
  | .doOverload output => isOutput output
  | .doOverloadRetry output => isOutput output
  | .fioCmdClearOverload output confirm => isByte output && isTag confirm
  | .doReadbackCheck output _ _ => isOutput output
  | .standardTestSequence => true
  | .doPulseStart output => isOutput output
  | .doPulseEnd samples => okWords samples
  | .groupSilent group => isGroup group
  | .aliveCountReturn group => isGroup group
  | .doHoldExpiry output => isOutput output
  | .fieldPowerFail => true
  | .fsBand supply => isThree supply
  | .couplerCheck group lane _ _ => isGroup group && isCoupler lane
  | .cplOrderlyTakeover group => isGroup group
  | .cplComparisonEnd group _ _ => isGroup group
  | .cplLaneFail group lane => isGroup group && isCoupler lane
  | .linkUp port => isPort port
  | .linkDown port => isPort port
  | .frameReceived port frame residence => isPort port && okBytes frame && isWord residence
  | .frameTransmit port => isPort port
  | .dualPathDeadline => true
  | .singlePathExpired => true
  | .neighbourSend => true
  | .statusSend => true
  | .eventFrameSend => true
  | .requestFrame => true
  | .resetPress => true
  | .resetRelease => true
  | .resetPressTimeout => true
  | .resetAbandonEnd => true
  | .snapshotFrame port frame => isPort port && okBytes frame
  | .snapshotCapture => true
  | .snapshotBankCopy => true
  | .mgmtReqFrame port frame => isPort port && okBytes frame
  | .mgmtExecute => true
  | .enumerateFrame port frame => isPort port && okBytes frame
  | .enumerateDecision => true
  | .netAddrCmdClear cmd confirm => isFour cmd && isTag confirm
  | .adjSend => true
  | .adjFrame port frame => isPort port && okBytes frame
  | .adjAbsent port => isPort port
  | .ptpSync _ domain _ _ grand gm => isByte domain && isTime grand && isTime gm
  | .ptpSyncTimeout _ => true
  | .pdelayReqSend port => isPort port
  | .pdelayReq port frame => isPort port && okBytes frame
  | .announce port frame => isPort port && okBytes frame
  | .netSnapRelease banks => isMask banks
  | .helloSend => true
  | .hello _ _ _ => true
  | .mirLinkDown => true
  | .stateMessage message age => okBytes message && isTag age
  | .mirClean => true
  | .heartbeatMissing => true
  | .takeover => true
  | .journal _ _ => true
  | .syncReq item _ => isByte item
  | .sync _ _ => true
  | .handoverMessage period _ _ => isWord period
  | .neighboursMessage words _ => okWords words
  | .commandMessage cmd _ _ => isLevel cmd
  | .roleLineChange _ bus => isWord bus
  | .roleLineDrop => true
  | .reqHoldExpiry => true
  | .mirCmdHandover confirm => isTag confirm
  | .autoHandover => true
  | .handoverExecute => true
  | .mirCmdRelease confirm => isTag confirm
  | .mirCmdAttach confirm => isTag confirm
  | .mirCmdAdopt confirm => isTag confirm
  | .adoptExecute side _ => isTwo side
  | .adoptHoldRelease => true
  | .memoryUncorrectable _ offset _ => isWord offset
  | .memoryRemapStart _ row _ => isWord row
  | .memoryRemapSwitch => true
  | .deepBlockFail block => isWord block
  | .nearStoreScrub _ _ => true
  | .tableStoreScrub _ _ => true
  | .keepStoreScrub _ => true
  | .deepStorePatrol _ _ => true
  | .facetMarginCheck _ _ _ => true
  | .telemetry => true
  | .evtQSrcRead path => okPath path
  | .logCmdClear confirm => isTag confirm
  | .logWallSet path hi => okPath path && isWord hi
  | .logMediumFail addr offset _ => isWord addr && isWord offset
  | .logStopped offset => isWord offset
  | .recorderCommit _ => true
  | .logRecCmdCommit _ => true
  | .logRecCmdClear confirm _ => isTag confirm
  | .apertureSelect path source => okPath path && isLevel source
  | .apertureCursor path cursor => okPath path && isWord cursor
  | .apertureFill path => okPath path
  | .apertureAdvance path => okPath path
  | .vinBand volts => isTag volts
  | .dimStepDown _ _ => true
  | .dimStepUp _ _ => true
  | .pllSwitch _ _ => true
  | .pllMarginCheck _ _ _ => true
  | .clockLost _ => true
  | .pllRetry _ => true
  | .pwrCmdPark confirm => isTag confirm
  | .pwrCmdUnpark confirm => isTag confirm
  | .parkExit side => isTwo side
  | .pwrCmdWarm confirm side _ => isTag confirm && isTwo side
  | .pwrCmdFacet logical confirm => isLogical logical && isTag confirm
  | .powerFail => true
  | .dipReset cause => isThree cause
  | .powerOnReset _ => true
  | .temperatureRead _ => true
  | .optimeWrap => true
  | .secKeyEnroll path slot confirm => okPath path && isFour slot && isTag confirm
  | .secKeyRemove path slot confirm => okPath path && isFour slot && isTag confirm
  | .keyCmdDone => true
  | .secAttAttest path => okPath path
  | .attestDone => true
  | .secRngRead path => okPath path
  | .rngFail _ => true
  | .rngOk => true
  | .identityCheck _ => true
  | .sw2Changed _ => true
  | .secBufRead path => okPath path
  | .phyReady _ => true
  | .pdelayResp port seq delay => isPort port && isTag seq && isWord delay
  | .encSupply supply _ _ => isThree supply
  | .railWarn rail _ => isThree rail
  | .relayCodeLoaded => true
  | .ssiNoFrame _ => true
  | .outputCurrentLimit _ output => isOutput output

end Sys2Proof
end

