-- ==== Sys2Proof/Certificates/Slice0/Obligations.lean ====
section
/-! DEFINITION. The statements about the 8440 for the provers. -/

section

open Sys2Proof Sys2Proof.Machine

/-- O1. Host-port frames: reads, no-operation, damaged and early frames. A frame of 10 bytes whose CRC-8 matches, with op 0x0B and
an address of Table 01-6, that begins after the previous result is ready: the previous response is shifted out, SEQ advances by
one modulo 4, and the next response echoes the address with the data the read returned. The stores are unchanged. A good no-
operation frame after the previous result is ready collects the response to the previous request, advances SEQ and is itself
answered with address and data 0. A frame of the wrong length or with a CRC mismatch is answered with CRC_ERR and executes
nothing: no register and no memory changes, and SEQ stays. A frame that begins before the previous result is ready is answered
NOT_READY with address and data 0, is not executed, and the pending result stays for the following frame. A good frame whose op
byte is none of the three is answered OP_ERR with data 0 and executes nothing. The model's own: what counts in SEQ, SEQ and the
flags of a NOT_READY response (log entry 68, DEDUCED) and the data 0 of CRC_ERR and OP_ERR (log entry 99, DESIGN CHOICE).
Commands that complete by it: hostRead, hostNoOperation. (R28, R29, R30) -/
def Obligations.HostReadsAndFramesComplete : Prop :=
  (∀ (s : Machine.State) (f : List Byte) (gap : Nat), s.down = false → s.hostWait ≤ gap → frameGood f = true → leAt f 0 1 = 0x0B →
    addrValid (leAt f 1 4) = true →
    ∃ t, exec (.hostRead f gap) s = .next t ∧ t.host.miso = responseBytes s.host.resp ∧ t.host.seq = (s.host.seq + 1) % 4 ∧
      t.host.resp.addr = leAt f 1 4 ∧ t.host.resp.data = t.pathHost.data ∧ SameMemory s t) ∧
  (∀ (s : Machine.State) (f : List Byte) (gap : Nat), s.down = false → s.pathHost.ap.filling = false →
    (s.hostWait ≤ gap → frameGood f = true → leAt f 0 1 = 0 →
      ∃ t, exec (.hostNoOperation f gap) s = .next t ∧ t.host.miso = responseBytes s.host.resp ∧ t.host.seq = (s.host.seq + 1) % 4 ∧
        t.host.resp.addr = 0 ∧ t.host.resp.data = 0 ∧ t.regs = s.regs ∧ SameMemory s t) ∧
    (s.hostWait ≤ gap → frameGood f = false →
      ∃ t, exec (.hostNoOperation f gap) s = .next t ∧ t.host.resp.status % 2 = 1 ∧ t.host.seq = s.host.seq ∧ t.regs = s.regs ∧
        SameMemory s t) ∧
    (s.hostWait ≤ gap → frameGood f = true → leAt f 0 1 ≠ 0 → leAt f 0 1 ≠ 0x0B → leAt f 0 1 ≠ 0x02 →
      ∃ t, exec (.hostNoOperation f gap) s = .next t ∧ bitAt t.host.resp.status 1 = true ∧ t.host.resp.data = 0 ∧
        t.host.seq = s.host.seq ∧ t.regs = s.regs ∧ SameMemory s t) ∧
    (gap < s.hostWait →
      ∃ t, exec (.hostNoOperation f gap) s = .next t ∧ t.host.resp = s.host.resp ∧
        t.host.miso = responseBytes ⟨8 + s.hostStatus, 0, 0⟩ ∧ t.host.seq = s.host.seq ∧ t.regs = s.regs ∧ SameMemory s t))

/-- O2. A host-port write is executed, or refused without any effect. A good frame with op 0x02 that begins after the previous
result is ready, while no aperture fill runs: (1) to a register that has no command of its own, every field of access RW takes
its bits of the data, every W1C field is cleared where the data has 1, every RO and WO field keeps its value, the fields of the
other registers and all memory stay, SEQ advances and the next response echoes the address; (2) to an address outside Table 01-6
or not a multiple of 4, the response has RANGE and data 0 and no register and no memory changes; (3) to a memory window, the
response has REFUSED and no register and no memory changes. The model's own: data 0 of a RANGE response (log entry 67, DEDUCED)
and its count in SEQ (log entries 68, DEDUCED, and 99, DESIGN CHOICE). Commands that complete by it: hostWrite. (R28, R29, R25,
R23) -/
def Obligations.HostWriteCompletes : Prop :=
  ∀ (s : Machine.State) (f : List Byte) (gap : Nat), s.down = false → s.hostWait ≤ gap → frameGood f = true → leAt f 0 1 = 0x02 →
    s.pathHost.ap.filling = false →
    (addrValid (leAt f 1 4) = true → s.writeRefused .host (leAt f 1 4) (leAt f 5 4) = false → ownWrite (leAt f 1 4) = false →
      ∃ t, exec (.hostWrite f gap) s = .next t ∧
        (∀ g ∈ fieldsAt (leAt f 1 4), (g.acc = .rw → t.r g = leAt f 5 4 / 2 ^ g.lo % 2 ^ g.width) ∧
          (g.acc = .w1c → ∀ i, i < g.width → bitAt (t.r g) i = (bitAt (s.r g) i && !bitAt (leAt f 5 4) (g.lo + i))) ∧
          (g.acc = .ro ∨ g.acc = .wo → t.r g = s.r g)) ∧
        RegsBut (fieldsAt (leAt f 1 4)) s t ∧ SameMemory s t ∧
        t.host.seq = (s.host.seq + 1) % 4 ∧ t.host.resp.addr = leAt f 1 4) ∧
    (addrValid (leAt f 1 4) = false →
      ∃ t, exec (.hostWrite f gap) s = .next t ∧ bitAt t.host.resp.status 2 = true ∧ t.host.resp.data = 0 ∧ t.regs = s.regs ∧
        SameMemory s t) ∧
    (addrValid (leAt f 1 4) = true → addrWindow (leAt f 1 4) = true →
      ∃ t, exec (.hostWrite f gap) s = .next t ∧ bitAt t.host.resp.status 4 = true ∧ t.regs = s.regs ∧ SameMemory s t)

/-- O3. Register writes by access code, and latching reads. A write by either path to a register that has no command of its own:
every RW field takes its bits of the value, every W1C field is cleared where the value has 1, and every RO and WO field keeps
its value. The fields of every other register, and all memory, are unchanged. A write to a window changes nothing. A read of the
lowest-offset register of a multi-word value of the register tables puts the present words of its other registers into the
path's shadow, in place of the whole shadow, and returns the present word of the register read; a read of one of the others then
returns the shadow whatever the live value is. In IMAGE_FAIL the host port's reads alone are served, and this holds of them. No
register and no memory changes. Commands that complete by it: registerWrite, latchingRead. (R8, R25, R26, R27) -/
def Obligations.RegisterWritesAndLatchingReadsComplete : Prop :=
  (∀ (s : Machine.State) (p : Path) (a v : Nat), v < 2 ^ 32 → addrValid a = true →
    (s.writeRefused p a v = false → ownWrite a = false →
      ∃ t, exec (.registerWrite p a v) s = .next t ∧
        (∀ g ∈ fieldsAt a, (g.acc = .rw → t.r g = v / 2 ^ g.lo % 2 ^ g.width) ∧
          (g.acc = .w1c → ∀ i, i < g.width → bitAt (t.r g) i = (bitAt (s.r g) i && !bitAt v (g.lo + i))) ∧
          (g.acc = .ro ∨ g.acc = .wo → t.r g = s.r g)) ∧
        RegsBut (fieldsAt a) s t ∧ SameMemory s t) ∧
    (addrWindow a = true → ∃ t, exec (.registerWrite p a v) s = .next t ∧ t.regs = s.regs ∧ SameMemory s t)) ∧
  (∀ (s : Machine.State) (p : Path) (a : Nat) (others : List Nat), (a, others) ∈ latchTable → Served p s →
    (∃ t, exec (.latchingRead p a) s = .next t ∧ (t.path p).shadow = others.map (fun b => (b, s.word p b)) ∧
      (t.path p).data = s.word p a ∧ t.regs = s.regs ∧ SameMemory s t) ∧
    ∀ (u : Machine.State) (b : Nat), b ∈ others → Served p u → (u.path p).shadow = others.map (fun b => (b, s.word p b)) →
      ∃ t, exec (.latchingRead p b) u = .next t ∧ (t.path p).data = s.word p b ∧ (t.path p).shadow = (u.path p).shadow)

/-- O4. The commands of an image write session. Where the path's writes are served (in IMAGE_FAIL the host port's alone): BEGIN with
no session open, a length that is a positive multiple of 4,096 within the target's limit and a target not in use: the session is
OPEN, TARGET and OWNER are recorded, ERR and the word count are 0, and the target's STATE is WRITING. A data word from the owner
before the length is reached stands at its place in the target and is counted; a word that completes a 4,096-byte frame whose
CRC is wrong ends the session FAILED with FRAME_CRC and the target EMPTY, else the session stays open. FINISH from the owner
after all data: VERIFYING, with the key slots and the seal switches of this moment for the checks. ABORT from the owner, and 10
s without a data word: the session is closed and the target EMPTY; the timeout raises IMG_SESSION_TIMEOUT. The end of the
checks: the target is VERIFIED and the session DONE where no check fails, else the target is FAILED, the session FAILED with the
error of the first check that fails; the event of each is raised. The model's own: which error a defect raises (log entry 31,
DEDUCED) and the session's fields where R49 to R51 are silent, among them the seal record that a failing target keeps (log entry
100, DESIGN CHOICE). Commands that complete by it: imgWriteBegin, imgWriteData, imgWriteFinish, imgWriteAbort,
imgSessionTimeout, imgVerifyEnd. (R48, R49, R50, R51) -/
def Obligations.ImgWriteSessionCompletes : Prop :=
  (∀ (s : Machine.State) (p : Path) (n : Nat), n < 4 → Served p s → s.sessionOpen = false → 0 < s.r Reg.IMG_WRITE_LEN →
    s.r Reg.IMG_WRITE_LEN % 4096 = 0 → s.r Reg.IMG_WRITE_LEN ≤ storedLimit n → s.targetInUse n = false →
    ∃ t, exec (.imgWriteBegin p n) s = .next t ∧ t.r Reg.IMG_WRITE_STATUS_STATE = 1 ∧ t.r Reg.IMG_WRITE_STATUS_TARGET = n ∧
      t.r Reg.IMG_WRITE_STATUS_OWNER = ownerCode p ∧ t.r Reg.IMG_WRITE_STATUS_ERR = 0 ∧ t.r Reg.IMG_WRITE_COUNT = 0 ∧
      t.r (sealField n) = 1 ∧ t.img.sessPath = p ∧ SameMemory s t) ∧
  (∀ (s : Machine.State) (p : Path) (word : Nat), word < 2 ^ 32 → Served p s → s.r Reg.IMG_WRITE_STATUS_STATE = 1 → s.img.sessPath = p →
    s.r Reg.IMG_WRITE_COUNT < s.r Reg.IMG_WRITE_LEN →
    ∃ t, exec (.imgWriteData p word) s = .next t ∧ t.r Reg.IMG_WRITE_COUNT = (s.r Reg.IMG_WRITE_COUNT + 4) % 2 ^ 32 ∧
      t.keep = (targetWrite s (s.r Reg.IMG_WRITE_STATUS_TARGET) (s.r Reg.IMG_WRITE_COUNT) (leBytes 4 word)).keep ∧
      t.deep = (targetWrite s (s.r Reg.IMG_WRITE_STATUS_TARGET) (s.r Reg.IMG_WRITE_COUNT) (leBytes 4 word)).deep ∧
      (if (s.r Reg.IMG_WRITE_COUNT + 4) % 4096 = 0 ∧ frameOk (targetRd (targetWrite s (s.r Reg.IMG_WRITE_STATUS_TARGET)
          (s.r Reg.IMG_WRITE_COUNT) (leBytes 4 word)) (s.r Reg.IMG_WRITE_STATUS_TARGET)) (s.r Reg.IMG_WRITE_COUNT / 4096) = false then
        t.r Reg.IMG_WRITE_STATUS_STATE = 4 ∧ t.r Reg.IMG_WRITE_STATUS_ERR = ImgErr.frameCrc ∧
          t.r (sealField (s.r Reg.IMG_WRITE_STATUS_TARGET)) = 0
      else t.r Reg.IMG_WRITE_STATUS_STATE = 1) ∧
      t.img.sessLast = s.optime ∧ t.near = s.near ∧ t.table = s.table) ∧
  (∀ (s : Machine.State) (p : Path), Served p s → s.r Reg.IMG_WRITE_STATUS_STATE = 1 → s.img.sessPath = p →
    s.r Reg.IMG_WRITE_LEN ≤ s.r Reg.IMG_WRITE_COUNT →
    ∃ t, exec (.imgWriteFinish p) s = .next t ∧ t.r Reg.IMG_WRITE_STATUS_STATE = 2 ∧ t.img.finishKeys = s.sec.keys ∧
      t.img.finishSw1 = s.rb Reg.IMG_SEAL_SW1 ∧ t.img.finishCode = s.r Reg.IMG_SEAL_SWITCH_CODE ∧
      RegsBut [Reg.IMG_WRITE_STATUS_STATE] s t ∧ SameMemory s t) ∧
  (∀ (s : Machine.State) (p : Path), Served p s → s.r Reg.IMG_WRITE_STATUS_STATE = 1 → s.img.sessPath = p →
    ∃ t, exec (.imgWriteAbort p) s = .next t ∧ t.r Reg.IMG_WRITE_STATUS_STATE = 0 ∧
      t.r (sealField (s.r Reg.IMG_WRITE_STATUS_TARGET)) = 0 ∧
      RegsBut [Reg.IMG_WRITE_STATUS_STATE, sealField (s.r Reg.IMG_WRITE_STATUS_TARGET)] s t ∧ SameMemory s t) ∧
  (∀ (s : Machine.State), s.r Reg.IMG_WRITE_STATUS_STATE = 1 → 10000000 ≤ s.since s.img.sessLast →
    ∃ t, exec .imgSessionTimeout s = .next t ∧ t.r Reg.IMG_WRITE_STATUS_STATE = 0 ∧
      t.r (sealField (s.r Reg.IMG_WRITE_STATUS_TARGET)) = 0 ∧ Pending Evt.IMG_SESSION_TIMEOUT t ∧ SameMemory s t) ∧
  (∀ (s : Machine.State) (n : Nat), s.r Reg.IMG_WRITE_STATUS_STATE = 2 → s.r Reg.IMG_WRITE_STATUS_TARGET = n →
    (∃ t, exec (.imgVerifyEnd false) s = .next t ∧
      (if formError s (decide (n < 2)) (s.r Reg.IMG_WRITE_COUNT) (logicalRd (targetRd s n)) = 0 ∧
          sealError s (decide (n < 2)) (logicalRd (targetRd s n)) = 0 then
        t.r Reg.IMG_WRITE_STATUS_STATE = 3 ∧ t.r (sealField n) = 2 ∧
          t.sealOf n = sealFor (logicalRd (targetRd s n)) (s.r Reg.IMG_WRITE_COUNT) ∧ Pending Evt.IMG_WRITE_DONE t
      else t.r Reg.IMG_WRITE_STATUS_STATE = 4 ∧ t.r (sealField n) = 3 ∧ t.sealOf n = s.sealOf n ∧ Pending Evt.IMG_WRITE_FAIL t ∧
        t.r Reg.IMG_WRITE_STATUS_ERR = (if formError s (decide (n < 2)) (s.r Reg.IMG_WRITE_COUNT) (logicalRd (targetRd s n)) = 0 then
          sealError s (decide (n < 2)) (logicalRd (targetRd s n))
        else formError s (decide (n < 2)) (s.r Reg.IMG_WRITE_COUNT) (logicalRd (targetRd s n)))) ∧
      SameMemory s t) ∧
    ∃ t, exec (.imgVerifyEnd true) s = .next t ∧ t.r Reg.IMG_WRITE_STATUS_STATE = 4 ∧ t.r (sealField n) = 3 ∧
      t.r Reg.IMG_WRITE_STATUS_ERR = ImgErr.medium ∧ Pending Evt.IMG_WRITE_FAIL t ∧ SameMemory s t)

/-- O5. Activation, staging and the digest registers. Where the access is served (in IMAGE_FAIL neither staging nor a frame's read
is): a read of IMG_DIGEST_0 returns the first digest word and puts all twelve into the path's shadow. IMG_ACTIVATE with the
confirm value, a VERIFIED bank and its bound atlas in a VERIFIED slot designates the bank; with the confirm value and either
missing it is refused with its event and changes no register. STAGE while nothing is being staged or streamed and no session
writes the slot: staging runs, SLOT is recorded, ERR and PROGRESS are 0. ABORT of a staging leaves the incoming slot EMPTY; of
the stores it changes the table store alone, where the slot then holds the first n bytes of the image, n a free number of the
model (log entry 103, DEDUCED), and PROGRESS gives its MiB. The end of a staging: STAGED where the digest computed equals the
seal record's, else FAILED, each with its event. Commands that complete by it: imgDigestRead, imgActivate, imgStage,
imgStageAbort, atlasStagingEnd. (R53, R54, R63, R27) -/
def Obligations.ImgActivateAndStageCompletes : Prop :=
  (∀ (s : Machine.State) (p : Path), Served p s → ∃ t, exec (.imgDigestRead p) s = .next t ∧
    (t.path p).shadow = wordsAt 0x10040 (digestWords (selectedDigest s (s.r Reg.IMG_DIGEST_SEL))) ∧
    (t.path p).data = nth (digestWords (selectedDigest s (s.r Reg.IMG_DIGEST_SEL))) 0 0 ∧ t.regs = s.regs ∧ SameMemory s t) ∧
  (∀ (s : Machine.State) (b : Nat), b < 2 →
    (s.verified b = true → s.atlasHeld (s.sealOf b).atlas = true →
      ∃ t, exec (.imgActivate b 0x5A3C) s = .next t ∧ t.r Reg.IMG_STATUS_DESIGNATED_BANK = b ∧ t.img.activated = true ∧
        Pending Evt.IMG_ACTIVATED t ∧ RegsBut [Reg.IMG_STATUS_DESIGNATED_BANK] s t ∧ SameMemory s t) ∧
    (s.verified b = false ∨ s.atlasHeld (s.sealOf b).atlas = false →
      ∃ t, exec (.imgActivate b 0x5A3C) s = .next t ∧ Pending Evt.IMG_ACTIVATE_REFUSED t ∧ t.regs = s.regs ∧ SameMemory s t)) ∧
  (∀ (s : Machine.State) (n : Nat), n < 2 → Serving s → s.r Reg.IMG_STATUS_TS_INCOMING_STATE ≠ 1 → s.r Reg.IMG_STATUS_TS_INCOMING_STATE ≠ 4 →
    s.sessionOn n = false →
    ∃ t, exec (.imgStage n) s = .next t ∧ t.r Reg.IMG_STATUS_TS_INCOMING_STATE = 1 ∧ t.r Reg.IMG_STAGE_STATUS_SLOT = n ∧
      t.r Reg.IMG_STAGE_STATUS_ERR = 0 ∧ t.r Reg.IMG_STAGE_STATUS_PROGRESS = 0 ∧ SameMemory s t) ∧
  (∀ (s : Machine.State), Serving s → s.r Reg.IMG_STATUS_TS_INCOMING_STATE = 1 →
    ∃ t, exec .imgStageAbort s = .next t ∧ t.r Reg.IMG_STATUS_TS_INCOMING_STATE = 0 ∧
      RegsBut [Reg.IMG_STATUS_TS_INCOMING_STATE, Reg.IMG_STAGE_STATUS_PROGRESS] s t ∧ t.keep = s.keep ∧ t.near = s.near ∧
      t.deep = s.deep ∧ ∃ n, n ≤ s.atlasLen (s.r Reg.IMG_STAGE_STATUS_SLOT) ∧
        t.table = (copyPart s (s.r Reg.IMG_STAGE_STATUS_SLOT) s.incoming n).table ∧
        t.r Reg.IMG_STAGE_STATUS_PROGRESS = satN 8 (n / 2 ^ 20)) ∧
  (∀ (s : Machine.State) (n : Nat), s.r Reg.IMG_STATUS_TS_INCOMING_STATE = 1 → s.r Reg.IMG_STAGE_STATUS_SLOT = n →
    (imageDigest (logicalRd (targetRd s (2 + n))) = (s.sealOf (2 + n)).digest →
      ∃ t, exec (.atlasStagingEnd false) s = .next t ∧ t.r Reg.IMG_STATUS_TS_INCOMING_STATE = 2 ∧ Pending Evt.ATLAS_STAGED t ∧
        t.keep = s.keep ∧ t.near = s.near ∧ t.deep = s.deep) ∧
    (imageDigest (logicalRd (targetRd s (2 + n))) ≠ (s.sealOf (2 + n)).digest →
      ∃ t, exec (.atlasStagingEnd false) s = .next t ∧ t.r Reg.IMG_STATUS_TS_INCOMING_STATE = 3 ∧
        t.r Reg.IMG_STAGE_STATUS_ERR = ImgErr.digest ∧ Pending Evt.ATLAS_STAGE_FAIL t ∧ t.keep = s.keep ∧
        t.near = s.near ∧ t.deep = s.deep))

/-- O6. Completions, counters, ready lists and placement. While the module is not Parked: COMPLETE, within its BUDGET, of a facet
with an item running and nothing latched latches the completion with the item's node and mask and reports its cycles, and a
command that the item gave to a standard output stands; beyond BUDGET the completion latched is the aborted one, with no mask
and with FACET_OVERRUN, and no output is commanded. The collector, while the counter unit is not held, takes the first four
pending completions in ascending index. The counter unit applies what was delivered to it: a single decrement of an enabled
counter above 1 lowers its count; at 1 it fires and the count is its INITIAL again; a disabled counter only counts a hit. While
the module is not Parked: the one descriptor due in the cycle enters the tail of its level's list and back-pressure is 0; where
that list holds 256 and there was no back-pressure, the descriptor waits, back-pressure is set, READY_FULL counts it and
DSP_BACKPRESSURE is raised. Once the graphs are released, a descriptor that alone waits in one of the eight lists, whose flow is
free and for which a slot is chosen, leaves its list for that slot: a running slot, which makes the facet the node's affinity
facet, or else a prefetch slot. Commands that complete by it: complete, completionCollect, counterApply, readyListEntry,
descriptorPlacement. (R69, R70, R71, R72, R73, R78, R79, R82) -/
def Obligations.CompletionsReadyListsAndPlacementComplete : Prop :=
  ((∀ (s : Machine.State) (p mask cycles : Nat) (writes : List (Nat × Byte)) (outs : List (Nat × Bool)) (d : Desc), s.parked = false →
    (s.facet p).running = some d → (s.facet p).latch = none →
    (cycles ≤ (s.node d.node).budget →
      ∃ t, exec (.complete p mask cycles writes outs) s = .next t ∧
        (t.facet p).latch = some { index := s.indexOf p, node := d.node, mask := mask % 16 } ∧ (t.facet p).running = some d ∧
        (∀ n level, outs = [(n, level)] → 1 ≤ n → n ≤ 24 → bitAt t.fio.cmd (n - 1) = level) ∧ (outs = [] → t.fio = s.fio) ∧
        t.r (Reg.DSP_FCT_CYCLES_LAST p) = satN 16 cycles ∧ RegsBut [Reg.DSP_FCT_CYCLES_LAST p, Reg.DSP_FCT_CYCLES_MAX p] s t ∧
        SameMemory s t) ∧
    ((s.node d.node).budget < cycles →
      ∃ t, exec (.complete p mask cycles writes outs) s = .next t ∧
        (t.facet p).latch = some { index := s.indexOf p, node := d.node, mask := 0, abort := true } ∧ t.fio = s.fio ∧
        Pending Evt.FACET_OVERRUN t ∧ SameMemory s t)) ∧
  (∀ (s : Machine.State), s.parked = false → s.unitHeld = false →
    ∃ t, exec .completionCollect s = .next t ∧ t.dsp.collIn = s.dsp.collIn ++ (s.pendingCompletions.take 4).map Prod.snd ∧
      SameMemory s t) ∧
  (∀ (s : Machine.State) (h : Hit), s.parked = false → s.unitHeld = false → s.hits = [h] →
    ((s.counter h.counter).initial = 0 →
      ∃ t, exec .counterApply s = .next t ∧
        t.r Reg.DSP_BP_COUNT_DISABLED_HIT = satN Reg.DSP_BP_COUNT_DISABLED_HIT.width (s.r Reg.DSP_BP_COUNT_DISABLED_HIT + 1) ∧
        t.dsp.counts = s.dsp.counts ∧ t.dsp.fireQ = s.dsp.fireQ) ∧
    ((s.counter h.counter).initial ≠ 0 → 1 < nth s.dsp.counts h.counter (s.counter h.counter).initial →
      ∃ t, exec .counterApply s = .next t ∧
        t.dsp.counts = setNth s.dsp.counts h.counter (nth s.dsp.counts h.counter (s.counter h.counter).initial - 1) ∧
        t.dsp.fireQ = s.dsp.fireQ ∧ t.dsp.portIn = [] ∧ t.dsp.collIn = [] ∧ t.regs = s.regs ∧ SameMemory s t) ∧
    ((s.counter h.counter).initial ≠ 0 → nth s.dsp.counts h.counter (s.counter h.counter).initial ≤ 1 →
      ∃ t d, exec .counterApply s = .next t ∧ t.dsp.counts = setNth s.dsp.counts h.counter (s.counter h.counter).initial ∧
        t.dsp.fireQ = s.dsp.fireQ ++ [d] ∧ d.node = (s.counter h.counter).node ∧ d.counter = h.counter ∧ d.firer = h.firer ∧
        t.dsp.portIn = [] ∧ t.dsp.collIn = [] ∧ t.regs = s.regs ∧ SameMemory s t))) ∧
  ((∀ (s : Machine.State) (q : Queued), s.parked = false → s.dsp.toEnter = [q] →
    ((nth s.dsp.ready q.desc.prio []).length < 256 →
      ∃ t, exec .readyListEntry s = .next t ∧ nth t.dsp.ready q.desc.prio [] = nth s.dsp.ready q.desc.prio [] ++ [q.desc] ∧
        t.r Reg.DSP_STATUS_BACKPRESSURE = 0 ∧ t.dsp.waiting = [] ∧ t.dsp.fireQ = [] ∧ SameMemory s t) ∧
    (256 ≤ (nth s.dsp.ready q.desc.prio []).length → s.r Reg.DSP_STATUS_BACKPRESSURE = 0 →
      ∃ t, exec .readyListEntry s = .next t ∧ t.dsp.ready = s.dsp.ready ∧ t.dsp.waiting = [q] ∧ t.dsp.timeList = s.dsp.timeList ∧
        t.r Reg.DSP_STATUS_BACKPRESSURE = 1 ∧
        t.r Reg.DSP_BP_COUNT_READY_FULL = satN Reg.DSP_BP_COUNT_READY_FULL.width (s.r Reg.DSP_BP_COUNT_READY_FULL + 1) ∧
        Pending Evt.DSP_BACKPRESSURE t ∧ SameMemory s t)) ∧
  (∀ (s : Machine.State) (d : Desc) (n k p : Nat), n < 8 → s.parked = false → s.released = true →
    s.dsp.ready = List.replicate n [] ++ [d] :: List.replicate (7 - n) [] → s.discards d = false → s.flowBusy d = false →
    (s.chooseSlot d.node = some (k, p, true) →
      ∃ t, exec .descriptorPlacement s = .next t ∧ (t.facet p).running = some d ∧ (∀ l ∈ t.dsp.ready, l = []) ∧
        SMap.get t.dsp.affinity d.node 0x7F = k ∧ t.regs = s.regs ∧ SameMemory s t) ∧
    (s.chooseSlot d.node = some (k, p, false) →
      ∃ t, exec .descriptorPlacement s = .next t ∧ (t.facet p).pref = some d ∧ (∀ l ∈ t.dsp.ready, l = []) ∧
        t.dsp.affinity = s.dsp.affinity ∧ t.regs = s.regs ∧ SameMemory s t)))

/-- O7. Delay lists, ports, doorbells and peaks. While the module is not Parked: with none waiting, an insert into a time list of
fewer than 512 entries adds an entry whose expiry lies DELAY microseconds ahead, and into a position list of fewer than 512 one
with its threshold; an insert into a full list enters nothing, DELAY_FULL counts it, DSP_DELAY_FULL is raised and the item's
status is FULL. A cancel removes every entry of the list with its TAG that has not expired, and no other, and the item receives
the number removed. At a tick the entries at the head of the time list that are due expire: they are queued for the ready lists
and stay at the head until they enter. The model's own: an expired entry is no longer cancelled (log entry 93, DEDUCED) and
stays at the head of its list (log entry 104, DEDUCED). While the module is not Parked, the graphs are released and the counter
unit is not held: the head of a port's FIFO goes to the counter unit where the port has not been served in the cycle, fewer than
four have, and fewer than four lower ports come first; what the source holds moves up. A doorbell of a counter whose entry
allows the host enters port 15 while it has fewer than 16 entries; at 16 DOORBELL_LOST counts it; a doorbell of any other
counter, or before the graphs are released, does nothing. DSP_PEAK_CLEAR with bit 0 set clears the collector's peaks and the
lost-doorbell count. Commands that complete by it: delayInsert, delayCancel, timeListExpiry, portDelivery, dspDoorbell,
dspPeakClear. (R8, R74, R75, R76, R77, R80, R81) -/
def Obligations.DelayListsPortsAndDoorbellComplete : Prop :=
  ((∀ (s : Machine.State) (x : DelayInsert), s.parked = false → s.dsp.inserts = [] →
    (x.position = false → s.dsp.timeList.length < 512 →
      ∃ t, exec (.delayInsert [x]) s = .next t ∧
        ({ expiry := s.optime + BitVec.ofNat 48 x.delay, node := x.node, level := x.level, arg := x.arg, tag := x.tag } : TimeEntry) ∈
          t.dsp.timeList ∧
        t.dsp.timeList.length = s.dsp.timeList.length + 1 ∧ t.dsp.up = s.dsp.up ∧ t.dsp.down = s.dsp.down ∧
        RegsBut [Reg.DSP_DELAY_TIME_PEAK] s t ∧ SameMemory s t) ∧
    (x.position = false → 512 ≤ s.dsp.timeList.length →
      ∃ t, exec (.delayInsert [x]) s = .next t ∧ t.dsp.timeList = s.dsp.timeList ∧ t.dsp.up = s.dsp.up ∧ t.dsp.down = s.dsp.down ∧
        (∀ p, p < s.dsp.facets.length → s.physOf x.facet = some p → (t.facet p).full = true) ∧
        t.r Reg.DSP_BP_COUNT_DELAY_FULL = satN Reg.DSP_BP_COUNT_DELAY_FULL.width (s.r Reg.DSP_BP_COUNT_DELAY_FULL + 1) ∧
        Pending Evt.DSP_DELAY_FULL t ∧ RegsBut [Reg.DSP_BP_COUNT_DELAY_FULL] s t ∧ SameMemory s t) ∧
    (x.position = true → s.dsp.up.length + s.dsp.down.length < 512 →
      ∃ t y, exec (.delayInsert [x]) s = .next t ∧
        y ∈ (if x.down then t.dsp.down else t.dsp.up) ∧ y.thresh = x.thresh ∧ y.node = x.node ∧ y.tag = x.tag ∧ y.due = false ∧
        t.dsp.up.length + t.dsp.down.length = s.dsp.up.length + s.dsp.down.length + 1 ∧ t.dsp.timeList = s.dsp.timeList ∧
        RegsBut [Reg.DSP_DELAY_POS_PEAK] s t ∧ SameMemory s t) ∧
    (x.position = true → 512 ≤ s.dsp.up.length + s.dsp.down.length →
      ∃ t, exec (.delayInsert [x]) s = .next t ∧ t.dsp.timeList = s.dsp.timeList ∧ t.dsp.up = s.dsp.up ∧ t.dsp.down = s.dsp.down ∧
        (∀ p, p < s.dsp.facets.length → s.physOf x.facet = some p → (t.facet p).full = true) ∧
        t.r Reg.DSP_BP_COUNT_DELAY_FULL = satN Reg.DSP_BP_COUNT_DELAY_FULL.width (s.r Reg.DSP_BP_COUNT_DELAY_FULL + 1) ∧
        Pending Evt.DSP_DELAY_FULL t ∧ RegsBut [Reg.DSP_BP_COUNT_DELAY_FULL] s t ∧ SameMemory s t)) ∧
  (∀ (s : Machine.State) (k tag : Nat), s.parked = false →
    (∃ t, exec (.delayCancel k false tag) s = .next t ∧
      (∀ x, x ∈ t.dsp.timeList ↔ x ∈ s.dsp.timeList ∧ (x.tag ≠ tag ∨ s.timeDue x = true)) ∧
      (∀ p, p < s.dsp.facets.length → s.physOf k = some p →
        (t.facet p).removed = s.dsp.timeList.length - t.dsp.timeList.length) ∧
      t.dsp.up = s.dsp.up ∧ t.dsp.down = s.dsp.down ∧ t.regs = s.regs ∧ SameMemory s t) ∧
    ∃ t, exec (.delayCancel k true tag) s = .next t ∧ (∀ x, x ∈ t.dsp.up ↔ x ∈ s.dsp.up ∧ (x.tag ≠ tag ∨ x.due = true)) ∧
      (∀ x, x ∈ t.dsp.down ↔ x ∈ s.dsp.down ∧ (x.tag ≠ tag ∨ x.due = true)) ∧
      (∀ p, p < s.dsp.facets.length → s.physOf k = some p → (t.facet p).removed = s.dsp.delayed - t.dsp.delayed) ∧
      t.dsp.timeList = s.dsp.timeList ∧ t.regs = s.regs ∧ SameMemory s t) ∧
  (∀ (s : Machine.State) (due rest : List TimeEntry), s.parked = false → s.dsp.timeList = due ++ rest →
    (∀ x ∈ due, x.due = false ∧ s.until_ x.expiry ≤ 0) → (∀ x ∈ rest, x.due = false ∧ 0 < s.until_ x.expiry) →
    ∃ t, exec .timeListExpiry s = .next t ∧ t.dsp.timeList = due.map (fun x => { x with due := true }) ++ rest ∧
      t.dsp.timeQ.length = s.dsp.timeQ.length + due.length ∧ t.dsp.ready = s.dsp.ready ∧ t.regs = s.regs ∧ SameMemory s t)) ∧
  ((∀ (s : Machine.State) (port : Nat) (x : Dec) (q : List Dec), port < 16 → s.parked = false → s.released = true →
    s.unitHeld = false → s.dsp.portIn.length < 4 → s.portTaken port = false → s.portsBefore port < 4 → nth s.dsp.ports port [] = x :: q →
    ∃ t, exec (.portDelivery port) s = .next t ∧ t.dsp.portIn = s.dsp.portIn ++ [(port, x)] ∧
      nth t.dsp.ports port [] = q ++ (nth s.dsp.held port []).take 1 ∧ nth t.dsp.held port [] = (nth s.dsp.held port []).drop 1 ∧
      t.regs = s.regs ∧ SameMemory s t) ∧
  (∀ (s : Machine.State) (c : Nat), c < 4096 →
    (s.released = true → (s.counter c).hostOk = true → (nth s.dsp.ports 15 []).length < 16 →
      ∃ t, exec (.dspDoorbell c) s = .next t ∧ nth t.dsp.ports 15 [] = nth s.dsp.ports 15 [] ++ [⟨c, none⟩] ∧ t.regs = s.regs ∧
        SameMemory s t) ∧
    (s.released = true → (s.counter c).hostOk = true → 16 ≤ (nth s.dsp.ports 15 []).length →
      ∃ t, exec (.dspDoorbell c) s = .next t ∧ t.dsp = s.dsp ∧
        t.r Reg.DSP_BP_COUNT_DOORBELL_LOST = satN Reg.DSP_BP_COUNT_DOORBELL_LOST.width (s.r Reg.DSP_BP_COUNT_DOORBELL_LOST + 1) ∧
        RegsBut [Reg.DSP_BP_COUNT_DOORBELL_LOST] s t ∧ SameMemory s t) ∧
    ((s.counter c).hostOk = false ∨ s.released = false → ∃ t, exec (.dspDoorbell c) s = .next t ∧ t.dsp = s.dsp ∧ t.regs = s.regs ∧ SameMemory s t)) ∧
  (∀ (s : Machine.State) (v : Nat), Serving s → v % 2 = 1 →
    ∃ t, exec (.dspPeakClear v) s = .next t ∧ t.r Reg.DSP_COLLECT_MAX_BURST = 0 ∧ t.r Reg.DSP_COLLECT_MAX_WAIT = 0 ∧
      t.r Reg.DSP_BP_COUNT_DOORBELL_LOST = 0 ∧ t.dsp = s.dsp ∧ SameMemory s t))

/-- O8. Facet relays and facet faults. A relay command with its confirm value for a mapped facet that no relay is held or running
for is held with reason 3. The relay start takes the lowest held request; where an idle spare passed its self-test, an orderly
relay goes to it: STATE 1, its facets and its reason are recorded, the relay is busy and FACET_RELAY_START is raised. The loaded
code copy leads to STATE 2, the data copy to STATE 3 with the old facet's data in the target, and the switch, at an old facet
with nothing in its slots or latch, moves the logical facet to the target: STATE 4, no longer busy, FACET_RELAY_DONE. While the
module is not Parked: an item that overruns is aborted by a completion with the abort flag, its cycles are BUDGET + 1, and
FACET_OVERRUN is raised. A stalled facet that carries a logical facet while no relay is busy stops at once with an aborted
completion; with an idle spare that passed its self-test its FAULT relay begins there. An uncorrectable error of a facet that
carries no logical facet is counted. The end of a FAULT relay's load gives the target code and initial data and completes the
relay. The 1 s check records every unfenced facet's timing margin. Commands that complete by it: dspRelayCtrl, relayStart,
relayCodeLoaded, relayCopyDone, relaySwitch, facetOverrun, facetStall, facetMemoryUncorr, faultRelayLoadDone, facetMarginCheck.
(R87, R88, R89, R92) -/
def Obligations.RelaysAndFacetFaultsComplete : Prop :=
  ((∀ (s : Machine.State) (k : Nat), Serving s → k < 96 → (s.physOf k).isSome = true → s.relayBusy = false → (∀ x ∈ s.dsp.requests, x.1 ≠ k) →
    ∃ t, exec (.dspRelayCtrl k 0xC3A5) s = .next t ∧ (k, 3) ∈ t.dsp.requests ∧
      t.dsp.requests.length = s.dsp.requests.length + 1 ∧ t.regs = s.regs ∧ SameMemory s t) ∧
  (∀ (s : Machine.State) (k p reason : Nat) (rest : List (Nat × Nat)), k < 96 → p < 112 → reason < 4 → s.relayBusy = false →
    s.dsp.requests = (k, reason) :: rest → s.idleSpares.find? (fun p => (s.facet p).testPass) = some p →
    ∃ t, exec .relayStart s = .next t ∧ t.r Reg.DSP_RELAY_STATUS_STATE = 1 ∧ t.r Reg.DSP_RELAY_STATUS_LOGICAL = k ∧
      t.r Reg.DSP_RELAY_STATUS_TO_PHYS = p ∧ t.r Reg.DSP_RELAY_STATUS_REASON = reason ∧ t.r Reg.DSP_STATUS_RELAY_BUSY = 1 ∧
      t.dsp.requests = rest ∧ Pending Evt.FACET_RELAY_START t ∧ SameMemory s t) ∧
  (∀ (s : Machine.State), s.r Reg.DSP_RELAY_STATUS_STATE = 1 → s.r Reg.DSP_RELAY_STATUS_REASON ≠ 4 →
    ∃ t, exec .relayCodeLoaded s = .next t ∧ t.r Reg.DSP_RELAY_STATUS_STATE = 2 ∧
      (t.facet (s.r Reg.DSP_RELAY_STATUS_TO_PHYS)).code = nth s.dsp.graphs.code (s.r Reg.DSP_RELAY_STATUS_LOGICAL) [] ∧
      RegsBut [Reg.DSP_RELAY_STATUS_STATE] s t ∧ SameMemory s t) ∧
  (∀ (s : Machine.State), s.r Reg.DSP_RELAY_STATUS_STATE = 2 →
    ∃ t, exec .relayCopyDone s = .next t ∧ t.r Reg.DSP_RELAY_STATUS_STATE = 3 ∧
      (t.facet (s.r Reg.DSP_RELAY_STATUS_TO_PHYS)).data = (s.facet (s.r Reg.DSP_RELAY_STATUS_FROM_PHYS)).data ∧
      RegsBut [Reg.DSP_RELAY_STATUS_STATE] s t ∧ SameMemory s t) ∧
  (∀ (s : Machine.State), s.r Reg.DSP_RELAY_STATUS_STATE = 3 → (s.facet (s.r Reg.DSP_RELAY_STATUS_FROM_PHYS)).running = none →
    (s.facet (s.r Reg.DSP_RELAY_STATUS_FROM_PHYS)).pref = none → (s.facet (s.r Reg.DSP_RELAY_STATUS_FROM_PHYS)).latch = none →
    ∃ t, exec .relaySwitch s = .next t ∧ t.r Reg.DSP_RELAY_STATUS_STATE = 4 ∧ t.r Reg.DSP_STATUS_RELAY_BUSY = 0 ∧
      t.physOf (s.r Reg.DSP_RELAY_STATUS_LOGICAL) = some (s.r Reg.DSP_RELAY_STATUS_TO_PHYS) ∧ Pending Evt.FACET_RELAY_DONE t ∧
      SameMemory s t)) ∧
  ((∀ (s : Machine.State) (p : Nat) (writes : List (Nat × Byte)) (d : Desc), s.parked = false → (s.facet p).running = some d →
    (s.facet p).latch = none →
    ∃ t, exec (.facetOverrun p writes) s = .next t ∧
      (t.facet p).latch = some { index := s.indexOf p, node := d.node, mask := 0, abort := true } ∧
      t.r (Reg.DSP_FCT_CYCLES_LAST p) = satN 16 ((s.node d.node).budget + 1) ∧ Pending Evt.FACET_OVERRUN t ∧ SameMemory s t) ∧
  (∀ (s : Machine.State) (p k q : Nat) (d : Desc), s.parked = false → (s.facet p).running = some d → (s.facet p).latch = none →
    s.logicalOf p = some k → s.relayBusy = false → q < 112 → s.idleSpares.find? (fun p => (s.facet p).testPass) = some q →
    ∃ t, exec (.facetStall p) s = .next t ∧ (t.facet p).stopped = true ∧ (t.facet p).pref = none ∧
      (t.facet p).latch = some { index := s.indexOf p, node := d.node, mask := 0, abort := true } ∧
      t.r Reg.DSP_RELAY_STATUS_STATE = 1 ∧ t.r Reg.DSP_RELAY_STATUS_REASON = 4 ∧ t.r Reg.DSP_RELAY_STATUS_TO_PHYS = q ∧
      SameMemory s t) ∧
  (∀ (s : Machine.State) (p : Nat), s.logicalOf p = none →
    ∃ t, exec (.facetMemoryUncorr p) s = .next t ∧
      t.r (Reg.DSP_FCT_ECC_UNCORRECTED p) =
        satN (Reg.DSP_FCT_ECC_UNCORRECTED p).width (s.r (Reg.DSP_FCT_ECC_UNCORRECTED p) + 1) ∧
      RegsBut [Reg.DSP_FCT_ECC_UNCORRECTED p] s t ∧ SameMemory s t) ∧
  (∀ (s : Machine.State), s.r Reg.DSP_RELAY_STATUS_STATE = 1 → s.r Reg.DSP_RELAY_STATUS_REASON = 4 →
    ∃ t, exec .faultRelayLoadDone s = .next t ∧ t.r Reg.DSP_RELAY_STATUS_STATE = 4 ∧ t.r Reg.DSP_STATUS_RELAY_BUSY = 0 ∧
      t.physOf (s.r Reg.DSP_RELAY_STATUS_LOGICAL) = some (s.r Reg.DSP_RELAY_STATUS_TO_PHYS) ∧
      (t.facet (s.r Reg.DSP_RELAY_STATUS_TO_PHYS)).data = nth s.dsp.graphs.data (s.r Reg.DSP_RELAY_STATUS_LOGICAL) [] ∧
      Pending Evt.FACET_RELAY_DONE t ∧ SameMemory s t) ∧
  (∀ (s : Machine.State) (margins eccs : List Nat) (tests : List Bool) (p : Nat), p < 112 → s.fenced p = false → p < margins.length →
    ∃ t, exec (.facetMarginCheck margins eccs tests) s = .next t ∧
      t.r (Reg.DSP_FCT_MARGIN_MARGIN p) = satN 8 (nth margins p 0) ∧ SameMemory s t))

/-- O9. Car samples and the sin/cos channels. At the tick the tracks and the six quadrature counts are latched with OPTIME. The
delivery of a latched sample that is no door sample, with the sin/cos channels off, the machine source OK and no car mark armed,
takes the latch, is the model's sample with its time, and its source is the machine source. A noted reference edge whose best
candidate deviates by no more than its window and calls for no re-reference is accepted: the entry and the result are shown, the
rejects start anew, and e x (WEIGHT + 1) / 256 waits as correction. The model's own: the correction is held in half micrometres
(log entry 15, DEDUCED). Three illegal transitions within one revolution latch SINCOS_LOST of a channel that had none, and
MACH_LOST where it is the machine source. An ended mark pulse that is taken on a channel without a reference count commits the
mark count modulo CPR. A third consecutive out-of-tolerance mark latches INDEX_LOST. Ten seconds after the last check of a
track, 16 differences of at most 32 LSB swap its converters, else ADC_CAL_FAIL is raised. An encoder supply that is switched on
and leaves 10 % of its voltage or exceeds 300 mA raises ENC_SUPPLY once; one that is switched off raises nothing. The model's
own: each channel has a committed count and an INDEX cause of its own (log entry 109, DEDUCED). Commands that complete by it:
carPositionSample, sampleDelivery, referencePoint, sincosLost, referenceMark, indexLost, adcCalSwap, encSupply. (R96, R97, R103,
R106, R108, R109, R111, R120, R124, R128, R135) -/
def Obligations.CarSamplesAndSinCosComplete : Prop :=
  ((∀ (s : Machine.State) (sc : List ScSample),
    ∃ t x, exec (.carPositionSample sc) s = .next t ∧ t.pos.raw = some x ∧ x.time = s.optime ∧ x.sc = sc ∧
      (∀ q, q < 6 → nth x.qd q 0 = s.qdCount q) ∧ t.pos.qdLatched = x.qd ∧ t.regs = s.regs ∧ SameMemory s t) ∧
  (∀ (s : Machine.State) (x : RawSample), s.pos.raw = some x → x.doors = false → s.machOk = true → s.r (Reg.PFE_SC_CFG_ENABLE 0) = 0 →
    s.r (Reg.PFE_SC_CFG_ENABLE 1) = 0 → (∀ i, i < 256 → (s.slot 0 i).armed = false) →
    ∃ t, exec .sampleDelivery s = .next t ∧ t.pos.raw = none ∧ t.ret.seen = true ∧ t.pos.sample.time = x.time ∧
      t.pos.sample.source = 0 ∧ t.r Reg.PFE_STATUS_SOURCE = 0 ∧ t.r Reg.PFE_SAMPLE_TIME = x.time.toNat % 2 ^ 32 ∧ SameMemory s t) ∧
  (∀ (s : Machine.State) (input : Nat) (rising : Bool) (g : RefEdge) (i : Nat) (x : RefPoint) (e : Int),
    s.refEdge input rising = some g → refBest s g.at_ (refCandidates s g) = some (i, x, e) →
    rerefAllowed s x = false → mag e ≤ x.win → i < 1023 →
    ∃ t, exec (.referencePoint input rising) s = .next t ∧ t.r Reg.PFE_REF_LAST_ENTRY = i ∧ t.r Reg.PFE_REF_LAST_RESULT = 0 ∧
      t.pos.rejects = 0 ∧ t.pos.edges = s.pos.edges.erase g ∧ t.pos.pendHalf = s.pos.pendHalf + 2 * divOpen (e * (x.weight + 1 : Nat)) 256 ∧ SameMemory s t)) ∧
  ((∀ (s : Machine.State) (c : Nat) (a b d : Int), c < 2 → (s.scChan c).illegalQ = [a, b, d] → mag (a - d) < 4 * s.r (Reg.PFE_SC_CFG_LINES c) →
    mag (a - b) < 4 * s.r (Reg.PFE_SC_CFG_LINES c) → s.r (Reg.PFE_SC_STATUS_LOST c) = 0 →
    ∃ t, exec (.sincosLost c) s = .next t ∧ t.r (Reg.PFE_SC_STATUS_LOST c) = 1 ∧ Pending Evt.SINCOS_LOST t ∧
      (s.machSc = some c → t.r Reg.PFE_STATUS_MACH_LOST = 1) ∧
      RegsBut [Reg.PFE_SC_STATUS_LOST c, Reg.PFE_STATUS_MACH_LOST] s t ∧ SameMemory s t) ∧
  (∀ (s : Machine.State) (c : Nat) (m : MarkPulse), c < 2 → (s.scChan c).mark = some m → markTaken c m.illegal s = true →
    s.r (Reg.PFE_SC_INDEX_COMMITTED c) = 0 →
    ∃ t, exec (.referenceMark c) s = .next t ∧ (t.scChan c).mark = none ∧
      t.r (Reg.PFE_SC_REF_COUNT c) = modCpr m.count (s.cpr c) % 2 ^ (Reg.PFE_SC_REF_COUNT c).width ∧
      t.r (Reg.PFE_SC_INDEX_COMMITTED c) = 1 ∧ (t.scChan c).lastMark = m.count ∧ SameMemory s t) ∧
  (∀ (s : Machine.State) (c : Nat), s.r (Reg.PFE_SC_INDEX_CONSEC c) = 3 → (s.scChan c).indexLost = false →
    ∃ t, exec (.indexLost c) s = .next t ∧ (t.scChan c).indexLost = true ∧ Pending Evt.INDEX_LOST t ∧
      (s.machSc = some c → t.r Reg.PFE_STATUS_INDEX_LOST = 1) ∧ RegsBut [Reg.PFE_STATUS_INDEX_LOST] s t ∧ SameMemory s t) ∧
  (∀ (s : Machine.State) (c k : Nat) (diffs : List Int), c < 2 → k < 2 → 10000000 ≤ s.since (nth s.pos.calAt (2 * c + k) 0) →
    (diffs.length = 16 → (∀ d ∈ diffs, mag d ≤ 32) →
      ∃ t, exec (.adcCalSwap c k diffs) s = .next t ∧ nth (t.scChan c).conv k 0 = 1 - nth (s.scChan c).conv k 0 ∧ SameMemory s t) ∧
    ((∃ d ∈ diffs, 32 < mag d) → ∃ t, exec (.adcCalSwap c k diffs) s = .next t ∧ Pending Evt.ADC_CAL_FAIL t ∧ SameMemory s t)) ∧
  (∀ (s : Machine.State) (n mv ma : Nat), 1 ≤ n → n ≤ 2 →
    (nth s.pos.encOut (n - 1) false = false → s.r (Reg.PFE_SC_CFG_SUPPLY_ON (n - 1)) = 1 → s.r (Reg.PFE_SC_CFG_SUPPLY_12V (n - 1)) = 0 → (mv < 4500 ∨ 5500 < mv ∨ 300 < ma) →
      ∃ t, exec (.encSupply n mv ma) s = .next t ∧ nth t.pos.encOut (n - 1) false = true ∧ Pending Evt.ENC_SUPPLY t ∧
        t.regs = s.regs ∧ SameMemory s t) ∧
    (s.r (Reg.PFE_SC_CFG_SUPPLY_ON (n - 1)) = 0 ∨ s.r (Reg.PFE_SC_CFG_SUPPLY_12V (n - 1)) = 1 ∧ 10800 ≤ mv ∧ mv ≤ 13200 ∧ ma ≤ 300 →
      ∃ t, exec (.encSupply n mv ma) s = .next t ∧ nth t.pos.encOut (n - 1) false = false ∧ t.regs = s.regs ∧ SameMemory s t)))

/-- O10. Quadrature inputs, emulators and SSI channels. On an enabled quadrature channel, a step of the cycle on a channel that is
not lost moves the count by one in its sense, turned by INVERT, and a change of both levels at once counts as illegal and raises
QUAD_ILLEGAL; the levels are shown. The model's own: the count goes up when A leads B (log entry 16, DEDUCED). An enabled
emulator with edges pending emits one: one fewer is pending and the edge count moves by one in the same direction. On the module
that drives, the first period of an enabled SSI1 whose frame fits begins a frame with its latch time. A frame that ends without
an error and without a jump is accepted: the shaft position is shown and the bad run is 0; one with an error is rejected with
its reason and raises SSI_ERR. A run of FAIL_N rejected frames latches SSI_LOST, 64 accepted ones clear it. A difference above
SLIP_LIMIT for SLIP_TIME latches SLIP while the machine source serves. Of an SSI2 frame lane B's decoder and the front end's
take a good one each by its own format; and a listener that sees no frame of a channel for two periods rejects it with reason 5,
at SSI2 in lane B and, where the front end has it enabled, there too. Commands that complete by it: quadEdge, emulatorEdge,
ssiFrameStart, ssiFrameEnd, ssiLost, ssiRestored, slip, laneBSsiFrame, ssiNoFrame. (R112, R113, R116, R118, R119, R127, R132,
R356) -/
def Obligations.QuadratureEmulatorsAndSsiComplete : Prop :=
  ((∀ (s : Machine.State) (q : Nat) (a b z : Bool), q < 6 → s.r (Reg.PFE_QD_CFG_ENABLE q) = 1 →
    let emus := [Reg.PFE_EMU_STATUS_MAX_BACKLOG 0, Reg.PFE_EMU_STATUS_MAX_BACKLOG 1, Reg.PFE_EMU_STATUS_OVERFLOW 0, Reg.PFE_EMU_STATUS_OVERFLOW 1]
    let d := (quadPlace a b + 4 - quadPlace (bitAt (s.r (Reg.PFE_QD_STATUS_LEVELS q)) 0) (bitAt (s.r (Reg.PFE_QD_STATUS_LEVELS q)) 1)) % 4
    ((s.qdChan q).lost = false → (d = 1 ∨ d = 3) →
      let step : Int := if (d = 1) = (s.r (Reg.PFE_QD_CFG_INVERT q) = 0) then 1 else -1
      ∃ t, exec (.quadEdge q a b z) s = .next t ∧ t.qdCount q = wrap48 (s.qdCount q + step) ∧
        t.r (Reg.PFE_QD_COUNT q) = ofI (Reg.PFE_QD_COUNT q).width (wrap48 (s.qdCount q + step)) ∧
        t.r (Reg.PFE_QD_STATUS_LEVELS q) = b2n a + 2 * b2n b + 4 * b2n z ∧
        RegsBut (emus ++ [Reg.PFE_QD_STATUS_LEVELS q, Reg.PFE_QD_COUNT q]) s t ∧ SameMemory s t) ∧
    (d = 2 → ∃ t, exec (.quadEdge q a b z) s = .next t ∧ t.qdCount q = s.qdCount q ∧
        t.r (Reg.PFE_QD_STATUS_ILLEGAL q) = 1 ∧ Pending Evt.QUAD_ILLEGAL t ∧
        RegsBut (emus ++ [Reg.PFE_QD_STATUS_LEVELS q, Reg.PFE_QD_STATUS_ILLEGAL q, Reg.PFE_QD_STATUS_ILL_COUNT q]) s t ∧ SameMemory s t)) ∧
  (∀ (s : Machine.State) (i : Nat), s.r (Reg.PFE_EMU_CFG_ENABLE i) = 1 → (nth s.pos.emu i {}).pending ≠ 0 →
    ∃ t, exec (.emulatorEdge i) s = .next t ∧
      (nth t.pos.emu i {}).pending = (nth s.pos.emu i {}).pending - sgn (nth s.pos.emu i {}).pending ∧
      (nth t.pos.emu i {}).edges = (nth s.pos.emu i {}).edges + sgn (nth s.pos.emu i {}).pending ∧
      (nth t.pos.emu i {}).lastEdge = some s.optime ∧ t.regs = s.regs ∧ SameMemory s t)) ∧
  ((∀ (s : Machine.State), s.active = true → s.r (Reg.PFE_SSI_CFG_ENABLE 0) = 1 → (s.ssiChan 0).lastStart = none → ssiFits s 0 = true →
    ∃ t, exec .ssiFrameStart s = .next t ∧ (t.ssiChan 0).latch = some s.optime ∧ (t.ssiChan 0).lastStart = some s.optime ∧
      t.regs = s.regs ∧ SameMemory s t) ∧
  (∀ (s : Machine.State) (bits : List Bool) (idleLow : Bool) (t0 : Time), (s.ssiChan 0).latch = some t0 →
    (ssiFrameError (s.ssiFormat 0) bits idleLow = 0 → (s.ssiChan 0).fresh = true →
      ∃ t, exec (.ssiFrameEnd bits idleLow) s = .next t ∧ (t.ssiChan 0).latch = none ∧ t.r (Reg.PFE_SSI_STATUS_CONSEC_BAD 0) = 0 ∧
        (t.ssiChan 0).accepted = [(ssiPosition (s.ssiFormat 0) bits, t0)] ∧
        t.r Reg.PFE_SHAFT_POS = ofI Reg.PFE_SHAFT_POS.width (ssiPosition (s.ssiFormat 0) bits) ∧ SameMemory s t) ∧
    (ssiFrameError (s.ssiFormat 0) bits idleLow ≠ 0 →
      ∃ t, exec (.ssiFrameEnd bits idleLow) s = .next t ∧ (t.ssiChan 0).latch = none ∧
        t.r (Reg.PFE_SSI_STATUS_LAST_ERR 0) = ssiFrameError (s.ssiFormat 0) bits idleLow ∧
        (t.ssiChan 0).accepted = (s.ssiChan 0).accepted ∧ Pending Evt.SSI_ERR t ∧ SameMemory s t)) ∧
  (∀ (s : Machine.State) (c : Nat), s.r (Reg.PFE_SSI_STATUS_LOST c) = 0 → 0 < s.r (Reg.PFE_SSI_STATUS_CONSEC_BAD c) →
    s.r (Reg.PFE_SSI_CHECK_FAIL_N c) ≤ s.r (Reg.PFE_SSI_STATUS_CONSEC_BAD c) →
    ∃ t, exec (.ssiLost c) s = .next t ∧ t.r (Reg.PFE_SSI_STATUS_LOST c) = 1 ∧ Pending Evt.SSI_LOST t ∧
      RegsBut [Reg.PFE_SSI_STATUS_LOST c] s t ∧ SameMemory s t) ∧
  (∀ (s : Machine.State) (c : Nat), s.r (Reg.PFE_SSI_STATUS_LOST c) = 1 → 64 ≤ (s.ssiChan c).goodRun →
    ∃ t, exec (.ssiRestored c) s = .next t ∧ t.r (Reg.PFE_SSI_STATUS_LOST c) = 0 ∧ Pending Evt.SSI_RESTORED t ∧
      RegsBut [Reg.PFE_SSI_STATUS_LOST c] s t ∧ SameMemory s t) ∧
  (∀ (s : Machine.State) (t0 : Time), s.pos.slipSince = some t0 → s.r Reg.PFE_SLIP_CFG_SLIP_TIME * 1000 ≤ s.since t0 → s.r Reg.PFE_STATUS_SLIP = 0 → s.pos.sample.source = 0 →
    ∃ t, exec .slip s = .next t ∧ t.r Reg.PFE_STATUS_SLIP = 1 ∧ Pending Evt.SLIP t ∧ RegsBut [Reg.PFE_STATUS_SLIP] s t ∧ SameMemory s t) ∧
  (∀ (s : Machine.State) (bits : List Bool) (idleLow : Bool) (age : Nat), ssiFrameError (s.laneTable 1).ssiFormat bits idleLow = 0 →
    (s.lane 1).ssiFresh = true →
    ∃ t, exec (.laneBSsiFrame bits idleLow age) s = .next t ∧ (t.lane 1).ssiBad = 0 ∧
      (t.lane 1).ssi = [(ssiPosition (s.laneTable 1).ssiFormat bits, s.optime - BitVec.ofNat 48 age)] ∧
      (ssiFrameError (s.ssiFormat 1) bits idleLow = 0 → (s.ssiChan 1).fresh = true → t.r (Reg.PFE_SSI_STATUS_CONSEC_BAD 1) = 0 ∧
        (t.ssiChan 1).accepted = [(ssiPosition (s.ssiFormat 1) bits, s.optime - BitVec.ofNat 48 age)]) ∧
      RegsBut [Reg.PFE_SSI_RAW 1, Reg.PFE_SSI_POS 1, Reg.PFE_SSI_STATUS_CONSEC_BAD 1, Reg.PFE_SSI_STATUS_LAST_ERR 1,
        Reg.PFE_SSI_STATUS_BAD_COUNT 1] s t ∧ SameMemory s t) ∧
  (∀ (s : Machine.State), s.active = false →
    (s.r (Reg.PFE_SSI_CFG_ENABLE 0) = 1 → s.controlReady = true →
      2 * s.r (Reg.PFE_SSI_CFG_PERIOD_US 0) ≤ s.sinceOrReady (s.ssiChan 0).lastStart →
      ∃ t, exec (.ssiNoFrame false) s = .next t ∧ t.r (Reg.PFE_SSI_STATUS_LAST_ERR 0) = 5 ∧ Pending Evt.SSI_ERR t ∧ SameMemory s t) ∧
    (2 * (s.laneTable 1).ssiPeriod ≤ s.sinceOrReady (s.lane 1).ssiAt →
      ∃ t, exec (.ssiNoFrame true) s = .next t ∧ (t.lane 1).ssiBad = (s.lane 1).ssiBad + 1 ∧ SameMemory s t ∧
        (s.r (Reg.PFE_SSI_CFG_ENABLE 1) = 0 → t.regs = s.regs) ∧
        (s.r (Reg.PFE_SSI_CFG_ENABLE 1) = 1 → s.controlReady = true →
          t.r (Reg.PFE_SSI_STATUS_LAST_ERR 1) = 5 ∧ Pending Evt.SSI_ERR t))))

/-- O11. Reticle programs, posts and captures. A graph's commands, while the graphs are released and the module is not Parked: a
load makes the set's staging half invalid at once and takes the program at the address of the table store. When its last entry
is written the half is valid, or with an uncorrectable error invalid with RET_STAGE_FAIL. A reaction's program whose trip has
begun goes live at the end of its load. A cancel makes the half invalid. A swap of an invalid half changes no set and raises
RET_SWAP_REFUSED; a swap of a valid one whose program arms no mark makes its entries the live half, its identifier the
program's, and the staging half invalid; on a set whose trip or profile a reaction has abandoned a swap changes nothing. The
model's own: a reaction's program goes live at the end of its load (log entry 42, DEDUCED). Programs that arm a mark are the
subject of MarksArmAndFire. The head of the post queue enters port 0 while its FIFO has fewer than 16 entries, and waits while
it is full. A read of RET_CAP_POS returns the selected capture's position, latches its speed, time and information, and clears
OVERWRITTEN and the unread mark. RET_STAT_CLEAR with bit 0 set clears the exception counts and the post peak and nothing else.
Commands that complete by it: reticleLoad, reticleLoadDone, reticleCancel, reticleSwap, postDelivery, retCapPosRead,
retStatClear. (R27, R139, R140, R141, R150, R151) -/
def Obligations.ReticleProgramsPostsAndCapturesComplete : Prop :=
  ((∀ (s : Machine.State) (k addr : Nat), k < 5 → s.released = true → s.parked = false →
    ∃ t, exec (.reticleLoad k addr) s = .next t ∧ (t.set k).valid = false ∧ (t.set k).loading = true ∧ (t.set k).live = (s.set k).live ∧
      (t.set k).staging = parseProgram (fun o => s.tableRd (addr + o)) 0 ∧ t.regs = s.regs ∧ SameMemory s t) ∧
  (∀ (s : Machine.State) (k : Nat), k < 5 → (s.set k).loading = true → s.img.swapDue = false →
    ((s.set k).swapDue = false →
      ∃ t, exec (.reticleLoadDone k false) s = .next t ∧ (t.set k).valid = true ∧ (t.set k).loading = false ∧
        (t.set k).staging = (s.set k).staging ∧ t.regs = s.regs ∧ SameMemory s t) ∧
    ((s.set k).swapDue = true → (∀ i, i < setSize k → (nth (s.set k).staging.marks i {}).arm = false) →
      ∃ t, exec (.reticleLoadDone k false) s = .next t ∧ (t.set k).live = liveOf k (s.set k).staging ∧ (t.set k).valid = false ∧
        t.regs = s.regs ∧ SameMemory s t) ∧
    ∃ t, exec (.reticleLoadDone k true) s = .next t ∧ (t.set k).valid = false ∧ Pending Evt.RET_STAGE_FAIL t ∧ t.regs = s.regs ∧
      SameMemory s t) ∧
  (∀ (s : Machine.State) (k : Nat), k < 5 → s.released = true → s.parked = false → s.img.swapDue = false →
    ∃ t, exec (.reticleCancel k) s = .next t ∧ (t.set k).valid = false ∧ (t.set k).live = (s.set k).live ∧ t.regs = s.regs ∧ SameMemory s t) ∧
  (∀ (s : Machine.State) (k : Nat), k < 5 → s.released = true → s.parked = false →
    ((s.set k).barred = true → ∃ t, exec (.reticleSwap k) s = .next t ∧ t.ret = s.ret ∧ t.regs = s.regs ∧ SameMemory s t) ∧
    ((s.set k).barred = false → (s.set k).valid = false →
      ∃ t, exec (.reticleSwap k) s = .next t ∧ t.ret = s.ret ∧ Pending Evt.RET_SWAP_REFUSED t ∧ t.regs = s.regs ∧ SameMemory s t) ∧
    ((s.set k).barred = false → (s.set k).valid = true → (∀ i, i < setSize k → (nth (s.set k).staging.marks i {}).arm = false) →
      ∃ t, exec (.reticleSwap k) s = .next t ∧ (t.set k).live = liveOf k (s.set k).staging ∧ (t.set k).prog = (s.set k).staging.id ∧
        (t.set k).valid = false ∧ t.regs = s.regs ∧ SameMemory s t))) ∧
  ((∀ (s : Machine.State) (x : Post) (rest : List Post), s.ret.posts = x :: rest →
    ((nth s.dsp.ports 0 []).length < 16 →
      ∃ t, exec .postDelivery s = .next t ∧ t.ret.posts = rest ∧ nth t.dsp.ports 0 [] = nth s.dsp.ports 0 [] ++ [⟨x.counter, none⟩] ∧
        t.regs = s.regs ∧ SameMemory s t) ∧
    (16 ≤ (nth s.dsp.ports 0 []).length → ∃ t, exec .postDelivery s = .next t ∧ t.ret = s.ret ∧ t.dsp = s.dsp ∧ SameMemory s t)) ∧
  (∀ (s : Machine.State) (p : Path) (x : Capture), Served p s → nth s.ret.caps (s.r Reg.RET_CAP_SEL) {} = x →
    ∃ t, exec (.retCapPosRead p) s = .next t ∧ (t.path p).data = ofI 32 x.pos ∧
      (t.path p).shadow = wordsAt 0x500CC [ofI 32 x.speed, x.time, x.info] ∧
      nth t.ret.caps (s.r Reg.RET_CAP_SEL) {} = { x with overwritten := false, unread := false } ∧ t.regs = s.regs ∧ SameMemory s t) ∧
  (∀ (s : Machine.State) (v : Nat), Serving s → v % 2 = 1 →
    ∃ t, exec (.retStatClear v) s = .next t ∧ t.r Reg.RET_EXC_COUNT_WITHHELD = 0 ∧ t.r Reg.RET_EXC_COUNT_LATE = 0 ∧
      t.r Reg.RET_EXC_COUNT_CONFLICT = 0 ∧ t.r Reg.RET_EXC_COUNT_POST_LOST = 0 ∧ t.r Reg.RET_POST_PEAK = 0 ∧
      RegsBut [Reg.RET_EXC_COUNT_WITHHELD, Reg.RET_EXC_COUNT_LATE, Reg.RET_EXC_COUNT_CONFLICT, Reg.RET_EXC_COUNT_POST_LOST,
        Reg.RET_POST_PEAK] s t ∧ SameMemory s t))

/-- O12. Marks are armed, cross and fire once, and the conflicts of two are resolved. A swap whose program arms one mark of DIR up,
down or either: against the last comparable sample, a mark that already meets its condition is late, counted, and armed as late
or, with LATE_MODE withhold, disarmed with RET_LATE_WITHHELD; any other is armed, one of DIR either with its side; without a
comparable sample it is armed unchecked. At the delivery of a car sample with CONF below LOST and one mark armed, of DIR up or
down and not late: it stays armed while it does not cross; once it crosses it is disarmed, withheld with its count and
RET_WITHHELD where CONF is above its MIN_CONF, else fired: FIRED is set, the fire count rises, RET_LAST shows it, its post
enters the queue while there is room, and a CAPTURE writes the sample with slot, set and TAG, a DO commands its output, a
REQUEST that no reaction holds sets or clears its request, an EVAL that none holds is pending for the evaluator. A late mark
fires at that sample as late with RET_LATE_FIRE. Of two that fire with CAPTUREs to one register the one of lower PRIO, then of
lower slot, takes effect, and the other is counted and reported as a conflict. Commands that complete by it: reticleSwap,
sampleDelivery. (R138, R141, R142, R143, R145, R146, R147, R148, R150) -/
def Obligations.MarksArmAndFire : Prop :=
  (∀ (s : Machine.State) (k i : Nat) (m : Mark), k < 5 → i < setSize k → s.released = true → s.parked = false → (s.set k).barred = false →
    (s.set k).valid = true → nth (s.set k).staging.marks i {} = m → m.dir ≠ 0 →
    (∀ j, j < setSize k → (nth (s.set k).staging.marks j {}).arm = decide (j = i)) →
    ∃ t, exec (.reticleSwap k) s = .next t ∧ (∀ j, j < setSize k → j ≠ i → (t.slot k j).armed = false) ∧ (t.slot k i).mark = m ∧
      (s.comparable k = none → (t.slot k i).armed = true ∧ (t.slot k i).unchecked = true ∧ t.regs = s.regs) ∧
      (∀ y, s.comparable k = some y →
        (crosses m y = true → t.r Reg.RET_EXC_COUNT_LATE = satN Reg.RET_EXC_COUNT_LATE.width (s.r Reg.RET_EXC_COUNT_LATE + 1) ∧
          (m.withhold = true → (t.slot k i).armed = false ∧ Pending Evt.RET_LATE_WITHHELD t) ∧
          (m.withhold = false → (t.slot k i).armed = true ∧ (t.slot k i).late = true)) ∧
        (crosses m y = false → (t.slot k i).armed = true ∧ (t.slot k i).late = false ∧ (t.slot k i).unchecked = false ∧
          (m.dir = 3 → (t.slot k i).above = liesAbove m y) ∧ t.regs = s.regs)) ∧ SameMemory s t) ∧
  (∀ (s : Machine.State) (x : RawSample) (i : Nat) (m : Mark), s.pos.raw = some x → x.doors = false → i < 256 → (s.slot 0 i).armed = true →
    (s.slot 0 i).mark = m → (s.slot 0 i).unchecked = false → (∀ j, j < 256 → j ≠ i → (s.slot 0 j).armed = false) →
    ∃ t, exec .sampleDelivery s = .next t ∧ SameMemory s t ∧
      ((s.slot 0 i).late = false → m.dir = 1 ∨ m.dir = 2 → t.pos.sample.conf ≠ 3 →
        crosses m ⟨t.pos.sample.pos, decide (0 ≤ t.pos.sample.speed), decide (t.pos.sample.speed ≤ 0)⟩ = false →
        t.slot 0 i = s.slot 0 i ∧ t.r Reg.RET_FIRE_COUNT = s.r Reg.RET_FIRE_COUNT ∧ t.ret.posts = s.ret.posts ∧ t.ret.caps = s.ret.caps) ∧
      (t.pos.sample.conf ≠ 3 → (s.slot 0 i).late = true ∨ (m.dir ≠ 3 ∧
          crosses m ⟨t.pos.sample.pos, decide (0 ≤ t.pos.sample.speed), decide (t.pos.sample.speed ≤ 0)⟩ = true) →
        (m.minConf < t.pos.sample.conf → (t.slot 0 i).armed = false ∧ Pending Evt.RET_WITHHELD t ∧
          t.r Reg.RET_EXC_COUNT_WITHHELD = satN Reg.RET_EXC_COUNT_WITHHELD.width (s.r Reg.RET_EXC_COUNT_WITHHELD + 1) ∧
          t.r Reg.RET_FIRE_COUNT = s.r Reg.RET_FIRE_COUNT ∧ t.ret.posts = s.ret.posts ∧ t.ret.caps = s.ret.caps) ∧
        (t.pos.sample.conf ≤ m.minConf → m.kind ≠ 6 → m.kind ≠ 7 →
          (t.slot 0 i).armed = false ∧ (t.slot 0 i).fired = true ∧
          t.r Reg.RET_FIRE_COUNT = (s.r Reg.RET_FIRE_COUNT + 1) % 2 ^ Reg.RET_FIRE_COUNT.width ∧
          t.r Reg.RET_LAST_SLOT = i ∧ t.r Reg.RET_LAST_SET = 0 ∧ t.r Reg.RET_LAST_LATE = b2n (s.slot 0 i).late ∧
          ((s.slot 0 i).late = true → Pending Evt.RET_LATE_FIRE t) ∧
          (m.postEn = true → s.ret.posts.length < 512 → t.ret.posts = s.ret.posts ++ [⟨m.post % 4096⟩]) ∧
          (m.postEn = true → 512 ≤ s.ret.posts.length → Pending Evt.RET_POST_LOST t ∧ t.ret.posts = s.ret.posts) ∧
          (m.kind = 1 → 1 ≤ m.action % 32 → m.action % 32 ≤ 24 → bitAt t.fio.cmd (m.action % 32 - 1) = bitAt m.action 8) ∧
          (m.kind = 2 → 1 ≤ m.action % 16 → m.action % 16 ≤ 6 → s.trip.reqHeld = false → t.requested (m.action % 16) = bitAt m.action 8) ∧
          (m.kind = 3 → (s.chan 0).stopPend = none → (s.set 0).held = false → (t.chan 0).evalPend = some (m.action % 256)) ∧
          (m.kind = 8 → nth t.ret.caps (m.action % 8) {} =
            { pos := t.pos.sample.pos, speed := t.pos.sample.speed, time := t.pos.sample.time.toNat % 2 ^ 32, slot := i, set := 0,
              late := (s.slot 0 i).late,
              overwritten := (nth s.ret.caps (m.action % 8) {}).valid && (nth s.ret.caps (m.action % 8) {}).unread,
              valid := true, tag := m.tag, unread := true })))) ∧
  (∀ (s : Machine.State) (x : RawSample) (i j n : Nat) (a b : Mark), s.pos.raw = some x → x.doors = false → i < j → j < 256 →
    (∀ q, q < 256 → (s.slot 0 q).armed = (decide (q = i) || decide (q = j))) →
    (∀ q, (q = i ∨ q = j) → (s.slot 0 q).unchecked = false ∧ (s.slot 0 q).late = true) →
    (s.slot 0 i).mark = a → (s.slot 0 j).mark = b → a.kind = 8 → b.kind = 8 → a.action % 8 = n → b.action % 8 = n →
    ∃ t, exec .sampleDelivery s = .next t ∧ SameMemory s t ∧
      (t.pos.sample.conf ≠ 3 → t.pos.sample.conf ≤ a.minConf → t.pos.sample.conf ≤ b.minConf →
        (nth t.ret.caps n {}).slot = (if a.prio ≤ b.prio then i else j) ∧ (nth t.ret.caps n {}).valid = true ∧
        t.r Reg.RET_EXC_COUNT_CONFLICT = satN Reg.RET_EXC_COUNT_CONFLICT.width (s.r Reg.RET_EXC_COUNT_CONFLICT + 1) ∧
        Pending Evt.RET_CONFLICT t))

/-- O13. A step of the profile evaluator integrates the running segment. While the module is not Parked, the first step at a tick of
the car's or the deck's channel, with no command pending, in a TIME segment that is not at its end advances position, speed and
acceleration by one microsecond under the segment's jerk, each exact and then rounded toward zero to 32 fraction bits; at the
end of a TIME segment without a continuation, the next segment begins at time 0. A car segment of another end that has reached
its duration ends, and TRIP_LIMIT latches. LIMIT_N consecutive periods with a violation latch TRIP_LIMIT. Commands that complete
by it: evaluatorStep, segTimeout, tripLimit. (R159, R160, R163) -/
def Obligations.EvaluatorStepsComplete : Prop :=
  (∀ (s : Machine.State) (k : Nat) (c : Channel), (k = 0 ∨ k = 5) → s.parked = false → s.chan k = c → c.last ≠ some s.optime → c.running = true →
    c.timeout = false → c.evalPend = none → c.splicePend = none → c.stopPend = none → c.cur.ending = 0 →
    (c.tau + 1 ≠ c.cur.dur →
      ∃ t, exec (.evaluatorStep k) s = .next t ∧ (t.chan k).tau = c.tau + 1 ∧ (t.chan k).seg = c.seg ∧
        (t.chan k).p = divZ (6000000000000000000 * c.p + 6000000000000 * c.v + 3000000 * c.a + c.cur.j * one32) 6000000000000000000 ∧
        (t.chan k).v = divZ (2000000000000 * c.v + 2000000 * c.a + c.cur.j * one32) 2000000000000 ∧
        (t.chan k).a = divZ (1000000 * c.a + c.cur.j * one32) 1000000 ∧ SameMemory s t) ∧
    (c.tau + 1 = c.cur.dur → c.cont = none → (nth c.trip.segs (c.seg + 1) {}).expect = false →
      (nth c.trip.segs (c.seg + 1) {}).ending ≠ 4 →
      ∃ t, exec (.evaluatorStep k) s = .next t ∧ (t.chan k).tau = 0 ∧ (t.chan k).seg = c.seg + 1 ∧ (t.chan k).running = true ∧
        (t.chan k).p = c.integrate.p ∧ SameMemory s t)) ∧
  (∀ (s : Machine.State) (c : Channel), s.parked = false → s.chan 0 = c → c.running = true → c.timeout = true → c.cont = none →
    (nth c.trip.segs (c.seg + 1) {}).expect = false → (nth c.trip.segs (c.seg + 1) {}).ending ≠ 4 → s.r Reg.TRIP_STATUS_TRIP_LIMIT = 0 →
    ∃ t, exec (.segTimeout 0) s = .next t ∧ (t.chan 0).seg = c.seg + 1 ∧ t.r Reg.TRIP_STATUS_TRIP_LIMIT = 1 ∧
      Pending Evt.TRIP_LIMIT t ∧ SameMemory s t) ∧
  (∀ (s : Machine.State), s.parked = false → 0 < s.r Reg.TRIP_LIMIT_STATUS_LIMIT_N → s.r Reg.TRIP_LIMIT_STATUS_LIMIT_N ≤ s.trip.limitRun →
    s.r Reg.TRIP_STATUS_TRIP_LIMIT = 0 →
    ∃ t, exec .tripLimit s = .next t ∧ t.r Reg.TRIP_STATUS_TRIP_LIMIT = 1 ∧ Pending Evt.TRIP_LIMIT t ∧ SameMemory s t)

/-- O14. Trip starts and splices. While the module is not Parked: where a car stop, a class and an index word give a trip that CONF
permits and the separation check does not hold, the trip is the starting trip with its destination resolved, STATE is STARTING
and the target is that car stop; an index word of 0 raises TRIP_ATLAS_MISS. On the active module a starting trip that CONF still
permits begins once both lanes grant drive enable and report both brakes lifted: STATE is RUN and the car's channel runs it. A
standing car beyond RELEVEL_START, at a car stop that the deck permits, whose doors have not completed asks for DZ_BRIDGE and
RELEVEL. While the module is not Parked: on the active module, the item of an expired commit entry whose diversion is found
again shows its car stop, stages it and sets STATE 2; one whose diversion is gone is demoted: STATE 5 and STOP_DEMOTED. SPLICE
is issued once the staging half is valid, or the diversion has no program: the channel has it pending for its next step and the
commit entry is marked. On the active module, entry to SHAFT_ONLY during a trip outside its SPLICE_OK segment sets FINISH and
freezes the stop list. Commands that complete by it: tripStart, tripBegin, levellingStart, spliceItem, spliceCommand,
confChangeItem. (R165, R173, R174, R177, R179, R181, R182, R189) -/
def Obligations.TripStartsAndSplicesComplete : Prop :=
  ((∀ (s : Machine.State) (d load prof w : Nat), s.parked = false → s.startFor = some (d, load, prof, w) → d < 256 →
    (w ≠ 0 → s.confPermits false (s.tripAt (s.region s.fullAtlas) w) = true → s.startHeld (s.tripAt (s.region s.fullAtlas) w) = none →
      ∃ t, exec .tripStart s = .next t ∧ t.trip.starting = some (s.resolveDest (s.tripAt (s.region s.fullAtlas) w) d) ∧
        t.r Reg.TRIP_STATUS_STATE = 1 ∧ t.r Reg.TRIP_TARGET_TARGET = d ∧ t.r Reg.TRIP_TARGET_ORIGIN = s.r Reg.TRIP_STATUS_CAR_STOP % 256 ∧
        (∀ f, 1 ≤ f → f ≤ 3 → t.requested f = true) ∧ SameMemory s t) ∧
    (w = 0 → ∃ t, exec .tripStart s = .next t ∧ Pending Evt.TRIP_ATLAS_MISS t ∧ t.trip = s.trip ∧ t.regs = s.regs ∧ SameMemory s t)) ∧
  (∀ (s : Machine.State) (x : Trip), s.parked = false → s.trip.starting = some x → s.active = true → s.granted = true → s.brakes 1 = true → s.startPermitted = true →
    (nth x.segs 0 {}).expect = false → (nth x.segs 0 {}).ending ≠ 4 → x.retProg = 0 →
    ∃ t, exec .tripBegin s = .next t ∧ t.trip.starting = none ∧ t.r Reg.TRIP_STATUS_STATE = 2 ∧ (t.chan 0).running = true ∧
      (t.chan 0).trip = x ∧ (t.chan 0).seg = 0 ∧ (x.kind ≠ 3 → t.r Reg.TRIP_STATUS_CAR_STOP = 0) ∧ SameMemory s t) ∧
  (∀ (s : Machine.State), s.parked = false → s.r Reg.TRIP_STATUS_CAR_STOP ≠ 0 → s.canMove = true →
    s.deckPermits (s.r Reg.TRIP_STATUS_CAR_STOP) = true →
    s.trip.env.relevelStart < mag (s.pos.sample.pos - s.stopPos (s.r Reg.TRIP_STATUS_CAR_STOP)) → s.cycleComplete = false → s.bridged = false →
    ∃ t, exec .levellingStart s = .next t ∧ t.requested 4 = true ∧ t.requested 5 = true ∧ t.trip = s.trip ∧ t.regs = s.regs ∧
      SameMemory s t)) ∧
  ((∀ (s : Machine.State) (c : Commit), s.parked = false → s.trip.commit = some c → s.active = true → c.staged = false →
    s.commitListed c.tag = false → c.alt = false → c.stop < 256 →
    (∀ w x, s.diversion c.stop = some (some (w, x)) →
      ∃ t, exec (.spliceItem false) s = .next t ∧ t.r Reg.TRIP_SPLICE_STATE = 2 ∧ t.r Reg.TRIP_SPLICE_CAR_STOP = c.stop ∧
        t.trip.commit = some { c with trip := x, word := w, issued := false, staged := true } ∧ SameMemory s t) ∧
    (s.diversion c.stop = some none →
      ∃ t, exec (.spliceItem false) s = .next t ∧ t.r Reg.TRIP_SPLICE_STATE = 5 ∧ t.trip.commit = none ∧ Pending Evt.STOP_DEMOTED t ∧
        SameMemory s t)) ∧
  (∀ (s : Machine.State) (c : Commit), s.parked = false → s.trip.commit = some c → s.active = true → c.issued = false →
    c.staged = true → (c.trip.retProg = 0 ∨ (s.set 0).valid = true) →
    ∃ t, exec .spliceCommand s = .next t ∧ (t.chan 0).splicePend = some c.trip ∧ t.trip.commit = some { c with issued := true } ∧
      t.regs = s.regs ∧ SameMemory s t) ∧
  (∀ (s : Machine.State), s.parked = false → s.pos.sample.conf = 2 → s.trip.confSeen ≠ 2 → s.active = true → s.r Reg.TRIP_STATUS_STATE = 2 →
    s.inCruise = false → s.startPermitted = true →
    ∃ t, exec .confChangeItem s = .next t ∧ t.r Reg.TRIP_STATUS_FINISH = 1 ∧ t.trip.frozen = true ∧ t.trip.confSeen = 2 ∧
      RegsBut [Reg.TRIP_STATUS_FINISH] s t ∧ SameMemory s t))

/-- O15. Trip commands and separation. Outside IMAGE_FAIL, on the active module, with the confirm value and room in port 15:
OUT_OF_SERVICE at a standing car in service empties the stop list, records cause 2, sets STATE 5 and raises OUT_OF_SERVICE;
RETURN that nothing refuses clears TRIP_LIMIT and the causes and brings STATE 5 to 0, and one that is refused raises
TRIP_CMD_REFUSED; RESCUE of an idle car away from every car stop, with a rescue trip that CONF and the deck permit and
separation does not hold, starts it. A command that meets a full port 15 is refused, counted lost and changes nothing else; one
given in Parked is held by the port until the exit. 1,500 microseconds without an accepted frame of a named neighbour are
reported once: NBR_TIMEOUT, the neighbour's state 3 and the timeout counted. A start that only the separation check holds sets
WAIT, and the first such moment raises SEP_WAIT; with none held WAIT is clear. On the active module, once every named neighbour
has passed for SEP_CLEAR_MS with its frames accepted, the separation causes clear; a car standing at a car stop needs no rescue
trip. Commands that complete by it: tripCmdOutOfService, tripCmdReturn, tripCmdRescue, neighbourTimeout, sepWait,
separationClear. (R81, R180, R188, R189, R190, R191, R328) -/
def Obligations.TripCommandsAndSeparationComplete : Prop :=
  ((∀ (s : Machine.State), Serving s → s.parked = false → (nth s.dsp.ports 15 []).length < 16 → s.active = true → (s.chan 0).moving = false → s.r Reg.TRIP_OOS_CAUSES = 0 →
    ∃ t, exec (.tripCmdOutOfService 0x7E19) s = .next t ∧ bitAt (t.r Reg.TRIP_OOS_CAUSES) 2 = true ∧ t.r Reg.TRIP_OOS_LAST = 2 ∧
      t.r Reg.TRIP_STATUS_STATE = 5 ∧ t.trip.stops = [] ∧ Pending Evt.OUT_OF_SERVICE t ∧ SameMemory s t) ∧
  (∀ (s : Machine.State), Serving s → s.parked = false → (nth s.dsp.ports 15 []).length < 16 → s.active = true →
    (s.returnRefused = false → s.r Reg.TRIP_STATUS_STATE = 5 →
      ∃ t, exec (.tripCmdReturn 0x7E19) s = .next t ∧ t.r Reg.TRIP_OOS_CAUSES = 0 ∧ t.r Reg.TRIP_STATUS_TRIP_LIMIT = 0 ∧
        t.r Reg.TRIP_STATUS_STATE = 0 ∧ SameMemory s t) ∧
    (s.returnRefused = true → ∃ t, exec (.tripCmdReturn 0x7E19) s = .next t ∧ Pending Evt.TRIP_CMD_REFUSED t ∧ t.regs = s.regs ∧
      SameMemory s t)) ∧
  (∀ (s : Machine.State) (d w dist : Nat) (x : Trip), Serving s → s.parked = false → s.active = true → (nth s.dsp.ports 15 []).length < 16 → s.r Reg.TRIP_STATUS_STATE = 0 → s.stopHere = 0 →
    s.rescue none = (d, some (w, x), dist) → w ≠ 0 → s.rescuePermitted true d x = true → s.startHeld x = none →
    ∃ t, exec (.tripCmdRescue 0 0x7E19) s = .next t ∧ t.trip.starting = some (s.resolveDest x d) ∧ t.r Reg.TRIP_STATUS_STATE = 1 ∧
      SameMemory s t) ∧
  (∀ (s : Machine.State), Serving s → 16 ≤ (nth s.dsp.ports 15 []).length →
    ∃ t, exec (.tripCmdReturn 0x7E19) s = .next t ∧ Pending Evt.TRIP_CMD_REFUSED t ∧ t.trip = s.trip ∧
      t.r Reg.DSP_BP_COUNT_DOORBELL_LOST = satN Reg.DSP_BP_COUNT_DOORBELL_LOST.width (s.r Reg.DSP_BP_COUNT_DOORBELL_LOST + 1) ∧
      RegsBut [Reg.DSP_BP_COUNT_DOORBELL_LOST] s t ∧ SameMemory s t) ∧
  (∀ (s : Machine.State), Serving s → s.parked = true → s.active = true → (nth s.dsp.ports 15 []).length < 16 →
    ∃ t, exec (.tripCmdOutOfService 0x7E19) s = .next t ∧ t.trip.cmdsHeld = s.trip.cmdsHeld ++ [(1, 0)] ∧ t.trip.stops = s.trip.stops ∧
      t.regs = s.regs ∧ SameMemory s t)) ∧
  ((∀ (s : Machine.State) (below : Bool), s.nbrAddr (b2n below) ≠ 0 → s.controlReady = true → s.nbrLate (b2n below) = true →
    (s.nbr (b2n below)).timedOut = false →
    ∃ t, exec (.neighbourTimeout below) s = .next t ∧ (t.nbr (b2n below)).timedOut = true ∧ t.r (nbrStateField (b2n below)) = 3 ∧
      t.r Reg.NET_NBR_COUNT_TIMEOUTS = satN Reg.NET_NBR_COUNT_TIMEOUTS.width (s.r Reg.NET_NBR_COUNT_TIMEOUTS + 1) ∧
      Pending Evt.NBR_TIMEOUT t ∧ SameMemory s t) ∧
  (∀ (s : Machine.State) (d load prof w i : Nat), s.startFor = some (d, load, prof, w) → w ≠ 0 →
    s.confPermits false (s.tripAt (s.region s.fullAtlas) w) = true → s.startHeld (s.tripAt (s.region s.fullAtlas) w) = some i →
    s.trip.waitAt = none →
    ∃ t, exec .sepWait s = .next t ∧ t.r Reg.TRIP_SEP_STATUS_WAIT = 1 ∧ t.trip.waitAt = some s.optime ∧ Pending Evt.SEP_WAIT t ∧
      RegsBut [Reg.TRIP_SEP_STATUS_WAIT] s t ∧ SameMemory s t) ∧
  (∀ (s : Machine.State), s.waitingOn = none → ∃ t, exec .sepWait s = .next t ∧ t.r Reg.TRIP_SEP_STATUS_WAIT = 0 ∧ t.trip.waitAt = none ∧
    RegsBut [Reg.TRIP_SEP_STATUS_WAIT] s t ∧ SameMemory s t) ∧
  (∀ (s : Machine.State), s.parked = false → s.sepCause = true → s.sepClear = true → s.active = true → s.r Reg.TRIP_STATUS_CAR_STOP ≠ 0 →
    ∃ t, exec .separationClear s = .next t ∧ bitAt (t.r Reg.TRIP_STATUS_STOP_CAUSE) 0 = false ∧
      bitAt (t.r Reg.TRIP_STATUS_STOP_CAUSE) 1 = false ∧ t.trip.starting = s.trip.starting ∧ SameMemory s t))

/-- O16. The comparison of the gap at an accepted NEIGHBOUR frame. At an accepted frame of a named neighbour the gap is formed of
its position and the last delivered sample and shown, and SEP_HARD stands on the lines to both lanes exactly while the gap is
below G_HARD. A frame with CONF LOST fails with state 3 and SEP_TIMEOUT when new; a gap below G_HARD has state 2 and, when new,
SEP_HARD and its count; one below G_REQ + SEP_MARGIN has state 1 and, when new, SEP_STOP; each failure adds its cause on the
active module, where a moving car that is not already stopping takes the controlled stop of its direction, bin and load class
for its next step, its own program's marks alone staying armed. A gap that passes has state 0 and starts nothing. Commands that
complete by it: neighbourFrame. (R184, R186, R187, R188) -/
def Obligations.SeparationComparisonsComplete : Prop :=
  (∀ (s : Machine.State) (p i g hard req : Nat) (f : List Byte) (gap : Int), Passed Kind.neighbour p f s → s.nbrOf (parseRh f).src = some i →
    (parseRh f).origin = 0 → (parseRh f).active = true → s.controlReady = true → s.nbrStale (parseRh f) = false →
    (s.pathSt (parseRh f)).pending = false → (s.pathSt (parseRh f)).path < 4 → (parseRh f).newer (s.pathSt (parseRh f)).last = true →
    gap = s.gapTo i (leAtI (parseRh f).payload 0 4) → g = leAt (parseRh f).payload 24 1 % 4 →
    s.sepEntry i (signedBin s.bins s.pos.sample.speed) (signedBin s.bins (leAtI (parseRh f).payload 4 4)) = (req, hard) →
    ∃ t, exec (.neighbourFrame p f) s = .next t ∧
      (i = 0 → t.r Reg.TRIP_SEP_GAP_UP = ofI Reg.TRIP_SEP_GAP_UP.width gap) ∧
      (i ≠ 0 → t.r Reg.TRIP_SEP_GAP_DOWN = ofI Reg.TRIP_SEP_GAP_DOWN.width gap) ∧
      (∀ l, l < 2 → (nth (t.lane l).nbrs i {}).hard = decide (gap < (hard : Int))) ∧
      (g = 3 → t.r (nbrStateField i) = 3 ∧ (s.r (nbrStateField i) ≠ 3 → Pending Evt.SEP_TIMEOUT t) ∧
        (s.active = true → bitAt (t.r Reg.TRIP_STATUS_STOP_CAUSE) 1 = true)) ∧
      (g ≠ 3 → gap < (hard : Int) → t.r (nbrStateField i) = 2 ∧
        (s.r (nbrStateField i) ≠ 2 → Pending Evt.SEP_HARD t ∧
          t.r Reg.TRIP_SEP_COUNT_HARD = satN Reg.TRIP_SEP_COUNT_HARD.width (s.r Reg.TRIP_SEP_COUNT_HARD + 1))) ∧
      (g ≠ 3 → (hard : Int) ≤ gap → gap < ((req + s.trip.env.sepMargin : Nat) : Int) → t.r (nbrStateField i) = 1 ∧
        (s.r (nbrStateField i) ≠ 1 → Pending Evt.SEP_STOP t)) ∧
      (g ≠ 3 → gap < (hard : Int) ∨ gap < ((req + s.trip.env.sepMargin : Nat) : Int) → s.active = true →
        bitAt (t.r Reg.TRIP_STATUS_STOP_CAUSE) 0 = true) ∧
      ((g = 3 ∨ gap < (hard : Int) ∨ gap < ((req + s.trip.env.sepMargin : Nat) : Int)) → s.active = true → (s.chan 0).moving = true →
        (s.chan 0).trip.kind ≠ 4 → (s.chan 0).stopPend = none →
        (t.chan 0).stopPend = some s.presentStop ∧ (t.chan 0).evalPend = none ∧ (t.chan 0).splicePend = none ∧
          ∀ n, n < 256 → (s.slot 0 n).mark.keep = false → (t.slot 0 n).armed = false) ∧
      (g ≠ 3 → (hard : Int) ≤ gap → ((req + s.trip.env.sepMargin : Nat) : Int) ≤ gap → t.r (nbrStateField i) = 0 ∧
        t.r Reg.TRIP_STATUS_STOP_CAUSE = s.r Reg.TRIP_STATUS_STOP_CAUSE ∧ t.chan 0 = s.chan 0) ∧
      SameMemory s t)

/-- O17. Loop periods, drive-link responses and loop faults. On a single module that is not Parked, the car period that begins at
this tick and has not run takes its index, judges the limits of the period, and, with no mode change due and no spare to check,
runs the car's cascade on the present reference and sample: its output and position error are shown. A door period runs the
operator's cascade in the same way on the operator's position and speed. A following-error timer that has run for FE_TIME
latches FOLLOW_ERR of a loop that had none: of the car, of the deck, or of an operator without a running profile. An
uncorrectable error in an engine that serves a loop, with a spare free, fences the engine, counts the substitution and raises
LOOP_SUBSTITUTED; the loop's next period repeats its output. Outside IMAGE_FAIL a CLEAR with its confirm value clears the car's
FOLLOW_ERR where the conditions hold and is refused where they do not. PEAK_CLEAR clears the following-error peak of a loop. A
response that a command of the enabled node 1 awaits, with sync, length, CRC, node and sequence right and no FAULT, outside the
hold of a brake test, is shown in the node's registers and its bad run is 0. Any other is counted bad and raises DRIVELINK_ERR,
as a response that does not begin does. A bad run of DL_FAIL_N latches DRIVELINK_LOST. Commands that complete by it:
carLoopPeriod, doorLoopPeriod, followErr, loopEngineUncorr, loopCmdClear, loopCmdPeakClear, drivelinkResponse,
drivelinkResponseMissing, drivelinkLost. (R194, R195, R196, R199, R202, R203, R205, R206, R207, R209, R210, R224) -/
def Obligations.LoopPeriodsAndFaultsComplete : Prop :=
  ((∀ (s : Machine.State) (m dt : Nat) (mm sp : Bool), s.parked = false → s.paired = false → s.pwr.parkDue = false → s.carPeriod = some dt →
    (s.eng 0).lastAt ≠ some s.optime → s.loopUsed 0 = true → s.loopLost 0 = false → s.spares = [] → (s.eng 0).replace = false →
    s.granted = false → s.brakes 0 = false → s.loop.grantSeen = false → m = (s.eng 0).modePend.getD (s.r (Reg.LOOP_CFG_MODE 0)) →
    ∃ t, exec (.carLoopPeriod mm sp) s = .next t ∧ t.mir.k = s.periodIndex ∧ t.trip.limitNow = 0 ∧ (t.eng 0).lastAt = some s.optime ∧
      (t.eng 0).modePend = none ∧
      t.r (Reg.LOOP_OUTPUT 0) = ofI (Reg.LOOP_OUTPUT 0).width (cascade s 0 m (carIn s dt) (enterMode (s.r (Reg.LOOP_CFG_MODE 0)) m
        (carIn s dt).fill (s.iLim 0) { s.eng 0 with i := (s.eng 0).i + (s.eng 0).drift, drift := 0 })).u ∧
      t.r (Reg.LOOP_ERR_POS 0) = ofI (Reg.LOOP_ERR_POS 0).width (cascade s 0 m (carIn s dt) (enterMode (s.r (Reg.LOOP_CFG_MODE 0)) m
        (carIn s dt).fill (s.iLim 0) { s.eng 0 with i := (s.eng 0).i + (s.eng 0).drift, drift := 0 })).ep ∧ SameMemory s t) ∧
  (∀ (s : Machine.State) (d m : Nat) (p : PeriodIn) (mm sp : Bool), 1 ≤ d → d ≤ 4 → s.parked = false → s.doorPeriod = true → s.loopUsed d = true →
    s.loopLost d = false → (s.eng d).lastAt ≠ some s.optime → s.spares = [] → (s.eng d).replace = false → s.runningProfile d = none →
    m = (s.eng d).modePend.getD (s.r (Reg.LOOP_CFG_MODE d)) →
    p = { pr := (s.chan d).refPos, vr := (s.chan d).refSpeed, ar := (s.chan d).refAccel, x := s.doorAt d, v := s.doorSpeed d, dt := 125,
          g := 32768, fill := (s.door d).holdForce, time := s.pos.sample.time } →
    ∃ t, exec (.doorLoopPeriod d mm sp) s = .next t ∧ (t.eng d).lastAt = some s.optime ∧ (t.eng d).modePend = none ∧
      t.r (Reg.LOOP_OUTPUT d) = ofI (Reg.LOOP_OUTPUT d).width (cascade s d m p (enterMode (s.r (Reg.LOOP_CFG_MODE d)) m p.fill (s.iLim d)
        { s.eng d with i := (s.eng d).i + (s.eng d).drift, drift := 0 })).u ∧
      t.r (Reg.LOOP_DOOR_SPEED (d - 1)) = ofI (Reg.LOOP_DOOR_SPEED (d - 1)).width (s.doorSpeed d) ∧ SameMemory s t)) ∧
  ((∀ (s : Machine.State) (n : Nat) (t0 : Time), n < 6 → (n = 0 ∨ n = 5 ∨ (s.door n).profile = none) → (s.eng n).feSince = some t0 →
    s.r (Reg.LOOP_STATE_FOLLOW_ERR n) = 0 → s.r (Reg.LOOP_FE_CFG_FE_TIME n) * 1000 ≤ s.since t0 →
    ∃ t, exec (.followErr n) s = .next t ∧ t.r (Reg.LOOP_STATE_FOLLOW_ERR n) = 1 ∧ Pending Evt.FOLLOW_ERR t ∧ SameMemory s t) ∧
  (∀ (s : Machine.State) (e n x : Nat) (l : List Nat), e < 7 →
    (List.range 6).find? (fun n => s.loopUsed n && s.engineOf n == e) = some n → s.spares = x :: l →
    ∃ t, exec (.loopEngineUncorr e) s = .next t ∧ bitAt (t.r Reg.LOOP_FENCED) e = true ∧ (t.eng n).replace = true ∧
      t.r Reg.LOOP_SUBST_COUNT_SUBST = satN Reg.LOOP_SUBST_COUNT_SUBST.width (s.r Reg.LOOP_SUBST_COUNT_SUBST + 1) ∧
      Pending Evt.LOOP_SUBSTITUTED t ∧ SameMemory s t) ∧
  (∀ (s : Machine.State), Serving s →
    (s.clearable 0 = true → ∃ t, exec (.loopCmdClear 0 0x4D27) s = .next t ∧ t.r (Reg.LOOP_STATE_FOLLOW_ERR 0) = 0 ∧
      (s.outNames 0 1 = true → t.nodeFault 1 = false) ∧ SameMemory s t) ∧
    (s.clearable 0 = false → ∃ t, exec (.loopCmdClear 0 0x4D27) s = .next t ∧ t.r Reg.LOOP_STATUS_CMD_REFUSED = 1 ∧
      RegsBut [Reg.LOOP_STATUS_CMD_REFUSED] s t ∧ SameMemory s t)) ∧
  (∀ (s : Machine.State) (n : Nat), Serving s → n < 6 →
    ∃ t, exec (.loopCmdPeakClear n 0x4D27) s = .next t ∧ t.r (Reg.LOOP_FE_PEAK n) = 0 ∧
      (1 ≤ n → n ≤ 4 → t.r (Reg.LOOP_DOOR_KE_PEAK (n - 1)) = 0) ∧
      RegsBut (if 1 ≤ n ∧ n ≤ 4 then [Reg.LOOP_FE_PEAK n, Reg.LOOP_DOOR_KE_PEAK (n - 1)] else [Reg.LOOP_FE_PEAK n]) s t ∧ SameMemory s t)) ∧
  ((∀ (s : Machine.State) (f : List Byte), (s.dlNode 1).waiting = true → s.nodeEn 1 = true →
    (dlJudge (s.dlNode 1).cmd f = 0 → bitAt (leAt f 3 1) 1 = false → s.saf.bt.phase ≠ 4 →
      ∃ t, exec (.drivelinkResponse 0 f) s = .next t ∧ (t.dlNode 1).waiting = false ∧ t.r Reg.LOOP_DL_STATUS_1_CONSEC_BAD = 0 ∧
        t.r Reg.LOOP_DL_STATUS_1_STATUS = leAt f 3 1 % 2 ^ Reg.LOOP_DL_STATUS_1_STATUS.width ∧
        t.r Reg.LOOP_DL_TORQUE_1 = leAt f 4 4 % 2 ^ 32 ∧
        RegsBut [Reg.LOOP_DL_STATUS_1_STATUS, Reg.LOOP_DL_STATUS_1_CONSEC_BAD, Reg.LOOP_DL_STATUS_1_TEMP, Reg.LOOP_DL_TORQUE_1,
          Reg.LOOP_DL_DCBUS_NODE1] s t ∧ SameMemory s t) ∧
    (dlJudge (s.dlNode 1).cmd f ≠ 0 →
      ∃ t, exec (.drivelinkResponse 0 f) s = .next t ∧ (t.dlNode 1).waiting = false ∧ (t.dlNode 1).good = 0 ∧
        t.r Reg.LOOP_DL_STATUS_1_CONSEC_BAD = satN Reg.LOOP_DL_STATUS_1_CONSEC_BAD.width (s.r Reg.LOOP_DL_STATUS_1_CONSEC_BAD + 1) ∧
        Pending Evt.DRIVELINK_ERR t ∧ RegsBut [Reg.LOOP_DL_STATUS_1_CONSEC_BAD, Reg.LOOP_DL_ERRORS_NODE1] s t ∧ SameMemory s t)) ∧
  (∀ (s : Machine.State), (s.dlNode 2).waiting = true → s.nodeEn 2 = true →
    ∃ t, exec (.drivelinkResponseMissing 1) s = .next t ∧ (t.dlNode 2).waiting = false ∧
      t.r Reg.LOOP_DL_STATUS_2_CONSEC_BAD = satN Reg.LOOP_DL_STATUS_2_CONSEC_BAD.width (s.r Reg.LOOP_DL_STATUS_2_CONSEC_BAD + 1) ∧
      Pending Evt.DRIVELINK_ERR t ∧ RegsBut [Reg.LOOP_DL_STATUS_2_CONSEC_BAD, Reg.LOOP_DL_ERRORS_NODE2] s t ∧ SameMemory s t) ∧
  (∀ (s : Machine.State), s.r Reg.LOOP_DL_CFG_DL_FAIL_N ≠ 0 → s.r Reg.LOOP_DL_CFG_DL_FAIL_N ≤ s.r Reg.LOOP_DL_STATUS_1_CONSEC_BAD →
    s.r Reg.LOOP_DL_STATUS_1_DRIVELINK_LOST = 0 →
    ∃ t, exec (.drivelinkLost 0) s = .next t ∧ t.r Reg.LOOP_DL_STATUS_1_DRIVELINK_LOST = 1 ∧ Pending Evt.DRIVELINK_LOST t ∧ SameMemory s t))

/-- O18. The commands and faults of a door operator, and the deck's move. While the graphs are released and the module is not
Parked, on the active module with no held starts: the start of a CLOSE on a homed operator without a fault and fewer than three
reversals is taken for the channel's next step; an OPEN while the deck is not in position is held and raises DECK_HOLD; a start
on a faulted operator is discarded. A held OPEN begins once the deck is in position, no brake runs its test and no detection has
selected a branch; a selected reversal without a program of its own begins, is counted and raises DOOR_REVERSAL. A stop, and
KE_N violations, end a profile that names no STOP with the loop OFF; the latter latch DOOR_FAULT. A pending deck move begins
where none runs. Commands that complete by it: doorStart, doorOpenRelease, doorReversal, doorStop, doorFault, deckMoveStart.
(R212, R217, R219, R220, R221, R223, R453) -/
def Obligations.DoorCommandsComplete : Prop :=
  (∀ (s : Machine.State) (d n : Nat) (p : Profile), 1 ≤ d → d ≤ 4 → s.released = true → s.parked = false → s.active = true →
    s.r Reg.MIR_STATUS_HOLD_STARTS = 0 →
    (s.door d).rank2 = false → s.profile? n = some p →
    (p.kind = 1 → s.doorFaulted d = false → s.doorHomed d = true → s.r (Reg.LOOP_DOOR_STATUS_REV_COUNT (d - 1)) < 3 →
      ∃ t, exec (.doorStart (d - 1) n) s = .next t ∧ (t.door d).startPend = some n ∧ (t.door d).held = none ∧ t.regs = s.regs ∧
        SameMemory s t) ∧
    (p.kind = 0 → s.doorFaulted d = false → s.doorHomed d = true → s.deckInPosition = false →
      ∃ t, exec (.doorStart (d - 1) n) s = .next t ∧ (t.door d).held = some n ∧ t.r (Reg.LOOP_DOOR_STATUS_DECK_HOLD (d - 1)) = 1 ∧
        Pending Evt.DECK_HOLD t ∧ SameMemory s t) ∧
    (s.doorFaulted d = true → ∃ t, exec (.doorStart (d - 1) n) s = .next t ∧ t.loop = s.loop ∧ Pending Evt.DOOR_CMD_DISCARDED t ∧
      t.regs = s.regs ∧ SameMemory s t)) ∧
  (∀ (s : Machine.State) (d n : Nat) (p : Profile), 1 ≤ d → d ≤ 4 → s.parked = false → s.profile? n = some p → p.retProg = 0 →
    (nth p.segs 0 {}).expect = false → (nth p.segs 0 {}).ending ≠ 4 →
    ((s.door d).held = some n → s.deckInPosition = true → s.saf.bt.brake = 0 → s.doorTaken d = false →
      ∃ t, exec (.doorOpenRelease (d - 1)) s = .next t ∧ (t.door d).profile = some n ∧ (t.door d).held = none ∧ (t.chan d).running = true ∧
        t.r (Reg.LOOP_DOOR_STATUS_STATE (d - 1)) = runState p.kind ∧ SameMemory s t) ∧
    (∀ i, (s.door d).revPend = some (n, i) →
      ∃ t, exec (.doorReversal (d - 1)) s = .next t ∧ (t.door d).profile = some n ∧ (t.door d).rank2 = true ∧ (t.door d).revPend = none ∧
        t.r (Reg.LOOP_DOOR_STATUS_REV_COUNT (d - 1)) = satN (Reg.LOOP_DOOR_STATUS_REV_COUNT (d - 1)).width
          (s.r (Reg.LOOP_DOOR_STATUS_REV_COUNT (d - 1)) + 1) ∧
        Pending Evt.DOOR_REVERSAL t ∧ SameMemory s t)) ∧
  (∀ (s : Machine.State) (d : Nat) (p : Profile), 1 ≤ d → d ≤ 4 → s.runningProfile d = some p → p.stop = none → p.kind ≠ 4 →
    (s.released = true → s.parked = false → s.active = true → (s.door d).rank2 = false →
      ∃ t, exec (.doorStop (d - 1)) s = .next t ∧ (t.door d).profile = none ∧ t.r (Reg.LOOP_DOOR_STATUS_STATE (d - 1)) = 7 ∧
        (t.eng d).modePend = some 0 ∧ RegsBut [Reg.LOOP_DOOR_STATUS_STATE (d - 1)] s t ∧ SameMemory s t) ∧
    (s.r (Reg.LOOP_DOOR_LIM_KE_N (d - 1)) ≠ 0 → s.r (Reg.LOOP_DOOR_LIM_KE_N (d - 1)) ≤ (s.door d).keRun → s.doorFaulted d = false →
      ∃ t, exec (.doorFault (d - 1)) s = .next t ∧ t.r (Reg.LOOP_DOOR_STATUS_DOOR_FAULT (d - 1)) = 1 ∧
        t.r (Reg.LOOP_DOOR_STATUS_CAUSE (d - 1)) = (s.door d).keKind % 2 ^ (Reg.LOOP_DOOR_STATUS_CAUSE (d - 1)).width ∧
        t.r (Reg.LOOP_DOOR_STATUS_STATE (d - 1)) = 7 ∧ (t.eng d).modePend = some 0 ∧ Pending Evt.DOOR_FAULT t ∧ SameMemory s t)) ∧
  (∀ (s : Machine.State) (i j n : Nat) (x : Nat × Nat) (p : Profile), s.parked = false → s.loop.deck.movePend = some j → s.r Reg.LOOP_DECK_STATUS_MOVING = 0 →
    s.loop.deck.dest = i → i ≠ j → i < 16 → j < 16 →
    s.loop.doors.head.moves.find? (fun x => x.1 == 16 * i + j) = some x → x.2 = n → s.profile? n = some p → p.kind = 6 →
    (nth p.segs 0 {}).expect = false → (nth p.segs 0 {}).ending ≠ 4 →
    ∃ t, exec .deckMoveStart s = .next t ∧ t.r Reg.LOOP_DECK_STATUS_FROM = i ∧ t.loop.deck.dest = j ∧ t.r Reg.LOOP_DECK_STATUS_MOVING = 1 ∧
      t.loop.deck.movePend = none ∧ t.loop.deck.profile = some n ∧ (t.chan 5).running = true ∧ SameMemory s t)

/-- O19. Lane periods, records, requests and samples. Once the image is loaded lane A begins its period 0, and each further one 250
microseconds after the start of the one before: the period counts up, its samples start anew, and it sends a record with its
LANE code, the period as SEQ and the samples of the period before. Lane B's first period takes the SEQ of the first record of
lane A that reaches it; each further one begins on the arrival of that period's record within its window, and at the end of the
window without one, which makes the record count as missing. A record whose CRC holds replaces the one in the lane's inbox; a
damaged one does not. A single module's requests at a lane are its own, and a request that the lanes' records show differing is
absent. A sample instant that is due takes the readbacks, a pole that the field side holds open as open, and adds one sample:
the filtered states of the lane's channels in use once every channel has taken its level (laneTake, channelStates). A fast-class
input in use that was ON, is not masked and reads OFF for its filter's run goes OFF at once, latches FAST_CUT and raises it if
neither lane knew. Commands that complete by it: laneAPeriodStart, laneBPeriodStart, prismRecord, laneRequestChange,
laneSampleInstant, fastInputDemand. (R230, R232, R233, R239, R241, R268, R350) -/
def Obligations.LaneRequestsSamplesAndRecordsComplete : Prop :=
  ((∀ (s : Machine.State) (volts : List Nat), (s.lane 0).started = false → s.img.loaded = true →
    ∃ t, exec (.laneAPeriodStart volts) s = .next t ∧ (t.lane 0).started = true ∧ (t.lane 0).period = 0 ∧ (t.lane 0).firstAt = s.optime ∧
      (t.lane 0).startAt = s.optime ∧ (t.lane 0).sent.lane = 0xA1 ∧ (t.lane 0).sent.seq = 0 ∧ SameMemory s t) ∧
  (∀ (s : Machine.State) (volts : List Nat), (s.lane 0).started = true → 250 ≤ s.since (s.lane 0).startAt →
    ∃ t, exec (.laneAPeriodStart volts) s = .next t ∧ (t.lane 0).period = ((s.lane 0).period + 1) % 2 ^ 32 ∧
      (t.lane 0).startAt = (s.lane 0).startAt + 250 ∧ (t.lane 0).samples = [] ∧ (t.lane 0).compared = false ∧ (t.lane 0).sent.lane = 0xA1 ∧
      (t.lane 0).sent.seq = ((s.lane 0).period + 1) % 2 ^ 32 % 65536 ∧
      (t.lane 0).sent.samples = (List.range 5).map (fun j => nth (s.lane 0).samples j 0) ∧
      RegsBut [Reg.SAF_TEST_STATUS_SEQUENCES, Reg.SAF_TEST_STATUS_RUNNING, Reg.SAF_TEST_STATUS_SLOT, Reg.SAF_PARAM_INFO_OVR_STATE,
        Reg.SAF_PARAM_INFO_REASON] s t ∧
      SameMemory s t) ∧
  (∀ (s : Machine.State) (bc : Nat) (volts : List Nat) (r : Rec), (s.lane 1).started = false → (s.lane 1).inbox = some r → r.lane = 0xA1 →
    ∃ t, exec (.laneBPeriodStart bc volts) s = .next t ∧ (t.lane 1).started = true ∧ (t.lane 1).period = r.seq ∧
      (t.lane 1).startAt = s.optime ∧ (t.lane 1).sent.lane = 0xB2 ∧ t.regs = s.regs ∧ SameMemory s t) ∧
  (∀ (s : Machine.State) (bc : Nat) (volts : List Nat), (s.lane 1).started = true →
    (∀ r, (s.lane 1).inbox = some r → r.seq = ((s.lane 1).period + 1) % 65536 → 24750 ≤ bc →
      ∃ t, exec (.laneBPeriodStart bc volts) s = .next t ∧ (t.lane 1).period = ((s.lane 1).period + 1) % 2 ^ 32 ∧
        (t.lane 1).startAt = s.optime ∧ (t.lane 1).sent.lane = 0xB2 ∧ (t.lane 1).noRecord = (s.lane 1).noRecord ∧ t.regs = s.regs ∧
        SameMemory s t) ∧
    ((s.lane 1).inbox = none → 25250 ≤ bc →
      ∃ t, exec (.laneBPeriodStart bc volts) s = .next t ∧ (t.lane 1).period = ((s.lane 1).period + 1) % 2 ^ 32 ∧
        (t.lane 1).noRecord = true ∧ t.regs = s.regs ∧ SameMemory s t)) ∧
  (∀ (s : Machine.State) (toB : Bool) (m : List Byte) (span : Nat),
    (recOk m = true → ∃ t, exec (.prismRecord toB m span) s = .next t ∧ (t.lane (b2n toB)).inbox = some (parseRec m) ∧ t.regs = s.regs ∧
      SameMemory s t) ∧
    (recOk m = false → ∃ t, exec (.prismRecord toB m span) s = .next t ∧ (t.lane (b2n toB)).inbox = (s.lane (b2n toB)).inbox ∧
      t.regs = s.regs ∧ SameMemory s t))) ∧
  (∀ (s : Machine.State) (laneB : Bool),
    (∀ bus : Nat, s.paired = false →
      ∃ t, exec (.laneRequestChange laneB bus) s = .next t ∧ (t.lane (b2n laneB)).reqSeen = s.saf.req % 64 ∧
        (t.lane (b2n laneB)).req = Nat.land (s.saf.req % 64) (Nat.xor (Nat.land (s.lane (b2n laneB)).reqAbsent 63) 63) ∧
        t.mir.bus = bus % 128 ∧ RegsBut [Reg.SAF_TEST_COUNT_ABORTED] s t ∧ SameMemory s t) ∧
    (∀ (levels : Nat) (runs volts : List Nat) (tps cur1 cur2 : Nat) (srst : Bool), (s.lane (b2n laneB)).started = true → (s.lane (b2n laneB)).samples.length < 5 →
      50 * (s.lane (b2n laneB)).samples.length ≤ s.since (s.lane (b2n laneB)).startAt →
      ∃ t, exec (.laneSampleInstant laneB levels runs volts tps cur1 cur2 srst) s = .next t ∧
        (t.lane (b2n laneB)).samples = (s.lane (b2n laneB)).samples ++
          [(laneTake (b2n laneB) ⟨levels, runs, volts, tps, cur1, cur2, srst⟩ s).channelStates (b2n laneB)] ∧
        (t.lane (b2n laneB)).rb = s.readPoles (b2n laneB) volts ∧ SameMemory s t) ∧
    (∀ i on run : Nat, i < 16 → s.fastPasses (b2n laneB) i run = true → (s.lane (b2n laneB)).started = true → s.siEn (b2n laneB) i = true → s.siFast (b2n laneB) i = true →
      bitAt (s.lane (b2n laneB)).chan i = true → s.masked (b2n laneB) i = false →
      ∃ t, exec (.fastInputDemand laneB i on run) s = .next t ∧ bitAt (t.lane (b2n laneB)).chan i = false ∧
        bitAt (t.lane (b2n laneB)).fastCut i = true ∧ t.faulted (b2n laneB) FaultBit.fastCut = true ∧
        (bitAt (s.lane 0).fastCut i = false → bitAt (s.lane 1).fastCut i = false → Pending Evt.FAST_CUT t) ∧ SameMemory s t))

/-- O20. A lane's comparison point takes or misses the other lane's record. 15 microseconds into its period a lane that has not
compared takes the record, if the record of that period is valid: it is the last one heard, no record is missing any more and,
where no reset is judged, each fault it shows is latched. A missing record raises PRISM_LATE; a second one in a row latches
PRISM_LINK. A SPAN outside its band for a fourth period latches LANE_CLOCK, positions too far apart for POS_N latch
LANE_POS_DIFF, and switches unequal beyond their tolerance set SWITCH_DISAGREE. Commands that complete by it: comparisonPoint,
prismLink, laneClock, lanePosDiff, switchDisagree. (R234, R235, R237, R258) -/
def Obligations.ComparisonPointsComplete : Prop :=
  ∀ (s : Machine.State) (laneB : Bool) (volts : List Nat), (s.lane (b2n laneB)).started = true → (s.lane (b2n laneB)).compared = false →
    15 ≤ s.since (s.lane (b2n laneB)).startAt →
    (∀ r, s.recValid (b2n laneB) = some r →
      ∃ t, exec (.comparisonPoint laneB volts) s = .next t ∧ (t.lane (b2n laneB)).compared = true ∧ (t.lane (b2n laneB)).other = r ∧
        (t.lane (b2n laneB)).heard = true ∧ (t.lane (b2n laneB)).miss = 0 ∧ (t.lane (b2n laneB)).inbox = none ∧
        (bitAt (s.lane (b2n laneB)).sent.req 7 = false → ∀ b, bitAt r.faults b = true → t.faulted (b2n laneB) b = true) ∧
        SameMemory s t) ∧
    (s.recValid (b2n laneB) = none → (s.lane (b2n laneB)).miss = 0 →
      ∃ t, exec (.comparisonPoint laneB volts) s = .next t ∧ (t.lane (b2n laneB)).miss = 1 ∧ (t.lane (b2n laneB)).compared = true ∧
        Pending Evt.PRISM_LATE t ∧ SameMemory s t) ∧
    (s.recValid (b2n laneB) = none → 1 ≤ (s.lane (b2n laneB)).miss → s.faulted (b2n laneB) FaultBit.prismLink = false →
      ∃ t, exec (.prismLink laneB volts) s = .next t ∧ t.faulted (b2n laneB) FaultBit.prismLink = true ∧
        (t.lane (b2n laneB)).compared = true ∧ SameMemory s t) ∧
    (∀ r, s.recValid (b2n laneB) = some r → bitAt (s.lane (b2n laneB)).sent.req 7 = false →
      ((if laneB then (s.lane 1).sent.span else r.span) < 24750 → 3 ≤ (s.lane (b2n laneB)).spanBad →
        s.faulted (b2n laneB) FaultBit.laneClock = false →
        ∃ t, exec (.laneClock laneB volts) s = .next t ∧ t.faulted (b2n laneB) FaultBit.laneClock = true ∧ SameMemory s t) ∧
      (bitAt (s.lane (b2n laneB)).sent.flags 4 = true → bitAt r.flags 4 = true →
        s.par (b2n laneB) Reg.SAF_POS_CFG_POS_LIMIT * 1000 < mag ((s.lane (b2n laneB)).sent.pos - r.pos) →
        s.par (b2n laneB) Reg.SAF_POS_CFG_POS_N ≤ (s.lane (b2n laneB)).posBad + 1 → s.faulted (b2n laneB) FaultBit.posDiff = false →
        ∃ t, exec (.lanePosDiff laneB volts) s = .next t ∧ t.faulted (b2n laneB) FaultBit.posDiff = true ∧ SameMemory s t) ∧
      (r.switch ≠ (s.lane (b2n laneB)).sent.switch → 160 ≤ (s.lane (b2n laneB)).switchBad → (s.lane (b2n laneB)).switchOff = false →
        ∃ t, exec (.switchDisagree laneB volts) s = .next t ∧ (t.lane (b2n laneB)).switchOff = true ∧ SameMemory s t))

/-- O21. Safety-output faults, test sequences and pulses. 200 microseconds after its last change, a pole in use, not held open by
its field side and not in a pulse, that reads conducting with its command open latches OUT_STUCK, and one that reads open with
its command closed latches OUT_OPEN, shown in OUT_INFO; a switch voltage of at most 2.0 V reads conducting, one of at least 6.0
V open, and between them the report before stands (R435). Outputs of a released module are not judged for OUT_STUCK (R365), and
PARTNER outputs, which the partner may hold open (R254), not for OUT_OPEN. A pole above its current limit is opened and latched
as OUT_OPEN. A TP whose readback has differed for 200 microseconds latches TP_FAULT. At a start of lane A's period that a
sequence may use, a due test begins with RUNNING, and without one the outputs to be rechecked get a recheck sequence. In its
slot a pole's pulse opens the pole and is under way, unless its slot start found it to be skipped, which is counted; a TP slot
of a test begins a pulse window. A pulse whose time has passed ends: a pole that was closed closes again exactly if the lane
allows it and SWITCH_CHANGED is not set (R258), and a pole, no output of a released module (R365), that did not open latches
OUT_STUCK and is counted as failed; a TP window ends after its pulse and settling. Commands that complete by it:
poleReadbackCheck, outputCurrentLimit, tpFault, testSequenceStart, recheckSequenceStart, testPulseStart, testPulseEnd. (R247,
R248, R249, R250, R251, R252, R254, R255, R258, R365, R434, R435) -/
def Obligations.OutputFaultsAndTestPulsesComplete : Prop :=
  ((∀ (s : Machine.State) (laneB : Bool) (o : Nat), o < 10 → (s.lane (b2n laneB)).started = true → s.outEn (b2n laneB) o = true →
    s.pulsed (b2n laneB) ≠ some o → 200 ≤ s.since (nth (s.lane (b2n laneB)).cmdAt o 0) → s.poleLive (b2n laneB) o = true →
    (∀ mv : Nat, mv ≤ 2000 → bitAt (s.lane (b2n laneB)).cmd o = false → s.releasedOut (b2n laneB) o = false →
      bitAt (s.lane (b2n laneB)).stuck o = false →
      ∃ t, exec (.poleReadbackCheck laneB o mv) s = .next t ∧ bitAt (t.lane (b2n laneB)).stuck o = true ∧
        t.faulted (b2n laneB) (16 + o) = true ∧ t.r (Reg.SAF_OUT_INFO_KIND o) = 1 ∧ Pending Evt.OUT_STUCK t ∧ SameMemory s t) ∧
    (∀ mv : Nat, 6000 ≤ mv → bitAt (s.lane (b2n laneB)).cmd o = true → s.parB (b2n laneB) (Reg.SAF_OUT_CFG_PARTNER o) = false →
      s.fs2Missing (b2n laneB) = false → bitAt (s.lane (b2n laneB)).opened o = false →
      ∃ t, exec (.poleReadbackCheck laneB o mv) s = .next t ∧ bitAt (t.lane (b2n laneB)).opened o = true ∧
        t.faulted (b2n laneB) (16 + o) = true ∧ t.r (Reg.SAF_OUT_INFO_KIND o) = 3 ∧ Pending Evt.OUT_OPEN t ∧ SameMemory s t) ∧
    (∀ mv : Nat, (if mv ≤ 2000 then true else if 6000 ≤ mv then false else bitAt (s.lane (b2n laneB)).rb o) = bitAt (s.lane (b2n laneB)).cmd o →
      ∃ t, exec (.poleReadbackCheck laneB o mv) s = .next t ∧ bitAt (t.lane (b2n laneB)).rb o = bitAt (s.lane (b2n laneB)).cmd o ∧
        t.regs = s.regs ∧ (t.lane (b2n laneB)).faults = (s.lane (b2n laneB)).faults ∧ SameMemory s t)) ∧
  (∀ (s : Machine.State) (laneB : Bool) (o : Nat), o < 10 → (s.lane (b2n laneB)).started = true → s.outEn (b2n laneB) o = true →
    bitAt (s.lane (b2n laneB)).cmd o = true → bitAt (s.lane (b2n laneB)).opened o = false →
    ∃ t, exec (.outputCurrentLimit laneB o) s = .next t ∧ bitAt (t.lane (b2n laneB)).cmd o = false ∧
      t.faulted (b2n laneB) (16 + o) = true ∧ Pending Evt.OUT_OPEN t ∧ SameMemory s t) ∧
  (∀ (s : Machine.State) (tp : Nat) (t0 : Time), tp < 4 → nth (s.lane (tp / 2)).tpBadAt (tp % 2) none = some t0 → 200 ≤ s.since t0 →
    ∃ t, exec (.tpFault tp) s = .next t ∧ t.faulted (tp / 2) (FaultBit.tp + tp) = true ∧ t.regs = s.regs ∧ SameMemory s t)) ∧
  ((∀ s : Machine.State, s.sequenceSlot = true →
    (s.testDue = true →
      ∃ t, exec .testSequenceStart s = .next t ∧ t.r Reg.SAF_TEST_STATUS_RUNNING = 1 ∧ t.r Reg.SAF_TEST_STATUS_SLOT = 0 ∧ t.saf.seq = 1 ∧
        t.saf.seqAt = (s.lane 0).startAt ∧ t.saf.slotAt = some 0 ∧ RegsBut [Reg.SAF_TEST_STATUS_RUNNING, Reg.SAF_TEST_STATUS_SLOT] s t ∧ SameMemory s t) ∧
    (s.testDue = false → s.saf.seqEnd = none → s.saf.recheckDue ≠ 0 →
      ∃ t, exec .recheckSequenceStart s = .next t ∧ t.r Reg.SAF_TEST_STATUS_RUNNING = 0 ∧ t.saf.seq = 2 ∧
        t.saf.recheckSet = s.saf.recheckDue ∧ RegsBut [Reg.SAF_TEST_STATUS_RUNNING, Reg.SAF_TEST_STATUS_SLOT] s t ∧ SameMemory s t)) ∧
  (∀ (s : Machine.State) (slot : Nat), s.saf.seq = 1 → s.saf.pulse = none → s.saf.slot ≤ slot → s.saf.slotAt = some slot →
    slot * 1000 + 100 ≤ s.since s.saf.seqAt → s.since s.saf.seqAt < slot * 1000 + 1000 →
    (slot < 20 → s.saf.slotSkip = false →
      ∃ t p, exec (.testPulseStart slot) s = .next t ∧ t.saf.pulse = some p ∧ p.slot = slot ∧ p.at_ = s.optime ∧ p.aborted = false ∧
        bitAt (t.lane (slot / 10)).cmd (slot % 10) = false ∧ t.saf.slot = slot + 1 ∧ t.regs = s.regs ∧
        SameMemory s t) ∧
    (slot < 20 → s.saf.slotSkip = true →
      ∃ t, exec (.testPulseStart slot) s = .next t ∧ t.saf.pulse = none ∧ t.saf.lanes = s.saf.lanes ∧
        t.r Reg.SAF_TEST_COUNT_SKIPPED = satN Reg.SAF_TEST_COUNT_SKIPPED.width (s.r Reg.SAF_TEST_COUNT_SKIPPED + 1) ∧
        RegsBut [Reg.SAF_TEST_COUNT_SKIPPED] s t ∧ SameMemory s t) ∧
    (20 ≤ slot → slot < 24 →
      ∃ t p, exec (.testPulseStart slot) s = .next t ∧ t.saf.pulse = some p ∧ p.slot = slot ∧ p.at_ = s.optime ∧
        t.regs = s.regs ∧ SameMemory s t)) ∧
  (∀ (s : Machine.State) (p : Pulse) (offA offB onA onB afterA afterB : Nat), s.saf.pulse = some p → p.aborted = false →
    (∀ l o : Nat, p.pole = some (l, o) → s.par l Reg.SAF_TEST_CFG_OUT_PULSE_US ≤ s.since p.at_ →
      (∃ t, exec (.testPulseEnd true 0 offA offB onA onB afterA afterB) s = .next t ∧ t.saf.pulse = none ∧
        (bitAt (s.lane l).cmd o = false → bitAt (t.lane l).cmd o = (p.closed && bitAt (s.allowed l) o && !(s.lane l).noClose)) ∧
        t.regs = s.regs ∧ SameMemory s t) ∧
      (bitAt (s.lane l).stuck o = false → s.releasedOut l o = false →
        ∃ t, exec (.testPulseEnd false 0 offA offB onA onB afterA afterB) s = .next t ∧ t.saf.pulse = none ∧
          t.faulted l (16 + o) = true ∧ Pending Evt.OUT_STUCK t ∧
          t.r Reg.SAF_TEST_COUNT_FAILED = satN Reg.SAF_TEST_COUNT_FAILED.width (s.r Reg.SAF_TEST_COUNT_FAILED + 1) ∧ SameMemory s t)) ∧
    (20 ≤ p.slot → s.par ((p.slot - 20) / 2) Reg.SAF_TP_CFG_TP_PULSE_US + s.par ((p.slot - 20) / 2) Reg.SAF_TP_CFG_TP_SETTLE_US ≤
        s.since p.at_ →
      ∃ t, exec (.testPulseEnd true 0 offA offB onA onB afterA afterB) s = .next t ∧ t.saf.pulse = none ∧ SameMemory s t)))

/-- O22. Seal switches, writes under the seal, overrides and reset pulses. A new level of a seal switch that has stood for 80 lane
periods is taken by its reader; SW2 at the main die is shown twice and raised. Outside IMAGE_FAIL a write under the seal takes
its value, one without it is refused and raised. A confirmation that matches offers the override for the fourth period on; at
its period an accepted override is in force in the lane and one that lane B has not answered by then is refused with reason 4,
as log entry 53 reads R260. A reset pulse of at least 100 ms and less than 5 s from a source that may count, SRST over a coupler
lane that is not lost, carries RESET for 8 records; a source whose level a lane has read high for 5 s is stuck and raises
STUCK_RESET. Commands that complete by it: sealSwitchChange, rwsWrite, safParamConfirm, overrideApply, resetPulse, stuckReset.
(R256, R259, R260, R286, R287, R421) -/
def Obligations.SealOverridesAndResetsComplete : Prop :=
  (∀ (s : Machine.State) (level : Bool) (n : Nat), 80 ≤ n →
    (∀ laneB : Bool, ∃ t, exec (.sealSwitchChange (b2n laneB) 1 n level) s = .next t ∧ (t.lane (b2n laneB)).sw1 = level ∧
      t.regs = s.regs ∧ SameMemory s t) ∧
    (∃ t, exec (.sealSwitchChange 2 1 n level) s = .next t ∧ t.r Reg.IMG_SEAL_SW1 = b2n level ∧ RegsBut [Reg.IMG_SEAL_SW1] s t ∧
      SameMemory s t) ∧
    (s.rb Reg.IMG_SEAL_SW2 ≠ level →
      ∃ t, exec (.sealSwitchChange 2 2 n level) s = .next t ∧ t.r Reg.IMG_SEAL_SW2 = b2n level ∧ t.r Reg.SEC_STATUS_SW2 = b2n level ∧
        Pending Evt.SW2_CHANGED t ∧ RegsBut [Reg.IMG_SEAL_SW2, Reg.SEC_STATUS_SW2] s t ∧ SameMemory s t)) ∧
  (∀ (s : Machine.State) (v : Nat), Serving s →
    (s.sealOpen = true → ∃ t, exec (.rwsWrite Reg.SAF_PARAM_VALUE.addr v) s = .next t ∧ t.r Reg.SAF_PARAM_VALUE = v % 2 ^ 32 ∧
      RegsBut [Reg.SAF_PARAM_VALUE] s t ∧ SameMemory s t) ∧
    (s.sealOpen = false → ∃ t, exec (.rwsWrite Reg.SAF_PARAM_VALUE.addr v) s = .next t ∧ t.r Reg.SAF_STATUS_RWS_REFUSED = 1 ∧
      Pending Evt.SAF_RWS_REFUSED t ∧ RegsBut [Reg.SAF_STATUS_RWS_REFUSED] s t ∧ SameMemory s t) ∧
    (∀ o, s.sealOpen = true → s.overEntry 0 (s.r Reg.SAF_PARAM_SEL) = some o → o.fits (s.r Reg.SAF_PARAM_VALUE) = true →
      v % 2 ^ 32 + s.r Reg.SAF_PARAM_VALUE = 2 ^ 32 - 1 → s.saf.overriding = none →
      ∃ t, exec (.safParamConfirm v) s = .next t ∧ t.r Reg.SAF_PARAM_INFO_OVR_STATE = 1 ∧ (t.lane 0).ovrState = 1 ∧
        (t.lane 0).ovrApply = ((s.lane 0).period + 4) % 65536 ∧ (t.lane 0).ovrValue = s.r Reg.SAF_PARAM_VALUE ∧
        RegsBut [Reg.SAF_PARAM_INFO_OVR_STATE, Reg.SAF_PARAM_CONFIRM] s t ∧ SameMemory s t)) ∧
  (∀ (s : Machine.State) (laneB : Bool), (s.lane (b2n laneB)).started = true →
    (s.lane (b2n laneB)).period % 65536 = (s.lane (b2n laneB)).ovrApply →
    (∀ o, (s.lane (b2n laneB)).ovrState = 2 → s.overEntry (b2n laneB) (s.lane (b2n laneB)).ovrIndex = some o →
      (s.lane (b2n laneB)).ovrValue ≠ ofI 32 o.image →
      ∃ t, exec (.overrideApply laneB) s = .next t ∧ (t.lane (b2n laneB)).ovrState = 0 ∧
        lookup (t.lane (b2n laneB)).overrides (s.lane (b2n laneB)).ovrIndex = some (s.lane (b2n laneB)).ovrValue ∧
        (laneB = false → Pending Evt.SAF_OVERRIDE t) ∧ t.regs = s.regs ∧ SameMemory s t) ∧
    (laneB = false → (s.lane 0).ovrState = 1 →
      ∃ t, exec (.overrideApply laneB) s = .next t ∧ (t.lane 0).ovrState = 0 ∧ (t.lane 0).overrides = (s.lane 0).overrides ∧
        t.r Reg.SAF_PARAM_INFO_REASON = 4 ∧ Pending Evt.SAF_OVERRIDE_REFUSED t ∧ SameMemory s t)) ∧
  (∀ (s : Machine.State) (laneB srst : Bool), (s.lane (b2n laneB)).started = true →
    (nth (s.lane (b2n laneB)).srcs (b2n srst) {}).stuck = false → (srst = true → s.senseLost (b2n laneB) 6 = false) →
    (∀ width : Nat, (nth (s.lane (b2n laneB)).srcs (b2n srst) {}).blocked = false →
      (nth (s.lane (b2n laneB)).srcs (b2n srst) {}).lowAt = none → width ≤ s.since (s.lane (b2n laneB)).firstAt → 100000 ≤ width →
      width < 5000000 →
      ∃ t, exec (.resetPulse laneB srst width) s = .next t ∧ (t.lane (b2n laneB)).resetLeft = 8 ∧
        (t.lane (b2n laneB)).resetLocal = srst ∧ t.regs = s.regs ∧ SameMemory s t) ∧
    (∀ t0 : Time, (nth (s.lane (b2n laneB)).srcs (b2n srst) {}).level = true →
      (nth (s.lane (b2n laneB)).srcs (b2n srst) {}).riseAt = some t0 → 5000000 ≤ s.since t0 →
      (nth (s.lane (1 - b2n laneB)).srcs (b2n srst) {}).stuck = false →
      ∃ t, exec (.stuckReset laneB srst) s = .next t ∧ (nth (t.lane (b2n laneB)).srcs (b2n srst) {}).stuck = true ∧
        Pending Evt.STUCK_RESET t ∧ t.regs = s.regs ∧ SameMemory s t))

/-- O23. Brake lock, stale checks and the brake test. A brake energized for LIFT_TIME_MS without having been lifted, or off for
DROP_TIME_MS without having been applied, latches its BRAKE_FAULT in the lane, raised if neither lane had it. A due lock check
in the window with LCLOSED seen OFF clears the misses; unseen, it counts a miss, raises LOCK_CHECK_MISS where the other lane has
not judged, and at LOCK_CHECK_N latches LOCK_BRIDGED. Data of a neighbour older than SEP_AGE_MS becomes stale with the speed of
that moment, raised once. After BT_INTERVAL_H a test is due; after the grace too it is overdue and raised. Outside IMAGE_FAIL
SAF_BT_CMD START with the confirm value makes it due at once, ABORT ends a running test, which stays due; other confirm values
do nothing. At a quiet point with the car locked, nothing starting and the stop list empty, the test of brake 1 begins with
BRAKE_TEST and drive enable requested and the car loop in PRETORQUE. With no fault that ends it and the drive granted: the ramp
up is followed by the hold with the peak torque at 0; the hold with enough torque by the ramp down, with too little it ends
inconclusive and stays due; the ramp down by the withdrawal of the other brake's lift. Once that brake is applied again the test
has passed: after brake 1 that of brake 2 is next, after brake 2 no test is due and the time of the pass is recorded. Commands
that complete by it: brakeTimeout, lockCheck, sepStale, brakeTestDue, brakeTestOverdue, safBtCmdStart, safBtCmdAbort,
brakeTestStart, brakeTestPhaseEnd, brakeTestEnd. (R272, R273, R274, R275, R276, R277, R285) -/
def Obligations.BrakeChecksAndTestsComplete : Prop :=
  ((∀ (s : Machine.State) (laneB brake2 : Bool) (t0 : Time),
    s.faulted (b2n laneB) (FaultBit.brake + b2n brake2) = false → s.faulted (1 - b2n laneB) (FaultBit.brake + b2n brake2) = false →
    ((s.laneBrake (b2n laneB) (b2n brake2)).onAt = some t0 → (s.laneBrake (b2n laneB) (b2n brake2)).lifted = false →
      s.par (b2n laneB) Reg.SAF_BRAKE_TIMES_LIFT_TIME_MS * 1000 ≤ s.since t0 →
      ∃ t, exec (.brakeTimeout laneB brake2) s = .next t ∧ t.faulted (b2n laneB) (FaultBit.brake + b2n brake2) = true ∧
        Pending Evt.BRAKE_FAULT t ∧ SameMemory s t) ∧
    ((s.laneBrake (b2n laneB) (b2n brake2)).onAt = none → (s.laneBrake (b2n laneB) (b2n brake2)).offAt = some t0 →
      (s.laneBrake (b2n laneB) (b2n brake2)).applied = false → s.par (b2n laneB) Reg.SAF_BRAKE_TIMES_DROP_TIME_MS * 1000 ≤ s.since t0 →
      ∃ t, exec (.brakeTimeout laneB brake2) s = .next t ∧ t.faulted (b2n laneB) (FaultBit.brake + b2n brake2) = true ∧
        Pending Evt.BRAKE_FAULT t ∧ SameMemory s t)) ∧
  (∀ (s : Machine.State) (laneB upper : Bool) (t0 : Time), (nth (s.lane (b2n laneB)).locks (b2n upper) {}).openAt = some t0 →
    (nth (s.lane (b2n laneB)).locks (b2n upper) {}).judged = false → s.inWindow (b2n laneB) = true →
    s.par (b2n laneB) Reg.SAF_LOCK_CHECK_LOCK_CHECK_MS * 1000 ≤ s.since t0 →
    ((nth (s.lane (b2n laneB)).locks (b2n upper) {}).seen = true →
      ∃ t, exec (.lockCheck laneB upper) s = .next t ∧ (nth (t.lane (b2n laneB)).locks (b2n upper) {}).misses = 0 ∧
        (nth (t.lane (b2n laneB)).locks (b2n upper) {}).judged = true ∧ RegsBut [Reg.SAF_TEST_COUNT_ABORTED] s t ∧ SameMemory s t) ∧
    ((nth (s.lane (b2n laneB)).locks (b2n upper) {}).seen = false → (nth (s.lane (1 - b2n laneB)).locks (b2n upper) {}).judged = false →
      ∃ t, exec (.lockCheck laneB upper) s = .next t ∧
        (nth (t.lane (b2n laneB)).locks (b2n upper) {}).misses = min 15 ((nth (s.lane (b2n laneB)).locks (b2n upper) {}).misses + 1) ∧
        Pending Evt.LOCK_CHECK_MISS t ∧
        (s.par (b2n laneB) Reg.SAF_LOCK_CHECK_LOCK_CHECK_N ≤ min 15 ((nth (s.lane (b2n laneB)).locks (b2n upper) {}).misses + 1) →
          t.faulted (b2n laneB) FaultBit.lockBridged = true) ∧
        RegsBut [Reg.SAF_LOCK_CHECK_MISSES, Reg.SAF_TEST_COUNT_ABORTED] s t ∧ SameMemory s t)) ∧
  (∀ (s : Machine.State) (laneB below : Bool), s.nbrAddr (b2n below) ≠ 0 → (s.lane (b2n laneB)).started = true →
    (nth (s.lane (b2n laneB)).nbrs (b2n below) {}).stale = none → (nth (s.lane (b2n laneB)).nbrs (b2n below) {}).seen = true →
    s.par (b2n laneB) Reg.SAF_SEP_LANE_SEP_AGE_MS * 1000 ≤ s.since (nth (s.lane (b2n laneB)).nbrs (b2n below) {}).at_ →
    (nth (s.lane (1 - b2n laneB)).nbrs (b2n below) {}).stale = none →
    ∃ t, exec (.sepStale laneB below) s = .next t ∧
      (nth (t.lane (b2n laneB)).nbrs (b2n below) {}).stale = some (s.optime, mag (s.lane (b2n laneB)).speed) ∧
      Pending Evt.SEP_STALE t ∧ t.regs = s.regs ∧ SameMemory s t)) ∧
  (((∀ (s : Machine.State), s.controlReady = true → s.par 0 Reg.SAF_BT_CFG_BT_INTERVAL_H ≠ 0 →
    (s.saf.bt.due = false → s.saf.bt.brake = 0 → s.par 0 Reg.SAF_BT_CFG_BT_INTERVAL_H ≤ s.btHours →
      ∃ t, exec .brakeTestDue s = .next t ∧ t.saf.bt.due = true ∧ t.r Reg.SAF_BT_STATUS_STATE = 1 ∧
        RegsBut [Reg.SAF_BT_STATUS_STATE] s t ∧ SameMemory s t) ∧
    (s.saf.bt.due = true → s.r Reg.SAF_BT_STATUS_OVERDUE = 0 →
      s.par 0 Reg.SAF_BT_CFG_BT_INTERVAL_H + s.par 0 Reg.SAF_BT_CFG_BT_GRACE_H ≤ s.btHours →
      ∃ t, exec .brakeTestOverdue s = .next t ∧ t.r Reg.SAF_BT_STATUS_OVERDUE = 1 ∧ Pending Evt.BRAKE_TEST_OVERDUE t ∧
        RegsBut [Reg.SAF_BT_STATUS_OVERDUE] s t ∧ SameMemory s t)) ∧
  (∀ (s : Machine.State), Serving s →
    (∃ t, exec (.safBtCmdStart 0x6B1D) s = .next t ∧ t.saf.bt.due = true ∧ t.saf.bt.onCommand = true ∧
      (s.saf.bt.brake = 0 → t.r Reg.SAF_BT_STATUS_STATE = 1) ∧ RegsBut [Reg.SAF_BT_STATUS_STATE] s t ∧ SameMemory s t) ∧
    (s.saf.bt.brake ≠ 0 →
      ∃ t, exec (.safBtCmdAbort 0x6B1D) s = .next t ∧ t.saf.bt.brake = 0 ∧ t.saf.bt.phase = 0 ∧ t.saf.bt.due = true ∧
        t.requested 6 = false ∧ t.requested 1 = false ∧ Pending Evt.BRAKE_TEST_ABORTED t ∧ SameMemory s t) ∧
    (∀ c : Nat, c ≠ 0x6B1D →
      (∃ t, exec (.safBtCmdStart c) s = .next t ∧ t.saf = s.saf ∧ t.regs = s.regs ∧ SameMemory s t) ∧
      ∃ t, exec (.safBtCmdAbort c) s = .next t ∧ t.saf = s.saf ∧ t.regs = s.regs ∧ SameMemory s t)) ∧
  (∀ (s : Machine.State), s.controlReady = true → s.active = true → s.saf.bt.due = true → s.quiet = true →
    (∀ l, l < 2 → (s.lane l).closed = true ∧ bitAt (s.lane l).perm 1 = true) → s.trip.starting = none → s.trip.stops = [] →
    ∃ t, exec .brakeTestStart s = .next t ∧ t.saf.bt.brake = 1 ∧ t.saf.bt.phase = 1 ∧ t.r Reg.SAF_BT_STATUS_STATE = 2 ∧
      t.requested 6 = true ∧ t.requested 1 = true ∧ t.modeOf 0 = 4 ∧ RegsBut [Reg.SAF_BT_STATUS_STATE] s t ∧ SameMemory s t)) ∧
  (∀ (s : Machine.State) (b : Nat), b = 1 ∨ b = 2 → s.saf.bt.brake = b → s.anyCut = false → s.driveFaulted 0 = false → s.granted = true →
    (∀ l, l < 2 → s.faulted l (FaultBit.brakeTest + b - 1) = false) →
    (s.saf.bt.phase = 3 → s.par 0 Reg.SAF_BT_TIMES_BT_RAMP_MS * 1000 ≤ s.since s.saf.bt.at_ →
      ∃ t, exec .brakeTestPhaseEnd s = .next t ∧ t.saf.bt.phase = 4 ∧ t.saf.bt.torque = 0 ∧ t.saf.bt.at_ = s.optime ∧ t.regs = s.regs ∧
        SameMemory s t) ∧
    (s.saf.bt.phase = 4 → s.par 0 Reg.SAF_BT_TIMES_BT_HOLD_MS * 1000 ≤ s.since s.saf.bt.at_ →
      (mag (s.parI 0 Reg.SAF_BT_TORQUE) * 95 ≤ s.saf.bt.torque * 100 →
        ∃ t, exec .brakeTestPhaseEnd s = .next t ∧ t.saf.bt.phase = 5 ∧ t.regs = s.regs ∧ SameMemory s t) ∧
      (s.saf.bt.torque * 100 < mag (s.parI 0 Reg.SAF_BT_TORQUE) * 95 →
        ∃ t, exec .brakeTestPhaseEnd s = .next t ∧ t.saf.bt.brake = 0 ∧ t.saf.bt.due = true ∧ Pending Evt.BRAKE_TEST_ABORTED t ∧
          SameMemory s t)) ∧
    (s.saf.bt.phase = 5 → s.par 0 Reg.SAF_BT_TIMES_BT_RAMP_MS * 1000 ≤ s.since s.saf.bt.at_ →
      ∃ t, exec .brakeTestPhaseEnd s = .next t ∧ t.saf.bt.phase = 6 ∧ t.requested (4 - b) = false ∧ t.regs = s.regs ∧ SameMemory s t) ∧
    (s.saf.bt.phase = 6 → s.brakeIs (2 - b) 0 = true →
      ∃ t, exec .brakeTestEnd s = .next t ∧ Pending Evt.BRAKE_TEST_PASS t ∧ t.requested 6 = false ∧
        (b = 1 → t.saf.bt.brake = 2 ∧ t.saf.bt.phase = 7 ∧ t.r Reg.SAF_BT_STATUS_RESULT1 = 1) ∧
        (b = 2 → t.saf.bt.brake = 0 ∧ t.saf.bt.due = false ∧ t.saf.bt.lastPass = s.r Reg.PWR_OP_SECONDS ∧
          t.r Reg.SAF_BT_STATUS_STATE = 0 ∧ t.r Reg.SAF_BT_STATUS_RESULT2 = 1) ∧ SameMemory s t)))

/-- O24. Standard inputs, field supplies, silence and field power. At a 50 microsecond instant of a powered field side, an enabled
input that is not wire-break supervised and whose level has lasted DI_FILT samples shows that level, inverted as configured, and
FS1 is measured. 400 UNDEFINED samples mark the input, raise DI_UNDEFINED and set its filtered state OFF. That R294's state OFF
is the filtered state is log entry 58's reading. A supply takes its new band after 20 samples. A group whose field side has seen
no new alive count for 2 ms falls silent, once; the alive count, once it advances again, ends it where the housekeeping lane is
not lost, reported for groups 6 to 8; HOLD_TIME, counted from the moment the group falls silent as log entry 59 reads R303,
expires for a silent output. Without field power nothing is energized. Commands that complete by it: standardInputSample,
diUndefined, fsBand, groupSilent, aliveCountReturn, doHoldExpiry, fieldPowerFail. (R293, R294, R302, R303, R304, R305) -/
def Obligations.StandardInputsAndSuppliesComplete : Prop :=
  (∀ (s : Machine.State) (levels : Nat) (currents volts : List Nat), s.optime.toNat % 50 = 0 → s.fio.power = true →
    ∃ t, exec (.standardInputSample levels currents volts) s = .next t ∧ t.r Reg.FIO_FS1_VOLT = min (nth volts 0 0) 1023 ∧
      (∀ i, i < 48 → s.rb (Reg.FIO_DI_CFG_EN i) = true → s.rb (Reg.FIO_DI_CFG_WB i) = false → s.channelLost (i / 8) (i % 8) = false →
        s.r (Reg.FIO_DI_CFG_DI_FILT i) ≤ (nth s.fio.di i {}).run + 1 →
        t.diOn i = (bitAt levels i != s.rb (Reg.FIO_DI_CFG_INVERT i))) ∧ SameMemory s t) ∧
  (∀ (s : Machine.State) (i : Nat), i < 48 → 400 ≤ (nth s.fio.di i {}).undef → s.rb (Reg.FIO_DI_CFG_WB i) = true →
    pairBit s Reg.FIO_DI_UNDEF_LO Reg.FIO_DI_UNDEF_HI i = false →
    ∃ t, exec (.diUndefined i) s = .next t ∧ pairBit t Reg.FIO_DI_UNDEF_LO Reg.FIO_DI_UNDEF_HI i = true ∧
      t.diFiltered i = false ∧ Pending Evt.DI_UNDEFINED t ∧ SameMemory s t) ∧
  (∀ (s : Machine.State) (i : Nat), i < 3 → (nth s.fio.fs i (3, 0)).1 < 4 → (nth s.fio.fs i (3, 0)).1 ≠ s.r (fsFields i).2.2 →
    20 ≤ (nth s.fio.fs i (3, 0)).2 →
    ∃ t, exec (.fsBand i) s = .next t ∧ t.r (fsFields i).2.2 = (nth s.fio.fs i (3, 0)).1 ∧ Pending Evt.FS_BAND t ∧
      RegsBut [(fsFields i).2.2] s t ∧ SameMemory s t) ∧
  (∀ (s : Machine.State) (g : Nat), g ≤ 16 → (nth s.fio.groups g {}).silentAt = none → 2000 ≤ s.since (s.aliveAt g) →
    ∃ t, exec (.groupSilent g) s = .next t ∧ (nth t.fio.groups g {}).silentAt = some s.optime ∧ t.regs = s.regs ∧ SameMemory s t) ∧
  (∀ (s : Machine.State) (g : Nat) (t0 : Time), (nth s.fio.groups g {}).silentAt = some t0 → s.channelLost g 8 = false →
    s.aliveAgain g t0 = true →
    (6 ≤ g → g ≤ 8 →
      ∃ t, exec (.aliveCountReturn g) s = .next t ∧ (nth t.fio.groups g {}).silentAt = none ∧ Pending Evt.FIO_HOLD_EXIT t ∧
        t.r Reg.FIO_HOLD_COUNT_HOLDS = satN 16 (s.r Reg.FIO_HOLD_COUNT_HOLDS + 1) ∧
        RegsBut [Reg.FIO_HOLD_COUNT_HOLDS, Reg.FIO_HOLD_COUNT_LONGEST] s t ∧ SameMemory s t) ∧
    (g < 6 ∨ 8 < g →
      ∃ t, exec (.aliveCountReturn g) s = .next t ∧ (nth t.fio.groups g {}).silentAt = none ∧ t.regs = s.regs ∧ SameMemory s t)) ∧
  (∀ (s : Machine.State) (i : Nat) (t0 : Time), i < 24 → (nth s.fio.groups (doGroup i) {}).silentAt = some t0 →
    s.r (Reg.FIO_DO_CFG_HOLD_TIME i) ≠ 0 → s.r (Reg.FIO_DO_CFG_HOLD_TIME i) * 1000 ≤ s.since t0 →
    ∃ t, exec (.doHoldExpiry i) s = .next t ∧ (t.dout i).expired = true ∧ t.doLevel i = false ∧ t.regs = s.regs ∧ SameMemory s t) ∧
  (∀ (s : Machine.State), ∃ t, exec .fieldPowerFail s = .next t ∧ t.doApplied = 0 ∧ (t.lane 0).rb = 0 ∧ (t.lane 1).rb = 0 ∧
    t.regs = s.regs ∧ SameMemory s t)

/-- O25. Standard outputs: overload, readback and off-pulses. An overload of an energized output is counted and raised: the first
two times it is off for a second, after which its command stands again; the third time it stays off until FIO_CMD with the
confirm value, outside IMAGE_FAIL, releases it. A judged output whose readback differs at the third point as at the two before,
but for a PARTNER output of a standby low in the active module's pulse, latches DO_STUCK_HIGH or, while FS1 is present,
DO_STUCK_LOW; 16 agreeing judgements clear its fault. 1 ms after the end of the safety test sequence that completes
DO_TEST_EVERY, a standard test sequence begins and is counted. In its slot an energized, healthy output marked TEST_EN is
pulsed; any other is skipped and counted. A pulse whose time has passed ends: turned off meanwhile, the test is aborted and
raised; an output that read low on none of the judged samples is DO_STUCK_HIGH and counted as failed; one that did, with no
other high before it, leaves every register as it is; another one commanded off, high before and low on every sample, is
DO_CROSS with it. Commands that complete by it: doOverload, doOverloadRetry, fioCmdClearOverload, doReadbackCheck,
standardTestSequence, doPulseStart, doPulseEnd. (R296, R297, R298, R299, R300, R301) -/
def Obligations.StandardOutputsAndOffPulsesComplete : Prop :=
  ((∀ (s : Machine.State) (i : Nat), i < 24 →
    (s.doLevel i = true → s.r (Reg.FIO_DO_INFO_OVERLOADS i) = 0 →
      ∃ t, exec (.doOverload i) s = .next t ∧ t.r (Reg.FIO_DO_INFO_OVERLOADS i) = 1 ∧ t.r (Reg.FIO_DO_INFO_KIND i) = 4 ∧
        (t.dout i).overAt = some s.optime ∧ Pending Evt.DO_OVERLOAD t ∧
        RegsBut [Reg.FIO_DO_INFO_OVERLOADS i, Reg.FIO_DO_INFO_KIND i, Reg.FIO_DO_INFO_PARTNER i] s t ∧ SameMemory s t) ∧
    (s.doLevel i = true → 2 ≤ s.r (Reg.FIO_DO_INFO_OVERLOADS i) →
      ∃ t, exec (.doOverload i) s = .next t ∧ t.r (Reg.FIO_DO_INFO_OVERLOADS i) = 3 ∧ t.r (Reg.FIO_DO_INFO_KIND i) = 5 ∧
        (t.dout i).latched = true ∧ (t.dout i).overAt = none ∧ Pending Evt.DO_OVERLOAD t ∧ SameMemory s t) ∧
    (∀ t0, (s.dout i).overAt = some t0 → 1000000 ≤ s.since t0 →
      ∃ t, exec (.doOverloadRetry i) s = .next t ∧ (t.dout i).overAt = none ∧ t.r (Reg.FIO_DO_INFO_KIND i) = 0 ∧
        RegsBut [Reg.FIO_DO_INFO_KIND i, Reg.FIO_DO_INFO_PARTNER i] s t ∧ SameMemory s t) ∧
    (Serving s → (s.dout i).latched = true →
      ∃ t, exec (.fioCmdClearOverload (i + 1) 0x2E71) s = .next t ∧ (t.dout i).latched = false ∧
        t.r (Reg.FIO_DO_INFO_OVERLOADS i) = 0 ∧ t.r (Reg.FIO_DO_INFO_KIND i) = 0 ∧
        RegsBut [Reg.FIO_DO_INFO_OVERLOADS i, Reg.FIO_DO_INFO_KIND i, Reg.FIO_DO_INFO_PARTNER i] s t ∧ SameMemory s t) ∧
    (∀ pulse : Bool, (pulse = true → s.doPartner i = true → s.active = true) → s.doJudged i = true → (s.dout i).judged = 2 →
      (s.dout i).bad = 2 → s.doPoint i = true →
      (s.doExpected i = false → s.doKind i = 0 →
        ∃ t, exec (.doReadbackCheck i true pulse) s = .next t ∧ t.doKind i = 1 ∧ Pending Evt.DO_STUCK_HIGH t ∧ bitAt (t.r Reg.FIO_DO_RB) i = true ∧
          RegsBut [Reg.FIO_DO_RB, Reg.FIO_DO_INFO_KIND i, Reg.FIO_DO_INFO_PARTNER i] s t ∧ SameMemory s t) ∧
      (s.doExpected i = true → s.doKind i = 0 → s.r Reg.FIO_STATUS_FS1_BAND ≠ 3 →
        ∃ t, exec (.doReadbackCheck i false pulse) s = .next t ∧ t.doKind i = 2 ∧ Pending Evt.DO_STUCK_LOW t ∧
          RegsBut [Reg.FIO_DO_RB, Reg.FIO_DO_INFO_KIND i, Reg.FIO_DO_INFO_PARTNER i] s t ∧ SameMemory s t)) ∧
    (s.doJudged i = true → (s.dout i).judged = 3 → 15 ≤ (s.dout i).good → s.doPoint i = true → 1 ≤ s.doKind i → s.doKind i ≤ 3 →
      ∃ t, exec (.doReadbackCheck i (s.doExpected i) false) s = .next t ∧ t.doKind i = 0 ∧ Pending Evt.DO_CLEARED t ∧ SameMemory s t))) ∧
  ((∀ (s : Machine.State) (t0 : Time), s.controlReady = true → s.r Reg.FIO_TEST_CFG_DO_TEST_EVERY ≠ 0 →
    s.r Reg.FIO_TEST_CFG_DO_TEST_EVERY ≤ s.saf.seqEnds → s.saf.seqEnd = some t0 → 1000 ≤ s.since t0 → s.since t0 < 2000 →
    ∃ t, exec .standardTestSequence s = .next t ∧ t.fio.seqAt = some s.optime ∧ t.fio.slot = 0 ∧ t.saf.seqEnds = 0 ∧
      t.r Reg.FIO_TEST_COUNT_SEQUENCES = (s.r Reg.FIO_TEST_COUNT_SEQUENCES + 1) % 256 ∧ RegsBut [Reg.FIO_TEST_COUNT_SEQUENCES] s t ∧
      SameMemory s t) ∧
  (∀ (s : Machine.State) (i : Nat) (t0 : Time), i < 24 → s.fio.seqAt = some t0 → s.fio.pulse = none → s.fio.slot ≤ i →
    1000 * i + 100 ≤ s.since t0 → s.since t0 < 1000 * i + 1000 →
    (s.doLevel i = true → s.rb (Reg.FIO_DO_CFG_TEST_EN i) = true → s.doKind i = 0 → s.doOverloaded i = false →
      s.r Reg.FIO_STATUS_FS1_BAND ≠ 3 → s.doSilent i = false →
      ∃ t, exec (.doPulseStart i) s = .next t ∧ t.fio.pulse = some (i, s.optime) ∧ t.fio.slot = i + 1 ∧ bitAt t.doApplied i = false ∧
        t.regs = s.regs ∧ SameMemory s t) ∧
    (s.doLevel i = false ∨ s.rb (Reg.FIO_DO_CFG_TEST_EN i) = false ∨ s.doKind i ≠ 0 →
      ∃ t, exec (.doPulseStart i) s = .next t ∧ t.fio.pulse = none ∧ t.fio.slot = i + 1 ∧
        t.r Reg.FIO_TEST_COUNT_SKIPPED = satN 8 (s.r Reg.FIO_TEST_COUNT_SKIPPED + 1) ∧ RegsBut [Reg.FIO_TEST_COUNT_SKIPPED] s t ∧
        SameMemory s t)) ∧
  (∀ (s : Machine.State) (i : Nat) (t0 : Time), i < 24 → s.fio.pulse = some (i, t0) → s.r Reg.FIO_TEST_CFG_DO_PULSE_US ≤ s.since t0 →
    (∀ samples : List Nat, s.doLevel i = false →
      ∃ t, exec (.doPulseEnd samples) s = .next t ∧ t.fio.pulse = none ∧ Pending Evt.DO_TEST_ABORTED t ∧
        t.r Reg.FIO_TEST_COUNT_ABORTED = satN 8 (s.r Reg.FIO_TEST_COUNT_ABORTED + 1) ∧ RegsBut [Reg.FIO_TEST_COUNT_ABORTED] s t ∧
        SameMemory s t) ∧
    (∀ (samples words : List Nat), words = pulseWindow (s.r Reg.FIO_TEST_CFG_DO_PULSE_US) samples → s.doLevel i = true →
      s.rb (Reg.FIO_DO_CFG_RB_EN i) = true →
      ((∀ j, (s.dout j).before = false) → (∀ w ∈ words, bitAt w i = true) →
        ∃ t, exec (.doPulseEnd samples) s = .next t ∧ t.fio.pulse = none ∧ t.doKind i = 1 ∧ Pending Evt.DO_STUCK_HIGH t ∧
        t.r Reg.FIO_TEST_COUNT_FAILED = satN 8 (s.r Reg.FIO_TEST_COUNT_FAILED + 1) ∧
        RegsBut [Reg.FIO_TEST_COUNT_FAILED, Reg.FIO_DO_INFO_KIND i, Reg.FIO_DO_INFO_PARTNER i] s t ∧ SameMemory s t) ∧
      ((∀ j, (s.dout j).before = false) → (∃ w ∈ words, bitAt w i = false) →
        ∃ t, exec (.doPulseEnd samples) s = .next t ∧ t.fio.pulse = none ∧ t.regs = s.regs ∧ SameMemory s t) ∧
      ∀ j, j < 24 → j ≠ i → s.doLevel j = false → (s.dout j).before = true → words ≠ [] → (∀ w ∈ words, bitAt w j = false) →
        ∃ t, exec (.doPulseEnd samples) s = .next t ∧ t.fio.pulse = none ∧ t.doKind i = 3 ∧ t.doKind j = 3 ∧ Pending Evt.DO_CROSS t ∧
          SameMemory s t)))

/-- O26. Coupler lanes: margins, takeovers and failures. The loupe's read of a lane keeps its margin; a margin that falls below
CPL_WARN, of a lane in use or a spare in service, raises CPL_MARGIN, and for a lane in use asks for the spare if nothing did and
no takeover of it has failed twice. A wanted spare that is free is connected for the comparison. Equal crossings make the spare
carry the channel: the lane is fenced, CPL_TAKEOVER and SPARES_LOW (the group's one spare is used: R371 as log entry 81 reads
it) are raised; unequal ones leave the spare free or, its pattern failing too, fenced with CPL_SPARE_FAIL. A failed lane is
taken over at once by a free spare, else it is lost with CPL_LOST. Commands that complete by it: couplerCheck,
cplOrderlyTakeover, cplComparisonEnd, cplLaneFail. (R307, R308, R309, R310, R371) -/
def Obligations.CouplerLanesComplete : Prop :=
  (∀ (s : Machine.State) (g k margin errors : Nat), g ≤ 16 → k ≤ 9 →
    ∃ t, exec (.couplerCheck g k margin errors) s = .next t ∧ (t.cplLane g k).margin = min margin 255 ∧
      (margin < s.r Reg.FIO_CPL_PARAM_CPL_WARN →
        ((s.cplLane g k).low = false → (s.cplLane g k).state = 0 ∨ (s.cplLane g k).state = 6 → Pending Evt.CPL_MARGIN t) ∧
        ((s.cplLane g k).state = 0 → (s.cplLane g k).spent = false → (nth s.fio.groups g {}).wanted = none →
          (nth t.fio.groups g {}).wanted = some (k, 0, none))) ∧
      RegsBut [Reg.MIR_LOUPE_LATE_LATE, Reg.MIR_LOUPE_LATE_EVENTS] s t ∧ SameMemory s t) ∧
  (∀ (s : Machine.State) (g k why : Nat), g ≤ 16 → (nth s.fio.groups g {}).wanted = some (k, why, none) → (s.cplLane g 9).state = 4 →
    ∃ t, exec (.cplOrderlyTakeover g) s = .next t ∧ (nth t.fio.groups g {}).taking = some (k, why) ∧
      (nth t.fio.groups g {}).wanted = none ∧ (t.cplLane g 9).state = 1 ∧ t.regs = s.regs ∧ SameMemory s t) ∧
  (∀ (s : Machine.State) (g k why : Nat), g ≤ 16 → k < 9 → (nth s.fio.groups g {}).taking = some (k, why) →
    (∀ pattern : Bool, ∃ t, exec (.cplComparisonEnd g true pattern) s = .next t ∧ (t.cplLane g k).state = 2 ∧ (t.cplLane g 9).state = 6 ∧
      Pending Evt.CPL_TAKEOVER t ∧ Pending Evt.SPARES_LOW t ∧
      RegsBut [Reg.FIO_CPL_SPARE, Reg.FIO_STATUS_CPL_SPARE_USED, Reg.FIO_CPL_COUNT_TAKEOVERS, Reg.IMG_MODULE_STATE_SPARE_IN_USE] s t ∧
      SameMemory s t) ∧
    (∃ t, exec (.cplComparisonEnd g false true) s = .next t ∧ (t.cplLane g 9).state = 4 ∧ (nth t.fio.groups g {}).taking = none ∧
      t.regs = s.regs ∧ SameMemory s t) ∧
    ∃ t, exec (.cplComparisonEnd g false false) s = .next t ∧ (t.cplLane g 9).state = 5 ∧ Pending Evt.CPL_SPARE_FAIL t ∧
      RegsBut [Reg.FIO_CPL_SPARE] s t ∧ SameMemory s t) ∧
  (∀ (s : Machine.State) (g k : Nat), g ≤ 16 → k < 9 → (s.cplLane g k).state = 0 →
    ((s.cplLane g 9).state = 4 →
      ∃ t, exec (.cplLaneFail g k) s = .next t ∧ (t.cplLane g k).state = 2 ∧ (t.cplLane g 9).state = 6 ∧ Pending Evt.CPL_TAKEOVER t ∧
        SameMemory s t) ∧
    ((s.cplLane g 9).state = 5 →
      ∃ t, exec (.cplLaneFail g k) s = .next t ∧ (t.cplLane g k).state = 3 ∧ t.r Reg.FIO_STATUS_CPL_LOST = 1 ∧ Pending Evt.CPL_LOST t ∧
        SameMemory s t))

/-- O27. Links, the switch and the transmit queues. A link comes up only with the bypass of its network open, and goes down, each
raised; ready PHYs open the bypass. A transparent switch passes a frame with a good FCS to the other port's queue. A configured
one forwards a good frame for another module with HOPS one lower and delivers nothing: of the network state only the queues of
the ports change. A frame with a bad FCS is counted and dropped. Of its classes a port sends the oldest frame of the first that
holds one. Commands that complete by it: linkUp, linkDown, frameTransmit, phyReady, frameReceived. (R312, R313, R315, R320,
R321) -/
def Obligations.LinksSwitchAndQueuesComplete : Prop :=
  (∀ (s : Machine.State) (p : Nat), p < 4 →
    (s.linkUp p = false → nth s.net.bypass (p / 2) true = false →
      ∃ t, exec (.linkUp p) s = .next t ∧ t.linkUp p = true ∧ (∀ q, q < 4 → q ≠ p → t.linkUp q = s.linkUp q) ∧ Pending Evt.LINK_UP t ∧
        RegsBut [Reg.NET_STATUS_LINK] s t ∧ SameMemory s t) ∧
    (s.linkUp p = true →
      ∃ t, exec (.linkDown p) s = .next t ∧ t.linkUp p = false ∧ Pending Evt.LINK_DOWN t ∧ RegsBut [Reg.NET_STATUS_LINK] s t ∧
        SameMemory s t) ∧
    (s.linkUp p = true → ∀ c f rest, c < 4 → (∀ d, d < c → queueOf s p d = []) → queueOf s p c = .raw f :: rest →
      ∃ t, exec (.frameTransmit p) s = .next t ∧ (t.port p).sent = some (.raw f) ∧ queueOf t p c = rest ∧
        (∀ d, d ≠ c → queueOf t p d = queueOf s p d) ∧ t.regs = s.regs ∧ SameMemory s t)) ∧
  (∀ (s : Machine.State) (b : Bool), ∃ t, exec (.phyReady b) s = .next t ∧ nth t.net.bypass (b2n b) true = false ∧ t.regs = s.regs ∧
    SameMemory s t) ∧
  (∀ (s : Machine.State) (p n : Nat) (f : List Byte), p < 4 → s.linkUp p = true →
    (fcsOk f = false → ∃ t, exec (.frameReceived p f n) s = .next t ∧ t.net = s.net ∧
      t.r (fcsErrField p) = satN (fcsErrField p).width (s.r (fcsErrField p) + 1) ∧ RegsBut [fcsErrField p] s t ∧ SameMemory s t) ∧
    (fcsOk f = true → s.r Reg.NET_STATUS_TRANSPARENT = 1 → (queueOf s (otherPort p) (frameClass f)).length < classCap (frameClass f) →
      ∃ t, exec (.frameReceived p f n) s = .next t ∧
        queueOf t (otherPort p) (frameClass f) = queueOf s (otherPort p) (frameClass f) ++ [.raw f] ∧ t.regs = s.regs ∧ SameMemory s t) ∧
    (fcsOk f = true → s.r Reg.NET_STATUS_TRANSPARENT = 0 → f.length ≤ 512 → etherType f ≠ ptpType →
      etherType f = s.r Reg.NET_MAP_CFG_ETHERTYPE → slice f 0 6 = rhDest → (parseRh f).crcOk = true → (parseRh f).version = 1 →
      kindValid (parseRh f).kind = true → (parseRh f).kind ≠ Kind.enumerate →
      ((parseRh f).kind = Kind.status → (parseRh f).src ≠ s.r Reg.NET_ADDR_ADDRESS) → ((parseRh f).origin = 1 → p % 2 = 0) →
      2 ≤ (parseRh f).hops → s.delivers (parseRh f) = false →
      (queueOf s (otherPort p) (kindClass (parseRh f).kind)).length < classCap (kindClass (parseRh f).kind) →
      ∃ t, exec (.frameReceived p f n) s = .next t ∧
        queueOf t (otherPort p) (kindClass (parseRh f).kind) =
          queueOf s (otherPort p) (kindClass (parseRh f).kind) ++ [.raw (withHops ((parseRh f).hops - 1) f)] ∧
        t.net = { s.net with ports := t.net.ports } ∧ t.regs = s.regs ∧ SameMemory s t))

/-- O28. The dual-path rule and accepted NEIGHBOUR frames. A first copy whose other copy has not come by its deadline makes a dual
path single, raised and counted; a single path of SINGLE_PATH_MS is EXPIRED, raised and counted. A new first copy of a NEIGHBOUR
frame of an active named neighbour on a path that is not EXPIRED or MISMATCH, and not stale, is used at once: its position,
speed and side are those the comparator has, and the other copy is awaited. Commands that complete by it: dualPathDeadline,
singlePathExpired, neighbourFrame. (R323, R324, R327) -/
def Obligations.PathRulesAndNeighbourFramesComplete : Prop :=
  (∀ (s : Machine.State) (x : PathSt), s.net.paths = [x] →
    (x.pending = true → s.since x.deadline < 2 ^ 47 → x.path = 1 →
      ∃ t, exec .dualPathDeadline s = .next t ∧
        t.net.paths = [{ x with pending := false, run := 0, path := 2 + x.net % 2, since := s.optime }] ∧ Pending Evt.SINGLE_PATH t ∧
        t.r Reg.NET_PATH_COUNT_SINGLE = satN Reg.NET_PATH_COUNT_SINGLE.width (s.r Reg.NET_PATH_COUNT_SINGLE + 1) ∧
        RegsBut [Reg.NET_PATH_COUNT_SINGLE] s t ∧ SameMemory s t) ∧
    (x.path = 2 ∨ x.path = 3 → s.r Reg.NET_PATH_CFG_SINGLE_PATH_MS * 1000 ≤ s.since x.since →
      ∃ t, exec .singlePathExpired s = .next t ∧ t.net.paths = [{ x with path := 4 }] ∧ Pending Evt.SINGLE_PATH_EXPIRED t ∧
        t.r Reg.NET_PATH_COUNT_EXPIRED = satN Reg.NET_PATH_COUNT_EXPIRED.width (s.r Reg.NET_PATH_COUNT_EXPIRED + 1) ∧ SameMemory s t)) ∧
  (∀ (s : Machine.State) (p i : Nat) (f : List Byte), Passed Kind.neighbour p f s → s.nbrOf (parseRh f).src = some i →
    (parseRh f).origin = 0 → (parseRh f).active = true → s.controlReady = true → s.nbrStale (parseRh f) = false →
    (s.pathSt (parseRh f)).pending = false → (s.pathSt (parseRh f)).path < 4 →
    (parseRh f).newer (s.pathSt (parseRh f)).last = true →
    ∃ t, exec (.neighbourFrame p f) s = .next t ∧ (t.nbr i).pos = leAtI (parseRh f).payload 0 4 ∧
      (t.nbr i).speed = leAtI (parseRh f).payload 4 4 ∧ (t.nbr i).seen = true ∧ (t.nbr i).lastAt = s.optime ∧
      nth t.net.nbrSide i 0 = (parseRh f).side ∧ (t.pathSt (parseRh f)).pending = true ∧ SameMemory s t)

/-- O29. NEIGHBOUR, STATUS and EVENT frames of the module. On configured switches: an active module that is not Listening queues, in
its slot, its NEIGHBOUR frame at each port with room, with the next SEQ of the kind; a module queues its STATUS frame toward the
head in its slot, which clears FRAME_LOST; and an EVENT frame takes the oldest four entries of the frame queue when the rate
allows it. Nothing but the drop counts changes in the registers. Commands that complete by it: neighbourSend, statusSend,
eventFrameSend. (R326, R330, R331, R378) -/
def Obligations.OwnFramesAreSentInTheirSlots : Prop :=
  (∀ (s : Machine.State), s.sendsNbr = true → s.inSlot 500000 s.nbrSlot = true → s.sentNow s.net.nbrSent = false →
    ∃ t, exec .neighbourSend s = .next t ∧ t.net.nbrSent = some s.optime ∧
      (t.nextSeq Kind.neighbour).1 = ((s.nextSeq Kind.neighbour).1 + 1) % 2 ^ 32 ∧
      (∀ p, p < 4 → (queueOf s p 1).length < 16 →
        queueOf t p 1 = queueOf s p 1 ++ [.raw (buildFrame s (p / 2)
          ⟨s.r Reg.NET_MAP_CFG_NBR_HOPS, Kind.neighbour, s.r Reg.NET_ADDR_ADDRESS, s.srcInfo (s.nextSeq Kind.neighbour).2, 255, 3,
            (s.nextSeq Kind.neighbour).1⟩ s.nbrPayload)]) ∧
      RegsBut [Reg.NET_PORT_A1_DROPPED, Reg.NET_PORT_A2_DROPPED, Reg.NET_PORT_B1_DROPPED, Reg.NET_PORT_B2_DROPPED] s t ∧ SameMemory s t) ∧
  (∀ (s : Machine.State), s.onNet = true → s.raised = [] →
    (s.inSlot 10000000 s.statusSlot = true → s.sentNow s.net.statusSent = false →
      ∃ t, exec .statusSend s = .next t ∧ t.net.statusSent = some s.optime ∧ t.ev.frameLostFlag = false ∧
        (∀ n, n < 2 → (queueOf s (2 * n) 2).length < 64 →
          queueOf t (2 * n) 2 = queueOf s (2 * n) 2 ++ [.raw (buildFrame s n
            ⟨255, Kind.status, s.r Reg.NET_ADDR_ADDRESS, s.srcInfo (s.nextSeq Kind.status).2, 0, 0, (s.nextSeq Kind.status).1⟩
            s.statusPayload)]) ∧
        RegsBut [Reg.NET_PORT_A1_DROPPED, Reg.NET_PORT_B1_DROPPED] s t ∧ SameMemory s t) ∧
    (s.ev.frames ≠ [] → s.eventDue = true →
      ∃ t, exec .eventFrameSend s = .next t ∧ t.ev.frames = s.ev.frames.drop 4 ∧ t.ev.lastFrame = some s.optime ∧
        (∀ n, n < 2 → (queueOf s (2 * n) 2).length < 64 →
          queueOf t (2 * n) 2 = queueOf s (2 * n) 2 ++ [.raw (buildFrame s n
            ⟨255, Kind.event, s.r Reg.NET_ADDR_ADDRESS, s.srcInfo (s.nextSeq Kind.event).2, 0, 0, (s.nextSeq Kind.event).1⟩
            (eventPayload (s.ev.frames.take 4)))]) ∧
        RegsBut [Reg.NET_PORT_A1_DROPPED, Reg.NET_PORT_B1_DROPPED] s t ∧ SameMemory s t))

/-- O30. Requests: taken from their buffer, assigned and cancelled. The active module, not Parked, passes a new assign or cancel of
buffer 4 to the stop-list graph. An assign that nothing refuses leaves a frozen list as it is, answered with one of the codes of
Table 06-5 for its kind, which of them being a free value (log entry 112); else its doors are merged into the entry of its
landing and side, the others staying as they are, with code 3 where the car serves it and else 2, or it is a new entry: with the
car standing there it is served at once, with the run rule refusing it it is queued, and with the rule accepting it it is run; a
full list refuses it. While Listening every cancel is answered OUT_OF_SERVICE; one without an entry NOT_FOUND; one of an entry
that is no target, or not the last of its car stop, is removed. A cancel of the target's last entry takes back a commit entry
that waits for the car, or else diverts to the nearest queued stop beyond that is still reached, both CANCELLED; with neither it
is STOP_KEPT. A frozen list stays as it is. Commands that complete by it: requestFrame, assign, cancelRequest. (R170, R175,
R332) -/
def Obligations.RequestsAreAnswered : Prop :=
  (∀ (s : Machine.State) (x : Request) (rest : List Request), s.net.bufReq = x :: rest → s.active = true → s.parked = false →
    s.net.answers.find? (fun a => a.id == x.id && a.payload == x.payload) = none → x.op = 1 ∨ x.op = 2 →
    ∃ t, exec .requestFrame s = .next t ∧ t.net.bufReq = rest ∧ t.net.graphReq = s.net.graphReq ++ [x] ∧ t.regs = s.regs ∧
      SameMemory s t) ∧
  (∀ (s : Machine.State) (req n doors profile : Nat) (up : Bool), req < 65536 → n < 256 → doors < 4 → profile < 2 → s.active = true → s.parked = false →
    s.net.graphReq = [] →
    (∀ c, s.assignRefusal n up doors = some c →
      ∃ t, exec (.assign req n up doors profile) s = .next t ∧ t.trip.stops = s.trip.stops ∧
        (t.net.answers.head?.map fun a => a.code) = some c ∧ SameMemory s t) ∧
    (s.assignRefusal n up doors = none → s.trip.frozen = true →
      ∃ t c, exec (.assign req n up doors profile) s = .next t ∧ t.trip.stops = s.trip.stops ∧
        c ∈ [0, 1, 2, 3, 0x10, 0x11, 0x12, 0x13] ∧ (t.net.answers.head?.map fun a => a.code) = some c ∧ SameMemory s t) ∧
    (s.assignRefusal n up doors = none → s.trip.frozen = false →
      (s.trip.stops.any fun e => e.landing == n && e.upper == up) = true →
      ∃ t, exec (.assign req n up doors profile) s = .next t ∧
        t.trip.stops = s.trip.stops.map (fun e => if e.landing == n && e.upper == up then { e with doors := Nat.lor e.doors doors } else e) ∧
        (t.net.answers.head?.map fun a => a.code) = some (if s.standsAt (if up then n - 1 else n) = true ∨
          (s.trip.stops.any fun e => (e.landing == n && e.upper == up) && e.state == 2) = true then 3 else 2) ∧ SameMemory s t) ∧
    (s.assignRefusal n up doors = none → s.trip.frozen = false →
      (s.trip.stops.any fun e => e.landing == n && e.upper == up) = false → 64 ≤ s.trip.stops.length →
      ∃ t, exec (.assign req n up doors profile) s = .next t ∧ t.trip.stops = s.trip.stops ∧ Pending Evt.STOPLIST_FULL t ∧
        (t.net.answers.head?.map fun a => a.code) = some 0x12 ∧ SameMemory s t) ∧
    (s.assignRefusal n up doors = none → s.trip.frozen = false →
      (s.trip.stops.any fun e => e.landing == n && e.upper == up) = false → s.trip.stops.length < 64 →
      (s.standsAt (if up then n - 1 else n) = true →
        ∃ t, exec (.assign req n up doors profile) s = .next t ∧
          t.trip.stops = s.trip.stops ++ [⟨n, up, doors, profile, req, 2⟩] ∧
          (t.net.answers.head?.map fun a => a.code) = some 3 ∧ SameMemory s t) ∧
      (s.standsAt (if up then n - 1 else n) = false → s.splicePossible (if up then n - 1 else n) = false →
        ∃ t, exec (.assign req n up doors profile) s = .next t ∧
          t.trip.stops = s.trip.stops ++ [⟨n, up, doors, profile, req, 0⟩] ∧
          (t.net.answers.head?.map fun a => a.code) = some 1 ∧ SameMemory s t) ∧
      (s.standsAt (if up then n - 1 else n) = false → ∀ u : Machine.State,
        tryRun (if up then n - 1 else n)
          { s with trip := { s.trip with stops := s.trip.stops ++ [⟨n, up, doors, profile, req, 0⟩] } } = (u, true) →
        ∃ t, exec (.assign req n up doors profile) s = .next t ∧ t.trip.stops = u.trip.stops ∧
          (t.net.answers.head?.map fun a => a.code) = some 0))) ∧
  (∀ (s : Machine.State) (req n : Nat) (up : Bool), n < 256 → s.active = true → s.parked = false → s.net.graphReq = [] →
    (s.r Reg.IMG_MODULE_STATE_LISTENING = 1 →
      ∃ t, exec (.cancelRequest req n up) s = .next t ∧ t.trip.stops = s.trip.stops ∧
        (t.net.answers.head?.map fun a => a.code) = some 0x13 ∧ SameMemory s t) ∧
    (s.r Reg.IMG_MODULE_STATE_LISTENING = 0 → (s.trip.stops.find? fun e => e.landing == n && e.upper == up) = none →
      ∃ t, exec (.cancelRequest req n up) s = .next t ∧ t.trip.stops = s.trip.stops ∧
        (t.net.answers.head?.map fun a => a.code) = some 0x22 ∧ SameMemory s t) ∧
    (∀ e, s.r Reg.IMG_MODULE_STATE_LISTENING = 0 → (s.trip.stops.find? fun e => e.landing == n && e.upper == up) = some e →
      s.trip.frozen = true →
      ∃ t c, exec (.cancelRequest req n up) s = .next t ∧ t.trip.stops = s.trip.stops ∧
        c ∈ [0x20, 0x21, 0x22] ∧ (t.net.answers.head?.map fun a => a.code) = some c ∧ SameMemory s t) ∧
    (∀ e, s.r Reg.IMG_MODULE_STATE_LISTENING = 0 → (s.trip.stops.find? fun e => e.landing == n && e.upper == up) = some e →
      s.trip.frozen = false → ∀ rest : List StopEntry, rest = s.trip.stops.filter (fun e => !(e.landing == n && e.upper == up)) →
      (e.state ≠ 1 ∨ (rest.any fun x => x.stop == e.stop) = true →
        ∃ t, exec (.cancelRequest req n up) s = .next t ∧ t.trip.stops = rest ∧
          (t.net.answers.head?.map fun a => a.code) = some 0x20 ∧ SameMemory s t) ∧
      (e.state = 1 → (rest.any fun x => x.stop == e.stop) = false → ∀ u : Machine.State, u = { s with trip := { s.trip with stops := rest } } →
        (∀ c, s.trip.commit = some c → c.stop = e.stop → c.staged = false → s.commitWaits c.tag = true →
          ∃ t, exec (.cancelRequest req n up) s = .next t ∧ t.trip.commit = none ∧ t.r Reg.TRIP_TARGET_TARGET = s.reachTarget % 256 ∧
            (t.net.answers.head?.map fun a => a.code) = some 0x20 ∧ SameMemory s t) ∧
        ((∀ c, s.trip.commit = some c → c.stop ≠ e.stop ∨ c.staged = true ∨ s.commitWaits c.tag = false) →
          (∀ k, s.cruising = true → (u.beyond e.stop) = some k →
            ∃ t, exec (.cancelRequest req n up) s = .next t ∧ t.r Reg.TRIP_TARGET_TARGET = k.1 % 256 ∧ t.r Reg.TRIP_SPLICE_STATE = 2 ∧
              (t.net.answers.head?.map fun a => a.code) = some 0x20 ∧ SameMemory s t) ∧
          (s.cruising = false ∨ (u.beyond e.stop) = none →
            ∃ t, exec (.cancelRequest req n up) s = .next t ∧ t.trip.stops = rest ∧
              (t.net.answers.head?.map fun a => a.code) = some 0x21 ∧ SameMemory s t)))))

/-- O31. The network reset line and the snapshots. An accepted PRESS drives the reset line, its RELEASE lets it go; 30 ms without
either abandon the press, whose line goes low 5 s after it began. A SNAPSHOT between 100 microseconds and 60 s ahead arms with
its TAG, and a repeat of one that is armed or captured changes no register. At its instant every counter is captured and nothing
is armed; the set goes into the next bank, unless that holds an unread one, and is raised; a release makes each bank it names
READ, an EMPTY one too, as log entry 66 reads R345. Commands that complete by it: resetPress, resetRelease, resetPressTimeout,
resetAbandonEnd, snapshotFrame, snapshotCapture, snapshotBankCopy, netSnapRelease. (R333, R343, R344, R345) -/
def Obligations.NetworkResetAndSnapshotsComplete : Prop :=
  (∀ (s : Machine.State) (x : ResetFrame) (rest : List ResetFrame), s.net.bufReset = x :: rest →
    (s.resetAccepts x = true → x.state = 1 → s.net.press = none → s.net.pressDone ≠ some x.id →
      ∃ t, exec .resetPress s = .next t ∧ t.r Reg.NET_RESET_LINE = 1 ∧ t.net.press = some ⟨x.id, s.optime, s.optime, false⟩ ∧
        t.net.bufReset = rest ∧ RegsBut [Reg.NET_RESET_LINE, Reg.NET_RESET_RESET_ID] s t ∧ SameMemory s t) ∧
    (∀ y, s.resetAccepts x = true → x.state = 2 → s.net.press = some y → y.abandoned = false → y.id = x.id →
      ∃ t, exec .resetRelease s = .next t ∧ t.r Reg.NET_RESET_LINE = 0 ∧ t.net.press = none ∧ t.net.pressDone = some x.id ∧
        RegsBut [Reg.NET_RESET_LINE] s t ∧ SameMemory s t)) ∧
  (∀ (s : Machine.State) (x : Press), s.net.press = some x →
    (x.abandoned = false → 30000 ≤ s.since x.last →
      ∃ t, exec .resetPressTimeout s = .next t ∧ t.r Reg.NET_RESET_ABANDONING = 1 ∧ t.net.press = some { x with abandoned := true } ∧
        Pending Evt.RESET_ABANDONED t ∧ RegsBut [Reg.NET_RESET_ABANDONING, Reg.NET_RESET_ABANDONED] s t ∧ SameMemory s t) ∧
    (x.abandoned = true → 5000000 ≤ s.since x.first →
      ∃ t, exec .resetAbandonEnd s = .next t ∧ t.r Reg.NET_RESET_LINE = 0 ∧ t.r Reg.NET_RESET_ABANDONING = 0 ∧ t.net.press = none ∧
        RegsBut [Reg.NET_RESET_LINE, Reg.NET_RESET_ABANDONING] s t ∧ SameMemory s t)) ∧
  (∀ (s : Machine.State) (p : Nat) (f : List Byte), Passed Kind.snapshot p f s → FirstSeen p f s → (parseRh f).origin = 1 →
    (parseRh f).dst = 255 →
    (s.r Reg.NET_SNAP_STATUS_ARMED = 0 → s.net.capture = none → s.net.captured = false →
      s.ptpNow + 100000 ≤ leAt (parseRh f).payload 4 8 → leAt (parseRh f).payload 4 8 ≤ s.ptpNow + 60000000000 →
      ∃ t, exec (.snapshotFrame p f) s = .next t ∧ t.r Reg.NET_SNAP_STATUS_ARMED = 1 ∧
        t.r Reg.NET_SNAP_ARMED_TAG = leAt (parseRh f).payload 0 2 ∧ t.snapInstant = leAt (parseRh f).payload 4 8 ∧
        RegsBut [Reg.NET_SNAP_STATUS_ARMED, Reg.NET_SNAP_ARMED_TAG, Reg.NET_SNAP_ARMED_OVERWRITE, Reg.NET_SNAP_AT_LO,
          Reg.NET_SNAP_AT_HI] s t ∧ SameMemory s t) ∧
    ((s.r Reg.NET_SNAP_STATUS_ARMED = 1 ∧ s.r Reg.NET_SNAP_ARMED_TAG = leAt (parseRh f).payload 0 2) ∨
      (∃ c, s.net.capture = some c ∧ c.tag = leAt (parseRh f).payload 0 2) ∨
      (s.net.captured = true ∧ s.r Reg.NET_SNAP_STATUS_LAST_TAG = leAt (parseRh f).payload 0 2) →
      ∃ t, exec (.snapshotFrame p f) s = .next t ∧ t.regs = s.regs ∧ t.net.capture = s.net.capture ∧ SameMemory s t)) ∧
  (∀ (s : Machine.State), s.r Reg.NET_SNAP_STATUS_ARMED = 1 → s.snapInstant ≤ s.ptpNow →
    ∃ t, exec .snapshotCapture s = .next t ∧ t.r Reg.NET_SNAP_STATUS_ARMED = 0 ∧ t.net.capture = some s.captureSet ∧
      RegsBut [Reg.NET_SNAP_STATUS_ARMED] s t ∧ SameMemory s t) ∧
  (∀ (s : Machine.State) (c : Snap) (b : Nat), s.net.capture = some c → s.r Reg.NET_SNAP_STATUS_NEXT = b → b < 4 →
    (s.bank b ≠ 1 → s.bank b ≠ 2 →
      ∃ t, exec .snapshotBankCopy s = .next t ∧ t.bank b = 1 ∧ nth t.net.banks b {} = c ∧ t.net.capture = none ∧
        t.r Reg.NET_SNAP_STATUS_NEXT = (b + 1) % 4 ∧ t.r Reg.NET_SNAP_STATUS_LAST_TAG = c.tag % 65536 ∧ Pending Evt.SNAP_TAKEN t ∧
        SameMemory s t) ∧
    (s.bank b = 1 → c.overwrite = false →
      ∃ t, exec .snapshotBankCopy s = .next t ∧ t.net.banks = s.net.banks ∧ t.r Reg.NET_SNAP_STATUS_BANKS = s.r Reg.NET_SNAP_STATUS_BANKS ∧
        Pending Evt.SNAP_REFUSED t ∧ SameMemory s t)) ∧
  (∀ (s : Machine.State) (v : Nat), Serving s → ∃ t, exec (.netSnapRelease v) s = .next t ∧
    (∀ b, b < 4 → t.bank b = if bitAt v b then 3 else s.bank b) ∧ RegsBut [Reg.NET_SNAP_STATUS_BANKS] s t ∧
    SameMemory s t)

/-- O32. Management frames are buffered and executed. A first MGMT_REQ frame for this module enters buffer 3 while it has room. The
oldest, of one access, is executed and leaves the buffer, and its MGMT_REPLY with the frame's TAG and the access's entry is
queued at the port on each network by which the request came: a read of a valid address returns the word as that path reads it
and changes no memory; a write by an origin that MGMT_WRITERS allows, of a valid address that IMAGE_FAIL or the table does not
refuse, is done as the path writes and returns the word that then stands; a write by another origin changes no register but the
drop counts and no memory and answers DENIED with the word that stands (log entry 67). In IMAGE_FAIL frames are discarded
unserved, which is the model's reading (log entry 83). Commands that complete by it: mgmtReqFrame, mgmtExecute. (R23, R58, R334,
R335) -/
def Obligations.ManagementFramesComplete : Prop :=
  (∀ (s : Machine.State) (p : Nat) (f : List Byte), Passed Kind.mgmtReq p f s → FirstSeen p f s →
    (parseRh f).dst ≠ 255 ∨ leAt (parseRh f).payload 4 8 = s.serial → s.net.bufMgmt.length < 8 →
    ∃ t x, exec (.mgmtReqFrame p f) s = .next t ∧ t.net.bufMgmt = s.net.bufMgmt ++ [x] ∧ x.src = (parseRh f).src ∧
      x.origin = (parseRh f).origin ∧ x.tag = leAt (parseRh f).payload 0 2 ∧ t.regs = s.regs ∧ SameMemory s t) ∧
  (∀ (s : Machine.State) (x : MgmtReq) (rest : List MgmtReq), s.net.bufMgmt = x :: rest →
    (s.r Reg.IMG_MODULE_STATE_PHASE = 7 →
      ∃ t, exec .mgmtExecute s = .next t ∧ t.net.bufMgmt = rest ∧ t.regs = s.regs ∧ SameMemory s t) ∧
    (∀ a v, Serving s → s.r Reg.NET_STATUS_TRANSPARENT = 0 → (s.path x.path).ap.filling = false → a % 4 = 0 →
      (∀ u, x.accesses = [(a + 1, v)] → addrValid a = true → u = (readAt x.path a s).fin →
        ∃ t, exec .mgmtExecute s = .next t ∧ Replied x (mgmtEntry (a + 1) (u.path x.path).data 0) u t ∧ SameMemory s t) ∧
      (∀ u, x.accesses = [(a + 2, v)] → s.writerOk x.origin = true → addrValid a = true → s.writeRefused x.path a v = false →
        u = (writeReg x.path a v s).fin → u.net.bufMgmt = s.net.bufMgmt → u.r Reg.NET_STATUS_TRANSPARENT = 0 →
        ∃ t, exec .mgmtExecute s = .next t ∧ Replied x (mgmtEntry (a + 2) (u.present x.path a) 0) u t) ∧
      (x.accesses = [(a + 2, v)] → s.writerOk x.origin = false →
        ∃ t, exec .mgmtExecute s = .next t ∧
          Replied x (mgmtEntry (a + 2) (if addrValid a then s.present x.path a else 0) 64) s t ∧ SameMemory s t)))

/-- O33. Enumeration, addresses and adjacency. The first ENUMERATE frame of an enumeration at a head port is awaited on the other
network. Equal counters below 254 that leave a gap give an unaddressed module without a partner's address the next address;
different ones raise ADDR_SPLIT. NET_ADDR_CMD CLEAR under the seal, with the car idle or out of service, clears the address; any
other, as with the car on its way, is refused. Every 100 ms, and not before, the ADJ frame of each port with room is queued at
it, a frame of its own SEQ for the head ports and for the tail ports; a received one makes the module adjacent, 300 ms without
one absent. Commands that complete by it: enumerateFrame, enumerateDecision, netAddrCmdClear, adjSend, adjFrame, adjAbsent.
(R338, R339, R340) -/
def Obligations.AddressesAndAdjacencyComplete : Prop :=
  (∀ (s : Machine.State) (p : Nat) (f : List Byte), Passed Kind.enumerate p f s → (parseRh f).origin = 1 → s.net.enum = none →
    s.net.enumDone ≠ some (leAt (parseRh f).payload 0 2) →
    ∃ t w, exec (.enumerateFrame p f) s = .next t ∧ t.net.enum = some w ∧ w.id = leAt (parseRh f).payload 0 2 ∧
      nth w.counters (p / 2) none = some (leAt (parseRh f).payload 2 1) ∧ w.at_ = s.optime ∧ t.regs = s.regs ∧ SameMemory s t) ∧
  (∀ (s : Machine.State) (id a b : Nat) (t0 : Time), s.net.enum = some ⟨id, [some a, some b], t0⟩ → id < 65536 →
    (a = b → a < 254 → s.r Reg.NET_ADDR_ADDRESS = 0 → s.partnerTook id = none → (s.gapRule a).1 = true →
      ∃ t, exec .enumerateDecision s = .next t ∧ t.r Reg.NET_ADDR_ADDRESS = a + 1 ∧ t.r Reg.NET_ADDR_ENUM_ID = id ∧ t.net.enum = none ∧
        t.net.enumDone = some id ∧ Pending Evt.ADDR_ASSIGNED t ∧ SameMemory s t) ∧
    (a ≠ b →
      ∃ t, exec .enumerateDecision s = .next t ∧ t.net.split = true ∧ t.net.enum = none ∧ Pending Evt.ADDR_SPLIT t ∧
        t.r Reg.NET_ADDR_ADDRESS = s.r Reg.NET_ADDR_ADDRESS ∧ SameMemory s t)) ∧
  (∀ (s : Machine.State),
    (Serving s → s.sealOpen = true → s.r Reg.TRIP_STATUS_STATE = 0 ∨ s.r Reg.TRIP_STATUS_STATE = 5 →
      ∃ t, exec (.netAddrCmdClear 1 0x51D7) s = .next t ∧ t.r Reg.NET_ADDR_ADDRESS = 0 ∧ t.r Reg.NET_ADDR_ENUM_ID = 0 ∧
        RegsBut [Reg.NET_ADDR_ADDRESS, Reg.NET_ADDR_ENUM_ID, Reg.IMG_MODULE_STATE_LISTENING] s t ∧ SameMemory s t) ∧
    (∀ c k, Serving s → s.sealOpen = false ∨ k ≠ 0x51D7 ∨ c ≠ 1 ∨ (s.r Reg.TRIP_STATUS_STATE ≠ 0 ∧ s.r Reg.TRIP_STATUS_STATE ≠ 5) →
      ∃ t, exec (.netAddrCmdClear c k) s = .next t ∧ t.r Reg.NET_STATUS_CMD_REFUSED = 1 ∧ RegsBut [Reg.NET_STATUS_CMD_REFUSED] s t ∧
        SameMemory s t) ∧
    (s.net.adjSent = none ∨ (∃ t0, s.net.adjSent = some t0 ∧ 100000 ≤ s.since t0) → s.r Reg.NET_STATUS_TRANSPARENT = 0 →
      ∃ t, exec .adjSend s = .next t ∧ t.net.adjSent = some s.optime ∧
        (∀ p, p < 4 → (queueOf s p 1).length < 16 → ∀ q, q = (if p % 2 = 0 then s else s.countSeq Kind.adj).nextSeq Kind.adj →
          queueOf t p 1 = queueOf s p 1 ++ [.raw (buildFrame s (p / 2)
            ⟨1, Kind.adj, s.r Reg.NET_ADDR_ADDRESS, s.srcInfo q.2, 255, 3, q.1⟩ (s.adjPayload (p % 2)))]) ∧ SameMemory s t) ∧
    (∀ t0, s.net.adjSent = some t0 → s.since t0 < 100000 →
      ∃ t, exec .adjSend s = .next t ∧ t.net = s.net ∧ t.regs = s.regs ∧ SameMemory s t)) ∧
  (∀ (s : Machine.State) (p : Nat) (f : List Byte), Passed Kind.adj p f s → FirstSeen p f s →
    ∃ t, exec (.adjFrame p f) s = .next t ∧ (nth t.net.adj p {}).present = true ∧
      (nth t.net.adj p {}).serial = leAt (parseRh f).payload 0 8 ∧ (nth t.net.adj p {}).at_ = s.optime ∧
      RegsBut [Reg.NET_STATUS_CHAIN_ORDER] s t ∧ SameMemory s t) ∧
  (∀ (s : Machine.State) (p : Nat), p < 4 → (nth s.net.adj p {}).present = true → 300000 < s.since (nth s.net.adj p {}).at_ →
    ∃ t, exec (.adjAbsent p) s = .next t ∧ (nth t.net.adj p {}).present = false ∧ RegsBut [Reg.NET_STATUS_CHAIN_ORDER] s t ∧
      SameMemory s t)

/-- O34. The precision time protocol. In operation a two-step Sync of the own domain, of the grandmaster chosen on that network,
within 200 ns of the network's clock, the eighth in a row, locks that network with PTP_LOCKED; 3 s without one unlock it with
PTP_UNLOCKED. Each second a port sends a Pdelay_Req with the next sequence number; a received one is answered with the response
and, once that has left, its follow-up; the answer to the own one gives the peer delay. An Announce of the own domain is
forwarded and judged by the best master rule. The clocks' rate while they are corrected is log entry 21's, the messages' layouts
are those of IEEE 1588 (log entry 22), and that a Sync is taken from the chosen grandmaster alone is log entry 64's reading.
Commands that complete by it: ptpSync, ptpSyncTimeout, pdelayReqSend, pdelayReq, frameTransmit, pdelayResp, announce. (R336,
R337) -/
def Obligations.PrecisionTimeComplete : Prop :=
  (∀ (s : Machine.State) (b : Bool) (n : Nat) (i : Int) (g m : Nat), b2n b = n → s.controlReady = true → s.fromMaster n m = true → -7 ≤ i → i ≤ 0 →
    s.lockedOn n = false → mag (((s.clock n).half / 2 : Nat) - (g : Int)) ≤ 200 → 7 ≤ (s.clock n).run →
    ∃ t, exec (.ptpSync b (s.r Reg.NET_MISC_CFG_PTP_DOMAIN) true i g m) s = .next t ∧ t.lockedOn n = true ∧ Pending Evt.PTP_LOCKED t ∧
      (t.clock n).lastSync = s.optime ∧
      RegsBut [Reg.NET_STATUS_PTP_A, Reg.NET_STATUS_PTP_B, Reg.NET_STATUS_PTP_SOURCE, Reg.NET_PTP_OFFSET_A, Reg.NET_PTP_OFFSET_B] s t ∧
      SameMemory s t) ∧
  (∀ (s : Machine.State) (b : Bool), s.lockedOn (b2n b) = true → 3000000 ≤ s.since (s.clock (b2n b)).lastSync →
    ∃ t, exec (.ptpSyncTimeout b) s = .next t ∧ t.r (ptpField (b2n b)) = 0 ∧ Pending Evt.PTP_UNLOCKED t ∧
      RegsBut [Reg.NET_STATUS_PTP_A, Reg.NET_STATUS_PTP_B, Reg.NET_STATUS_PTP_SOURCE] s t ∧ SameMemory s t) ∧
  (∀ (s : Machine.State) (p : Nat), p < 4 → s.controlReady = true →
    ((s.port p).pdelayAt = none → (queueOf s p 0).length < 8 →
      ∃ t, exec (.pdelayReqSend p) s = .next t ∧ queueOf t p 0 = queueOf s p 0 ++ [.raw (s.pdelayFrame p 2 0 (s.port p).pdelaySeq 0 (List.replicate 20 0))] ∧
        (t.port p).pdelaySeq = ((s.port p).pdelaySeq + 1) % 65536 ∧ (t.port p).pdelayWait = true ∧ t.regs = s.regs ∧ SameMemory s t) ∧
    (∀ f who q, who = slice f (ethHead + 20) 10 → q = beNat (slice f (ethHead + 30) 2) → s.linkUp p = true → (queueOf s p 0).length < 8 →
      ∃ t, exec (.pdelayReq p f) s = .next t ∧
        queueOf t p 0 = queueOf s p 0 ++ [.pdelayResp (s.pdelayFrame p 3 0x0200 q 0x7F (s.ptpStamp (p / 2) ++ who)) who q] ∧
        t.regs = s.regs ∧ SameMemory s t) ∧
    (∀ b who q rest, s.linkUp p = true → queueOf s p 0 = .pdelayResp b who q :: rest → rest.length < 8 →
      ∃ t, exec (.frameTransmit p) s = .next t ∧ (t.port p).sent = some (.pdelayResp b who q) ∧
        queueOf t p 0 = rest ++ [.raw (s.pdelayFrame p 10 0 q 0x7F (s.ptpStamp (p / 2) ++ who))] ∧ t.regs = s.regs ∧ SameMemory s t) ∧
    (∀ q d, (s.port p).pdelayWait = true → (q + 1) % 65536 = (s.port p).pdelaySeq → d < 65536 →
      ∃ t, exec (.pdelayResp p q d) s = .next t ∧ t.peerDelay p = d ∧ (t.port p).pdelayWait = false ∧ SameMemory s t) ∧
    (∀ f, leAt f (ethHead + 4) 1 = s.r Reg.NET_MISC_CFG_PTP_DOMAIN → (queueOf s (otherPort p) 0).length < 8 →
      ∃ t, exec (.announce p f) s = .next t ∧ queueOf t (otherPort p) 0 = queueOf s (otherPort p) 0 ++ [.raw f] ∧
        (t.clock (p / 2)).best = some (bestMaster (parseAnnounce f) (s.clock (p / 2)).best) ∧ t.regs = s.regs ∧ SameMemory s t))

/-- O35. HELLO, the link and the messages of a pair member. A pair member in operation sends HELLO 10 ms after the last one while
its queue holds fewer than 64. A received message counts only with its CRC right: one whose CRC is wrong is discarded and
counted, whatever its kind. A HELLO brings the link up and records the partner. 30 ms without a HELLO take the link down: the
active raises MIR_PARTNER_LOST, the standby's shadow is DETACHED with MIR_LINK_DOWN. The active answers SYNC_REQ with a SYNC of
its present state. The standby adopts a SYNC whose period has come and keeps one whose period has not; that a SYNC names its
sender's present period and is adopted once that has come is log entry 73's reading. Commands that complete by it: helloSend,
hello, mirLinkDown, syncReq, sync. (R351, R353, R355, R362) -/
def Obligations.PairLinkMessagesComplete : Prop :=
  (∀ (s : Machine.State) (t0 : Time), s.paired = true → s.controlReady = true → s.mir.helloSent = some t0 → 10000 ≤ s.since t0 →
    s.mir.out.length < 64 →
    ∃ t, exec .helloSend s = .next t ∧ t.mir.helloSent = some s.optime ∧ t.mir.out = s.mir.out ++ [.hello s.hello] ∧ t.regs = s.regs ∧
      SameMemory s t) ∧
  (∀ (s : Machine.State) (c : Instr) (h : Hello) (n : Nat) (x : JournalRec) (b : SyncBody) (ws : List Nat) (f : Bool), s.paired = true →
    (c = .hello h n false ∨ c = .journal x false ∨ c = .syncReq n false ∨ c = .sync b false ∨ c = .handoverMessage n f false ∨
      c = .neighboursMessage ws false ∨ c = .commandMessage n f false) →
    ∃ t, exec c s = .next t ∧ t.r Reg.MIR_LINK_CRC_ERR = satN Reg.MIR_LINK_CRC_ERR.width (s.r Reg.MIR_LINK_CRC_ERR + 1) ∧
      t.mir = s.mir ∧ RegsBut [Reg.MIR_LINK_CRC_ERR] s t ∧ SameMemory s t) ∧
  (∀ (s : Machine.State) (h : Hello) (n : Nat), s.paired = true → s.r Reg.MIR_STATUS_LINK_UP = 0 →
    ∃ t, exec (.hello h n true) s = .next t ∧ t.r Reg.MIR_STATUS_LINK_UP = 1 ∧ t.r Reg.MIR_STATUS_PARTNER = 1 ∧ t.mir.partner = some h ∧
      t.mir.lastHello = s.optime ∧ Pending Evt.MIR_LINK_UP t ∧ SameMemory s t) ∧
  (∀ (s : Machine.State), s.r Reg.MIR_STATUS_LINK_UP = 1 → 30000 < s.since s.mir.lastHello →
    (s.r Reg.MIR_STATUS_OWN_LINE = 1 →
      ∃ t, exec .mirLinkDown s = .next t ∧ t.r Reg.MIR_STATUS_LINK_UP = 0 ∧ Pending Evt.MIR_PARTNER_LOST t ∧ SameMemory s t) ∧
    (s.r Reg.MIR_STATUS_OWN_LINE = 0 →
      ∃ t, exec .mirLinkDown s = .next t ∧ t.r Reg.MIR_STATUS_LINK_UP = 0 ∧ t.r Reg.MIR_STATUS_SHADOW = 4 ∧
        Pending Evt.MIR_LINK_DOWN t ∧ SameMemory s t)) ∧
  (∀ (s : Machine.State) (i : Nat), i < 16 → s.paired = true → s.r Reg.MIR_STATUS_OWN_LINE = 1 → s.mir.out.length < 64 →
    ∃ t, exec (.syncReq i true) s = .next t ∧ t.mir.out = s.mir.out ++ [.sync s.syncBody] ∧ SameMemory s t) ∧
  (∀ (s : Machine.State) (b : SyncBody), s.standby = true →
    (s.periodDue b.period = true →
      ∃ t, exec (.sync b true) s = .next t ∧ t.r Reg.MIR_STATUS_SHADOW = 1 ∧ t.mir.syncWait = none ∧ t.trip.chans = b.chans ∧
        t.trip.stops = b.stops ∧ t.loop.eng = b.eng ∧ SameMemory s t) ∧
    (s.periodDue b.period = false → ∃ t, exec (.sync b true) s = .next t ∧ t.mir.syncWait = some b ∧ t.trip = s.trip ∧ SameMemory s t))

/-- O36. The standby shadows its active. A STATE message whose CRC is right, for the standby's present period and within 20
microseconds of its start, is that period's heartbeat; one whose form or CRC is wrong is counted as such. 20 microseconds into a
car period without a heartbeat, a miss is counted once. A SYNCED shadow is CLEAN, with MIR_CLEAN, after MIR_CLEAN_S of it. A
journal record of a stop-list change is applied by the standby: the list is the one recorded and STOPS_VER counts it. A car
period of an active pair member whose handover is not due, run to its end, has the STATE message of the state after it in the
link's queue if that has room. Commands that complete by it: stateMessage, heartbeatMissing, mirClean, journal, carLoopPeriod.
(R353, R354, R355) -/
def Obligations.ShadowAndHeartbeatComplete : Prop :=
  (∀ (s : Machine.State) (m act : List Byte), s.standby = true → s.r Reg.PWR_STATUS_PARKED = 0 →
    (∀ age : Nat, stateOf m = some act → s.mir.aligned = true → leAt act 0 4 = s.mir.k → s.since ((s.eng 0).lastAt.getD s.optime) ≤ 20 →
      ∃ t, exec (.stateMessage m age) s = .next t ∧ t.mir.hb = some act ∧ t.mir.hbK = some s.mir.k ∧ t.mir.hbMiss = 0 ∧ SameMemory s t) ∧
    (∀ age : Nat, stateOf m = none →
      ∃ t, exec (.stateMessage m age) s = .next t ∧ t.r Reg.MIR_LINK_CRC_ERR = satN Reg.MIR_LINK_CRC_ERR.width (s.r Reg.MIR_LINK_CRC_ERR + 1) ∧
        t.mir = s.mir ∧ SameMemory s t)) ∧
  (∀ (s : Machine.State) (t0 : Time), s.standby = true → s.mir.aligned = true → s.r Reg.PWR_STATUS_PARKED = 0 → s.mir.hbK ≠ some s.mir.k →
    s.mir.missK ≠ some s.mir.k → (s.eng 0).lastAt = some t0 → 20 ≤ s.since t0 →
    ∃ t, exec .heartbeatMissing s = .next t ∧ t.mir.hbMiss = min 2 (s.mir.hbMiss + 1) ∧ t.mir.missK = some s.mir.k ∧
      t.r Reg.MIR_LINK_MISSED = satN Reg.MIR_LINK_MISSED.width (s.r Reg.MIR_LINK_MISSED + 1) ∧
      RegsBut [Reg.MIR_LINK_MISSED] s t ∧ SameMemory s t) ∧
  (∀ (s : Machine.State) (t0 : Time), s.standby = true → s.shadow = 2 → s.mir.syncedAt = some t0 →
    s.r Reg.MIR_CFG_MIR_CLEAN_S * 1000000 ≤ s.since t0 →
    ∃ t, exec .mirClean s = .next t ∧ t.r Reg.MIR_STATUS_SHADOW = 3 ∧ Pending Evt.MIR_CLEAN t ∧ RegsBut [Reg.MIR_STATUS_SHADOW] s t ∧
      SameMemory s t) ∧
  (∀ (s : Machine.State) (x : StopChange), s.standby = true → x.list ≠ s.trip.stops → x.payload = 0 →
    ∃ t, exec (.journal (.stops x) true) s = .next t ∧ t.trip.stops = x.list ∧ t.mir.stopsVer = (s.mir.stopsVer + 1) % 65536 ∧
      t.regs = s.regs ∧ SameMemory s t) ∧
  (∀ (s u : Machine.State) (mismatch sparePass : Bool), s.r Reg.PWR_STATUS_PARKED = 0 → s.pwr.parkDue = false → s.standby = false →
    s.carPeriod.isSome = true → (s.eng 0).lastAt ≠ some s.optime →
    u = carLoopPeriod mismatch sparePass { s with mir := { s.mir with k := s.periodIndex } } →
    u.paired = true → u.r Reg.MIR_STATUS_OWN_LINE = 1 → u.handoverDue = false → u.mir.out.length < 64 →
    ∃ t, exec (.carLoopPeriod mismatch sparePass) s = .next t ∧ t.mir.k = u.mir.k ∧ LinkMsg.state u.statePayload ∈ t.mir.out)

/-- O37. The role lines, the takeover and the handover. A SYNCED standby that may raise its line and is not Parked takes control on
two missing heartbeats: its line is raised, the hold ends, the takeover is counted and reported. Without either line for
REQ_HOLD, the held requests become absent; a standby that is not synced then takes control of a car that stands, which goes out
of service with cause 5, and none of a car that moves. HANDOVER names a period at the standby, or tells it that the active
resigns. At a quiet point with a CLEAN partner and a cause, the active starts a handover four periods ahead and holds starts; at
its period, with nothing broken, it drops its line; the standby at that period takes control. Commands that complete by it:
takeover, reqHoldExpiry, handoverMessage, autoHandover, handoverExecute. (R349, R350, R359, R361, R363, R364) -/
def Obligations.TakeoverAndHandoverComplete : Prop :=
  (∀ (s : Machine.State), s.mayRaise = true → s.synced = true → 2 ≤ s.mir.hbMiss → s.r Reg.PWR_STATUS_PARKED = 0 → s.r Reg.MIR_STATUS_FOREIGN = 0 →
    ∃ t, exec .takeover s = .next t ∧ t.r Reg.MIR_STATUS_OWN_LINE = 1 ∧ t.r Reg.MIR_STATUS_ROLE = 1 ∧ t.mir.hbMiss = 0 ∧
      t.r Reg.MIR_STATUS_REQ_HOLD = 0 ∧ t.mir.held = 0 ∧
      t.r Reg.MIR_COUNT_TAKEOVERS = satN Reg.MIR_COUNT_TAKEOVERS.width (s.r Reg.MIR_COUNT_TAKEOVERS + 1) ∧
      t.r Reg.MIR_LAST_TAKEOVER = s.now32 ∧ Pending Evt.MIR_TAKEOVER t ∧ SameMemory s t) ∧
  (∀ (s : Machine.State), s.standby = true → s.r Reg.MIR_STATUS_PARTNER_LINE = 0 → 250 ≤ s.since s.mir.holdAt → s.r Reg.PWR_STATUS_PARKED = 0 →
    (s.synced = true ∨ s.standstill = false →
      ∃ t, exec .reqHoldExpiry s = .next t ∧ t.mir.held = 0 ∧ t.r Reg.MIR_STATUS_REQ_HOLD = 0 ∧ t.laneReqs = 0 ∧
        t.r Reg.MIR_STATUS_OWN_LINE = 0 ∧ SameMemory s t) ∧
    (s.mayRaise = true → s.synced = false → s.handoverAhead = false → s.mir.resigned = false → s.standstill = true →
      ∃ t, exec .reqHoldExpiry s = .next t ∧ t.r Reg.MIR_STATUS_OWN_LINE = 1 ∧ t.r Reg.MIR_STATUS_ROLE = 1 ∧ t.mir.held = 0 ∧
        t.r Reg.MIR_COUNT_TAKEOVERS = satN Reg.MIR_COUNT_TAKEOVERS.width (s.r Reg.MIR_COUNT_TAKEOVERS + 1) ∧
        Pending Evt.MIR_TAKEOVER t ∧ t.outOfService = true ∧ bitAt (t.r Reg.TRIP_OOS_CAUSES) 5 = true ∧ Pending Evt.OUT_OF_SERVICE t ∧
        SameMemory s t)) ∧
  (∀ (s : Machine.State) (k : Nat), s.standby = true → k < 2 ^ 32 →
    (∃ t, exec (.handoverMessage k false true) s = .next t ∧ t.mir.handAt = some k ∧ SameMemory s t) ∧
    ∃ t, exec (.handoverMessage k true true) s = .next t ∧ t.mir.resigned = true ∧ t.mir.handAt = s.mir.handAt ∧ SameMemory s t) ∧
  (∀ (s : Machine.State) (why : Nat), s.paired = true → s.r Reg.MIR_STATUS_OWN_LINE = 1 → s.mir.handAt = none → s.quiet = true →
    s.partnerClean = true → s.mir.adoptAt = none → s.handoverCause = some why → s.mir.out.length < 64 →
    ∃ t, exec .autoHandover s = .next t ∧ t.mir.handAt = some ((s.mir.k + 4) % 2 ^ 32) ∧ t.mir.handWhy = why ∧
      t.r Reg.MIR_STATUS_HOLD_STARTS = 1 ∧ t.mir.out = s.mir.out ++ [.handover ((s.mir.k + 4) % 2 ^ 32) false] ∧ SameMemory s t) ∧
  (∀ (s : Machine.State) (k : Nat), s.mir.handAt = some k → s.periodDue k = true →
    (s.r Reg.MIR_STATUS_OWN_LINE = 1 → s.handoverBroken = none →
      ∃ t, exec .handoverExecute s = .next t ∧ t.r Reg.MIR_STATUS_OWN_LINE = 0 ∧ t.r Reg.MIR_STATUS_HOLD_STARTS = 0 ∧ t.mir.handAt = none ∧
        Pending Evt.MIR_HANDOVER t ∧ SameMemory s t) ∧
    (s.r Reg.MIR_STATUS_OWN_LINE = 0 → s.mayRaise = true → s.synced = true →
      ∃ t, exec .handoverExecute s = .next t ∧ t.r Reg.MIR_STATUS_OWN_LINE = 1 ∧ t.r Reg.MIR_STATUS_ROLE = 1 ∧
        Pending Evt.MIR_HANDOVER t ∧ SameMemory s t))

/-- O38. Role lines and mirror commands. A change of the partner's line at a pair member is shown; a rise ends the hold of requests,
and a fall at a module whose own line is low starts it with the requests that the lanes took. An own line without a completed
car period, or while Parked without a car sample, for more than 100 microseconds drops, and the module is standby with its
shadow SYNCING, or DETACHED while the link is down. The lanes take a module's own requests while it is single or its line is
raised, the partner's while the partner's is, else what is held. With the confirm value: HANDOVER at an active with a CLEAN
partner waits for a quiet point; RELEASE at a standby sets RELEASED with MIR_RELEASED, tells the partner and is refused at an
active; ATTACH without a conducting PARTNER output clears RELEASED; ADOPT that nothing refuses waits and tells the active. The
active learns of the adoption by the COMMAND message and answers it; the hold on starts ends 100 ms after the adoption at the
latest. A NEIGHBOURS message replaces what is known of the partner's neighbours. Commands that complete by it: roleLineChange,
laneRequestChange, roleLineDrop, mirCmdHandover, mirCmdRelease, mirCmdAttach, mirCmdAdopt, commandMessage, adoptHoldRelease,
neighboursMessage. (R338, R349, R350, R364, R365, R367, R444) -/
def Obligations.RoleLinesAndMirrorCommandsComplete : Prop :=
  ((∀ (s : Machine.State) (bus : Nat), s.paired = true →
    (s.r Reg.MIR_STATUS_PARTNER_LINE = 0 → s.r Reg.MIR_STATUS_OWN_LINE = 0 →
      ∃ t, exec (.roleLineChange true bus) s = .next t ∧ t.r Reg.MIR_STATUS_PARTNER_LINE = 1 ∧ t.r Reg.MIR_STATUS_REQ_HOLD = 0 ∧
        (s.mir.clash = false → t.r Reg.MIR_STATUS_ROLE = 2) ∧ t.mir.bus = bus % 128 ∧ t.laneReqs = bus % 128 ∧ SameMemory s t) ∧
    (s.r Reg.MIR_STATUS_PARTNER_LINE = 1 → s.r Reg.MIR_STATUS_OWN_LINE = 0 →
      ∃ t, exec (.roleLineChange false bus) s = .next t ∧ t.r Reg.MIR_STATUS_PARTNER_LINE = 0 ∧ t.r Reg.MIR_STATUS_REQ_HOLD = 1 ∧
        t.mir.held = bus % 128 ∧ t.mir.holdAt = s.optime ∧ t.laneReqs = bus % 128 ∧ SameMemory s t)) ∧
  (∀ (s : Machine.State) (laneB : Bool) (bus : Nat), s.paired = false ∨ s.r Reg.MIR_STATUS_OWN_LINE = 1 →
    s.laneReqs = s.saf.req % 64 + 64 * s.r Reg.NET_RESET_LINE ∧
    ∃ t, exec (.laneRequestChange laneB bus) s = .next t ∧ (t.lane (b2n laneB)).reqSeen = s.saf.req % 64 ∧
      RegsBut [Reg.SAF_TEST_COUNT_ABORTED] s t ∧ SameMemory s t) ∧
  (∀ (s : Machine.State), s.paired = true → s.r Reg.MIR_STATUS_OWN_LINE = 1 →
    (s.r Reg.PWR_STATUS_PARKED = 0 ∧ 100 < s.sinceOrReady (s.eng 0).lastAt ∧ 100 < s.since s.pwr.leftAt) ∨
      (s.r Reg.PWR_STATUS_PARKED = 1 ∧ 100 < s.since s.pos.sample.time) →
    ∃ t, exec .roleLineDrop s = .next t ∧ t.r Reg.MIR_STATUS_OWN_LINE = 0 ∧ t.r Reg.MIR_STATUS_ROLE = 2 ∧
      t.mir.held = s.saf.req % 64 + 64 * s.r Reg.NET_RESET_LINE ∧ t.r Reg.MIR_STATUS_SHADOW = (if s.rb Reg.MIR_STATUS_LINK_UP then 1 else 4) ∧ SameMemory s t)) ∧
  ((∀ (s : Machine.State), Serving s → s.paired = true → s.r Reg.MIR_STATUS_OWN_LINE = 1 → s.partnerClean = true →
    ∃ t, exec (.mirCmdHandover 0x3C96) s = .next t ∧ t.mir.handCmd = true ∧ t.r Reg.MIR_CMD_STATUS_RESULT = 1 ∧
      RegsBut [Reg.MIR_CMD_STATUS_CMD, Reg.MIR_CMD_STATUS_RESULT, Reg.MIR_CMD_STATUS_REASON] s t ∧ SameMemory s t) ∧
  (∀ (s : Machine.State), Serving s →
    (s.active = false →
      ∃ t, exec (.mirCmdRelease 0x3C96) s = .next t ∧ t.r Reg.MIR_STATUS_RELEASED = 1 ∧ t.r Reg.MIR_CMD_STATUS_RESULT = 2 ∧
        (s.mir.out.length < 64 → t.mir.out = s.mir.out ++ [.command 2 none]) ∧ Pending Evt.MIR_RELEASED t ∧ SameMemory s t) ∧
    (s.active = true →
      ∃ t, exec (.mirCmdRelease 0x3C96) s = .next t ∧ t.r Reg.MIR_CMD_STATUS_RESULT = 3 ∧ Pending Evt.MIR_CMD_REFUSED t ∧
        RegsBut [Reg.MIR_CMD_STATUS_CMD, Reg.MIR_CMD_STATUS_RESULT, Reg.MIR_CMD_STATUS_REASON] s t ∧ SameMemory s t)) ∧
  (∀ (s : Machine.State), Serving s → s.partnerConducts = false →
    ∃ t, exec (.mirCmdAttach 0x3C96) s = .next t ∧ t.r Reg.MIR_STATUS_RELEASED = 0 ∧ Pending Evt.MIR_RELEASED t ∧ SameMemory s t) ∧
  (∀ (s : Machine.State), Serving s → s.adoptRefusal = none → s.mir.out.length < 64 →
    ∃ t, exec (.mirCmdAdopt 0x3C96) s = .next t ∧ t.mir.adoptWait = true ∧ t.mir.out = s.mir.out ++ [.command 4 none] ∧
      t.r Reg.MIR_CMD_STATUS_RESULT = 1 ∧ SameMemory s t) ∧
  (∀ (s : Machine.State), s.paired = true → s.r Reg.MIR_STATUS_OWN_LINE = 1 → s.mir.out.length < 64 →
    ∃ t, exec (.commandMessage 4 false true) s = .next t ∧ t.mir.partnerAdopts = true ∧
      t.mir.out = s.mir.out ++ [.command 4 (some 0)] ∧ SameMemory s t) ∧
  (∀ (s : Machine.State) (t0 : Time), s.mir.adoptAt = some t0 → 100000 ≤ s.since t0 →
    ∃ t, exec .adoptHoldRelease s = .next t ∧ t.mir.adoptAt = none ∧ t.mir.heldDoors = [] ∧ t.r Reg.MIR_STATUS_HOLD_STARTS = 0 ∧
      SameMemory s t) ∧
  (∀ (s : Machine.State) (ws : List Nat), s.paired = true →
    ∃ t, exec (.neighboursMessage ws true) s = .next t ∧ t.net.partnerAddr = (nth ws 8 0, nth ws 9 0) ∧ SameMemory s t))

/-- O39. Uncorrectable words, remaps and failed blocks. An uncorrectable word of the near store or table store reads as all ones
from then on, every other byte as before, its row or page is due for remapping, and it is raised. A due row, or one with a weak
margin, gets the next spare while no other remap runs and one is free. When its copy is complete the mapping switches, FREE
falls and REMAPS rises by one, and it is raised. A deep-store block that fails is replaced by the next spare and counted; with
no spare it is retired and counted all the same, and an open write session to a slot ends with MEDIUM. What an uncorrectable
word reads as is log entry 80's reading; when a spare is allocated and counted, and when SPARES_LOW is raised, that of log entry
81. Commands that complete by it: memoryUncorrectable, memoryRemapStart, memoryRemapSwitch, deepBlockFail. (R55, R62, R368,
R369, R371) -/
def Obligations.MemoryErrorsAndRemapsComplete : Prop :=
  (∀ (s : Machine.State) (table : Bool) (o : Nat) (facet : Option Nat), o < rowCount table * rowBytes table →
    ∃ t, exec (.memoryUncorrectable table o facet) s = .next t ∧
      (∀ a, memGet (if table then t.table else t.near) a =
        if a / 4 = o / 4 then 0xFF else memGet (if table then s.table else s.near) a) ∧
      (if table then t.near = s.near else t.table = s.table) ∧ t.keep = s.keep ∧ t.deep = s.deep ∧
      (table, o / rowBytes table) ∈ t.mem.due ∧ Pending (if table then Evt.TABLE_UNCORR else Evt.NEAR_UNCORR) t ∧
      RegsBut [Reg.IMG_STATUS_TS_INCOMING_STATE] s t) ∧
  (∀ (s : Machine.State) (table : Bool) (row : Nat) (margin : Bool), s.mem.remap = none → s.r (spareFree table) ≠ 0 →
    row < rowCount table → margin = true ∨ (table, row) ∈ s.mem.due →
    ∃ t, exec (.memoryRemapStart table row margin) s = .next t ∧
      t.mem.remap = some ⟨table, row, (spareFree table).reset - s.r (spareFree table)⟩ ∧ (table, row) ∉ t.mem.due ∧
      t.regs = s.regs ∧ SameMemory s t) ∧
  (∀ (s : Machine.State) (x : Remap), s.mem.remap = some x →
    ∃ t, exec .memoryRemapSwitch s = .next t ∧ t.mem.remap = none ∧
      SMap.get (if x.table then t.mem.tableMap else t.mem.nearMap) x.row 0 = x.spare ∧
      t.r (spareFree x.table) = (s.r (spareFree x.table) - 1) % 2 ^ 13 ∧
      t.r (if x.table then Reg.MIR_SPARE_TABLE_REMAPS else Reg.MIR_SPARE_NEAR_REMAPS) =
        satN 13 (s.r (if x.table then Reg.MIR_SPARE_TABLE_REMAPS else Reg.MIR_SPARE_NEAR_REMAPS) + 1) ∧
      Pending (if x.table then Evt.TABLE_REMAP else Evt.NEAR_REMAP) t ∧
      (t.r (spareFree x.table) = 0 → Pending Evt.SPARES_LOW t) ∧
      RegsBut [spareFree x.table, if x.table then Reg.MIR_SPARE_TABLE_REMAPS else Reg.MIR_SPARE_NEAR_REMAPS,
        Reg.IMG_MODULE_STATE_SPARE_IN_USE] s t ∧ SameMemory s t) ∧
  (∀ (s : Machine.State) (block : Nat), block < 16384 →
    (s.r Reg.MIR_SPARE_DEEP_FREE ≠ 0 →
      ∃ t, exec (.deepBlockFail block) s = .next t ∧
        SMap.get t.mem.deepMap block 0 = 1966 - s.r Reg.MIR_SPARE_DEEP_FREE ∧
        t.r Reg.MIR_SPARE_DEEP_FREE = (s.r Reg.MIR_SPARE_DEEP_FREE - 1) % 2 ^ 12 ∧
        t.r Reg.MIR_SPARE_DEEP_RETIRED = satN 12 (s.r Reg.MIR_SPARE_DEEP_RETIRED + 1) ∧ Pending Evt.DEEP_RETIRED t ∧
        RegsBut [Reg.MIR_SPARE_DEEP_FREE, Reg.MIR_SPARE_DEEP_RETIRED, Reg.IMG_MODULE_STATE_SPARE_IN_USE] s t ∧ SameMemory s t) ∧
    (s.r Reg.MIR_SPARE_DEEP_FREE = 0 → s.deepBlock block ∉ s.mem.retired →
      ∃ t, exec (.deepBlockFail block) s = .next t ∧ s.deepBlock block ∈ t.mem.retired ∧
        t.r Reg.MIR_SPARE_DEEP_RETIRED = satN 12 (s.r Reg.MIR_SPARE_DEEP_RETIRED + 1) ∧ Pending Evt.DEEP_RETIRED t ∧ SameMemory s t) ∧
    (s.r Reg.MIR_SPARE_DEEP_FREE = 0 → s.sessionOpen = true → 2 ≤ s.r Reg.IMG_WRITE_STATUS_TARGET →
      ∃ t, exec (.deepBlockFail block) s = .next t ∧ t.r Reg.IMG_WRITE_STATUS_STATE = 4 ∧
        t.r Reg.IMG_WRITE_STATUS_ERR = ImgErr.medium ∧ t.r (sealField (s.r Reg.IMG_WRITE_STATUS_TARGET)) = 0 ∧
        RegsBut [Reg.IMG_WRITE_STATUS_STATE, Reg.IMG_WRITE_STATUS_ERR, Reg.MIR_SPARE_DEEP_RETIRED,
          sealField (s.r Reg.IMG_WRITE_STATUS_TARGET)] s t ∧
        SameMemory s t))

/-- O40. The loupe's scrubs and its other tasks. A scrub, the patrol read or the telemetry task notes when it last ran and is no
longer late. A corrected word counts against its row and in MIR_ECC; an uncorrectable one reads as all ones and its row is due.
While Parked the table-store scrub does not run. An uncorrectable word of the keep store fails the core bank it lies in, and
elsewhere is raised as KEEP_UNCORR. The patrol replaces a block above DEEP_REFRESH and fails a slot with an uncorrectable page.
What an uncorrectable word reads as, and that finds of a scrub raise no event of their own, is log entry 80's reading, the
lateness of a task log entry 82's, what the system region holds log entry 126's. Commands that complete by it: nearStoreScrub,
tableStoreScrub, keepStoreScrub, deepStorePatrol, telemetry. (R55, R62, R368, R369, R370, R372) -/
def Obligations.ScrubsComplete : Prop :=
  (∀ (s : Machine.State) (l u : List Nat),
    (∃ t, exec (.nearStoreScrub l u) s = .next t ∧ nth t.mem.loupeAt 0 0 = s.optime ∧ bitAt (t.r Reg.MIR_LOUPE_LATE_LATE) 0 = false ∧
      t.keep = s.keep ∧ t.deep = s.deep ∧ t.table = s.table ∧
      RegsBut [Reg.MIR_LOUPE_LATE_LATE, Reg.MIR_LOUPE_LATE_EVENTS, Reg.MIR_ECC_NEAR, Reg.MIR_ECC_TABLE] s t) ∧
    (s.parked = false →
      ∃ t, exec (.tableStoreScrub l u) s = .next t ∧ nth t.mem.loupeAt 1 0 = s.optime ∧
        bitAt (t.r Reg.MIR_LOUPE_LATE_LATE) 1 = false ∧ t.keep = s.keep ∧ t.deep = s.deep ∧ t.near = s.near ∧
        RegsBut [Reg.MIR_LOUPE_LATE_LATE, Reg.MIR_LOUPE_LATE_EVENTS, Reg.MIR_ECC_NEAR, Reg.MIR_ECC_TABLE,
          Reg.IMG_STATUS_TS_INCOMING_STATE] s t) ∧
    (s.parked = true → ∃ t, exec (.tableStoreScrub l u) s = .next t ∧ t.mem = s.mem ∧ t.regs = s.regs ∧ SameMemory s t) ∧
    (∃ t, exec (.keepStoreScrub u) s = .next t ∧ nth t.mem.loupeAt 2 0 = s.optime ∧ bitAt (t.r Reg.MIR_LOUPE_LATE_LATE) 2 = false ∧
      t.deep = s.deep ∧ t.near = s.near ∧ t.table = s.table ∧
      RegsBut [Reg.MIR_LOUPE_LATE_LATE, Reg.MIR_LOUPE_LATE_EVENTS, Reg.IMG_STATUS_BANK0_STATE, Reg.IMG_STATUS_BANK1_STATE,
        Reg.IMG_STATUS_SLOT0_STATE, Reg.IMG_STATUS_SLOT1_STATE] s t)) ∧
  (∀ (s : Machine.State) (blocks : List (Nat × Nat)) (slots : List Nat),
    ∃ t, exec (.deepStorePatrol blocks slots) s = .next t ∧ nth t.mem.loupeAt 3 0 = s.optime ∧
      bitAt (t.r Reg.MIR_LOUPE_LATE_LATE) 3 = false ∧ SameMemory s t ∧
      RegsBut [Reg.MIR_LOUPE_LATE_LATE, Reg.MIR_LOUPE_LATE_EVENTS, Reg.MIR_SPARE_DEEP_FREE, Reg.MIR_SPARE_DEEP_RETIRED,
        Reg.IMG_MODULE_STATE_SPARE_IN_USE, Reg.IMG_STATUS_SLOT0_STATE, Reg.IMG_STATUS_SLOT1_STATE] s t) ∧
  (∀ s : Machine.State, ∃ t, exec .telemetry s = .next t ∧ nth t.mem.loupeAt 8 0 = s.optime ∧
    bitAt (t.r Reg.MIR_LOUPE_LATE_LATE) 8 = false ∧ RegsBut [Reg.MIR_LOUPE_LATE_LATE, Reg.MIR_LOUPE_LATE_EVENTS] s t ∧ SameMemory s t) ∧
  (∀ (s : Machine.State) (o : Nat), o < 0x2000000 →
    (s.since s.mem.windowAt < 86400000000 →
      ∃ t, exec (.nearStoreScrub [o] []) s = .next t ∧
        SMap.get t.mem.nearErr (o / 1024) 0 = SMap.get s.mem.nearErr (o / 1024) 0 + 1 ∧
        t.r Reg.MIR_ECC_NEAR = satN 16 (s.r Reg.MIR_ECC_NEAR + 1) ∧ SameMemory s t ∧
        (s.r Reg.MIR_CFG_MEM_ERR_RELAY ≠ 0 → s.r Reg.MIR_CFG_MEM_ERR_RELAY ≤ SMap.get s.mem.nearErr (o / 1024) 0 + 1 →
          (false, o / 1024) ∈ t.mem.due)) ∧
    (∃ t, exec (.nearStoreScrub [] [o]) s = .next t ∧ (∀ a, memGet t.near a = if a / 4 = o / 4 then 0xFF else memGet s.near a) ∧
      (false, o / 1024) ∈ t.mem.due) ∧
    (s.parked = false →
      ∃ t, exec (.tableStoreScrub [] [o]) s = .next t ∧
        (∀ a, memGet t.table a = if a / 4 = o / 4 then 0xFF else memGet s.table a) ∧ (true, o / 4096) ∈ t.mem.due) ∧
    (o < 0x600000 →
      ∃ t, exec (.keepStoreScrub [o]) s = .next t ∧ t.r Reg.IMG_STATUS_BANK0_STATE = 3 ∧ Pending Evt.STORE_AT_RISK t ∧
        SameMemory s t) ∧
    (0x600000 ≤ o → o < 0xC00000 →
      ∃ t, exec (.keepStoreScrub [o]) s = .next t ∧ t.r Reg.IMG_STATUS_BANK1_STATE = 3 ∧ Pending Evt.STORE_AT_RISK t ∧
        SameMemory s t) ∧
    (0xC00000 ≤ o →
      ∃ t, exec (.keepStoreScrub [o]) s = .next t ∧ Pending Evt.KEEP_UNCORR t ∧
        ∀ a, a / 4 ≠ o / 4 → memGet t.keep a = memGet s.keep a)) ∧
  (∀ (s : Machine.State) (n block found : Nat), n < 2 → block < 16384 →
    (∃ t, exec (.deepStorePatrol [] [n]) s = .next t ∧
      t.r (if n = 0 then Reg.IMG_STATUS_SLOT0_STATE else Reg.IMG_STATUS_SLOT1_STATE) = 3 ∧ Pending Evt.STORE_AT_RISK t) ∧
    (s.r Reg.MIR_CFG_DEEP_REFRESH < found → s.r Reg.MIR_SPARE_DEEP_FREE ≠ 0 →
      ∃ t, exec (.deepStorePatrol [(block, found)] []) s = .next t ∧
        SMap.get t.mem.deepMap block 0 = 1966 - s.r Reg.MIR_SPARE_DEEP_FREE ∧ Pending Evt.DEEP_REFRESH t ∧
        t.r Reg.MIR_SPARE_DEEP_RETIRED = satN 12 (s.r Reg.MIR_SPARE_DEEP_RETIRED + 1)))

/-- O41. Resets leave every register field by its retention class. A POWER-ON reset, a DIP reset of a module in operation and a lost
clock set every field of the register tables to its reset value unless its retention class survives the kind of reset or it
shows a level outside the main die; RESET_CAUSE gives kind and cause, PLL_IN_SERVICE is 1 if PLL0 is fenced, a target or
incoming slot that was being written or streamed is EMPTY and every other target keeps its state. The keep store and the deep
store stand; the near store stands but for POWER-ON, the table store is cleared, and OPTIME is 0 after POWER-ON alone. Which
fields show outside levels is the model's reading (log entries 3 and 62). Commands that complete by it: powerOnReset, dipReset,
clockLost. (R10, R11, R402, R409, R414) -/
def Obligations.ResetKeepsByRetentionClass : Prop :=
  ∀ (s : Machine.State) (g : Field), fieldOfKey g.key = some g →
    g.key ∉ [Reg.PWR_RESET_CAUSE_KIND, Reg.PWR_RESET_CAUSE_CAUSE, Reg.PWR_CLOCK_REF_OK, Reg.PWR_STATUS_PLL_IN_SERVICE,
      Reg.IMG_STATUS_TS_INCOMING_STATE].map Field.key →
    (∀ n, g.key ≠ (sealField n).key) → SysRecord.address ∉ s.mem.lost →
    (∀ lost : Bool, ∃ t, exec (.powerOnReset lost) s = .next t ∧ t.r Reg.PWR_RESET_CAUSE_KIND = 0 ∧
      t.r Reg.PWR_RESET_CAUSE_CAUSE = b2n lost ∧
      t.r Reg.PWR_STATUS_PLL_IN_SERVICE = b2n (bitAt (s.r Reg.PWR_CLOCK_FENCED) 0) ∧ t.r g = (if survives 0 g.kept || liveField g then s.r g else g.reset) ∧
      t.optime = 0 ∧ CutOff 0 s t ∧
      t.keep = s.keep ∧ t.deep = s.deep ∧ t.near = [] ∧ t.table = [] ∧ t.down = true) ∧
    (s.down = false → ∀ c : Nat, c < 3 →
      ∃ t, exec (.dipReset c) s = .next t ∧ t.r Reg.PWR_RESET_CAUSE_KIND = 1 ∧ t.r Reg.PWR_RESET_CAUSE_CAUSE = 2 + c ∧
        t.r g = (if survives 1 g.kept || liveField g then s.r g else g.reset) ∧ t.optime = s.optime ∧ CutOff 1 s t ∧ t.keep = s.keep ∧
        t.deep = s.deep ∧ t.near = s.near ∧ t.table = [] ∧ t.down = true) ∧
    (s.down = false → ∀ refLost : Bool,
      ∃ t, exec (.clockLost refLost) s = .next t ∧ t.pwr.clockLost = true ∧ t.r Reg.PWR_RESET_CAUSE_KIND = 1 ∧
        t.r Reg.PWR_RESET_CAUSE_CAUSE = 5 ∧ t.r Reg.PWR_CLOCK_REF_OK = b2n (!refLost) ∧
        t.r g = (if survives 1 g.kept || liveField g then s.r g else g.reset) ∧ t.optime = s.optime ∧ CutOff 1 s t ∧ t.keep = s.keep ∧ t.deep = s.deep ∧
        t.near = s.near ∧ t.table = [])

/-- O42. With valid supplies and a clock the module reads its side and loads an image. In a reset in progress with a clock that is
not lost and X1 at 18.0 V or more: with PLL0 unfenced and locked it is in service, MIR_SIDE is read, and without an activated
bank the module is in IMAGE_FAIL with IMG_LOAD_FAIL; a POWER-ON counts a power cycle. Where the choice of R58 gives a bank, its
image is loaded from it, and PHASE is IMAGE_FAIL only if the image cannot be mapped. If no unfenced PLL locks, the clock is
lost; each retry 10 ms later is a DIP reset with cause CLOCK once one locks. That a new module has no activated bank is log
entry 11's reading, what counts as a bank that failed or an image not loaded log entry 32's. Commands that complete by it:
suppliesValid, pllRetry. (R56, R57, R58, R400, R402, R413) -/
def Obligations.SuppliesValidStartsTheModule : Prop :=
  (∀ (s : Machine.State) (v c side : Nat) (locks : List Bool) (retries : List (Nat × Nat)), s.down = true → s.pwr.clockLost = false →
    18000 ≤ v →
    (nth locks 0 false = true → s.pllFenced 0 = false → s.img.activated = false →
      ∃ t, exec (.suppliesValid v c locks side retries) s = .next t ∧ t.down = false ∧ t.r Reg.PWR_STATUS_PLL_IN_SERVICE = 0 ∧
        t.r Reg.NET_ADDR_SIDE = side % 2 ∧ t.r Reg.IMG_MODULE_STATE_PHASE = 7 ∧ Pending Evt.IMG_LOAD_FAIL t ∧
        t.pcc = (if s.r Reg.PWR_RESET_CAUSE_KIND = 0 then (s.pcc + 1) % 2 ^ 32 else s.pcc) ∧ SameMemory s t) ∧
    (∀ (u r : Machine.State) (b : Nat), pllStart locks (countCycle s) = some u →
      chooseBank retries (suppliesUp v c (side % 2) u) = (r, some b) →
      ∃ t, exec (.suppliesValid v c locks side retries) s = .next t ∧ t.keep = s.keep ∧ t.deep = s.deep ∧ t.near = s.near ∧
        (if (mapFails (placeImage b r)).isNone then t.img.loaded = true ∧ t.img.loading = true ∧ t.img.loadedSeal = r.sealOf b ∧
          t.r Reg.IMG_STATUS_LOADED_BANK = b % 2 else t.r Reg.IMG_MODULE_STATE_PHASE = 7 ∧ t.table = s.table)) ∧
    (pllStart locks (countCycle s) = none →
      ∃ t, exec (.suppliesValid v c locks side retries) s = .next t ∧ t.pwr.clockLost = true ∧ t.pwr.retryAt = some s.optime ∧
        SameMemory s t)) ∧
  (∀ (s : Machine.State) (locks : List Bool) (t0 : Time), s.pwr.clockLost = true → s.pwr.retryAt = some t0 → 10000 ≤ s.since t0 →
    (nth locks 0 false = true → s.pllFenced 0 = false →
      ∃ t, exec (.pllRetry locks) s = .next t ∧ t.pwr.clockLost = false ∧ t.down = true ∧ t.r Reg.PWR_RESET_CAUSE_KIND = 1 ∧
        t.r Reg.PWR_RESET_CAUSE_CAUSE = 5 ∧ t.keep = s.keep ∧ t.deep = s.deep ∧ t.near = s.near) ∧
    (nth locks 0 false = false → nth locks 1 false = false →
      ∃ t, exec (.pllRetry locks) s = .next t ∧ t.pwr.clockLost = true ∧ t.pwr.retryAt = some s.optime ∧ t.regs = s.regs ∧
        SameMemory s t))

/-- O43. CONTROL_READY and the full atlas. With an image loaded in START the module reaches CONTROL_READY: PHASE 1, the time since
supplies valid, RESET_CAUSE. After a reset other than WARM it streams an atlas or raises ATLAS_UNAVAILABLE; after WARM an active
slot that holds the bound atlas is kept and PHASE is ATLAS_READY at once. Start-up streaming that ends with every frame readable
and the bound digest makes the incoming slot the active one, as soon as no reticle load is in progress; with a frame that cannot
be read or another digest the deep slot is FAILED with ATLAS_DIGEST_FAIL. Commands that complete by it: controlReady,
atlasStreamEnd. (R59, R60, R415) -/
def Obligations.ControlReadyAndAtlasComplete : Prop :=
  (∀ (s : Machine.State) (a b : Nat), s.r Reg.IMG_MODULE_STATE_PHASE = 0 → s.img.loaded = true → s.img.loading = true →
    s.down = false → s.pwr.clockLost = false →
    (s.img.warm = false →
      ∃ t, exec (.controlReady a b) s = .next t ∧ t.r Reg.IMG_MODULE_STATE_PHASE = 1 ∧ t.img.loading = false ∧
        t.loop.readyAt = s.optime + 1 ∧ t.r Reg.IMG_LOAD_TIMES_CTRL_READY_US = satN 16 (s.since s.img.supplyAt) ∧
        Pending Evt.RESET_CAUSE t ∧ (t.r Reg.IMG_STATUS_TS_INCOMING_STATE = 4 ∨ Pending Evt.ATLAS_UNAVAILABLE t) ∧ SameMemory s t) ∧
    (s.img.warm = true → s.r Reg.IMG_STATUS_TS_INCOMING_STATE ≠ 2 →
      nth s.img.slotDigest s.activeSlot none = some s.img.loadedSeal.atlas →
      ∃ t, exec (.controlReady a b) s = .next t ∧ t.r Reg.IMG_MODULE_STATE_PHASE = 2 ∧ t.r Reg.IMG_STATUS_ATLAS_KEPT = 1 ∧
        Pending Evt.ATLAS_READY t ∧ SameMemory s t)) ∧
  (∀ (s : Machine.State) (n : Nat), s.r Reg.IMG_STATUS_TS_INCOMING_STATE = 4 → s.img.swapDue = false → s.img.streamSlot = n → n < 2 →
    ((List.range ((s.sealOf (2 + n)).storedLen / 4096)).all (frameOk (targetRd s (2 + n))) = true →
      imageDigest (logicalRd (targetRd s (2 + n))) = (s.sealOf (2 + n)).digest →
      (s.reticleLoading = false →
        ∃ t, exec (.atlasStreamEnd false) s = .next t ∧ t.r Reg.IMG_STATUS_TS_ACTIVE_SLOT = s.incoming ∧
          t.r Reg.IMG_STATUS_TS_INCOMING_STATE = 0 ∧ t.r Reg.IMG_MODULE_STATE_PHASE = 2 ∧ Pending Evt.ATLAS_READY t ∧
          t.keep = s.keep ∧ t.deep = s.deep ∧ t.near = s.near) ∧
      (s.reticleLoading = true →
        ∃ t, exec (.atlasStreamEnd false) s = .next t ∧ t.img.swapDue = true ∧ t.regs = s.regs ∧ t.keep = s.keep ∧ t.deep = s.deep ∧
          t.near = s.near)) ∧
    ∀ uncorr : Bool, uncorr = true ∨ ((List.range ((s.sealOf (2 + n)).storedLen / 4096)).all (frameOk (targetRd s (2 + n))) = false) ∨
        imageDigest (logicalRd (targetRd s (2 + n))) ≠ (s.sealOf (2 + n)).digest →
      ∃ t, exec (.atlasStreamEnd uncorr) s = .next t ∧ t.r (sealField (2 + n)) = 3 ∧ Pending Evt.ATLAS_DIGEST_FAIL t ∧ t.keep = s.keep ∧
        t.deep = s.deep ∧ t.near = s.near)

/-- O44. The WARM reset, the exit from Parked and the adoption. PWR_CMD WARM with its confirm value: where it is not allowed it is
refused with reason 1; in Parked it waits, and is an exit cause; else the module restarts from step 1 of the load with what a
WARM reset keeps, and with no activated bank it is in IMAGE_FAIL. An active module with an exit cause leaves Parked with PARKED.
At a quiet point with the active's starts held, or with the link down, a waiting adoption is a WARM reset that notes it; the
active that was told of one holds its starts. How a standby sees that the starts are held is log entry 123's reading; that an
exit cause is the first one seen log entry 84's; that the fields of the running clocks show again what they showed log entry
98's. Commands that complete by it: pwrCmdWarm, parkExit, adoptExecute. (R367, R407, R411) -/
def Obligations.WarmParkExitAndAdoption : Prop :=
  (∀ (s : Machine.State) (side : Nat) (retries : List (Nat × Nat)), s.down = false →
    (s.warmAllowed = false →
      ∃ t, exec (.pwrCmdWarm 0x9A5E side retries) s = .next t ∧ t.r Reg.PWR_CMD_STATUS_RESULT = 3 ∧ t.r Reg.PWR_CMD_STATUS_REASON = 1 ∧
        Pending Evt.PWR_CMD_REFUSED t ∧
        RegsBut [Reg.PWR_CMD_STATUS_CMD, Reg.PWR_CMD_STATUS_RESULT, Reg.PWR_CMD_STATUS_REASON] s t ∧ SameMemory s t) ∧
    (s.warmAllowed = true → s.parked = true →
      ∃ t, exec (.pwrCmdWarm 0x9A5E side retries) s = .next t ∧ t.pwr.warmDue = true ∧ t.pwr.exit ≠ none ∧
        t.r Reg.PWR_CMD_STATUS_RESULT = 1 ∧ SameMemory s t) ∧
    (s.warmAllowed = true → s.parked = false → s.img.activated = false →
      ∃ t, exec (.pwrCmdWarm 0x9A5E side retries) s = .next t ∧ t.r Reg.PWR_RESET_CAUSE_KIND = 2 ∧ t.r Reg.PWR_RESET_CAUSE_CAUSE = 6 ∧
        t.r Reg.NET_ADDR_SIDE = side % 2 ∧ t.r Reg.IMG_MODULE_STATE_PHASE = 7 ∧ t.img.warm = true ∧ Pending Evt.IMG_LOAD_FAIL t ∧ SameMemory s t) ∧
    (s.warmAllowed = true → s.parked = false → ∀ (r : Machine.State) (b : Nat),
      chooseBank retries ((warmState 6 s).w Reg.NET_ADDR_SIDE (side % 2)) = (r, some b) →
      ∃ t, exec (.pwrCmdWarm 0x9A5E side retries) s = .next t ∧ t.img.warm = true ∧ t.keep = s.keep ∧ t.deep = s.deep ∧
        t.near = s.near ∧ (if (mapFails (placeImage b r)).isNone then t.img.loaded = true ∧ t.r Reg.IMG_STATUS_LOADED_BANK = b % 2
          else t.r Reg.IMG_MODULE_STATE_PHASE = 7))) ∧
  (∀ (s : Machine.State) (c side : Nat), s.parked = true → s.active = true → s.exitCause = some c → s.pwr.warmDue = false →
    s.trip.cmdsHeld = [] →
    ∃ t, exec (.parkExit side) s = .next t ∧ t.r Reg.PWR_STATUS_PARKED = 0 ∧ t.pwr.leftAt = s.optime ∧ Pending Evt.PARKED t ∧
      RegsBut [Reg.PWR_STATUS_PARKED] s t ∧ SameMemory s t) ∧
  (∀ (s : Machine.State) (side : Nat) (retries : List (Nat × Nat)), s.quiet = true →
    (s.partnerHolds = true ∨ s.r Reg.MIR_STATUS_LINK_UP = 0 → s.mir.partnerAdopts = false → s.mir.adoptWait = true →
      s.img.activated = false →
      ∃ t, exec (.adoptExecute side retries) s = .next t ∧ t.mir.adopted = true ∧ t.r Reg.PWR_RESET_CAUSE_KIND = 2 ∧
        t.r Reg.PWR_RESET_CAUSE_CAUSE = 7 ∧ SameMemory s t) ∧
    (s.partnerHolds = true ∨ s.r Reg.MIR_STATUS_LINK_UP = 0 → s.mir.partnerAdopts = false → s.mir.adoptWait = true → ∀ (r : Machine.State) (b : Nat),
      chooseBank retries ((warmState 7 s).w Reg.NET_ADDR_SIDE (side % 2)) = (r, some b) →
      ∃ t, exec (.adoptExecute side retries) s = .next t ∧ t.mir.adopted = true ∧ t.keep = s.keep ∧ t.deep = s.deep ∧
        t.near = s.near ∧ (if (mapFails (placeImage b r)).isNone then t.img.loaded = true ∧ t.r Reg.IMG_STATUS_LOADED_BANK = b % 2
          else t.r Reg.IMG_MODULE_STATE_PHASE = 7)) ∧
    (s.mir.partnerAdopts = true → s.r Reg.MIR_STATUS_OWN_LINE = 1 → s.mir.adoptWait = false →
      ∃ t, exec (.adoptExecute side retries) s = .next t ∧ t.mir.partnerAdopted = true ∧ t.mir.adoptAt = some s.optime ∧
        t.r Reg.MIR_STATUS_HOLD_STARTS = 1 ∧ RegsBut [Reg.MIR_STATUS_HOLD_STARTS] s t ∧ SameMemory s t))

/-- O45. Supply, Dim, PLLs, temperature and operating time. A sample of X1 in NORMAL below 19.2 V and not below 16.0 V that is the
20th in a row makes the band UV with VIN_BAND. A comparator crossing that calls for a slower step enters it at once with
DIM_STEP and counts it; the exit thresholds first met begin the millisecond, and 1 ms above those of step 1 the module is at
full speed again, above those of step 2 at step 1. PWR_FAIL is set below 16.0 V, and the bypass relays close, which takes every
link down. A rail 4 percent low is shown with RAIL_WARN; a core rail of 768 mV or more is none. With a spare, a lost lock or a
timebase more than 0.2 percent off makes PLL0 leave service for PLL1: it is fenced, no spare is left, PLL_SWITCH and SPARES_LOW
are raised. A spare that fails its check is fenced with PLL_SPARE_FAIL. A reading of sensor 0 above its limit, not hot before,
is shown and raises TEMP_WARN. The operating time wraps to 0 and counts a power cycle. Commands that complete by it: vinBand,
dimStepDown, dimStepUp, powerFail, railWarn, pllSwitch, pllMarginCheck, temperatureRead, optimeWrap. (R4, R313, R399, R400,
R401, R403, R404, R408, R416, R417) -/
def Obligations.SupplyClocksAndTemperatureComplete : Prop :=
  ((∀ (s : Machine.State) (v : Nat), 160 ≤ v → v < 192 → s.r Reg.PWR_STATUS_VIN_BAND = 0 → s.pwr.vin = (1, 19) →
    ∃ t, exec (.vinBand v) s = .next t ∧ t.r Reg.PWR_STATUS_VIN_BAND = 1 ∧ t.r Reg.PWR_VIN_VIN = v ∧ Pending Evt.VIN_BAND t ∧
      RegsBut [Reg.PWR_STATUS_VIN_BAND, Reg.PWR_VIN_VIN, Reg.PWR_VIN_MIN, Reg.PWR_STATUS_PWR_FAIL] s t ∧ SameMemory s t) ∧
  (∀ (s : Machine.State) (v c : Nat), s.r Reg.PWR_STATUS_STEP < dimEntry (dimCause v c) →
    ∃ t, exec (.dimStepDown v c) s = .next t ∧ t.r Reg.PWR_STATUS_STEP = dimEntry (dimCause v c) ∧
      t.r Reg.PWR_STATUS_DIM_CAUSE = dimCause v c ∧ t.pwr.exitAt = none ∧
      t.r Reg.PWR_DIM_COUNT_ENTER_200 = (if dimEntry (dimCause v c) = 1 then satN Reg.PWR_DIM_COUNT_ENTER_200.width (s.r Reg.PWR_DIM_COUNT_ENTER_200 + 1)
        else s.r Reg.PWR_DIM_COUNT_ENTER_200) ∧
      t.r Reg.PWR_DIM_COUNT_ENTER_100 = (if dimEntry (dimCause v c) = 2 then satN Reg.PWR_DIM_COUNT_ENTER_100.width (s.r Reg.PWR_DIM_COUNT_ENTER_100 + 1)
        else s.r Reg.PWR_DIM_COUNT_ENTER_100) ∧ Pending Evt.DIM_STEP t ∧
      RegsBut [Reg.PWR_STATUS_STEP, Reg.PWR_STATUS_DIM_CAUSE, Reg.PWR_DIM_COUNT_ENTER_200, Reg.PWR_DIM_COUNT_ENTER_100] s t ∧
      SameMemory s t) ∧
  (∀ (s : Machine.State) (v c : Nat),
    (s.r Reg.PWR_STATUS_STEP = 1 ∧ 20300 ≤ v ∧ 776 < c) ∨ (s.r Reg.PWR_STATUS_STEP = 2 ∧ 19700 ≤ v ∧ 760 < c) →
    (s.pwr.exitAt = none → ∃ t, exec (.dimStepUp v c) s = .next t ∧ t.pwr.exitAt = some s.optime ∧ t.regs = s.regs ∧ SameMemory s t) ∧
    (∀ t0, s.pwr.exitAt = some t0 → 1000 ≤ s.since t0 →
      ∃ t, exec (.dimStepUp v c) s = .next t ∧ t.r Reg.PWR_STATUS_STEP = s.r Reg.PWR_STATUS_STEP - 1 ∧
        t.r Reg.PWR_STATUS_DIM_CAUSE = dimCause v c ∧ Pending Evt.DIM_STEP t ∧
        RegsBut [Reg.PWR_STATUS_STEP, Reg.PWR_STATUS_DIM_CAUSE, Reg.PWR_DIM_COUNT_ENTER_200] s t ∧ SameMemory s t)) ∧
  (∀ s : Machine.State, ∃ t, exec .powerFail s = .next t ∧ t.r Reg.PWR_STATUS_PWR_FAIL = 1 ∧ t.net.bypass = [true, true] ∧
    (∀ p, p < 4 → t.linkUp p = false ∧ (s.linkUp p = true → Pending Evt.LINK_DOWN t)) ∧
    RegsBut [Reg.PWR_STATUS_PWR_FAIL, Reg.NET_STATUS_LINK] s t ∧ SameMemory s t) ∧
  (∀ (s : Machine.State) (mv : Nat), mv < 4096 →
    (mv < 768 → ∃ t, exec (.railWarn 0 mv) s = .next t ∧ t.r Reg.PWR_RAILS_CORE = mv ∧ Pending Evt.RAIL_WARN t ∧
      RegsBut [Reg.PWR_RAILS_CORE] s t ∧ SameMemory s t) ∧
    (768 ≤ mv → ∃ t, exec (.railWarn 0 mv) s = .next t ∧ t.regs = s.regs ∧ SameMemory s t) ∧
    (∃ t, exec (.railWarn 1 mv) s = .next t ∧ t.r Reg.PWR_RAILS_IO = mv ∧ Pending Evt.RAIL_WARN t ∧
      RegsBut [Reg.PWR_RAILS_IO] s t ∧ SameMemory s t) ∧
    ∃ t, exec (.railWarn 2 mv) s = .next t ∧ t.r Reg.PWR_RETENTION = mv ∧ Pending Evt.RAIL_WARN t ∧
      RegsBut [Reg.PWR_RETENTION] s t ∧ SameMemory s t)) ∧
  ((∀ (s : Machine.State) (lost : Bool) (dev : Int), s.r Reg.PWR_STATUS_SPARE_OK = 1 → s.r Reg.PWR_STATUS_PLL_IN_SERVICE = 0 →
    lost = true ∨ 2000 < dev ∨ dev < -2000 →
    ∃ t, exec (.pllSwitch lost dev) s = .next t ∧ t.r Reg.PWR_STATUS_PLL_IN_SERVICE = 1 ∧ t.r Reg.PWR_STATUS_SPARE_OK = 0 ∧
      bitAt (t.r Reg.PWR_CLOCK_FENCED) 0 = true ∧ Pending Evt.PLL_SWITCH t ∧ Pending Evt.SPARES_LOW t ∧
      RegsBut [Reg.PWR_STATUS_PLL_IN_SERVICE, Reg.PWR_STATUS_SPARE_OK, Reg.PWR_CLOCK_FENCED, Reg.PWR_CLOCK_TB_DEV,
        Reg.PWR_CLOCK_PLL0_LOCK, Reg.IMG_MODULE_STATE_SPARE_IN_USE] s t ∧ SameMemory s t) ∧
  (∀ (s : Machine.State) (m0 m1 : Nat), s.r Reg.PWR_STATUS_SPARE_OK = 1 → s.r Reg.PWR_STATUS_PLL_IN_SERVICE = 0 →
    (∃ t, exec (.pllMarginCheck [m0, m1] [true, true] true) s = .next t ∧ t.r Reg.PWR_CLOCK_MARGIN = satN 8 m0 ∧
      RegsBut [Reg.PWR_CLOCK_MARGIN] s t ∧ SameMemory s t) ∧
    (∃ t, exec (.pllMarginCheck [m0, m1] [true, false] true) s = .next t ∧ t.r Reg.PWR_STATUS_SPARE_OK = 0 ∧
      bitAt (t.r Reg.PWR_CLOCK_FENCED) 1 = true ∧ t.r Reg.PWR_STATUS_PLL_IN_SERVICE = 0 ∧ Pending Evt.PLL_SPARE_FAIL t ∧
      SameMemory s t) ∧
    ∃ t, exec (.pllMarginCheck [m0, m1] [false, true] true) s = .next t ∧ t.r Reg.PWR_STATUS_PLL_IN_SERVICE = 1 ∧
      t.r Reg.PWR_CLOCK_MARGIN = satN 8 m1 ∧ Pending Evt.PLL_SWITCH t ∧ SameMemory s t) ∧
  (∀ (s : Machine.State) (v : Int), v < 2 ^ 15 → (10 * s.r Reg.PWR_TEMP_LIM_LIM0 : Int) < v → nth s.pwr.hot 0 false = false →
    0 < s.pwr.hot.length →
    ∃ t, exec (.temperatureRead [v]) s = .next t ∧ t.ri (Reg.PWR_TEMP_TEMP 0) = v ∧ nth t.pwr.hot 0 false = true ∧
      Pending Evt.TEMP_WARN t ∧ RegsBut [Reg.PWR_TEMP_TEMP 0, Reg.PWR_TEMP_MAX 0] s t ∧ SameMemory s t) ∧
  (∀ s : Machine.State, s.optime + 1 = 0 →
    ∃ t, exec .optimeWrap s = .next t ∧ t.optime = 0 ∧ t.pcc = (s.pcc + 1) % 2 ^ 32 ∧ t.regs = s.regs ∧ SameMemory s t))

/-- O46. PARK, UNPARK and FACET. With the confirm value: a single module that nothing keeps from it is Parked at once with PARKED
and no request; in a pair the active names the next car period. A PARK that is not allowed is refused with the reason. UNPARK in
Parked is an exit cause. FACET of a logical facet that is allocated, not lost and mapped aborts its facet's running item, whose
completion with the abort flag is latched, puts a prefetched descriptor back at the head of its ready list and gives the facet
its code and data again; one that is not is refused with reason 5. Commands that complete by it: pwrCmdPark, pwrCmdUnpark,
pwrCmdFacet. (R405, R407, R412) -/
def Obligations.PowerCommandsComplete : Prop :=
  (∀ (s : Machine.State), Serving s →
    (s.parkRefusal = 0 → s.paired = false →
      ∃ t, exec (.pwrCmdPark 0x9A5E) s = .next t ∧ t.r Reg.PWR_STATUS_PARKED = 1 ∧ t.r Reg.PWR_CMD_STATUS_RESULT = 2 ∧ t.saf.req = 0 ∧
        Pending Evt.PARKED t ∧ SameMemory s t) ∧
    (s.parkRefusal = 0 → s.paired = true →
      ∃ t, exec (.pwrCmdPark 0x9A5E) s = .next t ∧ t.pwr.parkDue = true ∧ t.r Reg.PWR_CMD_STATUS_RESULT = 1 ∧
        t.r Reg.PWR_STATUS_PARKED = s.r Reg.PWR_STATUS_PARKED ∧ SameMemory s t) ∧
    (s.parkRefusal ≠ 0 →
      ∃ t, exec (.pwrCmdPark 0x9A5E) s = .next t ∧ t.r Reg.PWR_CMD_STATUS_RESULT = 3 ∧
        t.r Reg.PWR_CMD_STATUS_REASON = s.parkRefusal ∧ Pending Evt.PWR_CMD_REFUSED t ∧
        RegsBut [Reg.PWR_CMD_STATUS_CMD, Reg.PWR_CMD_STATUS_RESULT, Reg.PWR_CMD_STATUS_REASON] s t ∧ SameMemory s t) ∧
    (s.parked = true → s.pwr.exit = none →
      ∃ t, exec (.pwrCmdUnpark 0x9A5E) s = .next t ∧ t.pwr.exit = some 2 ∧ t.r Reg.PWR_CMD_STATUS_RESULT = 2 ∧
        RegsBut [Reg.PWR_CMD_STATUS_CMD, Reg.PWR_CMD_STATUS_RESULT, Reg.PWR_CMD_STATUS_REASON] s t ∧ SameMemory s t)) ∧
  (∀ (s : Machine.State) (k : Nat), Serving s → k < 128 → s.parked = false →
    (∀ p, s.physOf k = some p → p < 112 → p < s.dsp.facets.length → k < s.dsp.fab.allocCount → s.dsp.lost.elem k = false →
      s.relayBusy = false →
      ∃ t, exec (.pwrCmdFacet k 0x9A5E) s = .next t ∧ (t.facet p).pref = none ∧ (t.facet p).code = nth s.dsp.graphs.code k [] ∧
        (t.facet p).data = nth s.dsp.graphs.data k [] ∧ (t.facet p).stopped = (s.facet p).stopped ∧
        (∀ d, (s.facet p).running = some d → (s.facet p).latch = none →
          (t.facet p).latch = some { index := s.indexOf p, node := d.node, mask := 0, abort := true }) ∧
        (∀ d, (s.facet p).pref = some d → t.dsp.ready = modAt s.dsp.ready d.prio (fun l => d :: l) []) ∧
        t.r Reg.PWR_CMD_STATUS_RESULT = 2 ∧ SameMemory s t) ∧
    (s.physOf k = none →
      ∃ t, exec (.pwrCmdFacet k 0x9A5E) s = .next t ∧ t.r Reg.PWR_CMD_STATUS_RESULT = 3 ∧ t.r Reg.PWR_CMD_STATUS_REASON = 5 ∧
        Pending Evt.PWR_CMD_REFUSED t ∧ t.dsp = s.dsp ∧ SameMemory s t))

/-- O47. The host queue: entered oldest first up to 256 entries, read by EVT_Q_SRC. An event whose EVT_MASK bit is 0 enters the host
queue behind the others with its source, its FAULT flag, its argument and the operating time while the queue holds fewer than
256 entries; a full queue takes no entry and counts it in LOST, and no event makes it longer than 256. Its pending bit is set in
each case. A read of EVT_Q_SRC removes the oldest entry and returns its source and FAULT flag, and latches argument and time
into the reading path's shadow; of an empty queue it returns EMPTY and changes nothing else. The read is that of a path that is
served: each while the image is valid (Served). Commands that complete by it: evtQSrcRead, latchingRead. (R377) -/
def Obligations.HostQueueHoldsAndLatches : Prop :=
  (∀ (s : Machine.State) (x : Raised),
    (s.ev.queue.length ≤ 256 → (evTake s x s.ev).queue.length ≤ 256) ∧ bitAt (evTake s x s.ev).pend x.evt.src = true ∧
    (evtBit s Reg.EVT_MASK x.evt.src = true → (evTake s x s.ev).queue = s.ev.queue) ∧
    (evtBit s Reg.EVT_MASK x.evt.src = false → s.ev.queue.length < 256 →
      (evTake s x s.ev).queue = s.ev.queue ++ [⟨x.evt.src, x.evt.fault, x.arg, s.optime.toNat, s.pcc⟩] ∧
      (evTake s x s.ev).lost = s.ev.lost) ∧
    (evtBit s Reg.EVT_MASK x.evt.src = false → 256 ≤ s.ev.queue.length →
      (evTake s x s.ev).queue = s.ev.queue ∧ (evTake s x s.ev).lost = satN 16 (s.ev.lost + 1))) ∧
  (∀ (s : Machine.State) (p : Path), s.raised = [] → Served p s →
    (∀ x rest, s.ev.queue = x :: rest →
      ∃ t, exec (.evtQSrcRead p) s = .next t ∧ t.ev.queue = rest ∧ (t.path p).data = x.src + 512 * b2n x.fault ∧
        (t.path p).shadow = [(0xD000C, x.arg), (0xD0010, x.time % 2 ^ 32), (0xD0014, x.time / 2 ^ 32)] ∧
        { t.ev with queue := s.ev.queue } = s.ev ∧ t.log = s.log ∧ t.regs = s.regs ∧ SameMemory s t ∧
        (∀ u : Machine.State, Served p u → (u.path p).shadow = (t.path p).shadow →
          (∃ v, exec (.latchingRead p 0xD000C) u = .next v ∧ (v.path p).data = x.arg) ∧
          (∃ v, exec (.latchingRead p 0xD0010) u = .next v ∧ (v.path p).data = x.time % 2 ^ 32) ∧
          (∃ v, exec (.latchingRead p 0xD0014) u = .next v ∧ (v.path p).data = x.time / 2 ^ 32))) ∧
    (s.ev.queue = [] →
      ∃ t, exec (.evtQSrcRead p) s = .next t ∧ (t.path p).data = 2 ^ 31 ∧ t = s.setPath p { s.path p with data := 2 ^ 31 }))

/-- O48. The trouble log and the recorder. LOG_CMD CLEAR with its confirm value empties the active region of a log that is not
stopped: LOG_CLEARED is record 0 with the number discarded; another confirm value changes nothing. A host wall clock is taken
with a CLOCK_STEP unless PTP is locked, which refuses it. The first uncorrectable error of the main region moves logging to the
empty spare region, whose first record is LOG_MEDIUM_FAIL; one in the spare region stops logging with LOG_STOPPED. Each is
counted. The commands are accepted while the image is valid (R58); the failed word's keep block comes to be scrubbed (R368). A
commit, every 10 s of operating time or by LOG_REC_CMD, notes its time and changes no memory but the slots of the recorder.
Without an uncorrectable word each slot's older copy then holds the record's whole copy, with GEN one above that of the newer
valid copy, which stays as it was; a slot with no valid copy gets copy 0 with GEN 1. CLEAR with its confirm value also empties
every record but items 8 and 9. The bytes of a copy follow the model's order of a record's cells (log entries 77, DEDUCED; 78,
DESIGN CHOICE). Commands that complete by it: logCmdClear, logWallSet, logMediumFail, logStopped, logRecCmdCommit,
recorderCommit, logRecCmdClear. (R58, R368, R379, R383, R384, R385, R386, R387, R388, R389, R390, R392) -/
def Obligations.LogAndRecorderCommandsComplete : Prop :=
  ((∀ (s : Machine.State) (k : Nat), s.raised = [] →
    (Serving s → k = 0x1C8B → s.log.stopped = false →
      ∃ t x, exec (.logCmdClear k) s = .next t ∧ t.log.recs = [x] ∧ x.num = 0 ∧ x.code % 512 = Evt.LOG_CLEARED.src ∧
        x.arg = s.log.recs.length ∧ t.log.region = s.log.region ∧ t.log.next = 1 ∧ t.log.oldest = 0 ∧ Pending Evt.LOG_CLEARED t ∧
        t.regs = s.regs ∧ SameMemory s t) ∧
    (k ≠ 0x1C8B → exec (.logCmdClear k) s = .next s)) ∧
  (∀ (s : Machine.State) (p : Path) (hi : Nat), Serving s → hi < 2 ^ 32 →
    (s.ptpLocked = false →
      ∃ t, exec (.logWallSet p hi) s = .next t ∧ t.wall.source = 2 ∧ t.wall.ns = (s.path p).wallLo + 2 ^ 32 * hi ∧
        Pending Evt.CLOCK_STEP t ∧ t.regs = s.regs ∧ SameMemory s t) ∧
    (s.ptpLocked = true →
      ∃ t, exec (.logWallSet p hi) s = .next t ∧ t.wall = s.wall ∧ t.r Reg.LOG_WALL_STATUS_HOST_REFUSED = 1 ∧
        RegsBut [Reg.LOG_WALL_STATUS_HOST_REFUSED] s t ∧ SameMemory s t)) ∧
  (∀ (s : Machine.State) (addr offset syndrome : Nat), s.raised = [] →
    (s.log.region = 0 → s.log.stopped = false →
      ∃ t x, exec (.logMediumFail addr offset syndrome) s = .next t ∧ t.log.region = 1 ∧ t.log.spare = [x] ∧ t.log.main = s.log.main ∧
        x.code % 512 = Evt.LOG_MEDIUM_FAIL.src ∧ x.num = s.log.next ∧ t.log.failMain = satN 16 (s.log.failMain + 1) ∧
        Pending Evt.LOG_MEDIUM_FAIL t ∧ (false, addr % 2 ^ 25 / 1024) ∈ t.mem.due ∧ t.regs = s.regs ∧ SameMemory s t) ∧
    (s.log.region ≠ 0 →
      ∃ t, exec (.logMediumFail addr offset syndrome) s = .next t ∧ t.log.failMain = satN 16 (s.log.failMain + 1) ∧
        t.log.recs = s.log.recs ∧ t.regs = s.regs ∧ SameMemory s t) ∧
    (s.log.region ≠ 0 → s.log.stopped = false →
      ∃ t, exec (.logStopped offset) s = .next t ∧ t.log.stopped = true ∧ t.log.failSpare = satN 16 (s.log.failSpare + 1) ∧
        t.log.recs = s.log.recs ∧ Pending Evt.LOG_STOPPED t ∧ t.regs = s.regs ∧ SameMemory s t))) ∧
  ((∀ (s : Machine.State) (bad : Option Nat), Serving s →
    (∃ t, exec (.logRecCmdCommit bad) s = .next t ∧ t.rcd = { s.rcd with lastAt := s.optime } ∧
      t.r Reg.LOG_REC_TIME = s.r Reg.PWR_OP_SECONDS % 2 ^ 32 ∧
      (∀ a, a < 0xC00000 ∨ 0xC00000 + s.rcd.slots.length * 0x2000 ≤ a → memGet t.keep a = memGet s.keep a) ∧
      RegsBut [Reg.LOG_REC_TIME] s t ∧ t.deep = s.deep ∧ t.near = s.near ∧ t.table = s.table) ∧
    (10000000 ≤ s.since s.rcd.lastAt →
      ∃ t, exec (.recorderCommit bad) s = .next t ∧ exec (.logRecCmdCommit bad) s = .next t ∧ t.rcd.lastAt = s.optime) ∧
    (s.since s.rcd.lastAt < 10000000 → s.raised = [] → exec (.recorderCommit bad) s = .next s) ∧
    (∃ t, exec (.logRecCmdClear 0x72E4 bad) s = .next t ∧ t.rcd.slots.length = s.rcd.slots.length ∧
      (∀ r, r ∈ t.rcd.slots → r.item ≠ 8 → r.item ≠ 9 →
        r.count = 0 ∧ r.sum = 0 ∧ r.cells = [] ∧ r.started = s.r Reg.PWR_OP_SECONDS) ∧
      t.r Reg.LOG_REC_TIME = s.r Reg.PWR_OP_SECONDS % 2 ^ 32 ∧ RegsBut [Reg.LOG_REC_TIME] s t ∧ t.deep = s.deep ∧
      t.near = s.near ∧ t.table = s.table) ∧
    (∀ k, k ≠ 0x72E4 → s.raised = [] → exec (.logRecCmdClear k bad) s = .next s)) ∧
  (∀ (s : Machine.State) (i : Nat) (r : RecSlot), Serving s → s.rcd.slots[i]? = some r →
    ∃ t, exec (.logRecCmdCommit none) s = .next t ∧
      (s.recNewer i = none → memRead t.keep (recBase i 0) 4096 = r.copy 1 (s.r Reg.PWR_OP_SECONDS) s.pcc) ∧
      (∀ c, s.recNewer i = some c →
        memRead t.keep (recBase i (1 - c)) 4096 = r.copy ((s.recGen i c + 1) % 2 ^ 32) (s.r Reg.PWR_OP_SECONDS) s.pcc ∧
        memRead t.keep (recBase i c) 4096 = memRead s.keep (recBase i c) 4096)))

/-- O49. The log aperture of a path: select, cursor, fill and advance. A selection sets the source and its start cursor, a cursor
write the cursor; each starts a fill. A fill makes the window ready with what the source holds there: records from the log's
cursor on, a recorder window, the counter map or a snapshot bank, which a first fill makes READING. A read of window word 63
returns it, moves the cursor by a window and starts the next fill. Memory and the other registers stay. A cursor whose record
has been overwritten moves to the oldest one, the skipped ones counted with GAP. While a fill runs, an access by the host port
changes nothing and one by a management path is that of the window filled first (log entry 28 orders the counters of the map).
Commands that complete by it: apertureSelect, apertureCursor, apertureFill, apertureAdvance. (R393, R394, R396) -/
def Obligations.ApertureComplete : Prop :=
  (∀ (s : Machine.State) (p : Path) (n : Nat), Served p s → n < 8 → (s.path p).ap.filling = false →
    ∃ t, exec (.apertureSelect p n) s = .next t ∧ (t.path p).ap.sel = n ∧ (t.path p).ap.cursor = s.apStart n ∧
      (t.path p).ap.filling = true ∧ (t.path p).ap.ready = false ∧ RegsBut [Reg.NET_SNAP_STATUS_BANKS] s t ∧ SameMemory s t) ∧
  (∀ (s : Machine.State) (p : Path) (n : Nat), Served p s → n < 2 ^ 32 → (s.path p).ap.filling = false →
    ∃ t, exec (.apertureCursor p n) s = .next t ∧ (t.path p).ap.sel = (s.path p).ap.sel ∧ (t.path p).ap.cursor = n ∧
      (t.path p).ap.filling = true ∧ (t.path p).ap.ready = false ∧ t.regs = s.regs ∧ SameMemory s t) ∧
  (∀ (s : Machine.State) (p : Path), (s.path p).ap.filling = true →
    (∃ t, exec (.apertureFill p) s = .next t ∧ (t.path p).ap.filling = false ∧ (t.path p).ap.ready = true ∧
      (t.path p).ap.words = (t.path p).ap.win.length ∧ RegsBut [Reg.NET_SNAP_STATUS_BANKS] s t ∧ SameMemory s t) ∧
    (∀ t, exec (.apertureFill p) s = .next t →
      (∀ k, (s.path p).ap.sel = 0 → k = (s.log.oldest + 2 ^ 32 - (s.path p).ap.cursor) % 2 ^ 32 → ¬ (0 < k ∧ k < 2 ^ 31) →
        (t.path p).ap.win = s.log.window (s.log.region == 0) s.log.recs (s.path p).ap.cursor ∧ (t.path p).ap.gap = false ∧
        (t.path p).ap.cursor = (s.path p).ap.cursor) ∧
      (∀ k, (s.path p).ap.sel = 0 → k = (s.log.oldest + 2 ^ 32 - (s.path p).ap.cursor) % 2 ^ 32 → 0 < k → k < 2 ^ 31 →
        (t.path p).ap.win = s.log.window (s.log.region == 0) s.log.recs s.log.oldest ∧ (t.path p).ap.gap = true ∧
        (t.path p).ap.cursor = s.log.oldest ∧ (t.path p).ap.skipped = satN 16 ((s.path p).ap.skipped + k)) ∧
      ((s.path p).ap.sel = 2 → (t.path p).ap.win = s.recWindow (s.path p).ap.cursor) ∧
      ((s.path p).ap.sel = 7 → (t.path p).ap.win = windowOf counterMap (s.path p).ap.cursor) ∧
      (3 ≤ (s.path p).ap.sel → (s.path p).ap.sel < 7 → s.bank ((s.path p).ap.sel - 3) = 1 →
        t.bank ((s.path p).ap.sel - 3) = 2))) ∧
  (∀ (s : Machine.State), Served .host s → (s.path .host).ap.filling = true → s.raised = [] →
    (∀ n, exec (.apertureSelect .host n) s = .next s ∧ exec (.apertureCursor .host n) s = .next s) ∧
    exec (.apertureAdvance .host) s = .next s) ∧
  (∀ (s : Machine.State) (net c : Nat), Served (.mgmt net c) s → (s.path (.mgmt net c)).ap.filling = true → s.raised = [] →
    ∃ u, exec (.apertureFill (.mgmt net c)) s = .next u ∧ (u.path (.mgmt net c)).ap.filling = false ∧
      (∀ n, n < 8 → exec (.apertureSelect (.mgmt net c) n) s = exec (.apertureSelect (.mgmt net c) n) u) ∧
      (∀ n, n < 2 ^ 32 → exec (.apertureCursor (.mgmt net c) n) s = exec (.apertureCursor (.mgmt net c) n) u) ∧
      exec (.apertureAdvance (.mgmt net c)) s = exec (.apertureAdvance (.mgmt net c)) u) ∧
  (∀ (s : Machine.State) (p : Path), Served p s → (s.path p).ap.filling = false →
    ∃ t, exec (.apertureAdvance p) s = .next t ∧ (t.path p).data = nth (s.path p).ap.win 63 0 ∧ (t.path p).ap.filling = true ∧
      (t.path p).ap.ready = false ∧ (t.path p).ap.sel = (s.path p).ap.sel ∧
      (t.path p).ap.cursor = ((s.path p).ap.cursor + (if (s.path p).ap.sel < 2 then 8 else 1)) % 2 ^ 32 ∧
      RegsBut [Reg.NET_SNAP_STATUS_BANKS] s t ∧ SameMemory s t)

/-- O50. Key commands: accepted, refused and ended. SEC_KEY_CMD that no reason refuses runs with the path's key buffer and shows
BUSY as RESULT 1; a refused one shows RESULT 3 with the first reason of the table and leaves the keys. At its end a REMOVE
empties its slot with KEY_REMOVED; an ENROLL puts the key into its slot with KEY_ENROLLED if the key is a valid point that no
other slot holds, and else is refused. SW2 changes are shown and raised. Commands that complete by it: secKeyEnroll,
secKeyRemove, keyCmdDone, sw2Changed. (R421, R422) -/
def Obligations.KeyCommandsComplete : Prop :=
  (∀ (s : Machine.State) (p : Path) (slot confirm : Nat), Served p s → slot < 4 →
    (keyReason true slot confirm s = 0 →
      ∃ t, exec (.secKeyEnroll p slot confirm) s = .next t ∧ t.sec = { s.sec with running := some ⟨true, slot, s.keyBuffer p, p⟩ } ∧
        t.r Reg.SEC_KEY_STATUS_RESULT = 1 ∧ t.r Reg.SEC_KEY_STATUS_SLOT = slot ∧
        RegsBut [Reg.SEC_KEY_STATUS_RESULT, Reg.SEC_KEY_STATUS_REASON, Reg.SEC_KEY_STATUS_SLOT] s t ∧ SameMemory s t) ∧
    (keyReason false slot confirm s = 0 →
      ∃ t, exec (.secKeyRemove p slot confirm) s = .next t ∧ t.sec = { s.sec with running := some ⟨false, slot, s.keyBuffer p, p⟩ } ∧
        t.r Reg.SEC_KEY_STATUS_RESULT = 1 ∧ t.r Reg.SEC_KEY_STATUS_SLOT = slot ∧
        RegsBut [Reg.SEC_KEY_STATUS_RESULT, Reg.SEC_KEY_STATUS_REASON, Reg.SEC_KEY_STATUS_SLOT] s t ∧ SameMemory s t) ∧
    (∀ n, keyReason true slot confirm s = n → n ≠ 0 →
      ∃ t, exec (.secKeyEnroll p slot confirm) s = .next t ∧ t.sec = s.sec ∧ t.r Reg.SEC_KEY_STATUS_RESULT = 3 ∧
        t.r Reg.SEC_KEY_STATUS_REASON = n ∧ (n ≠ 1 → Pending Evt.KEY_CMD_REFUSED t) ∧ SameMemory s t) ∧
    (∀ n, keyReason false slot confirm s = n → n ≠ 0 →
      ∃ t, exec (.secKeyRemove p slot confirm) s = .next t ∧ t.sec = s.sec ∧ t.r Reg.SEC_KEY_STATUS_RESULT = 3 ∧
        t.r Reg.SEC_KEY_STATUS_REASON = n ∧ (n ≠ 1 → Pending Evt.KEY_CMD_REFUSED t) ∧ SameMemory s t)) ∧
  (∀ (s : Machine.State) (c : KeyCmd), s.sec.running = some c →
    (c.enroll = false →
      ∃ t, exec .keyCmdDone s = .next t ∧ nth t.sec.keys c.slot none = none ∧ (∀ n, n ≠ c.slot → nth t.sec.keys n none = nth s.sec.keys n none) ∧
        t.sec.running = none ∧ t.r Reg.SEC_KEY_STATUS_RESULT = 2 ∧
        t.r Reg.SEC_KEY_COUNT_REMOVED = satN 16 (s.r Reg.SEC_KEY_COUNT_REMOVED + 1) ∧ Pending Evt.KEY_REMOVED t ∧ SameMemory s t) ∧
    (c.enroll = true →
      ∃ t, exec .keyCmdDone s = .next t ∧ t.sec.running = none ∧
        nth t.sec.keys c.slot none = (if pointValid c.key && !s.keyTwice c.slot c.key then some c.key else nth s.sec.keys c.slot none) ∧
        (∀ n, n ≠ c.slot → nth t.sec.keys n none = nth s.sec.keys n none) ∧
        t.r Reg.SEC_KEY_STATUS_RESULT = (if pointValid c.key && !s.keyTwice c.slot c.key then 2 else 3) ∧
        Pending (if pointValid c.key && !s.keyTwice c.slot c.key then Evt.KEY_ENROLLED else Evt.KEY_CMD_REFUSED) t ∧
        RegsBut [Reg.SEC_KEY_STATUS_RESULT, Reg.SEC_KEY_STATUS_REASON, Reg.SEC_KEY_STATUS_SLOT, Reg.SEC_KEY_COUNT_ENROLLED] s t ∧
        SameMemory s t)) ∧
  (∀ (s : Machine.State) (b : Bool), s.rb Reg.IMG_SEAL_SW2 = !b →
    ∃ t, exec (.sw2Changed b) s = .next t ∧ t.r Reg.IMG_SEAL_SW2 = b2n b ∧ t.r Reg.SEC_STATUS_SW2 = b2n b ∧ Pending Evt.SW2_CHANGED t ∧
      RegsBut [Reg.IMG_SEAL_SW2, Reg.SEC_STATUS_SW2] s t ∧ SameMemory s t)

/-- O51. Attestation, random numbers, the identity check and the object window. ATTEST latches a report body with the next sequence
number while none is signed, the TRNG is healthy and the identity checked; else it is refused with its reason. Signing ends with
the report ready for its path, its signature made with a nonce used nowhere else. A read of SEC_RNG takes a free value while
healthy and 0 while not. A failed health test, its recovery and the identity check are shown and raised; a check passes only if
none has failed since the module's start (log entry 86, DEDUCED). The random values are free values (log entry 6, DESIGN
CHOICE). A read of SEC_BUF_0 latches the whole selected part. Commands that complete by it: secAttAttest, secRngRead,
secBufRead, attestDone, rngFail, rngOk, identityCheck. (R419, R420, R424, R426) -/
def Obligations.AttestationRandomAndIdentityComplete : Prop :=
  (∀ (s : Machine.State) (p : Path), Served p s →
    (s.sec.pending = none → s.rb Reg.SEC_RNG_STATUS_HEALTHY = true → s.rb Reg.SEC_STATUS_IDENTITY_OK = true →
      ∃ t, exec (.secAttAttest p) s = .next t ∧ t.r Reg.SEC_ATT_STATUS_STATE = 1 ∧
        t.r Reg.SEC_ATT_SEQ = (s.r Reg.SEC_ATT_SEQ + 1) % 2 ^ 32 ∧
        t.sec.pending = some ((s.incWrap Reg.SEC_ATT_SEQ).reportBody p ((s.r Reg.SEC_ATT_SEQ + 1) % 2 ^ 32), ownerCode p) ∧
        RegsBut [Reg.SEC_ATT_STATUS_STATE, Reg.SEC_ATT_SEQ] s t ∧ SameMemory s t) ∧
    (∀ n, (s.sec.pending.isSome = true ∧ n = 1) ∨ (s.sec.pending = none ∧ s.rb Reg.SEC_RNG_STATUS_HEALTHY = false ∧ n = 2) ∨
        (s.sec.pending = none ∧ s.rb Reg.SEC_RNG_STATUS_HEALTHY = true ∧ s.rb Reg.SEC_STATUS_IDENTITY_OK = false ∧ n = 3) →
      ∃ t, exec (.secAttAttest p) s = .next t ∧ t.r Reg.SEC_ATT_STATUS_STATE = 3 ∧ t.r Reg.SEC_ATT_STATUS_REASON = n ∧ t.sec = s.sec ∧
        Pending Evt.ATTEST_REFUSED t ∧ RegsBut [Reg.SEC_ATT_STATUS_STATE, Reg.SEC_ATT_STATUS_REASON] s t ∧ SameMemory s t) ∧
    (s.rb Reg.SEC_RNG_STATUS_HEALTHY = true →
      ∃ t, exec (.secRngRead p) s = .next t ∧ (t.path p).data = s.freeNat 32 ∧ t.free = s.free + 1 ∧ t.regs = s.regs ∧ SameMemory s t) ∧
    (s.rb Reg.SEC_RNG_STATUS_HEALTHY = false →
      ∃ t, exec (.secRngRead p) s = .next t ∧ (t.path p).data = 0 ∧ t.regs = s.regs ∧ SameMemory s t) ∧
    (∃ t, exec (.secBufRead p) s = .next t ∧ (t.path p).data = nth (secPart p s) 0 0 ∧
      (∀ w, 1 ≤ w → w < 64 → lookup (t.path p).shadow (0xF0200 + 4 * w) = some (nth (secPart p s) w 0)) ∧ t.regs = s.regs ∧
      SameMemory s t)) ∧
  (∀ (s : Machine.State) (body : List Byte) (c : Nat), s.sec.pending = some (body, c) →
    (s.rb Reg.SEC_RNG_STATUS_HEALTHY = true → c < 4 →
      ∃ t, exec .attestDone s = .next t ∧ t.sec.pending = none ∧
        t.sec.report = body ++ beBytes 96 (s.signature body).toNat ∧ t.free = s.free + 1 ∧
        t.r Reg.SEC_ATT_STATUS_STATE = 2 ∧ t.r Reg.SEC_ATT_STATUS_PATH = c ∧ Pending Evt.ATTEST_DONE t ∧
        RegsBut [Reg.SEC_ATT_STATUS_STATE, Reg.SEC_ATT_STATUS_PATH] s t ∧ SameMemory s t) ∧
    (s.rb Reg.SEC_RNG_STATUS_HEALTHY = false →
      ∃ t, exec .attestDone s = .next t ∧ t.sec.pending = none ∧ t.sec.report = s.sec.report ∧ t.r Reg.SEC_ATT_STATUS_REASON = 2 ∧
        Pending Evt.ATTEST_REFUSED t)) ∧
  (∀ (s : Machine.State) (b : Bool),
    (∃ t, exec (.rngFail b) s = .next t ∧ t.r Reg.SEC_RNG_STATUS_HEALTHY = 0 ∧
      t.r Reg.SEC_RNG_STATUS_FAILS = satN 8 (s.r Reg.SEC_RNG_STATUS_FAILS + 1) ∧ Pending Evt.RNG_FAIL t ∧
      RegsBut [Reg.SEC_RNG_STATUS_HEALTHY, Reg.SEC_RNG_STATUS_FAILS] s t ∧ SameMemory s t) ∧
    (s.rb Reg.SEC_RNG_STATUS_HEALTHY = false →
      ∃ t, exec .rngOk s = .next t ∧ t.r Reg.SEC_RNG_STATUS_HEALTHY = 1 ∧ Pending Evt.RNG_OK t ∧
        RegsBut [Reg.SEC_RNG_STATUS_HEALTHY] s t ∧ SameMemory s t) ∧
    (∃ t, exec (.identityCheck b) s = .next t ∧
      t.r Reg.SEC_STATUS_IDENTITY_OK = b2n (b && s.sec.certOk && leAt s.sec.cert 8 8 == s.serial && !s.sec.idFailed) ∧
      t.sec = { s.sec with idFailed := !(b && s.sec.certOk && leAt s.sec.cert 8 8 == s.serial && !s.sec.idFailed) } ∧
      (t.r Reg.SEC_STATUS_IDENTITY_OK = 0 → Pending Evt.IDENTITY_FAIL t) ∧ RegsBut [Reg.SEC_STATUS_IDENTITY_OK] s t ∧ SameMemory s t))

/-- O52. A read of IMG_DIGEST_0 latches the twelve words of the selected digest. A read of IMG_DIGEST_0 by a path that is served (in
IMAGE_FAIL the host port alone) puts all twelve words of the digest that IMG_DIGEST_SEL selects into that path's shadow in place
of what it held, and returns word 0; reads of IMG_DIGEST_1 to IMG_DIGEST_11 by the same path return the shadow's words whatever
the live digest is. A write of IMG_DIGEST_SEL changes the selection and no shadow, so that it takes effect at the next read of
IMG_DIGEST_0. No memory and no other register changes. Commands that complete by it: imgDigestRead, latchingRead, registerWrite.
(R63) -/
def Obligations.DigestReadsLatchTwelveWords : Prop :=
  (∀ (s : Machine.State) (p : Path), Served p s →
    ∃ t ws, exec (.imgDigestRead p) s = .next t ∧ ws = digestWords (selectedDigest s (s.r Reg.IMG_DIGEST_SEL)) ∧ ws.length = 12 ∧
      (t.path p).shadow = wordsAt 0x10040 ws ∧ (t.path p).data = nth ws 0 0 ∧ t.regs = s.regs ∧ SameMemory s t ∧
      ∀ (u : Machine.State) (n : Nat), Served p u → (u.path p).shadow = (t.path p).shadow → 1 ≤ n → n < 12 →
        ∃ v, exec (.latchingRead p (0x10040 + 4 * n)) u = .next v ∧ (v.path p).data = nth ws n 0 ∧
          (v.path p).shadow = (u.path p).shadow ∧ v.regs = u.regs) ∧
  (∀ (s : Machine.State) (p q : Path) (v : Nat), Served p s → Served q s →
    ∃ t, exec (.registerWrite p 0x10034 v) s = .next t ∧ t.r Reg.IMG_DIGEST_SEL = v % 8 ∧ (t.path q).shadow = (s.path q).shadow ∧
      RegsBut [Reg.IMG_DIGEST_SEL] s t ∧ SameMemory s t ∧
      ∃ u, exec (.imgDigestRead q) t = .next u ∧ (u.path q).shadow = wordsAt 0x10040 (digestWords (selectedDigest t (v % 8))))

/-- O53. No write to the RET_ block reaches the reticle. A write by any path that is served (a frame's write in IMAGE_FAIL is
refused and changes nothing) to any address of the RET_ block, whatever its value, leaves every mark, arming, staged program,
capture and post of the reticle as it is, and all memory. Only RET_MARK_SEL, RET_CAP_SEL and RET_STAT_CLEAR take it: the first
two their fields, the last, with bit 0 set and outside IMAGE_FAIL, clears the exception counts and the post peak. Every other
register of the module keeps its value. Commands that complete by it: registerWrite. (R151) -/
def Obligations.HostCannotWriteTheReticle : Prop :=
  ∀ (s : Machine.State) (p : Path) (a v : Nat), 0x50000 ≤ a → a < 0x60000 → v < 2 ^ 32 → Served p s →
    ∃ t, exec (.registerWrite p a v) s = .next t ∧ t.ret = s.ret ∧ t.trip = s.trip ∧ SameMemory s t ∧
      (a ≠ 0x500B0 → a ≠ 0x500C0 → a ≠ 0x500C4 → t.regs = s.regs) ∧
      (a = 0x500B0 → t.r Reg.RET_MARK_SEL_SLOT = v % 256 ∧ t.r Reg.RET_MARK_SEL_SET = v / 256 % 8 ∧
        t.r Reg.RET_MARK_SEL_STAGING = v / 4096 % 2 ∧
        RegsBut [Reg.RET_MARK_SEL_SLOT, Reg.RET_MARK_SEL_SET, Reg.RET_MARK_SEL_STAGING] s t) ∧
      (a = 0x500C4 → t.r Reg.RET_CAP_SEL = v % 8 ∧ RegsBut [Reg.RET_CAP_SEL] s t) ∧
      (a = 0x500C0 →
        RegsBut [Reg.RET_EXC_COUNT_WITHHELD, Reg.RET_EXC_COUNT_LATE, Reg.RET_EXC_COUNT_CONFLICT, Reg.RET_EXC_COUNT_POST_LOST,
          Reg.RET_POST_PEAK] s t ∧
        (v % 2 = 0 → t.regs = s.regs) ∧
        (v % 2 = 1 → s.r Reg.IMG_MODULE_STATE_PHASE ≠ 7 →
          t.r Reg.RET_EXC_COUNT_WITHHELD = 0 ∧ t.r Reg.RET_EXC_COUNT_LATE = 0 ∧ t.r Reg.RET_EXC_COUNT_CONFLICT = 0 ∧
          t.r Reg.RET_EXC_COUNT_POST_LOST = 0 ∧ t.r Reg.RET_POST_PEAK = 0))

/-- O54. A step runs the command at the front of the queue. For every command and state, the step of the state with that command at
the front of its queue is the command's meaning on the state with the queue's rest. With an empty queue a step is one
microsecond of operating time, which is the model's choice (log entry 5): the queue stays empty, and outside a supply loss
OPTIME rises by one and no memory changes. (R4, R374) -/
def Obligations.StepRunsTheFrontCommand : Prop :=
  (∀ (c : Instr) (rest : List Instr) (s : Machine.State),
    Machine.step { s with pending := c :: rest } = exec c { s with pending := rest }) ∧
  (∀ s : Machine.State, s.pending = [] → s.down = false →
    ∃ t, Machine.step s = .next t ∧ t.pending = [] ∧ t.optime = s.optime + 1 ∧ SameMemory s t)

/-- O55. What State.reset holds. After reset every register field holds the reset value that the register tables give it, or the one
the model names (log entries 1 and 3), every memory is empty, OPTIME is 0, no command waits, no event is pending or queued, the
log is empty, and the stores are in canonical form. (R4, R7, R374) -/
def Obligations.ResetStateIsCanonical : Prop :=
  (∀ f : Field, Machine.State.reset.r f = f.reset) ∧ Canonical Machine.State.reset ∧ Machine.State.reset.pending = [] ∧
    Machine.State.reset.raised = [] ∧ Machine.State.reset.optime = 0 ∧ Machine.State.reset.keep = [] ∧ Machine.State.reset.deep = [[], []] ∧ Machine.State.reset.near = [] ∧
    Machine.State.reset.table = [] ∧ Machine.State.reset.ev.pend = 0 ∧ Machine.State.reset.ev.queue = [] ∧
    Machine.State.reset.ev.frames = [] ∧ Machine.State.reset.log.main = [] ∧ Machine.State.reset.log.spare = []

/-- O56. Every command completes and leaves no raised event untaken. In every state every command of the table answers a next state,
neither a fault nor a refusal, with every event that it raised taken by the log and the queues within the step; so does a step
on an empty queue. That a row whose condition does not hold changes nothing, that operands beyond their range are reduced to it,
and that an idle step is 1 µs are the model's choices (log entries 5, 6, 26 and 27). (R374) -/
def Obligations.EveryCommandCompletes : Prop :=
  (∀ (c : Instr) (s : Machine.State), ∃ t, exec c s = .next t ∧ t.raised = []) ∧
  (∀ s : Machine.State, ∃ t, Machine.step s = .next t ∧ t.raised = [])

/-- O57. Every step keeps the canonical form of the stores, and no command touches the queue. If the register-field file and every
memory are in canonical form (keys strictly rising, and in a memory no entry equal to what an unlisted address reads as), they
are after any step, whatever the command: image writes, start-up streaming, spoiled words, commits of the recorder and resets
included. No command changes the queue of those waiting behind it. (R25, R46, R368, R390) -/
def Obligations.StepsKeepTheStoresCanonical : Prop :=
  (∀ s t : Machine.State, Canonical s → Machine.step s = .next t → Canonical t) ∧
  (∀ (c : Instr) (s t : Machine.State), exec c s = .next t → t.pending = s.pending)

/-- O58. No step closes a pole but at a comparison point or pulse end with R229's conditions. Whatever the step, a pole of a lane
that was commanded open and is commanded closed after it was closed at that lane's comparison point, where the other lane's
latest valid record carries its permission for every function of the output and no pulse has the pole open, or at the end of a
test pulse of a pole that was closed before, with no demand meanwhile and SWITCH_CHANGED not set. In both cases the output's
request is present, the lane permits all its functions and no latched fault holds it, still when the step has ended. (R229,
R234, R251, R252, R258) -/
def Obligations.PolesCloseOnlyUnderR229 : Prop :=
  ∀ (s t : Machine.State) (l o : Nat), Machine.step s = .next t → l < 2 → bitAt (s.lane l).cmd o = false →
    bitAt (t.lane l).cmd o = true →
    MayConduct l o t ∧
      ((ComparisonPoint l s t ∧ (t.lane l).heard = true ∧ Nat.land (t.lane l).other.perm (t.outMask l o) = t.outMask l o ∧
          t.pulsed l ≠ some o) ∨
        PulseEnd l o s t)

/-- O59. A committed record is kept and read back as it was. For every record whose numbers lie in the ranges of its fields, a copy
written into the keep store passes the check of a start, has the GEN it was written with, and is read back as the same record:
item, kind, instance, geometry, COUNT, SUM, START_SECONDS and every number of the body. (R389, R390, R391) -/
def Obligations.RecordCopiesReadBack : Prop :=
  ∀ (s : Machine.State) (r : RecSlot) (slot copy gen seconds pcc : Nat), RecInRange r → gen < 2 ^ 32 →
    ∀ t : Machine.State, t.keep = memWrite s.keep (recBase slot copy) (r.copy gen seconds pcc) →
      t.recOk slot copy = true ∧ t.recGen slot copy = gen ∧ t.recParse slot copy = r

/-- O60. A frame the module builds is read back field by field, and still after a switch has lowered HOPS. For every header whose
fields lie in range and every payload of fewer than 65,536 bytes: the built frame has a good FCS, the EtherType of the
configuration, a good CRC, and is read with each field and the payload as built; with HOPS replaced it is read the same but for
HOPS, again with a good FCS. A response frame of the host port has ten bytes and a good CRC-8. (R28, R315, R316, R317, R320) -/
def Obligations.FramesReadBackAsBuilt : Prop :=
  (∀ (s : Machine.State) (net n : Nat) (h : FrameHead) (payload : List Byte), h.hops < 256 → h.kind < 256 → h.src < 256 → h.info < 32 →
    h.dst < 256 → h.sel < 4 → h.seq < 2 ^ 32 → payload.length < 65536 → n < 256 →
    fcsOk (buildFrame s net h payload) = true ∧ etherType (buildFrame s net h payload) = s.r Reg.NET_MAP_CFG_ETHERTYPE % 65536 ∧
    (∀ x, x = parseRh (buildFrame s net h payload) →
      x.hops = h.hops ∧ x.version = 1 ∧ x.kind = h.kind ∧ x.src = h.src ∧ x.side = h.info % 2 ∧ x.active = bitAt h.info 1 ∧
      x.origin = h.info / 4 % 4 ∧ x.first = bitAt h.info 4 ∧ x.dst = h.dst ∧ x.sel = h.sel ∧ x.seq = h.seq ∧ x.payload = payload ∧
      x.crcOk = true ∧ parseRh (withHops n (buildFrame s net h payload)) = { x with hops := n }) ∧
    fcsOk (withHops n (buildFrame s net h payload)) = true) ∧
  (∀ x : HostResp, (responseBytes x).length = 10 ∧ frameGood (responseBytes x) = true)

end
end

