-- ==== Sys2Proof/Laws/Bits.lean ====
section
/-! SUPPORT. The laws of the plain helpers: sparse maps, groups of fixed things, little-endian bytes, saturation. -/

namespace Sys2Proof.Machine

namespace SMap
variable {α : Type}

@[simp] theorem get_nil (k : Nat) (d : α) : get ([] : SMap α) k d = d := rfl

theorem get_insert_same (m : SMap α) (k : Nat) (v d : α) : get (insert m k v) k d = v := by
  induction m with
  | nil => simp [insert, get]
  | cons c rest ih =>
    obtain ⟨j, w⟩ := c
    by_cases h : j = k
    · simp [insert, get, h]
    · by_cases h' : k < j <;> simp [insert, get, h, h', ih]

theorem get_insert_ne (m : SMap α) (k j : Nat) (v d : α) (h : j ≠ k) : get (insert m k v) j d = get m j d := by
  induction m with
  | nil => simp [insert, get, Ne.symm h]
  | cons c rest ih =>
    obtain ⟨i, w⟩ := c
    by_cases hi : i = k
    · subst hi; simp [insert, get, Ne.symm h]
    · by_cases h' : k < i
      · simp [insert, get, hi, h', Ne.symm h]
      · simp only [insert, hi, h', if_false, get, ih]

theorem get_erase_same (m : SMap α) (k : Nat) (d : α) : get (erase m k) k d = d := by
  induction m with
  | nil => rfl
  | cons c rest ih =>
    obtain ⟨j, w⟩ := c
    by_cases h : j = k <;> simp [erase, get, h, ih]

theorem get_erase_ne (m : SMap α) (k j : Nat) (d : α) (h : j ≠ k) : get (erase m k) j d = get m j d := by
  induction m with
  | nil => rfl
  | cons c rest ih =>
    obtain ⟨i, w⟩ := c
    by_cases hi : i = k
    · subst hi; simp [erase, get, Ne.symm h, ih]
    · simp only [erase, hi, if_false, get, ih]

/-- A read after a write to the same key gives the value written. -/
@[simp] theorem get_put_same [DecidableEq α] (m : SMap α) (k : Nat) (v d : α) : get (put m k v d) k d = v := by
  by_cases h : v = d
  · simp [put, h, get_erase_same]
  · simp [put, h, get_insert_same]

/-- A write leaves every other key alone. -/
theorem get_put_ne [DecidableEq α] (m : SMap α) (k j : Nat) (v d e : α) (h : j ≠ k) :
    get (put m k v d) j e = get m j e := by
  by_cases hv : v = d
  · simp [put, hv, get_erase_ne m k j e h]
  · simp [put, hv, get_insert_ne m k j v e h]

theorem sortedFrom_le {m : SMap α} {a b : Nat} (h : sortedFrom b m = true) (hab : a ≤ b) : sortedFrom a m = true := by
  cases m with
  | nil => rfl
  | cons c rest =>
    obtain ⟨j, w⟩ := c
    simp only [sortedFrom, Bool.and_eq_true, decide_eq_true_eq] at h ⊢
    exact ⟨le_trans hab h.1, h.2⟩

theorem sortedFrom_insert {m : SMap α} {a k : Nat} (v : α) (h : sortedFrom a m = true) (hk : a ≤ k) :
    sortedFrom a (insert m k v) = true := by
  induction m generalizing a with
  | nil => simp [insert, sortedFrom, hk]
  | cons c rest ih =>
    obtain ⟨j, w⟩ := c
    simp only [sortedFrom, Bool.and_eq_true, decide_eq_true_eq] at h
    by_cases hj : j = k
    · subst hj; simp [insert, sortedFrom, h.1, h.2]
    · by_cases hlt : k < j
      · simp only [insert, hj, hlt, if_false, if_true, sortedFrom, Bool.and_eq_true, decide_eq_true_eq]
        exact ⟨hk, hlt, h.2⟩
      · simp only [insert, hj, hlt, if_false, sortedFrom, Bool.and_eq_true, decide_eq_true_eq]
        exact ⟨h.1, ih h.2 (by omega)⟩

theorem sortedFrom_erase {m : SMap α} {a k : Nat} (h : sortedFrom a m = true) : sortedFrom a (erase m k) = true := by
  induction m generalizing a with
  | nil => rfl
  | cons c rest ih =>
    obtain ⟨j, w⟩ := c
    simp only [sortedFrom, Bool.and_eq_true, decide_eq_true_eq] at h
    by_cases hj : j = k
    · simp only [erase, hj, if_true]
      exact ih (sortedFrom_le h.2 (by omega))
    · simp only [erase, hj, if_false, sortedFrom, Bool.and_eq_true, decide_eq_true_eq]
      exact ⟨h.1, ih h.2⟩

/-- A write keeps the keys strictly rising. -/
theorem sorted_put [DecidableEq α] {m : SMap α} (k : Nat) (v d : α) (h : sorted m = true) : sorted (put m k v d) = true := by
  by_cases hv : v = d
  · simpa [put, hv, sorted] using sortedFrom_erase (k := k) h
  · simpa [put, hv, sorted] using sortedFrom_insert v h (Nat.zero_le k)

theorem all_erase (p : Nat × α → Bool) (m : SMap α) (k : Nat) (h : m.all p = true) : (erase m k).all p = true := by
  induction m with
  | nil => rfl
  | cons c rest ih =>
    obtain ⟨j, w⟩ := c
    simp only [List.all_cons, Bool.and_eq_true] at h
    by_cases hj : j = k
    · simp only [erase, hj, if_true]; exact ih h.2
    · simp only [erase, hj, if_false, List.all_cons, Bool.and_eq_true]; exact ⟨h.1, ih h.2⟩

theorem all_insert (p : Nat × α → Bool) (m : SMap α) (k : Nat) (v : α) (h : m.all p = true) (hv : p (k, v) = true) :
    (insert m k v).all p = true := by
  induction m with
  | nil => simp [insert, hv]
  | cons c rest ih =>
    obtain ⟨j, w⟩ := c
    simp only [List.all_cons, Bool.and_eq_true] at h
    by_cases hj : j = k
    · subst hj; simp [insert, hv, h.2]
    · by_cases hlt : k < j
      · simp [insert, hj, hlt, hv, h.1, h.2]
      · simp only [insert, hj, hlt, if_false, List.all_cons, Bool.and_eq_true]; exact ⟨h.1, ih h.2⟩

end SMap

/-! ### Groups of fixed things -/

@[simp] theorem nth_modAt_same {α : Type} (l : List α) (i : Nat) (f : α → α) (d : α) :
    nth (modAt l i f d) i d = f (nth l i d) := by
  induction i generalizing l with
  | zero => cases l <;> rfl
  | succ n ih =>
    cases l with
    | nil => simpa [modAt, nth] using ih []
    | cons x xs => simpa [modAt, nth] using ih xs

theorem nth_modAt_ne {α : Type} (l : List α) (i j : Nat) (f : α → α) (d : α) (h : j ≠ i) :
    nth (modAt l i f d) j d = nth l j d := by
  induction i generalizing l j with
  | zero =>
    cases j with
    | zero => exact absurd rfl h
    | succ j => cases l <;> cases j <;> rfl
  | succ n ih =>
    cases j with
    | zero => cases l <;> rfl
    | succ j =>
      cases l with
      | nil => simpa [modAt, nth] using ih [] j (by omega)
      | cons x xs => simpa [modAt, nth] using ih xs j (by omega)

@[simp] theorem nth_setAt_same {α : Type} (l : List α) (i : Nat) (v d : α) : nth (setAt l i v d) i d = v := by
  simp [setAt]

theorem nth_setAt_ne {α : Type} (l : List α) (i j : Nat) (v d : α) (h : j ≠ i) : nth (setAt l i v d) j d = nth l j d :=
  nth_modAt_ne l i j _ d h

/-! ### Bits -/

theorem bitAt_eq_testBit (v i : Nat) : bitAt v i = v.testBit i := by
  rw [Nat.testBit_eq_decide_div_mod_eq]
  unfold bitAt
  by_cases h : v / 2 ^ i % 2 = 1 <;> simp [h]

/-- Setting a bit sets that bit and no other. -/
theorem testBit_setBit (v i j : Nat) (b : Bool) : (setBit v i b).testBit j = if j = i then b else v.testBit j := by
  unfold setBit
  rw [bitAt_eq_testBit]
  by_cases hj : j = i
  · subst hj
    cases b <;> cases h : v.testBit j <;> simp [h, Nat.testBit_or, Nat.testBit_xor]
  · have hne : ¬ i = j := fun e => hj e.symm
    cases b <;> cases h : v.testBit i <;>
      simp [hj, Nat.testBit_or, Nat.testBit_xor, hne]

@[simp] theorem bitAt_setBit_same (v i : Nat) (b : Bool) : bitAt (setBit v i b) i = b := by
  simp [bitAt_eq_testBit, testBit_setBit]

theorem bitAt_setBit_ne (v i j : Nat) (b : Bool) (h : j ≠ i) : bitAt (setBit v i b) j = bitAt v j := by
  simp [bitAt_eq_testBit, testBit_setBit, h]

/-! ### Bytes -/

@[simp] theorem leBytes_length (n v : Nat) : (leBytes n v).length = n := by
  induction n generalizing v with
  | zero => rfl
  | succ n ih => simp [leBytes, ih]

@[simp] theorem beBytes_length (n v : Nat) : (beBytes n v).length = n := by simp [beBytes]

/-- The bytes of a number spell it again. -/
theorem leNat_leBytes (n v : Nat) : leNat (leBytes n v) = v % 256 ^ n := by
  induction n generalizing v with
  | zero => simp [leBytes, leNat, Nat.mod_one]
  | succ n ih =>
    simp only [leBytes, leNat, ih, BitVec.toNat_ofNat]
    rw [show (256 : Nat) ^ (n + 1) = 256 * 256 ^ n from Nat.pow_succ', Nat.mod_mul]

theorem beNat_beBytes (n v : Nat) : beNat (beBytes n v) = v % 256 ^ n := by
  simp [beNat, beBytes, leNat_leBytes]

theorem satN_lt (w v : Nat) : satN w v < 2 ^ w := by
  unfold satN
  split
  · assumption
  · have := Nat.two_pow_pos w; omega

theorem satN_of_lt {w v : Nat} (h : v < 2 ^ w) : satN w v = v := by simp [satN, h]

theorem b2n_lt (b : Bool) : b2n b < 2 := by cases b <;> decide

@[simp] theorem b2n_ne_zero (b : Bool) : (b2n b != 0) = b := by cases b <;> rfl

end Sys2Proof.Machine
end

