-- ==== Sys2Proof/Laws/State.lean ====
section
/-! SUPPORT. One lemma per field of State per update, and the laws of the register-field file: what an update leaves alone, and
what a field reads after it is written. -/

namespace Sys2Proof.Machine

namespace State

@[simp] theorem w_pending (s : State) (f : Field) (v : Nat) : (s.w f v).pending = s.pending := rfl
@[simp] theorem w_optime (s : State) (f : Field) (v : Nat) : (s.w f v).optime = s.optime := rfl
@[simp] theorem w_pcc (s : State) (f : Field) (v : Nat) : (s.w f v).pcc = s.pcc := rfl
@[simp] theorem w_free (s : State) (f : Field) (v : Nat) : (s.w f v).free = s.free := rfl
@[simp] theorem w_raised (s : State) (f : Field) (v : Nat) : (s.w f v).raised = s.raised := rfl
@[simp] theorem w_ev (s : State) (f : Field) (v : Nat) : (s.w f v).ev = s.ev := rfl
@[simp] theorem w_log (s : State) (f : Field) (v : Nat) : (s.w f v).log = s.log := rfl
@[simp] theorem w_wall (s : State) (f : Field) (v : Nat) : (s.w f v).wall = s.wall := rfl
@[simp] theorem w_host (s : State) (f : Field) (v : Nat) : (s.w f v).host = s.host := rfl
@[simp] theorem w_pathHost (s : State) (f : Field) (v : Nat) : (s.w f v).pathHost = s.pathHost := rfl
@[simp] theorem w_pathMgmt (s : State) (f : Field) (v : Nat) : (s.w f v).pathMgmt = s.pathMgmt := rfl
@[simp] theorem w_keep (s : State) (f : Field) (v : Nat) : (s.w f v).keep = s.keep := rfl
@[simp] theorem w_deep (s : State) (f : Field) (v : Nat) : (s.w f v).deep = s.deep := rfl
@[simp] theorem w_near (s : State) (f : Field) (v : Nat) : (s.w f v).near = s.near := rfl
@[simp] theorem w_table (s : State) (f : Field) (v : Nat) : (s.w f v).table = s.table := rfl
@[simp] theorem w_img (s : State) (f : Field) (v : Nat) : (s.w f v).img = s.img := rfl
@[simp] theorem w_dsp (s : State) (f : Field) (v : Nat) : (s.w f v).dsp = s.dsp := rfl
@[simp] theorem w_pos (s : State) (f : Field) (v : Nat) : (s.w f v).pos = s.pos := rfl
@[simp] theorem w_ret (s : State) (f : Field) (v : Nat) : (s.w f v).ret = s.ret := rfl
@[simp] theorem w_trip (s : State) (f : Field) (v : Nat) : (s.w f v).trip = s.trip := rfl
@[simp] theorem w_loop (s : State) (f : Field) (v : Nat) : (s.w f v).loop = s.loop := rfl
@[simp] theorem w_saf (s : State) (f : Field) (v : Nat) : (s.w f v).saf = s.saf := rfl
@[simp] theorem w_fio (s : State) (f : Field) (v : Nat) : (s.w f v).fio = s.fio := rfl
@[simp] theorem w_net (s : State) (f : Field) (v : Nat) : (s.w f v).net = s.net := rfl
@[simp] theorem w_mir (s : State) (f : Field) (v : Nat) : (s.w f v).mir = s.mir := rfl
@[simp] theorem w_rcd (s : State) (f : Field) (v : Nat) : (s.w f v).rcd = s.rcd := rfl
@[simp] theorem w_mem (s : State) (f : Field) (v : Nat) : (s.w f v).mem = s.mem := rfl
@[simp] theorem w_pwr (s : State) (f : Field) (v : Nat) : (s.w f v).pwr = s.pwr := rfl
@[simp] theorem w_sec (s : State) (f : Field) (v : Nat) : (s.w f v).sec = s.sec := rfl
@[simp] theorem w_lane (s : State) (f : Field) (v : Nat) (l' : Nat) : (s.w f v).lane l' = s.lane l' := rfl
@[simp] theorem w_facet (s : State) (f : Field) (v : Nat) (p' : Nat) : (s.w f v).facet p' = s.facet p' := rfl
@[simp] theorem w_set (s : State) (f : Field) (v : Nat) (k' : Nat) : (s.w f v).set k' = s.set k' := rfl
@[simp] theorem w_chan (s : State) (f : Field) (v : Nat) (k' : Nat) : (s.w f v).chan k' = s.chan k' := rfl
@[simp] theorem w_door (s : State) (f : Field) (v : Nat) (d' : Nat) : (s.w f v).door d' = s.door d' := rfl
@[simp] theorem w_port (s : State) (f : Field) (v : Nat) (p' : Nat) : (s.w f v).port p' = s.port p' := rfl
@[simp] theorem w_scChan (s : State) (f : Field) (v : Nat) (c' : Nat) : (s.w f v).scChan c' = s.scChan c' := rfl
@[simp] theorem w_qdChan (s : State) (f : Field) (v : Nat) (c' : Nat) : (s.w f v).qdChan c' = s.qdChan c' := rfl
@[simp] theorem w_ssiChan (s : State) (f : Field) (v : Nat) (c' : Nat) : (s.w f v).ssiChan c' = s.ssiChan c' := rfl
@[simp] theorem w_eng (s : State) (f : Field) (v : Nat) (n' : Nat) : (s.w f v).eng n' = s.eng n' := rfl
@[simp] theorem w_dlNode (s : State) (f : Field) (v : Nat) (n' : Nat) : (s.w f v).dlNode n' = s.dlNode n' := rfl
@[simp] theorem w_dout (s : State) (f : Field) (v : Nat) (n' : Nat) : (s.w f v).dout n' = s.dout n' := rfl
@[simp] theorem w_nbr (s : State) (f : Field) (v : Nat) (n' : Nat) : (s.w f v).nbr n' = s.nbr n' := rfl
@[simp] theorem w_clock (s : State) (f : Field) (v : Nat) (n' : Nat) : (s.w f v).clock n' = s.clock n' := rfl

@[simp] theorem took_pending (s : State) : (s.took).pending = s.pending := rfl
@[simp] theorem took_regs (s : State) : (s.took).regs = s.regs := rfl
@[simp] theorem took_optime (s : State) : (s.took).optime = s.optime := rfl
@[simp] theorem took_pcc (s : State) : (s.took).pcc = s.pcc := rfl
@[simp] theorem took_raised (s : State) : (s.took).raised = s.raised := rfl
@[simp] theorem took_ev (s : State) : (s.took).ev = s.ev := rfl
@[simp] theorem took_log (s : State) : (s.took).log = s.log := rfl
@[simp] theorem took_wall (s : State) : (s.took).wall = s.wall := rfl
@[simp] theorem took_host (s : State) : (s.took).host = s.host := rfl
@[simp] theorem took_pathHost (s : State) : (s.took).pathHost = s.pathHost := rfl
@[simp] theorem took_pathMgmt (s : State) : (s.took).pathMgmt = s.pathMgmt := rfl
@[simp] theorem took_keep (s : State) : (s.took).keep = s.keep := rfl
@[simp] theorem took_deep (s : State) : (s.took).deep = s.deep := rfl
@[simp] theorem took_near (s : State) : (s.took).near = s.near := rfl
@[simp] theorem took_table (s : State) : (s.took).table = s.table := rfl
@[simp] theorem took_img (s : State) : (s.took).img = s.img := rfl
@[simp] theorem took_dsp (s : State) : (s.took).dsp = s.dsp := rfl
@[simp] theorem took_pos (s : State) : (s.took).pos = s.pos := rfl
@[simp] theorem took_ret (s : State) : (s.took).ret = s.ret := rfl
@[simp] theorem took_trip (s : State) : (s.took).trip = s.trip := rfl
@[simp] theorem took_loop (s : State) : (s.took).loop = s.loop := rfl
@[simp] theorem took_saf (s : State) : (s.took).saf = s.saf := rfl
@[simp] theorem took_fio (s : State) : (s.took).fio = s.fio := rfl
@[simp] theorem took_net (s : State) : (s.took).net = s.net := rfl
@[simp] theorem took_mir (s : State) : (s.took).mir = s.mir := rfl
@[simp] theorem took_rcd (s : State) : (s.took).rcd = s.rcd := rfl
@[simp] theorem took_mem (s : State) : (s.took).mem = s.mem := rfl
@[simp] theorem took_pwr (s : State) : (s.took).pwr = s.pwr := rfl
@[simp] theorem took_sec (s : State) : (s.took).sec = s.sec := rfl
@[simp] theorem took_r (s : State) (g : Field) : (s.took).r g = s.r g := rfl
@[simp] theorem took_lane (s : State) (l' : Nat) : (s.took).lane l' = s.lane l' := rfl
@[simp] theorem took_facet (s : State) (p' : Nat) : (s.took).facet p' = s.facet p' := rfl
@[simp] theorem took_set (s : State) (k' : Nat) : (s.took).set k' = s.set k' := rfl
@[simp] theorem took_chan (s : State) (k' : Nat) : (s.took).chan k' = s.chan k' := rfl
@[simp] theorem took_door (s : State) (d' : Nat) : (s.took).door d' = s.door d' := rfl
@[simp] theorem took_port (s : State) (p' : Nat) : (s.took).port p' = s.port p' := rfl
@[simp] theorem took_scChan (s : State) (c' : Nat) : (s.took).scChan c' = s.scChan c' := rfl
@[simp] theorem took_qdChan (s : State) (c' : Nat) : (s.took).qdChan c' = s.qdChan c' := rfl
@[simp] theorem took_ssiChan (s : State) (c' : Nat) : (s.took).ssiChan c' = s.ssiChan c' := rfl
@[simp] theorem took_eng (s : State) (n' : Nat) : (s.took).eng n' = s.eng n' := rfl
@[simp] theorem took_dlNode (s : State) (n' : Nat) : (s.took).dlNode n' = s.dlNode n' := rfl
@[simp] theorem took_dout (s : State) (n' : Nat) : (s.took).dout n' = s.dout n' := rfl
@[simp] theorem took_nbr (s : State) (n' : Nat) : (s.took).nbr n' = s.nbr n' := rfl
@[simp] theorem took_clock (s : State) (n' : Nat) : (s.took).clock n' = s.clock n' := rfl
@[simp] theorem took_ri (s : State) (g : Field) : (s.took).ri g = s.ri g := rfl

@[simp] theorem raise_pending (s : State) (e : Evt) (l : List Arg) : (s.raise e l).pending = s.pending := rfl
@[simp] theorem raise_regs (s : State) (e : Evt) (l : List Arg) : (s.raise e l).regs = s.regs := rfl
@[simp] theorem raise_optime (s : State) (e : Evt) (l : List Arg) : (s.raise e l).optime = s.optime := rfl
@[simp] theorem raise_pcc (s : State) (e : Evt) (l : List Arg) : (s.raise e l).pcc = s.pcc := rfl
@[simp] theorem raise_free (s : State) (e : Evt) (l : List Arg) : (s.raise e l).free = s.free := rfl
@[simp] theorem raise_ev (s : State) (e : Evt) (l : List Arg) : (s.raise e l).ev = s.ev := rfl
@[simp] theorem raise_log (s : State) (e : Evt) (l : List Arg) : (s.raise e l).log = s.log := rfl
@[simp] theorem raise_wall (s : State) (e : Evt) (l : List Arg) : (s.raise e l).wall = s.wall := rfl
@[simp] theorem raise_host (s : State) (e : Evt) (l : List Arg) : (s.raise e l).host = s.host := rfl
@[simp] theorem raise_pathHost (s : State) (e : Evt) (l : List Arg) : (s.raise e l).pathHost = s.pathHost := rfl
@[simp] theorem raise_pathMgmt (s : State) (e : Evt) (l : List Arg) : (s.raise e l).pathMgmt = s.pathMgmt := rfl
@[simp] theorem raise_keep (s : State) (e : Evt) (l : List Arg) : (s.raise e l).keep = s.keep := rfl
@[simp] theorem raise_deep (s : State) (e : Evt) (l : List Arg) : (s.raise e l).deep = s.deep := rfl
@[simp] theorem raise_near (s : State) (e : Evt) (l : List Arg) : (s.raise e l).near = s.near := rfl
@[simp] theorem raise_table (s : State) (e : Evt) (l : List Arg) : (s.raise e l).table = s.table := rfl
@[simp] theorem raise_img (s : State) (e : Evt) (l : List Arg) : (s.raise e l).img = s.img := rfl
@[simp] theorem raise_dsp (s : State) (e : Evt) (l : List Arg) : (s.raise e l).dsp = s.dsp := rfl
@[simp] theorem raise_pos (s : State) (e : Evt) (l : List Arg) : (s.raise e l).pos = s.pos := rfl
@[simp] theorem raise_ret (s : State) (e : Evt) (l : List Arg) : (s.raise e l).ret = s.ret := rfl
@[simp] theorem raise_trip (s : State) (e : Evt) (l : List Arg) : (s.raise e l).trip = s.trip := rfl
@[simp] theorem raise_loop (s : State) (e : Evt) (l : List Arg) : (s.raise e l).loop = s.loop := rfl
@[simp] theorem raise_saf (s : State) (e : Evt) (l : List Arg) : (s.raise e l).saf = s.saf := rfl
@[simp] theorem raise_fio (s : State) (e : Evt) (l : List Arg) : (s.raise e l).fio = s.fio := rfl
@[simp] theorem raise_net (s : State) (e : Evt) (l : List Arg) : (s.raise e l).net = s.net := rfl
@[simp] theorem raise_mir (s : State) (e : Evt) (l : List Arg) : (s.raise e l).mir = s.mir := rfl
@[simp] theorem raise_rcd (s : State) (e : Evt) (l : List Arg) : (s.raise e l).rcd = s.rcd := rfl
@[simp] theorem raise_mem (s : State) (e : Evt) (l : List Arg) : (s.raise e l).mem = s.mem := rfl
@[simp] theorem raise_pwr (s : State) (e : Evt) (l : List Arg) : (s.raise e l).pwr = s.pwr := rfl
@[simp] theorem raise_sec (s : State) (e : Evt) (l : List Arg) : (s.raise e l).sec = s.sec := rfl
@[simp] theorem raise_r (s : State) (e : Evt) (l : List Arg) (g : Field) : (s.raise e l).r g = s.r g := rfl
@[simp] theorem raise_lane (s : State) (e : Evt) (l : List Arg) (l' : Nat) : (s.raise e l).lane l' = s.lane l' := rfl
@[simp] theorem raise_facet (s : State) (e : Evt) (l : List Arg) (p' : Nat) : (s.raise e l).facet p' = s.facet p' := rfl
@[simp] theorem raise_set (s : State) (e : Evt) (l : List Arg) (k' : Nat) : (s.raise e l).set k' = s.set k' := rfl
@[simp] theorem raise_chan (s : State) (e : Evt) (l : List Arg) (k' : Nat) : (s.raise e l).chan k' = s.chan k' := rfl
@[simp] theorem raise_door (s : State) (e : Evt) (l : List Arg) (d' : Nat) : (s.raise e l).door d' = s.door d' := rfl
@[simp] theorem raise_port (s : State) (e : Evt) (l : List Arg) (p' : Nat) : (s.raise e l).port p' = s.port p' := rfl
@[simp] theorem raise_scChan (s : State) (e : Evt) (l : List Arg) (c' : Nat) : (s.raise e l).scChan c' = s.scChan c' := rfl
@[simp] theorem raise_qdChan (s : State) (e : Evt) (l : List Arg) (c' : Nat) : (s.raise e l).qdChan c' = s.qdChan c' := rfl
@[simp] theorem raise_ssiChan (s : State) (e : Evt) (l : List Arg) (c' : Nat) : (s.raise e l).ssiChan c' = s.ssiChan c' := rfl
@[simp] theorem raise_eng (s : State) (e : Evt) (l : List Arg) (n' : Nat) : (s.raise e l).eng n' = s.eng n' := rfl
@[simp] theorem raise_dlNode (s : State) (e : Evt) (l : List Arg) (n' : Nat) : (s.raise e l).dlNode n' = s.dlNode n' := rfl
@[simp] theorem raise_dout (s : State) (e : Evt) (l : List Arg) (n' : Nat) : (s.raise e l).dout n' = s.dout n' := rfl
@[simp] theorem raise_nbr (s : State) (e : Evt) (l : List Arg) (n' : Nat) : (s.raise e l).nbr n' = s.nbr n' := rfl
@[simp] theorem raise_clock (s : State) (e : Evt) (l : List Arg) (n' : Nat) : (s.raise e l).clock n' = s.clock n' := rfl
@[simp] theorem raise_ri (s : State) (e : Evt) (l : List Arg) (g : Field) : (s.raise e l).ri g = s.ri g := rfl

@[simp] theorem modMir_pending (s : State) (f : MirState → MirState) : (s.modMir f).pending = s.pending := rfl
@[simp] theorem modMir_regs (s : State) (f : MirState → MirState) : (s.modMir f).regs = s.regs := rfl
@[simp] theorem modMir_optime (s : State) (f : MirState → MirState) : (s.modMir f).optime = s.optime := rfl
@[simp] theorem modMir_pcc (s : State) (f : MirState → MirState) : (s.modMir f).pcc = s.pcc := rfl
@[simp] theorem modMir_free (s : State) (f : MirState → MirState) : (s.modMir f).free = s.free := rfl
@[simp] theorem modMir_raised (s : State) (f : MirState → MirState) : (s.modMir f).raised = s.raised := rfl
@[simp] theorem modMir_ev (s : State) (f : MirState → MirState) : (s.modMir f).ev = s.ev := rfl
@[simp] theorem modMir_log (s : State) (f : MirState → MirState) : (s.modMir f).log = s.log := rfl
@[simp] theorem modMir_wall (s : State) (f : MirState → MirState) : (s.modMir f).wall = s.wall := rfl
@[simp] theorem modMir_host (s : State) (f : MirState → MirState) : (s.modMir f).host = s.host := rfl
@[simp] theorem modMir_pathHost (s : State) (f : MirState → MirState) : (s.modMir f).pathHost = s.pathHost := rfl
@[simp] theorem modMir_pathMgmt (s : State) (f : MirState → MirState) : (s.modMir f).pathMgmt = s.pathMgmt := rfl
@[simp] theorem modMir_keep (s : State) (f : MirState → MirState) : (s.modMir f).keep = s.keep := rfl
@[simp] theorem modMir_deep (s : State) (f : MirState → MirState) : (s.modMir f).deep = s.deep := rfl
@[simp] theorem modMir_near (s : State) (f : MirState → MirState) : (s.modMir f).near = s.near := rfl
@[simp] theorem modMir_table (s : State) (f : MirState → MirState) : (s.modMir f).table = s.table := rfl
@[simp] theorem modMir_img (s : State) (f : MirState → MirState) : (s.modMir f).img = s.img := rfl
@[simp] theorem modMir_dsp (s : State) (f : MirState → MirState) : (s.modMir f).dsp = s.dsp := rfl
@[simp] theorem modMir_pos (s : State) (f : MirState → MirState) : (s.modMir f).pos = s.pos := rfl
@[simp] theorem modMir_ret (s : State) (f : MirState → MirState) : (s.modMir f).ret = s.ret := rfl
@[simp] theorem modMir_trip (s : State) (f : MirState → MirState) : (s.modMir f).trip = s.trip := rfl
@[simp] theorem modMir_loop (s : State) (f : MirState → MirState) : (s.modMir f).loop = s.loop := rfl
@[simp] theorem modMir_saf (s : State) (f : MirState → MirState) : (s.modMir f).saf = s.saf := rfl
@[simp] theorem modMir_fio (s : State) (f : MirState → MirState) : (s.modMir f).fio = s.fio := rfl
@[simp] theorem modMir_net (s : State) (f : MirState → MirState) : (s.modMir f).net = s.net := rfl
@[simp] theorem modMir_rcd (s : State) (f : MirState → MirState) : (s.modMir f).rcd = s.rcd := rfl
@[simp] theorem modMir_mem (s : State) (f : MirState → MirState) : (s.modMir f).mem = s.mem := rfl
@[simp] theorem modMir_pwr (s : State) (f : MirState → MirState) : (s.modMir f).pwr = s.pwr := rfl
@[simp] theorem modMir_sec (s : State) (f : MirState → MirState) : (s.modMir f).sec = s.sec := rfl
@[simp] theorem modMir_r (s : State) (f : MirState → MirState) (g : Field) : (s.modMir f).r g = s.r g := rfl
@[simp] theorem modMir_lane (s : State) (f : MirState → MirState) (l' : Nat) : (s.modMir f).lane l' = s.lane l' := rfl
@[simp] theorem modMir_facet (s : State) (f : MirState → MirState) (p' : Nat) : (s.modMir f).facet p' = s.facet p' := rfl
@[simp] theorem modMir_set (s : State) (f : MirState → MirState) (k' : Nat) : (s.modMir f).set k' = s.set k' := rfl
@[simp] theorem modMir_chan (s : State) (f : MirState → MirState) (k' : Nat) : (s.modMir f).chan k' = s.chan k' := rfl
@[simp] theorem modMir_door (s : State) (f : MirState → MirState) (d' : Nat) : (s.modMir f).door d' = s.door d' := rfl
@[simp] theorem modMir_port (s : State) (f : MirState → MirState) (p' : Nat) : (s.modMir f).port p' = s.port p' := rfl
@[simp] theorem modMir_scChan (s : State) (f : MirState → MirState) (c' : Nat) : (s.modMir f).scChan c' = s.scChan c' := rfl
@[simp] theorem modMir_qdChan (s : State) (f : MirState → MirState) (c' : Nat) : (s.modMir f).qdChan c' = s.qdChan c' := rfl
@[simp] theorem modMir_ssiChan (s : State) (f : MirState → MirState) (c' : Nat) : (s.modMir f).ssiChan c' = s.ssiChan c' := rfl
@[simp] theorem modMir_eng (s : State) (f : MirState → MirState) (n' : Nat) : (s.modMir f).eng n' = s.eng n' := rfl
@[simp] theorem modMir_dlNode (s : State) (f : MirState → MirState) (n' : Nat) : (s.modMir f).dlNode n' = s.dlNode n' := rfl
@[simp] theorem modMir_dout (s : State) (f : MirState → MirState) (n' : Nat) : (s.modMir f).dout n' = s.dout n' := rfl
@[simp] theorem modMir_nbr (s : State) (f : MirState → MirState) (n' : Nat) : (s.modMir f).nbr n' = s.nbr n' := rfl
@[simp] theorem modMir_clock (s : State) (f : MirState → MirState) (n' : Nat) : (s.modMir f).clock n' = s.clock n' := rfl
@[simp] theorem modMir_ri (s : State) (f : MirState → MirState) (g : Field) : (s.modMir f).ri g = s.ri g := rfl

@[simp] theorem modSaf_pending (s : State) (f : SafState → SafState) : (s.modSaf f).pending = s.pending := rfl
@[simp] theorem modSaf_regs (s : State) (f : SafState → SafState) : (s.modSaf f).regs = s.regs := rfl
@[simp] theorem modSaf_optime (s : State) (f : SafState → SafState) : (s.modSaf f).optime = s.optime := rfl
@[simp] theorem modSaf_pcc (s : State) (f : SafState → SafState) : (s.modSaf f).pcc = s.pcc := rfl
@[simp] theorem modSaf_free (s : State) (f : SafState → SafState) : (s.modSaf f).free = s.free := rfl
@[simp] theorem modSaf_raised (s : State) (f : SafState → SafState) : (s.modSaf f).raised = s.raised := rfl
@[simp] theorem modSaf_ev (s : State) (f : SafState → SafState) : (s.modSaf f).ev = s.ev := rfl
@[simp] theorem modSaf_log (s : State) (f : SafState → SafState) : (s.modSaf f).log = s.log := rfl
@[simp] theorem modSaf_wall (s : State) (f : SafState → SafState) : (s.modSaf f).wall = s.wall := rfl
@[simp] theorem modSaf_host (s : State) (f : SafState → SafState) : (s.modSaf f).host = s.host := rfl
@[simp] theorem modSaf_pathHost (s : State) (f : SafState → SafState) : (s.modSaf f).pathHost = s.pathHost := rfl
@[simp] theorem modSaf_pathMgmt (s : State) (f : SafState → SafState) : (s.modSaf f).pathMgmt = s.pathMgmt := rfl
@[simp] theorem modSaf_keep (s : State) (f : SafState → SafState) : (s.modSaf f).keep = s.keep := rfl
@[simp] theorem modSaf_deep (s : State) (f : SafState → SafState) : (s.modSaf f).deep = s.deep := rfl
@[simp] theorem modSaf_near (s : State) (f : SafState → SafState) : (s.modSaf f).near = s.near := rfl
@[simp] theorem modSaf_table (s : State) (f : SafState → SafState) : (s.modSaf f).table = s.table := rfl
@[simp] theorem modSaf_img (s : State) (f : SafState → SafState) : (s.modSaf f).img = s.img := rfl
@[simp] theorem modSaf_dsp (s : State) (f : SafState → SafState) : (s.modSaf f).dsp = s.dsp := rfl
@[simp] theorem modSaf_pos (s : State) (f : SafState → SafState) : (s.modSaf f).pos = s.pos := rfl
@[simp] theorem modSaf_ret (s : State) (f : SafState → SafState) : (s.modSaf f).ret = s.ret := rfl
@[simp] theorem modSaf_trip (s : State) (f : SafState → SafState) : (s.modSaf f).trip = s.trip := rfl
@[simp] theorem modSaf_loop (s : State) (f : SafState → SafState) : (s.modSaf f).loop = s.loop := rfl
@[simp] theorem modSaf_fio (s : State) (f : SafState → SafState) : (s.modSaf f).fio = s.fio := rfl
@[simp] theorem modSaf_net (s : State) (f : SafState → SafState) : (s.modSaf f).net = s.net := rfl
@[simp] theorem modSaf_mir (s : State) (f : SafState → SafState) : (s.modSaf f).mir = s.mir := rfl
@[simp] theorem modSaf_rcd (s : State) (f : SafState → SafState) : (s.modSaf f).rcd = s.rcd := rfl
@[simp] theorem modSaf_mem (s : State) (f : SafState → SafState) : (s.modSaf f).mem = s.mem := rfl
@[simp] theorem modSaf_pwr (s : State) (f : SafState → SafState) : (s.modSaf f).pwr = s.pwr := rfl
@[simp] theorem modSaf_sec (s : State) (f : SafState → SafState) : (s.modSaf f).sec = s.sec := rfl
@[simp] theorem modSaf_r (s : State) (f : SafState → SafState) (g : Field) : (s.modSaf f).r g = s.r g := rfl
@[simp] theorem modSaf_facet (s : State) (f : SafState → SafState) (p' : Nat) : (s.modSaf f).facet p' = s.facet p' := rfl
@[simp] theorem modSaf_set (s : State) (f : SafState → SafState) (k' : Nat) : (s.modSaf f).set k' = s.set k' := rfl
@[simp] theorem modSaf_chan (s : State) (f : SafState → SafState) (k' : Nat) : (s.modSaf f).chan k' = s.chan k' := rfl
@[simp] theorem modSaf_door (s : State) (f : SafState → SafState) (d' : Nat) : (s.modSaf f).door d' = s.door d' := rfl
@[simp] theorem modSaf_port (s : State) (f : SafState → SafState) (p' : Nat) : (s.modSaf f).port p' = s.port p' := rfl
@[simp] theorem modSaf_scChan (s : State) (f : SafState → SafState) (c' : Nat) : (s.modSaf f).scChan c' = s.scChan c' := rfl
@[simp] theorem modSaf_qdChan (s : State) (f : SafState → SafState) (c' : Nat) : (s.modSaf f).qdChan c' = s.qdChan c' := rfl
@[simp] theorem modSaf_ssiChan (s : State) (f : SafState → SafState) (c' : Nat) : (s.modSaf f).ssiChan c' = s.ssiChan c' := rfl
@[simp] theorem modSaf_eng (s : State) (f : SafState → SafState) (n' : Nat) : (s.modSaf f).eng n' = s.eng n' := rfl
@[simp] theorem modSaf_dlNode (s : State) (f : SafState → SafState) (n' : Nat) : (s.modSaf f).dlNode n' = s.dlNode n' := rfl
@[simp] theorem modSaf_dout (s : State) (f : SafState → SafState) (n' : Nat) : (s.modSaf f).dout n' = s.dout n' := rfl
@[simp] theorem modSaf_nbr (s : State) (f : SafState → SafState) (n' : Nat) : (s.modSaf f).nbr n' = s.nbr n' := rfl
@[simp] theorem modSaf_clock (s : State) (f : SafState → SafState) (n' : Nat) : (s.modSaf f).clock n' = s.clock n' := rfl
@[simp] theorem modSaf_ri (s : State) (f : SafState → SafState) (g : Field) : (s.modSaf f).ri g = s.ri g := rfl

@[simp] theorem modLane_pending (s : State) (l : Nat) (f : Lane → Lane) : (s.modLane l f).pending = s.pending := rfl
@[simp] theorem modLane_regs (s : State) (l : Nat) (f : Lane → Lane) : (s.modLane l f).regs = s.regs := rfl
@[simp] theorem modLane_optime (s : State) (l : Nat) (f : Lane → Lane) : (s.modLane l f).optime = s.optime := rfl
@[simp] theorem modLane_pcc (s : State) (l : Nat) (f : Lane → Lane) : (s.modLane l f).pcc = s.pcc := rfl
@[simp] theorem modLane_free (s : State) (l : Nat) (f : Lane → Lane) : (s.modLane l f).free = s.free := rfl
@[simp] theorem modLane_raised (s : State) (l : Nat) (f : Lane → Lane) : (s.modLane l f).raised = s.raised := rfl
@[simp] theorem modLane_ev (s : State) (l : Nat) (f : Lane → Lane) : (s.modLane l f).ev = s.ev := rfl
@[simp] theorem modLane_log (s : State) (l : Nat) (f : Lane → Lane) : (s.modLane l f).log = s.log := rfl
@[simp] theorem modLane_wall (s : State) (l : Nat) (f : Lane → Lane) : (s.modLane l f).wall = s.wall := rfl
@[simp] theorem modLane_host (s : State) (l : Nat) (f : Lane → Lane) : (s.modLane l f).host = s.host := rfl
@[simp] theorem modLane_pathHost (s : State) (l : Nat) (f : Lane → Lane) : (s.modLane l f).pathHost = s.pathHost := rfl
@[simp] theorem modLane_pathMgmt (s : State) (l : Nat) (f : Lane → Lane) : (s.modLane l f).pathMgmt = s.pathMgmt := rfl
@[simp] theorem modLane_keep (s : State) (l : Nat) (f : Lane → Lane) : (s.modLane l f).keep = s.keep := rfl
@[simp] theorem modLane_deep (s : State) (l : Nat) (f : Lane → Lane) : (s.modLane l f).deep = s.deep := rfl
@[simp] theorem modLane_near (s : State) (l : Nat) (f : Lane → Lane) : (s.modLane l f).near = s.near := rfl
@[simp] theorem modLane_table (s : State) (l : Nat) (f : Lane → Lane) : (s.modLane l f).table = s.table := rfl
@[simp] theorem modLane_img (s : State) (l : Nat) (f : Lane → Lane) : (s.modLane l f).img = s.img := rfl
@[simp] theorem modLane_dsp (s : State) (l : Nat) (f : Lane → Lane) : (s.modLane l f).dsp = s.dsp := rfl
@[simp] theorem modLane_pos (s : State) (l : Nat) (f : Lane → Lane) : (s.modLane l f).pos = s.pos := rfl
@[simp] theorem modLane_ret (s : State) (l : Nat) (f : Lane → Lane) : (s.modLane l f).ret = s.ret := rfl
@[simp] theorem modLane_trip (s : State) (l : Nat) (f : Lane → Lane) : (s.modLane l f).trip = s.trip := rfl
@[simp] theorem modLane_loop (s : State) (l : Nat) (f : Lane → Lane) : (s.modLane l f).loop = s.loop := rfl
@[simp] theorem modLane_fio (s : State) (l : Nat) (f : Lane → Lane) : (s.modLane l f).fio = s.fio := rfl
@[simp] theorem modLane_net (s : State) (l : Nat) (f : Lane → Lane) : (s.modLane l f).net = s.net := rfl
@[simp] theorem modLane_mir (s : State) (l : Nat) (f : Lane → Lane) : (s.modLane l f).mir = s.mir := rfl
@[simp] theorem modLane_rcd (s : State) (l : Nat) (f : Lane → Lane) : (s.modLane l f).rcd = s.rcd := rfl
@[simp] theorem modLane_mem (s : State) (l : Nat) (f : Lane → Lane) : (s.modLane l f).mem = s.mem := rfl
@[simp] theorem modLane_pwr (s : State) (l : Nat) (f : Lane → Lane) : (s.modLane l f).pwr = s.pwr := rfl
@[simp] theorem modLane_sec (s : State) (l : Nat) (f : Lane → Lane) : (s.modLane l f).sec = s.sec := rfl
@[simp] theorem modLane_r (s : State) (l : Nat) (f : Lane → Lane) (g : Field) : (s.modLane l f).r g = s.r g := rfl
@[simp] theorem modLane_facet (s : State) (l : Nat) (f : Lane → Lane) (p' : Nat) : (s.modLane l f).facet p' = s.facet p' := rfl
@[simp] theorem modLane_set (s : State) (l : Nat) (f : Lane → Lane) (k' : Nat) : (s.modLane l f).set k' = s.set k' := rfl
@[simp] theorem modLane_chan (s : State) (l : Nat) (f : Lane → Lane) (k' : Nat) : (s.modLane l f).chan k' = s.chan k' := rfl
@[simp] theorem modLane_door (s : State) (l : Nat) (f : Lane → Lane) (d' : Nat) : (s.modLane l f).door d' = s.door d' := rfl
@[simp] theorem modLane_port (s : State) (l : Nat) (f : Lane → Lane) (p' : Nat) : (s.modLane l f).port p' = s.port p' := rfl
@[simp] theorem modLane_scChan (s : State) (l : Nat) (f : Lane → Lane) (c' : Nat) : (s.modLane l f).scChan c' = s.scChan c' := rfl
@[simp] theorem modLane_qdChan (s : State) (l : Nat) (f : Lane → Lane) (c' : Nat) : (s.modLane l f).qdChan c' = s.qdChan c' := rfl
@[simp] theorem modLane_ssiChan (s : State) (l : Nat) (f : Lane → Lane) (c' : Nat) : (s.modLane l f).ssiChan c' = s.ssiChan c' := rfl
@[simp] theorem modLane_eng (s : State) (l : Nat) (f : Lane → Lane) (n' : Nat) : (s.modLane l f).eng n' = s.eng n' := rfl
@[simp] theorem modLane_dlNode (s : State) (l : Nat) (f : Lane → Lane) (n' : Nat) : (s.modLane l f).dlNode n' = s.dlNode n' := rfl
@[simp] theorem modLane_dout (s : State) (l : Nat) (f : Lane → Lane) (n' : Nat) : (s.modLane l f).dout n' = s.dout n' := rfl
@[simp] theorem modLane_nbr (s : State) (l : Nat) (f : Lane → Lane) (n' : Nat) : (s.modLane l f).nbr n' = s.nbr n' := rfl
@[simp] theorem modLane_clock (s : State) (l : Nat) (f : Lane → Lane) (n' : Nat) : (s.modLane l f).clock n' = s.clock n' := rfl
@[simp] theorem modLane_ri (s : State) (l : Nat) (f : Lane → Lane) (g : Field) : (s.modLane l f).ri g = s.ri g := rfl

@[simp] theorem modFio_pending (s : State) (f : FioState → FioState) : (s.modFio f).pending = s.pending := rfl
@[simp] theorem modFio_regs (s : State) (f : FioState → FioState) : (s.modFio f).regs = s.regs := rfl
@[simp] theorem modFio_optime (s : State) (f : FioState → FioState) : (s.modFio f).optime = s.optime := rfl
@[simp] theorem modFio_pcc (s : State) (f : FioState → FioState) : (s.modFio f).pcc = s.pcc := rfl
@[simp] theorem modFio_free (s : State) (f : FioState → FioState) : (s.modFio f).free = s.free := rfl
@[simp] theorem modFio_raised (s : State) (f : FioState → FioState) : (s.modFio f).raised = s.raised := rfl
@[simp] theorem modFio_ev (s : State) (f : FioState → FioState) : (s.modFio f).ev = s.ev := rfl
@[simp] theorem modFio_log (s : State) (f : FioState → FioState) : (s.modFio f).log = s.log := rfl
@[simp] theorem modFio_wall (s : State) (f : FioState → FioState) : (s.modFio f).wall = s.wall := rfl
@[simp] theorem modFio_host (s : State) (f : FioState → FioState) : (s.modFio f).host = s.host := rfl
@[simp] theorem modFio_pathHost (s : State) (f : FioState → FioState) : (s.modFio f).pathHost = s.pathHost := rfl
@[simp] theorem modFio_pathMgmt (s : State) (f : FioState → FioState) : (s.modFio f).pathMgmt = s.pathMgmt := rfl
@[simp] theorem modFio_keep (s : State) (f : FioState → FioState) : (s.modFio f).keep = s.keep := rfl
@[simp] theorem modFio_deep (s : State) (f : FioState → FioState) : (s.modFio f).deep = s.deep := rfl
@[simp] theorem modFio_near (s : State) (f : FioState → FioState) : (s.modFio f).near = s.near := rfl
@[simp] theorem modFio_table (s : State) (f : FioState → FioState) : (s.modFio f).table = s.table := rfl
@[simp] theorem modFio_img (s : State) (f : FioState → FioState) : (s.modFio f).img = s.img := rfl
@[simp] theorem modFio_dsp (s : State) (f : FioState → FioState) : (s.modFio f).dsp = s.dsp := rfl
@[simp] theorem modFio_pos (s : State) (f : FioState → FioState) : (s.modFio f).pos = s.pos := rfl
@[simp] theorem modFio_ret (s : State) (f : FioState → FioState) : (s.modFio f).ret = s.ret := rfl
@[simp] theorem modFio_trip (s : State) (f : FioState → FioState) : (s.modFio f).trip = s.trip := rfl
@[simp] theorem modFio_loop (s : State) (f : FioState → FioState) : (s.modFio f).loop = s.loop := rfl
@[simp] theorem modFio_saf (s : State) (f : FioState → FioState) : (s.modFio f).saf = s.saf := rfl
@[simp] theorem modFio_net (s : State) (f : FioState → FioState) : (s.modFio f).net = s.net := rfl
@[simp] theorem modFio_mir (s : State) (f : FioState → FioState) : (s.modFio f).mir = s.mir := rfl
@[simp] theorem modFio_rcd (s : State) (f : FioState → FioState) : (s.modFio f).rcd = s.rcd := rfl
@[simp] theorem modFio_mem (s : State) (f : FioState → FioState) : (s.modFio f).mem = s.mem := rfl
@[simp] theorem modFio_pwr (s : State) (f : FioState → FioState) : (s.modFio f).pwr = s.pwr := rfl
@[simp] theorem modFio_sec (s : State) (f : FioState → FioState) : (s.modFio f).sec = s.sec := rfl
@[simp] theorem modFio_r (s : State) (f : FioState → FioState) (g : Field) : (s.modFio f).r g = s.r g := rfl
@[simp] theorem modFio_lane (s : State) (f : FioState → FioState) (l' : Nat) : (s.modFio f).lane l' = s.lane l' := rfl
@[simp] theorem modFio_facet (s : State) (f : FioState → FioState) (p' : Nat) : (s.modFio f).facet p' = s.facet p' := rfl
@[simp] theorem modFio_set (s : State) (f : FioState → FioState) (k' : Nat) : (s.modFio f).set k' = s.set k' := rfl
@[simp] theorem modFio_chan (s : State) (f : FioState → FioState) (k' : Nat) : (s.modFio f).chan k' = s.chan k' := rfl
@[simp] theorem modFio_door (s : State) (f : FioState → FioState) (d' : Nat) : (s.modFio f).door d' = s.door d' := rfl
@[simp] theorem modFio_port (s : State) (f : FioState → FioState) (p' : Nat) : (s.modFio f).port p' = s.port p' := rfl
@[simp] theorem modFio_scChan (s : State) (f : FioState → FioState) (c' : Nat) : (s.modFio f).scChan c' = s.scChan c' := rfl
@[simp] theorem modFio_qdChan (s : State) (f : FioState → FioState) (c' : Nat) : (s.modFio f).qdChan c' = s.qdChan c' := rfl
@[simp] theorem modFio_ssiChan (s : State) (f : FioState → FioState) (c' : Nat) : (s.modFio f).ssiChan c' = s.ssiChan c' := rfl
@[simp] theorem modFio_eng (s : State) (f : FioState → FioState) (n' : Nat) : (s.modFio f).eng n' = s.eng n' := rfl
@[simp] theorem modFio_dlNode (s : State) (f : FioState → FioState) (n' : Nat) : (s.modFio f).dlNode n' = s.dlNode n' := rfl
@[simp] theorem modFio_nbr (s : State) (f : FioState → FioState) (n' : Nat) : (s.modFio f).nbr n' = s.nbr n' := rfl
@[simp] theorem modFio_clock (s : State) (f : FioState → FioState) (n' : Nat) : (s.modFio f).clock n' = s.clock n' := rfl
@[simp] theorem modFio_ri (s : State) (f : FioState → FioState) (g : Field) : (s.modFio f).ri g = s.ri g := rfl

@[simp] theorem modNet_pending (s : State) (f : NetState → NetState) : (s.modNet f).pending = s.pending := rfl
@[simp] theorem modNet_regs (s : State) (f : NetState → NetState) : (s.modNet f).regs = s.regs := rfl
@[simp] theorem modNet_optime (s : State) (f : NetState → NetState) : (s.modNet f).optime = s.optime := rfl
@[simp] theorem modNet_pcc (s : State) (f : NetState → NetState) : (s.modNet f).pcc = s.pcc := rfl
@[simp] theorem modNet_free (s : State) (f : NetState → NetState) : (s.modNet f).free = s.free := rfl
@[simp] theorem modNet_raised (s : State) (f : NetState → NetState) : (s.modNet f).raised = s.raised := rfl
@[simp] theorem modNet_ev (s : State) (f : NetState → NetState) : (s.modNet f).ev = s.ev := rfl
@[simp] theorem modNet_log (s : State) (f : NetState → NetState) : (s.modNet f).log = s.log := rfl
@[simp] theorem modNet_wall (s : State) (f : NetState → NetState) : (s.modNet f).wall = s.wall := rfl
@[simp] theorem modNet_host (s : State) (f : NetState → NetState) : (s.modNet f).host = s.host := rfl
@[simp] theorem modNet_pathHost (s : State) (f : NetState → NetState) : (s.modNet f).pathHost = s.pathHost := rfl
@[simp] theorem modNet_pathMgmt (s : State) (f : NetState → NetState) : (s.modNet f).pathMgmt = s.pathMgmt := rfl
@[simp] theorem modNet_keep (s : State) (f : NetState → NetState) : (s.modNet f).keep = s.keep := rfl
@[simp] theorem modNet_deep (s : State) (f : NetState → NetState) : (s.modNet f).deep = s.deep := rfl
@[simp] theorem modNet_near (s : State) (f : NetState → NetState) : (s.modNet f).near = s.near := rfl
@[simp] theorem modNet_table (s : State) (f : NetState → NetState) : (s.modNet f).table = s.table := rfl
@[simp] theorem modNet_img (s : State) (f : NetState → NetState) : (s.modNet f).img = s.img := rfl
@[simp] theorem modNet_dsp (s : State) (f : NetState → NetState) : (s.modNet f).dsp = s.dsp := rfl
@[simp] theorem modNet_pos (s : State) (f : NetState → NetState) : (s.modNet f).pos = s.pos := rfl
@[simp] theorem modNet_ret (s : State) (f : NetState → NetState) : (s.modNet f).ret = s.ret := rfl
@[simp] theorem modNet_trip (s : State) (f : NetState → NetState) : (s.modNet f).trip = s.trip := rfl
@[simp] theorem modNet_loop (s : State) (f : NetState → NetState) : (s.modNet f).loop = s.loop := rfl
@[simp] theorem modNet_saf (s : State) (f : NetState → NetState) : (s.modNet f).saf = s.saf := rfl
@[simp] theorem modNet_fio (s : State) (f : NetState → NetState) : (s.modNet f).fio = s.fio := rfl
@[simp] theorem modNet_mir (s : State) (f : NetState → NetState) : (s.modNet f).mir = s.mir := rfl
@[simp] theorem modNet_rcd (s : State) (f : NetState → NetState) : (s.modNet f).rcd = s.rcd := rfl
@[simp] theorem modNet_mem (s : State) (f : NetState → NetState) : (s.modNet f).mem = s.mem := rfl
@[simp] theorem modNet_pwr (s : State) (f : NetState → NetState) : (s.modNet f).pwr = s.pwr := rfl
@[simp] theorem modNet_sec (s : State) (f : NetState → NetState) : (s.modNet f).sec = s.sec := rfl
@[simp] theorem modNet_r (s : State) (f : NetState → NetState) (g : Field) : (s.modNet f).r g = s.r g := rfl
@[simp] theorem modNet_lane (s : State) (f : NetState → NetState) (l' : Nat) : (s.modNet f).lane l' = s.lane l' := rfl
@[simp] theorem modNet_facet (s : State) (f : NetState → NetState) (p' : Nat) : (s.modNet f).facet p' = s.facet p' := rfl
@[simp] theorem modNet_set (s : State) (f : NetState → NetState) (k' : Nat) : (s.modNet f).set k' = s.set k' := rfl
@[simp] theorem modNet_chan (s : State) (f : NetState → NetState) (k' : Nat) : (s.modNet f).chan k' = s.chan k' := rfl
@[simp] theorem modNet_door (s : State) (f : NetState → NetState) (d' : Nat) : (s.modNet f).door d' = s.door d' := rfl
@[simp] theorem modNet_scChan (s : State) (f : NetState → NetState) (c' : Nat) : (s.modNet f).scChan c' = s.scChan c' := rfl
@[simp] theorem modNet_qdChan (s : State) (f : NetState → NetState) (c' : Nat) : (s.modNet f).qdChan c' = s.qdChan c' := rfl
@[simp] theorem modNet_ssiChan (s : State) (f : NetState → NetState) (c' : Nat) : (s.modNet f).ssiChan c' = s.ssiChan c' := rfl
@[simp] theorem modNet_eng (s : State) (f : NetState → NetState) (n' : Nat) : (s.modNet f).eng n' = s.eng n' := rfl
@[simp] theorem modNet_dlNode (s : State) (f : NetState → NetState) (n' : Nat) : (s.modNet f).dlNode n' = s.dlNode n' := rfl
@[simp] theorem modNet_dout (s : State) (f : NetState → NetState) (n' : Nat) : (s.modNet f).dout n' = s.dout n' := rfl
@[simp] theorem modNet_nbr (s : State) (f : NetState → NetState) (n' : Nat) : (s.modNet f).nbr n' = s.nbr n' := rfl
@[simp] theorem modNet_ri (s : State) (f : NetState → NetState) (g : Field) : (s.modNet f).ri g = s.ri g := rfl

@[simp] theorem modTrip_pending (s : State) (f : TripState → TripState) : (s.modTrip f).pending = s.pending := rfl
@[simp] theorem modTrip_regs (s : State) (f : TripState → TripState) : (s.modTrip f).regs = s.regs := rfl
@[simp] theorem modTrip_optime (s : State) (f : TripState → TripState) : (s.modTrip f).optime = s.optime := rfl
@[simp] theorem modTrip_pcc (s : State) (f : TripState → TripState) : (s.modTrip f).pcc = s.pcc := rfl
@[simp] theorem modTrip_free (s : State) (f : TripState → TripState) : (s.modTrip f).free = s.free := rfl
@[simp] theorem modTrip_raised (s : State) (f : TripState → TripState) : (s.modTrip f).raised = s.raised := rfl
@[simp] theorem modTrip_ev (s : State) (f : TripState → TripState) : (s.modTrip f).ev = s.ev := rfl
@[simp] theorem modTrip_log (s : State) (f : TripState → TripState) : (s.modTrip f).log = s.log := rfl
@[simp] theorem modTrip_wall (s : State) (f : TripState → TripState) : (s.modTrip f).wall = s.wall := rfl
@[simp] theorem modTrip_host (s : State) (f : TripState → TripState) : (s.modTrip f).host = s.host := rfl
@[simp] theorem modTrip_pathHost (s : State) (f : TripState → TripState) : (s.modTrip f).pathHost = s.pathHost := rfl
@[simp] theorem modTrip_pathMgmt (s : State) (f : TripState → TripState) : (s.modTrip f).pathMgmt = s.pathMgmt := rfl
@[simp] theorem modTrip_keep (s : State) (f : TripState → TripState) : (s.modTrip f).keep = s.keep := rfl
@[simp] theorem modTrip_deep (s : State) (f : TripState → TripState) : (s.modTrip f).deep = s.deep := rfl
@[simp] theorem modTrip_near (s : State) (f : TripState → TripState) : (s.modTrip f).near = s.near := rfl
@[simp] theorem modTrip_table (s : State) (f : TripState → TripState) : (s.modTrip f).table = s.table := rfl
@[simp] theorem modTrip_img (s : State) (f : TripState → TripState) : (s.modTrip f).img = s.img := rfl
@[simp] theorem modTrip_dsp (s : State) (f : TripState → TripState) : (s.modTrip f).dsp = s.dsp := rfl
@[simp] theorem modTrip_pos (s : State) (f : TripState → TripState) : (s.modTrip f).pos = s.pos := rfl
@[simp] theorem modTrip_ret (s : State) (f : TripState → TripState) : (s.modTrip f).ret = s.ret := rfl
@[simp] theorem modTrip_loop (s : State) (f : TripState → TripState) : (s.modTrip f).loop = s.loop := rfl
@[simp] theorem modTrip_saf (s : State) (f : TripState → TripState) : (s.modTrip f).saf = s.saf := rfl
@[simp] theorem modTrip_fio (s : State) (f : TripState → TripState) : (s.modTrip f).fio = s.fio := rfl
@[simp] theorem modTrip_net (s : State) (f : TripState → TripState) : (s.modTrip f).net = s.net := rfl
@[simp] theorem modTrip_mir (s : State) (f : TripState → TripState) : (s.modTrip f).mir = s.mir := rfl
@[simp] theorem modTrip_rcd (s : State) (f : TripState → TripState) : (s.modTrip f).rcd = s.rcd := rfl
@[simp] theorem modTrip_mem (s : State) (f : TripState → TripState) : (s.modTrip f).mem = s.mem := rfl
@[simp] theorem modTrip_pwr (s : State) (f : TripState → TripState) : (s.modTrip f).pwr = s.pwr := rfl
@[simp] theorem modTrip_sec (s : State) (f : TripState → TripState) : (s.modTrip f).sec = s.sec := rfl
@[simp] theorem modTrip_r (s : State) (f : TripState → TripState) (g : Field) : (s.modTrip f).r g = s.r g := rfl
@[simp] theorem modTrip_lane (s : State) (f : TripState → TripState) (l' : Nat) : (s.modTrip f).lane l' = s.lane l' := rfl
@[simp] theorem modTrip_facet (s : State) (f : TripState → TripState) (p' : Nat) : (s.modTrip f).facet p' = s.facet p' := rfl
@[simp] theorem modTrip_set (s : State) (f : TripState → TripState) (k' : Nat) : (s.modTrip f).set k' = s.set k' := rfl
@[simp] theorem modTrip_door (s : State) (f : TripState → TripState) (d' : Nat) : (s.modTrip f).door d' = s.door d' := rfl
@[simp] theorem modTrip_port (s : State) (f : TripState → TripState) (p' : Nat) : (s.modTrip f).port p' = s.port p' := rfl
@[simp] theorem modTrip_scChan (s : State) (f : TripState → TripState) (c' : Nat) : (s.modTrip f).scChan c' = s.scChan c' := rfl
@[simp] theorem modTrip_qdChan (s : State) (f : TripState → TripState) (c' : Nat) : (s.modTrip f).qdChan c' = s.qdChan c' := rfl
@[simp] theorem modTrip_ssiChan (s : State) (f : TripState → TripState) (c' : Nat) : (s.modTrip f).ssiChan c' = s.ssiChan c' := rfl
@[simp] theorem modTrip_eng (s : State) (f : TripState → TripState) (n' : Nat) : (s.modTrip f).eng n' = s.eng n' := rfl
@[simp] theorem modTrip_dlNode (s : State) (f : TripState → TripState) (n' : Nat) : (s.modTrip f).dlNode n' = s.dlNode n' := rfl
@[simp] theorem modTrip_dout (s : State) (f : TripState → TripState) (n' : Nat) : (s.modTrip f).dout n' = s.dout n' := rfl
@[simp] theorem modTrip_clock (s : State) (f : TripState → TripState) (n' : Nat) : (s.modTrip f).clock n' = s.clock n' := rfl
@[simp] theorem modTrip_ri (s : State) (f : TripState → TripState) (g : Field) : (s.modTrip f).ri g = s.ri g := rfl

@[simp] theorem modPwr_pending (s : State) (f : PwrState → PwrState) : (s.modPwr f).pending = s.pending := rfl
@[simp] theorem modPwr_regs (s : State) (f : PwrState → PwrState) : (s.modPwr f).regs = s.regs := rfl
@[simp] theorem modPwr_optime (s : State) (f : PwrState → PwrState) : (s.modPwr f).optime = s.optime := rfl
@[simp] theorem modPwr_pcc (s : State) (f : PwrState → PwrState) : (s.modPwr f).pcc = s.pcc := rfl
@[simp] theorem modPwr_free (s : State) (f : PwrState → PwrState) : (s.modPwr f).free = s.free := rfl
@[simp] theorem modPwr_raised (s : State) (f : PwrState → PwrState) : (s.modPwr f).raised = s.raised := rfl
@[simp] theorem modPwr_ev (s : State) (f : PwrState → PwrState) : (s.modPwr f).ev = s.ev := rfl
@[simp] theorem modPwr_log (s : State) (f : PwrState → PwrState) : (s.modPwr f).log = s.log := rfl
@[simp] theorem modPwr_wall (s : State) (f : PwrState → PwrState) : (s.modPwr f).wall = s.wall := rfl
@[simp] theorem modPwr_host (s : State) (f : PwrState → PwrState) : (s.modPwr f).host = s.host := rfl
@[simp] theorem modPwr_pathHost (s : State) (f : PwrState → PwrState) : (s.modPwr f).pathHost = s.pathHost := rfl
@[simp] theorem modPwr_pathMgmt (s : State) (f : PwrState → PwrState) : (s.modPwr f).pathMgmt = s.pathMgmt := rfl
@[simp] theorem modPwr_keep (s : State) (f : PwrState → PwrState) : (s.modPwr f).keep = s.keep := rfl
@[simp] theorem modPwr_deep (s : State) (f : PwrState → PwrState) : (s.modPwr f).deep = s.deep := rfl
@[simp] theorem modPwr_near (s : State) (f : PwrState → PwrState) : (s.modPwr f).near = s.near := rfl
@[simp] theorem modPwr_table (s : State) (f : PwrState → PwrState) : (s.modPwr f).table = s.table := rfl
@[simp] theorem modPwr_img (s : State) (f : PwrState → PwrState) : (s.modPwr f).img = s.img := rfl
@[simp] theorem modPwr_dsp (s : State) (f : PwrState → PwrState) : (s.modPwr f).dsp = s.dsp := rfl
@[simp] theorem modPwr_pos (s : State) (f : PwrState → PwrState) : (s.modPwr f).pos = s.pos := rfl
@[simp] theorem modPwr_ret (s : State) (f : PwrState → PwrState) : (s.modPwr f).ret = s.ret := rfl
@[simp] theorem modPwr_trip (s : State) (f : PwrState → PwrState) : (s.modPwr f).trip = s.trip := rfl
@[simp] theorem modPwr_loop (s : State) (f : PwrState → PwrState) : (s.modPwr f).loop = s.loop := rfl
@[simp] theorem modPwr_saf (s : State) (f : PwrState → PwrState) : (s.modPwr f).saf = s.saf := rfl
@[simp] theorem modPwr_fio (s : State) (f : PwrState → PwrState) : (s.modPwr f).fio = s.fio := rfl
@[simp] theorem modPwr_net (s : State) (f : PwrState → PwrState) : (s.modPwr f).net = s.net := rfl
@[simp] theorem modPwr_mir (s : State) (f : PwrState → PwrState) : (s.modPwr f).mir = s.mir := rfl
@[simp] theorem modPwr_rcd (s : State) (f : PwrState → PwrState) : (s.modPwr f).rcd = s.rcd := rfl
@[simp] theorem modPwr_mem (s : State) (f : PwrState → PwrState) : (s.modPwr f).mem = s.mem := rfl
@[simp] theorem modPwr_sec (s : State) (f : PwrState → PwrState) : (s.modPwr f).sec = s.sec := rfl
@[simp] theorem modPwr_r (s : State) (f : PwrState → PwrState) (g : Field) : (s.modPwr f).r g = s.r g := rfl
@[simp] theorem modPwr_lane (s : State) (f : PwrState → PwrState) (l' : Nat) : (s.modPwr f).lane l' = s.lane l' := rfl
@[simp] theorem modPwr_facet (s : State) (f : PwrState → PwrState) (p' : Nat) : (s.modPwr f).facet p' = s.facet p' := rfl
@[simp] theorem modPwr_set (s : State) (f : PwrState → PwrState) (k' : Nat) : (s.modPwr f).set k' = s.set k' := rfl
@[simp] theorem modPwr_chan (s : State) (f : PwrState → PwrState) (k' : Nat) : (s.modPwr f).chan k' = s.chan k' := rfl
@[simp] theorem modPwr_door (s : State) (f : PwrState → PwrState) (d' : Nat) : (s.modPwr f).door d' = s.door d' := rfl
@[simp] theorem modPwr_port (s : State) (f : PwrState → PwrState) (p' : Nat) : (s.modPwr f).port p' = s.port p' := rfl
@[simp] theorem modPwr_scChan (s : State) (f : PwrState → PwrState) (c' : Nat) : (s.modPwr f).scChan c' = s.scChan c' := rfl
@[simp] theorem modPwr_qdChan (s : State) (f : PwrState → PwrState) (c' : Nat) : (s.modPwr f).qdChan c' = s.qdChan c' := rfl
@[simp] theorem modPwr_ssiChan (s : State) (f : PwrState → PwrState) (c' : Nat) : (s.modPwr f).ssiChan c' = s.ssiChan c' := rfl
@[simp] theorem modPwr_eng (s : State) (f : PwrState → PwrState) (n' : Nat) : (s.modPwr f).eng n' = s.eng n' := rfl
@[simp] theorem modPwr_dlNode (s : State) (f : PwrState → PwrState) (n' : Nat) : (s.modPwr f).dlNode n' = s.dlNode n' := rfl
@[simp] theorem modPwr_dout (s : State) (f : PwrState → PwrState) (n' : Nat) : (s.modPwr f).dout n' = s.dout n' := rfl
@[simp] theorem modPwr_nbr (s : State) (f : PwrState → PwrState) (n' : Nat) : (s.modPwr f).nbr n' = s.nbr n' := rfl
@[simp] theorem modPwr_clock (s : State) (f : PwrState → PwrState) (n' : Nat) : (s.modPwr f).clock n' = s.clock n' := rfl
@[simp] theorem modPwr_ri (s : State) (f : PwrState → PwrState) (g : Field) : (s.modPwr f).ri g = s.ri g := rfl

@[simp] theorem modMem_pending (s : State) (f : MemState → MemState) : (s.modMem f).pending = s.pending := rfl
@[simp] theorem modMem_regs (s : State) (f : MemState → MemState) : (s.modMem f).regs = s.regs := rfl
@[simp] theorem modMem_optime (s : State) (f : MemState → MemState) : (s.modMem f).optime = s.optime := rfl
@[simp] theorem modMem_pcc (s : State) (f : MemState → MemState) : (s.modMem f).pcc = s.pcc := rfl
@[simp] theorem modMem_free (s : State) (f : MemState → MemState) : (s.modMem f).free = s.free := rfl
@[simp] theorem modMem_raised (s : State) (f : MemState → MemState) : (s.modMem f).raised = s.raised := rfl
@[simp] theorem modMem_ev (s : State) (f : MemState → MemState) : (s.modMem f).ev = s.ev := rfl
@[simp] theorem modMem_log (s : State) (f : MemState → MemState) : (s.modMem f).log = s.log := rfl
@[simp] theorem modMem_wall (s : State) (f : MemState → MemState) : (s.modMem f).wall = s.wall := rfl
@[simp] theorem modMem_host (s : State) (f : MemState → MemState) : (s.modMem f).host = s.host := rfl
@[simp] theorem modMem_pathHost (s : State) (f : MemState → MemState) : (s.modMem f).pathHost = s.pathHost := rfl
@[simp] theorem modMem_pathMgmt (s : State) (f : MemState → MemState) : (s.modMem f).pathMgmt = s.pathMgmt := rfl
@[simp] theorem modMem_keep (s : State) (f : MemState → MemState) : (s.modMem f).keep = s.keep := rfl
@[simp] theorem modMem_deep (s : State) (f : MemState → MemState) : (s.modMem f).deep = s.deep := rfl
@[simp] theorem modMem_near (s : State) (f : MemState → MemState) : (s.modMem f).near = s.near := rfl
@[simp] theorem modMem_table (s : State) (f : MemState → MemState) : (s.modMem f).table = s.table := rfl
@[simp] theorem modMem_img (s : State) (f : MemState → MemState) : (s.modMem f).img = s.img := rfl
@[simp] theorem modMem_dsp (s : State) (f : MemState → MemState) : (s.modMem f).dsp = s.dsp := rfl
@[simp] theorem modMem_pos (s : State) (f : MemState → MemState) : (s.modMem f).pos = s.pos := rfl
@[simp] theorem modMem_ret (s : State) (f : MemState → MemState) : (s.modMem f).ret = s.ret := rfl
@[simp] theorem modMem_trip (s : State) (f : MemState → MemState) : (s.modMem f).trip = s.trip := rfl
@[simp] theorem modMem_loop (s : State) (f : MemState → MemState) : (s.modMem f).loop = s.loop := rfl
@[simp] theorem modMem_saf (s : State) (f : MemState → MemState) : (s.modMem f).saf = s.saf := rfl
@[simp] theorem modMem_fio (s : State) (f : MemState → MemState) : (s.modMem f).fio = s.fio := rfl
@[simp] theorem modMem_net (s : State) (f : MemState → MemState) : (s.modMem f).net = s.net := rfl
@[simp] theorem modMem_mir (s : State) (f : MemState → MemState) : (s.modMem f).mir = s.mir := rfl
@[simp] theorem modMem_rcd (s : State) (f : MemState → MemState) : (s.modMem f).rcd = s.rcd := rfl
@[simp] theorem modMem_pwr (s : State) (f : MemState → MemState) : (s.modMem f).pwr = s.pwr := rfl
@[simp] theorem modMem_sec (s : State) (f : MemState → MemState) : (s.modMem f).sec = s.sec := rfl
@[simp] theorem modMem_r (s : State) (f : MemState → MemState) (g : Field) : (s.modMem f).r g = s.r g := rfl
@[simp] theorem modMem_lane (s : State) (f : MemState → MemState) (l' : Nat) : (s.modMem f).lane l' = s.lane l' := rfl
@[simp] theorem modMem_facet (s : State) (f : MemState → MemState) (p' : Nat) : (s.modMem f).facet p' = s.facet p' := rfl
@[simp] theorem modMem_set (s : State) (f : MemState → MemState) (k' : Nat) : (s.modMem f).set k' = s.set k' := rfl
@[simp] theorem modMem_chan (s : State) (f : MemState → MemState) (k' : Nat) : (s.modMem f).chan k' = s.chan k' := rfl
@[simp] theorem modMem_door (s : State) (f : MemState → MemState) (d' : Nat) : (s.modMem f).door d' = s.door d' := rfl
@[simp] theorem modMem_port (s : State) (f : MemState → MemState) (p' : Nat) : (s.modMem f).port p' = s.port p' := rfl
@[simp] theorem modMem_scChan (s : State) (f : MemState → MemState) (c' : Nat) : (s.modMem f).scChan c' = s.scChan c' := rfl
@[simp] theorem modMem_qdChan (s : State) (f : MemState → MemState) (c' : Nat) : (s.modMem f).qdChan c' = s.qdChan c' := rfl
@[simp] theorem modMem_ssiChan (s : State) (f : MemState → MemState) (c' : Nat) : (s.modMem f).ssiChan c' = s.ssiChan c' := rfl
@[simp] theorem modMem_eng (s : State) (f : MemState → MemState) (n' : Nat) : (s.modMem f).eng n' = s.eng n' := rfl
@[simp] theorem modMem_dlNode (s : State) (f : MemState → MemState) (n' : Nat) : (s.modMem f).dlNode n' = s.dlNode n' := rfl
@[simp] theorem modMem_dout (s : State) (f : MemState → MemState) (n' : Nat) : (s.modMem f).dout n' = s.dout n' := rfl
@[simp] theorem modMem_nbr (s : State) (f : MemState → MemState) (n' : Nat) : (s.modMem f).nbr n' = s.nbr n' := rfl
@[simp] theorem modMem_clock (s : State) (f : MemState → MemState) (n' : Nat) : (s.modMem f).clock n' = s.clock n' := rfl
@[simp] theorem modMem_ri (s : State) (f : MemState → MemState) (g : Field) : (s.modMem f).ri g = s.ri g := rfl

@[simp] theorem modSec_pending (s : State) (f : SecState → SecState) : (s.modSec f).pending = s.pending := rfl
@[simp] theorem modSec_regs (s : State) (f : SecState → SecState) : (s.modSec f).regs = s.regs := rfl
@[simp] theorem modSec_optime (s : State) (f : SecState → SecState) : (s.modSec f).optime = s.optime := rfl
@[simp] theorem modSec_pcc (s : State) (f : SecState → SecState) : (s.modSec f).pcc = s.pcc := rfl
@[simp] theorem modSec_free (s : State) (f : SecState → SecState) : (s.modSec f).free = s.free := rfl
@[simp] theorem modSec_raised (s : State) (f : SecState → SecState) : (s.modSec f).raised = s.raised := rfl
@[simp] theorem modSec_ev (s : State) (f : SecState → SecState) : (s.modSec f).ev = s.ev := rfl
@[simp] theorem modSec_log (s : State) (f : SecState → SecState) : (s.modSec f).log = s.log := rfl
@[simp] theorem modSec_wall (s : State) (f : SecState → SecState) : (s.modSec f).wall = s.wall := rfl
@[simp] theorem modSec_host (s : State) (f : SecState → SecState) : (s.modSec f).host = s.host := rfl
@[simp] theorem modSec_pathHost (s : State) (f : SecState → SecState) : (s.modSec f).pathHost = s.pathHost := rfl
@[simp] theorem modSec_pathMgmt (s : State) (f : SecState → SecState) : (s.modSec f).pathMgmt = s.pathMgmt := rfl
@[simp] theorem modSec_keep (s : State) (f : SecState → SecState) : (s.modSec f).keep = s.keep := rfl
@[simp] theorem modSec_deep (s : State) (f : SecState → SecState) : (s.modSec f).deep = s.deep := rfl
@[simp] theorem modSec_near (s : State) (f : SecState → SecState) : (s.modSec f).near = s.near := rfl
@[simp] theorem modSec_table (s : State) (f : SecState → SecState) : (s.modSec f).table = s.table := rfl
@[simp] theorem modSec_img (s : State) (f : SecState → SecState) : (s.modSec f).img = s.img := rfl
@[simp] theorem modSec_dsp (s : State) (f : SecState → SecState) : (s.modSec f).dsp = s.dsp := rfl
@[simp] theorem modSec_pos (s : State) (f : SecState → SecState) : (s.modSec f).pos = s.pos := rfl
@[simp] theorem modSec_ret (s : State) (f : SecState → SecState) : (s.modSec f).ret = s.ret := rfl
@[simp] theorem modSec_trip (s : State) (f : SecState → SecState) : (s.modSec f).trip = s.trip := rfl
@[simp] theorem modSec_loop (s : State) (f : SecState → SecState) : (s.modSec f).loop = s.loop := rfl
@[simp] theorem modSec_saf (s : State) (f : SecState → SecState) : (s.modSec f).saf = s.saf := rfl
@[simp] theorem modSec_fio (s : State) (f : SecState → SecState) : (s.modSec f).fio = s.fio := rfl
@[simp] theorem modSec_net (s : State) (f : SecState → SecState) : (s.modSec f).net = s.net := rfl
@[simp] theorem modSec_mir (s : State) (f : SecState → SecState) : (s.modSec f).mir = s.mir := rfl
@[simp] theorem modSec_rcd (s : State) (f : SecState → SecState) : (s.modSec f).rcd = s.rcd := rfl
@[simp] theorem modSec_mem (s : State) (f : SecState → SecState) : (s.modSec f).mem = s.mem := rfl
@[simp] theorem modSec_pwr (s : State) (f : SecState → SecState) : (s.modSec f).pwr = s.pwr := rfl
@[simp] theorem modSec_r (s : State) (f : SecState → SecState) (g : Field) : (s.modSec f).r g = s.r g := rfl
@[simp] theorem modSec_lane (s : State) (f : SecState → SecState) (l' : Nat) : (s.modSec f).lane l' = s.lane l' := rfl
@[simp] theorem modSec_facet (s : State) (f : SecState → SecState) (p' : Nat) : (s.modSec f).facet p' = s.facet p' := rfl
@[simp] theorem modSec_set (s : State) (f : SecState → SecState) (k' : Nat) : (s.modSec f).set k' = s.set k' := rfl
@[simp] theorem modSec_chan (s : State) (f : SecState → SecState) (k' : Nat) : (s.modSec f).chan k' = s.chan k' := rfl
@[simp] theorem modSec_door (s : State) (f : SecState → SecState) (d' : Nat) : (s.modSec f).door d' = s.door d' := rfl
@[simp] theorem modSec_port (s : State) (f : SecState → SecState) (p' : Nat) : (s.modSec f).port p' = s.port p' := rfl
@[simp] theorem modSec_scChan (s : State) (f : SecState → SecState) (c' : Nat) : (s.modSec f).scChan c' = s.scChan c' := rfl
@[simp] theorem modSec_qdChan (s : State) (f : SecState → SecState) (c' : Nat) : (s.modSec f).qdChan c' = s.qdChan c' := rfl
@[simp] theorem modSec_ssiChan (s : State) (f : SecState → SecState) (c' : Nat) : (s.modSec f).ssiChan c' = s.ssiChan c' := rfl
@[simp] theorem modSec_eng (s : State) (f : SecState → SecState) (n' : Nat) : (s.modSec f).eng n' = s.eng n' := rfl
@[simp] theorem modSec_dlNode (s : State) (f : SecState → SecState) (n' : Nat) : (s.modSec f).dlNode n' = s.dlNode n' := rfl
@[simp] theorem modSec_dout (s : State) (f : SecState → SecState) (n' : Nat) : (s.modSec f).dout n' = s.dout n' := rfl
@[simp] theorem modSec_nbr (s : State) (f : SecState → SecState) (n' : Nat) : (s.modSec f).nbr n' = s.nbr n' := rfl
@[simp] theorem modSec_clock (s : State) (f : SecState → SecState) (n' : Nat) : (s.modSec f).clock n' = s.clock n' := rfl
@[simp] theorem modSec_ri (s : State) (f : SecState → SecState) (g : Field) : (s.modSec f).ri g = s.ri g := rfl

@[simp] theorem modHost_pending (s : State) (f : HostPort → HostPort) : (s.modHost f).pending = s.pending := rfl
@[simp] theorem modHost_regs (s : State) (f : HostPort → HostPort) : (s.modHost f).regs = s.regs := rfl
@[simp] theorem modHost_optime (s : State) (f : HostPort → HostPort) : (s.modHost f).optime = s.optime := rfl
@[simp] theorem modHost_pcc (s : State) (f : HostPort → HostPort) : (s.modHost f).pcc = s.pcc := rfl
@[simp] theorem modHost_free (s : State) (f : HostPort → HostPort) : (s.modHost f).free = s.free := rfl
@[simp] theorem modHost_raised (s : State) (f : HostPort → HostPort) : (s.modHost f).raised = s.raised := rfl
@[simp] theorem modHost_ev (s : State) (f : HostPort → HostPort) : (s.modHost f).ev = s.ev := rfl
@[simp] theorem modHost_log (s : State) (f : HostPort → HostPort) : (s.modHost f).log = s.log := rfl
@[simp] theorem modHost_wall (s : State) (f : HostPort → HostPort) : (s.modHost f).wall = s.wall := rfl
@[simp] theorem modHost_pathHost (s : State) (f : HostPort → HostPort) : (s.modHost f).pathHost = s.pathHost := rfl
@[simp] theorem modHost_pathMgmt (s : State) (f : HostPort → HostPort) : (s.modHost f).pathMgmt = s.pathMgmt := rfl
@[simp] theorem modHost_keep (s : State) (f : HostPort → HostPort) : (s.modHost f).keep = s.keep := rfl
@[simp] theorem modHost_deep (s : State) (f : HostPort → HostPort) : (s.modHost f).deep = s.deep := rfl
@[simp] theorem modHost_near (s : State) (f : HostPort → HostPort) : (s.modHost f).near = s.near := rfl
@[simp] theorem modHost_table (s : State) (f : HostPort → HostPort) : (s.modHost f).table = s.table := rfl
@[simp] theorem modHost_img (s : State) (f : HostPort → HostPort) : (s.modHost f).img = s.img := rfl
@[simp] theorem modHost_dsp (s : State) (f : HostPort → HostPort) : (s.modHost f).dsp = s.dsp := rfl
@[simp] theorem modHost_pos (s : State) (f : HostPort → HostPort) : (s.modHost f).pos = s.pos := rfl
@[simp] theorem modHost_ret (s : State) (f : HostPort → HostPort) : (s.modHost f).ret = s.ret := rfl
@[simp] theorem modHost_trip (s : State) (f : HostPort → HostPort) : (s.modHost f).trip = s.trip := rfl
@[simp] theorem modHost_loop (s : State) (f : HostPort → HostPort) : (s.modHost f).loop = s.loop := rfl
@[simp] theorem modHost_saf (s : State) (f : HostPort → HostPort) : (s.modHost f).saf = s.saf := rfl
@[simp] theorem modHost_fio (s : State) (f : HostPort → HostPort) : (s.modHost f).fio = s.fio := rfl
@[simp] theorem modHost_net (s : State) (f : HostPort → HostPort) : (s.modHost f).net = s.net := rfl
@[simp] theorem modHost_mir (s : State) (f : HostPort → HostPort) : (s.modHost f).mir = s.mir := rfl
@[simp] theorem modHost_rcd (s : State) (f : HostPort → HostPort) : (s.modHost f).rcd = s.rcd := rfl
@[simp] theorem modHost_mem (s : State) (f : HostPort → HostPort) : (s.modHost f).mem = s.mem := rfl
@[simp] theorem modHost_pwr (s : State) (f : HostPort → HostPort) : (s.modHost f).pwr = s.pwr := rfl
@[simp] theorem modHost_sec (s : State) (f : HostPort → HostPort) : (s.modHost f).sec = s.sec := rfl
@[simp] theorem modHost_r (s : State) (f : HostPort → HostPort) (g : Field) : (s.modHost f).r g = s.r g := rfl
@[simp] theorem modHost_lane (s : State) (f : HostPort → HostPort) (l' : Nat) : (s.modHost f).lane l' = s.lane l' := rfl
@[simp] theorem modHost_facet (s : State) (f : HostPort → HostPort) (p' : Nat) : (s.modHost f).facet p' = s.facet p' := rfl
@[simp] theorem modHost_set (s : State) (f : HostPort → HostPort) (k' : Nat) : (s.modHost f).set k' = s.set k' := rfl
@[simp] theorem modHost_chan (s : State) (f : HostPort → HostPort) (k' : Nat) : (s.modHost f).chan k' = s.chan k' := rfl
@[simp] theorem modHost_door (s : State) (f : HostPort → HostPort) (d' : Nat) : (s.modHost f).door d' = s.door d' := rfl
@[simp] theorem modHost_port (s : State) (f : HostPort → HostPort) (p' : Nat) : (s.modHost f).port p' = s.port p' := rfl
@[simp] theorem modHost_scChan (s : State) (f : HostPort → HostPort) (c' : Nat) : (s.modHost f).scChan c' = s.scChan c' := rfl
@[simp] theorem modHost_qdChan (s : State) (f : HostPort → HostPort) (c' : Nat) : (s.modHost f).qdChan c' = s.qdChan c' := rfl
@[simp] theorem modHost_ssiChan (s : State) (f : HostPort → HostPort) (c' : Nat) : (s.modHost f).ssiChan c' = s.ssiChan c' := rfl
@[simp] theorem modHost_eng (s : State) (f : HostPort → HostPort) (n' : Nat) : (s.modHost f).eng n' = s.eng n' := rfl
@[simp] theorem modHost_dlNode (s : State) (f : HostPort → HostPort) (n' : Nat) : (s.modHost f).dlNode n' = s.dlNode n' := rfl
@[simp] theorem modHost_dout (s : State) (f : HostPort → HostPort) (n' : Nat) : (s.modHost f).dout n' = s.dout n' := rfl
@[simp] theorem modHost_nbr (s : State) (f : HostPort → HostPort) (n' : Nat) : (s.modHost f).nbr n' = s.nbr n' := rfl
@[simp] theorem modHost_clock (s : State) (f : HostPort → HostPort) (n' : Nat) : (s.modHost f).clock n' = s.clock n' := rfl
@[simp] theorem modHost_ri (s : State) (f : HostPort → HostPort) (g : Field) : (s.modHost f).ri g = s.ri g := rfl

@[simp] theorem modFacet_pending (s : State) (p : Nat) (f : Facet → Facet) : (s.modFacet p f).pending = s.pending := rfl
@[simp] theorem modFacet_regs (s : State) (p : Nat) (f : Facet → Facet) : (s.modFacet p f).regs = s.regs := rfl
@[simp] theorem modFacet_optime (s : State) (p : Nat) (f : Facet → Facet) : (s.modFacet p f).optime = s.optime := rfl
@[simp] theorem modFacet_pcc (s : State) (p : Nat) (f : Facet → Facet) : (s.modFacet p f).pcc = s.pcc := rfl
@[simp] theorem modFacet_free (s : State) (p : Nat) (f : Facet → Facet) : (s.modFacet p f).free = s.free := rfl
@[simp] theorem modFacet_raised (s : State) (p : Nat) (f : Facet → Facet) : (s.modFacet p f).raised = s.raised := rfl
@[simp] theorem modFacet_ev (s : State) (p : Nat) (f : Facet → Facet) : (s.modFacet p f).ev = s.ev := rfl
@[simp] theorem modFacet_log (s : State) (p : Nat) (f : Facet → Facet) : (s.modFacet p f).log = s.log := rfl
@[simp] theorem modFacet_wall (s : State) (p : Nat) (f : Facet → Facet) : (s.modFacet p f).wall = s.wall := rfl
@[simp] theorem modFacet_host (s : State) (p : Nat) (f : Facet → Facet) : (s.modFacet p f).host = s.host := rfl
@[simp] theorem modFacet_pathHost (s : State) (p : Nat) (f : Facet → Facet) : (s.modFacet p f).pathHost = s.pathHost := rfl
@[simp] theorem modFacet_pathMgmt (s : State) (p : Nat) (f : Facet → Facet) : (s.modFacet p f).pathMgmt = s.pathMgmt := rfl
@[simp] theorem modFacet_keep (s : State) (p : Nat) (f : Facet → Facet) : (s.modFacet p f).keep = s.keep := rfl
@[simp] theorem modFacet_deep (s : State) (p : Nat) (f : Facet → Facet) : (s.modFacet p f).deep = s.deep := rfl
@[simp] theorem modFacet_near (s : State) (p : Nat) (f : Facet → Facet) : (s.modFacet p f).near = s.near := rfl
@[simp] theorem modFacet_table (s : State) (p : Nat) (f : Facet → Facet) : (s.modFacet p f).table = s.table := rfl
@[simp] theorem modFacet_img (s : State) (p : Nat) (f : Facet → Facet) : (s.modFacet p f).img = s.img := rfl
@[simp] theorem modFacet_pos (s : State) (p : Nat) (f : Facet → Facet) : (s.modFacet p f).pos = s.pos := rfl
@[simp] theorem modFacet_ret (s : State) (p : Nat) (f : Facet → Facet) : (s.modFacet p f).ret = s.ret := rfl
@[simp] theorem modFacet_trip (s : State) (p : Nat) (f : Facet → Facet) : (s.modFacet p f).trip = s.trip := rfl
@[simp] theorem modFacet_loop (s : State) (p : Nat) (f : Facet → Facet) : (s.modFacet p f).loop = s.loop := rfl
@[simp] theorem modFacet_saf (s : State) (p : Nat) (f : Facet → Facet) : (s.modFacet p f).saf = s.saf := rfl
@[simp] theorem modFacet_fio (s : State) (p : Nat) (f : Facet → Facet) : (s.modFacet p f).fio = s.fio := rfl
@[simp] theorem modFacet_net (s : State) (p : Nat) (f : Facet → Facet) : (s.modFacet p f).net = s.net := rfl
@[simp] theorem modFacet_mir (s : State) (p : Nat) (f : Facet → Facet) : (s.modFacet p f).mir = s.mir := rfl
@[simp] theorem modFacet_rcd (s : State) (p : Nat) (f : Facet → Facet) : (s.modFacet p f).rcd = s.rcd := rfl
@[simp] theorem modFacet_mem (s : State) (p : Nat) (f : Facet → Facet) : (s.modFacet p f).mem = s.mem := rfl
@[simp] theorem modFacet_pwr (s : State) (p : Nat) (f : Facet → Facet) : (s.modFacet p f).pwr = s.pwr := rfl
@[simp] theorem modFacet_sec (s : State) (p : Nat) (f : Facet → Facet) : (s.modFacet p f).sec = s.sec := rfl
@[simp] theorem modFacet_r (s : State) (p : Nat) (f : Facet → Facet) (g : Field) : (s.modFacet p f).r g = s.r g := rfl
@[simp] theorem modFacet_lane (s : State) (p : Nat) (f : Facet → Facet) (l' : Nat) : (s.modFacet p f).lane l' = s.lane l' := rfl
@[simp] theorem modFacet_set (s : State) (p : Nat) (f : Facet → Facet) (k' : Nat) : (s.modFacet p f).set k' = s.set k' := rfl
@[simp] theorem modFacet_chan (s : State) (p : Nat) (f : Facet → Facet) (k' : Nat) : (s.modFacet p f).chan k' = s.chan k' := rfl
@[simp] theorem modFacet_door (s : State) (p : Nat) (f : Facet → Facet) (d' : Nat) : (s.modFacet p f).door d' = s.door d' := rfl
@[simp] theorem modFacet_port (s : State) (p : Nat) (f : Facet → Facet) (p' : Nat) : (s.modFacet p f).port p' = s.port p' := rfl
@[simp] theorem modFacet_scChan (s : State) (p : Nat) (f : Facet → Facet) (c' : Nat) : (s.modFacet p f).scChan c' = s.scChan c' := rfl
@[simp] theorem modFacet_qdChan (s : State) (p : Nat) (f : Facet → Facet) (c' : Nat) : (s.modFacet p f).qdChan c' = s.qdChan c' := rfl
@[simp] theorem modFacet_ssiChan (s : State) (p : Nat) (f : Facet → Facet) (c' : Nat) : (s.modFacet p f).ssiChan c' = s.ssiChan c' := rfl
@[simp] theorem modFacet_eng (s : State) (p : Nat) (f : Facet → Facet) (n' : Nat) : (s.modFacet p f).eng n' = s.eng n' := rfl
@[simp] theorem modFacet_dlNode (s : State) (p : Nat) (f : Facet → Facet) (n' : Nat) : (s.modFacet p f).dlNode n' = s.dlNode n' := rfl
@[simp] theorem modFacet_dout (s : State) (p : Nat) (f : Facet → Facet) (n' : Nat) : (s.modFacet p f).dout n' = s.dout n' := rfl
@[simp] theorem modFacet_nbr (s : State) (p : Nat) (f : Facet → Facet) (n' : Nat) : (s.modFacet p f).nbr n' = s.nbr n' := rfl
@[simp] theorem modFacet_clock (s : State) (p : Nat) (f : Facet → Facet) (n' : Nat) : (s.modFacet p f).clock n' = s.clock n' := rfl
@[simp] theorem modFacet_ri (s : State) (p : Nat) (f : Facet → Facet) (g : Field) : (s.modFacet p f).ri g = s.ri g := rfl

@[simp] theorem modSet_pending (s : State) (k : Nat) (f : MarkSet → MarkSet) : (s.modSet k f).pending = s.pending := rfl
@[simp] theorem modSet_regs (s : State) (k : Nat) (f : MarkSet → MarkSet) : (s.modSet k f).regs = s.regs := rfl
@[simp] theorem modSet_optime (s : State) (k : Nat) (f : MarkSet → MarkSet) : (s.modSet k f).optime = s.optime := rfl
@[simp] theorem modSet_pcc (s : State) (k : Nat) (f : MarkSet → MarkSet) : (s.modSet k f).pcc = s.pcc := rfl
@[simp] theorem modSet_free (s : State) (k : Nat) (f : MarkSet → MarkSet) : (s.modSet k f).free = s.free := rfl
@[simp] theorem modSet_raised (s : State) (k : Nat) (f : MarkSet → MarkSet) : (s.modSet k f).raised = s.raised := rfl
@[simp] theorem modSet_ev (s : State) (k : Nat) (f : MarkSet → MarkSet) : (s.modSet k f).ev = s.ev := rfl
@[simp] theorem modSet_log (s : State) (k : Nat) (f : MarkSet → MarkSet) : (s.modSet k f).log = s.log := rfl
@[simp] theorem modSet_wall (s : State) (k : Nat) (f : MarkSet → MarkSet) : (s.modSet k f).wall = s.wall := rfl
@[simp] theorem modSet_host (s : State) (k : Nat) (f : MarkSet → MarkSet) : (s.modSet k f).host = s.host := rfl
@[simp] theorem modSet_pathHost (s : State) (k : Nat) (f : MarkSet → MarkSet) : (s.modSet k f).pathHost = s.pathHost := rfl
@[simp] theorem modSet_pathMgmt (s : State) (k : Nat) (f : MarkSet → MarkSet) : (s.modSet k f).pathMgmt = s.pathMgmt := rfl
@[simp] theorem modSet_keep (s : State) (k : Nat) (f : MarkSet → MarkSet) : (s.modSet k f).keep = s.keep := rfl
@[simp] theorem modSet_deep (s : State) (k : Nat) (f : MarkSet → MarkSet) : (s.modSet k f).deep = s.deep := rfl
@[simp] theorem modSet_near (s : State) (k : Nat) (f : MarkSet → MarkSet) : (s.modSet k f).near = s.near := rfl
@[simp] theorem modSet_table (s : State) (k : Nat) (f : MarkSet → MarkSet) : (s.modSet k f).table = s.table := rfl
@[simp] theorem modSet_img (s : State) (k : Nat) (f : MarkSet → MarkSet) : (s.modSet k f).img = s.img := rfl
@[simp] theorem modSet_dsp (s : State) (k : Nat) (f : MarkSet → MarkSet) : (s.modSet k f).dsp = s.dsp := rfl
@[simp] theorem modSet_pos (s : State) (k : Nat) (f : MarkSet → MarkSet) : (s.modSet k f).pos = s.pos := rfl
@[simp] theorem modSet_trip (s : State) (k : Nat) (f : MarkSet → MarkSet) : (s.modSet k f).trip = s.trip := rfl
@[simp] theorem modSet_loop (s : State) (k : Nat) (f : MarkSet → MarkSet) : (s.modSet k f).loop = s.loop := rfl
@[simp] theorem modSet_saf (s : State) (k : Nat) (f : MarkSet → MarkSet) : (s.modSet k f).saf = s.saf := rfl
@[simp] theorem modSet_fio (s : State) (k : Nat) (f : MarkSet → MarkSet) : (s.modSet k f).fio = s.fio := rfl
@[simp] theorem modSet_net (s : State) (k : Nat) (f : MarkSet → MarkSet) : (s.modSet k f).net = s.net := rfl
@[simp] theorem modSet_mir (s : State) (k : Nat) (f : MarkSet → MarkSet) : (s.modSet k f).mir = s.mir := rfl
@[simp] theorem modSet_rcd (s : State) (k : Nat) (f : MarkSet → MarkSet) : (s.modSet k f).rcd = s.rcd := rfl
@[simp] theorem modSet_mem (s : State) (k : Nat) (f : MarkSet → MarkSet) : (s.modSet k f).mem = s.mem := rfl
@[simp] theorem modSet_pwr (s : State) (k : Nat) (f : MarkSet → MarkSet) : (s.modSet k f).pwr = s.pwr := rfl
@[simp] theorem modSet_sec (s : State) (k : Nat) (f : MarkSet → MarkSet) : (s.modSet k f).sec = s.sec := rfl
@[simp] theorem modSet_r (s : State) (k : Nat) (f : MarkSet → MarkSet) (g : Field) : (s.modSet k f).r g = s.r g := rfl
@[simp] theorem modSet_lane (s : State) (k : Nat) (f : MarkSet → MarkSet) (l' : Nat) : (s.modSet k f).lane l' = s.lane l' := rfl
@[simp] theorem modSet_facet (s : State) (k : Nat) (f : MarkSet → MarkSet) (p' : Nat) : (s.modSet k f).facet p' = s.facet p' := rfl
@[simp] theorem modSet_chan (s : State) (k : Nat) (f : MarkSet → MarkSet) (k' : Nat) : (s.modSet k f).chan k' = s.chan k' := rfl
@[simp] theorem modSet_door (s : State) (k : Nat) (f : MarkSet → MarkSet) (d' : Nat) : (s.modSet k f).door d' = s.door d' := rfl
@[simp] theorem modSet_port (s : State) (k : Nat) (f : MarkSet → MarkSet) (p' : Nat) : (s.modSet k f).port p' = s.port p' := rfl
@[simp] theorem modSet_scChan (s : State) (k : Nat) (f : MarkSet → MarkSet) (c' : Nat) : (s.modSet k f).scChan c' = s.scChan c' := rfl
@[simp] theorem modSet_qdChan (s : State) (k : Nat) (f : MarkSet → MarkSet) (c' : Nat) : (s.modSet k f).qdChan c' = s.qdChan c' := rfl
@[simp] theorem modSet_ssiChan (s : State) (k : Nat) (f : MarkSet → MarkSet) (c' : Nat) : (s.modSet k f).ssiChan c' = s.ssiChan c' := rfl
@[simp] theorem modSet_eng (s : State) (k : Nat) (f : MarkSet → MarkSet) (n' : Nat) : (s.modSet k f).eng n' = s.eng n' := rfl
@[simp] theorem modSet_dlNode (s : State) (k : Nat) (f : MarkSet → MarkSet) (n' : Nat) : (s.modSet k f).dlNode n' = s.dlNode n' := rfl
@[simp] theorem modSet_dout (s : State) (k : Nat) (f : MarkSet → MarkSet) (n' : Nat) : (s.modSet k f).dout n' = s.dout n' := rfl
@[simp] theorem modSet_nbr (s : State) (k : Nat) (f : MarkSet → MarkSet) (n' : Nat) : (s.modSet k f).nbr n' = s.nbr n' := rfl
@[simp] theorem modSet_clock (s : State) (k : Nat) (f : MarkSet → MarkSet) (n' : Nat) : (s.modSet k f).clock n' = s.clock n' := rfl
@[simp] theorem modSet_ri (s : State) (k : Nat) (f : MarkSet → MarkSet) (g : Field) : (s.modSet k f).ri g = s.ri g := rfl

@[simp] theorem modChan_pending (s : State) (k : Nat) (f : Channel → Channel) : (s.modChan k f).pending = s.pending := rfl
@[simp] theorem modChan_regs (s : State) (k : Nat) (f : Channel → Channel) : (s.modChan k f).regs = s.regs := rfl
@[simp] theorem modChan_optime (s : State) (k : Nat) (f : Channel → Channel) : (s.modChan k f).optime = s.optime := rfl
@[simp] theorem modChan_pcc (s : State) (k : Nat) (f : Channel → Channel) : (s.modChan k f).pcc = s.pcc := rfl
@[simp] theorem modChan_free (s : State) (k : Nat) (f : Channel → Channel) : (s.modChan k f).free = s.free := rfl
@[simp] theorem modChan_raised (s : State) (k : Nat) (f : Channel → Channel) : (s.modChan k f).raised = s.raised := rfl
@[simp] theorem modChan_ev (s : State) (k : Nat) (f : Channel → Channel) : (s.modChan k f).ev = s.ev := rfl
@[simp] theorem modChan_log (s : State) (k : Nat) (f : Channel → Channel) : (s.modChan k f).log = s.log := rfl
@[simp] theorem modChan_wall (s : State) (k : Nat) (f : Channel → Channel) : (s.modChan k f).wall = s.wall := rfl
@[simp] theorem modChan_host (s : State) (k : Nat) (f : Channel → Channel) : (s.modChan k f).host = s.host := rfl
@[simp] theorem modChan_pathHost (s : State) (k : Nat) (f : Channel → Channel) : (s.modChan k f).pathHost = s.pathHost := rfl
@[simp] theorem modChan_pathMgmt (s : State) (k : Nat) (f : Channel → Channel) : (s.modChan k f).pathMgmt = s.pathMgmt := rfl
@[simp] theorem modChan_keep (s : State) (k : Nat) (f : Channel → Channel) : (s.modChan k f).keep = s.keep := rfl
@[simp] theorem modChan_deep (s : State) (k : Nat) (f : Channel → Channel) : (s.modChan k f).deep = s.deep := rfl
@[simp] theorem modChan_near (s : State) (k : Nat) (f : Channel → Channel) : (s.modChan k f).near = s.near := rfl
@[simp] theorem modChan_table (s : State) (k : Nat) (f : Channel → Channel) : (s.modChan k f).table = s.table := rfl
@[simp] theorem modChan_img (s : State) (k : Nat) (f : Channel → Channel) : (s.modChan k f).img = s.img := rfl
@[simp] theorem modChan_dsp (s : State) (k : Nat) (f : Channel → Channel) : (s.modChan k f).dsp = s.dsp := rfl
@[simp] theorem modChan_pos (s : State) (k : Nat) (f : Channel → Channel) : (s.modChan k f).pos = s.pos := rfl
@[simp] theorem modChan_ret (s : State) (k : Nat) (f : Channel → Channel) : (s.modChan k f).ret = s.ret := rfl
@[simp] theorem modChan_loop (s : State) (k : Nat) (f : Channel → Channel) : (s.modChan k f).loop = s.loop := rfl
@[simp] theorem modChan_saf (s : State) (k : Nat) (f : Channel → Channel) : (s.modChan k f).saf = s.saf := rfl
@[simp] theorem modChan_fio (s : State) (k : Nat) (f : Channel → Channel) : (s.modChan k f).fio = s.fio := rfl
@[simp] theorem modChan_net (s : State) (k : Nat) (f : Channel → Channel) : (s.modChan k f).net = s.net := rfl
@[simp] theorem modChan_mir (s : State) (k : Nat) (f : Channel → Channel) : (s.modChan k f).mir = s.mir := rfl
@[simp] theorem modChan_rcd (s : State) (k : Nat) (f : Channel → Channel) : (s.modChan k f).rcd = s.rcd := rfl
@[simp] theorem modChan_mem (s : State) (k : Nat) (f : Channel → Channel) : (s.modChan k f).mem = s.mem := rfl
@[simp] theorem modChan_pwr (s : State) (k : Nat) (f : Channel → Channel) : (s.modChan k f).pwr = s.pwr := rfl
@[simp] theorem modChan_sec (s : State) (k : Nat) (f : Channel → Channel) : (s.modChan k f).sec = s.sec := rfl
@[simp] theorem modChan_r (s : State) (k : Nat) (f : Channel → Channel) (g : Field) : (s.modChan k f).r g = s.r g := rfl
@[simp] theorem modChan_lane (s : State) (k : Nat) (f : Channel → Channel) (l' : Nat) : (s.modChan k f).lane l' = s.lane l' := rfl
@[simp] theorem modChan_facet (s : State) (k : Nat) (f : Channel → Channel) (p' : Nat) : (s.modChan k f).facet p' = s.facet p' := rfl
@[simp] theorem modChan_set (s : State) (k : Nat) (f : Channel → Channel) (k' : Nat) : (s.modChan k f).set k' = s.set k' := rfl
@[simp] theorem modChan_door (s : State) (k : Nat) (f : Channel → Channel) (d' : Nat) : (s.modChan k f).door d' = s.door d' := rfl
@[simp] theorem modChan_port (s : State) (k : Nat) (f : Channel → Channel) (p' : Nat) : (s.modChan k f).port p' = s.port p' := rfl
@[simp] theorem modChan_scChan (s : State) (k : Nat) (f : Channel → Channel) (c' : Nat) : (s.modChan k f).scChan c' = s.scChan c' := rfl
@[simp] theorem modChan_qdChan (s : State) (k : Nat) (f : Channel → Channel) (c' : Nat) : (s.modChan k f).qdChan c' = s.qdChan c' := rfl
@[simp] theorem modChan_ssiChan (s : State) (k : Nat) (f : Channel → Channel) (c' : Nat) : (s.modChan k f).ssiChan c' = s.ssiChan c' := rfl
@[simp] theorem modChan_eng (s : State) (k : Nat) (f : Channel → Channel) (n' : Nat) : (s.modChan k f).eng n' = s.eng n' := rfl
@[simp] theorem modChan_dlNode (s : State) (k : Nat) (f : Channel → Channel) (n' : Nat) : (s.modChan k f).dlNode n' = s.dlNode n' := rfl
@[simp] theorem modChan_dout (s : State) (k : Nat) (f : Channel → Channel) (n' : Nat) : (s.modChan k f).dout n' = s.dout n' := rfl
@[simp] theorem modChan_clock (s : State) (k : Nat) (f : Channel → Channel) (n' : Nat) : (s.modChan k f).clock n' = s.clock n' := rfl
@[simp] theorem modChan_ri (s : State) (k : Nat) (f : Channel → Channel) (g : Field) : (s.modChan k f).ri g = s.ri g := rfl

@[simp] theorem modDoor_pending (s : State) (d : Nat) (f : DoorOp → DoorOp) : (s.modDoor d f).pending = s.pending := rfl
@[simp] theorem modDoor_regs (s : State) (d : Nat) (f : DoorOp → DoorOp) : (s.modDoor d f).regs = s.regs := rfl
@[simp] theorem modDoor_optime (s : State) (d : Nat) (f : DoorOp → DoorOp) : (s.modDoor d f).optime = s.optime := rfl
@[simp] theorem modDoor_pcc (s : State) (d : Nat) (f : DoorOp → DoorOp) : (s.modDoor d f).pcc = s.pcc := rfl
@[simp] theorem modDoor_free (s : State) (d : Nat) (f : DoorOp → DoorOp) : (s.modDoor d f).free = s.free := rfl
@[simp] theorem modDoor_raised (s : State) (d : Nat) (f : DoorOp → DoorOp) : (s.modDoor d f).raised = s.raised := rfl
@[simp] theorem modDoor_ev (s : State) (d : Nat) (f : DoorOp → DoorOp) : (s.modDoor d f).ev = s.ev := rfl
@[simp] theorem modDoor_log (s : State) (d : Nat) (f : DoorOp → DoorOp) : (s.modDoor d f).log = s.log := rfl
@[simp] theorem modDoor_wall (s : State) (d : Nat) (f : DoorOp → DoorOp) : (s.modDoor d f).wall = s.wall := rfl
@[simp] theorem modDoor_host (s : State) (d : Nat) (f : DoorOp → DoorOp) : (s.modDoor d f).host = s.host := rfl
@[simp] theorem modDoor_pathHost (s : State) (d : Nat) (f : DoorOp → DoorOp) : (s.modDoor d f).pathHost = s.pathHost := rfl
@[simp] theorem modDoor_pathMgmt (s : State) (d : Nat) (f : DoorOp → DoorOp) : (s.modDoor d f).pathMgmt = s.pathMgmt := rfl
@[simp] theorem modDoor_keep (s : State) (d : Nat) (f : DoorOp → DoorOp) : (s.modDoor d f).keep = s.keep := rfl
@[simp] theorem modDoor_deep (s : State) (d : Nat) (f : DoorOp → DoorOp) : (s.modDoor d f).deep = s.deep := rfl
@[simp] theorem modDoor_near (s : State) (d : Nat) (f : DoorOp → DoorOp) : (s.modDoor d f).near = s.near := rfl
@[simp] theorem modDoor_table (s : State) (d : Nat) (f : DoorOp → DoorOp) : (s.modDoor d f).table = s.table := rfl
@[simp] theorem modDoor_img (s : State) (d : Nat) (f : DoorOp → DoorOp) : (s.modDoor d f).img = s.img := rfl
@[simp] theorem modDoor_dsp (s : State) (d : Nat) (f : DoorOp → DoorOp) : (s.modDoor d f).dsp = s.dsp := rfl
@[simp] theorem modDoor_pos (s : State) (d : Nat) (f : DoorOp → DoorOp) : (s.modDoor d f).pos = s.pos := rfl
@[simp] theorem modDoor_ret (s : State) (d : Nat) (f : DoorOp → DoorOp) : (s.modDoor d f).ret = s.ret := rfl
@[simp] theorem modDoor_trip (s : State) (d : Nat) (f : DoorOp → DoorOp) : (s.modDoor d f).trip = s.trip := rfl
@[simp] theorem modDoor_saf (s : State) (d : Nat) (f : DoorOp → DoorOp) : (s.modDoor d f).saf = s.saf := rfl
@[simp] theorem modDoor_fio (s : State) (d : Nat) (f : DoorOp → DoorOp) : (s.modDoor d f).fio = s.fio := rfl
@[simp] theorem modDoor_net (s : State) (d : Nat) (f : DoorOp → DoorOp) : (s.modDoor d f).net = s.net := rfl
@[simp] theorem modDoor_mir (s : State) (d : Nat) (f : DoorOp → DoorOp) : (s.modDoor d f).mir = s.mir := rfl
@[simp] theorem modDoor_rcd (s : State) (d : Nat) (f : DoorOp → DoorOp) : (s.modDoor d f).rcd = s.rcd := rfl
@[simp] theorem modDoor_mem (s : State) (d : Nat) (f : DoorOp → DoorOp) : (s.modDoor d f).mem = s.mem := rfl
@[simp] theorem modDoor_pwr (s : State) (d : Nat) (f : DoorOp → DoorOp) : (s.modDoor d f).pwr = s.pwr := rfl
@[simp] theorem modDoor_sec (s : State) (d : Nat) (f : DoorOp → DoorOp) : (s.modDoor d f).sec = s.sec := rfl
@[simp] theorem modDoor_r (s : State) (d : Nat) (f : DoorOp → DoorOp) (g : Field) : (s.modDoor d f).r g = s.r g := rfl
@[simp] theorem modDoor_lane (s : State) (d : Nat) (f : DoorOp → DoorOp) (l' : Nat) : (s.modDoor d f).lane l' = s.lane l' := rfl
@[simp] theorem modDoor_facet (s : State) (d : Nat) (f : DoorOp → DoorOp) (p' : Nat) : (s.modDoor d f).facet p' = s.facet p' := rfl
@[simp] theorem modDoor_set (s : State) (d : Nat) (f : DoorOp → DoorOp) (k' : Nat) : (s.modDoor d f).set k' = s.set k' := rfl
@[simp] theorem modDoor_chan (s : State) (d : Nat) (f : DoorOp → DoorOp) (k' : Nat) : (s.modDoor d f).chan k' = s.chan k' := rfl
@[simp] theorem modDoor_port (s : State) (d : Nat) (f : DoorOp → DoorOp) (p' : Nat) : (s.modDoor d f).port p' = s.port p' := rfl
@[simp] theorem modDoor_scChan (s : State) (d : Nat) (f : DoorOp → DoorOp) (c' : Nat) : (s.modDoor d f).scChan c' = s.scChan c' := rfl
@[simp] theorem modDoor_qdChan (s : State) (d : Nat) (f : DoorOp → DoorOp) (c' : Nat) : (s.modDoor d f).qdChan c' = s.qdChan c' := rfl
@[simp] theorem modDoor_ssiChan (s : State) (d : Nat) (f : DoorOp → DoorOp) (c' : Nat) : (s.modDoor d f).ssiChan c' = s.ssiChan c' := rfl
@[simp] theorem modDoor_dout (s : State) (d : Nat) (f : DoorOp → DoorOp) (n' : Nat) : (s.modDoor d f).dout n' = s.dout n' := rfl
@[simp] theorem modDoor_nbr (s : State) (d : Nat) (f : DoorOp → DoorOp) (n' : Nat) : (s.modDoor d f).nbr n' = s.nbr n' := rfl
@[simp] theorem modDoor_clock (s : State) (d : Nat) (f : DoorOp → DoorOp) (n' : Nat) : (s.modDoor d f).clock n' = s.clock n' := rfl
@[simp] theorem modDoor_ri (s : State) (d : Nat) (f : DoorOp → DoorOp) (g : Field) : (s.modDoor d f).ri g = s.ri g := rfl

@[simp] theorem modPort_pending (s : State) (p : Nat) (f : PortSt → PortSt) : (s.modPort p f).pending = s.pending := rfl
@[simp] theorem modPort_regs (s : State) (p : Nat) (f : PortSt → PortSt) : (s.modPort p f).regs = s.regs := rfl
@[simp] theorem modPort_optime (s : State) (p : Nat) (f : PortSt → PortSt) : (s.modPort p f).optime = s.optime := rfl
@[simp] theorem modPort_pcc (s : State) (p : Nat) (f : PortSt → PortSt) : (s.modPort p f).pcc = s.pcc := rfl
@[simp] theorem modPort_free (s : State) (p : Nat) (f : PortSt → PortSt) : (s.modPort p f).free = s.free := rfl
@[simp] theorem modPort_raised (s : State) (p : Nat) (f : PortSt → PortSt) : (s.modPort p f).raised = s.raised := rfl
@[simp] theorem modPort_ev (s : State) (p : Nat) (f : PortSt → PortSt) : (s.modPort p f).ev = s.ev := rfl
@[simp] theorem modPort_log (s : State) (p : Nat) (f : PortSt → PortSt) : (s.modPort p f).log = s.log := rfl
@[simp] theorem modPort_wall (s : State) (p : Nat) (f : PortSt → PortSt) : (s.modPort p f).wall = s.wall := rfl
@[simp] theorem modPort_host (s : State) (p : Nat) (f : PortSt → PortSt) : (s.modPort p f).host = s.host := rfl
@[simp] theorem modPort_pathHost (s : State) (p : Nat) (f : PortSt → PortSt) : (s.modPort p f).pathHost = s.pathHost := rfl
@[simp] theorem modPort_pathMgmt (s : State) (p : Nat) (f : PortSt → PortSt) : (s.modPort p f).pathMgmt = s.pathMgmt := rfl
@[simp] theorem modPort_keep (s : State) (p : Nat) (f : PortSt → PortSt) : (s.modPort p f).keep = s.keep := rfl
@[simp] theorem modPort_deep (s : State) (p : Nat) (f : PortSt → PortSt) : (s.modPort p f).deep = s.deep := rfl
@[simp] theorem modPort_near (s : State) (p : Nat) (f : PortSt → PortSt) : (s.modPort p f).near = s.near := rfl
@[simp] theorem modPort_table (s : State) (p : Nat) (f : PortSt → PortSt) : (s.modPort p f).table = s.table := rfl
@[simp] theorem modPort_img (s : State) (p : Nat) (f : PortSt → PortSt) : (s.modPort p f).img = s.img := rfl
@[simp] theorem modPort_dsp (s : State) (p : Nat) (f : PortSt → PortSt) : (s.modPort p f).dsp = s.dsp := rfl
@[simp] theorem modPort_pos (s : State) (p : Nat) (f : PortSt → PortSt) : (s.modPort p f).pos = s.pos := rfl
@[simp] theorem modPort_ret (s : State) (p : Nat) (f : PortSt → PortSt) : (s.modPort p f).ret = s.ret := rfl
@[simp] theorem modPort_trip (s : State) (p : Nat) (f : PortSt → PortSt) : (s.modPort p f).trip = s.trip := rfl
@[simp] theorem modPort_loop (s : State) (p : Nat) (f : PortSt → PortSt) : (s.modPort p f).loop = s.loop := rfl
@[simp] theorem modPort_saf (s : State) (p : Nat) (f : PortSt → PortSt) : (s.modPort p f).saf = s.saf := rfl
@[simp] theorem modPort_fio (s : State) (p : Nat) (f : PortSt → PortSt) : (s.modPort p f).fio = s.fio := rfl
@[simp] theorem modPort_mir (s : State) (p : Nat) (f : PortSt → PortSt) : (s.modPort p f).mir = s.mir := rfl
@[simp] theorem modPort_rcd (s : State) (p : Nat) (f : PortSt → PortSt) : (s.modPort p f).rcd = s.rcd := rfl
@[simp] theorem modPort_mem (s : State) (p : Nat) (f : PortSt → PortSt) : (s.modPort p f).mem = s.mem := rfl
@[simp] theorem modPort_pwr (s : State) (p : Nat) (f : PortSt → PortSt) : (s.modPort p f).pwr = s.pwr := rfl
@[simp] theorem modPort_sec (s : State) (p : Nat) (f : PortSt → PortSt) : (s.modPort p f).sec = s.sec := rfl
@[simp] theorem modPort_r (s : State) (p : Nat) (f : PortSt → PortSt) (g : Field) : (s.modPort p f).r g = s.r g := rfl
@[simp] theorem modPort_lane (s : State) (p : Nat) (f : PortSt → PortSt) (l' : Nat) : (s.modPort p f).lane l' = s.lane l' := rfl
@[simp] theorem modPort_facet (s : State) (p : Nat) (f : PortSt → PortSt) (p' : Nat) : (s.modPort p f).facet p' = s.facet p' := rfl
@[simp] theorem modPort_set (s : State) (p : Nat) (f : PortSt → PortSt) (k' : Nat) : (s.modPort p f).set k' = s.set k' := rfl
@[simp] theorem modPort_chan (s : State) (p : Nat) (f : PortSt → PortSt) (k' : Nat) : (s.modPort p f).chan k' = s.chan k' := rfl
@[simp] theorem modPort_door (s : State) (p : Nat) (f : PortSt → PortSt) (d' : Nat) : (s.modPort p f).door d' = s.door d' := rfl
@[simp] theorem modPort_scChan (s : State) (p : Nat) (f : PortSt → PortSt) (c' : Nat) : (s.modPort p f).scChan c' = s.scChan c' := rfl
@[simp] theorem modPort_qdChan (s : State) (p : Nat) (f : PortSt → PortSt) (c' : Nat) : (s.modPort p f).qdChan c' = s.qdChan c' := rfl
@[simp] theorem modPort_ssiChan (s : State) (p : Nat) (f : PortSt → PortSt) (c' : Nat) : (s.modPort p f).ssiChan c' = s.ssiChan c' := rfl
@[simp] theorem modPort_eng (s : State) (p : Nat) (f : PortSt → PortSt) (n' : Nat) : (s.modPort p f).eng n' = s.eng n' := rfl
@[simp] theorem modPort_dlNode (s : State) (p : Nat) (f : PortSt → PortSt) (n' : Nat) : (s.modPort p f).dlNode n' = s.dlNode n' := rfl
@[simp] theorem modPort_dout (s : State) (p : Nat) (f : PortSt → PortSt) (n' : Nat) : (s.modPort p f).dout n' = s.dout n' := rfl
@[simp] theorem modPort_nbr (s : State) (p : Nat) (f : PortSt → PortSt) (n' : Nat) : (s.modPort p f).nbr n' = s.nbr n' := rfl
@[simp] theorem modPort_ri (s : State) (p : Nat) (f : PortSt → PortSt) (g : Field) : (s.modPort p f).ri g = s.ri g := rfl

@[simp] theorem modSc_pending (s : State) (c : Nat) (f : ScChan → ScChan) : (s.modSc c f).pending = s.pending := rfl
@[simp] theorem modSc_regs (s : State) (c : Nat) (f : ScChan → ScChan) : (s.modSc c f).regs = s.regs := rfl
@[simp] theorem modSc_optime (s : State) (c : Nat) (f : ScChan → ScChan) : (s.modSc c f).optime = s.optime := rfl
@[simp] theorem modSc_pcc (s : State) (c : Nat) (f : ScChan → ScChan) : (s.modSc c f).pcc = s.pcc := rfl
@[simp] theorem modSc_free (s : State) (c : Nat) (f : ScChan → ScChan) : (s.modSc c f).free = s.free := rfl
@[simp] theorem modSc_raised (s : State) (c : Nat) (f : ScChan → ScChan) : (s.modSc c f).raised = s.raised := rfl
@[simp] theorem modSc_ev (s : State) (c : Nat) (f : ScChan → ScChan) : (s.modSc c f).ev = s.ev := rfl
@[simp] theorem modSc_log (s : State) (c : Nat) (f : ScChan → ScChan) : (s.modSc c f).log = s.log := rfl
@[simp] theorem modSc_wall (s : State) (c : Nat) (f : ScChan → ScChan) : (s.modSc c f).wall = s.wall := rfl
@[simp] theorem modSc_host (s : State) (c : Nat) (f : ScChan → ScChan) : (s.modSc c f).host = s.host := rfl
@[simp] theorem modSc_pathHost (s : State) (c : Nat) (f : ScChan → ScChan) : (s.modSc c f).pathHost = s.pathHost := rfl
@[simp] theorem modSc_pathMgmt (s : State) (c : Nat) (f : ScChan → ScChan) : (s.modSc c f).pathMgmt = s.pathMgmt := rfl
@[simp] theorem modSc_keep (s : State) (c : Nat) (f : ScChan → ScChan) : (s.modSc c f).keep = s.keep := rfl
@[simp] theorem modSc_deep (s : State) (c : Nat) (f : ScChan → ScChan) : (s.modSc c f).deep = s.deep := rfl
@[simp] theorem modSc_near (s : State) (c : Nat) (f : ScChan → ScChan) : (s.modSc c f).near = s.near := rfl
@[simp] theorem modSc_table (s : State) (c : Nat) (f : ScChan → ScChan) : (s.modSc c f).table = s.table := rfl
@[simp] theorem modSc_img (s : State) (c : Nat) (f : ScChan → ScChan) : (s.modSc c f).img = s.img := rfl
@[simp] theorem modSc_dsp (s : State) (c : Nat) (f : ScChan → ScChan) : (s.modSc c f).dsp = s.dsp := rfl
@[simp] theorem modSc_ret (s : State) (c : Nat) (f : ScChan → ScChan) : (s.modSc c f).ret = s.ret := rfl
@[simp] theorem modSc_trip (s : State) (c : Nat) (f : ScChan → ScChan) : (s.modSc c f).trip = s.trip := rfl
@[simp] theorem modSc_loop (s : State) (c : Nat) (f : ScChan → ScChan) : (s.modSc c f).loop = s.loop := rfl
@[simp] theorem modSc_saf (s : State) (c : Nat) (f : ScChan → ScChan) : (s.modSc c f).saf = s.saf := rfl
@[simp] theorem modSc_fio (s : State) (c : Nat) (f : ScChan → ScChan) : (s.modSc c f).fio = s.fio := rfl
@[simp] theorem modSc_net (s : State) (c : Nat) (f : ScChan → ScChan) : (s.modSc c f).net = s.net := rfl
@[simp] theorem modSc_mir (s : State) (c : Nat) (f : ScChan → ScChan) : (s.modSc c f).mir = s.mir := rfl
@[simp] theorem modSc_rcd (s : State) (c : Nat) (f : ScChan → ScChan) : (s.modSc c f).rcd = s.rcd := rfl
@[simp] theorem modSc_mem (s : State) (c : Nat) (f : ScChan → ScChan) : (s.modSc c f).mem = s.mem := rfl
@[simp] theorem modSc_pwr (s : State) (c : Nat) (f : ScChan → ScChan) : (s.modSc c f).pwr = s.pwr := rfl
@[simp] theorem modSc_sec (s : State) (c : Nat) (f : ScChan → ScChan) : (s.modSc c f).sec = s.sec := rfl
@[simp] theorem modSc_r (s : State) (c : Nat) (f : ScChan → ScChan) (g : Field) : (s.modSc c f).r g = s.r g := rfl
@[simp] theorem modSc_lane (s : State) (c : Nat) (f : ScChan → ScChan) (l' : Nat) : (s.modSc c f).lane l' = s.lane l' := rfl
@[simp] theorem modSc_facet (s : State) (c : Nat) (f : ScChan → ScChan) (p' : Nat) : (s.modSc c f).facet p' = s.facet p' := rfl
@[simp] theorem modSc_set (s : State) (c : Nat) (f : ScChan → ScChan) (k' : Nat) : (s.modSc c f).set k' = s.set k' := rfl
@[simp] theorem modSc_chan (s : State) (c : Nat) (f : ScChan → ScChan) (k' : Nat) : (s.modSc c f).chan k' = s.chan k' := rfl
@[simp] theorem modSc_door (s : State) (c : Nat) (f : ScChan → ScChan) (d' : Nat) : (s.modSc c f).door d' = s.door d' := rfl
@[simp] theorem modSc_port (s : State) (c : Nat) (f : ScChan → ScChan) (p' : Nat) : (s.modSc c f).port p' = s.port p' := rfl
@[simp] theorem modSc_eng (s : State) (c : Nat) (f : ScChan → ScChan) (n' : Nat) : (s.modSc c f).eng n' = s.eng n' := rfl
@[simp] theorem modSc_dlNode (s : State) (c : Nat) (f : ScChan → ScChan) (n' : Nat) : (s.modSc c f).dlNode n' = s.dlNode n' := rfl
@[simp] theorem modSc_dout (s : State) (c : Nat) (f : ScChan → ScChan) (n' : Nat) : (s.modSc c f).dout n' = s.dout n' := rfl
@[simp] theorem modSc_nbr (s : State) (c : Nat) (f : ScChan → ScChan) (n' : Nat) : (s.modSc c f).nbr n' = s.nbr n' := rfl
@[simp] theorem modSc_clock (s : State) (c : Nat) (f : ScChan → ScChan) (n' : Nat) : (s.modSc c f).clock n' = s.clock n' := rfl
@[simp] theorem modSc_ri (s : State) (c : Nat) (f : ScChan → ScChan) (g : Field) : (s.modSc c f).ri g = s.ri g := rfl

@[simp] theorem modQd_pending (s : State) (q : Nat) (f : QdChan → QdChan) : (s.modQd q f).pending = s.pending := rfl
@[simp] theorem modQd_regs (s : State) (q : Nat) (f : QdChan → QdChan) : (s.modQd q f).regs = s.regs := rfl
@[simp] theorem modQd_optime (s : State) (q : Nat) (f : QdChan → QdChan) : (s.modQd q f).optime = s.optime := rfl
@[simp] theorem modQd_pcc (s : State) (q : Nat) (f : QdChan → QdChan) : (s.modQd q f).pcc = s.pcc := rfl
@[simp] theorem modQd_free (s : State) (q : Nat) (f : QdChan → QdChan) : (s.modQd q f).free = s.free := rfl
@[simp] theorem modQd_raised (s : State) (q : Nat) (f : QdChan → QdChan) : (s.modQd q f).raised = s.raised := rfl
@[simp] theorem modQd_ev (s : State) (q : Nat) (f : QdChan → QdChan) : (s.modQd q f).ev = s.ev := rfl
@[simp] theorem modQd_log (s : State) (q : Nat) (f : QdChan → QdChan) : (s.modQd q f).log = s.log := rfl
@[simp] theorem modQd_wall (s : State) (q : Nat) (f : QdChan → QdChan) : (s.modQd q f).wall = s.wall := rfl
@[simp] theorem modQd_host (s : State) (q : Nat) (f : QdChan → QdChan) : (s.modQd q f).host = s.host := rfl
@[simp] theorem modQd_pathHost (s : State) (q : Nat) (f : QdChan → QdChan) : (s.modQd q f).pathHost = s.pathHost := rfl
@[simp] theorem modQd_pathMgmt (s : State) (q : Nat) (f : QdChan → QdChan) : (s.modQd q f).pathMgmt = s.pathMgmt := rfl
@[simp] theorem modQd_keep (s : State) (q : Nat) (f : QdChan → QdChan) : (s.modQd q f).keep = s.keep := rfl
@[simp] theorem modQd_deep (s : State) (q : Nat) (f : QdChan → QdChan) : (s.modQd q f).deep = s.deep := rfl
@[simp] theorem modQd_near (s : State) (q : Nat) (f : QdChan → QdChan) : (s.modQd q f).near = s.near := rfl
@[simp] theorem modQd_table (s : State) (q : Nat) (f : QdChan → QdChan) : (s.modQd q f).table = s.table := rfl
@[simp] theorem modQd_img (s : State) (q : Nat) (f : QdChan → QdChan) : (s.modQd q f).img = s.img := rfl
@[simp] theorem modQd_dsp (s : State) (q : Nat) (f : QdChan → QdChan) : (s.modQd q f).dsp = s.dsp := rfl
@[simp] theorem modQd_ret (s : State) (q : Nat) (f : QdChan → QdChan) : (s.modQd q f).ret = s.ret := rfl
@[simp] theorem modQd_trip (s : State) (q : Nat) (f : QdChan → QdChan) : (s.modQd q f).trip = s.trip := rfl
@[simp] theorem modQd_loop (s : State) (q : Nat) (f : QdChan → QdChan) : (s.modQd q f).loop = s.loop := rfl
@[simp] theorem modQd_saf (s : State) (q : Nat) (f : QdChan → QdChan) : (s.modQd q f).saf = s.saf := rfl
@[simp] theorem modQd_fio (s : State) (q : Nat) (f : QdChan → QdChan) : (s.modQd q f).fio = s.fio := rfl
@[simp] theorem modQd_net (s : State) (q : Nat) (f : QdChan → QdChan) : (s.modQd q f).net = s.net := rfl
@[simp] theorem modQd_mir (s : State) (q : Nat) (f : QdChan → QdChan) : (s.modQd q f).mir = s.mir := rfl
@[simp] theorem modQd_rcd (s : State) (q : Nat) (f : QdChan → QdChan) : (s.modQd q f).rcd = s.rcd := rfl
@[simp] theorem modQd_mem (s : State) (q : Nat) (f : QdChan → QdChan) : (s.modQd q f).mem = s.mem := rfl
@[simp] theorem modQd_pwr (s : State) (q : Nat) (f : QdChan → QdChan) : (s.modQd q f).pwr = s.pwr := rfl
@[simp] theorem modQd_sec (s : State) (q : Nat) (f : QdChan → QdChan) : (s.modQd q f).sec = s.sec := rfl
@[simp] theorem modQd_r (s : State) (q : Nat) (f : QdChan → QdChan) (g : Field) : (s.modQd q f).r g = s.r g := rfl
@[simp] theorem modQd_lane (s : State) (q : Nat) (f : QdChan → QdChan) (l' : Nat) : (s.modQd q f).lane l' = s.lane l' := rfl
@[simp] theorem modQd_facet (s : State) (q : Nat) (f : QdChan → QdChan) (p' : Nat) : (s.modQd q f).facet p' = s.facet p' := rfl
@[simp] theorem modQd_set (s : State) (q : Nat) (f : QdChan → QdChan) (k' : Nat) : (s.modQd q f).set k' = s.set k' := rfl
@[simp] theorem modQd_chan (s : State) (q : Nat) (f : QdChan → QdChan) (k' : Nat) : (s.modQd q f).chan k' = s.chan k' := rfl
@[simp] theorem modQd_door (s : State) (q : Nat) (f : QdChan → QdChan) (d' : Nat) : (s.modQd q f).door d' = s.door d' := rfl
@[simp] theorem modQd_port (s : State) (q : Nat) (f : QdChan → QdChan) (p' : Nat) : (s.modQd q f).port p' = s.port p' := rfl
@[simp] theorem modQd_eng (s : State) (q : Nat) (f : QdChan → QdChan) (n' : Nat) : (s.modQd q f).eng n' = s.eng n' := rfl
@[simp] theorem modQd_dlNode (s : State) (q : Nat) (f : QdChan → QdChan) (n' : Nat) : (s.modQd q f).dlNode n' = s.dlNode n' := rfl
@[simp] theorem modQd_dout (s : State) (q : Nat) (f : QdChan → QdChan) (n' : Nat) : (s.modQd q f).dout n' = s.dout n' := rfl
@[simp] theorem modQd_nbr (s : State) (q : Nat) (f : QdChan → QdChan) (n' : Nat) : (s.modQd q f).nbr n' = s.nbr n' := rfl
@[simp] theorem modQd_clock (s : State) (q : Nat) (f : QdChan → QdChan) (n' : Nat) : (s.modQd q f).clock n' = s.clock n' := rfl
@[simp] theorem modQd_ri (s : State) (q : Nat) (f : QdChan → QdChan) (g : Field) : (s.modQd q f).ri g = s.ri g := rfl

@[simp] theorem modEmu_pending (s : State) (i : Nat) (f : EmuState → EmuState) : (s.modEmu i f).pending = s.pending := rfl
@[simp] theorem modEmu_regs (s : State) (i : Nat) (f : EmuState → EmuState) : (s.modEmu i f).regs = s.regs := rfl
@[simp] theorem modEmu_optime (s : State) (i : Nat) (f : EmuState → EmuState) : (s.modEmu i f).optime = s.optime := rfl
@[simp] theorem modEmu_pcc (s : State) (i : Nat) (f : EmuState → EmuState) : (s.modEmu i f).pcc = s.pcc := rfl
@[simp] theorem modEmu_free (s : State) (i : Nat) (f : EmuState → EmuState) : (s.modEmu i f).free = s.free := rfl
@[simp] theorem modEmu_raised (s : State) (i : Nat) (f : EmuState → EmuState) : (s.modEmu i f).raised = s.raised := rfl
@[simp] theorem modEmu_ev (s : State) (i : Nat) (f : EmuState → EmuState) : (s.modEmu i f).ev = s.ev := rfl
@[simp] theorem modEmu_log (s : State) (i : Nat) (f : EmuState → EmuState) : (s.modEmu i f).log = s.log := rfl
@[simp] theorem modEmu_wall (s : State) (i : Nat) (f : EmuState → EmuState) : (s.modEmu i f).wall = s.wall := rfl
@[simp] theorem modEmu_host (s : State) (i : Nat) (f : EmuState → EmuState) : (s.modEmu i f).host = s.host := rfl
@[simp] theorem modEmu_pathHost (s : State) (i : Nat) (f : EmuState → EmuState) : (s.modEmu i f).pathHost = s.pathHost := rfl
@[simp] theorem modEmu_pathMgmt (s : State) (i : Nat) (f : EmuState → EmuState) : (s.modEmu i f).pathMgmt = s.pathMgmt := rfl
@[simp] theorem modEmu_keep (s : State) (i : Nat) (f : EmuState → EmuState) : (s.modEmu i f).keep = s.keep := rfl
@[simp] theorem modEmu_deep (s : State) (i : Nat) (f : EmuState → EmuState) : (s.modEmu i f).deep = s.deep := rfl
@[simp] theorem modEmu_near (s : State) (i : Nat) (f : EmuState → EmuState) : (s.modEmu i f).near = s.near := rfl
@[simp] theorem modEmu_table (s : State) (i : Nat) (f : EmuState → EmuState) : (s.modEmu i f).table = s.table := rfl
@[simp] theorem modEmu_img (s : State) (i : Nat) (f : EmuState → EmuState) : (s.modEmu i f).img = s.img := rfl
@[simp] theorem modEmu_dsp (s : State) (i : Nat) (f : EmuState → EmuState) : (s.modEmu i f).dsp = s.dsp := rfl
@[simp] theorem modEmu_ret (s : State) (i : Nat) (f : EmuState → EmuState) : (s.modEmu i f).ret = s.ret := rfl
@[simp] theorem modEmu_trip (s : State) (i : Nat) (f : EmuState → EmuState) : (s.modEmu i f).trip = s.trip := rfl
@[simp] theorem modEmu_loop (s : State) (i : Nat) (f : EmuState → EmuState) : (s.modEmu i f).loop = s.loop := rfl
@[simp] theorem modEmu_saf (s : State) (i : Nat) (f : EmuState → EmuState) : (s.modEmu i f).saf = s.saf := rfl
@[simp] theorem modEmu_fio (s : State) (i : Nat) (f : EmuState → EmuState) : (s.modEmu i f).fio = s.fio := rfl
@[simp] theorem modEmu_net (s : State) (i : Nat) (f : EmuState → EmuState) : (s.modEmu i f).net = s.net := rfl
@[simp] theorem modEmu_mir (s : State) (i : Nat) (f : EmuState → EmuState) : (s.modEmu i f).mir = s.mir := rfl
@[simp] theorem modEmu_rcd (s : State) (i : Nat) (f : EmuState → EmuState) : (s.modEmu i f).rcd = s.rcd := rfl
@[simp] theorem modEmu_mem (s : State) (i : Nat) (f : EmuState → EmuState) : (s.modEmu i f).mem = s.mem := rfl
@[simp] theorem modEmu_pwr (s : State) (i : Nat) (f : EmuState → EmuState) : (s.modEmu i f).pwr = s.pwr := rfl
@[simp] theorem modEmu_sec (s : State) (i : Nat) (f : EmuState → EmuState) : (s.modEmu i f).sec = s.sec := rfl
@[simp] theorem modEmu_r (s : State) (i : Nat) (f : EmuState → EmuState) (g : Field) : (s.modEmu i f).r g = s.r g := rfl
@[simp] theorem modEmu_lane (s : State) (i : Nat) (f : EmuState → EmuState) (l' : Nat) : (s.modEmu i f).lane l' = s.lane l' := rfl
@[simp] theorem modEmu_facet (s : State) (i : Nat) (f : EmuState → EmuState) (p' : Nat) : (s.modEmu i f).facet p' = s.facet p' := rfl
@[simp] theorem modEmu_set (s : State) (i : Nat) (f : EmuState → EmuState) (k' : Nat) : (s.modEmu i f).set k' = s.set k' := rfl
@[simp] theorem modEmu_chan (s : State) (i : Nat) (f : EmuState → EmuState) (k' : Nat) : (s.modEmu i f).chan k' = s.chan k' := rfl
@[simp] theorem modEmu_door (s : State) (i : Nat) (f : EmuState → EmuState) (d' : Nat) : (s.modEmu i f).door d' = s.door d' := rfl
@[simp] theorem modEmu_port (s : State) (i : Nat) (f : EmuState → EmuState) (p' : Nat) : (s.modEmu i f).port p' = s.port p' := rfl
@[simp] theorem modEmu_eng (s : State) (i : Nat) (f : EmuState → EmuState) (n' : Nat) : (s.modEmu i f).eng n' = s.eng n' := rfl
@[simp] theorem modEmu_dlNode (s : State) (i : Nat) (f : EmuState → EmuState) (n' : Nat) : (s.modEmu i f).dlNode n' = s.dlNode n' := rfl
@[simp] theorem modEmu_dout (s : State) (i : Nat) (f : EmuState → EmuState) (n' : Nat) : (s.modEmu i f).dout n' = s.dout n' := rfl
@[simp] theorem modEmu_nbr (s : State) (i : Nat) (f : EmuState → EmuState) (n' : Nat) : (s.modEmu i f).nbr n' = s.nbr n' := rfl
@[simp] theorem modEmu_clock (s : State) (i : Nat) (f : EmuState → EmuState) (n' : Nat) : (s.modEmu i f).clock n' = s.clock n' := rfl
@[simp] theorem modEmu_ri (s : State) (i : Nat) (f : EmuState → EmuState) (g : Field) : (s.modEmu i f).ri g = s.ri g := rfl

@[simp] theorem modSsi_pending (s : State) (c : Nat) (f : SsiChan → SsiChan) : (s.modSsi c f).pending = s.pending := rfl
@[simp] theorem modSsi_regs (s : State) (c : Nat) (f : SsiChan → SsiChan) : (s.modSsi c f).regs = s.regs := rfl
@[simp] theorem modSsi_optime (s : State) (c : Nat) (f : SsiChan → SsiChan) : (s.modSsi c f).optime = s.optime := rfl
@[simp] theorem modSsi_pcc (s : State) (c : Nat) (f : SsiChan → SsiChan) : (s.modSsi c f).pcc = s.pcc := rfl
@[simp] theorem modSsi_free (s : State) (c : Nat) (f : SsiChan → SsiChan) : (s.modSsi c f).free = s.free := rfl
@[simp] theorem modSsi_raised (s : State) (c : Nat) (f : SsiChan → SsiChan) : (s.modSsi c f).raised = s.raised := rfl
@[simp] theorem modSsi_ev (s : State) (c : Nat) (f : SsiChan → SsiChan) : (s.modSsi c f).ev = s.ev := rfl
@[simp] theorem modSsi_log (s : State) (c : Nat) (f : SsiChan → SsiChan) : (s.modSsi c f).log = s.log := rfl
@[simp] theorem modSsi_wall (s : State) (c : Nat) (f : SsiChan → SsiChan) : (s.modSsi c f).wall = s.wall := rfl
@[simp] theorem modSsi_host (s : State) (c : Nat) (f : SsiChan → SsiChan) : (s.modSsi c f).host = s.host := rfl
@[simp] theorem modSsi_pathHost (s : State) (c : Nat) (f : SsiChan → SsiChan) : (s.modSsi c f).pathHost = s.pathHost := rfl
@[simp] theorem modSsi_pathMgmt (s : State) (c : Nat) (f : SsiChan → SsiChan) : (s.modSsi c f).pathMgmt = s.pathMgmt := rfl
@[simp] theorem modSsi_keep (s : State) (c : Nat) (f : SsiChan → SsiChan) : (s.modSsi c f).keep = s.keep := rfl
@[simp] theorem modSsi_deep (s : State) (c : Nat) (f : SsiChan → SsiChan) : (s.modSsi c f).deep = s.deep := rfl
@[simp] theorem modSsi_near (s : State) (c : Nat) (f : SsiChan → SsiChan) : (s.modSsi c f).near = s.near := rfl
@[simp] theorem modSsi_table (s : State) (c : Nat) (f : SsiChan → SsiChan) : (s.modSsi c f).table = s.table := rfl
@[simp] theorem modSsi_img (s : State) (c : Nat) (f : SsiChan → SsiChan) : (s.modSsi c f).img = s.img := rfl
@[simp] theorem modSsi_dsp (s : State) (c : Nat) (f : SsiChan → SsiChan) : (s.modSsi c f).dsp = s.dsp := rfl
@[simp] theorem modSsi_ret (s : State) (c : Nat) (f : SsiChan → SsiChan) : (s.modSsi c f).ret = s.ret := rfl
@[simp] theorem modSsi_trip (s : State) (c : Nat) (f : SsiChan → SsiChan) : (s.modSsi c f).trip = s.trip := rfl
@[simp] theorem modSsi_loop (s : State) (c : Nat) (f : SsiChan → SsiChan) : (s.modSsi c f).loop = s.loop := rfl
@[simp] theorem modSsi_saf (s : State) (c : Nat) (f : SsiChan → SsiChan) : (s.modSsi c f).saf = s.saf := rfl
@[simp] theorem modSsi_fio (s : State) (c : Nat) (f : SsiChan → SsiChan) : (s.modSsi c f).fio = s.fio := rfl
@[simp] theorem modSsi_net (s : State) (c : Nat) (f : SsiChan → SsiChan) : (s.modSsi c f).net = s.net := rfl
@[simp] theorem modSsi_mir (s : State) (c : Nat) (f : SsiChan → SsiChan) : (s.modSsi c f).mir = s.mir := rfl
@[simp] theorem modSsi_rcd (s : State) (c : Nat) (f : SsiChan → SsiChan) : (s.modSsi c f).rcd = s.rcd := rfl
@[simp] theorem modSsi_mem (s : State) (c : Nat) (f : SsiChan → SsiChan) : (s.modSsi c f).mem = s.mem := rfl
@[simp] theorem modSsi_pwr (s : State) (c : Nat) (f : SsiChan → SsiChan) : (s.modSsi c f).pwr = s.pwr := rfl
@[simp] theorem modSsi_sec (s : State) (c : Nat) (f : SsiChan → SsiChan) : (s.modSsi c f).sec = s.sec := rfl
@[simp] theorem modSsi_r (s : State) (c : Nat) (f : SsiChan → SsiChan) (g : Field) : (s.modSsi c f).r g = s.r g := rfl
@[simp] theorem modSsi_lane (s : State) (c : Nat) (f : SsiChan → SsiChan) (l' : Nat) : (s.modSsi c f).lane l' = s.lane l' := rfl
@[simp] theorem modSsi_facet (s : State) (c : Nat) (f : SsiChan → SsiChan) (p' : Nat) : (s.modSsi c f).facet p' = s.facet p' := rfl
@[simp] theorem modSsi_set (s : State) (c : Nat) (f : SsiChan → SsiChan) (k' : Nat) : (s.modSsi c f).set k' = s.set k' := rfl
@[simp] theorem modSsi_chan (s : State) (c : Nat) (f : SsiChan → SsiChan) (k' : Nat) : (s.modSsi c f).chan k' = s.chan k' := rfl
@[simp] theorem modSsi_door (s : State) (c : Nat) (f : SsiChan → SsiChan) (d' : Nat) : (s.modSsi c f).door d' = s.door d' := rfl
@[simp] theorem modSsi_port (s : State) (c : Nat) (f : SsiChan → SsiChan) (p' : Nat) : (s.modSsi c f).port p' = s.port p' := rfl
@[simp] theorem modSsi_eng (s : State) (c : Nat) (f : SsiChan → SsiChan) (n' : Nat) : (s.modSsi c f).eng n' = s.eng n' := rfl
@[simp] theorem modSsi_dlNode (s : State) (c : Nat) (f : SsiChan → SsiChan) (n' : Nat) : (s.modSsi c f).dlNode n' = s.dlNode n' := rfl
@[simp] theorem modSsi_dout (s : State) (c : Nat) (f : SsiChan → SsiChan) (n' : Nat) : (s.modSsi c f).dout n' = s.dout n' := rfl
@[simp] theorem modSsi_nbr (s : State) (c : Nat) (f : SsiChan → SsiChan) (n' : Nat) : (s.modSsi c f).nbr n' = s.nbr n' := rfl
@[simp] theorem modSsi_clock (s : State) (c : Nat) (f : SsiChan → SsiChan) (n' : Nat) : (s.modSsi c f).clock n' = s.clock n' := rfl
@[simp] theorem modSsi_ri (s : State) (c : Nat) (f : SsiChan → SsiChan) (g : Field) : (s.modSsi c f).ri g = s.ri g := rfl

@[simp] theorem modEng_pending (s : State) (n : Nat) (f : Engine → Engine) : (s.modEng n f).pending = s.pending := rfl
@[simp] theorem modEng_regs (s : State) (n : Nat) (f : Engine → Engine) : (s.modEng n f).regs = s.regs := rfl
@[simp] theorem modEng_optime (s : State) (n : Nat) (f : Engine → Engine) : (s.modEng n f).optime = s.optime := rfl
@[simp] theorem modEng_pcc (s : State) (n : Nat) (f : Engine → Engine) : (s.modEng n f).pcc = s.pcc := rfl
@[simp] theorem modEng_free (s : State) (n : Nat) (f : Engine → Engine) : (s.modEng n f).free = s.free := rfl
@[simp] theorem modEng_raised (s : State) (n : Nat) (f : Engine → Engine) : (s.modEng n f).raised = s.raised := rfl
@[simp] theorem modEng_ev (s : State) (n : Nat) (f : Engine → Engine) : (s.modEng n f).ev = s.ev := rfl
@[simp] theorem modEng_log (s : State) (n : Nat) (f : Engine → Engine) : (s.modEng n f).log = s.log := rfl
@[simp] theorem modEng_wall (s : State) (n : Nat) (f : Engine → Engine) : (s.modEng n f).wall = s.wall := rfl
@[simp] theorem modEng_host (s : State) (n : Nat) (f : Engine → Engine) : (s.modEng n f).host = s.host := rfl
@[simp] theorem modEng_pathHost (s : State) (n : Nat) (f : Engine → Engine) : (s.modEng n f).pathHost = s.pathHost := rfl
@[simp] theorem modEng_pathMgmt (s : State) (n : Nat) (f : Engine → Engine) : (s.modEng n f).pathMgmt = s.pathMgmt := rfl
@[simp] theorem modEng_keep (s : State) (n : Nat) (f : Engine → Engine) : (s.modEng n f).keep = s.keep := rfl
@[simp] theorem modEng_deep (s : State) (n : Nat) (f : Engine → Engine) : (s.modEng n f).deep = s.deep := rfl
@[simp] theorem modEng_near (s : State) (n : Nat) (f : Engine → Engine) : (s.modEng n f).near = s.near := rfl
@[simp] theorem modEng_table (s : State) (n : Nat) (f : Engine → Engine) : (s.modEng n f).table = s.table := rfl
@[simp] theorem modEng_img (s : State) (n : Nat) (f : Engine → Engine) : (s.modEng n f).img = s.img := rfl
@[simp] theorem modEng_dsp (s : State) (n : Nat) (f : Engine → Engine) : (s.modEng n f).dsp = s.dsp := rfl
@[simp] theorem modEng_pos (s : State) (n : Nat) (f : Engine → Engine) : (s.modEng n f).pos = s.pos := rfl
@[simp] theorem modEng_ret (s : State) (n : Nat) (f : Engine → Engine) : (s.modEng n f).ret = s.ret := rfl
@[simp] theorem modEng_trip (s : State) (n : Nat) (f : Engine → Engine) : (s.modEng n f).trip = s.trip := rfl
@[simp] theorem modEng_saf (s : State) (n : Nat) (f : Engine → Engine) : (s.modEng n f).saf = s.saf := rfl
@[simp] theorem modEng_fio (s : State) (n : Nat) (f : Engine → Engine) : (s.modEng n f).fio = s.fio := rfl
@[simp] theorem modEng_net (s : State) (n : Nat) (f : Engine → Engine) : (s.modEng n f).net = s.net := rfl
@[simp] theorem modEng_mir (s : State) (n : Nat) (f : Engine → Engine) : (s.modEng n f).mir = s.mir := rfl
@[simp] theorem modEng_rcd (s : State) (n : Nat) (f : Engine → Engine) : (s.modEng n f).rcd = s.rcd := rfl
@[simp] theorem modEng_mem (s : State) (n : Nat) (f : Engine → Engine) : (s.modEng n f).mem = s.mem := rfl
@[simp] theorem modEng_pwr (s : State) (n : Nat) (f : Engine → Engine) : (s.modEng n f).pwr = s.pwr := rfl
@[simp] theorem modEng_sec (s : State) (n : Nat) (f : Engine → Engine) : (s.modEng n f).sec = s.sec := rfl
@[simp] theorem modEng_r (s : State) (n : Nat) (f : Engine → Engine) (g : Field) : (s.modEng n f).r g = s.r g := rfl
@[simp] theorem modEng_lane (s : State) (n : Nat) (f : Engine → Engine) (l' : Nat) : (s.modEng n f).lane l' = s.lane l' := rfl
@[simp] theorem modEng_facet (s : State) (n : Nat) (f : Engine → Engine) (p' : Nat) : (s.modEng n f).facet p' = s.facet p' := rfl
@[simp] theorem modEng_set (s : State) (n : Nat) (f : Engine → Engine) (k' : Nat) : (s.modEng n f).set k' = s.set k' := rfl
@[simp] theorem modEng_chan (s : State) (n : Nat) (f : Engine → Engine) (k' : Nat) : (s.modEng n f).chan k' = s.chan k' := rfl
@[simp] theorem modEng_port (s : State) (n : Nat) (f : Engine → Engine) (p' : Nat) : (s.modEng n f).port p' = s.port p' := rfl
@[simp] theorem modEng_scChan (s : State) (n : Nat) (f : Engine → Engine) (c' : Nat) : (s.modEng n f).scChan c' = s.scChan c' := rfl
@[simp] theorem modEng_qdChan (s : State) (n : Nat) (f : Engine → Engine) (c' : Nat) : (s.modEng n f).qdChan c' = s.qdChan c' := rfl
@[simp] theorem modEng_ssiChan (s : State) (n : Nat) (f : Engine → Engine) (c' : Nat) : (s.modEng n f).ssiChan c' = s.ssiChan c' := rfl
@[simp] theorem modEng_dout (s : State) (n : Nat) (f : Engine → Engine) (n' : Nat) : (s.modEng n f).dout n' = s.dout n' := rfl
@[simp] theorem modEng_nbr (s : State) (n : Nat) (f : Engine → Engine) (n' : Nat) : (s.modEng n f).nbr n' = s.nbr n' := rfl
@[simp] theorem modEng_clock (s : State) (n : Nat) (f : Engine → Engine) (n' : Nat) : (s.modEng n f).clock n' = s.clock n' := rfl
@[simp] theorem modEng_ri (s : State) (n : Nat) (f : Engine → Engine) (g : Field) : (s.modEng n f).ri g = s.ri g := rfl

@[simp] theorem modDl_pending (s : State) (n : Nat) (f : DlNode → DlNode) : (s.modDl n f).pending = s.pending := rfl
@[simp] theorem modDl_regs (s : State) (n : Nat) (f : DlNode → DlNode) : (s.modDl n f).regs = s.regs := rfl
@[simp] theorem modDl_optime (s : State) (n : Nat) (f : DlNode → DlNode) : (s.modDl n f).optime = s.optime := rfl
@[simp] theorem modDl_pcc (s : State) (n : Nat) (f : DlNode → DlNode) : (s.modDl n f).pcc = s.pcc := rfl
@[simp] theorem modDl_free (s : State) (n : Nat) (f : DlNode → DlNode) : (s.modDl n f).free = s.free := rfl
@[simp] theorem modDl_raised (s : State) (n : Nat) (f : DlNode → DlNode) : (s.modDl n f).raised = s.raised := rfl
@[simp] theorem modDl_ev (s : State) (n : Nat) (f : DlNode → DlNode) : (s.modDl n f).ev = s.ev := rfl
@[simp] theorem modDl_log (s : State) (n : Nat) (f : DlNode → DlNode) : (s.modDl n f).log = s.log := rfl
@[simp] theorem modDl_wall (s : State) (n : Nat) (f : DlNode → DlNode) : (s.modDl n f).wall = s.wall := rfl
@[simp] theorem modDl_host (s : State) (n : Nat) (f : DlNode → DlNode) : (s.modDl n f).host = s.host := rfl
@[simp] theorem modDl_pathHost (s : State) (n : Nat) (f : DlNode → DlNode) : (s.modDl n f).pathHost = s.pathHost := rfl
@[simp] theorem modDl_pathMgmt (s : State) (n : Nat) (f : DlNode → DlNode) : (s.modDl n f).pathMgmt = s.pathMgmt := rfl
@[simp] theorem modDl_keep (s : State) (n : Nat) (f : DlNode → DlNode) : (s.modDl n f).keep = s.keep := rfl
@[simp] theorem modDl_deep (s : State) (n : Nat) (f : DlNode → DlNode) : (s.modDl n f).deep = s.deep := rfl
@[simp] theorem modDl_near (s : State) (n : Nat) (f : DlNode → DlNode) : (s.modDl n f).near = s.near := rfl
@[simp] theorem modDl_table (s : State) (n : Nat) (f : DlNode → DlNode) : (s.modDl n f).table = s.table := rfl
@[simp] theorem modDl_img (s : State) (n : Nat) (f : DlNode → DlNode) : (s.modDl n f).img = s.img := rfl
@[simp] theorem modDl_dsp (s : State) (n : Nat) (f : DlNode → DlNode) : (s.modDl n f).dsp = s.dsp := rfl
@[simp] theorem modDl_pos (s : State) (n : Nat) (f : DlNode → DlNode) : (s.modDl n f).pos = s.pos := rfl
@[simp] theorem modDl_ret (s : State) (n : Nat) (f : DlNode → DlNode) : (s.modDl n f).ret = s.ret := rfl
@[simp] theorem modDl_trip (s : State) (n : Nat) (f : DlNode → DlNode) : (s.modDl n f).trip = s.trip := rfl
@[simp] theorem modDl_saf (s : State) (n : Nat) (f : DlNode → DlNode) : (s.modDl n f).saf = s.saf := rfl
@[simp] theorem modDl_fio (s : State) (n : Nat) (f : DlNode → DlNode) : (s.modDl n f).fio = s.fio := rfl
@[simp] theorem modDl_net (s : State) (n : Nat) (f : DlNode → DlNode) : (s.modDl n f).net = s.net := rfl
@[simp] theorem modDl_mir (s : State) (n : Nat) (f : DlNode → DlNode) : (s.modDl n f).mir = s.mir := rfl
@[simp] theorem modDl_rcd (s : State) (n : Nat) (f : DlNode → DlNode) : (s.modDl n f).rcd = s.rcd := rfl
@[simp] theorem modDl_mem (s : State) (n : Nat) (f : DlNode → DlNode) : (s.modDl n f).mem = s.mem := rfl
@[simp] theorem modDl_pwr (s : State) (n : Nat) (f : DlNode → DlNode) : (s.modDl n f).pwr = s.pwr := rfl
@[simp] theorem modDl_sec (s : State) (n : Nat) (f : DlNode → DlNode) : (s.modDl n f).sec = s.sec := rfl
@[simp] theorem modDl_r (s : State) (n : Nat) (f : DlNode → DlNode) (g : Field) : (s.modDl n f).r g = s.r g := rfl
@[simp] theorem modDl_lane (s : State) (n : Nat) (f : DlNode → DlNode) (l' : Nat) : (s.modDl n f).lane l' = s.lane l' := rfl
@[simp] theorem modDl_facet (s : State) (n : Nat) (f : DlNode → DlNode) (p' : Nat) : (s.modDl n f).facet p' = s.facet p' := rfl
@[simp] theorem modDl_set (s : State) (n : Nat) (f : DlNode → DlNode) (k' : Nat) : (s.modDl n f).set k' = s.set k' := rfl
@[simp] theorem modDl_chan (s : State) (n : Nat) (f : DlNode → DlNode) (k' : Nat) : (s.modDl n f).chan k' = s.chan k' := rfl
@[simp] theorem modDl_port (s : State) (n : Nat) (f : DlNode → DlNode) (p' : Nat) : (s.modDl n f).port p' = s.port p' := rfl
@[simp] theorem modDl_scChan (s : State) (n : Nat) (f : DlNode → DlNode) (c' : Nat) : (s.modDl n f).scChan c' = s.scChan c' := rfl
@[simp] theorem modDl_qdChan (s : State) (n : Nat) (f : DlNode → DlNode) (c' : Nat) : (s.modDl n f).qdChan c' = s.qdChan c' := rfl
@[simp] theorem modDl_ssiChan (s : State) (n : Nat) (f : DlNode → DlNode) (c' : Nat) : (s.modDl n f).ssiChan c' = s.ssiChan c' := rfl
@[simp] theorem modDl_dout (s : State) (n : Nat) (f : DlNode → DlNode) (n' : Nat) : (s.modDl n f).dout n' = s.dout n' := rfl
@[simp] theorem modDl_nbr (s : State) (n : Nat) (f : DlNode → DlNode) (n' : Nat) : (s.modDl n f).nbr n' = s.nbr n' := rfl
@[simp] theorem modDl_clock (s : State) (n : Nat) (f : DlNode → DlNode) (n' : Nat) : (s.modDl n f).clock n' = s.clock n' := rfl
@[simp] theorem modDl_ri (s : State) (n : Nat) (f : DlNode → DlNode) (g : Field) : (s.modDl n f).ri g = s.ri g := rfl

@[simp] theorem modDeck_pending (s : State) (f : DeckState → DeckState) : (s.modDeck f).pending = s.pending := rfl
@[simp] theorem modDeck_regs (s : State) (f : DeckState → DeckState) : (s.modDeck f).regs = s.regs := rfl
@[simp] theorem modDeck_optime (s : State) (f : DeckState → DeckState) : (s.modDeck f).optime = s.optime := rfl
@[simp] theorem modDeck_pcc (s : State) (f : DeckState → DeckState) : (s.modDeck f).pcc = s.pcc := rfl
@[simp] theorem modDeck_free (s : State) (f : DeckState → DeckState) : (s.modDeck f).free = s.free := rfl
@[simp] theorem modDeck_raised (s : State) (f : DeckState → DeckState) : (s.modDeck f).raised = s.raised := rfl
@[simp] theorem modDeck_ev (s : State) (f : DeckState → DeckState) : (s.modDeck f).ev = s.ev := rfl
@[simp] theorem modDeck_log (s : State) (f : DeckState → DeckState) : (s.modDeck f).log = s.log := rfl
@[simp] theorem modDeck_wall (s : State) (f : DeckState → DeckState) : (s.modDeck f).wall = s.wall := rfl
@[simp] theorem modDeck_host (s : State) (f : DeckState → DeckState) : (s.modDeck f).host = s.host := rfl
@[simp] theorem modDeck_pathHost (s : State) (f : DeckState → DeckState) : (s.modDeck f).pathHost = s.pathHost := rfl
@[simp] theorem modDeck_pathMgmt (s : State) (f : DeckState → DeckState) : (s.modDeck f).pathMgmt = s.pathMgmt := rfl
@[simp] theorem modDeck_keep (s : State) (f : DeckState → DeckState) : (s.modDeck f).keep = s.keep := rfl
@[simp] theorem modDeck_deep (s : State) (f : DeckState → DeckState) : (s.modDeck f).deep = s.deep := rfl
@[simp] theorem modDeck_near (s : State) (f : DeckState → DeckState) : (s.modDeck f).near = s.near := rfl
@[simp] theorem modDeck_table (s : State) (f : DeckState → DeckState) : (s.modDeck f).table = s.table := rfl
@[simp] theorem modDeck_img (s : State) (f : DeckState → DeckState) : (s.modDeck f).img = s.img := rfl
@[simp] theorem modDeck_dsp (s : State) (f : DeckState → DeckState) : (s.modDeck f).dsp = s.dsp := rfl
@[simp] theorem modDeck_pos (s : State) (f : DeckState → DeckState) : (s.modDeck f).pos = s.pos := rfl
@[simp] theorem modDeck_ret (s : State) (f : DeckState → DeckState) : (s.modDeck f).ret = s.ret := rfl
@[simp] theorem modDeck_trip (s : State) (f : DeckState → DeckState) : (s.modDeck f).trip = s.trip := rfl
@[simp] theorem modDeck_saf (s : State) (f : DeckState → DeckState) : (s.modDeck f).saf = s.saf := rfl
@[simp] theorem modDeck_fio (s : State) (f : DeckState → DeckState) : (s.modDeck f).fio = s.fio := rfl
@[simp] theorem modDeck_net (s : State) (f : DeckState → DeckState) : (s.modDeck f).net = s.net := rfl
@[simp] theorem modDeck_mir (s : State) (f : DeckState → DeckState) : (s.modDeck f).mir = s.mir := rfl
@[simp] theorem modDeck_rcd (s : State) (f : DeckState → DeckState) : (s.modDeck f).rcd = s.rcd := rfl
@[simp] theorem modDeck_mem (s : State) (f : DeckState → DeckState) : (s.modDeck f).mem = s.mem := rfl
@[simp] theorem modDeck_pwr (s : State) (f : DeckState → DeckState) : (s.modDeck f).pwr = s.pwr := rfl
@[simp] theorem modDeck_sec (s : State) (f : DeckState → DeckState) : (s.modDeck f).sec = s.sec := rfl
@[simp] theorem modDeck_r (s : State) (f : DeckState → DeckState) (g : Field) : (s.modDeck f).r g = s.r g := rfl
@[simp] theorem modDeck_lane (s : State) (f : DeckState → DeckState) (l' : Nat) : (s.modDeck f).lane l' = s.lane l' := rfl
@[simp] theorem modDeck_facet (s : State) (f : DeckState → DeckState) (p' : Nat) : (s.modDeck f).facet p' = s.facet p' := rfl
@[simp] theorem modDeck_set (s : State) (f : DeckState → DeckState) (k' : Nat) : (s.modDeck f).set k' = s.set k' := rfl
@[simp] theorem modDeck_chan (s : State) (f : DeckState → DeckState) (k' : Nat) : (s.modDeck f).chan k' = s.chan k' := rfl
@[simp] theorem modDeck_port (s : State) (f : DeckState → DeckState) (p' : Nat) : (s.modDeck f).port p' = s.port p' := rfl
@[simp] theorem modDeck_scChan (s : State) (f : DeckState → DeckState) (c' : Nat) : (s.modDeck f).scChan c' = s.scChan c' := rfl
@[simp] theorem modDeck_qdChan (s : State) (f : DeckState → DeckState) (c' : Nat) : (s.modDeck f).qdChan c' = s.qdChan c' := rfl
@[simp] theorem modDeck_ssiChan (s : State) (f : DeckState → DeckState) (c' : Nat) : (s.modDeck f).ssiChan c' = s.ssiChan c' := rfl
@[simp] theorem modDeck_dout (s : State) (f : DeckState → DeckState) (n' : Nat) : (s.modDeck f).dout n' = s.dout n' := rfl
@[simp] theorem modDeck_nbr (s : State) (f : DeckState → DeckState) (n' : Nat) : (s.modDeck f).nbr n' = s.nbr n' := rfl
@[simp] theorem modDeck_clock (s : State) (f : DeckState → DeckState) (n' : Nat) : (s.modDeck f).clock n' = s.clock n' := rfl
@[simp] theorem modDeck_ri (s : State) (f : DeckState → DeckState) (g : Field) : (s.modDeck f).ri g = s.ri g := rfl

@[simp] theorem modDo_pending (s : State) (i : Nat) (f : DoState → DoState) : (s.modDo i f).pending = s.pending := rfl
@[simp] theorem modDo_regs (s : State) (i : Nat) (f : DoState → DoState) : (s.modDo i f).regs = s.regs := rfl
@[simp] theorem modDo_optime (s : State) (i : Nat) (f : DoState → DoState) : (s.modDo i f).optime = s.optime := rfl
@[simp] theorem modDo_pcc (s : State) (i : Nat) (f : DoState → DoState) : (s.modDo i f).pcc = s.pcc := rfl
@[simp] theorem modDo_free (s : State) (i : Nat) (f : DoState → DoState) : (s.modDo i f).free = s.free := rfl
@[simp] theorem modDo_raised (s : State) (i : Nat) (f : DoState → DoState) : (s.modDo i f).raised = s.raised := rfl
@[simp] theorem modDo_ev (s : State) (i : Nat) (f : DoState → DoState) : (s.modDo i f).ev = s.ev := rfl
@[simp] theorem modDo_log (s : State) (i : Nat) (f : DoState → DoState) : (s.modDo i f).log = s.log := rfl
@[simp] theorem modDo_wall (s : State) (i : Nat) (f : DoState → DoState) : (s.modDo i f).wall = s.wall := rfl
@[simp] theorem modDo_host (s : State) (i : Nat) (f : DoState → DoState) : (s.modDo i f).host = s.host := rfl
@[simp] theorem modDo_pathHost (s : State) (i : Nat) (f : DoState → DoState) : (s.modDo i f).pathHost = s.pathHost := rfl
@[simp] theorem modDo_pathMgmt (s : State) (i : Nat) (f : DoState → DoState) : (s.modDo i f).pathMgmt = s.pathMgmt := rfl
@[simp] theorem modDo_keep (s : State) (i : Nat) (f : DoState → DoState) : (s.modDo i f).keep = s.keep := rfl
@[simp] theorem modDo_deep (s : State) (i : Nat) (f : DoState → DoState) : (s.modDo i f).deep = s.deep := rfl
@[simp] theorem modDo_near (s : State) (i : Nat) (f : DoState → DoState) : (s.modDo i f).near = s.near := rfl
@[simp] theorem modDo_table (s : State) (i : Nat) (f : DoState → DoState) : (s.modDo i f).table = s.table := rfl
@[simp] theorem modDo_img (s : State) (i : Nat) (f : DoState → DoState) : (s.modDo i f).img = s.img := rfl
@[simp] theorem modDo_dsp (s : State) (i : Nat) (f : DoState → DoState) : (s.modDo i f).dsp = s.dsp := rfl
@[simp] theorem modDo_pos (s : State) (i : Nat) (f : DoState → DoState) : (s.modDo i f).pos = s.pos := rfl
@[simp] theorem modDo_ret (s : State) (i : Nat) (f : DoState → DoState) : (s.modDo i f).ret = s.ret := rfl
@[simp] theorem modDo_trip (s : State) (i : Nat) (f : DoState → DoState) : (s.modDo i f).trip = s.trip := rfl
@[simp] theorem modDo_loop (s : State) (i : Nat) (f : DoState → DoState) : (s.modDo i f).loop = s.loop := rfl
@[simp] theorem modDo_saf (s : State) (i : Nat) (f : DoState → DoState) : (s.modDo i f).saf = s.saf := rfl
@[simp] theorem modDo_net (s : State) (i : Nat) (f : DoState → DoState) : (s.modDo i f).net = s.net := rfl
@[simp] theorem modDo_mir (s : State) (i : Nat) (f : DoState → DoState) : (s.modDo i f).mir = s.mir := rfl
@[simp] theorem modDo_rcd (s : State) (i : Nat) (f : DoState → DoState) : (s.modDo i f).rcd = s.rcd := rfl
@[simp] theorem modDo_mem (s : State) (i : Nat) (f : DoState → DoState) : (s.modDo i f).mem = s.mem := rfl
@[simp] theorem modDo_pwr (s : State) (i : Nat) (f : DoState → DoState) : (s.modDo i f).pwr = s.pwr := rfl
@[simp] theorem modDo_sec (s : State) (i : Nat) (f : DoState → DoState) : (s.modDo i f).sec = s.sec := rfl
@[simp] theorem modDo_r (s : State) (i : Nat) (f : DoState → DoState) (g : Field) : (s.modDo i f).r g = s.r g := rfl
@[simp] theorem modDo_lane (s : State) (i : Nat) (f : DoState → DoState) (l' : Nat) : (s.modDo i f).lane l' = s.lane l' := rfl
@[simp] theorem modDo_facet (s : State) (i : Nat) (f : DoState → DoState) (p' : Nat) : (s.modDo i f).facet p' = s.facet p' := rfl
@[simp] theorem modDo_set (s : State) (i : Nat) (f : DoState → DoState) (k' : Nat) : (s.modDo i f).set k' = s.set k' := rfl
@[simp] theorem modDo_chan (s : State) (i : Nat) (f : DoState → DoState) (k' : Nat) : (s.modDo i f).chan k' = s.chan k' := rfl
@[simp] theorem modDo_door (s : State) (i : Nat) (f : DoState → DoState) (d' : Nat) : (s.modDo i f).door d' = s.door d' := rfl
@[simp] theorem modDo_port (s : State) (i : Nat) (f : DoState → DoState) (p' : Nat) : (s.modDo i f).port p' = s.port p' := rfl
@[simp] theorem modDo_scChan (s : State) (i : Nat) (f : DoState → DoState) (c' : Nat) : (s.modDo i f).scChan c' = s.scChan c' := rfl
@[simp] theorem modDo_qdChan (s : State) (i : Nat) (f : DoState → DoState) (c' : Nat) : (s.modDo i f).qdChan c' = s.qdChan c' := rfl
@[simp] theorem modDo_ssiChan (s : State) (i : Nat) (f : DoState → DoState) (c' : Nat) : (s.modDo i f).ssiChan c' = s.ssiChan c' := rfl
@[simp] theorem modDo_eng (s : State) (i : Nat) (f : DoState → DoState) (n' : Nat) : (s.modDo i f).eng n' = s.eng n' := rfl
@[simp] theorem modDo_dlNode (s : State) (i : Nat) (f : DoState → DoState) (n' : Nat) : (s.modDo i f).dlNode n' = s.dlNode n' := rfl
@[simp] theorem modDo_nbr (s : State) (i : Nat) (f : DoState → DoState) (n' : Nat) : (s.modDo i f).nbr n' = s.nbr n' := rfl
@[simp] theorem modDo_clock (s : State) (i : Nat) (f : DoState → DoState) (n' : Nat) : (s.modDo i f).clock n' = s.clock n' := rfl
@[simp] theorem modDo_ri (s : State) (i : Nat) (f : DoState → DoState) (g : Field) : (s.modDo i f).ri g = s.ri g := rfl

@[simp] theorem modDi_pending (s : State) (i : Nat) (f : DiState → DiState) : (s.modDi i f).pending = s.pending := rfl
@[simp] theorem modDi_regs (s : State) (i : Nat) (f : DiState → DiState) : (s.modDi i f).regs = s.regs := rfl
@[simp] theorem modDi_optime (s : State) (i : Nat) (f : DiState → DiState) : (s.modDi i f).optime = s.optime := rfl
@[simp] theorem modDi_pcc (s : State) (i : Nat) (f : DiState → DiState) : (s.modDi i f).pcc = s.pcc := rfl
@[simp] theorem modDi_free (s : State) (i : Nat) (f : DiState → DiState) : (s.modDi i f).free = s.free := rfl
@[simp] theorem modDi_raised (s : State) (i : Nat) (f : DiState → DiState) : (s.modDi i f).raised = s.raised := rfl
@[simp] theorem modDi_ev (s : State) (i : Nat) (f : DiState → DiState) : (s.modDi i f).ev = s.ev := rfl
@[simp] theorem modDi_log (s : State) (i : Nat) (f : DiState → DiState) : (s.modDi i f).log = s.log := rfl
@[simp] theorem modDi_wall (s : State) (i : Nat) (f : DiState → DiState) : (s.modDi i f).wall = s.wall := rfl
@[simp] theorem modDi_host (s : State) (i : Nat) (f : DiState → DiState) : (s.modDi i f).host = s.host := rfl
@[simp] theorem modDi_pathHost (s : State) (i : Nat) (f : DiState → DiState) : (s.modDi i f).pathHost = s.pathHost := rfl
@[simp] theorem modDi_pathMgmt (s : State) (i : Nat) (f : DiState → DiState) : (s.modDi i f).pathMgmt = s.pathMgmt := rfl
@[simp] theorem modDi_keep (s : State) (i : Nat) (f : DiState → DiState) : (s.modDi i f).keep = s.keep := rfl
@[simp] theorem modDi_deep (s : State) (i : Nat) (f : DiState → DiState) : (s.modDi i f).deep = s.deep := rfl
@[simp] theorem modDi_near (s : State) (i : Nat) (f : DiState → DiState) : (s.modDi i f).near = s.near := rfl
@[simp] theorem modDi_table (s : State) (i : Nat) (f : DiState → DiState) : (s.modDi i f).table = s.table := rfl
@[simp] theorem modDi_img (s : State) (i : Nat) (f : DiState → DiState) : (s.modDi i f).img = s.img := rfl
@[simp] theorem modDi_dsp (s : State) (i : Nat) (f : DiState → DiState) : (s.modDi i f).dsp = s.dsp := rfl
@[simp] theorem modDi_pos (s : State) (i : Nat) (f : DiState → DiState) : (s.modDi i f).pos = s.pos := rfl
@[simp] theorem modDi_ret (s : State) (i : Nat) (f : DiState → DiState) : (s.modDi i f).ret = s.ret := rfl
@[simp] theorem modDi_trip (s : State) (i : Nat) (f : DiState → DiState) : (s.modDi i f).trip = s.trip := rfl
@[simp] theorem modDi_loop (s : State) (i : Nat) (f : DiState → DiState) : (s.modDi i f).loop = s.loop := rfl
@[simp] theorem modDi_saf (s : State) (i : Nat) (f : DiState → DiState) : (s.modDi i f).saf = s.saf := rfl
@[simp] theorem modDi_net (s : State) (i : Nat) (f : DiState → DiState) : (s.modDi i f).net = s.net := rfl
@[simp] theorem modDi_mir (s : State) (i : Nat) (f : DiState → DiState) : (s.modDi i f).mir = s.mir := rfl
@[simp] theorem modDi_rcd (s : State) (i : Nat) (f : DiState → DiState) : (s.modDi i f).rcd = s.rcd := rfl
@[simp] theorem modDi_mem (s : State) (i : Nat) (f : DiState → DiState) : (s.modDi i f).mem = s.mem := rfl
@[simp] theorem modDi_pwr (s : State) (i : Nat) (f : DiState → DiState) : (s.modDi i f).pwr = s.pwr := rfl
@[simp] theorem modDi_sec (s : State) (i : Nat) (f : DiState → DiState) : (s.modDi i f).sec = s.sec := rfl
@[simp] theorem modDi_r (s : State) (i : Nat) (f : DiState → DiState) (g : Field) : (s.modDi i f).r g = s.r g := rfl
@[simp] theorem modDi_lane (s : State) (i : Nat) (f : DiState → DiState) (l' : Nat) : (s.modDi i f).lane l' = s.lane l' := rfl
@[simp] theorem modDi_facet (s : State) (i : Nat) (f : DiState → DiState) (p' : Nat) : (s.modDi i f).facet p' = s.facet p' := rfl
@[simp] theorem modDi_set (s : State) (i : Nat) (f : DiState → DiState) (k' : Nat) : (s.modDi i f).set k' = s.set k' := rfl
@[simp] theorem modDi_chan (s : State) (i : Nat) (f : DiState → DiState) (k' : Nat) : (s.modDi i f).chan k' = s.chan k' := rfl
@[simp] theorem modDi_door (s : State) (i : Nat) (f : DiState → DiState) (d' : Nat) : (s.modDi i f).door d' = s.door d' := rfl
@[simp] theorem modDi_port (s : State) (i : Nat) (f : DiState → DiState) (p' : Nat) : (s.modDi i f).port p' = s.port p' := rfl
@[simp] theorem modDi_scChan (s : State) (i : Nat) (f : DiState → DiState) (c' : Nat) : (s.modDi i f).scChan c' = s.scChan c' := rfl
@[simp] theorem modDi_qdChan (s : State) (i : Nat) (f : DiState → DiState) (c' : Nat) : (s.modDi i f).qdChan c' = s.qdChan c' := rfl
@[simp] theorem modDi_ssiChan (s : State) (i : Nat) (f : DiState → DiState) (c' : Nat) : (s.modDi i f).ssiChan c' = s.ssiChan c' := rfl
@[simp] theorem modDi_eng (s : State) (i : Nat) (f : DiState → DiState) (n' : Nat) : (s.modDi i f).eng n' = s.eng n' := rfl
@[simp] theorem modDi_dlNode (s : State) (i : Nat) (f : DiState → DiState) (n' : Nat) : (s.modDi i f).dlNode n' = s.dlNode n' := rfl
@[simp] theorem modDi_nbr (s : State) (i : Nat) (f : DiState → DiState) (n' : Nat) : (s.modDi i f).nbr n' = s.nbr n' := rfl
@[simp] theorem modDi_clock (s : State) (i : Nat) (f : DiState → DiState) (n' : Nat) : (s.modDi i f).clock n' = s.clock n' := rfl
@[simp] theorem modDi_ri (s : State) (i : Nat) (f : DiState → DiState) (g : Field) : (s.modDi i f).ri g = s.ri g := rfl

@[simp] theorem modBt_pending (s : State) (f : BrakeTest → BrakeTest) : (s.modBt f).pending = s.pending := rfl
@[simp] theorem modBt_regs (s : State) (f : BrakeTest → BrakeTest) : (s.modBt f).regs = s.regs := rfl
@[simp] theorem modBt_optime (s : State) (f : BrakeTest → BrakeTest) : (s.modBt f).optime = s.optime := rfl
@[simp] theorem modBt_pcc (s : State) (f : BrakeTest → BrakeTest) : (s.modBt f).pcc = s.pcc := rfl
@[simp] theorem modBt_free (s : State) (f : BrakeTest → BrakeTest) : (s.modBt f).free = s.free := rfl
@[simp] theorem modBt_raised (s : State) (f : BrakeTest → BrakeTest) : (s.modBt f).raised = s.raised := rfl
@[simp] theorem modBt_ev (s : State) (f : BrakeTest → BrakeTest) : (s.modBt f).ev = s.ev := rfl
@[simp] theorem modBt_log (s : State) (f : BrakeTest → BrakeTest) : (s.modBt f).log = s.log := rfl
@[simp] theorem modBt_wall (s : State) (f : BrakeTest → BrakeTest) : (s.modBt f).wall = s.wall := rfl
@[simp] theorem modBt_host (s : State) (f : BrakeTest → BrakeTest) : (s.modBt f).host = s.host := rfl
@[simp] theorem modBt_pathHost (s : State) (f : BrakeTest → BrakeTest) : (s.modBt f).pathHost = s.pathHost := rfl
@[simp] theorem modBt_pathMgmt (s : State) (f : BrakeTest → BrakeTest) : (s.modBt f).pathMgmt = s.pathMgmt := rfl
@[simp] theorem modBt_keep (s : State) (f : BrakeTest → BrakeTest) : (s.modBt f).keep = s.keep := rfl
@[simp] theorem modBt_deep (s : State) (f : BrakeTest → BrakeTest) : (s.modBt f).deep = s.deep := rfl
@[simp] theorem modBt_near (s : State) (f : BrakeTest → BrakeTest) : (s.modBt f).near = s.near := rfl
@[simp] theorem modBt_table (s : State) (f : BrakeTest → BrakeTest) : (s.modBt f).table = s.table := rfl
@[simp] theorem modBt_img (s : State) (f : BrakeTest → BrakeTest) : (s.modBt f).img = s.img := rfl
@[simp] theorem modBt_dsp (s : State) (f : BrakeTest → BrakeTest) : (s.modBt f).dsp = s.dsp := rfl
@[simp] theorem modBt_pos (s : State) (f : BrakeTest → BrakeTest) : (s.modBt f).pos = s.pos := rfl
@[simp] theorem modBt_ret (s : State) (f : BrakeTest → BrakeTest) : (s.modBt f).ret = s.ret := rfl
@[simp] theorem modBt_trip (s : State) (f : BrakeTest → BrakeTest) : (s.modBt f).trip = s.trip := rfl
@[simp] theorem modBt_loop (s : State) (f : BrakeTest → BrakeTest) : (s.modBt f).loop = s.loop := rfl
@[simp] theorem modBt_fio (s : State) (f : BrakeTest → BrakeTest) : (s.modBt f).fio = s.fio := rfl
@[simp] theorem modBt_net (s : State) (f : BrakeTest → BrakeTest) : (s.modBt f).net = s.net := rfl
@[simp] theorem modBt_mir (s : State) (f : BrakeTest → BrakeTest) : (s.modBt f).mir = s.mir := rfl
@[simp] theorem modBt_rcd (s : State) (f : BrakeTest → BrakeTest) : (s.modBt f).rcd = s.rcd := rfl
@[simp] theorem modBt_mem (s : State) (f : BrakeTest → BrakeTest) : (s.modBt f).mem = s.mem := rfl
@[simp] theorem modBt_pwr (s : State) (f : BrakeTest → BrakeTest) : (s.modBt f).pwr = s.pwr := rfl
@[simp] theorem modBt_sec (s : State) (f : BrakeTest → BrakeTest) : (s.modBt f).sec = s.sec := rfl
@[simp] theorem modBt_r (s : State) (f : BrakeTest → BrakeTest) (g : Field) : (s.modBt f).r g = s.r g := rfl
@[simp] theorem modBt_facet (s : State) (f : BrakeTest → BrakeTest) (p' : Nat) : (s.modBt f).facet p' = s.facet p' := rfl
@[simp] theorem modBt_set (s : State) (f : BrakeTest → BrakeTest) (k' : Nat) : (s.modBt f).set k' = s.set k' := rfl
@[simp] theorem modBt_chan (s : State) (f : BrakeTest → BrakeTest) (k' : Nat) : (s.modBt f).chan k' = s.chan k' := rfl
@[simp] theorem modBt_door (s : State) (f : BrakeTest → BrakeTest) (d' : Nat) : (s.modBt f).door d' = s.door d' := rfl
@[simp] theorem modBt_port (s : State) (f : BrakeTest → BrakeTest) (p' : Nat) : (s.modBt f).port p' = s.port p' := rfl
@[simp] theorem modBt_scChan (s : State) (f : BrakeTest → BrakeTest) (c' : Nat) : (s.modBt f).scChan c' = s.scChan c' := rfl
@[simp] theorem modBt_qdChan (s : State) (f : BrakeTest → BrakeTest) (c' : Nat) : (s.modBt f).qdChan c' = s.qdChan c' := rfl
@[simp] theorem modBt_ssiChan (s : State) (f : BrakeTest → BrakeTest) (c' : Nat) : (s.modBt f).ssiChan c' = s.ssiChan c' := rfl
@[simp] theorem modBt_eng (s : State) (f : BrakeTest → BrakeTest) (n' : Nat) : (s.modBt f).eng n' = s.eng n' := rfl
@[simp] theorem modBt_dlNode (s : State) (f : BrakeTest → BrakeTest) (n' : Nat) : (s.modBt f).dlNode n' = s.dlNode n' := rfl
@[simp] theorem modBt_dout (s : State) (f : BrakeTest → BrakeTest) (n' : Nat) : (s.modBt f).dout n' = s.dout n' := rfl
@[simp] theorem modBt_nbr (s : State) (f : BrakeTest → BrakeTest) (n' : Nat) : (s.modBt f).nbr n' = s.nbr n' := rfl
@[simp] theorem modBt_clock (s : State) (f : BrakeTest → BrakeTest) (n' : Nat) : (s.modBt f).clock n' = s.clock n' := rfl
@[simp] theorem modBt_ri (s : State) (f : BrakeTest → BrakeTest) (g : Field) : (s.modBt f).ri g = s.ri g := rfl

@[simp] theorem modNbr_pending (s : State) (i : Nat) (f : Neighbour → Neighbour) : (s.modNbr i f).pending = s.pending := rfl
@[simp] theorem modNbr_regs (s : State) (i : Nat) (f : Neighbour → Neighbour) : (s.modNbr i f).regs = s.regs := rfl
@[simp] theorem modNbr_optime (s : State) (i : Nat) (f : Neighbour → Neighbour) : (s.modNbr i f).optime = s.optime := rfl
@[simp] theorem modNbr_pcc (s : State) (i : Nat) (f : Neighbour → Neighbour) : (s.modNbr i f).pcc = s.pcc := rfl
@[simp] theorem modNbr_free (s : State) (i : Nat) (f : Neighbour → Neighbour) : (s.modNbr i f).free = s.free := rfl
@[simp] theorem modNbr_raised (s : State) (i : Nat) (f : Neighbour → Neighbour) : (s.modNbr i f).raised = s.raised := rfl
@[simp] theorem modNbr_ev (s : State) (i : Nat) (f : Neighbour → Neighbour) : (s.modNbr i f).ev = s.ev := rfl
@[simp] theorem modNbr_log (s : State) (i : Nat) (f : Neighbour → Neighbour) : (s.modNbr i f).log = s.log := rfl
@[simp] theorem modNbr_wall (s : State) (i : Nat) (f : Neighbour → Neighbour) : (s.modNbr i f).wall = s.wall := rfl
@[simp] theorem modNbr_host (s : State) (i : Nat) (f : Neighbour → Neighbour) : (s.modNbr i f).host = s.host := rfl
@[simp] theorem modNbr_pathHost (s : State) (i : Nat) (f : Neighbour → Neighbour) : (s.modNbr i f).pathHost = s.pathHost := rfl
@[simp] theorem modNbr_pathMgmt (s : State) (i : Nat) (f : Neighbour → Neighbour) : (s.modNbr i f).pathMgmt = s.pathMgmt := rfl
@[simp] theorem modNbr_keep (s : State) (i : Nat) (f : Neighbour → Neighbour) : (s.modNbr i f).keep = s.keep := rfl
@[simp] theorem modNbr_deep (s : State) (i : Nat) (f : Neighbour → Neighbour) : (s.modNbr i f).deep = s.deep := rfl
@[simp] theorem modNbr_near (s : State) (i : Nat) (f : Neighbour → Neighbour) : (s.modNbr i f).near = s.near := rfl
@[simp] theorem modNbr_table (s : State) (i : Nat) (f : Neighbour → Neighbour) : (s.modNbr i f).table = s.table := rfl
@[simp] theorem modNbr_img (s : State) (i : Nat) (f : Neighbour → Neighbour) : (s.modNbr i f).img = s.img := rfl
@[simp] theorem modNbr_dsp (s : State) (i : Nat) (f : Neighbour → Neighbour) : (s.modNbr i f).dsp = s.dsp := rfl
@[simp] theorem modNbr_pos (s : State) (i : Nat) (f : Neighbour → Neighbour) : (s.modNbr i f).pos = s.pos := rfl
@[simp] theorem modNbr_ret (s : State) (i : Nat) (f : Neighbour → Neighbour) : (s.modNbr i f).ret = s.ret := rfl
@[simp] theorem modNbr_loop (s : State) (i : Nat) (f : Neighbour → Neighbour) : (s.modNbr i f).loop = s.loop := rfl
@[simp] theorem modNbr_saf (s : State) (i : Nat) (f : Neighbour → Neighbour) : (s.modNbr i f).saf = s.saf := rfl
@[simp] theorem modNbr_fio (s : State) (i : Nat) (f : Neighbour → Neighbour) : (s.modNbr i f).fio = s.fio := rfl
@[simp] theorem modNbr_net (s : State) (i : Nat) (f : Neighbour → Neighbour) : (s.modNbr i f).net = s.net := rfl
@[simp] theorem modNbr_mir (s : State) (i : Nat) (f : Neighbour → Neighbour) : (s.modNbr i f).mir = s.mir := rfl
@[simp] theorem modNbr_rcd (s : State) (i : Nat) (f : Neighbour → Neighbour) : (s.modNbr i f).rcd = s.rcd := rfl
@[simp] theorem modNbr_mem (s : State) (i : Nat) (f : Neighbour → Neighbour) : (s.modNbr i f).mem = s.mem := rfl
@[simp] theorem modNbr_pwr (s : State) (i : Nat) (f : Neighbour → Neighbour) : (s.modNbr i f).pwr = s.pwr := rfl
@[simp] theorem modNbr_sec (s : State) (i : Nat) (f : Neighbour → Neighbour) : (s.modNbr i f).sec = s.sec := rfl
@[simp] theorem modNbr_r (s : State) (i : Nat) (f : Neighbour → Neighbour) (g : Field) : (s.modNbr i f).r g = s.r g := rfl
@[simp] theorem modNbr_lane (s : State) (i : Nat) (f : Neighbour → Neighbour) (l' : Nat) : (s.modNbr i f).lane l' = s.lane l' := rfl
@[simp] theorem modNbr_facet (s : State) (i : Nat) (f : Neighbour → Neighbour) (p' : Nat) : (s.modNbr i f).facet p' = s.facet p' := rfl
@[simp] theorem modNbr_set (s : State) (i : Nat) (f : Neighbour → Neighbour) (k' : Nat) : (s.modNbr i f).set k' = s.set k' := rfl
@[simp] theorem modNbr_door (s : State) (i : Nat) (f : Neighbour → Neighbour) (d' : Nat) : (s.modNbr i f).door d' = s.door d' := rfl
@[simp] theorem modNbr_port (s : State) (i : Nat) (f : Neighbour → Neighbour) (p' : Nat) : (s.modNbr i f).port p' = s.port p' := rfl
@[simp] theorem modNbr_scChan (s : State) (i : Nat) (f : Neighbour → Neighbour) (c' : Nat) : (s.modNbr i f).scChan c' = s.scChan c' := rfl
@[simp] theorem modNbr_qdChan (s : State) (i : Nat) (f : Neighbour → Neighbour) (c' : Nat) : (s.modNbr i f).qdChan c' = s.qdChan c' := rfl
@[simp] theorem modNbr_ssiChan (s : State) (i : Nat) (f : Neighbour → Neighbour) (c' : Nat) : (s.modNbr i f).ssiChan c' = s.ssiChan c' := rfl
@[simp] theorem modNbr_eng (s : State) (i : Nat) (f : Neighbour → Neighbour) (n' : Nat) : (s.modNbr i f).eng n' = s.eng n' := rfl
@[simp] theorem modNbr_dlNode (s : State) (i : Nat) (f : Neighbour → Neighbour) (n' : Nat) : (s.modNbr i f).dlNode n' = s.dlNode n' := rfl
@[simp] theorem modNbr_dout (s : State) (i : Nat) (f : Neighbour → Neighbour) (n' : Nat) : (s.modNbr i f).dout n' = s.dout n' := rfl
@[simp] theorem modNbr_clock (s : State) (i : Nat) (f : Neighbour → Neighbour) (n' : Nat) : (s.modNbr i f).clock n' = s.clock n' := rfl
@[simp] theorem modNbr_ri (s : State) (i : Nat) (f : Neighbour → Neighbour) (g : Field) : (s.modNbr i f).ri g = s.ri g := rfl

@[simp] theorem modClock_pending (s : State) (n : Nat) (f : NetClock → NetClock) : (s.modClock n f).pending = s.pending := rfl
@[simp] theorem modClock_regs (s : State) (n : Nat) (f : NetClock → NetClock) : (s.modClock n f).regs = s.regs := rfl
@[simp] theorem modClock_optime (s : State) (n : Nat) (f : NetClock → NetClock) : (s.modClock n f).optime = s.optime := rfl
@[simp] theorem modClock_pcc (s : State) (n : Nat) (f : NetClock → NetClock) : (s.modClock n f).pcc = s.pcc := rfl
@[simp] theorem modClock_free (s : State) (n : Nat) (f : NetClock → NetClock) : (s.modClock n f).free = s.free := rfl
@[simp] theorem modClock_raised (s : State) (n : Nat) (f : NetClock → NetClock) : (s.modClock n f).raised = s.raised := rfl
@[simp] theorem modClock_ev (s : State) (n : Nat) (f : NetClock → NetClock) : (s.modClock n f).ev = s.ev := rfl
@[simp] theorem modClock_log (s : State) (n : Nat) (f : NetClock → NetClock) : (s.modClock n f).log = s.log := rfl
@[simp] theorem modClock_wall (s : State) (n : Nat) (f : NetClock → NetClock) : (s.modClock n f).wall = s.wall := rfl
@[simp] theorem modClock_host (s : State) (n : Nat) (f : NetClock → NetClock) : (s.modClock n f).host = s.host := rfl
@[simp] theorem modClock_pathHost (s : State) (n : Nat) (f : NetClock → NetClock) : (s.modClock n f).pathHost = s.pathHost := rfl
@[simp] theorem modClock_pathMgmt (s : State) (n : Nat) (f : NetClock → NetClock) : (s.modClock n f).pathMgmt = s.pathMgmt := rfl
@[simp] theorem modClock_keep (s : State) (n : Nat) (f : NetClock → NetClock) : (s.modClock n f).keep = s.keep := rfl
@[simp] theorem modClock_deep (s : State) (n : Nat) (f : NetClock → NetClock) : (s.modClock n f).deep = s.deep := rfl
@[simp] theorem modClock_near (s : State) (n : Nat) (f : NetClock → NetClock) : (s.modClock n f).near = s.near := rfl
@[simp] theorem modClock_table (s : State) (n : Nat) (f : NetClock → NetClock) : (s.modClock n f).table = s.table := rfl
@[simp] theorem modClock_img (s : State) (n : Nat) (f : NetClock → NetClock) : (s.modClock n f).img = s.img := rfl
@[simp] theorem modClock_dsp (s : State) (n : Nat) (f : NetClock → NetClock) : (s.modClock n f).dsp = s.dsp := rfl
@[simp] theorem modClock_pos (s : State) (n : Nat) (f : NetClock → NetClock) : (s.modClock n f).pos = s.pos := rfl
@[simp] theorem modClock_ret (s : State) (n : Nat) (f : NetClock → NetClock) : (s.modClock n f).ret = s.ret := rfl
@[simp] theorem modClock_trip (s : State) (n : Nat) (f : NetClock → NetClock) : (s.modClock n f).trip = s.trip := rfl
@[simp] theorem modClock_loop (s : State) (n : Nat) (f : NetClock → NetClock) : (s.modClock n f).loop = s.loop := rfl
@[simp] theorem modClock_saf (s : State) (n : Nat) (f : NetClock → NetClock) : (s.modClock n f).saf = s.saf := rfl
@[simp] theorem modClock_fio (s : State) (n : Nat) (f : NetClock → NetClock) : (s.modClock n f).fio = s.fio := rfl
@[simp] theorem modClock_mir (s : State) (n : Nat) (f : NetClock → NetClock) : (s.modClock n f).mir = s.mir := rfl
@[simp] theorem modClock_rcd (s : State) (n : Nat) (f : NetClock → NetClock) : (s.modClock n f).rcd = s.rcd := rfl
@[simp] theorem modClock_mem (s : State) (n : Nat) (f : NetClock → NetClock) : (s.modClock n f).mem = s.mem := rfl
@[simp] theorem modClock_pwr (s : State) (n : Nat) (f : NetClock → NetClock) : (s.modClock n f).pwr = s.pwr := rfl
@[simp] theorem modClock_sec (s : State) (n : Nat) (f : NetClock → NetClock) : (s.modClock n f).sec = s.sec := rfl
@[simp] theorem modClock_r (s : State) (n : Nat) (f : NetClock → NetClock) (g : Field) : (s.modClock n f).r g = s.r g := rfl
@[simp] theorem modClock_lane (s : State) (n : Nat) (f : NetClock → NetClock) (l' : Nat) : (s.modClock n f).lane l' = s.lane l' := rfl
@[simp] theorem modClock_facet (s : State) (n : Nat) (f : NetClock → NetClock) (p' : Nat) : (s.modClock n f).facet p' = s.facet p' := rfl
@[simp] theorem modClock_set (s : State) (n : Nat) (f : NetClock → NetClock) (k' : Nat) : (s.modClock n f).set k' = s.set k' := rfl
@[simp] theorem modClock_chan (s : State) (n : Nat) (f : NetClock → NetClock) (k' : Nat) : (s.modClock n f).chan k' = s.chan k' := rfl
@[simp] theorem modClock_door (s : State) (n : Nat) (f : NetClock → NetClock) (d' : Nat) : (s.modClock n f).door d' = s.door d' := rfl
@[simp] theorem modClock_scChan (s : State) (n : Nat) (f : NetClock → NetClock) (c' : Nat) : (s.modClock n f).scChan c' = s.scChan c' := rfl
@[simp] theorem modClock_qdChan (s : State) (n : Nat) (f : NetClock → NetClock) (c' : Nat) : (s.modClock n f).qdChan c' = s.qdChan c' := rfl
@[simp] theorem modClock_ssiChan (s : State) (n : Nat) (f : NetClock → NetClock) (c' : Nat) : (s.modClock n f).ssiChan c' = s.ssiChan c' := rfl
@[simp] theorem modClock_eng (s : State) (n : Nat) (f : NetClock → NetClock) (n' : Nat) : (s.modClock n f).eng n' = s.eng n' := rfl
@[simp] theorem modClock_dlNode (s : State) (n : Nat) (f : NetClock → NetClock) (n' : Nat) : (s.modClock n f).dlNode n' = s.dlNode n' := rfl
@[simp] theorem modClock_dout (s : State) (n : Nat) (f : NetClock → NetClock) (n' : Nat) : (s.modClock n f).dout n' = s.dout n' := rfl
@[simp] theorem modClock_nbr (s : State) (n : Nat) (f : NetClock → NetClock) (n' : Nat) : (s.modClock n f).nbr n' = s.nbr n' := rfl
@[simp] theorem modClock_ri (s : State) (n : Nat) (f : NetClock → NetClock) (g : Field) : (s.modClock n f).ri g = s.ri g := rfl

/-- A field read from the register-field file alone. -/
def regAt (m : SMap Nat) (g : Field) : Nat := SMap.get m g.key g.reset

/-! What the readers see of a state written out field by field: only the field they read. -/

section

variable (pending : List Instr) (regs : SMap Nat) (optime : Time) (pcc free : Nat) (raised : List Raised) (ev : EvState) (log :
    LogState) (wall : WallState) (host : HostPort) (pathHost pathMgmt : PathState) (keep : Mem) (deep : List Mem) (near
    table : Mem) (img : ImgState) (dsp : DspState) (pos : PosState) (ret : RetState) (trip : TripState) (loop : LoopState)
    (saf : SafState) (fio : FioState) (net : NetState) (mir : MirState) (rcd : RecState) (mem : MemState) (pwr : PwrState)
    (sec : SecState)

@[simp] theorem r_mk (g : Field) :
    (State.mk pending regs optime pcc free raised ev log wall host pathHost pathMgmt keep deep near table img dsp pos ret
    trip loop saf fio net mir rcd mem pwr sec).r g = regAt regs g := rfl

@[simp] theorem lane_mk (l : Nat) :
    (State.mk pending regs optime pcc free raised ev log wall host pathHost pathMgmt keep deep near table img dsp pos ret
    trip loop saf fio net mir rcd mem pwr sec).lane l = nth saf.lanes l {} := rfl

@[simp] theorem facet_mk (p : Nat) :
    (State.mk pending regs optime pcc free raised ev log wall host pathHost pathMgmt keep deep near table img dsp pos ret
    trip loop saf fio net mir rcd mem pwr sec).facet p = nth dsp.facets p {} := rfl

@[simp] theorem set_mk (k : Nat) :
    (State.mk pending regs optime pcc free raised ev log wall host pathHost pathMgmt keep deep near table img dsp pos ret
    trip loop saf fio net mir rcd mem pwr sec).set k = nth ret.sets k { live := [] } := rfl

@[simp] theorem chan_mk (k : Nat) :
    (State.mk pending regs optime pcc free raised ev log wall host pathHost pathMgmt keep deep near table img dsp pos ret
    trip loop saf fio net mir rcd mem pwr sec).chan k = nth trip.chans k {} := rfl

@[simp] theorem door_mk (d : Nat) :
    (State.mk pending regs optime pcc free raised ev log wall host pathHost pathMgmt keep deep near table img dsp pos ret
    trip loop saf fio net mir rcd mem pwr sec).door d = nth loop.ops (d - 1) {} := rfl

@[simp] theorem port_mk (p : Nat) :
    (State.mk pending regs optime pcc free raised ev log wall host pathHost pathMgmt keep deep near table img dsp pos ret
    trip loop saf fio net mir rcd mem pwr sec).port p = nth net.ports p {} := rfl

end

@[simp] theorem regAt_regs (s : State) (g : Field) : regAt s.regs g = s.r g := rfl

@[simp] theorem nth_lane (s : State) (l : Nat) : nth s.saf.lanes l {} = s.lane l := rfl

@[simp] theorem nth_facet (s : State) (p : Nat) : nth s.dsp.facets p {} = s.facet p := rfl

@[simp] theorem nth_set (s : State) (k : Nat) : nth s.ret.sets k { live := [] } = s.set k := rfl

@[simp] theorem nth_chan (s : State) (k : Nat) : nth s.trip.chans k {} = s.chan k := rfl

@[simp] theorem nth_door (s : State) (d : Nat) : nth s.loop.ops (d - 1) {} = s.door d := rfl

@[simp] theorem nth_port (s : State) (p : Nat) : nth s.net.ports p {} = s.port p := rfl

/-- What a field reads after it is written. -/
@[simp] theorem r_w_same (s : State) (f : Field) (v : Nat) : (s.w f v).r f = v % 2 ^ f.width := by simp [State.r, State.w]

/-- A write of a field leaves every other field alone. -/
@[simp] theorem r_w_ne (s : State) (f g : Field) (v : Nat) (h : g.key ≠ f.key) : (s.w f v).r g = s.r g := by
  simp [State.r, State.w, SMap.get_put_ne _ _ _ _ _ _ h]

@[simp] theorem wb_eq (s : State) (f : Field) (b : Bool) : s.wb f b = s.w f (b2n b) := rfl

@[simp] theorem wi_eq (s : State) (f : Field) (i : Int) : s.wi f i = s.w f (ofI f.width i) := rfl

@[simp] theorem inc_eq (s : State) (f : Field) : s.inc f = s.w f (satN f.width (s.r f + 1)) := rfl

@[simp] theorem incWrap_eq (s : State) (f : Field) : s.incWrap f = s.w f (s.r f + 1) := rfl

@[simp] theorem peak_eq (s : State) (f : Field) (v : Nat) : s.peak f v = s.w f (max (s.r f) (satN f.width v)) := rfl

@[simp] theorem when_true (s : State) (f : State → State) : s.when_ true f = f s := rfl

@[simp] theorem when_false (s : State) (f : State → State) : s.when_ false f = s := rfl

theorem rb_eq (s : State) (f : Field) : s.rb f = (s.r f != 0) := rfl

@[simp] theorem raise_raised (s : State) (e : Evt) (l : List Arg) :
    (s.raise e l).raised = s.raised ++ [{ evt := e, arg := packArgs l }] := rfl

@[simp] theorem took_free (s : State) : s.took.free = s.free + 1 := rfl

@[simp] theorem modMir_mir (s : State) (f : MirState → MirState) : (s.modMir f).mir = f s.mir := rfl
@[simp] theorem modSaf_saf (s : State) (f : SafState → SafState) : (s.modSaf f).saf = f s.saf := rfl
@[simp] theorem modFio_fio (s : State) (f : FioState → FioState) : (s.modFio f).fio = f s.fio := rfl
@[simp] theorem modNet_net (s : State) (f : NetState → NetState) : (s.modNet f).net = f s.net := rfl
@[simp] theorem modTrip_trip (s : State) (f : TripState → TripState) : (s.modTrip f).trip = f s.trip := rfl
@[simp] theorem modPwr_pwr (s : State) (f : PwrState → PwrState) : (s.modPwr f).pwr = f s.pwr := rfl
@[simp] theorem modMem_mem (s : State) (f : MemState → MemState) : (s.modMem f).mem = f s.mem := rfl
@[simp] theorem modSec_sec (s : State) (f : SecState → SecState) : (s.modSec f).sec = f s.sec := rfl
@[simp] theorem modHost_host (s : State) (f : HostPort → HostPort) : (s.modHost f).host = f s.host := rfl

@[simp] theorem lane_modLane_same (s : State) (l : Nat) (f : Lane → Lane) : (s.modLane l f).lane l = f (s.lane l) := by
  simp [State.lane, State.modLane, -nth_lane]

theorem lane_modLane_ne (s : State) (l m : Nat) (f : Lane → Lane) (h : m ≠ l) : (s.modLane l f).lane m = s.lane m := by
  simp [State.lane, State.modLane, -nth_lane, nth_modAt_ne _ _ _ _ _ h]

@[simp] theorem facet_modFacet_same (s : State) (p : Nat) (f : Facet → Facet) : (s.modFacet p f).facet p = f (s.facet p) := by
  simp [State.facet, State.modFacet, -nth_facet]

theorem facet_modFacet_ne (s : State) (p q : Nat) (f : Facet → Facet) (h : q ≠ p) : (s.modFacet p f).facet q = s.facet q := by
  simp [State.facet, State.modFacet, -nth_facet, nth_modAt_ne _ _ _ _ _ h]

@[simp] theorem set_modSet_same (s : State) (k : Nat) (f : MarkSet → MarkSet) : (s.modSet k f).set k = f (s.set k) := by
  simp [State.set, State.modSet, -nth_set]

@[simp] theorem chan_modChan_same (s : State) (k : Nat) (f : Channel → Channel) : (s.modChan k f).chan k = f (s.chan k) := by
  simp [State.chan, State.modChan, -nth_chan]

@[simp] theorem door_modDoor_same (s : State) (d : Nat) (f : DoorOp → DoorOp) : (s.modDoor d f).door d = f (s.door d) := by
  simp [State.door, State.modDoor, -nth_door]

@[simp] theorem port_modPort_same (s : State) (p : Nat) (f : PortSt → PortSt) : (s.modPort p f).port p = f (s.port p) := by
  simp [State.port, State.modPort, -nth_port, State.modNet]

@[simp] theorem scChan_modSc_same (s : State) (c : Nat) (f : ScChan → ScChan) : (s.modSc c f).scChan c = f (s.scChan c) := by
  simp [State.scChan, State.modSc]

@[simp] theorem qdChan_modQd_same (s : State) (c : Nat) (f : QdChan → QdChan) : (s.modQd c f).qdChan c = f (s.qdChan c) := by
  simp [State.qdChan, State.modQd]

@[simp] theorem ssiChan_modSsi_same (s : State) (c : Nat) (f : SsiChan → SsiChan) : (s.modSsi c f).ssiChan c = f (s.ssiChan c) := by
  simp [State.ssiChan, State.modSsi]

@[simp] theorem eng_modEng_same (s : State) (n : Nat) (f : Engine → Engine) : (s.modEng n f).eng n = f (s.eng n) := by
  simp [State.eng, State.modEng]

@[simp] theorem dlNode_modDl_same (s : State) (n : Nat) (f : DlNode → DlNode) : (s.modDl n f).dlNode n = f (s.dlNode n) := by
  simp [State.dlNode, State.modDl]

@[simp] theorem dout_modDo_same (s : State) (n : Nat) (f : DoState → DoState) : (s.modDo n f).dout n = f (s.dout n) := by
  simp [State.dout, State.modDo]

@[simp] theorem nbr_modNbr_same (s : State) (n : Nat) (f : Neighbour → Neighbour) : (s.modNbr n f).nbr n = f (s.nbr n) := by
  simp [State.nbr, State.modNbr]

@[simp] theorem clock_modClock_same (s : State) (n : Nat) (f : NetClock → NetClock) : (s.modClock n f).clock n = f (s.clock n) := by
  simp [State.clock, State.modClock]

end State

end Sys2Proof.Machine
end

