-- ==== Sys2Proof/Laws/Events.lean ====
section
/-! SUPPORT. What the end of a step can do (R374): it takes the raised events into the log and the queues, may note an exit cause of
Parked, and changes nothing else. -/

namespace Sys2Proof.Machine

theorem State.wake_form (s : State) (c : Nat) : ∃ e, s.wake c = { s with pwr := { s.pwr with exit := e } } := by
  unfold State.wake; split
  · exact ⟨_, rfl⟩
  · exact ⟨s.pwr.exit, rfl⟩

/-- Taking an event changes the log, the event state and at most the noted exit cause of Parked. -/
theorem takeEvent_form (s : State) (x : Raised) :
    ∃ e l v, takeEvent s x = { s with log := l, ev := v, pwr := { s.pwr with exit := e } } := by
  unfold takeEvent; simp only; split
  · obtain ⟨e, h⟩ := s.wake_form 3
    rw [h]; exact ⟨e, _, _, rfl⟩
  · exact ⟨s.pwr.exit, _, _, rfl⟩

theorem takeEvents_form (l : List Raised) (s : State) :
    ∃ e g v, l.foldl takeEvent s = { s with log := g, ev := v, pwr := { s.pwr with exit := e } } := by
  induction l generalizing s with
  | nil => exact ⟨s.pwr.exit, s.log, s.ev, rfl⟩
  | cons x l ih =>
    obtain ⟨e, g, v, h⟩ := takeEvent_form s x
    obtain ⟨e', g', v', h'⟩ := ih (takeEvent s x)
    exact ⟨e', g', v', by rw [List.foldl_cons, h', h]⟩

/-- The end of a step takes every raised event and changes nothing beside the log, the event state and the noted exit cause. -/
theorem State.fin_form (s : State) :
    ∃ e g v, s.fin = { s with raised := [], log := g, ev := v, pwr := { s.pwr with exit := e } } := by
  unfold State.fin; simp only; split <;> exact takeEvents_form _ _

/-- No event is left over at the end of a step. -/
@[simp] theorem State.fin_raised (s : State) : s.fin.raised = [] := by obtain ⟨_, _, _, h⟩ := s.fin_form; rw [h]

@[simp] theorem State.fin_pending (s : State) : s.fin.pending = s.pending := by obtain ⟨_, _, _, h⟩ := s.fin_form; rw [h]
@[simp] theorem State.fin_regs (s : State) : s.fin.regs = s.regs := by obtain ⟨_, _, _, h⟩ := s.fin_form; rw [h]
@[simp] theorem State.fin_optime (s : State) : s.fin.optime = s.optime := by obtain ⟨_, _, _, h⟩ := s.fin_form; rw [h]
@[simp] theorem State.fin_pcc (s : State) : s.fin.pcc = s.pcc := by obtain ⟨_, _, _, h⟩ := s.fin_form; rw [h]
@[simp] theorem State.fin_free (s : State) : s.fin.free = s.free := by obtain ⟨_, _, _, h⟩ := s.fin_form; rw [h]
@[simp] theorem State.fin_wall (s : State) : s.fin.wall = s.wall := by obtain ⟨_, _, _, h⟩ := s.fin_form; rw [h]
@[simp] theorem State.fin_host (s : State) : s.fin.host = s.host := by obtain ⟨_, _, _, h⟩ := s.fin_form; rw [h]
@[simp] theorem State.fin_pathHost (s : State) : s.fin.pathHost = s.pathHost := by obtain ⟨_, _, _, h⟩ := s.fin_form; rw [h]
@[simp] theorem State.fin_pathMgmt (s : State) : s.fin.pathMgmt = s.pathMgmt := by obtain ⟨_, _, _, h⟩ := s.fin_form; rw [h]
@[simp] theorem State.fin_keep (s : State) : s.fin.keep = s.keep := by obtain ⟨_, _, _, h⟩ := s.fin_form; rw [h]
@[simp] theorem State.fin_deep (s : State) : s.fin.deep = s.deep := by obtain ⟨_, _, _, h⟩ := s.fin_form; rw [h]
@[simp] theorem State.fin_near (s : State) : s.fin.near = s.near := by obtain ⟨_, _, _, h⟩ := s.fin_form; rw [h]
@[simp] theorem State.fin_table (s : State) : s.fin.table = s.table := by obtain ⟨_, _, _, h⟩ := s.fin_form; rw [h]
@[simp] theorem State.fin_img (s : State) : s.fin.img = s.img := by obtain ⟨_, _, _, h⟩ := s.fin_form; rw [h]
@[simp] theorem State.fin_dsp (s : State) : s.fin.dsp = s.dsp := by obtain ⟨_, _, _, h⟩ := s.fin_form; rw [h]
@[simp] theorem State.fin_pos (s : State) : s.fin.pos = s.pos := by obtain ⟨_, _, _, h⟩ := s.fin_form; rw [h]
@[simp] theorem State.fin_ret (s : State) : s.fin.ret = s.ret := by obtain ⟨_, _, _, h⟩ := s.fin_form; rw [h]
@[simp] theorem State.fin_trip (s : State) : s.fin.trip = s.trip := by obtain ⟨_, _, _, h⟩ := s.fin_form; rw [h]
@[simp] theorem State.fin_loop (s : State) : s.fin.loop = s.loop := by obtain ⟨_, _, _, h⟩ := s.fin_form; rw [h]
@[simp] theorem State.fin_saf (s : State) : s.fin.saf = s.saf := by obtain ⟨_, _, _, h⟩ := s.fin_form; rw [h]
@[simp] theorem State.fin_fio (s : State) : s.fin.fio = s.fio := by obtain ⟨_, _, _, h⟩ := s.fin_form; rw [h]
@[simp] theorem State.fin_net (s : State) : s.fin.net = s.net := by obtain ⟨_, _, _, h⟩ := s.fin_form; rw [h]
@[simp] theorem State.fin_mir (s : State) : s.fin.mir = s.mir := by obtain ⟨_, _, _, h⟩ := s.fin_form; rw [h]
@[simp] theorem State.fin_rcd (s : State) : s.fin.rcd = s.rcd := by obtain ⟨_, _, _, h⟩ := s.fin_form; rw [h]
@[simp] theorem State.fin_mem (s : State) : s.fin.mem = s.mem := by obtain ⟨_, _, _, h⟩ := s.fin_form; rw [h]
@[simp] theorem State.fin_sec (s : State) : s.fin.sec = s.sec := by obtain ⟨_, _, _, h⟩ := s.fin_form; rw [h]
@[simp] theorem State.fin_pwr_supplied (s : State) : s.fin.pwr.supplied = s.pwr.supplied := by obtain ⟨_, _, _, h⟩ := s.fin_form; rw [h]
@[simp] theorem State.fin_pwr_dipAt (s : State) : s.fin.pwr.dipAt = s.pwr.dipAt := by obtain ⟨_, _, _, h⟩ := s.fin_form; rw [h]
@[simp] theorem State.fin_pwr_clockLost (s : State) : s.fin.pwr.clockLost = s.pwr.clockLost := by obtain ⟨_, _, _, h⟩ := s.fin_form; rw [h]
@[simp] theorem State.fin_pwr_retryAt (s : State) : s.fin.pwr.retryAt = s.pwr.retryAt := by obtain ⟨_, _, _, h⟩ := s.fin_form; rw [h]
@[simp] theorem State.fin_pwr_exitAt (s : State) : s.fin.pwr.exitAt = s.pwr.exitAt := by obtain ⟨_, _, _, h⟩ := s.fin_form; rw [h]
@[simp] theorem State.fin_pwr_vin (s : State) : s.fin.pwr.vin = s.pwr.vin := by obtain ⟨_, _, _, h⟩ := s.fin_form; rw [h]
@[simp] theorem State.fin_pwr_hot (s : State) : s.fin.pwr.hot = s.pwr.hot := by obtain ⟨_, _, _, h⟩ := s.fin_form; rw [h]
@[simp] theorem State.fin_pwr_ovrMark (s : State) : s.fin.pwr.ovrMark = s.pwr.ovrMark := by obtain ⟨_, _, _, h⟩ := s.fin_form; rw [h]
@[simp] theorem State.fin_pwr_leftAt (s : State) : s.fin.pwr.leftAt = s.pwr.leftAt := by obtain ⟨_, _, _, h⟩ := s.fin_form; rw [h]
@[simp] theorem State.fin_pwr_warmDue (s : State) : s.fin.pwr.warmDue = s.pwr.warmDue := by obtain ⟨_, _, _, h⟩ := s.fin_form; rw [h]
@[simp] theorem State.fin_pwr_parkDue (s : State) : s.fin.pwr.parkDue = s.pwr.parkDue := by obtain ⟨_, _, _, h⟩ := s.fin_form; rw [h]
@[simp] theorem State.fin_pwr_partMs (s : State) : s.fin.pwr.partMs = s.pwr.partMs := by obtain ⟨_, _, _, h⟩ := s.fin_form; rw [h]

@[simp] theorem State.fin_r (s : State) (f : Field) : s.fin.r f = s.r f := by simp [State.r]
@[simp] theorem State.fin_ri (s : State) (f : Field) : s.fin.ri f = s.ri f := by simp [State.ri]
@[simp] theorem State.fin_lane (s : State) (n : Nat) : s.fin.lane n = s.lane n := by simp [State.lane, -State.nth_lane]
@[simp] theorem State.fin_facet (s : State) (n : Nat) : s.fin.facet n = s.facet n := by simp [State.facet, -State.nth_facet]
@[simp] theorem State.fin_set (s : State) (n : Nat) : s.fin.set n = s.set n := by simp [State.set, -State.nth_set]
@[simp] theorem State.fin_chan (s : State) (n : Nat) : s.fin.chan n = s.chan n := by simp [State.chan, -State.nth_chan]
@[simp] theorem State.fin_door (s : State) (n : Nat) : s.fin.door n = s.door n := by simp [State.door, -State.nth_door]
@[simp] theorem State.fin_port (s : State) (n : Nat) : s.fin.port n = s.port n := by simp [State.port, -State.nth_port]
@[simp] theorem State.fin_scChan (s : State) (n : Nat) : s.fin.scChan n = s.scChan n := by simp [State.scChan]
@[simp] theorem State.fin_qdChan (s : State) (n : Nat) : s.fin.qdChan n = s.qdChan n := by simp [State.qdChan]
@[simp] theorem State.fin_ssiChan (s : State) (n : Nat) : s.fin.ssiChan n = s.ssiChan n := by simp [State.ssiChan]
@[simp] theorem State.fin_eng (s : State) (n : Nat) : s.fin.eng n = s.eng n := by simp [State.eng]
@[simp] theorem State.fin_dlNode (s : State) (n : Nat) : s.fin.dlNode n = s.dlNode n := by simp [State.dlNode]
@[simp] theorem State.fin_dout (s : State) (n : Nat) : s.fin.dout n = s.dout n := by simp [State.dout]
@[simp] theorem State.fin_nbr (s : State) (n : Nat) : s.fin.nbr n = s.nbr n := by simp [State.nbr]
@[simp] theorem State.fin_clock (s : State) (n : Nat) : s.fin.clock n = s.clock n := by simp [State.clock]
@[simp] theorem State.fin_path (s : State) (p : Path) : s.fin.path p = s.path p := by cases p <;> simp [State.path]
@[simp] theorem State.done_eq (s : State) : s.done = .next s.fin := rfl

/-! ### Every raised event is taken (R374) -/

theorem evTake_pend (s : State) (x : Raised) (e : EvState) : (evTake s x e).pend = setBit e.pend x.evt.src true := by
  unfold evTake; simp only; split_ifs <;> rfl

/-- The event machinery takes the event. -/
theorem takeEvent_ev (s : State) (x : Raised) : ∃ u, (takeEvent s x).ev = evTake u x s.ev := by
  unfold takeEvent; simp only; split
  · obtain ⟨e, h⟩ := s.wake_form 3
    exact ⟨s.wake 3, by rw [h]⟩
  · exact ⟨s, rfl⟩

theorem bitAt_setBit_mono (v i j : Nat) (h : bitAt v j = true) : bitAt (setBit v i true) j = true := by
  by_cases hij : j = i
  · subst hij; simp
  · rw [bitAt_setBit_ne _ _ _ _ hij]; exact h

theorem takeEvent_pend_self (s : State) (x : Raised) : bitAt (takeEvent s x).ev.pend x.evt.src = true := by
  obtain ⟨u, h⟩ := takeEvent_ev s x
  rw [h, evTake_pend, bitAt_setBit_same]

theorem takeEvent_pend_mono (s : State) (x : Raised) (j : Nat) (h : bitAt s.ev.pend j = true) :
    bitAt (takeEvent s x).ev.pend j = true := by
  obtain ⟨u, h'⟩ := takeEvent_ev s x
  rw [h', evTake_pend]; exact bitAt_setBit_mono _ _ _ h

theorem takeEvents_pend_mono (l : List Raised) (s : State) (j : Nat) (h : bitAt s.ev.pend j = true) :
    bitAt (l.foldl takeEvent s).ev.pend j = true := by
  induction l generalizing s with
  | nil => exact h
  | cons x l ih => exact ih _ (takeEvent_pend_mono s x j h)

theorem takeEvents_pend (l : List Raised) (s : State) (x : Raised) (h : x ∈ l) :
    bitAt (l.foldl takeEvent s).ev.pend x.evt.src = true := by
  induction l generalizing s with
  | nil => cases h
  | cons y l ih =>
    rcases List.mem_cons.mp h with rfl | h
    · exact takeEvents_pend_mono l _ _ (takeEvent_pend_self s x)
    · exact ih _ h

theorem mem_insertRaised (x y : Raised) (l : List Raised) : y ∈ insertRaised x l ↔ y = x ∨ y ∈ l := by
  induction l with
  | nil => simp [insertRaised]
  | cons z l ih =>
    unfold insertRaised
    split
    · simp
    · simp only [List.mem_cons, ih]; tauto

theorem mem_foldl_insertRaised (y : Raised) (l acc : List Raised) :
    y ∈ l.foldl (fun acc x => insertRaised x acc) acc ↔ y ∈ l ∨ y ∈ acc := by
  induction l generalizing acc with
  | nil => simp
  | cons x l ih => simp only [List.foldl_cons, ih, mem_insertRaised, List.mem_cons]; tauto

theorem mem_sortRaised (y : Raised) (l : List Raised) : y ∈ sortRaised l ↔ y ∈ l := by
  simp [sortRaised, mem_foldl_insertRaised]

/-- The pending bit of every event raised in a step is set at its end. -/
theorem State.fin_pend (s : State) (x : Raised) (h : x ∈ s.raised) : bitAt s.fin.ev.pend x.evt.src = true := by
  have h' := (mem_sortRaised x s.raised).mpr h
  unfold State.fin; simp only; split
  · exact takeEvents_pend _ _ _ ((mem_insertRaised _ _ _).mpr (.inr h'))
  · exact takeEvents_pend _ _ _ h'

end Sys2Proof.Machine
end

