-- ==== Sys2Proof/Laws/Frames.lean ====
section
/-! SUPPORT. The terms of Safety.lean through the updates a meaning makes: which registers and memories a chain of updates leaves
alone, and which events it leaves pending. -/

namespace Sys2Proof

open Sys2Proof.Machine

/-- Only the register-field file matters to RegsBut. -/
theorem RegsBut.of_regs {l : List Field} {s t u : Machine.State} (h : RegsBut l s t) (e : u.regs = t.regs) : RegsBut l s u := by
  intro g hg; have := h g hg; simpa [State.r, e] using this

theorem RegsBut.refl (l : List Field) (s : Machine.State) : RegsBut l s s := fun _ _ => rfl

/-- A write of a listed field. -/
theorem RegsBut.w {l : List Field} {s t : Machine.State} {f : Field} (v : Nat) (h : RegsBut l s t) (m : f ∈ l) :
    RegsBut l s (t.w f v) := by
  intro g hg
  have hne : g.key ≠ f.key := fun e => hg (List.mem_map.mpr ⟨f, m, e.symm⟩)
  rw [State.r_w_ne _ _ _ _ hne]
  exact h g hg

@[simp] theorem regsBut_fin (l : List Field) (s t : Machine.State) : RegsBut l s t.fin ↔ RegsBut l s t := by simp [RegsBut]

@[simp] theorem sameMemory_fin (s t : Machine.State) : SameMemory s t.fin ↔ SameMemory s t := by simp [SameMemory]

/-- A raised event is pending at the end of the step. -/
theorem pending_fin {s : Machine.State} {e : Evt} (h : e.src ∈ s.raised.map fun x => x.evt.src) : Pending e s.fin := by
  obtain ⟨x, hx, he⟩ := List.mem_map.mp h
  have := s.fin_pend x hx
  simpa [Pending, he] using this

end Sys2Proof
end

