-- ==== Sys2Proof/Laws/Paths.lean ====
section
/-! SUPPORT. The two access paths: what an answered read and a latching read leave behind, and that neither touches the registers or the
memories. -/

namespace Sys2Proof.Machine

@[simp] theorem path_setPath (s : State) (p : Path) (x : PathState) : (s.setPath p x).path p = x := by cases p <;> rfl

@[simp] theorem setPath_regs (s : State) (p : Path) (x : PathState) : (s.setPath p x).regs = s.regs := by cases p <;> rfl
@[simp] theorem setPath_keep (s : State) (p : Path) (x : PathState) : (s.setPath p x).keep = s.keep := by cases p <;> rfl
@[simp] theorem setPath_deep (s : State) (p : Path) (x : PathState) : (s.setPath p x).deep = s.deep := by cases p <;> rfl
@[simp] theorem setPath_near (s : State) (p : Path) (x : PathState) : (s.setPath p x).near = s.near := by cases p <;> rfl
@[simp] theorem setPath_table (s : State) (p : Path) (x : PathState) : (s.setPath p x).table = s.table := by cases p <;> rfl
@[simp] theorem setPath_raised (s : State) (p : Path) (x : PathState) : (s.setPath p x).raised = s.raised := by cases p <;> rfl
@[simp] theorem setPath_ev (s : State) (p : Path) (x : PathState) : (s.setPath p x).ev = s.ev := by cases p <;> rfl
@[simp] theorem setPath_log (s : State) (p : Path) (x : PathState) : (s.setPath p x).log = s.log := by cases p <;> rfl
@[simp] theorem setPath_wall (s : State) (p : Path) (x : PathState) : (s.setPath p x).wall = s.wall := by cases p <;> rfl
@[simp] theorem setPath_sec (s : State) (p : Path) (x : PathState) : (s.setPath p x).sec = s.sec := by cases p <;> rfl
@[simp] theorem setPath_optime (s : State) (p : Path) (x : PathState) : (s.setPath p x).optime = s.optime := by cases p <;> rfl
@[simp] theorem setPath_free (s : State) (p : Path) (x : PathState) : (s.setPath p x).free = s.free := by cases p <;> rfl
@[simp] theorem setPath_r (s : State) (p : Path) (x : PathState) (g : Field) : (s.setPath p x).r g = s.r g := by cases p <;> rfl

/-- What an answered read leaves behind (R30). -/
theorem path_answerRead (s : State) (p : Path) (v : Nat) : (s.answerRead p v).path p = { s.path p with data := v } := by
  simp [State.answerRead]

/-- A latching read replaces the path's shadow (R27). -/
theorem path_latch (s : State) (p : Path) (ws : SMap Nat) : (s.latch p ws).path p = { s.path p with shadow := ws } := by
  simp [State.latch]

/-- A path's own state is a field that no update of the rest changes. -/
@[simp] theorem path_w (s : State) (f : Field) (v : Nat) (p : Path) : (s.w f v).path p = s.path p := by cases p <;> rfl
@[simp] theorem path_raise (s : State) (e : Evt) (l : List Arg) (p : Path) : (s.raise e l).path p = s.path p := by cases p <;> rfl
@[simp] theorem path_took (s : State) (p : Path) : s.took.path p = s.path p := by cases p <;> rfl
@[simp] theorem path_modSec (s : State) (f : SecState → SecState) (p : Path) : (s.modSec f).path p = s.path p := by cases p <;> rfl

end Sys2Proof.Machine
end

