-- ==== Sys2Proof/Laws/Stores.lean ====
section
/-! SUPPORT. The stores: a memory reads back what was written and nothing else changes, every operation over a memory or the
register-field file keeps its canonical form, and the reset state has it. -/

namespace Sys2Proof.Machine

/-! ### Reading after writing -/

@[simp] theorem memGet_memPut_same (m : Mem) (a : Nat) (b : Byte) : memGet (memPut m a b) a = b := by simp [memGet, memPut]

theorem memGet_memPut_ne (m : Mem) (a c : Nat) (b : Byte) (h : c ≠ a) : memGet (memPut m a b) c = memGet m c :=
  SMap.get_put_ne m a c b 0 0 h

/-- A write of bytes leaves every address below it alone. -/
theorem memGet_memWrite_below (bs : List Byte) (m : Mem) (a c : Nat) (h : c < a) : memGet (memWrite m a bs) c = memGet m c := by
  induction bs generalizing m a with
  | nil => rfl
  | cons b rest ih => rw [memWrite, ih _ _ (by omega), memGet_memPut_ne _ _ _ _ (by omega)]

/-- A write of bytes leaves every address beyond it alone. -/
theorem memGet_memWrite_above (bs : List Byte) (m : Mem) (a c : Nat) (h : a + bs.length ≤ c) :
    memGet (memWrite m a bs) c = memGet m c := by
  induction bs generalizing m a with
  | nil => rfl
  | cons b rest ih =>
    simp only [List.length_cons] at h
    rw [memWrite, ih _ _ (by omega), memGet_memPut_ne _ _ _ _ (by omega)]

/-- A write of bytes leaves every address outside it alone. -/
theorem memGet_memWrite_outside (bs : List Byte) (m : Mem) (a c : Nat) (h : c < a ∨ a + bs.length ≤ c) :
    memGet (memWrite m a bs) c = memGet m c :=
  h.elim (memGet_memWrite_below bs m a c) (memGet_memWrite_above bs m a c)

/-- A write of bytes is read back byte by byte. -/
theorem memGet_memWrite_at (bs : List Byte) (m : Mem) (a i : Nat) (h : i < bs.length) :
    memGet (memWrite m a bs) (a + i) = bs[i] := by
  induction bs generalizing m a i with
  | nil => simp at h
  | cons b rest ih =>
    cases i with
    | zero =>
      rw [memWrite, Nat.add_zero, memGet_memWrite_below _ _ _ _ (by omega)]
      simp
    | succ i =>
      simp only [List.length_cons] at h
      rw [memWrite, show a + (i + 1) = a + 1 + i by omega, ih _ _ _ (by omega)]
      simp

/-- What was written is read back. -/
@[simp] theorem memRead_memWrite (m : Mem) (a : Nat) (bs : List Byte) : memRead (memWrite m a bs) a bs.length = bs := by
  apply List.ext_getElem
  · simp [memRead]
  · intro i h1 h2
    simp only [memRead, List.getElem_map, List.getElem_range]
    exact memGet_memWrite_at bs m a i h2

/-! ### The canonical form -/

theorem memPut_wf {m : Mem} (a : Nat) (b : Byte) (h : Memory.wf m = true) : Memory.wf (memPut m a b) = true := by
  simp only [Memory.wf, Bool.and_eq_true] at h ⊢
  refine ⟨SMap.sorted_put a b 0 h.1, ?_⟩
  unfold memPut SMap.put
  by_cases hb : b = 0
  · rw [if_pos hb]; exact SMap.all_erase _ m a h.2
  · rw [if_neg hb]; exact SMap.all_insert _ m a b h.2 (by simpa using hb)

/-- A write keeps a memory's canonical form. -/
theorem memWrite_wf (bs : List Byte) {m : Mem} (a : Nat) (h : Memory.wf m = true) : Memory.wf (memWrite m a bs) = true := by
  induction bs generalizing m a with
  | nil => exact h
  | cons b rest ih => exact ih _ (memPut_wf a b h)

theorem sortedFrom_filter {α : Type} (p : Nat × α → Bool) {m : SMap α} {a : Nat} (h : SMap.sortedFrom a m = true) :
    SMap.sortedFrom a (m.filter p) = true := by
  induction m generalizing a with
  | nil => rfl
  | cons c rest ih =>
    obtain ⟨j, w⟩ := c
    simp only [SMap.sortedFrom, Bool.and_eq_true, decide_eq_true_eq] at h
    by_cases hp : p (j, w) = true
    · simp only [List.filter_cons, hp, if_true, SMap.sortedFrom, Bool.and_eq_true, decide_eq_true_eq]
      exact ⟨h.1, ih h.2⟩
    · simp only [List.filter_cons, hp]
      exact ih (SMap.sortedFrom_le h.2 (by omega))

/-- Dropping entries keeps a memory's canonical form. -/
theorem filter_wf (p : Nat × Byte → Bool) {m : Mem} (h : Memory.wf m = true) : Memory.wf (m.filter p) = true := by
  simp only [Memory.wf, Bool.and_eq_true] at h ⊢
  refine ⟨sortedFrom_filter p h.1, ?_⟩
  simp only [memNonzero, List.all_eq_true] at h ⊢
  exact fun x hx => h.2 x (List.mem_of_mem_filter hx)

/-- A write of a field keeps the file's canonical form. -/
theorem w_regsWf {s : State} (f : Field) (v : Nat) (h : regsWf s.regs = true) : regsWf (s.w f v).regs = true :=
  SMap.sorted_put f.key (v % 2 ^ f.width) f.reset h

/-- A field written by the 8440 holds a value of its width. -/
theorem r_w_lt (s : State) (f : Field) (v : Nat) : (s.w f v).r f < 2 ^ f.width := by
  simp only [State.r, State.w, SMap.get_put_same]
  exact Nat.mod_lt _ (Nat.two_pow_pos _)

/-! ### The seal fields -/

/-- Where the STATE of a write target lies. -/
theorem sealField_place (n : Nat) : (sealField n).addr = 0x10000 ∧ 8 ≤ (sealField n).lo ∧ (sealField n).lo ≤ 20 ∧
    (sealField n).width = 3 := by
  unfold sealField
  split
  · decide
  · split
    · decide
    · split <;> decide

/-- A field of another register is not a target's STATE. -/
theorem sealField_ne (n : Nat) (f : Field) (h : f.addr ≠ 0x10000) (h2 : f.lo < 32) : f.key ≠ (sealField n).key := by
  have := sealField_place n
  unfold Field.key
  omega

end Sys2Proof.Machine

namespace Sys2Proof

open Sys2Proof.Machine

/-- A state with the same stores is as canonical. -/
theorem Canonical.of_same {s t : Machine.State} (h : Canonical s) (e : t.regs = s.regs) (m : SameMemory s t) : Canonical t := by
  obtain ⟨h1, h2, h3, h4, h5⟩ := h
  obtain ⟨m1, m2, m3, m4⟩ := m
  exact ⟨by rw [e]; exact h1, by rw [m1]; exact h2, by rw [m3]; exact h3, by rw [m4]; exact h4, by rw [m2]; exact h5⟩

/-- The end of a step keeps the canonical form (R374). -/
theorem Canonical.fin {s : Machine.State} (h : Canonical s) : Canonical s.fin :=
  h.of_same (by simp) (by simp [SameMemory])

/-- A write of a field keeps the canonical form. -/
theorem Canonical.w {s : Machine.State} (h : Canonical s) (f : Field) (v : Nat) : Canonical (s.w f v) :=
  ⟨w_regsWf f v h.1, h.2⟩

/-- The memories of the reset state are in canonical form. -/
theorem reset_memories : Memory.wf Machine.State.reset.keep = true ∧ Memory.wf Machine.State.reset.near = true ∧
    Memory.wf Machine.State.reset.table = true ∧ Machine.State.reset.deep.all Memory.wf = true := ⟨rfl, rfl, rfl, rfl⟩

end Sys2Proof
end

