-- ==== Sys2Proof/Laws/Records.lean ====
section
/-! SUPPORT. CRC values fit their words, a part of what was written is read back, and the lengths of a recorder copy's parts. -/

namespace Sys2Proof.Machine

theorem crcReflBit_lt (poly c : Nat) (p : poly < 2 ^ 32) (h : c < 2 ^ 32) : crcReflBit poly c < 2 ^ 32 := by
  unfold crcReflBit
  split
  · exact Nat.xor_lt_two_pow (by omega) p
  · omega

theorem iter_lt {f : Nat → Nat} {b : Nat} (hf : ∀ c, c < b → f c < b) (n c : Nat) (h : c < b) : iter f n c < b := by
  induction n generalizing c with
  | zero => exact h
  | succ n ih => exact ih _ (hf c h)

theorem crcRefl_lt (poly c : Nat) (bs : List Byte) (p : poly < 2 ^ 32) (h : c < 2 ^ 32) : crcRefl poly c bs < 2 ^ 32 := by
  unfold crcRefl
  induction bs generalizing c with
  | nil => exact h
  | cons b rest ih =>
    refine ih _ (iter_lt (fun c h => crcReflBit_lt poly c p h) 8 _ (Nat.xor_lt_two_pow h ?_))
    have := b.isLt
    omega

/-- CRC-32 and CRC-32C are words. -/
theorem crc32_lt (bs : List Byte) : crc32 bs < 2 ^ 32 := Nat.xor_lt_two_pow (crcRefl_lt _ _ bs (by decide) (by decide)) (by decide)
theorem crc32c_lt (bs : List Byte) : crc32c bs < 2 ^ 32 := Nat.xor_lt_two_pow (crcRefl_lt _ _ bs (by decide) (by decide)) (by decide)

/-- A part of what was written is read back. -/
theorem memRead_memWrite_part (m : Mem) (a o n : Nat) (bs : List Byte) (h : o + n ≤ bs.length) :
    memRead (memWrite m a bs) (a + o) n = (bs.drop o).take n := by
  apply List.ext_getElem
  · simp [memRead]; omega
  · intro i h1 h2
    simp only [memRead, List.getElem_map, List.getElem_range, List.getElem_take, List.getElem_drop]
    have : i < n := by simpa [memRead] using h1
    rw [Nat.add_assoc]
    exact memGet_memWrite_at bs m a (o + i) (by omega)

/-- The parts of a recorder copy: 56 bytes of header, CRC, VALID, 4,032 bytes of body (Table 13-2). -/
@[simp] theorem RecSlot.head_length (r : RecSlot) (gen seconds pcc : Nat) : (r.head gen seconds pcc).length = 56 := by
  simp [RecSlot.head]

theorem padTo_length (n : Nat) (bs : List Byte) (h : bs.length ≤ n) : (padTo n bs).length = n := by
  simp [padTo]; omega

@[simp] theorem RecSlot.body_length (r : RecSlot) : r.body.length = 4032 := padTo_length _ _ (by simp [List.length_take])

@[simp] theorem RecSlot.copy_length (r : RecSlot) (gen seconds pcc : Nat) : (r.copy gen seconds pcc).length = 4096 := by
  simp [RecSlot.copy]

/-- A copy as it was written passes the check of a start (R391). -/
theorem recOk_of_copy (s : State) (m : Mem) (r : RecSlot) (slot copy gen seconds pcc : Nat)
    (h : s.keep = memWrite m (recBase slot copy) (r.copy gen seconds pcc)) : s.recOk slot copy = true := by
  have p (o n : Nat) (b : o + n ≤ 4096) : memRead s.keep (recBase slot copy + o) n = ((r.copy gen seconds pcc).drop o).take n := by
    rw [h]; exact memRead_memWrite_part m _ o n _ (by rw [RecSlot.copy_length]; exact b)
  have z : memRead s.keep (recBase slot copy) 56 = _ := p 0 56 (by decide)
  have c := crc32c_lt (r.head gen seconds pcc ++ r.body)
  simp only [State.recOk, memLe, p 0x3C 4 (by decide), p 64 4032 (by decide), p 0x38 4 (by decide), z]
  have d (n : Nat) (b : 56 ≤ n) : (r.head gen seconds pcc).drop n = [] := List.drop_eq_nil_of_le (by simpa using b)
  have e (n v : Nat) (b : 4 ≤ n) : (leBytes 4 v).drop n = [] := List.drop_eq_nil_of_le (by simpa using b)
  have f : r.body.take 4032 = r.body := List.take_of_length_le (by simp)
  simp [RecSlot.copy, List.drop_append, leNat_leBytes, recValid, d, e, f]
  omega

end Sys2Proof.Machine
end

