-- ==== Sys2Proof/Laws/Regs.lean ====
section
/-! SUPPORT. The register tables: the fields of a register lie at its address and at distinct bits, and what a plain write does. -/

namespace Sys2Proof

open Sys2Proof.Machine

/-- A row's registers hold fields at their own address and at distinct bits below 32. -/
def rowOk (row : RegRow) : Bool :=
  (List.range row.count).all fun i =>
    decide ((row.fields i).map Field.lo).Nodup && (row.fields i).all fun f => f.addr == row.base + row.stride * i && decide (f.lo < 32)

theorem rows_ok_low : (identityRows ++ imageRows ++ dispatcherRows ++ positionRows ++ reticleRows ++ tripsRows).all rowOk = true := by
  decide +kernel
theorem rows_ok_facets : facetsRows.all rowOk = true := by decide +kernel
theorem rows_ok_mid : (loopsRows ++ safetyRows ++ fieldIoRows ++ networksRows).all rowOk = true := by decide +kernel
theorem rows_ok_high : (mirrorRows ++ logsRows ++ eventsRows ++ powerRows ++ securityRows).all rowOk = true := by decide +kernel

theorem blockRows_ok (b : Nat) : (blockRows b).all rowOk = true := by
  have h1 := rows_ok_low; have h2 := rows_ok_facets; have h3 := rows_ok_mid; have h4 := rows_ok_high
  simp only [List.all_append, Bool.and_eq_true] at h1 h3 h4
  unfold blockRows
  split <;> simp_all

theorem fieldsIn_ok (rows : List RegRow) (h : rows.all rowOk = true) (a : Nat) :
    ((fieldsIn rows a).map Field.lo).Nodup ∧ ∀ f ∈ fieldsIn rows a, f.addr = a ∧ f.lo < 32 := by
  induction rows with
  | nil => simp [fieldsIn]
  | cons row rest ih =>
    simp only [List.all_cons, Bool.and_eq_true] at h
    simp only [fieldsIn]
    cases e : row.at? a with
    | none => simpa [e] using ih h.2
    | some fs =>
      simp only [RegRow.at?] at e
      split at e
      · simp at e
      · split at e
        · rename_i hb hc
          simp only [Bool.and_eq_true, decide_eq_true_eq, beq_iff_eq] at hc
          simp only [Option.some.injEq] at e
          subst e
          have hr := List.all_eq_true.mp h.1 ((a - row.base) / row.stride) (List.mem_range.mpr hc.1)
          simp only [Bool.and_eq_true, decide_eq_true_eq, List.all_eq_true, beq_iff_eq] at hr
          refine ⟨hr.1, fun f hf => ⟨?_, (hr.2 f hf).2⟩⟩
          rw [(hr.2 f hf).1]
          have := Nat.div_add_mod (a - row.base) row.stride
          omega
        · simp at e

/-- The fields of a register lie at its address, at distinct bits. -/
theorem fieldsAt_ok (a : Nat) : ((fieldsAt a).map Field.lo).Nodup ∧ ∀ f ∈ fieldsAt a, f.addr = a ∧ f.lo < 32 := by
  unfold fieldsAt
  split
  · have h := fieldsIn_ok safetyRows (by have := rows_ok_mid; simp only [List.all_append, Bool.and_eq_true] at this; exact this.1.1.2)
      (a - 0x400)
    refine ⟨by simpa [Function.comp_def] using h.1, fun f hf => ?_⟩
    obtain ⟨g, hg, rfl⟩ := List.mem_map.mp hf
    exact ⟨rfl, (h.2 g hg).2⟩
  · exact fieldsIn_ok _ (blockRows_ok _) a

/-- The fields of a register have distinct keys. -/
theorem fieldsAt_nodup (a : Nat) : ((fieldsAt a).map Field.key).Nodup := by
  have h := fieldsAt_ok a
  have e : (fieldsAt a).map Field.key = ((fieldsAt a).map Field.lo).map (fun n => a * 32 + n) := by
    rw [List.map_map]
    exact List.map_congr_left fun f hf => by simp [Field.key, (h.2 f hf).1]
  rw [e]
  exact h.1.map (fun x y hxy => by simpa using hxy)

/-- A write of one field by its access code: that field's new value. -/
def fieldAfter (v : Nat) (s : Machine.State) (f : Field) : Nat :=
  match f.acc with
  | .rw => v / 2 ^ f.lo % 2 ^ f.width
  | .w1c => Nat.land (s.r f) (Nat.xor (v / 2 ^ f.lo % 2 ^ f.width) (2 ^ f.width - 1)) % 2 ^ f.width
  | _ => s.r f

theorem r_fieldWrite (v : Nat) (s : Machine.State) (f : Field) : (fieldWrite v s f).r f = fieldAfter v s f := by
  unfold fieldWrite fieldAfter
  cases f.acc <;> simp

theorem r_fieldWrite_ne (v : Nat) (s : Machine.State) (f g : Field) (h : g.key ≠ f.key) : (fieldWrite v s f).r g = s.r g := by
  unfold fieldWrite
  split <;> simp [State.r_w_ne _ _ _ _ h]

theorem r_foldl_fieldWrite_ne (v : Nat) (l : List Field) (g : Field) (s : Machine.State) (h : g.key ∉ l.map Field.key) :
    (l.foldl (fieldWrite v) s).r g = s.r g := by
  induction l generalizing s with
  | nil => rfl
  | cons f l ih =>
    simp only [List.map_cons, List.mem_cons, not_or] at h
    rw [List.foldl_cons, ih _ h.2, r_fieldWrite_ne _ _ _ _ h.1]

theorem r_foldl_fieldWrite (v : Nat) (l : List Field) (hl : (l.map Field.key).Nodup) (g : Field) (hg : g ∈ l) (s : Machine.State) :
    (l.foldl (fieldWrite v) s).r g = fieldAfter v s g := by
  induction l generalizing s with
  | nil => simp at hg
  | cons f l ih =>
    simp only [List.map_cons, List.nodup_cons] at hl
    rw [List.foldl_cons]
    rcases List.mem_cons.mp hg with rfl | hm
    · rw [r_foldl_fieldWrite_ne _ _ _ _ hl.1, r_fieldWrite]
    · have hne : g.key ≠ f.key := fun e => hl.1 (e ▸ List.mem_map_of_mem hm)
      rw [ih hl.2 hm]
      simp [fieldAfter, r_fieldWrite_ne _ _ _ _ hne]

/-- Everything a plain write does to the registers: each field of the register by its access code, no other field. -/
theorem r_plainWrite (a v : Nat) (s : Machine.State) :
    (∀ g ∈ fieldsAt a, (plainWrite a v s).r g = fieldAfter v s g) ∧ RegsBut (fieldsAt a) s (plainWrite a v s) :=
  ⟨fun g hg => r_foldl_fieldWrite v _ (fieldsAt_nodup a) g hg s, fun g hg => r_foldl_fieldWrite_ne v _ g s hg⟩

/-- A plain write touches nothing but the register fields. -/
theorem plainWrite_regs (a v : Nat) (s : Machine.State) : plainWrite a v s = { s with regs := (plainWrite a v s).regs } := by
  unfold plainWrite
  generalize fieldsAt a = l
  induction l generalizing s with
  | nil => rfl
  | cons f l ih =>
    rw [List.foldl_cons, ih]
    have : fieldWrite v s f = { s with regs := (fieldWrite v s f).regs } := by unfold fieldWrite; cases f.acc <;> rfl
    rw [this]

end Sys2Proof
end

