-- ==== Sys2Proof/Laws/Shared.lean ====
section
/-! SUPPORT. What the shared operations can do, each said once: a port's queue, the snapshot banks, the external ports of the dispatcher,
a recorder copy. -/

namespace Sys2Proof.Machine

/-! ### Queues of a port (R321) -/

/-- A frame that finds room stands behind the others of its class at its port; no other queue and no register changes. -/
theorem enqueue_room {p c : Nat} {s : State} (f : NetFrame) (h : (queueOf s p c).length < classCap c) :
    (enqueue p c f s).regs = s.regs ∧ queueOf (enqueue p c f s) p c = queueOf s p c ++ [f] ∧
      ∀ q d, q ≠ p ∨ d ≠ c → queueOf (enqueue p c f s) q d = queueOf s q d := by
  have he : enqueue p c f s =
      s.modPort p (fun x => { x with queues := setAt x.queues c (queueOf s p c ++ [f]) [] }) := if_pos h
  rw [he]
  refine ⟨rfl, ?_, ?_⟩
  · simp only [queueOf, State.port, State.modPort, State.modNet, nth_modAt_same, nth_setAt_same]
  · intro q d hqd
    by_cases hq : q = p
    · subst hq
      have hd : d ≠ c := hqd.resolve_left (fun x => x rfl)
      simp only [queueOf, State.port, State.modPort, State.modNet, nth_modAt_same]
      exact nth_setAt_ne _ _ _ _ _ hd
    · simp only [queueOf, State.port, State.modPort, State.modNet]
      rw [nth_modAt_ne _ _ _ _ _ hq]

/-- A frame that finds its queue full is dropped and counted. -/
theorem enqueue_full {p c : Nat} {s : State} (f : NetFrame) (h : classCap c ≤ (queueOf s p c).length) :
    enqueue p c f s = s.inc (droppedField p) := by
  unfold queueOf at h
  simp [enqueue, Nat.not_lt.mpr h]

/-! ### Snapshot banks (R345) -/

/-- A bank takes a state; the others keep theirs. -/
theorem bank_setBank {b v : Nat} (s : State) (hb : b < 4) (hv : v < 4) (c : Nat) (hc : c < 4) :
    (setBank b v s).bank c = if c = b then v else s.bank c := by
  have hr : ∀ f, (if v = 2 then s else s.modAps f).r Reg.NET_SNAP_STATUS_BANKS = s.r Reg.NET_SNAP_STATUS_BANKS := by
    intro f; split <;> rfl
  simp only [State.bank, setBank, State.r_w_same, hr, show Reg.NET_SNAP_STATUS_BANKS.width = 8 from rfl]
  generalize s.r Reg.NET_SNAP_STATUS_BANKS = r
  interval_cases b <;> interval_cases c <;> simp <;> omega

/-! ### External ports (R80) -/

/-- An occurrence at a port whose counter is not bound changes nothing but an exit cause of Parked. -/
theorem post_unbound {s : State} {port key : Nat} (h : portCounter s.dsp port key = none) :
    (s.post port key).dsp = s.dsp ∧ (s.post port key).regs = s.regs := by
  have hw : ∀ c, (s.wake c).dsp = s.dsp ∧ (s.wake c).regs = s.regs := by
    intro c; unfold State.wake; split <;> exact ⟨rfl, rfl⟩
  unfold State.post
  extract_lets u
  have hu : u.dsp = s.dsp ∧ u.regs = s.regs := by
    simp only [u]
    split
    · exact hw 1
    · split
      · exact hw 6
      · exact ⟨rfl, rfl⟩
  rw [hu.1, h, ite_self]
  exact hu

/-- Outside the loop ports an occurrence changes no register. -/
theorem post_regs (s : State) {port : Nat} (key : Nat) (h7 : port ≠ 7) (h8 : port ≠ 8) : (s.post port key).regs = s.regs := by
  have hw : ∀ c, (s.wake c).regs = s.regs := by intro c; unfold State.wake; split <;> rfl
  unfold State.post
  extract_lets u
  have hu : u.regs = s.regs := by
    simp only [u]
    split
    · exact hw 1
    · split
      · exact hw 6
      · rfl
  split
  · exact hu
  · split
    · exact hu
    · have h : ¬((decide (port = 7) || decide (port = 8)) = true) := by simp [h7, h8]
      rw [if_neg h]
      split <;> exact hu

/-! ### Recorder copies (R389) -/

@[simp] theorem recHead_length (r : RecSlot) (gen seconds pcc : Nat) : (r.head gen seconds pcc).length = 56 := by simp [RecSlot.head]

@[simp] theorem recBody_length (r : RecSlot) : r.body.length = 4032 := by
  simp only [RecSlot.body, padTo, List.length_append, List.length_take, List.length_replicate]
  omega

/-- A copy is 4 KiB long. -/
@[simp] theorem recCopy_length (r : RecSlot) (gen seconds pcc : Nat) : (r.copy gen seconds pcc).length = 4096 := by
  simp [RecSlot.copy]

/-- A commit of a slot writes within the slot alone (R390). -/
theorem recCommitSlot_outside (bad : Option Nat) (s : State) (slot a : Nat) (h : a < recBase slot 0 ∨ recBase (slot + 1) 0 ≤ a) :
    memGet (recCommitSlot bad s slot).keep a = memGet s.keep a := by
  unfold recCommitSlot
  extract_lets new copy gen b hit
  have hcopy : copy ≤ 1 := by
    have key : ∀ n : Option Nat, (match n with | some c => 1 - c | none => 0) ≤ 1 := by
      intro n; cases n <;> simp
    exact key new
  have hb : b = 0xC00000 + slot * 0x2000 + copy * 0x1000 := rfl
  simp only [recBase] at h
  clear_value b copy gen
  split
  · refine memGet_memWrite_outside _ _ _ _ ?_
    simp only [leBytes_length]; omega
  · split
    · rfl
    · rename_i r _
      have hl := recCopy_length r gen (s.r Reg.PWR_OP_SECONDS) s.pcc
      generalize r.copy gen (s.r Reg.PWR_OP_SECONDS) s.pcc = bs at hl ⊢
      exact memGet_memWrite_outside _ _ _ _ (by omega)

end Sys2Proof.Machine
end

