-- ==== Sys2Proof/Tests/Slice0.lean ====
section
/-! SUPPORT. Small tests of the model, and for every statement of Certificates/Slice0/Obligations.lean a concrete state and operands
that meet the hypotheses of each of its clauses. -/

namespace Sys2Proof.Tests

set_option Elab.async false

open Sys2Proof Sys2Proof.Machine

/-- The state after reset with the register fields listed. -/
def st (l : List (Field × Nat)) : Machine.State := l.foldl (fun s x => s.w x.1 x.2) Machine.State.reset

/-- The same with its supplies valid. -/
def up (l : List (Field × Nat)) : Machine.State := { st l with pwr := { (st l).pwr with supplied := true } }

/-- A standing car at car stop 1 that has loaded its image, with the register fields listed. -/
def stand (l : List (Field × Nat)) : Machine.State :=
  st ([(Reg.IMG_MODULE_STATE_PHASE, 1), (Reg.IMG_MODULE_STATE_LISTENING, 0), (Reg.TRIP_STATUS_CAR_STOP, 1)] ++ l)

/-- A host-port frame with its CRC byte (R28). -/
def busFrame (op addr data : Nat) : List Byte :=
  let b := leBytes 1 op ++ leBytes 4 addr ++ leBytes 4 data
  b ++ leBytes 1 (crc8 b)

/-! ### Register access -/

/-- A read of ID_PART; a no-operation, a frame of another op byte, a damaged and an early frame. -/
theorem wit_HostReadsAndFramesComplete :
    (let f := busFrame 0x0B 0 0
     (up []).down = false ∧ (up []).hostWait ≤ 200 ∧ frameGood f = true ∧ leAt f 0 1 = 0x0B ∧ addrValid (leAt f 1 4) = true) ∧
    (let f := busFrame 0 0 0
     (up []).pathHost.ap.filling = false ∧ (up []).hostWait ≤ 200 ∧ frameGood f = true ∧ leAt f 0 1 = 0) ∧
    (let f := busFrame 0x7F 0 0
     frameGood f = true ∧ leAt f 0 1 ≠ 0 ∧ leAt f 0 1 ≠ 0x0B ∧ leAt f 0 1 ≠ 0x02) ∧
    frameGood (List.replicate 10 1) = false ∧ frameGood [] = false ∧
    (let s := { up [] with host := { (up []).host with holdNs := 200 } }
     s.down = false ∧ s.pathHost.ap.filling = false ∧ 199 < s.hostWait) := by decide +kernel

/-- Writes of an RW register and of a register with a W1C field, outside Table 01-6, misaligned and to a window. -/
theorem wit_HostWriteCompletes :
    (up []).down = false ∧ (up []).hostWait ≤ 200 ∧ (up []).pathHost.ap.filling = false ∧
    (let f := busFrame 0x02 0x10034 7
     frameGood f = true ∧ leAt f 0 1 = 0x02 ∧ addrValid (leAt f 1 4) = true ∧ ownWrite (leAt f 1 4) = false ∧
       (up []).writeRefused .host (leAt f 1 4) (leAt f 5 4) = false ∧ Reg.IMG_DIGEST_SEL ∈ fieldsAt (leAt f 1 4) ∧
       Reg.IMG_DIGEST_SEL.acc = .rw) ∧
    (let f := busFrame 0x02 0x70000 0x01000000
     frameGood f = true ∧ leAt f 0 1 = 0x02 ∧ addrValid (leAt f 1 4) = true ∧ ownWrite (leAt f 1 4) = false ∧
       (up []).writeRefused .host (leAt f 1 4) (leAt f 5 4) = false ∧ Reg.LOOP_STATUS_CMD_REFUSED ∈ fieldsAt (leAt f 1 4) ∧
       Reg.LOOP_STATUS_CMD_REFUSED.acc = .w1c) ∧
    (let f := busFrame 0x02 0x00100000 1
     frameGood f = true ∧ leAt f 0 1 = 0x02 ∧ addrValid (leAt f 1 4) = false) ∧
    (let f := busFrame 0x02 2 1
     frameGood f = true ∧ leAt f 0 1 = 0x02 ∧ addrValid (leAt f 1 4) = false) ∧
    (let f := busFrame 0x02 0x10000000 1
     frameGood f = true ∧ leAt f 0 1 = 0x02 ∧ addrValid (leAt f 1 4) = true ∧ addrWindow (leAt f 1 4) = true) := by decide +kernel

/-- A plain register with RO and W1C fields, a window, and a latching read and its second register. -/
theorem wit_RegisterWritesAndLatchingReadsComplete :
    ((2 ^ 32 - 1 : Nat) < 2 ^ 32 ∧ addrValid 0x70000 = true ∧ (st []).writeRefused (.mgmt 0 1) 0x70000 (2 ^ 32 - 1) = false ∧
      ownWrite 0x70000 = false ∧ Reg.LOOP_STATUS_FAULT ∈ fieldsAt 0x70000 ∧ Reg.LOOP_STATUS_FAULT.acc = .ro ∧
      Reg.LOOP_STATUS_CMD_REFUSED ∈ fieldsAt 0x70000) ∧
    (addrValid 0x20000000 = true ∧ addrWindow 0x20000000 = true) ∧
    (let u := (st []).setPath .host { (st []).path .host with shadow := [(8, (st []).word .host 8)] }
     (4, [8]) ∈ latchTable ∧ 8 ∈ [8] ∧ u.r Reg.IMG_MODULE_STATE_PHASE ≠ 7 ∧ (u.path .host).shadow = [8].map (fun b => (b, (st []).word .host b))) := by decide +kernel

/-! ### Images -/

/-- A seal record for a target. -/
def withSeal (n : Nat) (x : SealRec) (s : Machine.State) : Machine.State := s.setSeal n x

/-- BEGIN, data, FINISH, ABORT, timeout and the end of the checks. -/
theorem wit_ImgWriteSessionCompletes :
    (let s := st [(Reg.IMG_WRITE_LEN, 6291456)]
     s.r Reg.IMG_MODULE_STATE_PHASE ≠ 7 ∧ s.sessionOpen = false ∧ 0 < s.r Reg.IMG_WRITE_LEN ∧ s.r Reg.IMG_WRITE_LEN % 4096 = 0 ∧ s.r Reg.IMG_WRITE_LEN ≤ storedLimit 1 ∧
       s.targetInUse 1 = false ∧ s.targetInUse 3 = false ∧ s.r Reg.IMG_WRITE_LEN ≤ storedLimit 3) ∧
    (let s := st [(Reg.IMG_WRITE_LEN, 4096), (Reg.IMG_WRITE_STATUS_STATE, 1), (Reg.IMG_WRITE_COUNT, 4092)]
     s.r Reg.IMG_MODULE_STATE_PHASE ≠ 7 ∧ s.r Reg.IMG_WRITE_STATUS_STATE = 1 ∧ s.img.sessPath = .host ∧
       s.r Reg.IMG_WRITE_COUNT < s.r Reg.IMG_WRITE_LEN) ∧
    (let s := st [(Reg.IMG_WRITE_LEN, 4096), (Reg.IMG_WRITE_STATUS_STATE, 1), (Reg.IMG_WRITE_COUNT, 4096)]
     s.r Reg.IMG_MODULE_STATE_PHASE ≠ 7 ∧ s.r Reg.IMG_WRITE_STATUS_STATE = 1 ∧ s.img.sessPath = .host ∧
       s.r Reg.IMG_WRITE_LEN ≤ s.r Reg.IMG_WRITE_COUNT) ∧
    (let s := { st [(Reg.IMG_WRITE_STATUS_STATE, 1)] with optime := 10000000 }
     s.r Reg.IMG_WRITE_STATUS_STATE = 1 ∧ 10000000 ≤ s.since s.img.sessLast) ∧
    (let s := st [(Reg.IMG_WRITE_STATUS_STATE, 2), (Reg.IMG_WRITE_STATUS_TARGET, 3)]
     s.r Reg.IMG_WRITE_STATUS_STATE = 2 ∧ s.r Reg.IMG_WRITE_STATUS_TARGET = 3) := by decide +kernel

/-- Activation accepted and refused, staging, its abort. -/
theorem wit_ImgActivateAndStageCompletes :
    (let s := (st [(sealField 1, 2), (sealField 3, 2)]).setSeal 1 { atlas := 5 } |>.setSeal 3 { digest := 5 }
     s.verified 1 = true ∧ s.atlasHeld (s.sealOf 1).atlas = true) ∧
    (st []).verified 0 = false ∧
    (let s := (st [(sealField 0, 2)])
     s.verified 0 = true ∧ s.atlasHeld (s.sealOf 0).atlas = false) ∧
    (let s := st []
     s.r Reg.IMG_MODULE_STATE_PHASE ≠ 7 ∧ s.r Reg.IMG_STATUS_TS_INCOMING_STATE ≠ 1 ∧ s.r Reg.IMG_STATUS_TS_INCOMING_STATE ≠ 4 ∧ s.sessionOn 1 = false) ∧
    (let s := st [(Reg.IMG_STATUS_TS_INCOMING_STATE, 1)]
     s.r Reg.IMG_MODULE_STATE_PHASE ≠ 7 ∧ s.r Reg.IMG_STATUS_TS_INCOMING_STATE = 1) := by decide +kernel

/-- The end of a staging with the digest of the seal record, and with another: the seal record is chosen by the digest computed. -/
theorem wit_ImgActivateAndStageCompletes_end (d : Digest) :
    let u := st [(Reg.IMG_STATUS_TS_INCOMING_STATE, 1), (Reg.IMG_STAGE_STATUS_SLOT, 1)]
    let s := u.setSeal 3 { digest := imageDigest (logicalRd (targetRd u 3)) + d }
    s.r Reg.IMG_STATUS_TS_INCOMING_STATE = 1 ∧ s.r Reg.IMG_STAGE_STATUS_SLOT = 1 ∧
      (d = 0 → imageDigest (logicalRd (targetRd s (2 + 1))) = (s.sealOf (2 + 1)).digest) ∧
      (d = 1 → imageDigest (logicalRd (targetRd s (2 + 1))) ≠ (s.sealOf (2 + 1)).digest) := by
  intro u s
  have e : s.sealOf 3 = { digest := imageDigest (logicalRd (targetRd u 3)) + d } := rfl
  have t : targetRd s 3 = targetRd u 3 := rfl
  have r1 : s.regs = u.regs := rfl
  refine ⟨?_, ?_, ?_, ?_⟩
  · simp only [State.r, r1]; decide +kernel
  · simp only [State.r, r1]; decide +kernel
  · intro h; simp [e, t, h]
  · intro h; simp [e, t, h]

/-! ### Dispatcher -/

/-- The state with another dispatcher. -/
def withDsp (d : DspState) (s : Machine.State) : Machine.State := { s with dsp := d }

/-- The register fields of a module whose graphs are released. -/
def run : List (Field × Nat) := [(Reg.IMG_MODULE_STATE_PHASE, 2)]

/-- A descriptor of node 3 at level 0. -/
def desc3 : Desc := { node := 3, prio := 0 }

/-- Logical facet 0 on facet 5, which runs `desc3`. -/
def running5 : DspState :=
  { map := some 5 :: List.replicate 95 none, facets := setNth (List.replicate 112 {}) 5 { running := some desc3 } }

/-- A fabric of one counter: bound to node 3 with an INITIAL. -/
def fab1 (n : Nat) : FabricTables := { counters := [{ initial := n, node := 3, hostOk := decide (n = 3) }] }

/-- A completion within its BUDGET and beyond it; a disabled, a counting and a firing counter. -/
theorem wit_CompletionsReadyListsAndPlacementComplete_completions :
    (let s := withDsp running5 (st [])
     s.parked = false ∧ (s.facet 5).running = some desc3 ∧ (s.facet 5).latch = none ∧ s.unitHeld = false ∧
       0 ≤ (s.node desc3.node).budget ∧ (s.node desc3.node).budget < 65536) ∧
    (let h : Hit := ⟨0, none, 0x7F, 2⟩
     let s n l := withDsp { fab := fab1 n, counts := l, portIn := [(2, ⟨0, none⟩)] } (st [])
     (∀ n < 4, ∀ l ∈ [[], [1], [2]], (s n l).parked = false ∧ (s n l).unitHeld = false ∧ (s n l).hits = [h]) ∧
       ((s 0 []).counter h.counter).initial = 0 ∧ ((s 3 [2]).counter h.counter).initial ≠ 0 ∧
       1 < nth (s 3 [2]).dsp.counts h.counter ((s 3 [2]).counter h.counter).initial ∧
       nth (s 3 [1]).dsp.counts h.counter ((s 3 [1]).counter h.counter).initial ≤ 1) := by decide +kernel

/-- Entry, back-pressure and placement. -/
theorem wit_CompletionsReadyListsAndPlacementComplete_placement :
    (let s n := withDsp { waiting := [⟨desc3, false⟩], ready := List.replicate n desc3 :: List.replicate 7 [] } (st [])
     (∀ n ∈ [255, 256], (s n).parked = false ∧ (s n).dsp.toEnter = [⟨desc3, false⟩] ∧ (s n).r Reg.DSP_STATUS_BACKPRESSURE = 0) ∧
       (nth (s 255).dsp.ready desc3.prio []).length < 256 ∧ 256 ≤ (nth (s 256).dsp.ready desc3.prio []).length) ∧
    (let s := withDsp { fab := { allocCount := 1, nodes := List.replicate 4 { poolFirst := 0, poolSize := 1 } },
                        map := some 5 :: List.replicate 95 none, ready := [desc3] :: List.replicate 7 [] } (st run)
     s.parked = false ∧ s.released = true ∧ s.dsp.ready = [desc3] :: List.replicate 7 [] ∧ s.discards desc3 = false ∧
       s.flowBusy desc3 = false ∧ s.chooseSlot desc3.node = some (0, 5, true)) ∧
    (let s := withDsp { running5 with
        fab := { allocCount := 1, nodes := List.replicate 4 { poolFirst := 0, poolSize := 1, flow := 0xFFF } }
        ready := List.replicate 7 [] ++ [desc3] :: List.replicate 0 [] } (st run)
     s.parked = false ∧ s.released = true ∧ s.dsp.ready = List.replicate 7 [] ++ [desc3] :: List.replicate (7 - 7) [] ∧
       s.discards desc3 = false ∧ s.flowBusy desc3 = false ∧ s.chooseSlot desc3.node = some (0, 5, false)) := by decide +kernel

/-- Delay lists below and at 512, a cancel, an expiry. -/
theorem wit_DelayListsPortsAndDoorbellComplete_lists :
    (let x : TimeEntry := ⟨0, 3, 0, 0, 0, false⟩
     let y : PosEntry := ⟨0, 3, 0, 0, 0, false, false⟩
     let s n := withDsp { running5 with timeList := List.replicate n x, up := List.replicate n y } (st [])
     (s 511).parked = false ∧ (s 511).dsp.inserts = [] ∧ (s 511).dsp.timeList.length < 512 ∧ (s 512).dsp.inserts = [] ∧
       (s 512).parked = false ∧ 512 ≤ (s 512).dsp.timeList.length ∧ (s 511).dsp.up.length + (s 511).dsp.down.length < 512 ∧
       512 ≤ (s 512).dsp.up.length + (s 512).dsp.down.length ∧ 5 < (s 512).dsp.facets.length ∧ (s 512).physOf 0 = some 5) ∧
    (let x : TimeEntry := ⟨5, 3, 0, 0, 0, false⟩
     let y : TimeEntry := ⟨6, 3, 0, 0, 0, false⟩
     let s := { withDsp { timeList := [x, y] } (st []) with optime := 5 }
     s.parked = false ∧ s.dsp.timeList = [x] ++ [y] ∧ (∀ z ∈ [x], z.due = false ∧ s.until_ z.expiry ≤ 0) ∧
       ∀ z ∈ [y], z.due = false ∧ 0 < s.until_ z.expiry) := by decide +kernel

/-- A port delivery, the doorbells, the peaks. -/
theorem wit_DelayListsPortsAndDoorbellComplete_ports :
    (let s := withDsp { ports := setNth (List.replicate 16 []) 15 [⟨0, none⟩] } (st run)
     15 < 16 ∧ s.parked = false ∧ s.released = true ∧ s.unitHeld = false ∧ s.dsp.portIn.length < 4 ∧ s.portTaken 15 = false ∧
       s.portsBefore 15 < 4 ∧ nth s.dsp.ports 15 [] = ⟨0, none⟩ :: []) ∧
    (let s n m := withDsp { fab := fab1 n, ports := setNth (List.replicate 16 []) 15 (List.replicate m ⟨0, none⟩) } (st run)
     (s 3 15).released = true ∧ (s 3 16).released = true ∧ ((s 3 15).counter 0).hostOk = true ∧
       (nth (s 3 15).dsp.ports 15 []).length < 16 ∧ ((s 3 16).counter 0).hostOk = true ∧
       16 ≤ (nth (s 3 16).dsp.ports 15 []).length ∧ ((s 2 0).counter 4095).hostOk = false) ∧
    (st []).r Reg.IMG_MODULE_STATE_PHASE ≠ 7 ∧ 1 % 2 = 1 := by decide +kernel

/-- The steps of an orderly relay. -/
theorem wit_RelaysAndFacetFaultsComplete_relays :
    (let s := withDsp { map := some 5 :: List.replicate 95 none, facets := List.replicate 112 { testPass := true } } (st [])
     let q := withDsp { s.dsp with requests := [(0, 3)] } s
     s.r Reg.IMG_MODULE_STATE_PHASE ≠ 7 ∧ (s.physOf 0).isSome = true ∧ s.relayBusy = false ∧ (∀ x ∈ s.dsp.requests, x.1 ≠ 0) ∧
       q.relayBusy = false ∧ q.dsp.requests = (0, 3) :: [] ∧ q.idleSpares.find? (fun p => (q.facet p).testPass) = some 0) ∧
    (let s n r := withDsp { map := some 5 :: List.replicate 95 none } (st [(Reg.DSP_RELAY_STATUS_STATE, n), (Reg.DSP_RELAY_STATUS_REASON, r)])
     (s 1 3).r Reg.DSP_RELAY_STATUS_STATE = 1 ∧ (s 1 3).r Reg.DSP_RELAY_STATUS_REASON ≠ 4 ∧ (s 2 3).r Reg.DSP_RELAY_STATUS_STATE = 2 ∧
       (s 3 3).r Reg.DSP_RELAY_STATUS_STATE = 3 ∧ ((s 3 3).facet ((s 3 3).r Reg.DSP_RELAY_STATUS_FROM_PHYS)).running = none ∧
       ((s 3 3).facet ((s 3 3).r Reg.DSP_RELAY_STATUS_FROM_PHYS)).pref = none ∧
       ((s 3 3).facet ((s 3 3).r Reg.DSP_RELAY_STATUS_FROM_PHYS)).latch = none) := by decide +kernel

/-- The faults of a facet and the end of a FAULT relay. -/
theorem wit_RelaysAndFacetFaultsComplete_faults :
    (let s := withDsp { running5 with facets := setNth running5.facets 0 { testPass := true } } (st [])
     s.parked = false ∧ (s.facet 5).running = some desc3 ∧ (s.facet 5).latch = none ∧ s.logicalOf 5 = some 0 ∧ s.relayBusy = false ∧
       s.idleSpares.find? (fun p => (s.facet p).testPass) = some 0) ∧
    (let s := st [(Reg.DSP_RELAY_STATUS_STATE, 1), (Reg.DSP_RELAY_STATUS_REASON, 4)]
     s.r Reg.DSP_RELAY_STATUS_STATE = 1 ∧ s.r Reg.DSP_RELAY_STATUS_REASON = 4) ∧
    (st []).logicalOf 111 = none ∧ (st []).fenced 111 = false ∧ 111 < (List.replicate 112 (0 : Nat)).length := by decide +kernel

/-! ### Position -/

/-- The state with another position front end. -/
def withPos (d : PosState) (s : Machine.State) : Machine.State := { s with pos := d }

/-- A car sample from QD5; an accepted reference edge; the sin/cos conditions. -/
theorem wit_CarSamplesAndSinCosComplete :
    (let x : RawSample := { time := 7, sc := [], qd := [] }
     let s := withPos { raw := some x, referenced := true } (st [(Reg.PFE_MODEL_CFG_MACH_SRC, 2), (Reg.PFE_QD_CFG_ENABLE 4, 1)])
     s.pos.raw = some x ∧ x.doors = false ∧ s.machOk = true ∧ s.r (Reg.PFE_SC_CFG_ENABLE 0) = 0 ∧
       s.r (Reg.PFE_SC_CFG_ENABLE 1) = 0 ∧ ∀ i, i < 256 → (s.slot 0 i).armed = false) ∧
    (let x : RefPoint := { pRef := 5, input := 1, rising := true, win := 5 }
     let g : RefEdge := ⟨1, true, 0, 0⟩
     let s := withPos { refs := [x], hist := [{ pos := 0, pm := 0, time := 0 }], edges := [g] } (st [])
     s.refEdge 1 true = some g ∧ refBest s g.at_ (refCandidates s g) = some (0, x, 5) ∧
       rerefAllowed s x = false ∧ mag 5 ≤ x.win ∧ 0 < 1023) ∧
    (let s := withPos { sc := [{}, { illegalQ := [12, 5, 1], indexLost := false }] } (st [(Reg.PFE_SC_CFG_LINES 1, 3)])
     (s.scChan 1).illegalQ = [12, 5, 1] ∧ mag ((12 : Int) - 1) < 4 * s.r (Reg.PFE_SC_CFG_LINES 1) ∧
       mag ((12 : Int) - 5) < 4 * s.r (Reg.PFE_SC_CFG_LINES 1) ∧ s.r (Reg.PFE_SC_STATUS_LOST 1) = 0 ∧
       (withPos s.pos (st [(Reg.PFE_MODEL_CFG_MACH_SRC, 1)])).machSc = some 1) ∧
    (let m : MarkPulse := ⟨⟨4, 5, 1, 2⟩, ⟨6, 7, 1, 2⟩, false⟩
     let s := withPos { sc := [{}, { mark := some m }] } (st [(Reg.PFE_SC_CFG_ENABLE 1, 1), (Reg.PFE_SC_CFG_MARK_EN 1, 1)])
     (s.scChan 1).mark = some m ∧ markTaken 1 m.illegal s = true ∧ s.r (Reg.PFE_SC_INDEX_COMMITTED 1) = 0) ∧
    (let s := st [(Reg.PFE_SC_INDEX_CONSEC 0, 3)]
     s.r (Reg.PFE_SC_INDEX_CONSEC 0) = 3 ∧ (s.scChan 0).indexLost = false ∧ s.machSc = some 0) ∧
    (let s := { st [] with optime := 10000000 }
     10000000 ≤ s.since (nth s.pos.calAt (2 * 1 + 1) 0) ∧ (List.replicate 16 (32 : Int)).length = 16 ∧
       (∀ d ∈ List.replicate 16 (32 : Int), mag d ≤ 32) ∧ ∃ d ∈ [(-33 : Int)], 32 < mag d) ∧
    (let s n := st [(Reg.PFE_SC_CFG_SUPPLY_ON 1, n), (Reg.PFE_SC_CFG_SUPPLY_12V 0, 1)]
     nth (s 1).pos.encOut (2 - 1) false = false ∧ (s 1).r (Reg.PFE_SC_CFG_SUPPLY_ON (2 - 1)) = 1 ∧
       (s 1).r (Reg.PFE_SC_CFG_SUPPLY_12V (2 - 1)) = 0 ∧ 4499 < 4500 ∧ 5500 < 5501 ∧ 300 < 301 ∧
       (s 0).r (Reg.PFE_SC_CFG_SUPPLY_ON (2 - 1)) = 0 ∧ (s 0).r (Reg.PFE_SC_CFG_SUPPLY_12V (1 - 1)) = 1 ∧ 10800 ≤ 13200) := by
  decide +kernel

/-- A quadrature step, an illegal change, an emulator edge and the SSI conditions. -/
theorem wit_QuadratureEmulatorsAndSsiComplete :
    (let s := st [(Reg.PFE_QD_CFG_ENABLE 5, 1)]
     s.r (Reg.PFE_QD_CFG_ENABLE 5) = 1 ∧ (s.qdChan 5).lost = false ∧ s.r (Reg.PFE_QD_CFG_INVERT 5) = 0 ∧
       (∃ a b, (quadPlace a b + 4 -
         quadPlace (bitAt (s.r (Reg.PFE_QD_STATUS_LEVELS 5)) 0) (bitAt (s.r (Reg.PFE_QD_STATUS_LEVELS 5)) 1)) % 4 = 1) ∧
       ∃ a b, (quadPlace a b + 4 -
         quadPlace (bitAt (s.r (Reg.PFE_QD_STATUS_LEVELS 5)) 0) (bitAt (s.r (Reg.PFE_QD_STATUS_LEVELS 5)) 1)) % 4 = 2) ∧
    (let s := withPos { emu := [{}, { pending := -1 }] } (st [(Reg.PFE_EMU_CFG_ENABLE 1, 1)])
     s.r (Reg.PFE_EMU_CFG_ENABLE 1) = 1 ∧ (nth s.pos.emu 1 {}).pending ≠ 0) ∧
    (let s := st [(Reg.PFE_SSI_CFG_ENABLE 0, 1)]
     s.active = true ∧ s.r (Reg.PFE_SSI_CFG_ENABLE 0) = 1 ∧ (s.ssiChan 0).lastStart = none ∧ ssiFits s 0 = true) ∧
    (let s := withPos { ssi := [{ latch := some 3 }, { goodRun := 64 }] }
       (st [(Reg.PFE_SSI_STATUS_CONSEC_BAD 0, 5), (Reg.PFE_SSI_CHECK_FAIL_N 0, 5), (Reg.PFE_SSI_STATUS_LOST 1, 1)])
     (s.ssiChan 0).latch = some 3 ∧ ssiFrameError (s.ssiFormat 0) [true] false = 0 ∧ (s.ssiChan 0).fresh = true ∧
       ssiFrameError (s.ssiFormat 0) [true] true ≠ 0 ∧
       s.r (Reg.PFE_SSI_STATUS_LOST 0) = 0 ∧ 0 < s.r (Reg.PFE_SSI_STATUS_CONSEC_BAD 0) ∧
       s.r (Reg.PFE_SSI_CHECK_FAIL_N 0) ≤ s.r (Reg.PFE_SSI_STATUS_CONSEC_BAD 0) ∧
       s.r (Reg.PFE_SSI_STATUS_LOST 1) = 1 ∧ 64 ≤ (s.ssiChan 1).goodRun) ∧
    (let s := { withPos { slipSince := some 0, sample := { source := 0 } } (st [(Reg.PFE_SLIP_CFG_SLIP_TIME, 1)]) with optime := 1000 }
     s.pos.slipSince = some 0 ∧ s.pos.sample.source = 0 ∧ s.r Reg.PFE_SLIP_CFG_SLIP_TIME * 1000 ≤ s.since 0 ∧ s.r Reg.PFE_STATUS_SLIP = 0) ∧
    (ssiFrameError ((st []).laneTable 1).ssiFormat [true] false = 0 ∧ ((st []).lane 1).ssiFresh = true) ∧
    (let s := { st [(Reg.MIR_CFG_PAIRED, 1), (Reg.PFE_SSI_CFG_ENABLE 0, 1), (Reg.PFE_SSI_CFG_ENABLE 1, 1), (Reg.PFE_SSI_CFG_PERIOD_US 0, 500),
                    (Reg.IMG_MODULE_STATE_PHASE, 1)] with optime := 1000 }
     s.active = false ∧ s.r (Reg.PFE_SSI_CFG_ENABLE 0) = 1 ∧ s.r (Reg.PFE_SSI_CFG_ENABLE 1) = 1 ∧ s.controlReady = true ∧
       2 * s.r (Reg.PFE_SSI_CFG_PERIOD_US 0) ≤ s.sinceOrReady (s.ssiChan 0).lastStart ∧
       2 * (s.laneTable 1).ssiPeriod ≤ s.sinceOrReady (s.lane 1).ssiAt) := by decide +kernel

/-! ### Reticle -/

/-- The state with another reticle. -/
def withRet (d : RetState) (s : Machine.State) : Machine.State := { s with ret := d }

/-- A set that loads, is invalid, is valid without an armed mark; the post queue with room and full; a capture; the clear. -/
theorem wit_ReticleProgramsPostsAndCapturesComplete :
    (let s b l := (st []).modSet 4 (fun x => { x with valid := b, loading := l })
     let w := (st []).modSet 4 (fun x => { x with loading := true, swapDue := true })
     ((s false true).set 4).loading = true ∧ (s false true).img.swapDue = false ∧ ((s false true).set 4).swapDue = false ∧
       (w.set 4).loading = true ∧ w.img.swapDue = false ∧ (w.set 4).swapDue = true ∧
       (∀ i, i < setSize 4 → (nth (w.set 4).staging.marks i {}).arm = false) ∧ ((s false false).set 4).valid = false ∧ ((s true false).set 4).valid = true ∧
       ∀ i, i < setSize 4 → (nth ((s true false).set 4).staging.marks i {}).arm = false) ∧
    (let s n := withRet { posts := [{ counter := 3 }] } (withDsp { ports := List.replicate n ⟨0, none⟩ :: List.replicate 15 [] } (st []))
     (s 15).ret.posts = { counter := 3 } :: [] ∧ (nth (s 15).dsp.ports 0 []).length < 16 ∧
       (s 16).ret.posts = { counter := 3 } :: [] ∧ 16 ≤ (nth (s 16).dsp.ports 0 []).length) ∧
    (let x : Capture := { pos := -1, valid := true, overwritten := true, unread := true }
     let s := withRet { caps := setNth (List.replicate 8 {}) 7 x } (st [(Reg.RET_CAP_SEL, 7)])
     s.r Reg.IMG_MODULE_STATE_PHASE ≠ 7 ∧ nth s.ret.caps (s.r Reg.RET_CAP_SEL) {} = x) ∧ 1 % 2 = 1 := by decide +kernel


/-- The car's set with the slots listed. -/
def slots0 (l : List (Nat × Slot)) (s : Machine.State) : Machine.State :=
  s.modSet 0 fun x => { x with live := l.foldl (fun m y => setNth m y.1 y.2) (List.replicate 256 {}) }

/-- A car sample to be delivered, from QD5, with the car's slots listed. -/
def passing (l : List (Nat × Slot)) : Machine.State :=
  slots0 l (withPos { raw := some { time := 7, sc := [], qd := [] }, referenced := true }
    (stand [(Reg.PFE_MODEL_CFG_MACH_SRC, 2), (Reg.PFE_QD_CFG_ENABLE 4, 1)]))

/-- A swap that arms one mark at either end of a set, without and with a comparable sample; a mark late, withheld, ahead and of DIR
either. -/
theorem wit_MarksArmAndFire_swap :
    (∀ k ∈ [0, 4], ∀ i ∈ [0, setSize k - 1], ∀ seen : Bool, ∀ f ∈ [5, 13, 6, 7],
      let m : Mark := { thresh := -5, flags := f }
      let p : Program := { id := 9, marks := setNth (List.replicate (setSize k) {}) i m }
      let t := stand []
      let s := { (stand []).modSet k (fun x => { x with valid := true, staging := p }) with
        ret := { ((stand []).modSet k (fun x => { x with valid := true, staging := p })).ret with
          seen := seen, doorOk := [true, true, true, true] }, pos := { t.pos with sample := { t.pos.sample with conf := 0 } } }
      s.released = true ∧ s.parked = false ∧ (s.set k).barred = false ∧ (s.set k).valid = true ∧ nth (s.set k).staging.marks i {} = m ∧
        m.dir ≠ 0 ∧ (∀ j, j < setSize k → (nth (s.set k).staging.marks j {}).arm = decide (j = i)) ∧
        (s.comparable k).isSome = seen) ∧
    (let y : SetSample := ⟨0, true, true⟩
     crosses { thresh := -5, flags := 5 } y = true ∧ crosses { thresh := -5, flags := 13 } y = true ∧
       crosses { thresh := -5, flags := 6 } y = false ∧ crosses { thresh := -5, flags := 7 } y = false) := by decide +kernel

/-- A sample delivered with one mark armed, of each kind that acts, ahead and crossed, and with two late captures. -/
theorem wit_MarksArmAndFire_delivery :
    (∀ i ∈ [0, 255], ∀ a ∈ [0x10000118, 0x20000106, 0x30000007, 0x80000007], ∀ ahead : Bool,
      let m : Mark := { thresh := if ahead then 5 else -5, flags := 5, post := 0x8005, action := a }
      let s := passing [(i, { mark := m, armed := true })]
      s.pos.raw.isSome = true ∧ (s.pos.raw.map fun x => x.doors) = some false ∧ (s.slot 0 i).armed = true ∧ (s.slot 0 i).mark = m ∧
        (s.slot 0 i).unchecked = false ∧ (∀ j, j < 256 → j ≠ i → (s.slot 0 j).armed = false) ∧ (s.slot 0 i).late = false ∧ m.dir = 1) ∧
    (∀ c ∈ [0, 1, 2], ∀ p ∈ [0, 1],
      let a : Mark := { flags := 5 + 16 * c, prio := p, action := 0x80000007 }
      let b : Mark := { flags := 5 + 16 * c, action := 0x80000007 }
      let s := passing [(0, { mark := a, armed := true, late := true }), (255, { mark := b, armed := true, late := true })]
      (s.pos.raw.map fun x => x.doors) = some false ∧ (∀ q, q < 256 → (s.slot 0 q).armed = (decide (q = 0) || decide (q = 255))) ∧
        (∀ q ∈ [0, 255], (s.slot 0 q).unchecked = false ∧ (s.slot 0 q).late = true) ∧ (s.slot 0 0).mark = a ∧ (s.slot 0 255).mark = b ∧
        a.kind = 8 ∧ b.kind = 8 ∧ a.action % 8 = 7 ∧ b.action % 8 = 7) := by decide +kernel
/-! ### Trips -/

/-- The state with another trips block. -/
def withTrip (d : TripState) (s : Machine.State) : Machine.State := { s with trip := d }

/-- The state with another position sample. -/
def sampled (conf : Nat) (pos : Int) (s : Machine.State) : Machine.State := withPos { sample := { conf := conf, pos := pos } } s

/-- The state with another safety block. -/
def withSaf (d : SafState) (s : Machine.State) : Machine.State := { s with saf := d }

/-- Two car stops and the adjacent trip 1 to 2 of load class 3 at an index word. -/
def twoStops (w : Nat) : TripState :=
  { env := { stops := [{ pos := 0, valid := true }, { pos := 4000000, valid := true }] }, core := { adjacent := [(6, w)] },
    stops := [{ landing := 2, upper := false, doors := 1, profile := 0, req := 5, state := 0 }] }

/-- A diversion to car stop 2. -/
def commit2 : Commit := { stop := 2, trip := {}, tag := 7 }

/-- A channel that runs a trip of two segments. -/
def run2 (tau : Nat) (timeout : Bool) : Channel :=
  { running := true, timeout := timeout, tau := tau, trip := { segs := [{ ending := 0, dur := 5, j := 3 }, { ending := 0 }] } }

/-- A step within a segment and at its end, a segment timeout, the run of limits. -/
theorem wit_EvaluatorStepsComplete :
    (∀ tau ∈ [3, 4], let c := run2 tau false
     let s := withTrip { chans := [c, {}, {}, {}, {}, c] } (st [])
     s.parked = false ∧ s.chan 0 = c ∧ s.chan 5 = c ∧ c.last ≠ some s.optime ∧ c.running = true ∧ c.timeout = false ∧
       c.evalPend = none ∧ c.splicePend = none ∧ c.stopPend = none ∧ c.cur.ending = 0 ∧ c.cont = none ∧
       (nth c.trip.segs (c.seg + 1) {}).expect = false ∧ (nth c.trip.segs (c.seg + 1) {}).ending ≠ 4) ∧
    3 + 1 ≠ (run2 3 false).cur.dur ∧ 4 + 1 = (run2 4 false).cur.dur ∧
    (let s := withTrip { chans := [run2 0 true] } (st [])
     s.chan 0 = run2 0 true ∧ (run2 0 true).running = true ∧ (run2 0 true).timeout = true ∧ (run2 0 true).cont = none ∧
       s.r Reg.TRIP_STATUS_TRIP_LIMIT = 0) ∧
    (let s := withTrip { limitRun := 2 } (st [(Reg.TRIP_LIMIT_STATUS_LIMIT_N, 2)])
     s.parked = false ∧ 0 < s.r Reg.TRIP_LIMIT_STATUS_LIMIT_N ∧ s.r Reg.TRIP_LIMIT_STATUS_LIMIT_N ≤ s.trip.limitRun ∧
       s.r Reg.TRIP_STATUS_TRIP_LIMIT = 0) := by decide +kernel

/-- A start with and without a trip in the index, the grant of a starting trip, a car beyond RELEVEL_START with open doors, and the
items of a diversion. -/
theorem wit_TripStartsAndSplicesComplete :
    (∀ w ∈ [0, 64], let s := sampled 0 0 (withTrip (twoStops w) (stand []))
     s.parked = false ∧ s.startFor = some (2, 3, 0, w) ∧ s.confPermits false (s.tripAt (s.region s.fullAtlas) w) = true ∧
       s.startHeld (s.tripAt (s.region s.fullAtlas) w) = none) ∧
    (let b : LaneBrake := { state := 1 }
     let l : Lane := { grant := true, brakes := [b, b] }
     let x : Trip := { segs := [{ ending := 0 }] }
     let s := withSaf { lanes := [l, l] } (sampled 0 0 (withTrip { starting := some x } (st [])))
     s.parked = false ∧ s.trip.starting = some x ∧ s.active = true ∧ s.granted = true ∧ s.brakes 1 = true ∧ s.startPermitted = true ∧
       (nth x.segs 0 {}).expect = false ∧ (nth x.segs 0 {}).ending ≠ 4 ∧ x.retProg = 0) ∧
    (let s := sampled 0 1 (withTrip (twoStops 0) (stand [(Reg.LOOP_STATUS_IN_USE, 2)]))
     s.parked = false ∧ s.r Reg.TRIP_STATUS_CAR_STOP ≠ 0 ∧ s.canMove = true ∧
       s.trip.env.relevelStart < mag (s.pos.sample.pos - s.stopPos (s.r Reg.TRIP_STATUS_CAR_STOP)) ∧ s.cycleComplete = false ∧
       s.bridged = false ∧ s.deckPermits (s.r Reg.TRIP_STATUS_CAR_STOP) = true) ∧
    (let c := commit2
     let s ph w := withTrip { twoStops 0 with commit := some c, full := [{ nStops := 2, diversions := [(513, w)] }, {}] }
       (st [(Reg.IMG_MODULE_STATE_PHASE, ph)])
     (∀ ph ∈ [1, 2], (s ph 64).parked = false ∧ (s ph 64).trip.commit = some c ∧ (s ph 64).active = true ∧
       c.staged = false ∧ (s ph 64).commitListed c.tag = false ∧ c.alt = false ∧ c.stop < 256) ∧
       (s 1 64).diversion c.stop = some none ∧
       (s 2 64).diversion c.stop = some (some (64, (s 2 64).tripAt ((s 2 64).region true) 64))) ∧
    (let c := { commit2 with staged := true }
     let s := withTrip { commit := some c } (st [])
     s.parked = false ∧ s.trip.commit = some c ∧ s.active = true ∧ c.issued = false ∧ c.staged = true ∧ c.trip.retProg = 0) ∧
    (let s := sampled 2 0 (st [(Reg.TRIP_STATUS_STATE, 2)])
     s.parked = false ∧ s.pos.sample.conf = 2 ∧ s.trip.confSeen ≠ 2 ∧ s.active = true ∧ s.r Reg.TRIP_STATUS_STATE = 2 ∧
       s.inCruise = false ∧ s.startPermitted = true) := by
  refine ⟨?_, ?_, ?_, ?_, ?_, ?_⟩ <;> decide +kernel

/-- Port 15 with room and full; the three commands; a neighbour that is late, holds a start and passes. -/
theorem wit_TripCommandsAndSeparationComplete :
    (let s := sampled 0 0 (st [(Reg.TRIP_STATUS_STATE, 5)])
     s.r Reg.IMG_MODULE_STATE_PHASE ≠ 7 ∧ (nth s.dsp.ports 15 []).length < 16 ∧ s.active = true ∧ (s.chan 0).moving = false ∧ s.r Reg.TRIP_OOS_CAUSES = 0 ∧
       s.returnRefused = false ∧ s.parked = false ∧ s.r Reg.TRIP_STATUS_STATE = 5 ∧ (sampled 2 0 s).returnRefused = true) ∧
    (let s := st [(Reg.PWR_STATUS_PARKED, 1)]
     s.r Reg.IMG_MODULE_STATE_PHASE ≠ 7 ∧ s.parked = true ∧ s.active = true ∧ (nth s.dsp.ports 15 []).length < 16) ∧
    (16 ≤ (nth (withDsp { ports := setNth (List.replicate 16 []) 15 (List.replicate 16 ⟨0, none⟩) } (st [])).dsp.ports 15 []).length) ∧
    (let t := twoStops 0
     let s := sampled 0 0 (withTrip { t with env := { t.env with stops := [{ pos := 900, valid := true }] }, core := { rescue := [(0, [(0, 64)])] } }
       (stand []))
     let x := s.tripAt (s.region s.fullAtlas) 64
     s.r Reg.IMG_MODULE_STATE_PHASE ≠ 7 ∧ (nth s.dsp.ports 15 []).length < 16 ∧ s.r Reg.TRIP_STATUS_STATE = 0 ∧ s.stopHere = 0 ∧
       s.rescue none = (1, some (64, x), 900) ∧ s.rescuePermitted true 1 x = true ∧ s.startHeld x = none) ∧
    (let s := { stand [(Reg.NET_NBR_CFG_NBR_DOWN, 9)] with optime := 1500 }
     s.nbrAddr (b2n true) ≠ 0 ∧ s.controlReady = true ∧ s.nbrLate (b2n true) = true ∧ (s.nbr (b2n true)).timedOut = false) ∧
    (let s := sampled 0 0 (withTrip (twoStops 64) (stand [(Reg.NET_NBR_CFG_NBR_UP, 9)]))
     s.startFor = some (2, 3, 0, 64) ∧ s.confPermits false (s.tripAt (s.region s.fullAtlas) 64) = true ∧
       s.startHeld (s.tripAt (s.region s.fullAtlas) 64) = some 0 ∧ s.trip.waitAt = none ∧ (st []).waitingOn = none) ∧
    (let s := stand [(Reg.TRIP_STATUS_STOP_CAUSE, 3)]
     s.parked = false ∧ s.sepCause = true ∧ s.sepClear = true ∧ s.active = true ∧ s.r Reg.TRIP_STATUS_CAR_STOP ≠ 0) := by
  refine ⟨?_, ?_, ?_, ?_, ?_, ?_, ?_⟩ <;> decide +kernel

/-! ### Loops and doors -/

/-- The state with another loop block. -/
def withLoop (d : LoopState) (s : Machine.State) : Machine.State := { s with loop := d }

/-- The module after CONTROL_READY with every loop in use and no spare engine. -/
def looping (l : List (Field × Nat)) : Machine.State :=
  { st ([(Reg.IMG_MODULE_STATE_PHASE, 1), (Reg.LOOP_STATUS_IN_USE, 63), (Reg.LOOP_FENCED, 64), (Reg.LOOP_MAP, 0x543210)] ++ l) with
      optime := 125 }

/-- Both lanes report both brakes lifted. -/
def lifted : SafState :=
  { lanes := [{ brakes := [{ state := 1 }, { state := 1 }] }, { brakes := [{ state := 1 }, { state := 1 }] }] }

/-- A period of the car and of a door; following error, engine error, CLEAR allowed and refused. -/
theorem wit_LoopPeriodsAndFaultsComplete :
    (let s := withSaf lifted (looping [])
     s.parked = false ∧ s.paired = false ∧ s.pwr.parkDue = false ∧ s.carPeriod = some 62 ∧ (s.eng 0).lastAt ≠ some s.optime ∧
       s.loopUsed 0 = true ∧ s.loopLost 0 = false ∧ s.spares = [] ∧ (s.eng 0).replace = false ∧ s.granted = false ∧
       s.brakes 0 = false ∧ s.loop.grantSeen = false ∧ s.r Reg.IMG_MODULE_STATE_PHASE ≠ 7 ∧ s.clearable 0 = false) ∧
    (∀ d ∈ [1, 4], let s := looping []
     s.parked = false ∧ s.doorPeriod = true ∧ s.loopUsed d = true ∧ s.loopLost d = false ∧ (s.eng d).lastAt ≠ some s.optime ∧ s.spares = [] ∧
       (s.eng d).replace = false ∧ s.runningProfile d = none) ∧
    (∀ n ∈ [0, 3, 5], let s := { withLoop { eng := List.replicate 6 { feSince := some 0 } } (st [(Reg.LOOP_FE_CFG_FE_TIME n, 2)]) with
                                   optime := 2000 }
     (s.door n).profile = none ∧ (s.eng n).feSince = some 0 ∧ s.r (Reg.LOOP_STATE_FOLLOW_ERR n) = 0 ∧
       s.r (Reg.LOOP_FE_CFG_FE_TIME n) * 1000 ≤ s.since 0) ∧
    (let s := looping [(Reg.LOOP_FENCED, 0)]
     (List.range 6).find? (fun n => s.loopUsed n && s.engineOf n == 5) = some 5 ∧ s.spares = 6 :: []) ∧
    (st []).clearable 0 = false ∧
    (withSaf { lanes := [{ brakes := [{ state := 0 }, { state := 0 }] }, { brakes := [{ state := 0 }, { state := 0 }] }] }
      (st [])).clearable 0 = true := by
  refine ⟨?_, ?_, ?_, ?_, ?_, ?_⟩ <;> decide +kernel

/-- A DriveLink response of node 1 that answers the command bytes given. -/
def dlFrame14 : List Byte := [0x5A, 1, 7] ++ List.replicate 11 0

/-- A good, a bad and a missing response; a run of bad ones. -/
theorem wit_LoopPeriodsAndFaultsComplete_drivelink :
    (let s := withLoop { dl := [{ cmd := [0x5A, 1, 7], waiting := true }, { waiting := true }] }
       (st [(Reg.LOOP_DL_CFG_NODE1_EN, 1), (Reg.LOOP_DL_CFG_NODE2_EN, 1), (Reg.LOOP_DL_CFG_DL_FAIL_N, 3),
            (Reg.LOOP_DL_STATUS_1_CONSEC_BAD, 3)])
     let f := dlFrame14 ++ leBytes 2 (crc16 dlFrame14)
     (s.dlNode 1).waiting = true ∧ s.nodeEn 1 = true ∧ dlJudge (s.dlNode 1).cmd f = 0 ∧ bitAt (leAt f 3 1) 1 = false ∧
       s.saf.bt.phase ≠ 4 ∧ dlJudge (s.dlNode 1).cmd [] ≠ 0 ∧ (s.dlNode 2).waiting = true ∧ s.nodeEn 2 = true ∧
       s.r Reg.LOOP_DL_CFG_DL_FAIL_N ≠ 0 ∧ s.r Reg.LOOP_DL_CFG_DL_FAIL_N ≤ s.r Reg.LOOP_DL_STATUS_1_CONSEC_BAD ∧
       s.r Reg.LOOP_DL_STATUS_1_DRIVELINK_LOST = 0) := by decide +kernel

/-- A profile of one moving segment. -/
def prof (kind : Nat) : Profile := { kind := kind, segs := [{ ending := 0 }] }

/-- Door operators that run, hold or reverse, with profiles 0 and 1. -/
def doored (ops : List DoorOp) (l : List (Field × Nat)) : Machine.State :=
  withLoop { ops := ops, doors := { profiles := [(0, prof 0), (1, prof 1), (6, prof 6)], head := { moves := [(2, 6)] } } } (st ((Reg.IMG_MODULE_STATE_PHASE, 1) :: l))

/-- Starts of a CLOSE, of an OPEN while the deck moves and of a faulted operator; release, reversal, stop, fault; the deck's move. -/
theorem wit_DoorCommandsComplete :
    (let s := doored [] [(Reg.LOOP_DOOR_CFG_CHANNEL 3, 2), (Reg.PFE_QD_STATUS_HOMED 2, 1), (Reg.LOOP_DECK_STATUS_MOVING, 1)]
     s.active = true ∧ s.released = true ∧ s.parked = false ∧ s.r Reg.MIR_STATUS_HOLD_STARTS = 0 ∧ (s.door 4).rank2 = false ∧
       s.profile? 1 = some (prof 1) ∧ s.profile? 0 = some (prof 0) ∧ s.doorFaulted 4 = false ∧ s.doorHomed 4 = true ∧
       s.r (Reg.LOOP_DOOR_STATUS_REV_COUNT (4 - 1)) < 3 ∧ s.deckInPosition = false) ∧
    ((doored [] [(Reg.LOOP_DOOR_STATUS_DOOR_FAULT 0, 1)]).doorFaulted 1 = true) ∧
    (let s := doored [{ held := some 0 }, { revPend := some (1, 2) }] []
     s.profile? 0 = some (prof 0) ∧ (prof 0).retProg = 0 ∧ (nth (prof 0).segs 0 {}).expect = false ∧ (nth (prof 0).segs 0 {}).ending ≠ 4 ∧
       (s.door 1).held = some 0 ∧ s.deckInPosition = true ∧ s.saf.bt.brake = 0 ∧ s.parked = false ∧ s.doorTaken 1 = false ∧ s.profile? 1 = some (prof 1) ∧ (s.door 2).revPend = some (1, 2)) ∧
    (let s := doored [{ profile := some 1, keRun := 5 }] [(Reg.LOOP_DOOR_LIM_KE_N 0, 5)]
     s.runningProfile 1 = some (prof 1) ∧ (prof 1).stop = none ∧ (prof 1).kind ≠ 4 ∧ s.released = true ∧ s.parked = false ∧ s.active = true ∧ (s.door 1).rank2 = false ∧
       s.r (Reg.LOOP_DOOR_LIM_KE_N (1 - 1)) ≠ 0 ∧ s.r (Reg.LOOP_DOOR_LIM_KE_N (1 - 1)) ≤ (s.door 1).keRun ∧ s.doorFaulted 1 = false) ∧
    (let d := doored [] []
     let s := withLoop { d.loop with deck := { movePend := some 2 } } d
     s.parked = false ∧ s.loop.deck.movePend = some 2 ∧ s.r Reg.LOOP_DECK_STATUS_MOVING = 0 ∧ s.loop.deck.dest = 0 ∧ s.loop.doors.head.moves.find? (fun x => x.1 == 16 * 0 + 2) = some (2, 6) ∧
       s.profile? 6 = some (prof 6) ∧ (prof 6).kind = 6) := by
  refine ⟨?_, ?_, ?_, ?_, ?_⟩ <;> decide +kernel

/-! ### Safety lanes -/

/-- Lane tables with the words of the fields given, each alone in its register. -/
def tables (l : List (Field × Nat)) : List LaneTable := List.replicate 2 { regs := l.map fun x => (x.1.addr, x.2 * 2 ^ x.1.lo) }

/-- The state with both lanes the same and both tables of the fields given. -/
def laned (x : Lane) (l : List (Field × Nat)) (s : Machine.State) : Machine.State :=
  withSaf { s.saf with lanes := [x, x], tables := tables l } s

/-- A state 1 s after reset. -/
def later (l : List (Field × Nat)) : Machine.State := { st l with optime := 1000000 }

/-- 64 bytes of an exchange record of LANE and SEQ. -/
def recBytes64 (lane seq : Nat) : List Byte :=
  let b := leBytes 2 seq ++ leBytes 1 lane ++ List.replicate 57 0
  b ++ leBytes 4 (crc32c b)

/-- Lane periods, a good and a bad record, requests, samples, a fast demand. -/
theorem wit_LaneRequestsSamplesAndRecordsComplete :
    (let s := ({ later [] with img := { (later []).img with loaded := true } } : Machine.State)
     (s.lane 0).started = false ∧ s.img.loaded = true) ∧
    (let s := laned { started := true, period := 3 } [] (later [])
     (s.lane 0).started = true ∧ 250 ≤ s.since (s.lane 0).startAt ∧ (s.lane 1).started = true ∧ (s.lane 1).inbox = none) ∧
    (let s := laned { inbox := some { lane := 0xA1, seq := 9 } } [] (later [])
     (s.lane 1).started = false ∧ (s.lane 1).inbox = some { lane := 0xA1, seq := 9 } ∧ ({ lane := 0xA1, seq := 9 } : Rec).lane = 0xA1) ∧
    (let s := laned { started := true, period := 65535, inbox := some { seq := 0 } } [] (later [])
     (s.lane 1).started = true ∧ (s.lane 1).inbox = some { seq := 0 } ∧ ({ seq := 0 } : Rec).seq = ((s.lane 1).period + 1) % 65536) ∧
    (recOk (recBytes64 0xA1 4) = true ∧ recOk [] = false) ∧
    ((st []).paired = false) ∧
    (let s := laned { started := true, samples := [1, 1, 1, 1], chan := 0xFFFF } [(Reg.SAF_SI_CFG_EN 15, 0x303)] (later [])
     ∀ laneB : Bool, (s.lane (b2n laneB)).started = true ∧ (s.lane (b2n laneB)).samples.length < 5 ∧
       50 * (s.lane (b2n laneB)).samples.length ≤ s.since (s.lane (b2n laneB)).startAt ∧ s.siEn (b2n laneB) 15 = true ∧
       s.siFast (b2n laneB) 15 = true ∧ s.fastPasses (b2n laneB) 15 3 = true ∧ bitAt (s.lane (b2n laneB)).chan 15 = true ∧ s.masked (b2n laneB) 15 = false) := by
  refine ⟨?_, ?_, ?_, ?_, ?_, ?_, ?_⟩ <;> decide +kernel

/-- Records of the other lane at the comparison point, for lane A (false) and lane B (true). -/
def otherRec (laneB : Bool) : Rec :=
  { lane := if laneB then 0xA1 else 0xB2, seq := 3, faults := 1, span := 24749, flags := 16, pos := 70000000, switch := 1 }

/-- A lane at its comparison point with or without a record. -/
def comparing (laneB missing : Bool) : Machine.State :=
  laned { started := true, compared := false, period := 3, inbox := if missing then none else some (otherRec laneB),
          sent := { flags := 16, span := 24749 }, spanBad := 3, posBad := 1, switchBad := 160, miss := b2n missing }
    [(Reg.SAF_POS_CFG_POS_N, 2)] (later [])

/-- The record is taken, missed once and twice; the comparisons that latch. -/
theorem wit_ComparisonPointsComplete : ∀ laneB : Bool,
    (let s := comparing laneB false
     let r := otherRec laneB
     (s.lane (b2n laneB)).started = true ∧ (s.lane (b2n laneB)).compared = false ∧ 15 ≤ s.since (s.lane (b2n laneB)).startAt ∧
       s.recValid (b2n laneB) = some r ∧ bitAt (s.lane (b2n laneB)).sent.req 7 = false ∧ bitAt r.faults 0 = true ∧
       (if laneB then (s.lane 1).sent.span else r.span) < 24750 ∧ 3 ≤ (s.lane (b2n laneB)).spanBad ∧
       s.faulted (b2n laneB) FaultBit.laneClock = false ∧ bitAt (s.lane (b2n laneB)).sent.flags 4 = true ∧ bitAt r.flags 4 = true ∧
       s.par (b2n laneB) Reg.SAF_POS_CFG_POS_LIMIT * 1000 < mag ((s.lane (b2n laneB)).sent.pos - r.pos) ∧
       s.par (b2n laneB) Reg.SAF_POS_CFG_POS_N ≤ (s.lane (b2n laneB)).posBad + 1 ∧ s.faulted (b2n laneB) FaultBit.posDiff = false ∧
       r.switch ≠ (s.lane (b2n laneB)).sent.switch ∧ 160 ≤ (s.lane (b2n laneB)).switchBad ∧
       (s.lane (b2n laneB)).switchOff = false) ∧
    (let s := comparing laneB true
     s.recValid (b2n laneB) = none ∧ 1 ≤ (s.lane (b2n laneB)).miss ∧ s.faulted (b2n laneB) FaultBit.prismLink = false) ∧
    (let s := laned { started := true, compared := false } [] (later [])
     s.recValid (b2n laneB) = none ∧ (s.lane (b2n laneB)).miss = 0) := by decide +kernel

/-- Readbacks that latch OUT_STUCK and OUT_OPEN, a current limit, a test-pulse output; sequences and pulses. -/
theorem wit_OutputFaultsAndTestPulsesComplete :
    (∀ laneB : Bool, let b := later [(Reg.FIO_STATUS_FS2A_BAND, 0), (Reg.FIO_STATUS_FS2B_BAND, 2)]
     let s c := laned { started := true, cmd := c } [(Reg.SAF_OUT_CFG_EN 9, 1)] b
     (s 0).outEn (b2n laneB) 9 = true ∧ (s 0).pulsed (b2n laneB) ≠ some 9 ∧
       200 ≤ (s 0).since (nth ((s 0).lane (b2n laneB)).cmdAt 9 0) ∧ bitAt ((s 0).lane (b2n laneB)).cmd 9 = false ∧
       (∀ c ∈ [0, 512], (s c).poleLive (b2n laneB) 9 = true) ∧ (s 0).releasedOut (b2n laneB) 9 = false ∧ bitAt ((s 0).lane (b2n laneB)).stuck 9 = false ∧
       bitAt ((s 512).lane (b2n laneB)).cmd 9 = true ∧ (s 512).parB (b2n laneB) (Reg.SAF_OUT_CFG_PARTNER 9) = false ∧
       (s 512).fs2Missing (b2n laneB) = false ∧ bitAt ((s 512).lane (b2n laneB)).opened 9 = false) ∧
    (let s := laned { started := true, cmd := 512 } [(Reg.SAF_OUT_CFG_EN 9, 1)] (later [])
     ∀ laneB : Bool, (s.lane (b2n laneB)).started = true ∧ s.outEn (b2n laneB) 9 = true ∧ bitAt (s.lane (b2n laneB)).cmd 9 = true ∧
       bitAt (s.lane (b2n laneB)).opened 9 = false) ∧
    (let s := laned { tpBadAt := [none, some 0] } [] { st [] with optime := 200 }
     nth (s.lane (3 / 2)).tpBadAt (3 % 2) none = some 0 ∧ 200 ≤ s.since 0) ∧
    (let s := laned { started := true, period := 4, startAt := 1000000 } [(Reg.SAF_TEST_CFG_TEST_INTERVAL_S, 1)] (later [])
     s.sequenceSlot = true ∧ s.testDue = true) ∧
    (let t := laned { started := true, period := 4, startAt := 1000000 } [] (later [])
     let s := withSaf { t.saf with recheckDue := 1 } t
     s.sequenceSlot = true ∧ s.testDue = false ∧ s.saf.seqEnd = none ∧ s.saf.recheckDue ≠ 0) ∧
    (∀ skip : Bool, ∀ slot ∈ [0, 19, 20, 23],
     let s := withSaf { seq := 1, slot := slot, slotAt := some slot, slotSkip := skip } { st [] with optime := slot * 1000 + 999 }
     s.saf.seq = 1 ∧ s.saf.pulse = none ∧ s.saf.slot ≤ slot ∧ s.saf.slotAt = some slot ∧ slot * 1000 + 100 ≤ s.since s.saf.seqAt ∧
       s.since s.saf.seqAt < slot * 1000 + 1000 ∧ s.saf.slotSkip = skip) ∧
    (∀ slot ∈ [0, 9, 10, 19], let p : Pulse := { slot := slot, at_ := 0 }
     let l := slot / 10
     let o := slot % 10
     let s := laned {} [(Reg.SAF_TEST_CFG_OUT_PULSE_US, 300)] (withSaf { pulse := some p } { st [] with optime := 300 })
     s.saf.pulse = some p ∧ p.aborted = false ∧ p.pole = some (l, o) ∧ s.par l Reg.SAF_TEST_CFG_OUT_PULSE_US ≤ s.since p.at_ ∧
       bitAt (s.lane l).cmd o = false ∧ bitAt (s.lane l).stuck o = false ∧ s.releasedOut l o = false) ∧
    (∀ slot ∈ [20, 23], let p : Pulse := { slot := slot, at_ := 0 }
     let s := laned {} [(Reg.SAF_TP_CFG_TP_PULSE_US, 300), (Reg.SAF_TP_CFG_TP_SETTLE_US, 200)]
       (withSaf { pulse := some p } { st [] with optime := 500 })
     s.saf.pulse = some p ∧ p.aborted = false ∧ 20 ≤ p.slot ∧
       s.par ((p.slot - 20) / 2) Reg.SAF_TP_CFG_TP_PULSE_US + s.par ((p.slot - 20) / 2) Reg.SAF_TP_CFG_TP_SETTLE_US ≤ s.since p.at_) := by
  refine ⟨?_, ?_, ?_, ?_, ?_, ?_, ?_⟩ <;> decide +kernel

/-- Seal switches, the seal open and not, an override that is offered, applied and refused; reset pulses. -/
theorem wit_SealOverridesAndResetsComplete :
    (st []).rb Reg.IMG_SEAL_SW2 ≠ true ∧
    ((st []).sealOpen = false ∧ (st []).r Reg.IMG_MODULE_STATE_PHASE ≠ 7) ∧
    (let o : OverEntry := { index := 0, min := 0, max := 9 }
     let s := withSaf { lanes := [{ sw1 := true, code := 0 }, { sw1 := true, code := 0 }], tables := [{ overs := [o] }, {}] }
       (st [(Reg.SAF_PARAM_VALUE, 9)])
     s.sealOpen = true ∧ s.overEntry 0 (s.r Reg.SAF_PARAM_SEL) = some o ∧ o.fits (s.r Reg.SAF_PARAM_VALUE) = true ∧
       (2 ^ 32 - 10) % 2 ^ 32 + s.r Reg.SAF_PARAM_VALUE = 2 ^ 32 - 1 ∧ s.saf.overriding = none ∧ s.r Reg.IMG_MODULE_STATE_PHASE ≠ 7) ∧
    (∀ laneB : Bool, let o : OverEntry := { index := 0, min := 0, max := 9 }
     let x : Lane := { started := true, period := 70000, ovrApply := 4464, ovrState := 2, ovrValue := 7 }
     let s := withSaf { lanes := [x, x], tables := [{ overs := [o] }, { overs := [o] }] } (st [])
     (s.lane (b2n laneB)).started = true ∧ (s.lane (b2n laneB)).period % 65536 = (s.lane (b2n laneB)).ovrApply ∧
       (s.lane (b2n laneB)).ovrState = 2 ∧ s.overEntry (b2n laneB) (s.lane (b2n laneB)).ovrIndex = some o ∧
       (s.lane (b2n laneB)).ovrValue ≠ ofI 32 o.image) ∧
    (let s := laned { started := true, ovrState := 1 } [] (st [])
     (s.lane 0).period % 65536 = (s.lane 0).ovrApply ∧ (s.lane 0).ovrState = 1) ∧
    (∀ laneB srst : Bool, ∀ width ∈ [100000, 999999], let s := laned { started := true } [] (later [])
     (s.lane (b2n laneB)).started = true ∧ (nth (s.lane (b2n laneB)).srcs (b2n srst) {}).stuck = false ∧
       (nth (s.lane (b2n laneB)).srcs (b2n srst) {}).blocked = false ∧ (nth (s.lane (b2n laneB)).srcs (b2n srst) {}).lowAt = none ∧
       s.senseLost (b2n laneB) 6 = false ∧ width ≤ s.since (s.lane (b2n laneB)).firstAt ∧ (nth (s.lane (1 - b2n laneB)).srcs (b2n srst) {}).stuck = false) ∧
    (∀ laneB srst : Bool, let x : ResetSource := { level := true, riseAt := some 0 }
     let s := laned { started := true, srcs := [x, x] } [] { st [] with optime := 5000000 }
     (s.lane (b2n laneB)).started = true ∧ (nth (s.lane (b2n laneB)).srcs (b2n srst) {}).stuck = false ∧ s.senseLost (b2n laneB) 6 = false ∧
       (nth (s.lane (b2n laneB)).srcs (b2n srst) {}).level = true ∧ (nth (s.lane (b2n laneB)).srcs (b2n srst) {}).riseAt = some 0 ∧
       5000000 ≤ s.since 0 ∧ (nth (s.lane (1 - b2n laneB)).srcs (b2n srst) {}).stuck = false) := by
  refine ⟨?_, ?_, ?_, ?_, ?_, ?_, ?_⟩ <;> decide +kernel

/-! ### Brakes -/

/-- Brake timeouts, lock checks and stale data of each lane. -/
theorem wit_BrakeChecksAndTestsComplete_lock :
    (∀ laneB brake2 : Bool,
      let on : LaneBrake := { onAt := some 0 }
      let off : LaneBrake := { offAt := some 0 }
      let s b := laned { brakes := [b, b] } [(Reg.SAF_BRAKE_TIMES_LIFT_TIME_MS, 1000)] (later [])
      (s on).faulted (b2n laneB) (FaultBit.brake + b2n brake2) = false ∧
        (s on).faulted (1 - b2n laneB) (FaultBit.brake + b2n brake2) = false ∧
        ((s on).laneBrake (b2n laneB) (b2n brake2)).onAt = some 0 ∧ ((s on).laneBrake (b2n laneB) (b2n brake2)).lifted = false ∧
        (s on).par (b2n laneB) Reg.SAF_BRAKE_TIMES_LIFT_TIME_MS * 1000 ≤ (s on).since 0 ∧
        ((s off).laneBrake (b2n laneB) (b2n brake2)).onAt = none ∧ ((s off).laneBrake (b2n laneB) (b2n brake2)).offAt = some 0 ∧
        ((s off).laneBrake (b2n laneB) (b2n brake2)).applied = false ∧
        (s off).par (b2n laneB) Reg.SAF_BRAKE_TIMES_DROP_TIME_MS * 1000 ≤ (s off).since 0) ∧
    (∀ laneB upper seen : Bool,
      let z : LockCheck := { openAt := some 0, seen := seen, misses := 15 }
      let x : Lane := { locks := [z, z] }
      let s := withSaf { lanes := [x, x], tables := [{ stops := [0] }, { stops := [0] }] } (later [])
      (nth (s.lane (b2n laneB)).locks (b2n upper) {}).openAt = some 0 ∧ (nth (s.lane (b2n laneB)).locks (b2n upper) {}).judged = false ∧
        s.inWindow (b2n laneB) = true ∧ s.par (b2n laneB) Reg.SAF_LOCK_CHECK_LOCK_CHECK_MS * 1000 ≤ s.since 0 ∧
        (nth (s.lane (b2n laneB)).locks (b2n upper) {}).seen = seen ∧
        (nth (s.lane (1 - b2n laneB)).locks (b2n upper) {}).judged = false ∧
        s.par (b2n laneB) Reg.SAF_LOCK_CHECK_LOCK_CHECK_N ≤ min 15 ((nth (s.lane (b2n laneB)).locks (b2n upper) {}).misses + 1)) ∧
    (∀ laneB below : Bool,
      let n : LaneNbr := { seen := true }
      let s := laned { started := true, nbrs := [n, n] } [(Reg.SAF_SEP_LANE_SEP_AGE_MS, 5)]
        (later [(Reg.NET_NBR_CFG_NBR_UP, 8), (Reg.NET_NBR_CFG_NBR_DOWN, 6)])
      s.nbrAddr (b2n below) ≠ 0 ∧ (s.lane (b2n laneB)).started = true ∧
        (nth (s.lane (b2n laneB)).nbrs (b2n below) {}).stale = none ∧ (nth (s.lane (b2n laneB)).nbrs (b2n below) {}).seen = true ∧
        s.par (b2n laneB) Reg.SAF_SEP_LANE_SEP_AGE_MS * 1000 ≤ s.since (nth (s.lane (b2n laneB)).nbrs (b2n below) {}).at_ ∧
        (nth (s.lane (1 - b2n laneB)).nbrs (b2n below) {}).stale = none) := by
  refine ⟨?_, ?_, ?_⟩ <;> decide +kernel

/-- A test falls due, is overdue, is aborted, begins; its phases for each brake. -/
theorem wit_BrakeChecksAndTestsComplete_tests :
    (let s due := laned {} [(Reg.SAF_BT_CFG_BT_INTERVAL_H, 1)] (withSaf { bt := { due := due } } (stand [(Reg.PWR_OP_SECONDS, 3600)]))
     (s false).controlReady = true ∧ (s false).par 0 Reg.SAF_BT_CFG_BT_INTERVAL_H ≠ 0 ∧ (s false).saf.bt.due = false ∧
       (s false).saf.bt.brake = 0 ∧ (s false).par 0 Reg.SAF_BT_CFG_BT_INTERVAL_H ≤ (s false).btHours ∧ (s true).saf.bt.due = true ∧
       (s true).r Reg.SAF_BT_STATUS_OVERDUE = 0 ∧
       (s true).par 0 Reg.SAF_BT_CFG_BT_INTERVAL_H + (s true).par 0 Reg.SAF_BT_CFG_BT_GRACE_H ≤ (s true).btHours) ∧
    (withSaf { bt := { brake := 1 } } (st [])).saf.bt.brake ≠ 0 ∧ (withSaf { bt := { brake := 1 } } (st [])).r Reg.IMG_MODULE_STATE_PHASE ≠ 7 ∧ 0 ≠ 0x6B1D ∧
    (let x : Lane := { closed := true, perm := 2, brakes := [{ state := 0 }, { state := 0 }] }
     let s := withSaf { bt := { due := true }, quietAt := some 0, lanes := [x, x] } { stand [] with optime := 1000000 }
     s.controlReady = true ∧ s.active = true ∧ s.saf.bt.due = true ∧ s.quiet = true ∧
       (∀ l, l < 2 → (s.lane l).closed = true ∧ bitAt (s.lane l).perm 1 = true) ∧ s.trip.starting = none ∧ s.trip.stops = []) ∧
    (∀ b ∈ [1, 2], ∀ ph ∈ [3, 4, 5, 6], ∀ q ∈ [949, 950],
      let x : Lane := { grant := true, brakes := [{ state := 0 }, { state := 0 }] }
      let s := laned x [(Reg.SAF_BT_TORQUE, 1000)]
        (withSaf { bt := { brake := b, phase := ph, torque := q, due := true } } (later []))
      s.saf.bt.brake = b ∧ s.anyCut = false ∧ s.driveFaulted 0 = false ∧ s.granted = true ∧
        (∀ l, l < 2 → s.faulted l (FaultBit.brakeTest + b - 1) = false) ∧ s.saf.bt.phase = ph ∧
        s.par 0 Reg.SAF_BT_TIMES_BT_RAMP_MS * 1000 ≤ s.since s.saf.bt.at_ ∧ s.par 0 Reg.SAF_BT_TIMES_BT_HOLD_MS * 1000 ≤ s.since s.saf.bt.at_ ∧
        (mag (s.parI 0 Reg.SAF_BT_TORQUE) * 95 ≤ s.saf.bt.torque * 100 ↔ q = 950) ∧ s.brakeIs (2 - b) 0 = true) := by
  refine ⟨?_, ?_, ?_, ?_, ?_, ?_⟩ <;> decide +kernel

/-! ### Standard inputs and outputs -/

/-- The state with another field-I/O block. -/
def withFio (d : FioState) (s : Machine.State) : Machine.State := { s with fio := d }

/-- A group silent since reset. -/
def silent (g : Nat) : List CplGroup := setNth (List.replicate 17 {}) g { silentAt := some 0 }

/-- A sample instant, an undefined input, a supply band, silence of each kind of group, an expired hold. -/
theorem wit_StandardInputsAndSuppliesComplete :
    (let s := withFio { power := true } { st [(Reg.FIO_DI_CFG_EN 47, 1)] with optime := 50 }
     s.optime.toNat % 50 = 0 ∧ s.fio.power = true ∧ s.rb (Reg.FIO_DI_CFG_EN 47) = true ∧ s.rb (Reg.FIO_DI_CFG_WB 47) = false ∧
       s.channelLost (47 / 8) (47 % 8) = false ∧ s.r (Reg.FIO_DI_CFG_DI_FILT 47) ≤ (nth s.fio.di 47 {}).run + 1) ∧
    (let s := withFio { di := setNth (List.replicate 48 {}) 47 { undef := 400 } } (st [(Reg.FIO_DI_CFG_WB 47, 1)])
     400 ≤ (nth s.fio.di 47 {}).undef ∧ s.rb (Reg.FIO_DI_CFG_WB 47) = true ∧
       pairBit s Reg.FIO_DI_UNDEF_LO Reg.FIO_DI_UNDEF_HI 47 = false) ∧
    (∀ i < 3, let s := withFio { fs := List.replicate 3 (0, 20) } (st [(Reg.FIO_STATUS_FS1_BAND, 3), (Reg.FIO_STATUS_FS2A_BAND, 3),
                                                                        (Reg.FIO_STATUS_FS2B_BAND, 3)])
     (nth s.fio.fs i (3, 0)).1 < 4 ∧ (nth s.fio.fs i (3, 0)).1 ≠ s.r (fsFields i).2.2 ∧ 20 ≤ (nth s.fio.fs i (3, 0)).2) ∧
    (∀ g ∈ [0, 5, 6, 8, 9, 16],
      (let s := withFio { stopAt := some 0 } { st [] with optime := 2000 }
       (nth s.fio.groups g {}).silentAt = none ∧ 2000 ≤ s.since (s.aliveAt g)) ∧
      (let s := withSaf { lanes := List.replicate 2 { aliveAt := 1 } } (withFio { groups := silent g } { st [] with optime := 2 })
       (nth s.fio.groups g {}).silentAt = some 0 ∧ s.channelLost g 8 = false ∧ s.aliveAgain g 0 = true)) ∧
    (let s := withFio { groups := silent (doGroup 23) } (later [(Reg.FIO_DO_CFG_HOLD_TIME 23, 1)])
     (nth s.fio.groups (doGroup 23) {}).silentAt = some 0 ∧ s.r (Reg.FIO_DO_CFG_HOLD_TIME 23) ≠ 0 ∧
       s.r (Reg.FIO_DO_CFG_HOLD_TIME 23) * 1000 ≤ s.since 0) := by
  refine ⟨?_, ?_, ?_, ?_, ?_⟩ <;> decide +kernel

/-- Output 23 as given, its command asserted or not. -/
def output23 (on : Bool) (x : DoState) (l : List (Field × Nat)) : Machine.State :=
  withFio { power := true, cmd := if on then 2 ^ 23 else 0, dout := setNth (List.replicate 24 {}) 23 x }
    (later ([(Reg.MIR_STATUS_RELEASED, 0), (Reg.IMG_MODULE_STATE_PHASE, 1), (Reg.FIO_DO_CFG_EN 23, 1), (Reg.FIO_DO_CFG_RB_EN 23, 1),
      (Reg.FIO_DO_CFG_TEST_EN 23, 1), (Reg.FIO_STATUS_FS1_BAND, 0)] ++ l))

/-- Overloads, readbacks, and off-pulses of output 23. -/
theorem wit_StandardOutputsAndOffPulsesComplete :
    ((output23 true {} []).doLevel 23 = true ∧ (output23 true {} []).r (Reg.FIO_DO_INFO_OVERLOADS 23) = 0 ∧
      2 ≤ (output23 true {} [(Reg.FIO_DO_INFO_OVERLOADS 23, 2)]).r (Reg.FIO_DO_INFO_OVERLOADS 23)) ∧
    (let s := output23 true { overAt := some 0 } []
     (s.dout 23).overAt = some 0 ∧ 1000000 ≤ s.since 0) ∧
    (let s := output23 true { latched := true } []
     (s.dout 23).latched = true ∧ s.r Reg.IMG_MODULE_STATE_PHASE ≠ 7) ∧
    (∀ on : Bool, let s := output23 on { judged := 2, bad := 2 } []
     s.doJudged 23 = true ∧ (s.dout 23).judged = 2 ∧ (s.dout 23).bad = 2 ∧ s.doPoint 23 = true ∧ s.doPartner 23 = false ∧ s.doExpected 23 = on ∧
       s.doKind 23 = 0 ∧ s.r Reg.FIO_STATUS_FS1_BAND ≠ 3) ∧
    (let s := output23 true { judged := 3, good := 15 } [(Reg.FIO_DO_INFO_KIND 23, 1)]
     s.doJudged 23 = true ∧ (s.dout 23).judged = 3 ∧ 15 ≤ (s.dout 23).good ∧ s.doPoint 23 = true ∧ s.doKind 23 = 1) ∧
    (let s := withSaf { seqEnds := 2, seqEnd := some 0 } { stand [(Reg.FIO_TEST_CFG_DO_TEST_EVERY, 2)] with optime := 1999 }
     s.controlReady = true ∧ s.r Reg.FIO_TEST_CFG_DO_TEST_EVERY ≠ 0 ∧ s.r Reg.FIO_TEST_CFG_DO_TEST_EVERY ≤ s.saf.seqEnds ∧
       s.saf.seqEnd = some 0 ∧ 1000 ≤ s.since 0 ∧ s.since 0 < 2000) ∧
    (let t := output23 true {} []
     let s := { withFio { t.fio with seqAt := some 0, slot := 23 } t with optime := 23999 }
     s.fio.seqAt = some 0 ∧ s.fio.pulse = none ∧ s.fio.slot ≤ 23 ∧ 1000 * 23 + 100 ≤ s.since 0 ∧ s.since 0 < 1000 * 23 + 1000 ∧
       s.doLevel 23 = true ∧ s.rb (Reg.FIO_DO_CFG_TEST_EN 23) = true ∧ s.doKind 23 = 0 ∧ s.doOverloaded 23 = false ∧
       s.r Reg.FIO_STATUS_FS1_BAND ≠ 3 ∧ s.doSilent 23 = false ∧ (output23 false {} []).doLevel 23 = false) ∧
    (∀ on : Bool, let t := output23 on {} []
     let s := withFio { t.fio with pulse := some (23, 0) } t
     s.fio.pulse = some (23, 0) ∧ s.r Reg.FIO_TEST_CFG_DO_PULSE_US ≤ s.since 0 ∧ s.doLevel 23 = on ∧
       s.rb (Reg.FIO_DO_CFG_RB_EN 23) = true) ∧
    (let high := List.replicate 20 (2 ^ 23)
     let low := List.replicate 20 0
     (∀ w ∈ pulseWindow 200 high, bitAt w 23 = true) ∧ (∃ w ∈ pulseWindow 200 low, bitAt w 23 = false) ∧
       pulseWindow 200 low ≠ [] ∧ (∀ w ∈ pulseWindow 200 low, bitAt w 0 = false)) ∧
    (let t := output23 true {} []
     (∀ j < 24, (t.dout j).before = false) ∧
       (let u := withFio { t.fio with dout := setNth t.fio.dout 0 { before := true } } t
        u.doLevel 0 = false ∧ (u.dout 0).before = true)) := by
  refine ⟨?_, ?_, ?_, ?_, ?_, ?_, ?_, ?_, ?_, ?_⟩ <;> decide +kernel

/-- A group of the couplers as given. -/
def coupled (g : Nat) (x : CplGroup) : Machine.State := withFio { groups := setNth (List.replicate 17 {}) g x } (st [(Reg.FIO_CPL_PARAM_CPL_WARN, 9)])

/-- A low margin, a wanted spare, a takeover, a failed lane with and without a good spare. -/
theorem wit_CouplerLanesComplete :
    (let s := coupled 16 {}
     (s.cplLane 16 8).state = 0 ∧ (s.cplLane 16 8).low = false ∧ (s.cplLane 16 8).spent = false ∧ 8 < s.r Reg.FIO_CPL_PARAM_CPL_WARN ∧ (nth s.fio.groups 16 {}).wanted = none ∧
       (s.cplLane 16 9).state = 4) ∧
    (let s := coupled 16 { wanted := some (8, 0, none) }
     (nth s.fio.groups 16 {}).wanted = some (8, 0, none) ∧ (s.cplLane 16 9).state = 4) ∧
    (nth (coupled 16 { taking := some (8, 0) }).fio.groups 16 {}).taking = some (8, 0) ∧
    (let x : CplGroup := { lanes := List.replicate 9 ({} : CplLane) ++ [({ state := 5 } : CplLane)] }
     ((coupled 0 x).cplLane 0 0).state = 0 ∧ ((coupled 0 x).cplLane 0 9).state = 5) := by decide +kernel

/-! ### Networks -/

/-- The state with another network block. -/
def withNet (d : NetState) (s : Machine.State) : Machine.State := { s with net := d }

/-- Configured switches with their links up, address 5 and the fields given. -/
def netted (l : List (Field × Nat)) : Machine.State :=
  stand ([(Reg.NET_STATUS_TRANSPARENT, 0), (Reg.NET_STATUS_LINK, 15), (Reg.NET_ADDR_ADDRESS, 5), (Reg.NET_MAP_CFG_ETHERTYPE, 0x88B5)] ++ l)

/-- A frame of a kind, from address 9 with SRC_INFO, to a destination, with a payload. -/
def frameOf (kind info dst : Nat) (payload : List Byte) : List Byte :=
  buildFrame (netted []) 0 ⟨9, kind, 9, info, dst, 3, 7⟩ payload

/-- Port 3 with a frame in its class 2 queue. -/
def queued3 : NetState := { ports := List.replicate 3 {} ++ [{ queues := [[], [], [.raw []], []] }] }

/-- Links down and up, a queued frame, damaged, transparent and forwarded frames. -/
theorem wit_LinksSwitchAndQueuesComplete :
    (let s := withNet { bypass := [true, false] } (st [(Reg.NET_STATUS_LINK, 0)])
     s.linkUp 3 = false ∧ nth s.net.bypass (3 / 2) true = false ∧ (netted []).linkUp 3 = true) ∧
    (let s := withNet queued3 (netted [])
     s.linkUp 3 = true ∧ (∀ d, d < 2 → queueOf s 3 d = []) ∧ queueOf s 3 2 = .raw [] :: []) ∧
    (let f := frameOf Kind.reply 0 9 []
     let t := netted [(Reg.NET_STATUS_TRANSPARENT, 1)]
     let s := netted []
     fcsOk [] = false ∧ fcsOk f = true ∧ t.r Reg.NET_STATUS_TRANSPARENT = 1 ∧ t.linkUp 3 = true ∧
       (nth (t.port (otherPort 3)).queues (frameClass f) []).length < classCap (frameClass f) ∧
       s.r Reg.NET_STATUS_TRANSPARENT = 0 ∧ f.length ≤ 512 ∧ etherType f ≠ ptpType ∧ etherType f = s.r Reg.NET_MAP_CFG_ETHERTYPE ∧
       slice f 0 6 = rhDest ∧ s.linkUp 3 = true ∧
       (parseRh f).crcOk = true ∧ (parseRh f).version = 1 ∧ kindValid (parseRh f).kind = true ∧ (parseRh f).kind = Kind.reply ∧ (parseRh f).origin = 0 ∧
       2 ≤ (parseRh f).hops ∧ s.delivers (parseRh f) = false ∧
       (nth (s.port (otherPort 3)).queues (kindClass (parseRh f).kind) []).length < classCap (kindClass (parseRh f).kind)) := by
  refine ⟨?_, ?_, ?_⟩ <;> decide +kernel

/-- A path whose other copy is late, a single path that is old, a first copy of a named neighbour's frame. -/
theorem wit_PathRulesAndNeighbourFramesComplete :
    (let x : PathSt := { origin := 0, src := 9, side := 0, kind := 1, path := 1, pending := true, deadline := 7 }
     let s := withNet { paths := [x] } (later [])
     s.net.paths = [x] ∧ x.pending = true ∧ s.since x.deadline < 2 ^ 47 ∧ x.path = 1) ∧
    (let x : PathSt := { origin := 0, src := 9, side := 0, kind := 1, path := 3, since := 0 }
     let s := withNet { paths := [x] } (later [(Reg.NET_PATH_CFG_SINGLE_PATH_MS, 1000)])
     s.net.paths = [x] ∧ x.path = 3 ∧ s.r Reg.NET_PATH_CFG_SINGLE_PATH_MS * 1000 ≤ s.since x.since) ∧
    (let s := netted [(Reg.NET_NBR_CFG_NBR_DOWN, 9)]
     let f := frameOf Kind.neighbour 2 255 (List.replicate 64 0)
     Passed Kind.neighbour 3 f s ∧ s.nbrOf (parseRh f).src = some 1 ∧ (parseRh f).origin = 0 ∧ (parseRh f).active = true ∧
       s.controlReady = true ∧ s.nbrStale (parseRh f) = false ∧ (s.pathSt (parseRh f)).pending = false ∧
       (s.pathSt (parseRh f)).path < 4 ∧ (parseRh f).newer (s.pathSt (parseRh f)).last = true) := by
  unfold Passed
  refine ⟨?_, ?_, ?_⟩ <;> decide +kernel

/-- A NEIGHBOUR frame of either neighbour: its gap passes, is below G_REQ and the margin, below G_HARD, or its CONF is LOST; of a car that
runs and of one that stands. -/
theorem wit_SeparationComparisonsComplete :
    ∀ i ∈ [0, 1], ∀ c ∈ [0, 3], ∀ near ∈ [0, 6, 9], ∀ moving : Bool,
      let f := frameOf Kind.neighbour 2 255 (leBytes 4 (if i = 0 then 10 - near else 2 ^ 32 - 10 + near) ++ List.replicate 20 0 ++ [BitVec.ofNat 8 c] ++ List.replicate 39 0)
      let t : TripState := { (twoStops 0) with
        env := { (twoStops 0).env with sepMargin := 3, sepAbove := [(0, (3, 3))], sepBelow := [(0, (3, 3))] }
        chans := [{ running := moving, trip := { segs := [{ ending := 0, dur := 9 }] } }] }
      let s := sampled 0 0 (withTrip t (netted [(if i = 0 then Reg.NET_NBR_CFG_NBR_UP else Reg.NET_NBR_CFG_NBR_DOWN, 9)]))
      Passed Kind.neighbour 3 f s ∧ s.nbrOf (parseRh f).src = some i ∧ (parseRh f).origin = 0 ∧ (parseRh f).active = true ∧
        s.controlReady = true ∧ s.nbrStale (parseRh f) = false ∧ (s.pathSt (parseRh f)).pending = false ∧
        (s.pathSt (parseRh f)).path < 4 ∧ (parseRh f).newer (s.pathSt (parseRh f)).last = true ∧
        s.gapTo i (leAtI (parseRh f).payload 0 4) = 10 - near ∧ leAt (parseRh f).payload 24 1 % 4 = c ∧
        s.sepEntry i (signedBin s.bins s.pos.sample.speed) (signedBin s.bins (leAtI (parseRh f).payload 4 4)) = (3, 3) ∧
        s.active = true ∧ (s.chan 0).moving = moving ∧ (s.chan 0).trip.kind ≠ 4 ∧ (s.chan 0).stopPend = none := by
  unfold Passed
  decide +kernel

/-- The slots of NEIGHBOUR and STATUS frames, and an EVENT frame that is due. -/
theorem wit_OwnFramesAreSentInTheirSlots :
    (let s := netted [(Reg.NET_ADDR_ADDRESS, 16)]
     s.sendsNbr = true ∧ s.inSlot 500000 s.nbrSlot = true ∧ s.sentNow s.net.nbrSent = false ∧ s.onNet = true ∧ s.raised = []) ∧
    (let s := withNet { half := 38999 } (netted [(Reg.NET_ADDR_ADDRESS, 1)])
     s.onNet = true ∧ s.raised = [] ∧ s.inSlot 10000000 s.statusSlot = true ∧ s.sentNow s.net.statusSent = false) ∧
    (let s := { netted [] with ev := { frames := [⟨1, false, 0, 0, 0⟩] } }
     s.ev.frames ≠ [] ∧ s.eventDue = true) := by decide +kernel

/-- A car that runs upward on a trip whose diversion to car stop 2 is still reachable. -/
def running : Machine.State :=
  let t := twoStops 0
  let g : Seg := { ending := 0, dur := 1000, flags := 4 }
  let c : Channel := { running := true, trip := { segs := [g], pDest := 9000000 } }
  sampled 0 0 (withTrip { t with
    env := { t.env with doors := [(3, 3), (3, 3)] }, full := [{ nStops := 2, diversions := [(513, 64), (1, 64)] }, {}], chans := [c], stops := [] }
    (stand [(Reg.IMG_MODULE_STATE_PHASE, 2), (Reg.TRIP_STATUS_STATE, 2), (Reg.TRIP_STATUS_CAR_STOP, 0), (Reg.TRIP_STATUS_DIR, 1)]))

/-- Requests taken; an assign refused, merged, served here, queued and accepted into the run; cancels. -/
theorem wit_RequestsAreAnswered :
    (let x : Request := ⟨5, 65536 + 2⟩
     let s := withNet { bufReq := [x] } (netted [])
     s.net.bufReq = x :: [] ∧ s.active = true ∧ s.parked = false ∧ s.net.answers.find? (fun a => a.id == x.id && a.payload == x.payload) = none ∧ x.op = 1) ∧
    ((st []).assignRefusal 1 false 0 = some 0x13 ∧ (st []).net.graphReq = [] ∧ (st []).active = true ∧ (st []).parked = false) ∧
    (let s := withTrip { running.trip with stops := [{ landing := 2, upper := false, doors := 1, profile := 0, req := 5, state := 0 }] } running
     s.assignRefusal 2 false 3 = none ∧ s.trip.frozen = false ∧ (s.trip.stops.any fun e => e.landing == 2 && e.upper == false) = true) ∧
    (let s := withTrip { running.trip with stops := List.replicate 64 ⟨200, false, 1, 0, 5, 0⟩ } running
     s.assignRefusal 2 false 3 = none ∧ s.trip.frozen = false ∧
       (s.trip.stops.any fun e => e.landing == 2 && e.upper == false) = false ∧ 64 ≤ s.trip.stops.length) ∧
    (let s := withTrip running.trip (stand [])
     s.assignRefusal 2 false 3 = none ∧ s.trip.stops.length < 64 ∧ s.standsAt 2 = false ∧ s.splicePossible 2 = false) ∧
    (∀ frozen : Bool, let s := withTrip { running.trip with frozen := frozen } running
     s.active = true ∧ s.net.graphReq = [] ∧ s.assignRefusal 2 false 3 = none ∧
       (s.trip.stops.any fun e => e.landing == 2 && e.upper == false) = false ∧ s.trip.stops.length < 64 ∧
       s.standsAt (if false = true then 2 - 1 else 2) = false ∧ s.trip.frozen = frozen ∧
       (withTrip s.trip (stand [(Reg.TRIP_STATUS_CAR_STOP, 2)])).standsAt 2 = true ∧
       (withTrip s.trip (stand [(Reg.TRIP_STATUS_CAR_STOP, 2)])).assignRefusal 2 false 3 = none ∧
       (tryRun 2 { s with trip := { s.trip with stops := s.trip.stops ++ [⟨2, false, 3, 0, 7, 0⟩] } }).2 = true) ∧
    ((st []).r Reg.IMG_MODULE_STATE_LISTENING = 1) ∧
    (let s := withTrip (twoStops 0) (stand [])
     s.active = true ∧ s.net.graphReq = [] ∧ s.r Reg.IMG_MODULE_STATE_LISTENING = 0 ∧
       (s.trip.stops.find? fun e => e.landing == 3 && e.upper == false) = none ∧
       (s.trip.stops.find? fun e => e.landing == 2 && e.upper == false) = some ⟨2, false, 1, 0, 5, 0⟩ ∧ s.trip.frozen = false ∧
       (withTrip { s.trip with frozen := true } s).trip.frozen = true) ∧
    (let e n st : StopEntry := ⟨n, false, 1, 0, 5, st⟩
     let s l c := withTrip { running.trip with stops := l, commit := c, chans := running.trip.chans.map fun x => { x with p := 2 ^ 40 } } running
     let w := withDsp { up := [⟨5, 0, 0, 7, 7, false, false⟩] } (s [e 1 1] (some { commit2 with stop := 1 }))
     (∀ st < 3, ∀ c ∈ [none, some commit2], (s [e 1 st, e 2 0] c).net.graphReq = [] ∧ (s [e 1 st, e 2 0] c).active = true ∧
       (s [e 1 st, e 2 0] c).parked = false ∧ (s [e 1 st, e 2 0] c).trip.stops.find? (fun e => e.landing == 1 && e.upper == false) = some (e 1 st)) ∧
       [e 2 0] = (s [e 1 1, e 2 0] none).trip.stops.filter (fun e => !(e.landing == 1 && e.upper == false)) ∧
       (s [e 1 1, e 2 0] none).cruising = true ∧ ((s [e 2 0] none).beyond 1).map Prod.fst = some 2 ∧ ((s [] none).beyond 1) = none ∧
       (stand []).cruising = false ∧ w.trip.commit = some { commit2 with stop := 1 } ∧ commit2.staged = false ∧ w.commitWaits 7 = true ∧
       (s [e 1 1] none).trip.commit = none) := by
  refine ⟨?_, ?_, ?_, ?_, ?_, ?_, ?_, ?_, ?_⟩ <;> decide +kernel

/-- A PRESS and its RELEASE, a press that is abandoned and ends; a SNAPSHOT armed at both ends of its range, captured and banked. -/
theorem wit_NetworkResetAndSnapshotsComplete :
    (let x n : ResetFrame := ⟨1, 5, 8, n⟩
     let y : Press := ⟨8, 0, 0, false⟩
     let s n p := withNet { bufReset := [x n], press := p } (netted [(Reg.NET_MAP_CFG_RESET_EN, 1)])
     (s 1 none).net.bufReset = x 1 :: [] ∧ (s 1 none).resetAccepts (x 1) = true ∧ (x 1).state = 1 ∧ (s 1 none).net.press = none ∧
       (s 1 none).net.pressDone ≠ some (x 1).id ∧ (s 2 (some y)).resetAccepts (x 2) = true ∧ (x 2).state = 2 ∧
       (s 2 (some y)).net.press = some y ∧ y.abandoned = false ∧ y.id = (x 2).id) ∧
    (∀ ab : Bool, let x : Press := ⟨8, 0, 0, ab⟩
     let s := { withNet { press := some x } (st []) with optime := 5000000 }
     s.net.press = some x ∧ x.abandoned = ab ∧ 30000 ≤ s.since x.last ∧ 5000000 ≤ s.since x.first) ∧
    (∀ at_ ∈ [100000, 60000000000], let s := netted []
     let f := frameOf Kind.snapshot 4 255 (leBytes 2 3 ++ leBytes 2 0 ++ leBytes 8 at_)
     Passed Kind.snapshot 0 f s ∧ FirstSeen 0 f s ∧ (parseRh f).origin = 1 ∧ (parseRh f).dst = 255 ∧
       s.r Reg.NET_SNAP_STATUS_ARMED = 0 ∧ s.net.capture = none ∧ s.net.captured = false ∧ s.ptpNow + 100000 ≤ leAt (parseRh f).payload 4 8 ∧
       leAt (parseRh f).payload 4 8 ≤ s.ptpNow + 60000000000) ∧
    (let f := frameOf Kind.snapshot 4 255 (leBytes 2 3 ++ List.replicate 10 0)
     let c : Snap := { tag := 3 }
     let a := netted [(Reg.NET_SNAP_STATUS_ARMED, 1), (Reg.NET_SNAP_ARMED_TAG, 3)]
     let b := withNet { capture := some c } (netted [])
     let d := withNet { captured := true } (netted [(Reg.NET_SNAP_STATUS_LAST_TAG, 3)])
     (∀ s ∈ [a, b, d], Passed Kind.snapshot 0 f s ∧ FirstSeen 0 f s) ∧ (parseRh f).origin = 1 ∧ (parseRh f).dst = 255 ∧
       leAt (parseRh f).payload 0 2 = 3 ∧ a.r Reg.NET_SNAP_STATUS_ARMED = 1 ∧ a.r Reg.NET_SNAP_ARMED_TAG = 3 ∧
       b.net.capture = some c ∧ c.tag = 3 ∧ d.net.captured = true ∧ d.r Reg.NET_SNAP_STATUS_LAST_TAG = 3) ∧
    (let s := st [(Reg.NET_SNAP_STATUS_ARMED, 1)]
     s.r Reg.NET_SNAP_STATUS_ARMED = 1 ∧ s.snapInstant ≤ s.ptpNow) ∧
    (let c : Snap := { tag := 3 }
     let s banks := withNet { capture := some c } (st [(Reg.NET_SNAP_STATUS_NEXT, 3), (Reg.NET_SNAP_STATUS_BANKS, banks)])
     (s 0).net.capture = some c ∧ (s 0).r Reg.NET_SNAP_STATUS_NEXT = 3 ∧ (s 0).bank 3 ≠ 1 ∧ (s 0).bank 3 ≠ 2 ∧ (s 64).bank 3 = 1 ∧
       c.overwrite = false ∧ (s 0).r Reg.IMG_MODULE_STATE_PHASE ≠ 7) := by
  unfold Passed FirstSeen
  refine ⟨?_, ?_, ?_, ?_, ?_, ?_⟩ <;> decide +kernel

/-- A management frame for this module, by address and by serial; frames that wait: in IMAGE_FAIL, a read of a window, a refused
write. -/
theorem wit_ManagementFramesComplete :
    (let s := netted []
     let f := frameOf Kind.mgmtReq 8 5 (List.replicate 20 0)
     let g := frameOf Kind.mgmtReq 8 255 (List.replicate 4 0 ++ leBytes 8 s.serial)
     Passed Kind.mgmtReq 1 f s ∧ FirstSeen 1 f s ∧ (parseRh f).dst ≠ 255 ∧ Passed Kind.mgmtReq 1 g s ∧ FirstSeen 1 g s ∧
       leAt (parseRh g).payload 4 8 = s.serial ∧ s.net.bufMgmt.length < 8) ∧
    (let x a : MgmtReq := { origin := 2, src := 9, seq := 1, tag := 3, accesses := [a], ports := [some 0, none] }
     let s ph a := withNet { bufMgmt := [x a] } (netted [(Reg.IMG_MODULE_STATE_PHASE, ph)])
     (s 7 (0, 0)).net.bufMgmt = x (0, 0) :: [] ∧ (s 7 (0, 0)).r Reg.IMG_MODULE_STATE_PHASE = 7 ∧
       (s 1 (0, 0)).r Reg.IMG_MODULE_STATE_PHASE ≠ 7 ∧ 0x10000000 % 4 = 0 ∧ addrValid 0x10000000 = true ∧
       addrWindow 0x10000000 = true ∧ (x (0x10000000 + 1, 0)).accesses = [(0x10000000 + 1, 0)] ∧
       ((s 1 (0, 0)).path (x (0, 0)).path).ap.filling = false ∧ (s 1 (0, 0)).writerOk (x (0, 0)).origin = false ∧
       (s 1 (0, 0)).r Reg.NET_STATUS_TRANSPARENT = 0) ∧
    (let x : MgmtReq := { origin := 1, src := 9, seq := 1, tag := 3, accesses := [(0x10034 + 2, 5)], ports := [some 0, some 1] }
     let s := withNet { bufMgmt := [x] } (netted [(Reg.NET_MAP_CFG_MGMT_WRITERS, 7)])
     s.r Reg.IMG_MODULE_STATE_PHASE ≠ 7 ∧ s.r Reg.NET_STATUS_TRANSPARENT = 0 ∧ 0x10034 % 4 = 0 ∧ s.writerOk x.origin = true ∧
       addrValid 0x10034 = true ∧ s.writeRefused x.path 0x10034 5 = false ∧
       (writeReg x.path 0x10034 5 s).fin.net.bufMgmt = s.net.bufMgmt ∧ (writeReg x.path 0x10034 5 s).fin.r Reg.NET_STATUS_TRANSPARENT = 0) := by
  unfold Passed FirstSeen
  refine ⟨?_, ?_, ?_⟩ <;> decide +kernel

/-- An ENUMERATE frame, decisions on equal and different counters, CLEAR under the seal and refused, ADJ frames. -/
theorem wit_AddressesAndAdjacencyComplete :
    (let s := netted []
     let f := frameOf Kind.enumerate 4 255 [8, 0, 3, 0]
     Passed Kind.enumerate 2 f s ∧ (parseRh f).origin = 1 ∧ s.net.enum = none ∧ s.net.enumDone ≠ some (leAt (parseRh f).payload 0 2)) ∧
    (let s a b := withNet { enum := some ⟨8, [some a, some b], 0⟩ } (netted [(Reg.NET_ADDR_ADDRESS, 0)])
     (s 253 253).net.enum = some ⟨8, [some 253, some 253], 0⟩ ∧ (s 253 253).r Reg.NET_ADDR_ADDRESS = 0 ∧
       (s 253 253).partnerTook 8 = none ∧ ((s 253 253).gapRule 253).1 = true ∧ (s 3 4).net.enum = some ⟨8, [some 3, some 4], 0⟩) ∧
    (let s := withSaf { lanes := [{ sw1 := true, code := 0 }, { sw1 := true, code := 0 }] } (st [])
     s.sealOpen = true ∧ s.r Reg.TRIP_STATUS_STATE = 0 ∧ s.r Reg.IMG_MODULE_STATE_PHASE ≠ 7) ∧
    ((st []).sealOpen = false ∧ (st []).r Reg.IMG_MODULE_STATE_PHASE ≠ 7 ∧ (stand [(Reg.TRIP_STATUS_STATE, 2)]).r Reg.TRIP_STATUS_STATE ≠ 0 ∧
      (let s := withNet { adjSent := some 0 } { netted [] with optime := 100000 }
       s.net.adjSent = some 0 ∧ 100000 ≤ s.since 0 ∧ s.r Reg.NET_STATUS_TRANSPARENT = 0) ∧
      (let s := withNet { adjSent := some 0 } (netted [])
       s.net.adjSent = some 0 ∧ s.since 0 < 100000) ∧ (netted []).net.adjSent = none ∧ (netted []).r Reg.NET_STATUS_TRANSPARENT = 0) ∧
    (let f := frameOf Kind.adj 0 255 (List.replicate 12 0)
     Passed Kind.adj 3 f (netted []) ∧ FirstSeen 3 f (netted [])) ∧
    (let s := withNet { adj := List.replicate 3 {} ++ [{ present := true }] } { st [] with optime := 300001 }
     (nth s.net.adj 3 {}).present = true ∧ 300000 < s.since (nth s.net.adj 3 {}).at_) := by
  unfold Passed FirstSeen
  refine ⟨?_, ?_, ?_, ?_, ?_, ?_⟩ <;> decide +kernel

/-- The eighth good Sync of each network, a late one; peer delays and Announce. -/
theorem wit_PrecisionTimeComplete :
    (∀ b : Bool, let c : NetClock := { half := 2000, run := 7, best := some ⟨[], 5, 0⟩ }
     let s := withNet { clocks := [c, c] } (netted [])
     s.controlReady = true ∧ s.fromMaster (b2n b) 5 = true ∧ s.lockedOn (b2n b) = false ∧ mag (((s.clock (b2n b)).half / 2 : Nat) - ((800 : Nat) : Int)) ≤ 200 ∧
       7 ≤ (s.clock (b2n b)).run) ∧
    (∀ b : Bool, let s := { st [(Reg.NET_STATUS_PTP_A, 2), (Reg.NET_STATUS_PTP_B, 2)] with optime := 3000000 }
     s.lockedOn (b2n b) = true ∧ 3000000 ≤ s.since (s.clock (b2n b)).lastSync) ∧
    (let s := withNet { ports := List.replicate 3 {} ++ [{ pdelayWait := true, pdelaySeq := 0 }] } (netted [])
     s.controlReady = true ∧ (s.port 3).pdelayAt = none ∧ (queueOf s 3 0).length < 8 ∧ s.linkUp 3 = true ∧
       (s.port 3).pdelayWait = true ∧ (65535 + 1) % 65536 = (s.port 3).pdelaySeq ∧
       leAt (List.replicate 80 0) (ethHead + 4) 1 = s.r Reg.NET_MISC_CFG_PTP_DOMAIN ∧
       (nth (s.port (otherPort 3)).queues 0 []).length < 8) ∧
    (let s := withNet { ports := List.replicate 3 {} ++ [{ queues := [[.pdelayResp [1] [2] 3], [], [], []] }] } (netted [])
     s.linkUp 3 = true ∧ queueOf s 3 0 = .pdelayResp [1] [2] 3 :: [] ∧ s.controlReady = true) := by
  refine ⟨?_, ?_, ?_, ?_⟩ <;> decide +kernel

/-! ### The mirror pair -/

/-- The state with another pair block. -/
def withMir (d : MirState) (s : Machine.State) : Machine.State := { s with mir := d }

/-- A member of a pair that has loaded its image, with the register fields listed. -/
def member (l : List (Field × Nat)) : Machine.State := stand ([(Reg.MIR_CFG_PAIRED, 1)] ++ l)

/-- Another module's HELLO: standby, its shadow CLEAN. -/
def helloClean : Hello := { serial := 9, role := 2, shadow := 3 }

/-- A SYNC for a car period. -/
def syncAt (k : Nat) : SyncBody :=
  { period := k, chans := [], stops := [], eng := [], modes := [], ops := [], doorStates := [], deck := {}, progs := [], doorFaults := [], word := 0,
    trip := (0, false, 0, 0, 0) }

/-- HELLO sent and received, the lost link, SYNC_REQ, and a SYNC for a period that has come and for one that has not. -/
theorem wit_PairLinkMessagesComplete :
    (let s := withMir { helloSent := some 0 } { member [] with optime := 10000 }
     s.paired = true ∧ s.controlReady = true ∧ s.mir.helloSent = some 0 ∧ 10000 ≤ s.since 0 ∧ s.mir.out.length < 64) ∧
    ((member []).paired = true ∧ (member []).r Reg.MIR_STATUS_LINK_UP = 0) ∧
    (∀ b : Bool, let s := { member [(Reg.MIR_STATUS_LINK_UP, 1), (Reg.MIR_STATUS_OWN_LINE, b2n b)] with optime := 30001 }
     s.r Reg.MIR_STATUS_LINK_UP = 1 ∧ 30000 < s.since s.mir.lastHello ∧ s.r Reg.MIR_STATUS_OWN_LINE = b2n b) ∧
    (let s := member [(Reg.MIR_STATUS_OWN_LINE, 1)]
     s.paired = true ∧ s.r Reg.MIR_STATUS_OWN_LINE = 1 ∧ s.mir.out.length < 64) ∧
    (let s := withMir { k := 5 } (member [])
     s.standby = true ∧ s.periodDue (syncAt 5).period = true ∧ s.periodDue (syncAt 6).period = false) := by
  refine ⟨?_, ?_, ?_, ?_, ?_⟩ <;> decide +kernel

/-- A heartbeat within its period and a damaged one; a missing one; a shadow long enough SYNCED; a journal record of a change. -/
theorem wit_ShadowAndHeartbeatComplete :
    (let s := withMir { aligned := true, k := 7 } (member [])
     let act := leBytes 4 7 ++ List.replicate 140 (0 : Byte)
     s.standby = true ∧ s.r Reg.PWR_STATUS_PARKED = 0 ∧ stateOf (linkBytes 2 0 act) = some act ∧ s.mir.aligned = true ∧
       leAt act 0 4 = s.mir.k ∧ s.since ((s.eng 0).lastAt.getD s.optime) ≤ 20 ∧
       stateOf (linkBytes 2 0 act ++ [0]) = none ∧ stateOf ((linkBytes 2 0 act).set 9 1) = none) ∧
    (let s := withLoop { eng := [{ lastAt := some 0 }] } (withMir { aligned := true, k := 7, hbK := some 6 } { member [] with optime := 20 })
     s.standby = true ∧ s.mir.aligned = true ∧ s.r Reg.PWR_STATUS_PARKED = 0 ∧ s.mir.hbK ≠ some s.mir.k ∧
       s.mir.missK ≠ some s.mir.k ∧ (s.eng 0).lastAt = some 0 ∧ 20 ≤ s.since 0) ∧
    (let s := withMir { syncedAt := some 0 } { member [(Reg.MIR_STATUS_SHADOW, 2), (Reg.MIR_CFG_MIR_CLEAN_S, 10)] with optime := 10000000 }
     s.standby = true ∧ s.shadow = 2 ∧ s.mir.syncedAt = some 0 ∧ s.r Reg.MIR_CFG_MIR_CLEAN_S * 1000000 ≤ s.since 0) ∧
    (let x : StopChange := ⟨5, 0, 1, (twoStops 0).stops⟩
     (member []).standby = true ∧ x.list ≠ (member []).trip.stops ∧ x.payload = 0) ∧
    (let s := withSaf lifted (looping [(Reg.MIR_CFG_PAIRED, 1), (Reg.MIR_STATUS_OWN_LINE, 1)])
     let u := carLoopPeriod false true { s with mir := { s.mir with k := s.periodIndex } }
     s.r Reg.PWR_STATUS_PARKED = 0 ∧ s.pwr.parkDue = false ∧ s.standby = false ∧ s.carPeriod.isSome = true ∧ (s.eng 0).lastAt ≠ some s.optime ∧
       u.paired = true ∧ u.r Reg.MIR_STATUS_OWN_LINE = 1 ∧ u.handoverDue = false ∧ u.mir.out.length < 64) := by
  refine ⟨?_, ?_, ?_, ?_, ?_⟩ <;> decide +kernel

/-- An active at a quiet point, with a CLEAN partner. -/
def atQuiet (m : MirState) : Machine.State :=
  withSaf { quietAt := some 0, lanes := List.replicate 2 { started := true, brakes := [{ state := 0 }, { state := 0 }] } }
    (withMir { m with partner := some helloClean }
      { member [(Reg.MIR_STATUS_OWN_LINE, 1), (Reg.MIR_STATUS_LINK_UP, 1)] with optime := 1000000 })

/-- The takeover of a SYNCED standby, the end of REQ_HOLD, HANDOVER messages, an automatic handover and its two sides. -/
theorem wit_TakeoverAndHandoverComplete :
    (let s := withMir { hbMiss := 2 } { member [(Reg.MIR_STATUS_SHADOW, 2), (Reg.MIR_STATUS_RELEASED, 0)] with optime := 2 }
     s.mayRaise = true ∧ s.synced = true ∧ 2 ≤ s.mir.hbMiss ∧ s.r Reg.PWR_STATUS_PARKED = 0 ∧ s.r Reg.MIR_STATUS_FOREIGN = 0) ∧
    (let s := { member [(Reg.MIR_STATUS_SHADOW, 3)] with optime := 250 }
     s.standby = true ∧ s.r Reg.MIR_STATUS_PARTNER_LINE = 0 ∧ 250 ≤ s.since s.mir.holdAt ∧ s.r Reg.PWR_STATUS_PARKED = 0 ∧
       s.synced = true) ∧
    (let s := { member [(Reg.MIR_STATUS_SHADOW, 1), (Reg.MIR_STATUS_RELEASED, 0)] with optime := 250 }
     s.standby = true ∧ s.r Reg.MIR_STATUS_PARTNER_LINE = 0 ∧ 250 ≤ s.since s.mir.holdAt ∧ s.r Reg.PWR_STATUS_PARKED = 0 ∧
       s.mayRaise = true ∧ s.synced = false ∧ s.handoverAhead = false ∧ s.mir.resigned = false ∧ s.standstill = true) ∧
    ((member []).standby = true ∧ 4294967295 < 2 ^ 32) ∧
    (let s := atQuiet { handCmd := true }
     s.paired = true ∧ s.r Reg.MIR_STATUS_OWN_LINE = 1 ∧ s.mir.handAt = none ∧ s.quiet = true ∧ s.partnerClean = true ∧
       s.mir.adoptAt = none ∧ s.handoverCause = some 0 ∧ s.mir.out.length < 64) ∧
    (let s := atQuiet { handAt := some 3, k := 3 }
     s.mir.handAt = some 3 ∧ s.periodDue 3 = true ∧ s.r Reg.MIR_STATUS_OWN_LINE = 1 ∧ s.handoverBroken = none) ∧
    (let s := withMir { handAt := some 3, k := 3 } { member [(Reg.MIR_STATUS_SHADOW, 2), (Reg.MIR_STATUS_RELEASED, 0)] with optime := 2 }
     s.mir.handAt = some 3 ∧ s.periodDue 3 = true ∧ s.r Reg.MIR_STATUS_OWN_LINE = 0 ∧ s.mayRaise = true ∧ s.synced = true) := by
  refine ⟨?_, ?_, ?_, ?_, ?_, ?_, ?_⟩ <;> decide +kernel

/-- The partner's line rises and falls; an own line without car periods. -/
theorem wit_RoleLinesAndMirrorCommandsComplete_lines :
    (∀ b : Bool, let s := member [(Reg.MIR_STATUS_PARTNER_LINE, b2n b)]
     s.paired = true ∧ s.mir.clash = false ∧ s.r Reg.MIR_STATUS_PARTNER_LINE = b2n b ∧ s.r Reg.MIR_STATUS_OWN_LINE = 0) ∧
    ((stand []).paired = false ∧ (member [(Reg.MIR_STATUS_OWN_LINE, 1)]).r Reg.MIR_STATUS_OWN_LINE = 1) ∧
    (let s := { member [(Reg.MIR_STATUS_OWN_LINE, 1), (Reg.PWR_STATUS_PARKED, 1)] with optime := 101 }
     s.paired = true ∧ s.r Reg.MIR_STATUS_OWN_LINE = 1 ∧ s.r Reg.PWR_STATUS_PARKED = 1 ∧ 100 < s.since s.pos.sample.time) ∧
    (let s := { member [(Reg.MIR_STATUS_OWN_LINE, 1)] with optime := 101 }
     s.paired = true ∧ s.r Reg.MIR_STATUS_OWN_LINE = 1 ∧ s.r Reg.PWR_STATUS_PARKED = 0 ∧
       100 < s.sinceOrReady (s.eng 0).lastAt ∧ 100 < s.since s.pwr.leftAt) := by
  refine ⟨?_, ?_, ?_, ?_⟩ <;> decide +kernel

/-- MIR_CMD at an active, at a standby and at a member; an adoption that nothing refuses, its COMMAND and its end. -/
theorem wit_RoleLinesAndMirrorCommandsComplete :
    (let s := atQuiet {}
     s.paired = true ∧ s.r Reg.MIR_STATUS_OWN_LINE = 1 ∧ s.partnerClean = true ∧ s.active = true ∧ s.mir.out.length < 64 ∧
       s.r Reg.IMG_MODULE_STATE_PHASE ≠ 7) ∧
    ((member []).r Reg.IMG_MODULE_STATE_PHASE ≠ 7 ∧ (member []).active = false ∧ (member []).paired = true ∧ (member []).partnerConducts = false) ∧
    (let m := member [(Reg.MIR_STATUS_ROLE, 2), (Reg.MIR_STATUS_PARTNER_LINE, 1), (Reg.IMG_STATUS_DESIGNATED_BANK, 1)]
     let s := { m with img := { m.img with activated := true } }
     s.adoptRefusal = none ∧ s.mir.out.length < 64 ∧ s.r Reg.IMG_MODULE_STATE_PHASE ≠ 7) ∧
    (let s := withMir { adoptAt := some 0 } { member [] with optime := 100000 }
     s.mir.adoptAt = some 0 ∧ 100000 ≤ s.since 0) := by
  refine ⟨?_, ?_, ?_, ?_⟩ <;> decide +kernel

/-! ### Memories -/

/-- The state with another block of memory errors. -/
def withMem (d : MemState) (s : Machine.State) : Machine.State := { s with mem := d }

/-- The last word of a memory; rows with spares; a remap in progress; a failed block with and without a spare. -/
theorem wit_MemoryErrorsAndRemapsComplete :
    (∀ table : Bool, rowCount table * rowBytes table - 1 < rowCount table * rowBytes table) ∧
    (∀ table : Bool, let s := withMem { due := [(table, 7)] } (st [])
     s.mem.remap = none ∧ s.r (spareFree table) ≠ 0 ∧ rowCount table - 1 < rowCount table ∧ (table, 7) ∈ s.mem.due ∧ 7 < rowCount table) ∧
    (∀ table : Bool, (withMem { remap := some ⟨table, 7, 0⟩ } (st [])).mem.remap = some ⟨table, 7, 0⟩) ∧
    (16383 < 16384 ∧ (st []).r Reg.MIR_SPARE_DEEP_FREE ≠ 0) ∧
    (let s := st [(Reg.MIR_SPARE_DEEP_FREE, 0), (Reg.IMG_WRITE_STATUS_STATE, 1), (Reg.IMG_WRITE_STATUS_TARGET, 3)]
     s.r Reg.MIR_SPARE_DEEP_FREE = 0 ∧ s.deepBlock 16383 ∉ s.mem.retired ∧ s.sessionOpen = true ∧ 2 ≤ s.r Reg.IMG_WRITE_STATUS_TARGET) := by
  refine ⟨?_, ?_, ?_, ?_, ?_⟩ <;> decide +kernel

/-- Scrubs while running and Parked, at the last word; the error window; a refreshed block. -/
theorem wit_ScrubsComplete :
    ((stand []).parked = false ∧ (stand [(Reg.PWR_STATUS_PARKED, 1)]).parked = true) ∧
    (33554431 < 0x2000000 ∧ (stand []).since (stand []).mem.windowAt < 86400000000 ∧
      (stand [(Reg.MIR_CFG_MEM_ERR_RELAY, 1)]).r Reg.MIR_CFG_MEM_ERR_RELAY ≠ 0 ∧
      (stand [(Reg.MIR_CFG_MEM_ERR_RELAY, 1)]).r Reg.MIR_CFG_MEM_ERR_RELAY ≤ SMap.get (stand []).mem.nearErr (33554431 / 1024) 0 + 1) ∧
    (6291455 < 0x600000 ∧ 0x600000 ≤ 12582911 ∧ 12582911 < 0xC00000) ∧
    (1 < 2 ∧ 16383 < 16384 ∧ (stand [(Reg.MIR_CFG_DEEP_REFRESH, 40)]).r Reg.MIR_CFG_DEEP_REFRESH < 41 ∧
      (stand [(Reg.MIR_CFG_DEEP_REFRESH, 40)]).r Reg.MIR_SPARE_DEEP_FREE ≠ 0) := by
  refine ⟨?_, ?_, ?_, ?_⟩ <;> decide +kernel

/-! ### Power, resets and start-up -/

/-- The state with another power block. -/
def withPwr (d : PwrState) (s : Machine.State) : Machine.State := { s with pwr := d }

/-- The state with another image block. -/
def withImg (d : ImgState) (s : Machine.State) : Machine.State := { s with img := d }

/-- A POWER-ON or DIP reset in progress, with the register fields listed. -/
def held (l : List (Field × Nat)) : Machine.State := withPwr {} (st l)

/-- Bank 0 activated and VERIFIED, its seal record that of an image of no frames. -/
def sealedEmpty : ImgState :=
  { activated := true, seals := [{ digest := imageDigest (logicalRd (targetRd Machine.State.reset 0)) }] }

/-- R58 on such a bank. -/
theorem chooseBank_of_empty (s : Machine.State) (a : s.img.activated = true) (g : s.img.seals = sealedEmpty.seals) (b : s.keep = [])
    (c : s.r Reg.IMG_STATUS_DESIGNATED_BANK = 0) (d : s.verified 0 = true) : chooseBank [] s = (s, some 0) := by
  have e : s.sealOf 0 = { digest := imageDigest (logicalRd (targetRd Machine.State.reset 0)) } := by
    rw [State.sealOf, g]; rfl
  have f : targetRd s 0 = targetRd Machine.State.reset 0 := by
    rw [targetRd, targetRd, b]; rfl
  simp [chooseBank, tryBank, a, c, d, e, f, readFrames]

/-- A field of each retention class and one that shows a level, in a module under supply. -/
theorem wit_ResetKeepsByRetentionClass :
    (∀ g ∈ [Reg.NET_ADDR_ADDRESS, Reg.MIR_STATUS_SHADOW, Reg.NET_ADDR_SIDE, Reg.TRIP_ID], fieldOfKey g.key = some g ∧
      g.key ∉ [Reg.PWR_RESET_CAUSE_KIND, Reg.PWR_RESET_CAUSE_CAUSE, Reg.PWR_CLOCK_REF_OK, Reg.PWR_STATUS_PLL_IN_SERVICE,
        Reg.IMG_STATUS_TS_INCOMING_STATE].map Field.key ∧
      ∀ n, g.key ≠ (sealField n).key) ∧ (up []).down = false ∧ 2 < 3 ∧ SysRecord.address ∉ (up []).mem.lost := by
  have h : ∀ n, sealField n ∈ [0, 1, 2, 3].map sealField := by
    intro n; unfold sealField; split <;> (try split) <;> (try split) <;> decide +kernel
  refine ⟨fun g m => ⟨?_, ?_, fun n e => ?_⟩, by decide +kernel, by decide, by decide +kernel⟩
  · revert g; decide +kernel
  · revert g; decide +kernel
  · have a : g.key ∈ ([0, 1, 2, 3].map sealField).map Field.key := e ▸ List.mem_map_of_mem (h n)
    clear e
    revert g; decide +kernel

/-- A start without an activated bank. -/
theorem wit_SuppliesValidStartsTheModule :
    (let s := held []
     s.down = true ∧ s.pwr.clockLost = false ∧ 18000 ≤ 24000 ∧ nth [true, true] 0 false = true ∧ s.pllFenced 0 = false ∧
       s.img.activated = false ∧ pllStart [false, false] (countCycle s) = none) ∧
    (let s := withPwr { clockLost := true, retryAt := some 0 } { st [] with optime := 10000 }
     s.pwr.clockLost = true ∧ s.pwr.retryAt = some 0 ∧ 10000 ≤ s.since 0 ∧ nth [true] 0 false = true ∧ s.pllFenced 0 = false ∧
       nth [false, false] 0 false = false ∧ nth [false, false] 1 false = false) := by
  refine ⟨?_, ?_⟩ <;> decide +kernel

/-- What a start's clock, its count and its supplies leave. -/
theorem countCycle_frame (s : Machine.State) : (countCycle s).img = s.img ∧ (countCycle s).keep = s.keep := by
  unfold countCycle; split <;> exact ⟨rfl, rfl⟩

theorem pllStart_frame (l : List Bool) (s u : Machine.State) (h : pllStart l s = some u) : u.img = s.img ∧ u.keep = s.keep := by
  simp only [pllStart] at h
  split at h
  · cases h
  · cases h; exact ⟨rfl, rfl⟩

/-- Levels looked at anew change standard field I/O alone. -/
theorem doRefresh_eq (s : Machine.State) : doRefresh s = { s with fio := (doRefresh s).fio } := by
  unfold doRefresh
  generalize List.range 24 = l
  induction l generalizing s with
  | nil => rfl
  | cons i l h =>
    have a : s.doChanged i = { s with fio := (s.doChanged i).fio } := by
      unfold State.doChanged; split <;> rfl
    rw [List.foldl_cons, h, a]

/-- What a start's supplies leave, in a module that is not in Dim. -/
theorem suppliesUp_frame (n : Nat) (s : Machine.State) :
    (suppliesUp 24000 800 n s).img = { s.img with supplyAt := s.optime } ∧ (suppliesUp 24000 800 n s).keep = s.keep ∧
      (suppliesUp 24000 800 n s).regs = (s.w Reg.NET_ADDR_SIDE n).regs := by
  have d : dimEntry (dimCause 24000 800) = 0 := by decide +kernel
  unfold suppliesUp dimStart
  simp only [d, if_true]
  rw [doRefresh_eq]
  exact ⟨rfl, rfl, rfl⟩

/-- A start from bank 0. -/
theorem wit_SuppliesValidStartsTheModule_bank :
    let s := withImg sealedEmpty (held [(Reg.IMG_STATUS_BANK0_STATE, 2)])
    s.down = true ∧ s.pwr.clockLost = false ∧
      ∃ u r b, pllStart [true, true] (countCycle s) = some u ∧ chooseBank [] (suppliesUp 24000 800 (0 % 2) u) = (r, some b) := by
  intro s
  have h : (pllStart [true, true] (countCycle s)).isSome = true := by decide +kernel
  have k := Option.eq_some_of_isSome h
  have f := pllStart_frame _ _ _ k
  have c := countCycle_frame s
  have g := suppliesUp_frame (0 % 2) ((pllStart [true, true] (countCycle s)).get h)
  refine ⟨rfl, rfl, _, _, 0, k, chooseBank_of_empty _ ?_ ?_ ?_ ?_ ?_⟩
  · rw [g.1, f.1, c.1]; rfl
  · rw [g.1, f.1, c.1]; rfl
  · rw [g.2.1, f.2, c.2]; rfl
  · clear k f c; rw [State.r, g.2.2]; clear g; revert h; decide +kernel
  · clear k f c; unfold State.verified State.r; rw [g.2.2]; clear g; revert h; decide +kernel

/-- The image block of a module that has loaded an image, before CONTROL_READY. -/
def loadedImg (warm : Bool) : ImgState := { loaded := true, loading := true, warm := warm, slotDigest := [some 0, none] }

/-- CONTROL_READY after a POWER-ON and after a WARM reset; an atlas stream that fails by a frame and by its digest. -/
theorem wit_ControlReadyAndAtlasComplete :
    (∀ warm : Bool, let s := withImg (loadedImg warm) (up [])
     s.r Reg.IMG_MODULE_STATE_PHASE = 0 ∧ s.img.loaded = true ∧ s.img.loading = true ∧ s.down = false ∧ s.pwr.clockLost = false ∧
       s.img.warm = warm ∧ s.r Reg.IMG_STATUS_TS_INCOMING_STATE ≠ 2 ∧
       nth s.img.slotDigest s.activeSlot none = some s.img.loadedSeal.atlas) ∧
    (let s := withImg { streamSlot := 1 } (up [(Reg.IMG_STATUS_TS_INCOMING_STATE, 4)])
     s.r Reg.IMG_STATUS_TS_INCOMING_STATE = 4 ∧ s.img.swapDue = false ∧ s.img.streamSlot = 1 ∧ 1 < 2) ∧
    (let u := withImg { streamSlot := 1 } (up [(Reg.IMG_STATUS_TS_INCOMING_STATE, 4)])
     let s := u.setSeal 3 { digest := ~~~ imageDigest (logicalRd (targetRd u 3)) }
     imageDigest (logicalRd (targetRd s (2 + 1))) ≠ (s.sealOf (2 + 1)).digest) := by
  refine ⟨by decide +kernel, by decide +kernel, ?_⟩
  intro u s
  have q : (s.sealOf (2 + 1)).digest = ~~~ imageDigest (logicalRd (targetRd u 3)) := rfl
  have r : imageDigest (logicalRd (targetRd s (2 + 1))) = imageDigest (logicalRd (targetRd u 3)) := rfl
  rw [q, r]
  generalize imageDigest (logicalRd (targetRd u 3)) = d
  intro e
  have k := congrArg (fun x => x.getLsbD 0) e
  simp at k

/-- An atlas stream that ends well: no frames, and the digest of the seal record. -/
theorem wit_ControlReadyAndAtlasComplete_end :
    let u := withImg { streamSlot := 1 } (up [(Reg.IMG_STATUS_TS_INCOMING_STATE, 4)])
    let s := u.setSeal 3 { digest := imageDigest (logicalRd (targetRd u 3)) }
    s.r Reg.IMG_STATUS_TS_INCOMING_STATE = 4 ∧ s.img.swapDue = false ∧ s.img.streamSlot = 1 ∧ s.reticleLoading = false ∧
      ({ s with ret := { s.ret with sets := [{ loading := true, live := {} }] } } : Machine.State).reticleLoading = true ∧
      ((List.range ((s.sealOf (2 + 1)).storedLen / 4096)).all (frameOk (targetRd s (2 + 1)))) = true ∧
      imageDigest (logicalRd (targetRd s (2 + 1))) = (s.sealOf (2 + 1)).digest := by
  intro u s
  have r1 : s.regs = u.regs := rfl
  have e : s.sealOf 3 = { digest := imageDigest (logicalRd (targetRd u 3)) } := rfl
  refine ⟨?_, rfl, rfl, rfl, rfl, by simp [e], rfl⟩
  simp only [State.r, r1]; decide +kernel

theorem cutWrites_frame (s : Machine.State) : (cutWrites s).img = s.img ∧ (cutWrites s).keep = s.keep := by
  unfold cutWrites
  simp only [List.foldl]
  constructor <;> (repeat' split) <;> rfl

theorem showAgain_frame (k : Nat) (b s : Machine.State) : (showAgain k b s).img = s.img ∧ (showAgain k b s).keep = s.keep := by
  unfold showAgain
  induction shownFields k generalizing s with
  | nil => exact ⟨rfl, rfl⟩
  | cons f l h => exact h _

theorem resetPll_frame (s : Machine.State) : (resetPll s).img = s.img ∧ (resetPll s).keep = s.keep := ⟨rfl, rfl⟩

theorem warmState_frame (c : Nat) (s : Machine.State) :
    (warmState c s).img.seals = s.img.seals ∧ (warmState c s).img.activated = s.img.activated ∧ (warmState c s).keep = s.keep := by
  have b : (resetState 2 c s).img = keptImg 2 s ∧ (resetState 2 c s).keep = s.keep := by
    unfold resetState
    simp only [showAgain_frame, resetPll_frame, cutWrites_frame]
    exact ⟨rfl, rfl⟩
  unfold warmState
  cases h : pllStart [(resetState 2 c s).rb Reg.PWR_CLOCK_PLL0_LOCK, (resetState 2 c s).rb Reg.PWR_CLOCK_PLL1_LOCK] (resetState 2 c s) with
  | none => simp only [h, Option.getD]; rw [b.1, b.2]; exact ⟨rfl, rfl, rfl⟩
  | some u =>
    have f := pllStart_frame _ _ _ h
    simp only [h, Option.getD]; rw [f.1, f.2, b.1, b.2]; exact ⟨rfl, rfl, rfl⟩

/-- WARM not allowed, allowed in Parked, allowed in START; the exit from Parked; adoptions at both modules. -/
theorem wit_WarmParkExitAndAdoption :
    (let s := up [(Reg.IMG_MODULE_STATE_PHASE, 1)]
     s.down = false ∧ s.warmAllowed = false) ∧
    (let s := up [(Reg.PWR_STATUS_PARKED, 1), (Reg.IMG_MODULE_STATE_LISTENING, 0)]
     s.down = false ∧ s.warmAllowed = true ∧ s.parked = true) ∧
    ((up []).down = false ∧ (up []).warmAllowed = true ∧ (up []).parked = false ∧ (up []).img.activated = false) ∧
    (let s := withPwr { exit := some 2 } (stand [(Reg.PWR_STATUS_PARKED, 1)])
     s.parked = true ∧ s.active = true ∧ s.exitCause = some 2 ∧ s.pwr.warmDue = false ∧ s.trip.cmdsHeld = []) ∧
    (let s := (atQuiet { adoptWait := true }).w Reg.MIR_STATUS_LINK_UP 0
     s.quiet = true ∧ s.r Reg.MIR_STATUS_LINK_UP = 0 ∧ s.mir.partnerAdopts = false ∧ s.mir.adoptWait = true ∧ s.img.activated = false) ∧
    (let s := atQuiet { partnerAdopts := true }
     s.quiet = true ∧ s.mir.partnerAdopts = true ∧ s.r Reg.MIR_STATUS_OWN_LINE = 1 ∧ s.mir.adoptWait = false) := by
  refine ⟨?_, ?_, ?_, ?_, ?_, ?_⟩ <;> decide +kernel

/-- A WARM reset and an adoption that load bank 0. -/
theorem wit_WarmParkExitAndAdoption_bank :
    (let s := withImg sealedEmpty (up [(Reg.IMG_STATUS_BANK0_STATE, 2)])
     s.down = false ∧ s.warmAllowed = true ∧ s.parked = false ∧ ∃ r b, chooseBank [] ((warmState 6 s).w Reg.NET_ADDR_SIDE (0 % 2)) = (r, some b)) ∧
    (let s := withImg sealedEmpty (((atQuiet { adoptWait := true }).w Reg.MIR_STATUS_LINK_UP 0).w Reg.IMG_STATUS_BANK0_STATE 2)
     s.quiet = true ∧ s.r Reg.MIR_STATUS_LINK_UP = 0 ∧ s.mir.partnerAdopts = false ∧ s.mir.adoptWait = true ∧ ∃ r b, chooseBank [] ((warmState 7 s).w Reg.NET_ADDR_SIDE (0 % 2)) = (r, some b)) := by
  refine ⟨⟨by decide +kernel, by decide +kernel, by decide +kernel, _, 0, chooseBank_of_empty _ ?_ ?_ ?_ ?_ ?_⟩,
    ⟨by decide +kernel, by decide +kernel, by decide +kernel, by decide +kernel, _, 0, chooseBank_of_empty _ ?_ ?_ ?_ ?_ ?_⟩⟩
  · rw [State.w_img, (warmState_frame _ _).2.1]; rfl
  · rw [State.w_img, (warmState_frame _ _).1]; rfl
  · rw [State.w_keep, (warmState_frame _ _).2.2]; rfl
  · decide +kernel
  · decide +kernel
  · rw [State.w_img, (warmState_frame _ _).2.1]; rfl
  · rw [State.w_img, (warmState_frame _ _).1]; rfl
  · rw [State.w_keep, (warmState_frame _ _).2.2]; rfl
  · decide +kernel
  · decide +kernel

/-- The 20th sample below 19.2 V; crossings down; the thresholds first met and met for 1 ms; rails. -/
theorem wit_SupplyClocksAndTemperatureComplete_supply :
    (let s := withPwr { vin := (1, 19) } (st [(Reg.PWR_STATUS_VIN_BAND, 0)])
     160 ≤ 191 ∧ 191 < 192 ∧ s.r Reg.PWR_STATUS_VIN_BAND = 0 ∧ s.pwr.vin = (1, 19)) ∧
    (st []).r Reg.PWR_STATUS_STEP < dimEntry (dimCause 19999 800) ∧
    (let s := withPwr { exitAt := some 0 } { st [(Reg.PWR_STATUS_STEP, 1)] with optime := 1000 }
     s.r Reg.PWR_STATUS_STEP = 1 ∧ 20300 ≤ 20300 ∧ 776 < 777 ∧ s.pwr.exitAt = some 0 ∧ 1000 ≤ s.since 0) ∧
    (let s := st [(Reg.PWR_STATUS_STEP, 2)]
     s.r Reg.PWR_STATUS_STEP = 2 ∧ 19700 ≤ 19700 ∧ 760 < 761 ∧ s.pwr.exitAt = none) ∧
    (767 < 4096 ∧ 767 < 768 ∧ 768 ≤ 4095) := by
  refine ⟨?_, ?_, ?_, ?_, ?_⟩ <;> decide +kernel

/-- A spare PLL; a sensor that becomes hot; the last microsecond of the operating time. -/
theorem wit_SupplyClocksAndTemperatureComplete :
    (let s := st [(Reg.PWR_STATUS_SPARE_OK, 1), (Reg.PWR_STATUS_PLL_IN_SERVICE, 0)]
     s.r Reg.PWR_STATUS_SPARE_OK = 1 ∧ s.r Reg.PWR_STATUS_PLL_IN_SERVICE = 0 ∧ (2000 < (2001 : Int) ∧ (-2001 : Int) < -2000)) ∧
    (let s := st [(Reg.PWR_TEMP_LIM_LIM0, 100)]
     (1001 : Int) < 2 ^ 15 ∧ (10 * s.r Reg.PWR_TEMP_LIM_LIM0 : Int) < 1001 ∧ nth s.pwr.hot 0 false = false ∧ 0 < s.pwr.hot.length) ∧
    ({ st [] with optime := -1 } : Machine.State).optime + 1 = 0 := by
  refine ⟨?_, ?_, ?_⟩ <;> decide +kernel

/-- PARK of a single module and of a pair's active, refused; UNPARK; FACET of a mapped and of an unmapped facet. -/
theorem wit_PowerCommandsComplete :
    (∀ pair : Bool, let s := ((atQuiet {}).w Reg.MIR_CFG_PAIRED (b2n pair)).w Reg.IMG_MODULE_STATE_PHASE 2
     s.parkRefusal = 0 ∧ s.paired = pair ∧ Serving s) ∧
    ((stand []).parkRefusal ≠ 0 ∧ Serving (stand [])) ∧
    (let s := stand [(Reg.PWR_STATUS_PARKED, 1)]
     s.parked = true ∧ s.pwr.exit = none ∧ Serving s) ∧
    (let d : Desc := { node := 3, prio := 1 }
     let s := withDsp { map := [some 111], facets := List.replicate 111 {} ++ [{ running := some d, pref := some d }], fab := { allocCount := 1 } } (stand [])
     Serving s ∧ (s.facet 111).running = some d ∧ (s.facet 111).latch = none ∧ (s.facet 111).pref = some d ∧ 0 < 128 ∧ s.parked = false ∧ s.physOf 0 = some 111 ∧ 111 < 112 ∧ 111 < s.dsp.facets.length ∧ 0 < s.dsp.fab.allocCount ∧
       s.dsp.lost.elem 0 = false ∧ s.relayBusy = false ∧ s.physOf 127 = none) := by
  refine ⟨?_, ?_, ?_, ?_⟩ <;> decide +kernel

/-! ### Events, logs and the recorder -/

/-- The state with another log. -/
def withLog (d : LogState) (s : Machine.State) : Machine.State := { s with log := d }

/-- The state with another event block. -/
def withEv (d : EvState) (s : Machine.State) : Machine.State := { s with ev := d }

/-- An entry of the host queue. -/
def entry5 : QEntry := ⟨5, true, 7, 8, 1⟩

/-- The queue full and with room, masked and unmasked; a read of it with an entry and empty. -/
theorem wit_HostQueueHoldsAndLatches :
    (let s := withEv { queue := List.replicate 256 entry5 } (st [])
     s.ev.queue.length ≤ 256 ∧ evtBit s Reg.EVT_MASK Evt.IMG_FALLBACK.src = false ∧ 256 ≤ s.ev.queue.length) ∧
    (let s := withEv { queue := List.replicate 255 entry5 } (st [(Reg.EVT_MASK (Evt.IMG_FALLBACK.src / 32), 2 ^ 32 - 1)])
     s.ev.queue.length < 256 ∧ evtBit s Reg.EVT_MASK Evt.IMG_FALLBACK.src = true) ∧
    (let s := withEv { queue := [entry5] } (st [])
     s.raised = [] ∧ s.ev.queue = entry5 :: [] ∧ evtBit s Reg.EVT_MASK Evt.IMG_FALLBACK.src = false ∧ s.ev.queue.length < 256) ∧
    ((st []).raised = [] ∧ (st []).ev.queue = [] ∧ Served .host (st []) ∧ Served (.mgmt 1 0) (st [])) := by
  refine ⟨?_, ?_, ?_, ?_⟩ <;> decide +kernel

/-- The log running, in its spare region; a clock set by the host with PTP locked and not. -/
theorem wit_LogAndRecorderCommandsComplete_log :
    ((st []).r Reg.IMG_MODULE_STATE_PHASE ≠ 7 ∧ (st []).raised = [] ∧ (st []).log.stopped = false ∧ (st []).log.region = 0 ∧ 0x1C8B ≠ 0x1C8C) ∧
    (4294967295 < 2 ^ 32 ∧ (st []).ptpLocked = false ∧ (st [(Reg.NET_STATUS_PTP_A, 2)]).ptpLocked = true ∧
      (st [(Reg.NET_STATUS_PTP_A, 2)]).r Reg.IMG_MODULE_STATE_PHASE ≠ 7) ∧
    (let s := withLog { region := 1 } (st [])
     s.raised = [] ∧ s.log.region ≠ 0 ∧ s.log.stopped = false) := by
  refine ⟨?_, ?_, ?_⟩ <;> decide +kernel

/-- A counters record. -/
def rec9 : RecSlot := { item := 9, kind := 4, inst := 0, nbins := 2, cells := [(1, 5)] }

/-- The state with a recorder of that record. -/
def recorded (t : Nat) : Machine.State := { st [] with rcd := { slots := [rec9] }, optime := BitVec.ofNat 48 t }

/-- That with copy 0 of the record committed. -/
def committed : Machine.State :=
  { recorded 0 with keep := memWrite [] (recBase 0 0) (rec9.copy 1 0 0) }

/-- Copy 0 of that record passes the check of a start, and copy 1, never written, does not. -/
theorem newer_of_copy (s : Machine.State) (r : RecSlot) (h : s.keep = memWrite [] (recBase 0 0) (r.copy 1 0 0)) :
    s.recNewer 0 = some 0 := by
  have a : s.recOk 0 0 = true := recOk_of_copy _ [] r 0 0 1 0 0 h
  have z : memRead s.keep (recBase 0 1 + 0x3C) 4 = memRead [] (recBase 0 1 + 0x3C) 4 := by
    rw [h]
    unfold memRead
    refine List.map_congr_left fun i _ => ?_
    exact memGet_memWrite_outside _ _ _ _ (Or.inr (by rw [RecSlot.copy_length]; simp only [recBase]; omega))
  have b : s.recOk 0 1 = false := by
    simp only [State.recOk, memLe, z]
    rw [show (leNat (memRead [] (recBase 0 1 + 60) 4) == recValid) = false by decide +kernel, Bool.false_and]
  simp [State.recNewer, a, b]

/-- A commit that is due, one that is not; a slot with a record, with and without a valid copy. -/
theorem wit_LogAndRecorderCommandsComplete_recorder :
    (10000000 ≤ (recorded 10000000).since (recorded 10000000).rcd.lastAt ∧ (recorded 10000000).r Reg.IMG_MODULE_STATE_PHASE ≠ 7) ∧
    ((recorded 9999999).r Reg.IMG_MODULE_STATE_PHASE ≠ 7 ∧ (recorded 9999999).since (recorded 9999999).rcd.lastAt < 10000000 ∧ (recorded 0).raised = [] ∧ 0x72E4 ≠ 0x72E5) ∧
    ((recorded 0).r Reg.IMG_MODULE_STATE_PHASE ≠ 7 ∧ (recorded 0).rcd.slots[0]? = some rec9 ∧ (recorded 0).recNewer 0 = none) ∧
    (committed.r Reg.IMG_MODULE_STATE_PHASE ≠ 7 ∧ committed.rcd.slots[0]? = some rec9 ∧ committed.recNewer 0 = some 0) := by
  refine ⟨by decide +kernel, by decide +kernel, by decide +kernel, by decide +kernel, by decide +kernel, newer_of_copy _ rec9 (by simp only [committed])⟩

/-- The state with another aperture of the host's path. -/
def withAp (a : Aperture) (s : Machine.State) : Machine.State := s.setPath .host { s.path .host with ap := a }

/-- Fills of the log, a recorder window, a bank and the counter map. -/
theorem wit_ApertureComplete :
    (7 < 8 ∧ 4294967295 < 2 ^ 32 ∧ Served .host (st []) ∧ Served (.mgmt 1 0) (st []) ∧ ((st []).path .host).ap.filling = false) ∧
    (∀ n ∈ [0, 2, 7], let s := withAp { filling := true, sel := n } (st [])
     (s.path .host).ap.filling = true ∧ (s.path .host).ap.sel = n ∧
       (n = 0 → (s.log.oldest + 2 ^ 32 - (s.path .host).ap.cursor) % 2 ^ 32 = 0)) ∧
    (let s := withLog { oldest := 9, next := 9 } (withAp { filling := true, sel := 0, cursor := 4 } (st []))
     let k := (s.log.oldest + 2 ^ 32 - (s.path .host).ap.cursor) % 2 ^ 32
     (s.path .host).ap.filling = true ∧ (s.path .host).ap.sel = 0 ∧ 0 < k ∧ k < 2 ^ 31) ∧
    (∀ p ∈ [Path.host, .mgmt 1 0], let s := (st []).setPath p { (st []).path p with ap := { filling := true } }
     Served p s ∧ (s.path p).ap.filling = true ∧ s.raised = []) ∧
    (let s := withAp { filling := true, sel := 3 } (st [(Reg.NET_SNAP_STATUS_BANKS, 1)])
     (s.path .host).ap.filling = true ∧ 3 ≤ (s.path .host).ap.sel ∧ (s.path .host).ap.sel < 7 ∧ s.bank ((s.path .host).ap.sel - 3) = 1) := by
  refine ⟨?_, ?_, ?_, ?_⟩ <;> decide +kernel

/-! ### Security -/

/-- The state with another security block. -/
def withSec (d : SecState) (s : Machine.State) : Machine.State := { s with sec := d }

/-- Key commands that run and that are refused; their ends; SW2. -/
theorem wit_KeyCommandsComplete :
    (let s := st [(Reg.IMG_SEAL_SW2, 1)]
     3 < 4 ∧ s.r Reg.IMG_MODULE_STATE_PHASE ≠ 7 ∧ keyReason true 3 0xE5A7 s = 0 ∧ keyReason false 3 0xE5A7 s = 5) ∧
    (let s := withSec { keys := [none, none, none, some 1] } (st [(Reg.IMG_SEAL_SW2, 1)])
     s.r Reg.IMG_MODULE_STATE_PHASE ≠ 7 ∧ keyReason false 3 0xE5A7 s = 0 ∧ keyReason true 3 0xE5A7 s = 4) ∧
    (∀ enroll : Bool, keyReason enroll 3 0 (st []) = 1 ∧ keyReason enroll 3 0xE5A7 (st []) = 2) ∧
    (∀ enroll : Bool, let c : KeyCmd := ⟨enroll, 3, 1, .host⟩
     (withSec { running := some c } (st [])).sec.running = some c ∧ c.enroll = enroll) ∧
    (∀ b : Bool, (st [(Reg.IMG_SEAL_SW2, b2n (!b))]).rb Reg.IMG_SEAL_SW2 = !b) := by
  refine ⟨?_, ?_, ?_, ?_, ?_⟩ <;> decide +kernel

/-- ATTEST accepted and refused for each reason; its end; the random source. -/
theorem wit_AttestationRandomAndIdentityComplete :
    (∀ healthy ident : Bool, let s := st [(Reg.SEC_RNG_STATUS_HEALTHY, b2n healthy), (Reg.SEC_STATUS_IDENTITY_OK, b2n ident)]
     s.r Reg.IMG_MODULE_STATE_PHASE ≠ 7 ∧ s.sec.pending = none ∧ s.rb Reg.SEC_RNG_STATUS_HEALTHY = healthy ∧ s.rb Reg.SEC_STATUS_IDENTITY_OK = ident) ∧
    (∀ healthy : Bool, let s := withSec { pending := some ([], 3) } (st [(Reg.SEC_RNG_STATUS_HEALTHY, b2n healthy)])
     s.r Reg.IMG_MODULE_STATE_PHASE ≠ 7 ∧ s.sec.pending = some ([], 3) ∧ s.sec.pending.isSome = true ∧ s.rb Reg.SEC_RNG_STATUS_HEALTHY = healthy ∧ 3 < 4) := by
  refine ⟨?_, ?_⟩ <;> decide +kernel

/-! ### The whole machine -/

/-- The other words of the digest shadow, and an address of the reticle's registers. -/
theorem wit_DigestReadsLatchTwelveWords :
    ((st []).path .host).shadow = ((st [(Reg.IMG_DIGEST_SEL, 7)]).path .host).shadow ∧ 1 ≤ 11 ∧ 11 < 12 ∧
      (st []).r Reg.IMG_MODULE_STATE_PHASE ≠ 7 := by decide +kernel

theorem wit_HostCannotWriteTheReticle :
    (∀ a ∈ [0x50000, 0x500B0, 0x500C0, 0x500C4, 0x5FFFC], 0x50000 ≤ a ∧ a < 0x60000) ∧ 1 < 2 ^ 32 ∧ 1 % 2 = 1 ∧
      (st []).r Reg.IMG_MODULE_STATE_PHASE ≠ 7 := by decide +kernel

theorem wit_StepRunsTheFrontCommand : (up []).pending = [] ∧ (up []).down = false := by decide +kernel

theorem wit_StepsKeepTheStoresCanonical :
    let s := { st [(Reg.TRIP_ID, 5)] with keep := memWrite [] 0x600000 [1, 0, 2], pending := [.telemetry] }
    Canonical s ∧ (match Machine.step s with
      | .next _ => true
      | _ => false) = true := by
  refine ⟨?_, ?_⟩
  · unfold Canonical; decide +kernel
  · decide +kernel

theorem wit_RecordCopiesReadBack : RecInRange rec9 ∧ 4294967295 < 2 ^ 32 ∧
    ∃ t : Machine.State, t.keep = memWrite (st []).keep (recBase 0 0) (rec9.copy 1 0 0) := by
  refine ⟨?_, by decide, { st [] with keep := memWrite (st []).keep (recBase 0 0) (rec9.copy 1 0 0) }, by simp only⟩
  unfold RecInRange cellFits
  decide +kernel

theorem wit_FramesReadBackAsBuilt :
    let h : FrameHead := ⟨255, 255, 255, 31, 255, 3, 4294967295⟩
    h.hops < 256 ∧ h.kind < 256 ∧ h.src < 256 ∧ h.info < 32 ∧ h.dst < 256 ∧ h.sel < 4 ∧ h.seq < 2 ^ 32 ∧
      (List.replicate 3 (1 : Byte)).length < 65536 ∧ 254 < 256 := by decide +kernel


/-- Lane A's pole of output 9 closes at a comparison point, and at the end of its test pulse. -/
theorem wit_PolesCloseOnlyUnderR229 :
    let x : Lane := { started := true, compared := false, period := 3, posValid := true, heard := true,
                      inbox := some { lane := 0xB2, seq := 3, flags := 16 } }
    let a := { laned x [(Reg.SAF_OUT_CFG_EN 9, 1)] (later [(Reg.IMG_MODULE_STATE_PHASE, 1)]) with pending := [.comparisonPoint false []] }
    let b := { withSaf { a.saf with pulse := some { slot := 9, at_ := 0, closed := true } } a with
      pending := [.testPulseEnd true 0 0 0 0 0 0 0] }
    ∀ s ∈ [a, b], bitAt (s.lane 0).cmd 9 = false ∧ (match Machine.step s with
      | .next t => bitAt (t.lane 0).cmd 9
      | _ => false) = true := by decide +kernel
/-! ### Well-formed commands -/

/-- One command for each range check, its operand one beyond the range: refused. -/
theorem test_ill_formed_refused :
    Instr.wf (.neighbourFrame 4 []) = false ∧ Instr.wf (.portDelivery 16) = false ∧ Instr.wf (.complete 112 0 0 [] []) = false ∧
    Instr.wf (.dspRelayCtrl 128 0) = false ∧ Instr.wf (.imgWriteBegin .host 4) = false ∧ Instr.wf (.imgActivate 2 0) = false ∧
    Instr.wf (.quadEdge 6 true true false) = false ∧ Instr.wf (.reticleLoad 5 0) = false ∧ Instr.wf (.doorStart 4 0) = false ∧
    Instr.wf (.assign 0 0 false 4 0) = false ∧ Instr.wf (.fsBand 3) = false ∧ Instr.wf (.loopEngineUncorr 7) = false ∧
    Instr.wf (.complete 0 16 0 [] []) = false ∧ Instr.wf (.poleReadbackCheck false 10 0) = false ∧
    Instr.wf (.laneAPeriodStart [2 ^ 16]) = false ∧ Instr.wf (.doOverload 24) = false ∧ Instr.wf (.fastInputDemand false 16 0 0) = false ∧
    Instr.wf (.diUndefined 48) = false ∧ Instr.wf (.groupSilent 17) = false ∧ Instr.wf (.couplerCheck 0 10 0 0) = false ∧
    Instr.wf (.apertureSelect .host 8) = false ∧ Instr.wf (.referencePoint 256 false) = false ∧ Instr.wf (.dspDoorbell 4096) = false ∧
    Instr.wf (.imgActivate 0 65536) = false ∧ Instr.wf (.registerWrite .host (2 ^ 32) 0) = false ∧
    Instr.wf (.standardInputSample (2 ^ 48) [] []) = false ∧ Instr.wf (.ptpSync false 0 false 0 (2 ^ 64) 0) = false ∧
    Instr.wf (.registerWrite (.mgmt 4 0) 0 0) = false ∧ Instr.wf (.hostRead (List.replicate 2049 0) 0) = false ∧
    Instr.wf (.neighboursMessage [0, 2 ^ 32] true) = false := by
  decide +kernel

/-- The same at the end of the range: accepted. -/
theorem test_well_formed_accepted :
    Instr.wf (.neighbourFrame 3 []) = true ∧ Instr.wf (.portDelivery 15) = true ∧ Instr.wf (.complete 111 15 65535 [] []) = true ∧
    Instr.wf (.registerWrite (.mgmt 3 255) (2 ^ 32 - 1) 0) = true ∧ Instr.wf (.imgActivate 1 65535) = true := by
  decide +kernel

/-- The table gives no row bits: no word spells a command. -/
theorem test_no_word_spells_a_command (nbits w : Nat) (s : Machine.State) :
    decodeTableWord nbits w = none ∧ s.withFetchWord nbits w = s := ⟨rfl, rfl⟩

/-! ### Values that the spec states -/

/-- The CRC-8 of a read of SEC_PART_ID (file 01), and each CRC of the digits 1 to 9. -/
theorem test_crcs :
    crc8 [0x0B, 0, 0, 0, 0, 0, 0, 0, 0] = 0x4A ∧ crc32c (([1, 2, 3, 4, 5, 6, 7, 8, 9] : List Byte).map (· + 0x30)) = 0xE3069283 ∧
    crc32 (([1, 2, 3, 4, 5, 6, 7, 8, 9] : List Byte).map (· + 0x30)) = 0xCBF43926 ∧
    crc16 (([1, 2, 3, 4, 5, 6, 7, 8, 9] : List Byte).map (· + 0x30)) = 0x29B1 := by decide +kernel

/-- The examples of R376. -/
theorem test_arguments : packArgs [.code 0, .signed (-190)] = 0xFFFF4200 ∧ packArgs [.code 3, .code 1, .qty 720] = 0x02D00103 := by
  decide +kernel

/-- What a step on one command leaves in a register field. -/
def after (c : Instr) (s : Machine.State) (f : Field) : Option Nat :=
  match Machine.step { s with pending := [c] } with
  | .next t => some (t.r f)
  | _ => none

/-- A module without an image comes up in IMAGE_FAIL (R58). -/
theorem test_start_without_image :
    after (.suppliesValid 24000 800 [true, true] 0 []) Machine.State.reset Reg.IMG_MODULE_STATE_PHASE = some 7 := by decide +kernel

/-- A host write of a scratch selection is taken with its reserved bits dropped (R25, R63). -/
theorem test_register_write : after (.registerWrite .host 0x10034 0xFFFFFFFF) (up []) Reg.IMG_DIGEST_SEL = some 7 := by
  decide +kernel

/-- A wrong CONFIRM value has no effect; the right one parks nothing outside a quiet point: reason 1 (R405). -/
theorem test_park_confirm :
    after (.pwrCmdPark 0) (stand []) Reg.PWR_CMD_STATUS_RESULT = some 0 ∧
    after (.pwrCmdPark 0x9A5E) (stand []) Reg.PWR_CMD_STATUS_REASON = some 1 := by decide +kernel

/-- X1 below 16.0 V is PWR_FAIL, and TEMP shows a reading below zero (R408, R416). -/
theorem test_power :
    after .powerFail (stand []) Reg.PWR_STATUS_PWR_FAIL = some 1 ∧
    after (.temperatureRead [-1]) (stand []) (Reg.PWR_TEMP_TEMP 0) = some 0xFFFF := by decide +kernel

end Sys2Proof.Tests
end

/-! PROOFS. The step as a whole: what runs at the front of the queue, what one idle microsecond leaves alone (R4), and the state after
the first reset (R10). -/

namespace Sys2Proof

open Sys2Proof.Machine

/-! ### What the operations of one idle microsecond leave alone -/

/-- Two states hold the same queue, operating time and memories. -/
def Undisturbed (s t : Machine.State) : Prop := t.pending = s.pending ∧ t.optime = s.optime ∧ SameMemory s t

theorem Undisturbed.refl (s : Machine.State) : Undisturbed s s := ⟨rfl, rfl, rfl, rfl, rfl, rfl⟩

theorem Undisturbed.trans {s t u : Machine.State} (h : Undisturbed s t) (h' : Undisturbed t u) : Undisturbed s u := by
  obtain ⟨p, o, k, d, n, m⟩ := h
  obtain ⟨p', o', k', d', n', m'⟩ := h'
  exact ⟨p'.trans p, o'.trans o, k'.trans k, d'.trans d, n'.trans n, m'.trans m⟩

/-- An operation under a condition disturbs no more than the operation. -/
theorem undisturbed_when (s : Machine.State) (b : Bool) {f : Machine.State → Machine.State} (h : Undisturbed s (f s)) :
    Undisturbed s (s.when_ b f) := by
  cases b
  · exact .refl s
  · exact h

/-- Neither does a run of operations over a list. -/
theorem undisturbed_foldl {α : Type} {f : Machine.State → α → Machine.State} (h : ∀ s x, Undisturbed s (f s x)) (l : List α)
    (s : Machine.State) : Undisturbed s (l.foldl f s) := by
  induction l generalizing s with
  | nil => exact .refl s
  | cons x l ih => exact (h s x).trans (ih _)

theorem undisturbed_ptpTick (b : Bool) (s : Machine.State) : Undisturbed s (ptpTick b s) := .refl s

theorem undisturbed_pwmStart (s : Machine.State) : Undisturbed s (pwmStart s) :=
  undisturbed_foldl (f := fun s d => (s.w (Reg.LOOP_DOOR_DUTY_DUTY (d - 1)) (s.door d).dutyNext).wb (Reg.LOOP_DOOR_DUTY_DIR (d - 1))
    (s.door d).dirNext) (fun s _ => .refl s) [1, 2, 3, 4] s

theorem undisturbed_periodic (s : Machine.State) : Undisturbed s (periodic s) := by
  have awake (s : Machine.State) : Undisturbed s (s.awake pwmStart) := by
    unfold State.awake
    split
    · exact .refl s
    · exact undisturbed_pwmStart s
  unfold periodic
  exact ((undisturbed_when s _ (awake s)).trans (undisturbed_when _ _ (.refl _))).trans (undisturbed_when _ _ (.refl _))

theorem undisturbed_countTime (i entry : Nat) (f : Field) (s : Machine.State) : Undisturbed s (countTime i entry f s) :=
  undisturbed_when (((recCounter 6 entry 1 s).modPwr _)) _ (.refl _)

theorem undisturbed_dimTime (s : Machine.State) : Undisturbed s (dimTime s) := by
  unfold dimTime
  split
  · exact undisturbed_countTime ..
  split
  · exact undisturbed_countTime ..
  split
  · exact undisturbed_countTime ..
  · exact .refl s

theorem undisturbed_loupeLate (s : Machine.State) (t : Nat) : Undisturbed s (loupeLate s t) := by
  unfold loupeLate
  extract_lets
  split <;> exact .refl s

theorem undisturbed_loupeTick (s : Machine.State) : Undisturbed s (loupeTick s) := by
  unfold loupeTick
  refine Undisturbed.trans ?_ (undisturbed_foldl undisturbed_loupeLate _ _)
  split <;> exact .refl s

theorem undisturbed_sendLink (s : Machine.State) (m : LinkMsg) : Undisturbed s (s.sendLink m) := by
  unfold State.sendLink
  split <;> exact .refl s

theorem undisturbed_sendSync (s : Machine.State) : Undisturbed s (sendSync s) := by
  unfold sendSync
  split
  · exact undisturbed_sendLink s _
  · exact .refl s

theorem undisturbed_shadowFail (item : Nat) (s : Machine.State) : Undisturbed s (shadowFail item s) :=
  undisturbed_sendLink (((s.w Reg.MIR_SHADOW_LAST_ITEM item).inc Reg.MIR_SHADOW_MISMATCHES).raise Evt.MIR_SHADOW_MISMATCH [.code item]) _

theorem undisturbed_linkResync (s : Machine.State) : Undisturbed s (linkResync s) := by
  unfold linkResync
  split
  · dsimp only
    split
    · exact undisturbed_shadowFail 9 (s.modMir _)
    · exact undisturbed_sendSync (s.modMir _)
  · exact .refl s

theorem undisturbed_linkSend (b : Bool) (s : Machine.State) : Undisturbed s (linkSend b s.took) :=
  (undisturbed_when s.took b (.refl _)).trans (undisturbed_linkResync _)

/-- The work of a microsecond beside its count: the clocks, the periods, the counters of time, the loupe's schedule. -/
theorem undisturbed_work (b : Bool) (s : Machine.State) : Undisturbed s (loupeTick (dimTime (periodic (ptpTick b s.took)))) :=
  (((undisturbed_ptpTick b s.took).trans (undisturbed_periodic _)).trans (undisturbed_dimTime _)).trans (undisturbed_loupeTick _)

/-- One microsecond of a module with supplies: the operating time goes on by one, and the queue and the memories stay. -/
theorem tick_undisturbed {s : Machine.State} (h : s.down = false) : Undisturbed (optimeStep s) (tick s) := by
  unfold tick
  rw [if_neg (by simp [h])]
  exact (undisturbed_work _ _).trans (undisturbed_linkSend _ _)

/-- Settles O54: a step is the front command's meaning by definition; an idle one is a microsecond, whose parts leave the queue, the
stores and, after its own count, the operating time alone. -/
theorem stepRunsTheFrontCommand : Obligations.StepRunsTheFrontCommand := by
  unfold Obligations.StepRunsTheFrontCommand
  refine ⟨fun c rest s => rfl, fun s empty supplied => ?_⟩
  have idle : Machine.step s = .next (tick s).fin := by simp only [Machine.step, empty, State.done_eq]
  obtain ⟨queue, time, memory⟩ := tick_undisturbed supplied
  refine ⟨_, idle, ?_, ?_, ?_⟩
  · rw [State.fin_pending, queue]
    exact empty
  · rw [State.fin_optime, time]
    rfl
  · rw [sameMemory_fin]
    exact memory

/-! ### The state after the first reset -/

/-- The stores of the reset state are in canonical form: they are empty. -/
theorem reset_canonical : Canonical Machine.State.reset := by
  obtain ⟨keep, near, table, deep⟩ := reset_memories
  exact ⟨rfl, keep, near, table, List.all_eq_true.mp deep⟩

/-- Settles O55: the register file of the reset state lists nothing, so each field reads its reset value; the stores, the queues and
the log are empty. -/
theorem resetStateIsCanonical : Obligations.ResetStateIsCanonical := by
  unfold Obligations.ResetStateIsCanonical
  refine ⟨fun f => ?_, reset_canonical, rfl, rfl, rfl, rfl, rfl, rfl, rfl, rfl, rfl, rfl, rfl, rfl⟩
  exact SMap.get_nil f.key f.reset

end Sys2Proof

/-! PROOFS. Register writes by access code (R8, R25) and latching reads (R26, R27). -/

namespace Sys2Proof

open Sys2Proof.Machine

/-! ### Writes by access code -/

/-- Clearing the bits that a value has at 1: the bits of a W1C field (R8). -/
theorem bitAt_clearOnes (r v lo w i : Nat) (h : i < w) :
    bitAt (Nat.land r (Nat.xor (v / 2 ^ lo % 2 ^ w) (2 ^ w - 1)) % 2 ^ w) i = (bitAt r i && !bitAt v (lo + i)) := by
  simp [bitAt_eq_testBit, Nat.testBit_and, Nat.testBit_xor, Nat.testBit_two_pow_sub_one, Nat.testBit_mod_two_pow,
    Nat.testBit_div_two_pow, h, Nat.add_comm]

/-- What each access code makes of a write (Table 00-2). -/
theorem fieldAfter_by_code (v : Nat) (s : Machine.State) (g : Field) :
    (g.acc = .rw → fieldAfter v s g = v / 2 ^ g.lo % 2 ^ g.width) ∧
    (g.acc = .w1c → ∀ i, i < g.width → bitAt (fieldAfter v s g) i = (bitAt (s.r g) i && !bitAt v (g.lo + i))) ∧
    (g.acc = .ro ∨ g.acc = .wo → fieldAfter v s g = s.r g) := by
  refine ⟨fun code => ?_, fun code i hi => ?_, fun code => ?_⟩
  · simp [fieldAfter, code]
  · simp only [fieldAfter, code]
    exact bitAt_clearOnes _ _ _ _ _ hi
  · rcases code with code | code <;> simp [fieldAfter, code]

/-- The addresses of the writes that have a command of their own do not depend on the path or the value. -/
theorem writeEffects_addresses (p : Path) (v : Nat) : (writeEffects p v).map Prod.fst = (writeEffects .host 0).map Prod.fst := rfl

theorem lookup_eq_none {α : Type} {l : List (Nat × α)} {k : Nat} (h : k ∉ l.map Prod.fst) : lookup l k = none := by
  simp only [lookup, Option.map_eq_none_iff, List.find?_eq_none]
  intro x hx e
  exact h (List.mem_map.mpr ⟨x, hx, by simpa using e⟩)

/-- A write to a register without a command of its own goes by the access codes of its fields. -/
theorem writeReg_plain {a : Nat} (p : Path) (v : Nat) (s : Machine.State) (h : ownWrite a = false) :
    writeReg p a v s = plainWrite a v s := by
  simp only [ownWrite, Bool.or_eq_false_iff, Bool.and_eq_false_iff, decide_eq_false_iff_not, List.any_eq_false, beq_iff_eq] at h
  obtain ⟨⟨⟨hpend, hkey⟩, hnonce⟩, heff⟩ := h
  have none : lookup (writeEffects p v) a = none := by
    refine lookup_eq_none ?_
    rw [writeEffects_addresses, List.mem_map]
    rintro ⟨x, hx, e⟩
    exact heff x hx e
  unfold writeReg
  rw [if_neg (by tauto), if_neg (by tauto), if_neg (by tauto), none]

theorem sameMemory_plainWrite (a v : Nat) (s : Machine.State) : SameMemory s (plainWrite a v s) := by
  rw [plainWrite_regs]
  exact ⟨rfl, rfl, rfl, rfl⟩

/-- REGISTER_WRITE of a register without a command of its own, where it is not refused. -/
theorem registerWrite_plain {s : Machine.State} {p : Path} {a v : Nat} (hv : v < 2 ^ 32) (ha : addrValid a = true)
    (hr : s.writeRefused p a v = false) (ho : ownWrite a = false) :
    exec (.registerWrite p a v) s = .next (plainWrite a v s).fin := by
  have e : exec (.registerWrite p a v) s = (writeAt p a (v % 2 ^ 32) s).1.done := rfl
  rw [e, Nat.mod_eq_of_lt hv]
  simp [writeAt, ha, hr, writeReg_plain p v s ho]

/-- REGISTER_WRITE of a window is refused. -/
theorem registerWrite_window {s : Machine.State} {p : Path} {a : Nat} (v : Nat) (ha : addrValid a = true) (hw : addrWindow a = true) :
    exec (.registerWrite p a v) s = .next s.fin := by
  have e : exec (.registerWrite p a v) s = (writeAt p a (v % 2 ^ 32) s).1.done := rfl
  rw [e]
  simp [writeAt, ha, hw, State.writeRefused]

/-! ### Latching reads -/

/-- The addresses of the reads that have an effect of their own do not depend on the path. -/
theorem readEffects_addresses (p : Path) : (readEffects p).map Prod.fst = (readEffects .host).map Prod.fst := rfl

/-- A register that is neither in a window, nor the aperture's, nor read with an effect of its own. -/
def readsPlainly (a : Nat) : Bool :=
  addrValid a && !addrWindow a && !(decide (0xC0200 ≤ a) && decide (a < 0xC0300)) && !((readEffects .host).map Prod.fst).elem a

theorem valid_of_readsPlainly {a : Nat} (h : readsPlainly a = true) : addrValid a = true := by
  simp only [readsPlainly, Bool.and_eq_true] at h
  exact h.1.1.1

/-- The read of such a register goes by the latching table alone. -/
theorem readAt_by_latchTable {a : Nat} (p : Path) (s : Machine.State) (h : readsPlainly a = true) :
    readAt p a s = (lookup latchTable a).elim (plainRead p a s) fun others => pairRead p a others s := by
  simp only [readsPlainly, Bool.and_eq_true, Bool.not_eq_true', Bool.and_eq_false_iff, decide_eq_false_iff_not] at h
  obtain ⟨⟨⟨-, window⟩, aperture⟩, effect⟩ := h
  have noEffect : lookup (readEffects p) a = none := lookup_eq_none (by rw [readEffects_addresses]; simpa using effect)
  unfold readAt readReg
  rw [if_neg (by simp [window]), if_neg (by tauto), noEffect]
  cases lookup latchTable a <;> rfl

/-- The latching table lists each register once, with others that latch nothing and that it names once. -/
theorem latchTable_ok : ∀ x ∈ latchTable, readsPlainly x.1 = true ∧ lookup latchTable x.1 = some x.2 ∧
    ∀ b ∈ x.2, readsPlainly b = true ∧ lookup latchTable b = none := by decide +kernel

theorem servedOn_of_served {p : Path} {s : Machine.State} (f : Machine.State → Machine.State) (h : Served p s) : s.servedOn p f = f s := by
  cases p with
  | host => rfl
  | mgmt _ _ =>
    rcases h with h | h
    · exact if_neg h
    · exact absurd h (by simp)

/-- LATCHING_READ by a path that is served. -/
theorem latchingRead_served {p : Path} {s : Machine.State} {a : Nat} (h : Served p s) (ha : addrValid a = true) :
    exec (.latchingRead p a) s = .next (readAt p a s).fin := by
  have e : exec (.latchingRead p a) s = (s.servedOn p fun s => if addrValid a then readAt p a s else s).done := rfl
  rw [e, servedOn_of_served _ h, if_pos ha, State.done_eq]

/-- The shadow gives each of a list of registers the word that it was given. -/
theorem lookup_shadow {l : List Nat} {b : Nat} (f : Nat → Nat) (h : b ∈ l) : lookup (l.map fun b => (b, f b)) b = some (f b) := by
  induction l with
  | nil => cases h
  | cons c l ih =>
    by_cases e : c = b
    · simp [lookup, e]
    · have := ih ((List.mem_cons.mp h).resolve_left (Ne.symm e))
      simpa [lookup, e] using this

/-- Settles O3: a write goes through `r_plainWrite`, field by field; a read of a register of the latching table is `pairRead`, and
that of one of its others is answered from the shadow. -/
theorem registerWritesAndLatchingReadsComplete : Obligations.RegisterWritesAndLatchingReadsComplete := by
  unfold Obligations.RegisterWritesAndLatchingReadsComplete
  refine ⟨fun s p a v hv ha => ⟨fun hr ho => ?_, fun hw => ?_⟩, fun s p a others hx served => ⟨?_, fun u b hb served' shadow => ?_⟩⟩
  · refine ⟨_, registerWrite_plain hv ha hr ho, fun g hg => ?_, ?_, ?_⟩
    · rw [State.fin_r, (r_plainWrite a v s).1 g hg]
      exact fieldAfter_by_code v s g
    · exact (regsBut_fin _ _ _).mpr (r_plainWrite a v s).2
    · exact (sameMemory_fin _ _).mpr (sameMemory_plainWrite a v s)
  · exact ⟨_, registerWrite_window v ha hw, s.fin_regs, (sameMemory_fin s s).mpr ⟨rfl, rfl, rfl, rfl⟩⟩
  · obtain ⟨plain, latches, -⟩ := latchTable_ok _ hx
    refine ⟨_, latchingRead_served served (valid_of_readsPlainly plain), ?_⟩
    rw [readAt_by_latchTable p s plain, latches, Option.elim_some]
    simp [pairRead, State.answerRead, State.latch, SameMemory]
  · obtain ⟨-, -, other⟩ := latchTable_ok _ hx
    obtain ⟨plain, latches⟩ := other b hb
    have word : lookup (u.path p).shadow b = some (s.word p b) := by rw [shadow]; exact lookup_shadow _ hb
    refine ⟨_, latchingRead_served served' (valid_of_readsPlainly plain), ?_⟩
    rw [readAt_by_latchTable p u plain, latches, Option.elim_none]
    simp [plainRead, path_answerRead, word]

end Sys2Proof

/-! PROOFS. What a reset leaves of the register-field file and of the stores (R10, R11, R402, R409, R414), and what the lanes' judgement
of the requests leaves alone. -/

namespace Sys2Proof.Machine

/-! ### Operations that change register fields alone -/

/-- The second state differs from the first in its register-field file alone. -/
def RegsOnly (s t : State) : Prop := t = { s with regs := t.regs }

theorem RegsOnly.w (s : State) (f : Field) (v : Nat) : RegsOnly s (s.w f v) := rfl

theorem RegsOnly.trans {s t u : State} (h : RegsOnly s t) (h' : RegsOnly t u) : RegsOnly s u := by
  unfold RegsOnly at *
  rw [h', h]

theorem RegsOnly.foldl {α : Type} {f : State → α → State} (h : ∀ s x, RegsOnly s (f s x)) (l : List α) (s : State) :
    RegsOnly s (l.foldl f s) := by
  induction l generalizing s with
  | nil => rfl
  | cons x l ih => exact (h s x).trans (ih _)

/-! ### The register-field file over a reset -/

/-- A filter by key leaves each key's value, or nothing at that key. -/
theorem get_filter_key {α : Type} (p : Nat → Bool) (m : SMap α) (k : Nat) (d : α) :
    SMap.get (m.filter fun c => p c.1) k d = if p k then SMap.get m k d else d := by
  induction m with
  | nil => simp
  | cons c m ih =>
    obtain ⟨j, v⟩ := c
    by_cases hj : p j = true <;> by_cases hk : j = k <;> simp_all [SMap.get]

/-- A field of the register tables keeps its value over a reset by its retention class. -/
theorem get_keptRegs {g : Field} (hg : fieldOfKey g.key = some g) (kind : Nat) (m : SMap Nat) :
    SMap.get (keptRegs kind m) g.key g.reset = if survives kind g.kept then SMap.get m g.key g.reset else g.reset := by
  rw [keptRegs, get_filter_key, keptField, hg]

/-- Fields shown again read what they read before; every other field stays. -/
theorem r_foldl_restore (before : State) (l : List Field) (g : Field) (h : ∀ f ∈ l, f.key = g.key → f = g) (s : State) :
    (l.foldl (fun s f => { s with regs := SMap.put s.regs f.key (before.r f) f.reset }) s).r g =
      if g ∈ l then before.r g else s.r g := by
  induction l generalizing s with
  | nil => simp
  | cons f l ih =>
    rw [List.foldl_cons, ih fun x hx => h x (List.mem_cons_of_mem _ hx)]
    by_cases hm : g ∈ l
    · simp [hm]
    · by_cases hf : f = g
      · subst hf
        simp [hm, State.r]
      · have hk : g.key ≠ f.key := fun e => hf (h f List.mem_cons_self e.symm)
        simp [hm, Ne.symm hf, State.r, SMap.get_put_ne _ _ _ _ _ _ hk]

/-- The fields that show outside levels are fields of the register tables. -/
theorem fieldOfKey_liveField : ∀ f ∈ liveFields, fieldOfKey f.key = some f := by decide +kernel

/-- A POWER-ON or DIP reset shows again the fields of outside levels that it has not kept. -/
theorem mem_shownFields {kind : Nat} (hk : kind < 2) (g : Field) :
    g ∈ shownFields kind ↔ g ∈ liveFields ∧ survives kind g.kept = false := by
  simp [shownFields, show kind ≠ 2 by omega]

theorem r_showAgain {kind : Nat} (hk : kind < 2) (before s : State) {g : Field} (hg : fieldOfKey g.key = some g) :
    (showAgain kind before s).r g = if g ∈ shownFields kind then before.r g else s.r g := by
  refine r_foldl_restore before _ g (fun f hf e => ?_) s
  have live := fieldOfKey_liveField f ((mem_shownFields hk f).mp hf).1
  rw [e, hg] at live
  exact (Option.some.inj live).symm

/-! ### What a reset cuts off -/

/-- Some code of a field replaced by 0. -/
def cutAt (f : Field) (p : Nat → Bool) (s : State) : State := if p (s.r f) then s.w f 0 else s

theorem r_cutAt_same (f : Field) (p : Nat → Bool) (s : State) : (cutAt f p s).r f = if p (s.r f) then 0 else s.r f := by
  unfold cutAt
  split <;> simp

theorem r_cutAt_ne {f g : Field} (p : Nat → Bool) (s : State) (h : g.key ≠ f.key) : (cutAt f p s).r g = s.r g := by
  unfold cutAt
  split
  · exact State.r_w_ne _ _ _ _ h
  · rfl

theorem RegsOnly.cutAt (f : Field) (p : Nat → Bool) (s : State) : RegsOnly s (cutAt f p s) := by
  unfold Machine.cutAt
  split <;> rfl

/-- What is cut off: a target being written, an incoming slot being written or streamed. -/
theorem cutWrites_eq (s : State) :
    cutWrites s = cutAt Reg.IMG_STATUS_TS_INCOMING_STATE (fun v => v == 1 || v == 4)
      ([0, 1, 2, 3].foldl (fun s n => cutAt (sealField n) (fun v => v == 1) s) s) := by
  simp only [cutWrites, cutAt, beq_iff_eq, Bool.or_eq_true]

theorem RegsOnly.cutWrites (s : State) : RegsOnly s (cutWrites s) := by
  rw [cutWrites_eq]
  exact (RegsOnly.foldl (fun s _ => .cutAt _ _ s) _ s).trans (.cutAt ..)

theorem r_cutTargets_ne (l : List Nat) {g : Field} (h : ∀ n ∈ l, g.key ≠ (sealField n).key) (s : State) :
    (l.foldl (fun s n => cutAt (sealField n) (fun v => v == 1) s) s).r g = s.r g := by
  induction l generalizing s with
  | nil => rfl
  | cons n l ih =>
    rw [List.foldl_cons, ih fun m hm => h m (List.mem_cons_of_mem _ hm), r_cutAt_ne _ _ (h n List.mem_cons_self)]

theorem incoming_ne_sealField (n : Nat) : Reg.IMG_STATUS_TS_INCOMING_STATE.key ≠ (sealField n).key := by
  obtain ⟨addr, -, lo, -⟩ := sealField_place n
  simp only [Field.key, addr]
  simp only [Reg.IMG_STATUS_TS_INCOMING_STATE]
  omega

theorem r_cutWrites_other {g : Field} (h : ∀ n, g.key ≠ (sealField n).key) (h' : g.key ≠ Reg.IMG_STATUS_TS_INCOMING_STATE.key)
    (s : State) : (cutWrites s).r g = s.r g := by
  rw [cutWrites_eq, r_cutAt_ne _ _ h', r_cutTargets_ne _ fun n _ => h n]

theorem r_cutWrites_incoming (s : State) : (cutWrites s).r Reg.IMG_STATUS_TS_INCOMING_STATE =
    if s.r Reg.IMG_STATUS_TS_INCOMING_STATE = 1 ∨ s.r Reg.IMG_STATUS_TS_INCOMING_STATE = 4 then 0
    else s.r Reg.IMG_STATUS_TS_INCOMING_STATE := by
  rw [cutWrites_eq, r_cutAt_same, r_cutTargets_ne _ fun n _ => incoming_ne_sealField n]
  simp

/-- The four targets have a STATE of their own. -/
theorem sealField_key_inj : ∀ n < 4, ∀ m < 4, m ≠ n → (sealField n).key ≠ (sealField m).key := by decide

theorem r_cutTargets_same {n : Nat} (hn : n < 4) (l : List Nat) (hl : l.Nodup) (hb : ∀ m ∈ l, m < 4) (hm : n ∈ l) (s : State) :
    (l.foldl (fun s n => cutAt (sealField n) (fun v => v == 1) s) s).r (sealField n) =
      if s.r (sealField n) = 1 then 0 else s.r (sealField n) := by
  induction l generalizing s with
  | nil => cases hm
  | cons m l ih =>
    obtain ⟨notin, nodup⟩ := List.nodup_cons.mp hl
    have below : ∀ k ∈ l, k < 4 := fun k hk => hb k (List.mem_cons_of_mem _ hk)
    rw [List.foldl_cons]
    by_cases e : m = n
    · subst e
      have ne : ∀ k ∈ l, (sealField m).key ≠ (sealField k).key := fun k hk =>
        sealField_key_inj m hn k (below k hk) fun e => notin (e ▸ hk)
      rw [r_cutTargets_ne _ ne, r_cutAt_same]
      simp
    · rw [ih nodup below ((List.mem_cons.mp hm).resolve_left (Ne.symm e)),
        r_cutAt_ne _ _ (sealField_key_inj n hn m (hb m List.mem_cons_self) e)]

theorem r_cutWrites_target {n : Nat} (hn : n < 4) (s : State) :
    (cutWrites s).r (sealField n) = if s.r (sealField n) = 1 then 0 else s.r (sealField n) := by
  rw [cutWrites_eq, r_cutAt_ne _ _ (incoming_ne_sealField n).symm,
    r_cutTargets_same hn [0, 1, 2, 3] (by decide) (by decide) (by simp; omega)]

/-! ### What a reset leaves -/

/-- The parts of a reset: what it keeps of the structures, then its kind and cause, what it cuts off, the PLL in service, and the
fields that show outside levels again. -/
theorem resetState_form (kind cause : Nat) (s : State) : ∃ t : State,
    resetState kind cause s =
      showAgain kind s (resetPll (cutWrites ((t.w Reg.PWR_RESET_CAUSE_KIND kind).w Reg.PWR_RESET_CAUSE_CAUSE cause))) ∧
    t.regs = keptRegs kind (lostRegs s.mem.lost s.regs) ∧ t.keep = s.keep ∧ t.deep = s.deep ∧
    t.near = (if kind = 0 then [] else s.near) ∧ t.table = (if kind = 2 then s.table else []) ∧
    t.optime = (if kind = 0 then 0 else s.optime) ∧ t.pwr.supplied = (kind == 2) ∧ t.saf.pulse = none :=
  ⟨_, rfl, rfl, rfl, rfl, rfl, rfl, rfl, rfl, rfl⟩

theorem RegsOnly.showAgain (kind : Nat) (before s : State) : RegsOnly s (showAgain kind before s) :=
  RegsOnly.foldl (f := fun s f => { s with regs := SMap.put s.regs f.key (before.r f) f.reset }) (fun _ _ => rfl) _ s

/-- A reset keeps the keep store and the deep store, the near store but for POWER-ON, the table store in a WARM reset alone, and the
operating time but for POWER-ON; supplies are to become valid again but after WARM, and no test pulse runs. -/
theorem resetState_stores (kind cause : Nat) (s : State) :
    (resetState kind cause s).keep = s.keep ∧ (resetState kind cause s).deep = s.deep ∧
    (resetState kind cause s).near = (if kind = 0 then [] else s.near) ∧
    (resetState kind cause s).table = (if kind = 2 then s.table else []) ∧
    (resetState kind cause s).optime = (if kind = 0 then 0 else s.optime) ∧
    (resetState kind cause s).pwr.supplied = (kind == 2) ∧ (resetState kind cause s).saf.pulse = none := by
  obtain ⟨t, form, -, parts⟩ := resetState_form kind cause s
  have regs : RegsOnly t (resetState kind cause s) := by
    rw [form]
    exact ((((RegsOnly.w ..).trans (RegsOnly.w ..)).trans (.cutWrites _)).trans (RegsOnly.w ..)).trans (.showAgain ..)
  rw [regs]
  exact parts

/-- What a POWER-ON or DIP reset leaves in a field, before it shows the outside levels again: kind, cause and PLL in service are set
and the rest is kept by its class or cut off. -/
theorem r_resetState_form {kind : Nat} (hk : kind < 2) (cause : Nat) (s : State) (lost : SysRecord.address ∉ s.mem.lost) :
    ∃ t : State, (∀ g, fieldOfKey g.key = some g → t.r g = if survives kind g.kept then s.r g else g.reset) ∧
      ∀ g, fieldOfKey g.key = some g → (resetState kind cause s).r g = if g ∈ shownFields kind then s.r g else
        (resetPll (cutWrites ((t.w Reg.PWR_RESET_CAUSE_KIND kind).w Reg.PWR_RESET_CAUSE_CAUSE cause))).r g := by
  obtain ⟨t, form, regs, -⟩ := resetState_form kind cause s
  refine ⟨t, fun g hg => ?_, fun g hg => ?_⟩
  · rw [State.r, regs, lostRegs, if_neg lost, get_keptRegs hg]
    rfl
  · rw [form, r_showAgain hk s _ hg]

/-- RESET_CAUSE and PLL_IN_SERVICE after a reset (R10, R414). -/
theorem r_resetState_status {kind cause : Nat} (hk : kind < 2) (hc : cause < 16) (s : State) (lost : SysRecord.address ∉ s.mem.lost) :
    (resetState kind cause s).r Reg.PWR_RESET_CAUSE_KIND = kind ∧ (resetState kind cause s).r Reg.PWR_RESET_CAUSE_CAUSE = cause ∧
    (resetState kind cause s).r Reg.PWR_STATUS_PLL_IN_SERVICE = b2n (bitAt (s.r Reg.PWR_CLOCK_FENCED) 0) := by
  have notSeal (f : Field) (ha : f.addr ≠ 0x10000) (hlo : f.lo < 32) (n : Nat) : f.key ≠ (sealField n).key := sealField_ne n f ha hlo
  have unshown (f : Field) (h : f ∉ liveFields) : f ∉ shownFields kind := fun m => h ((mem_shownFields hk f).mp m).1
  obtain ⟨t, kept, read⟩ := r_resetState_form hk cause s lost
  refine ⟨?_, ?_, ?_⟩
  · rw [read _ rfl, if_neg (unshown _ (by decide)), resetPll, State.wb_eq, State.r_w_ne _ _ _ _ (by decide),
      r_cutWrites_other (notSeal _ (by decide) (by decide)) (by decide), State.r_w_ne _ _ _ _ (by decide), State.r_w_same]
    exact Nat.mod_eq_of_lt (show kind < 4 by omega)
  · rw [read _ rfl, if_neg (unshown _ (by decide)), resetPll, State.wb_eq, State.r_w_ne _ _ _ _ (by decide),
      r_cutWrites_other (notSeal _ (by decide) (by decide)) (by decide), State.r_w_same]
    exact Nat.mod_eq_of_lt hc
  · rw [read _ rfl, if_neg (unshown _ (by decide)), resetPll, State.wb_eq, State.r_w_same,
      r_cutWrites_other (notSeal _ (by decide) (by decide)) (by decide), State.r_w_ne _ _ _ _ (by decide),
      State.r_w_ne _ _ _ _ (by decide), kept _ rfl]
    exact Nat.mod_eq_of_lt (b2n_lt _)

/-- Every other field of the register tables is kept by its class, or shows its outside level again (R10, R11). -/
theorem r_resetState {kind : Nat} (hk : kind < 2) (cause : Nat) (s : State) (lost : SysRecord.address ∉ s.mem.lost) {g : Field}
    (hg : fieldOfKey g.key = some g) (notSeal : ∀ n, g.key ≠ (sealField n).key)
    (other : g.key ∉ [Reg.PWR_RESET_CAUSE_KIND, Reg.PWR_RESET_CAUSE_CAUSE, Reg.PWR_STATUS_PLL_IN_SERVICE,
      Reg.IMG_STATUS_TS_INCOMING_STATE].map Field.key) :
    (resetState kind cause s).r g = if survives kind g.kept || liveField g then s.r g else g.reset := by
  simp only [List.map_cons, List.map_nil, List.mem_cons, List.not_mem_nil, or_false, not_or] at other
  obtain ⟨notKind, notCause, notPll, notIncoming⟩ := other
  obtain ⟨t, kept, read⟩ := r_resetState_form hk cause s lost
  rw [read g hg, resetPll, State.wb_eq, State.r_w_ne _ _ _ _ notPll, r_cutWrites_other notSeal notIncoming, State.r_w_ne _ _ _ _ notCause,
    State.r_w_ne _ _ _ _ notKind, kept g hg]
  have live : liveField g = decide (g ∈ liveFields) := by simp [liveField]
  by_cases survivor : survives kind g.kept = true
  · simp [survivor]
  · by_cases shown : g ∈ liveFields <;> simp [mem_shownFields hk, survivor, shown, live]

/-- What is being written or streamed when the reset comes is cut off, and every other target keeps its state (R409, Table 14-7). -/
theorem cutOff_resetState {kind : Nat} (hk : kind < 2) (cause : Nat) (s : State) (lost : SysRecord.address ∉ s.mem.lost) :
    CutOff kind s (resetState kind cause s) := by
  have table : ∀ n < 4, fieldOfKey (sealField n).key = some (sealField n) ∧ sealField n ∉ liveFields ∧ (sealField n).kept = .k := by
    decide +kernel
  have unshown (f : Field) (h : f ∉ liveFields) : f ∉ shownFields kind := fun m => h ((mem_shownFields hk f).mp m).1
  obtain ⟨t, kept, read⟩ := r_resetState_form hk cause s lost
  refine ⟨fun n hn => ?_, ?_⟩
  · obtain ⟨hg, hl, hc⟩ := table n hn
    have ne (f : Field) (ha : f.addr ≠ 0x10000) (hlo : f.lo < 32) : (sealField n).key ≠ f.key := (sealField_ne n f ha hlo).symm
    rw [read _ hg, if_neg (unshown _ hl), resetPll, State.wb_eq, State.r_w_ne _ _ _ _ (ne _ (by decide) (by decide)),
      r_cutWrites_target hn, State.r_w_ne _ _ _ _ (ne _ (by decide) (by decide)), State.r_w_ne _ _ _ _ (ne _ (by decide) (by decide)),
      kept _ hg, hc]
    rfl
  · rw [read _ rfl, if_neg (unshown _ (by decide)), resetPll, State.wb_eq, State.r_w_ne _ _ _ _ (by decide), r_cutWrites_incoming,
      State.r_w_ne _ _ _ _ (by decide), State.r_w_ne _ _ _ _ (by decide), kept _ rfl]
    rfl

end Sys2Proof.Machine

/-! ### The lanes' judgement of the requests (R229, R230, R267) -/

namespace Sys2Proof.Machine

/-- The second state differs from the first in the lanes, the mirror state, the dispatcher's ports and the raised events alone, and
in no test pulse. -/
def LanesOnly (s t : State) : Prop :=
  t = { s with saf := t.saf, mir := t.mir, dsp := t.dsp, raised := t.raised } ∧ t.saf.pulse = s.saf.pulse

theorem LanesOnly.refl (s : State) : LanesOnly s s := ⟨rfl, rfl⟩

theorem LanesOnly.trans {s t u : State} (h : LanesOnly s t) (h' : LanesOnly t u) : LanesOnly s u := by
  obtain ⟨eq, pulse⟩ := h
  obtain ⟨eq', pulse'⟩ := h'
  exact ⟨by rw [eq', eq], pulse'.trans pulse⟩

theorem LanesOnly.modLane (s : State) (l : Nat) (f : Lane → Lane) : LanesOnly s (s.modLane l f) := ⟨rfl, rfl⟩

theorem LanesOnly.latchFault (l bit : Nat) (e : Evt) (args : List Arg) (s : State) : LanesOnly s (latchFault l bit e args s) := by
  unfold Machine.latchFault State.when_
  dsimp only
  split <;> exact ⟨rfl, rfl⟩

theorem LanesOnly.tripFault (l n bit : Nat) (holds : Bool) (e : Evt) (args : List Arg) (s : State) :
    LanesOnly s (tripFault l n bit holds e args s) := by
  unfold Machine.tripFault
  split
  · exact .latchFault ..
  · exact .refl s

/-- Poles that open at once end no pulse where none runs. -/
theorem LanesOnly.laneOpen {s : State} (l : Nat) (h : s.saf.pulse = none) : LanesOnly s (laneOpen l s) := by
  have none : s.pulsed l = none := by simp [State.pulsed, h]
  unfold Machine.laneOpen
  rw [none]
  exact ⟨rfl, rfl⟩

theorem LanesOnly.laneFunctions {s : State} (l : Nat) (h : s.saf.pulse = none) : LanesOnly s (laneFunctions l s) := by
  unfold Machine.laneFunctions
  extract_lets dz s1 s2 br s3 sf s4 closed s5
  have h5 : LanesOnly s s5 :=
    ((((LanesOnly.tripFault _ _ _ _ _ _ _).trans (.tripFault ..)).trans (.tripFault ..)).trans (.tripFault ..)).trans (.modLane ..)
  exact (h5.trans (.modLane ..)).trans (.laneOpen l (h5.2.trans h))

/-- An occurrence at a port that is neither a loop's nor an exit cause of Parked enters its FIFO or is held by its source, and changes
nothing else (R80, Table 03-4). -/
theorem post_form (s : State) (port key : Nat) (h : port ∉ [2, 3, 4, 7, 8, 10]) :
    ∃ ports held, s.post port key = { s with dsp := { s.dsp with ports := ports, held := held } } := by
  simp only [List.mem_cons, List.not_mem_nil, or_false, not_or] at h
  obtain ⟨h2, h3, h4, h7, h8, h10⟩ := h
  unfold State.post
  rw [if_neg (by simp [h2, h3, h4]), if_neg h10]
  dsimp only
  split
  · exact ⟨s.dsp.ports, s.dsp.held, rfl⟩
  · rename_i c _
    by_cases room : (nth s.dsp.ports port []).length < 16
    · exact ⟨setAt s.dsp.ports port (nth s.dsp.ports port [] ++ [⟨c, none⟩]) [], s.dsp.held, by simp [portPush, room]⟩
    · exact ⟨s.dsp.ports, modAt s.dsp.held port (fun l => l ++ [⟨c, none⟩]) [], by simp [portPush, room, portHold, h7, h8, h10]⟩

theorem LanesOnly.post (s : State) (port key : Nat) (h : port ∉ [2, 3, 4, 7, 8, 10]) : LanesOnly s (s.post port key) := by
  obtain ⟨ports, held, form⟩ := post_form s port key h
  rw [form]
  exact ⟨rfl, rfl⟩

theorem LanesOnly.foldl {α : Type} {f : State → α → State} (h : ∀ s x, LanesOnly s (f s x)) (l : List α) (s : State) :
    LanesOnly s (l.foldl f s) := by
  induction l generalizing s with
  | nil => exact .refl s
  | cons x l ih => exact (h s x).trans (ih _)

theorem LanesOnly.portNine (s : State) : LanesOnly s (portNine s) := by
  unfold Machine.portNine
  refine .foldl (fun u l => ?_) _ s
  dsimp only
  split
  · exact .refl u
  · exact LanesOnly.trans ⟨rfl, rfl⟩ (.post _ 9 l (by decide))

theorem LanesOnly.requestChange {s : State} (l bus : Nat) (h : s.saf.pulse = none) : LanesOnly s (requestChange l bus s) := by
  unfold Machine.requestChange
  extract_lets s1 old new s2 s3
  have h3 : LanesOnly s s3 := by
    unfold s3
    split <;> exact ⟨rfl, rfl⟩
  exact (h3.trans (.laneFunctions l (h3.2.trans h))).trans (.portNine _)

/-- While no test pulse runs, taking the requests touches no register, no memory and no clock (R350). -/
theorem LanesOnly.lanesTake {s : State} (h : s.saf.pulse = none) : LanesOnly s (lanesTake s) := by
  have first : LanesOnly s (Machine.requestChange 0 s.mir.bus s) := .requestChange 0 _ h
  exact first.trans (.requestChange 1 _ (first.2.trans h))

/-! ### The three resets -/

/-- A lost clock resets as a DIP with cause CLOCK and shows the reference; the lanes then take the requests anew (R402). -/
theorem clockLost_form {s : State} (h : s.down = false) (refLost : Bool) : ∃ t : State, LanesOnly t (clockLost refLost s) ∧
    t.regs = ((resetState 1 5 s).wb Reg.PWR_CLOCK_REF_OK (!refLost)).regs ∧ t.keep = (resetState 1 5 s).keep ∧
    t.deep = (resetState 1 5 s).deep ∧ t.near = (resetState 1 5 s).near ∧ t.table = (resetState 1 5 s).table ∧
    t.optime = (resetState 1 5 s).optime ∧ t.pwr.clockLost = true := by
  unfold clockLost
  rw [if_neg (by simp [h])]
  obtain ⟨-, -, -, -, -, -, noPulse⟩ := resetState_stores 1 5 s
  generalize resetState 1 5 s = u at noPulse
  exact ⟨_, .lanesTake noPulse, rfl, rfl, rfl, rfl, rfl, rfl, rfl⟩

end Sys2Proof.Machine

namespace Sys2Proof

open Sys2Proof.Machine

/-- CutOff speaks of the register-field file, and of no field beside the targets' and the incoming slot's. -/
theorem CutOff.of_regs {kind : Nat} {s t u : Machine.State} (h : CutOff kind s t) {f : Field} (v : Nat) (e : u.regs = (t.w f v).regs)
    (notSeal : ∀ n, (sealField n).key ≠ f.key) (notIncoming : Reg.IMG_STATUS_TS_INCOMING_STATE.key ≠ f.key) : CutOff kind s u := by
  have read (g : Field) : u.r g = (t.w f v).r g := by rw [State.r, e]; rfl
  obtain ⟨targets, incoming⟩ := h
  refine ⟨fun n hn => ?_, ?_⟩
  · rw [read, State.r_w_ne _ _ _ _ (notSeal n)]
    exact targets n hn
  · rw [read, State.r_w_ne _ _ _ _ notIncoming]
    exact incoming

@[simp] theorem cutOff_fin (kind : Nat) (s t : Machine.State) : CutOff kind s t.fin ↔ CutOff kind s t := by simp [CutOff]

@[simp] theorem fin_down (s : Machine.State) : s.fin.down = s.down := by simp [State.down]

/-- Settles O41: each of the three is a reset of its kind, so the laws of `resetState` give fields, stores and what is cut off; the
lost clock adds the reference and the lanes' judgement, which touches neither. -/
theorem resetKeepsByRetentionClass : Obligations.ResetKeepsByRetentionClass := by
  unfold Obligations.ResetKeepsByRetentionClass
  intro s g hg other notSeal present
  simp only [List.map_cons, List.map_nil, List.mem_cons, List.not_mem_nil, or_false, not_or] at other
  obtain ⟨notKind, notCause, notRef, notPll, notIncoming⟩ := other
  have field {kind : Nat} (hk : kind < 2) (cause : Nat) :
      (resetState kind cause s).r g = if survives kind g.kept || liveField g then s.r g else g.reset :=
    r_resetState hk cause s present hg notSeal (by simp [notKind, notCause, notPll, notIncoming])
  refine ⟨fun lost => ?_, fun up c hc => ?_, fun up refLost => ?_⟩
  · obtain ⟨keep, deep, near, table, optime, supplied, -⟩ := resetState_stores 0 (b2n lost) s
    obtain ⟨kind, cause, pll⟩ := r_resetState_status (kind := 0) (by decide) (show b2n lost < 16 by have := b2n_lt lost; omega) s present
    have run : exec (.powerOnReset lost) s = .next (resetState 0 (b2n lost) s).fin := rfl
    refine ⟨_, run, ?_⟩
    simp only [State.fin_r, State.fin_optime, State.fin_keep, State.fin_deep, State.fin_near, State.fin_table, cutOff_fin, fin_down]
    exact ⟨kind, cause, pll, field (by decide) _, optime, cutOff_resetState (by decide) _ s present, keep, deep, near, table, by
      simp [State.down, supplied]⟩
  · obtain ⟨keep, deep, near, table, optime, supplied, -⟩ := resetState_stores 1 (2 + c) s
    obtain ⟨kind, cause, -⟩ := r_resetState_status (kind := 1) (cause := 2 + c) (by decide) (by omega) s present
    have run : exec (.dipReset c) s = .next (resetState 1 (2 + c) s).fin := by
      have e : exec (.dipReset c) s = (dipReset (2 + c % 3) s).done := rfl
      rw [e, Nat.mod_eq_of_lt hc]
      simp [dipReset, up]
    refine ⟨_, run, ?_⟩
    simp only [State.fin_r, State.fin_optime, State.fin_keep, State.fin_deep, State.fin_near, State.fin_table, cutOff_fin, fin_down]
    exact ⟨kind, cause, field (by decide) _, optime, cutOff_resetState (by decide) _ s present, keep, deep, near, table, by
      simp [State.down, supplied]⟩
  · obtain ⟨keep, deep, near, table, optime, -⟩ := resetState_stores 1 5 s
    obtain ⟨kind, cause, -⟩ := r_resetState_status (kind := 1) (cause := 5) (by decide) (by decide) s present
    obtain ⟨t, ⟨lanes, -⟩, regs, keep', deep', near', table', optime', lostClock⟩ := clockLost_form up refLost
    have run : exec (.clockLost refLost) s = .next (clockLost refLost s).fin := rfl
    have stays : (clockLost refLost s).regs = ((resetState 1 5 s).wb Reg.PWR_CLOCK_REF_OK (!refLost)).regs := by rw [lanes]; exact regs
    have read (f : Field) : (clockLost refLost s).r f = ((resetState 1 5 s).w Reg.PWR_CLOCK_REF_OK (b2n (!refLost))).r f := by
      rw [State.r, stays]
      rfl
    refine ⟨_, run, ?_⟩
    simp only [State.fin_r, State.fin_optime, State.fin_keep, State.fin_deep, State.fin_near, State.fin_table, cutOff_fin,
      State.fin_pwr_clockLost]
    refine ⟨?_, ?_, ?_, ?_, ?_, ?_, ?_, ?_, ?_, ?_, ?_⟩
    · rw [lanes]; exact lostClock
    · rw [read, State.r_w_ne _ _ _ _ (by decide)]; exact kind
    · rw [read, State.r_w_ne _ _ _ _ (by decide)]; exact cause
    · rw [read, State.r_w_same]; exact Nat.mod_eq_of_lt (b2n_lt _)
    · rw [read, State.r_w_ne _ _ _ _ notRef]; exact field (by decide) 5
    · rw [lanes]; exact optime'.trans optime
    · exact (cutOff_resetState (by decide) 5 s present).of_regs _ stays (fun n => (sealField_ne n _ (by decide) (by decide)).symm) (by decide)
    · rw [lanes]; exact keep'.trans keep
    · rw [lanes]; exact deep'.trans deep
    · rw [lanes]; exact near'.trans near
    · rw [lanes]; exact table'.trans table

end Sys2Proof

/-! PROOFS. Delay lists (R74 to R77), external ports and doorbells (R80, R81), and the clearing of the peaks (R8). -/

namespace Sys2Proof.Machine

/-- A module that is not Parked does the dispatcher's work (R406). -/
theorem awake_unparked {s : State} (f : State → State) (h : s.parked = false) : s.awake f = f s := if_neg (by simp [h])

/-! ### The answer to an item -/

theorem answerItem_form (s : State) (k : Nat) (f : Facet → Facet) :
    ∃ facets, s.answerItem k f = { s with dsp := { s.dsp with facets := facets } } := by
  unfold State.answerItem
  split
  · exact ⟨s.dsp.facets, rfl⟩
  · exact ⟨_, rfl⟩

theorem facet_answerItem {s : State} {k p : Nat} (f : Facet → Facet) (h : s.physOf k = some p) :
    (s.answerItem k f).facet p = f (s.facet p) := by
  simp [State.answerItem, h]

/-! ### Inserts -/

/-- The entry joins those of the time list. -/
theorem insertTime_perm (s : State) (x : TimeEntry) (l : List TimeEntry) : (insertTime s x l).Perm (x :: l) := by
  induction l with
  | nil => exact .refl _
  | cons y l ih =>
    rw [insertTime]
    generalize (!y.due && decide (s.until_ x.expiry < s.until_ y.expiry)) = before
    cases before
    · exact (ih.cons y).trans (.swap x y l)
    · exact .refl _

/-- The entry joins those of its direction's position list. -/
theorem insertPos_perm (down : Bool) (x : PosEntry) (l : List PosEntry) : (insertPos down x l).Perm (x :: l) := by
  induction l with
  | nil => exact .refl _
  | cons y l ih =>
    rw [insertPos]
    generalize (!y.due && if down then decide (y.thresh < x.thresh) else decide (x.thresh < y.thresh)) = before
    cases before
    · exact (ih.cons y).trans (.swap x y l)
    · exact .refl _

/-- A single insert that finds none waiting is granted in its cycle. -/
theorem delayInsert_single {s : State} (x : DelayInsert) (h : s.dsp.inserts = []) : delayInsert [x] s = grantInsert s x := by
  have same : { s with dsp := { s.dsp with inserts := [] } } = s := by rw [← h]
  rw [delayInsert, h]
  exact congrArg (fun s => grantInsert s x) same

theorem delayInsert_run {s : State} (x : DelayInsert) (h : s.parked = false) (e : s.dsp.inserts = []) :
    exec (.delayInsert [x]) s = .next (grantInsert s x).fin := by
  have run : exec (.delayInsert [x]) s = (s.awake (delayInsert [x])).done := rfl
  rw [run, awake_unparked _ h, delayInsert_single x e, State.done_eq]

/-- A refused insert: counted, raised and taken notice of at port 14. -/
theorem delayFull_form (list : Nat) (s : State) : ∃ ports held,
    delayFull list s = { (s.inc Reg.DSP_BP_COUNT_DELAY_FULL).raise Evt.DSP_DELAY_FULL [.code list] with
      dsp := { s.dsp with ports := ports, held := held } } := by
  unfold delayFull
  by_cases h : list = 0
  · obtain ⟨ports, held, form⟩ := post_form ((s.inc Reg.DSP_BP_COUNT_DELAY_FULL).raise Evt.DSP_DELAY_FULL [.code list]) 14 0 (by decide)
    exact ⟨ports, held, by rw [h] at form ⊢; exact form⟩
  · exact ⟨s.dsp.ports, s.dsp.held, if_neg (by simp [h])⟩

end Sys2Proof.Machine

namespace Sys2Proof

open Sys2Proof.Machine

/-- An insert into a full list enters nothing; the item receives FULL (R74). -/
theorem refusedInsert (list k : Nat) (s t : Machine.State) (ht : t = (delayFull list s).answerItem k fun f => { f with full := true }) :
    t.fin.dsp.timeList = s.dsp.timeList ∧ t.fin.dsp.up = s.dsp.up ∧ t.fin.dsp.down = s.dsp.down ∧
    (∀ p, p < s.dsp.facets.length → s.physOf k = some p → (t.fin.facet p).full = true) ∧
    t.fin.r Reg.DSP_BP_COUNT_DELAY_FULL = satN Reg.DSP_BP_COUNT_DELAY_FULL.width (s.r Reg.DSP_BP_COUNT_DELAY_FULL + 1) ∧
    Pending Evt.DSP_DELAY_FULL t.fin ∧ RegsBut [Reg.DSP_BP_COUNT_DELAY_FULL] s t.fin ∧ SameMemory s t.fin := by
  obtain ⟨ports, held, refused⟩ := delayFull_form list s
  obtain ⟨facets, answered⟩ := answerItem_form (delayFull list s) k fun f => { f with full := true }
  have form : t = { (s.inc Reg.DSP_BP_COUNT_DELAY_FULL).raise Evt.DSP_DELAY_FULL [.code list] with
      dsp := { s.dsp with ports := ports, held := held, facets := facets } } := by rw [ht, answered, refused]
  refine ⟨?_, ?_, ?_, fun p _ hp => ?_, ?_, ?_, ?_, ?_⟩
  · simp [form]
  · simp [form]
  · simp [form]
  · have phys : (delayFull list s).physOf k = some p := by rw [refused]; exact hp
    rw [State.fin_facet, ht, facet_answerItem _ phys]
  · have read : t.r Reg.DSP_BP_COUNT_DELAY_FULL = (s.inc Reg.DSP_BP_COUNT_DELAY_FULL).r Reg.DSP_BP_COUNT_DELAY_FULL := by rw [form]; rfl
    rw [State.fin_r, read, State.inc_eq, State.r_w_same, Nat.mod_eq_of_lt (satN_lt _ _)]
  · exact pending_fin (by simp [form])
  · rw [regsBut_fin, form]
    exact (RegsBut.w _ (.refl _ s) List.mem_cons_self).of_regs rfl
  · rw [sameMemory_fin, form]
    exact ⟨rfl, rfl, rfl, rfl⟩

/-- The time-list entry that an insert makes, DELAY microseconds ahead. -/
def newTimeEntry (s : Machine.State) (x : DelayInsert) : TimeEntry :=
  { expiry := s.optime + BitVec.ofNat 48 x.delay, node := x.node, level := x.level, arg := x.arg, tag := x.tag }

/-- The position-list entry that an insert makes; late if the car has reached its threshold already. -/
def newPosEntry (s : Machine.State) (x : DelayInsert) : PosEntry :=
  { thresh := x.thresh, node := x.node, level := x.level, arg := x.arg, tag := x.tag,
    late := s.ret.seen && (if x.down then decide (s.pos.sample.pos ≤ x.thresh) else decide (x.thresh ≤ s.pos.sample.pos)) }

/-- An insert granted into a time list with room. -/
theorem grantInsert_time {x : DelayInsert} {s : Machine.State} (hx : x.position = false) (room : s.dsp.timeList.length < 512) :
    ∃ n facets, grantInsert s x = { s.peak Reg.DSP_DELAY_TIME_PEAK n with
      dsp := { s.dsp with timeList := insertTime s (newTimeEntry s x) s.dsp.timeList, facets := facets } } := by
  obtain ⟨facets, answered⟩ := answerItem_form (timeInsert x.node x.level x.arg x.tag x.delay s).1 x.facet
    fun f => { f with full := !(timeInsert x.node x.level x.arg x.tag x.delay s).2 }
  refine ⟨(insertTime s (newTimeEntry s x) s.dsp.timeList).length, facets, ?_⟩
  simp only [grantInsert, hx, Bool.false_eq_true, if_false]
  rw [answered, timeInsert, if_neg (by omega)]
  rfl

/-- An insert granted into the position lists with room: its direction's list takes the entry. -/
theorem grantInsert_position {x : DelayInsert} {s : Machine.State} (hx : x.position = true)
    (room : s.dsp.up.length + s.dsp.down.length < 512) :
    ∃ n facets, grantInsert s x = { s.peak Reg.DSP_DELAY_POS_PEAK n with
      dsp := { s.dsp with
        up := if x.down then s.dsp.up else insertPos false (newPosEntry s x) s.dsp.up
        down := if x.down then insertPos true (newPosEntry s x) s.dsp.down else s.dsp.down
        facets := facets } } := by
  obtain ⟨facets, answered⟩ := answerItem_form (posInsert x.down x.node x.level x.arg x.tag x.thresh s).1 x.facet
    fun f => { f with full := !(posInsert x.down x.node x.level x.arg x.tag x.thresh s).2 }
  refine ⟨(if x.down then s.dsp.up else insertPos false (newPosEntry s x) s.dsp.up).length +
    (if x.down then insertPos true (newPosEntry s x) s.dsp.down else s.dsp.down).length, facets, ?_⟩
  simp only [grantInsert, hx, if_true]
  rw [answered, posInsert, if_neg (by omega)]
  unfold newPosEntry
  cases x.down <;> rfl

/-- An insert refused for want of room. -/
theorem grantInsert_full {x : DelayInsert} {s : Machine.State}
    (full : if x.position then 512 ≤ s.dsp.up.length + s.dsp.down.length else 512 ≤ s.dsp.timeList.length) :
    grantInsert s x = (delayFull (b2n x.position) s).answerItem x.facet fun f => { f with full := true } := by
  cases hx : x.position
  · rw [hx, if_neg (by simp)] at full
    simp [grantInsert, hx, timeInsert, full, b2n]
  · rw [hx, if_pos rfl] at full
    simp [grantInsert, hx, posInsert, full, b2n]

/-- What DELAY_INSERT does with a single insert (R74, R76, R77). -/
theorem delayInsert_completes (s : Machine.State) (x : DelayInsert) (running : s.parked = false) (noneWaits : s.dsp.inserts = []) :
    (x.position = false → s.dsp.timeList.length < 512 →
      ∃ t, exec (.delayInsert [x]) s = .next t ∧ newTimeEntry s x ∈ t.dsp.timeList ∧
        t.dsp.timeList.length = s.dsp.timeList.length + 1 ∧ t.dsp.up = s.dsp.up ∧ t.dsp.down = s.dsp.down ∧
        RegsBut [Reg.DSP_DELAY_TIME_PEAK] s t ∧ SameMemory s t) ∧
    (x.position = true → s.dsp.up.length + s.dsp.down.length < 512 →
      ∃ t y, exec (.delayInsert [x]) s = .next t ∧
        y ∈ (if x.down then t.dsp.down else t.dsp.up) ∧ y.thresh = x.thresh ∧ y.node = x.node ∧ y.tag = x.tag ∧ y.due = false ∧
        t.dsp.up.length + t.dsp.down.length = s.dsp.up.length + s.dsp.down.length + 1 ∧ t.dsp.timeList = s.dsp.timeList ∧
        RegsBut [Reg.DSP_DELAY_POS_PEAK] s t ∧ SameMemory s t) := by
  have run := delayInsert_run x running noneWaits
  refine ⟨fun hx room => ?_, fun hx room => ?_⟩
  · obtain ⟨n, facets, form⟩ := grantInsert_time hx room
    have joins := insertTime_perm s (newTimeEntry s x) s.dsp.timeList
    refine ⟨_, run, ?_⟩
    simp only [State.fin_dsp, regsBut_fin, sameMemory_fin]
    rw [form]
    exact ⟨joins.mem_iff.mpr List.mem_cons_self, joins.length_eq, rfl, rfl,
      (RegsBut.w _ (.refl _ s) List.mem_cons_self).of_regs rfl, rfl, rfl, rfl, rfl⟩
  · obtain ⟨n, facets, form⟩ := grantInsert_position hx room
    have joins (down : Bool) := insertPos_perm down (newPosEntry s x)
    refine ⟨_, newPosEntry s x, run, ?_⟩
    simp only [State.fin_dsp, regsBut_fin, sameMemory_fin]
    rw [form]
    refine ⟨?_, rfl, rfl, rfl, rfl, ?_, rfl, (RegsBut.w _ (.refl _ s) List.mem_cons_self).of_regs rfl, rfl, rfl, rfl, rfl⟩
    · cases x.down <;> simp [(joins _ _).mem_iff]
    · cases x.down <;> simp [(joins _ _).length_eq] <;> omega

/-! ### Cancels -/

/-- A cancel takes out of a list the entries with its TAG that have not expired (R75). -/
theorem itemCancel_form (k : Nat) (position : Bool) (tag : Nat) (s : Machine.State) : ∃ facets,
    itemCancel k position tag s = { delayCancel position tag s with dsp := { (delayCancel position tag s).dsp with facets := facets } } :=
  answerItem_form ..

theorem delayCancel_completes (s : Machine.State) (k tag : Nat) (running : s.parked = false) :
    (∃ t, exec (.delayCancel k false tag) s = .next t ∧
      (∀ x, x ∈ t.dsp.timeList ↔ x ∈ s.dsp.timeList ∧ (x.tag ≠ tag ∨ s.timeDue x = true)) ∧
      (∀ p, p < s.dsp.facets.length → s.physOf k = some p →
        (t.facet p).removed = s.dsp.timeList.length - t.dsp.timeList.length) ∧
      t.dsp.up = s.dsp.up ∧ t.dsp.down = s.dsp.down ∧ t.regs = s.regs ∧ SameMemory s t) ∧
    ∃ t, exec (.delayCancel k true tag) s = .next t ∧ (∀ x, x ∈ t.dsp.up ↔ x ∈ s.dsp.up ∧ (x.tag ≠ tag ∨ x.due = true)) ∧
      (∀ x, x ∈ t.dsp.down ↔ x ∈ s.dsp.down ∧ (x.tag ≠ tag ∨ x.due = true)) ∧
      (∀ p, p < s.dsp.facets.length → s.physOf k = some p → (t.facet p).removed = s.dsp.delayed - t.dsp.delayed) ∧
      t.dsp.timeList = s.dsp.timeList ∧ t.regs = s.regs ∧ SameMemory s t := by
  have run (position : Bool) : exec (.delayCancel k position tag) s = .next (itemCancel k position tag s).fin := by
    have e : exec (.delayCancel k position tag) s = (s.awake (itemCancel k position tag)).done := rfl
    rw [e, awake_unparked _ running, State.done_eq]
  have removed (position : Bool) (p : Nat) (hp : s.physOf k = some p) :
      ((itemCancel k position tag s).fin.facet p).removed = s.dsp.delayed - (delayCancel position tag s).dsp.delayed := by
    have phys : (delayCancel position tag s).physOf k = some p := by cases position <;> exact hp
    rw [State.fin_facet, itemCancel, facet_answerItem _ phys]
  refine ⟨⟨_, run false, ?_⟩, ⟨_, run true, ?_⟩⟩
  · obtain ⟨facets, form⟩ := itemCancel_form k false tag s
    simp only [State.fin_dsp, State.fin_regs, sameMemory_fin]
    refine ⟨fun x => ?_, fun p _ hp => ?_, ?_⟩
    · simp [form, delayCancel, or_comm]
    · rw [removed false p hp, form]
      simp only [DspState.delayed, delayCancel, Bool.false_eq_true, if_false]
      omega
    · rw [form]
      exact ⟨rfl, rfl, rfl, rfl, rfl, rfl, rfl⟩
  · obtain ⟨facets, form⟩ := itemCancel_form k true tag s
    simp only [State.fin_dsp, State.fin_regs, sameMemory_fin]
    refine ⟨fun x => ?_, fun x => ?_, fun p _ hp => ?_, ?_⟩
    · simp [form, delayCancel, or_comm]
    · simp [form, delayCancel, or_comm]
    · rw [removed true p hp, form]
      rfl
    · rw [form]
      exact ⟨rfl, rfl, rfl, rfl, rfl, rfl⟩

/-! ### Expiry at a tick -/

theorem takeWhile_append_stop {α : Type} {p : α → Bool} {l r : List α} (hl : ∀ x ∈ l, p x = true) (hr : ∀ x ∈ r, p x = false) :
    (l ++ r).takeWhile p = l := by
  rw [List.takeWhile_append_of_pos hl]
  cases r with
  | nil => simp
  | cons x r => simp [hr x List.mem_cons_self]

theorem timeListExpiry_completes (s : Machine.State) (due rest : List TimeEntry) (running : s.parked = false)
    (split : s.dsp.timeList = due ++ rest) (hdue : ∀ x ∈ due, x.due = false ∧ s.until_ x.expiry ≤ 0)
    (hrest : ∀ x ∈ rest, x.due = false ∧ 0 < s.until_ x.expiry) :
    ∃ t, exec .timeListExpiry s = .next t ∧ t.dsp.timeList = due.map (fun x => { x with due := true }) ++ rest ∧
      t.dsp.timeQ.length = s.dsp.timeQ.length + due.length ∧ t.dsp.ready = s.dsp.ready ∧ t.regs = s.regs ∧ SameMemory s t := by
  have run : exec .timeListExpiry s = .next (timeListExpiry s).fin := by
    have e : exec .timeListExpiry s = (s.awake timeListExpiry).done := rfl
    rw [e, awake_unparked _ running, State.done_eq]
  have expired : (due ++ rest).takeWhile s.timeDue = due :=
    takeWhile_append_stop (fun x hx => by simp [State.timeDue, (hdue x hx).2]) fun x hx => by
      simp [State.timeDue, (hrest x hx).1, (hrest x hx).2]
  have queued : due.filter (fun x => !x.due) = due := List.filter_eq_self.mpr fun x hx => by simp [(hdue x hx).1]
  refine ⟨_, run, ?_⟩
  simp only [State.fin_dsp, State.fin_regs, sameMemory_fin]
  simp [timeListExpiry, split, expired, queued, SameMemory]

end Sys2Proof

namespace Sys2Proof

open Sys2Proof.Machine

/-! ### Ports -/

theorem portPush_room {d : DspState} {port : Nat} (x : Dec) (h : (nth d.ports port []).length < 16) :
    portPush d port x = ({ d with ports := setAt d.ports port (nth d.ports port [] ++ [x]) [] }, true) := if_pos h

theorem portPush_full {d : DspState} {port : Nat} (x : Dec) (h : 16 ≤ (nth d.ports port []).length) : portPush d port x = (d, false) :=
  if_neg (by omega)

theorem portDelivery_completes (s : Machine.State) (port : Nat) (x : Dec) (q : List Dec) (hport : port < 16) (running : s.parked = false)
    (released : s.released = true) (free : s.unitHeld = false) (hin : s.dsp.portIn.length < 4) (untaken : s.portTaken port = false)
    (turn : s.portsBefore port < 4) (head : nth s.dsp.ports port [] = x :: q) :
    ∃ t, exec (.portDelivery port) s = .next t ∧ t.dsp.portIn = s.dsp.portIn ++ [(port, x)] ∧
      nth t.dsp.ports port [] = q ++ (nth s.dsp.held port []).take 1 ∧ nth t.dsp.held port [] = (nth s.dsp.held port []).drop 1 ∧
      t.regs = s.regs ∧ SameMemory s t := by
  have run : exec (.portDelivery port) s = .next (portDelivery port s).fin := by
    have e : exec (.portDelivery port) s = (s.awake (portDelivery (port % 16))).done := rfl
    rw [e, awake_unparked _ running, Nat.mod_eq_of_lt hport, State.done_eq]
  have served : portDelivery port s = { s with dsp := { s.dsp with
      portIn := s.dsp.portIn ++ [(port, x)]
      ports := setAt s.dsp.ports port (q ++ (nth s.dsp.held port []).take 1) []
      held := setAt s.dsp.held port ((nth s.dsp.held port []).drop 1) [] } } := by
    rw [portDelivery, if_neg (by simp [released, free, untaken, hin, turn]), head]
  refine ⟨_, run, ?_⟩
  simp only [State.fin_dsp, State.fin_regs, sameMemory_fin]
  rw [served]
  exact ⟨rfl, nth_setAt_same .., nth_setAt_same .., rfl, rfl, rfl, rfl, rfl⟩

/-! ### Doorbells -/

/-- Graphs are released in PHASE CONTROL_READY and ATLAS_READY, in which every path is served. -/
theorem serving_of_released {s : Machine.State} (h : s.released = true) : Serving s := by
  simp only [State.released, Bool.or_eq_true, beq_iff_eq] at h
  unfold Serving
  omega

theorem served_serving {s : Machine.State} (f : Machine.State → Machine.State) (h : Serving s) : s.served f = f s := if_neg h

/-- A doorbell of a counter that the host may ring, once the graphs are released (R81). -/
theorem dspDoorbell_run {s : Machine.State} {c : Nat} (hc : c < 4096) (h : s.released = true) :
    exec (.dspDoorbell c) s = .next (dspDoorbell c s).fin := by
  have e : exec (.dspDoorbell c) s = (s.served (dspDoorbell (c % 4096))).done := rfl
  rw [e, served_serving _ (serving_of_released h), Nat.mod_eq_of_lt hc, State.done_eq]

/-- Any other doorbell does nothing. -/
theorem dspDoorbell_idle {s : Machine.State} {c : Nat} (hc : c < 4096) (h : (s.counter c).hostOk = false ∨ s.released = false) :
    exec (.dspDoorbell c) s = .next s.fin := by
  have e : exec (.dspDoorbell c) s = (s.served (dspDoorbell (c % 4096))).done := rfl
  have idle : dspDoorbell c s = s := if_neg (by rcases h with h | h <;> simp [h])
  rw [e, Nat.mod_eq_of_lt hc, State.served, idle, ite_self, State.done_eq]

theorem dspDoorbell_completes (s : Machine.State) (c : Nat) (hc : c < 4096) :
    (s.released = true → (s.counter c).hostOk = true → (nth s.dsp.ports 15 []).length < 16 →
      ∃ t, exec (.dspDoorbell c) s = .next t ∧ nth t.dsp.ports 15 [] = nth s.dsp.ports 15 [] ++ [⟨c, none⟩] ∧ t.regs = s.regs ∧
        SameMemory s t) ∧
    (s.released = true → (s.counter c).hostOk = true → 16 ≤ (nth s.dsp.ports 15 []).length →
      ∃ t, exec (.dspDoorbell c) s = .next t ∧ t.dsp = s.dsp ∧
        t.r Reg.DSP_BP_COUNT_DOORBELL_LOST = satN Reg.DSP_BP_COUNT_DOORBELL_LOST.width (s.r Reg.DSP_BP_COUNT_DOORBELL_LOST + 1) ∧
        RegsBut [Reg.DSP_BP_COUNT_DOORBELL_LOST] s t ∧ SameMemory s t) ∧
    ((s.counter c).hostOk = false ∨ s.released = false →
      ∃ t, exec (.dspDoorbell c) s = .next t ∧ t.dsp = s.dsp ∧ t.regs = s.regs ∧ SameMemory s t) := by
  refine ⟨fun released host room => ?_, fun released host full => ?_, fun idle => ?_⟩
  · have rings : dspDoorbell c s =
        { s with dsp := { s.dsp with ports := setAt s.dsp.ports 15 (nth s.dsp.ports 15 [] ++ [⟨c, none⟩]) [] } } := by
      rw [dspDoorbell, if_pos (by simp [released, host]), portPush_room _ room]
    refine ⟨_, dspDoorbell_run hc released, ?_⟩
    simp only [State.fin_dsp, State.fin_regs, sameMemory_fin]
    rw [rings]
    exact ⟨nth_setAt_same .., rfl, rfl, rfl, rfl, rfl⟩
  · have lost : dspDoorbell c s = s.inc Reg.DSP_BP_COUNT_DOORBELL_LOST := by
      rw [dspDoorbell, if_pos (by simp [released, host]), portPush_full _ full]
    refine ⟨_, dspDoorbell_run hc released, ?_⟩
    simp only [State.fin_dsp, State.fin_r, regsBut_fin, sameMemory_fin]
    rw [lost, State.inc_eq, State.r_w_same, Nat.mod_eq_of_lt (satN_lt _ _)]
    exact ⟨rfl, rfl, .w _ (.refl _ s) List.mem_cons_self, rfl, rfl, rfl, rfl⟩
  · exact ⟨_, dspDoorbell_idle hc idle, s.fin_dsp, s.fin_regs, (sameMemory_fin s s).mpr ⟨rfl, rfl, rfl, rfl⟩⟩

/-! ### The peaks -/

theorem regsOnly_clear (s : Machine.State) (l : List Field) : RegsOnly s (s.clear l) := .foldl (fun s f => .w s f 0) l s

theorem r_clear_ne (l : List Field) {g : Field} (h : g.key ∉ l.map Field.key) (s : Machine.State) : (s.clear l).r g = s.r g := by
  induction l generalizing s with
  | nil => rfl
  | cons f l ih =>
    simp only [List.map_cons, List.mem_cons, not_or] at h
    exact (ih h.2 (s.w f 0)).trans (State.r_w_ne _ _ _ _ h.1)

/-- A field cleared among others reads 0, whatever is cleared after it. -/
theorem r_clear_mem {l : List Field} {g : Field} (hl : (l.map Field.key).Nodup) (hg : g ∈ l) (s : Machine.State) : (s.clear l).r g = 0 := by
  induction l generalizing s with
  | nil => cases hg
  | cons f l ih =>
    simp only [List.map_cons, List.nodup_cons] at hl
    rcases List.mem_cons.mp hg with rfl | hm
    · have cleared : ((s.w g 0).clear l).r g = (s.w g 0).r g := r_clear_ne l hl.1 _
      rw [show s.clear (g :: l) = (s.w g 0).clear l from rfl, cleared, State.r_w_same, Nat.zero_mod]
    · exact ih hl.2 hm (s.w f 0)

/-- The peaks of a facet and its margin's minimum, as DSP_PEAK_CLEAR leaves them. -/
def clearFacetPeaks (s : Machine.State) (p : Nat) : Machine.State :=
  (s.clear [Reg.DSP_FCT_CYCLES_MAX p, Reg.DSP_FCT_STALL_MAX p]).w (Reg.DSP_FCT_MARGIN_MIN p) 0xFF

/-- The fields outside the facets' registers that DSP_PEAK_CLEAR clears. -/
def peakFields : List Field :=
  (List.range 8).map Reg.DSP_READY_PEAK ++
    [Reg.DSP_DELAY_TIME_PEAK, Reg.DSP_DELAY_POS_PEAK, Reg.DSP_COLLECT_MAX_BURST, Reg.DSP_COLLECT_MAX_WAIT,
     Reg.DSP_BP_COUNT_READY_FULL, Reg.DSP_BP_COUNT_DELAY_FULL, Reg.DSP_BP_COUNT_TICKS_MERGED,
     Reg.DSP_BP_COUNT_DISABLED_HIT, Reg.DSP_BP_COUNT_DOORBELL_LOST, Reg.RET_POST_PEAK, Reg.MIR_LOUPE_MAX,
     Reg.PFE_EMU_STATUS_MAX_BACKLOG 0, Reg.PFE_EMU_STATUS_MAX_BACKLOG 1]

theorem dspPeakClear_eq {v : Nat} (h : v % 2 = 1) (s : Machine.State) :
    dspPeakClear v s = (List.range 112).foldl clearFacetPeaks (s.clear peakFields) := if_neg (by omega)

theorem regsOnly_clearFacetPeaks (s : Machine.State) (p : Nat) : RegsOnly s (clearFacetPeaks s p) :=
  (regsOnly_clear s _).trans (.w ..)

/-- The facets' registers lie behind the dispatcher's. -/
theorem r_clearFacetPeaks (l : List Nat) {g : Field} (h : g.key < 0x30000 * 32) (s : Machine.State) :
    (l.foldl clearFacetPeaks s).r g = s.r g := by
  induction l generalizing s with
  | nil => rfl
  | cons p l ih =>
    have ne (f : Field) (hf : 0x30000 ≤ f.addr) : g.key ≠ f.key := by simp only [Field.key] at h ⊢; omega
    have cycles := ne (Reg.DSP_FCT_CYCLES_MAX p) (by simp [Reg.DSP_FCT_CYCLES_MAX]; omega)
    have stall := ne (Reg.DSP_FCT_STALL_MAX p) (by simp [Reg.DSP_FCT_STALL_MAX]; omega)
    have margin := ne (Reg.DSP_FCT_MARGIN_MIN p) (by simp [Reg.DSP_FCT_MARGIN_MIN]; omega)
    rw [List.foldl_cons, ih, clearFacetPeaks, State.r_w_ne _ _ _ _ margin, r_clear_ne _ (by simp [cycles, stall])]

theorem dspPeakClear_completes (s : Machine.State) (v : Nat) (serving : Serving s) (hv : v % 2 = 1) :
    ∃ t, exec (.dspPeakClear v) s = .next t ∧ t.r Reg.DSP_COLLECT_MAX_BURST = 0 ∧ t.r Reg.DSP_COLLECT_MAX_WAIT = 0 ∧
      t.r Reg.DSP_BP_COUNT_DOORBELL_LOST = 0 ∧ t.dsp = s.dsp ∧ SameMemory s t := by
  have run : exec (.dspPeakClear v) s = .next (dspPeakClear v s).fin := by
    have e : exec (.dspPeakClear v) s = (s.served (dspPeakClear v)).done := rfl
    rw [e, served_serving _ serving, State.done_eq]
  have distinct : (peakFields.map Field.key).Nodup := by decide
  have regs : RegsOnly s (dspPeakClear v s) := by
    rw [dspPeakClear_eq hv]
    exact (regsOnly_clear s _).trans (.foldl regsOnly_clearFacetPeaks _ _)
  have cleared (g : Field) (hg : g ∈ peakFields) (h : g.key < 0x30000 * 32) : (dspPeakClear v s).r g = 0 := by
    rw [dspPeakClear_eq hv, r_clearFacetPeaks _ h, r_clear_mem distinct hg]
  refine ⟨_, run, ?_⟩
  simp only [State.fin_r, State.fin_dsp, sameMemory_fin]
  refine ⟨cleared _ (by decide) (by decide), cleared _ (by decide) (by decide), cleared _ (by decide) (by decide), ?_⟩
  rw [regs]
  exact ⟨rfl, rfl, rfl, rfl, rfl⟩

/-- Settles O7, command by command: inserts with room and without, cancels, expiry at a tick, port delivery, doorbells, the peaks. -/
theorem delayListsPortsAndDoorbellComplete : Obligations.DelayListsPortsAndDoorbellComplete := by
  unfold Obligations.DelayListsPortsAndDoorbellComplete
  refine ⟨⟨fun s x running noneWaits => ?_, delayCancel_completes, timeListExpiry_completes⟩, portDelivery_completes,
    dspDoorbell_completes, dspPeakClear_completes⟩
  obtain ⟨time, position⟩ := delayInsert_completes s x running noneWaits
  have full (h : if x.position then 512 ≤ s.dsp.up.length + s.dsp.down.length else 512 ≤ s.dsp.timeList.length) :
      ∃ t, exec (.delayInsert [x]) s = .next t ∧ t.dsp.timeList = s.dsp.timeList ∧ t.dsp.up = s.dsp.up ∧ t.dsp.down = s.dsp.down ∧
        (∀ p, p < s.dsp.facets.length → s.physOf x.facet = some p → (t.facet p).full = true) ∧
        t.r Reg.DSP_BP_COUNT_DELAY_FULL = satN Reg.DSP_BP_COUNT_DELAY_FULL.width (s.r Reg.DSP_BP_COUNT_DELAY_FULL + 1) ∧
        Pending Evt.DSP_DELAY_FULL t ∧ RegsBut [Reg.DSP_BP_COUNT_DELAY_FULL] s t ∧ SameMemory s t :=
    ⟨_, delayInsert_run x running noneWaits, refusedInsert _ x.facet s _ (grantInsert_full h)⟩
  exact ⟨time, fun hx h => full (by rw [hx]; exact h), position, fun hx h => full (by rw [hx]; exact h)⟩

end Sys2Proof

/-! PROOFS. Supply and Dim (R399, R403, R404, R408), rails (R417), PLLs (R400, R401), temperature (R416) and the operating-time
counter (R4). -/

namespace Sys2Proof.Machine

/-! ### Dim (R403, R404) -/

/-- The step that four comparators call for (Table 14-4). -/
theorem dimEntry_ofBits : ∀ a b c d : Bool,
    dimEntry (ofBits [a, b, c, d]) = if b || d then 2 else if a || c then 1 else 0 := by decide

theorem dimEntry_dimCause (v c : Nat) :
    dimEntry (dimCause v c) = if v < 19400 ∨ c < 752 then 2 else if v < 20000 ∨ c < 768 then 1 else 0 := by
  simp [dimCause, dimEntry_ofBits]

theorem dimCause_lt (v c : Nat) : dimCause v c < 16 := by
  have bound : ∀ a b c d : Bool, ofBits [a, b, c, d] < 16 := by decide
  exact bound ..

/-- The exit thresholds of the step that the supply calls for are not met. -/
theorem dimExit_dimEntry (v c : Nat) : dimExit (dimEntry (dimCause v c)) v c = false := by
  rw [dimEntry_dimCause]
  split
  · simp [dimExit]; omega
  · split
    · simp [dimExit]; omega
    · simp [dimExit]

/-- A new step and its cause shown, its entry counted. -/
def dimShown (step cause : Nat) (s : State) : State :=
  let t := (s.w Reg.PWR_STATUS_STEP step).w Reg.PWR_STATUS_DIM_CAUSE cause
  if step = 1 then t.inc Reg.PWR_DIM_COUNT_ENTER_200 else if step = 2 then t.inc Reg.PWR_DIM_COUNT_ENTER_100 else t

/-- A new step: shown, counted and raised; the millisecond of R404 ends. -/
theorem dimStep_form (step cause : Nat) (s : State) : ∃ rcd, dimStep step cause s =
    { (dimShown step cause s).raise Evt.DIM_STEP [.code step, .code cause] with rcd := rcd, pwr := { s.pwr with exitAt := none } } := by
  by_cases h1 : step = 1
  · subst h1
    exact ⟨_, rfl⟩
  · by_cases h2 : step = 2
    · subst h2
      exact ⟨_, rfl⟩
    · refine ⟨s.rcd, ?_⟩
      simp only [dimStep, dimShown, h1, h2, if_false]
      rfl

end Sys2Proof.Machine
namespace Sys2Proof

open Sys2Proof.Machine

/-- The registers and the event of a new step. -/
theorem dimStep_effects {step cause : Nat} (hs : step < 4) (hc : cause < 16) (s : Machine.State) :
    (dimStep step cause s).r Reg.PWR_STATUS_STEP = step ∧ (dimStep step cause s).r Reg.PWR_STATUS_DIM_CAUSE = cause ∧
    (dimStep step cause s).r Reg.PWR_DIM_COUNT_ENTER_200 =
      (if step = 1 then satN Reg.PWR_DIM_COUNT_ENTER_200.width (s.r Reg.PWR_DIM_COUNT_ENTER_200 + 1)
        else s.r Reg.PWR_DIM_COUNT_ENTER_200) ∧
    (dimStep step cause s).r Reg.PWR_DIM_COUNT_ENTER_100 =
      (if step = 2 then satN Reg.PWR_DIM_COUNT_ENTER_100.width (s.r Reg.PWR_DIM_COUNT_ENTER_100 + 1)
        else s.r Reg.PWR_DIM_COUNT_ENTER_100) ∧
    Evt.DIM_STEP.src ∈ (dimStep step cause s).raised.map (fun x => x.evt.src) ∧ SameMemory s (dimStep step cause s) ∧
    (dimStep step cause s).pwr = { s.pwr with exitAt := none } := by
  obtain ⟨rcd, form⟩ := dimStep_form step cause s
  have read (g : Field) : (dimStep step cause s).r g = (dimShown step cause s).r g := by rw [form]; rfl
  have same : SameMemory s (dimShown step cause s) := by
    unfold dimShown
    dsimp only
    split_ifs <;> exact ⟨rfl, rfl, rfl, rfl⟩
  refine ⟨?_, ?_, ?_, ?_, ?_, ?_, ?_⟩
  · rw [read, dimShown]
    split_ifs <;> simp (disch := decide) [show step % 2 ^ Reg.PWR_STATUS_STEP.width = step from Nat.mod_eq_of_lt hs]
  · rw [read, dimShown]
    split_ifs <;> simp (disch := decide) [show cause % 2 ^ Reg.PWR_STATUS_DIM_CAUSE.width = cause from Nat.mod_eq_of_lt hc]
  · rw [read, dimShown]
    split_ifs <;> simp (disch := decide) [Nat.mod_eq_of_lt (satN_lt _ _)]
  · rw [read, dimShown]
    by_cases h : step = 2
    · simp (disch := decide) [h, Nat.mod_eq_of_lt (satN_lt _ _)]
    · split_ifs <;> simp (disch := decide)
  · simp [form]
  · rw [form]
    exact same
  · rw [form]

/-- A step of which no entry is counted in a field of the list writes the listed fields alone. -/
theorem regsBut_dimStep {l : List Field} {step : Nat} (cause : Nat) (s : Machine.State) (hs : Reg.PWR_STATUS_STEP ∈ l)
    (hc : Reg.PWR_STATUS_DIM_CAUSE ∈ l) (h1 : Reg.PWR_DIM_COUNT_ENTER_200 ∈ l) (h2 : step ≠ 2 ∨ Reg.PWR_DIM_COUNT_ENTER_100 ∈ l) :
    RegsBut l s (dimStep step cause s) := by
  obtain ⟨rcd, form⟩ := dimStep_form step cause s
  have shown : RegsBut l s (dimShown step cause s) := by
    have both := ((RegsBut.refl l s).w step hs).w cause hc
    unfold dimShown
    dsimp only
    split_ifs with one two
    · exact both.w _ h1
    · exact both.w _ (h2.resolve_left (by simp [two]))
    · exact both
  exact shown.of_regs (by rw [form]; rfl)

/-- A crossing that calls for a slower step enters it at once (R403). -/
theorem dimStepDown_completes (s : Machine.State) (v c : Nat) (slower : s.r Reg.PWR_STATUS_STEP < dimEntry (dimCause v c)) :
    ∃ t, exec (.dimStepDown v c) s = .next t ∧ t.r Reg.PWR_STATUS_STEP = dimEntry (dimCause v c) ∧
      t.r Reg.PWR_STATUS_DIM_CAUSE = dimCause v c ∧ t.pwr.exitAt = none ∧
      t.r Reg.PWR_DIM_COUNT_ENTER_200 = (if dimEntry (dimCause v c) = 1 then satN Reg.PWR_DIM_COUNT_ENTER_200.width (s.r Reg.PWR_DIM_COUNT_ENTER_200 + 1)
        else s.r Reg.PWR_DIM_COUNT_ENTER_200) ∧
      t.r Reg.PWR_DIM_COUNT_ENTER_100 = (if dimEntry (dimCause v c) = 2 then satN Reg.PWR_DIM_COUNT_ENTER_100.width (s.r Reg.PWR_DIM_COUNT_ENTER_100 + 1)
        else s.r Reg.PWR_DIM_COUNT_ENTER_100) ∧ Pending Evt.DIM_STEP t ∧
      RegsBut [Reg.PWR_STATUS_STEP, Reg.PWR_STATUS_DIM_CAUSE, Reg.PWR_DIM_COUNT_ENTER_200, Reg.PWR_DIM_COUNT_ENTER_100] s t ∧
      SameMemory s t := by
  have bound : dimEntry (dimCause v c) < 4 := by rw [dimEntry_dimCause]; split_ifs <;> decide
  obtain ⟨step, cause, count200, count100, raised, memory, -⟩ := dimStep_effects bound (dimCause_lt v c) s
  have form : dimDown v c s = dimWatch v c (dimStep (dimEntry (dimCause v c)) (dimCause v c) s) := by
    simp only [dimDown, max_eq_right slower.le, slower, if_true]
  have run : exec (.dimStepDown v c) s = .next (dimWatch v c (dimStep (dimEntry (dimCause v c)) (dimCause v c) s)).fin := by
    have e : exec (.dimStepDown v c) s = (dimDown v c s).done := rfl
    rw [e, form, State.done_eq]
  refine ⟨_, run, ?_⟩
  simp only [State.fin_r, State.fin_pwr_exitAt, regsBut_fin, sameMemory_fin]
  refine ⟨step, cause, ?_, count200, count100, pending_fin raised, ?_, memory⟩
  · simp only [dimWatch, State.modPwr_pwr, step, dimExit_dimEntry]
    rfl
  · exact (regsBut_dimStep _ s (by decide) (by decide) (by decide) (.inr (by decide))).of_regs rfl

/-- The exit thresholds of the present step: first met they begin the millisecond, and after it the step is one faster (R404). -/
theorem dimStepUp_completes (s : Machine.State) (v c : Nat)
    (met : (s.r Reg.PWR_STATUS_STEP = 1 ∧ 20300 ≤ v ∧ 776 < c) ∨ (s.r Reg.PWR_STATUS_STEP = 2 ∧ 19700 ≤ v ∧ 760 < c)) :
    (s.pwr.exitAt = none → ∃ t, exec (.dimStepUp v c) s = .next t ∧ t.pwr.exitAt = some s.optime ∧ t.regs = s.regs ∧ SameMemory s t) ∧
    (∀ t0, s.pwr.exitAt = some t0 → 1000 ≤ s.since t0 →
      ∃ t, exec (.dimStepUp v c) s = .next t ∧ t.r Reg.PWR_STATUS_STEP = s.r Reg.PWR_STATUS_STEP - 1 ∧
        t.r Reg.PWR_STATUS_DIM_CAUSE = dimCause v c ∧ Pending Evt.DIM_STEP t ∧
        RegsBut [Reg.PWR_STATUS_STEP, Reg.PWR_STATUS_DIM_CAUSE, Reg.PWR_DIM_COUNT_ENTER_200] s t ∧ SameMemory s t) := by
  have exits : dimExit (s.r Reg.PWR_STATUS_STEP) v c = true := by
    rcases met with ⟨step, hv, hc⟩ | ⟨step, hv, hc⟩ <;> simp [dimExit, step, hv, hc]
  have run : exec (.dimStepUp v c) s = .next (dimUp v c s).fin := rfl
  refine ⟨fun first => ?_, fun t0 began passed => ?_⟩
  · have watch : dimWatch v c s = { s with pwr := { s.pwr with exitAt := some s.optime } } := by
      simp [dimWatch, State.modPwr, exits, first]
    have form : dimUp v c s = { s with pwr := { s.pwr with exitAt := some s.optime } } := by
      simp [dimUp, watch, State.since]
    rw [form] at run
    exact ⟨_, run, by simp, by simp, by simp [SameMemory]⟩
  · have watch : dimWatch v c s = s := by
      simp only [dimWatch, State.modPwr, exits, began, if_true, Option.getD_some]
      rw [← began]
    have form : dimUp v c s = dimWatch v c (dimStep (s.r Reg.PWR_STATUS_STEP - 1) (dimCause v c) s) := by
      simp [dimUp, watch, began, passed]
    obtain ⟨step, cause, -, -, raised, memory, -⟩ :=
      dimStep_effects (step := s.r Reg.PWR_STATUS_STEP - 1) (by omega) (dimCause_lt v c) s
    rw [form] at run
    refine ⟨_, run, ?_⟩
    simp only [State.fin_r, regsBut_fin, sameMemory_fin]
    refine ⟨step, cause, pending_fin raised, ?_, memory⟩
    exact (regsBut_dimStep _ s (by decide) (by decide) (by decide) (.inl (by omega))).of_regs rfl

end Sys2Proof

namespace Sys2Proof

open Sys2Proof.Machine

/-! ### The band of X1 (R399) -/

/-- A sample of X1 in NORMAL between 16.0 V and 19.2 V is the band UV's. -/
theorem vinNext_uv {v : Nat} (low : 160 ≤ v) (high : v < 192) : vinNext 0 v = 1 := by
  have band : vinBand v = 1 := by rw [vinBand, if_neg (by omega), if_pos high]
  simp [vinNext, band]

/-- A measurement of X1 shown, with its minimum, and PWR_FAIL cleared. -/
def vinShown (v : Nat) (s : Machine.State) : Machine.State :=
  ((s.w Reg.PWR_VIN_VIN v).w Reg.PWR_VIN_MIN (min (s.r Reg.PWR_VIN_MIN) v)).w Reg.PWR_STATUS_PWR_FAIL 0

/-- The 20th such sample in a row: measured, PWR_FAIL cleared, the band changed. -/
theorem vinSample_uv {s : Machine.State} {v : Nat} (low : 160 ≤ v) (high : v < 192) (normal : s.r Reg.PWR_STATUS_VIN_BAND = 0)
    (row : s.pwr.vin = (1, 19)) : ∃ rcd pwr, vinSample v s =
      { ((vinShown v s).w Reg.PWR_STATUS_VIN_BAND 1).raise Evt.VIN_BAND [.code 1, .qty v] with rcd := rcd, pwr := pwr } := by
  have range : min v 1023 = v := by omega
  unfold vinSample
  rw [range]
  extract_lets x s1 s2 s3 b run s4
  have measured : ∃ rcd pwr, s3 = { vinShown v s with rcd := rcd, pwr := pwr } ∧ pwr.vin = (1, 19) := by
    have h2 : s2 = { vinShown v s with rcd := s1.rcd, pwr := s.pwr } := by
      simp only [s2, x, low, if_true]
      rfl
    simp only [s3, h2]
    split
    · exact ⟨s1.rcd, s.pwr, rfl, row⟩
    · exact ⟨s1.rcd, { s.pwr with exitAt := none }, rfl, row⟩
  obtain ⟨rcd, pwr, h3, vin⟩ := measured
  have band : s3.r Reg.PWR_STATUS_VIN_BAND = 0 := by
    rw [h3]
    simp (disch := decide) [vinShown, normal]
  have hb : b = 1 := by
    simp only [b, band]
    exact vinNext_uv low high
  have hrun : run = 20 := by
    simp only [run, hb, h3, vin]
    rfl
  have h4 : s4.r Reg.PWR_STATUS_VIN_BAND = 0 := band
  rw [hb, hrun, h4, if_neg (by decide)]
  exact ⟨rcd, s4.pwr, by simp only [s4, h3]; rfl⟩

theorem vinBand_completes (s : Machine.State) (v : Nat) (low : 160 ≤ v) (high : v < 192) (normal : s.r Reg.PWR_STATUS_VIN_BAND = 0)
    (row : s.pwr.vin = (1, 19)) :
    ∃ t, exec (.vinBand v) s = .next t ∧ t.r Reg.PWR_STATUS_VIN_BAND = 1 ∧ t.r Reg.PWR_VIN_VIN = v ∧ Pending Evt.VIN_BAND t ∧
      RegsBut [Reg.PWR_STATUS_VIN_BAND, Reg.PWR_VIN_VIN, Reg.PWR_VIN_MIN, Reg.PWR_STATUS_PWR_FAIL] s t ∧ SameMemory s t := by
  obtain ⟨rcd, pwr, form⟩ := vinSample_uv low high normal row
  have run : exec (.vinBand v) s = .next (vinSample v s).fin := rfl
  have read (g : Field) : (vinSample v s).r g = ((vinShown v s).w Reg.PWR_STATUS_VIN_BAND 1).r g := by rw [form]; rfl
  refine ⟨_, run, ?_⟩
  simp only [State.fin_r, regsBut_fin, sameMemory_fin]
  refine ⟨?_, ?_, pending_fin (by simp [form]), ?_, ?_⟩
  · rw [read, State.r_w_same]
    rfl
  · rw [read]
    simp (disch := decide) only [vinShown, State.r_w_ne, State.r_w_same]
    exact Nat.mod_eq_of_lt (show v < 1024 by omega)
  · refine RegsBut.of_regs ?_ (show (vinSample v s).regs = ((vinShown v s).w Reg.PWR_STATUS_VIN_BAND 1).regs by rw [form]; rfl)
    exact ((((RegsBut.refl _ s).w _ (by decide)).w _ (by decide)).w _ (by decide)).w _ (by decide)
  · rw [form]
    exact ⟨rfl, rfl, rfl, rfl⟩

/-! ### Loss of the input supply (R313, R408) -/

/-- The second state differs from the first in register fields and raised events alone. -/
def RegsAndEvents (s t : Machine.State) : Prop := t = { s with regs := t.regs, raised := t.raised }

theorem RegsAndEvents.trans {s t u : Machine.State} (h : RegsAndEvents s t) (h' : RegsAndEvents t u) : RegsAndEvents s u := by
  unfold RegsAndEvents at *
  rw [h', h]

theorem bitAt_mod {v w i : Nat} (h : i < w) : bitAt (v % 2 ^ w) i = bitAt v i := by
  simp [bitAt_eq_testBit, Nat.testBit_mod_two_pow, h]

/-- A link goes down: it alone, and with its event if it was up (R312). -/
theorem linkDown_effects (s : Machine.State) {p : Nat} (hp : p < 4) :
    (∀ q, q < 4 → (linkDown p s).linkUp q = (s.linkUp q && decide (q ≠ p))) ∧ RegsBut [Reg.NET_STATUS_LINK] s (linkDown p s) ∧
    RegsAndEvents s (linkDown p s) ∧ s.raised ⊆ (linkDown p s).raised ∧
    (s.linkUp p = true → Evt.LINK_DOWN.src ∈ (linkDown p s).raised.map fun x => x.evt.src) := by
  by_cases up : s.linkUp p = true
  · have form : linkDown p s = (s.w Reg.NET_STATUS_LINK (setBit (s.r Reg.NET_STATUS_LINK) p false)).raise Evt.LINK_DOWN
        [.code (p / 2), .code (p % 2 + 1)] := if_neg (by simp [up]; omega)
    rw [form]
    refine ⟨fun q hq => ?_, (RegsBut.w _ (.refl _ s) List.mem_cons_self).of_regs rfl, rfl, by simp, by simp⟩
    have shown : (s.w Reg.NET_STATUS_LINK (setBit (s.r Reg.NET_STATUS_LINK) p false)).linkUp q =
        bitAt (setBit (s.r Reg.NET_STATUS_LINK) p false) q := by
      rw [State.linkUp, State.r_w_same]
      exact bitAt_mod hq
    refine Eq.trans shown ?_
    by_cases e : q = p
    · simp [e]
    · simp [State.linkUp, bitAt_setBit_ne _ _ _ _ e, e]
  · have form : linkDown p s = s := if_pos (by simp [up])
    rw [form]
    refine ⟨fun q _ => ?_, .refl _ s, rfl, List.Subset.refl _, fun h => absurd h up⟩
    by_cases e : q = p
    · simpa [e] using up
    · simp [e]

/-- Links that go down one after the other. -/
theorem linksDown_effects (l : List Nat) (hl : ∀ p ∈ l, p < 4) (s : Machine.State) :
    (∀ q, q < 4 → (l.foldl (fun s p => linkDown p s) s).linkUp q = (s.linkUp q && decide (q ∉ l))) ∧
    RegsBut [Reg.NET_STATUS_LINK] s (l.foldl (fun s p => linkDown p s) s) ∧ RegsAndEvents s (l.foldl (fun s p => linkDown p s) s) ∧
    s.raised ⊆ (l.foldl (fun s p => linkDown p s) s).raised ∧
    ∀ q ∈ l, s.linkUp q = true → Evt.LINK_DOWN.src ∈ (l.foldl (fun s p => linkDown p s) s).raised.map fun x => x.evt.src := by
  induction l generalizing s with
  | nil => exact ⟨fun q _ => by simp, .refl _ s, rfl, List.Subset.refl _, fun q hq => by cases hq⟩
  | cons p l ih =>
    obtain ⟨up, regs, only, events, told⟩ := linkDown_effects s (hl p List.mem_cons_self)
    obtain ⟨up', regs', only', events', told'⟩ := ih (fun q hq => hl q (List.mem_cons_of_mem _ hq)) (linkDown p s)
    rw [List.foldl_cons]
    refine ⟨fun q hq => ?_, fun g hg => (regs' g hg).trans (regs g hg), only.trans only', List.Subset.trans events events', fun q hq was => ?_⟩
    · rw [up' q hq, up q hq]
      simp [Bool.and_assoc]
    · by_cases e : q = p
      · rw [e] at was
        exact List.map_subset _ events' (told was)
      · have later := (List.mem_cons.mp hq).resolve_left e
        exact told' q later (by rw [up q (hl q hq), was]; simp [e])

theorem powerFail_completes (s : Machine.State) :
    ∃ t, exec .powerFail s = .next t ∧ t.r Reg.PWR_STATUS_PWR_FAIL = 1 ∧ t.net.bypass = [true, true] ∧
      (∀ p, p < 4 → t.linkUp p = false ∧ (s.linkUp p = true → Pending Evt.LINK_DOWN t)) ∧
      RegsBut [Reg.PWR_STATUS_PWR_FAIL, Reg.NET_STATUS_LINK] s t ∧ SameMemory s t := by
  have run : exec .powerFail s = .next (powerFail s).fin := rfl
  obtain ⟨up, regs, only, -, told⟩ := linksDown_effects (List.range 4) (fun p hp => List.mem_range.mp hp)
    ((s.wb Reg.PWR_STATUS_PWR_FAIL true).modNet fun x => { x with bypass := [true, true] })
  have form : powerFail s = (List.range 4).foldl (fun s p => linkDown p s)
    ((s.wb Reg.PWR_STATUS_PWR_FAIL true).modNet fun x => { x with bypass := [true, true] }) := rfl
  rw [← form] at up regs only told
  have linkUp (p : Nat) : ((s.wb Reg.PWR_STATUS_PWR_FAIL true).modNet fun x => { x with bypass := [true, true] }).linkUp p = s.linkUp p := by
    simp (disch := decide) [State.linkUp]
  refine ⟨_, run, ?_, ?_, fun p hp => ⟨?_, fun was => ?_⟩, ?_, ?_⟩
  · rw [State.fin_r, regs _ (by decide)]
    simp [b2n, Reg.PWR_STATUS_PWR_FAIL]
  · rw [State.fin_net, only]
    rfl
  · have down := up p hp
    simp only [List.mem_range, hp, not_true_eq_false, decide_false, Bool.and_false] at down
    simpa [State.linkUp] using down
  · exact pending_fin (told p (List.mem_range.mpr hp) (by rw [linkUp, was]))
  · rw [regsBut_fin]
    intro g hg
    simp only [List.map_cons, List.map_nil, List.mem_cons, List.not_mem_nil, or_false, not_or] at hg
    rw [regs g (by simpa using hg.2), State.modNet_r, State.wb_eq]
    exact State.r_w_ne _ _ _ _ hg.1
  · rw [sameMemory_fin, only]
    exact ⟨rfl, rfl, rfl, rfl⟩

/-! ### Rails (R417) -/

/-- A rail shown and reported. -/
theorem railWarn_shown {rail mv : Nat} (f : Field) (s : Machine.State) (hr : rail < 3) (hmv : mv < 4096) (hw : f.width = 12)
    (form : railWarn rail mv s = (s.w f (satN 12 mv)).raise Evt.RAIL_WARN [.code rail, .qty mv]) :
    ∃ t, exec (.railWarn rail mv) s = .next t ∧ t.r f = mv ∧ Pending Evt.RAIL_WARN t ∧ RegsBut [f] s t ∧ SameMemory s t := by
  have run : exec (.railWarn rail mv) s = .next (railWarn rail mv s).fin := by
    have e : exec (.railWarn rail mv) s = (railWarn (rail % 3) mv s).done := rfl
    rw [e, Nat.mod_eq_of_lt hr, State.done_eq]
  refine ⟨_, run, ?_⟩
  rw [form]
  refine ⟨?_, pending_fin (by simp), ?_, ?_⟩
  · rw [State.fin_r, State.raise_r, State.r_w_same, hw, satN_of_lt hmv]
    exact Nat.mod_eq_of_lt hmv
  · rw [regsBut_fin]
    exact (RegsBut.w _ (.refl _ s) List.mem_cons_self).of_regs rfl
  · rw [sameMemory_fin]
    exact ⟨rfl, rfl, rfl, rfl⟩

theorem railWarn_completes (s : Machine.State) (mv : Nat) (hmv : mv < 4096) :
    (mv < 768 → ∃ t, exec (.railWarn 0 mv) s = .next t ∧ t.r Reg.PWR_RAILS_CORE = mv ∧ Pending Evt.RAIL_WARN t ∧
      RegsBut [Reg.PWR_RAILS_CORE] s t ∧ SameMemory s t) ∧
    (768 ≤ mv → ∃ t, exec (.railWarn 0 mv) s = .next t ∧ t.regs = s.regs ∧ SameMemory s t) ∧
    (∃ t, exec (.railWarn 1 mv) s = .next t ∧ t.r Reg.PWR_RAILS_IO = mv ∧ Pending Evt.RAIL_WARN t ∧
      RegsBut [Reg.PWR_RAILS_IO] s t ∧ SameMemory s t) ∧
    ∃ t, exec (.railWarn 2 mv) s = .next t ∧ t.r Reg.PWR_RETENTION = mv ∧ Pending Evt.RAIL_WARN t ∧
      RegsBut [Reg.PWR_RETENTION] s t ∧ SameMemory s t := by
  refine ⟨fun low => ?_, fun good => ?_, ?_, ?_⟩
  · exact railWarn_shown Reg.PWR_RAILS_CORE s (by decide) hmv rfl (if_neg (by omega))
  · have run : exec (.railWarn 0 mv) s = .next (railWarn 0 mv s).fin := rfl
    have none : railWarn 0 mv s = s := if_pos ⟨rfl, good⟩
    rw [none] at run
    exact ⟨_, run, s.fin_regs, (sameMemory_fin s s).mpr ⟨rfl, rfl, rfl, rfl⟩⟩
  · exact railWarn_shown Reg.PWR_RAILS_IO s (by decide) hmv rfl rfl
  · exact railWarn_shown Reg.PWR_RETENTION s (by decide) hmv rfl rfl

/-! ### PLLs (R400, R401) -/

/-- The registers and events of the switch away from PLL0. -/
theorem pllSwitch_effects (reason : Nat) {s : Machine.State} (first : s.r Reg.PWR_STATUS_PLL_IN_SERVICE = 0) :
    (pllSwitch reason s).r Reg.PWR_STATUS_PLL_IN_SERVICE = 1 ∧ (pllSwitch reason s).r Reg.PWR_STATUS_SPARE_OK = 0 ∧
    bitAt ((pllSwitch reason s).r Reg.PWR_CLOCK_FENCED) 0 = true ∧
    Evt.PLL_SWITCH.src ∈ (pllSwitch reason s).raised.map (fun x => x.evt.src) ∧
    Evt.SPARES_LOW.src ∈ (pllSwitch reason s).raised.map (fun x => x.evt.src) ∧
    RegsBut [Reg.PWR_STATUS_PLL_IN_SERVICE, Reg.PWR_STATUS_SPARE_OK, Reg.PWR_CLOCK_FENCED, Reg.IMG_MODULE_STATE_SPARE_IN_USE] s
      (pllSwitch reason s) ∧ SameMemory s (pllSwitch reason s) := by
  have form : pllSwitch reason s = (((((s.w Reg.PWR_CLOCK_FENCED (setBit (s.r Reg.PWR_CLOCK_FENCED) 0 true)).w
      Reg.PWR_STATUS_PLL_IN_SERVICE 1).w Reg.PWR_STATUS_SPARE_OK 0).w Reg.IMG_MODULE_STATE_SPARE_IN_USE 1).raise Evt.PLL_SWITCH
      [.code 0, .code 1, .code reason]).raise Evt.SPARES_LOW [.code 6] := by
    simp only [pllSwitch, first, fencePll]
    rfl
  have fenced : bitAt (setBit (s.r Reg.PWR_CLOCK_FENCED) 0 true % 2 ^ Reg.PWR_CLOCK_FENCED.width) 0 = true := by
    rw [bitAt_mod (by decide), bitAt_setBit_same]
  rw [form]
  refine ⟨?_, ?_, ?_, by simp, by simp, ?_, rfl, rfl, rfl, rfl⟩
  · simp (disch := decide) [Reg.PWR_STATUS_PLL_IN_SERVICE]
  · simp (disch := decide)
  · simp (disch := decide) [fenced]
  · refine RegsBut.of_regs ?_ (t := (((s.w Reg.PWR_CLOCK_FENCED (setBit (s.r Reg.PWR_CLOCK_FENCED) 0 true)).w
      Reg.PWR_STATUS_PLL_IN_SERVICE 1).w Reg.PWR_STATUS_SPARE_OK 0).w Reg.IMG_MODULE_STATE_SPARE_IN_USE 1) rfl
    exact ((((RegsBut.refl _ s).w _ (by decide)).w _ (by decide)).w _ (by decide)).w _ (by decide)

theorem RegsBut.trans {l : List Field} {s t u : Machine.State} (h : RegsBut l s t) (h' : RegsBut l t u) : RegsBut l s u :=
  fun g hg => (h' g hg).trans (h g hg)

theorem RegsBut.mono {l m : List Field} {s t : Machine.State} (h : RegsBut l s t) (sub : l ⊆ m) : RegsBut m s t :=
  fun g hg => h g fun hm => hg (List.map_subset Field.key sub hm)

/-- A check of the timebase first shows the deviation and a lost lock. -/
def pllShown (lost : Bool) (dev : Int) (s : Machine.State) : Machine.State :=
  (s.wi Reg.PWR_CLOCK_TB_DEV (satI 16 dev)).when_ lost fun s => s.wb Reg.PWR_CLOCK_PLL0_LOCK false

theorem regsBut_pllShown (lost : Bool) (dev : Int) (s : Machine.State) :
    RegsBut [Reg.PWR_CLOCK_TB_DEV, Reg.PWR_CLOCK_PLL0_LOCK] s (pllShown lost dev s) := by
  cases lost
  · exact (RegsBut.refl _ s).w _ (by decide)
  · exact ((RegsBut.refl _ s).w _ (by decide)).w _ (by decide)

theorem sameMemory_pllShown (lost : Bool) (dev : Int) (s : Machine.State) : SameMemory s (pllShown lost dev s) := by
  cases lost <;> exact ⟨rfl, rfl, rfl, rfl⟩

/-- With a spare, a lost lock or a deviation of more than 0.2 percent is the switch (R400). -/
theorem pllCheck_switches {lost : Bool} {dev : Int} {s : Machine.State} (spare : s.r Reg.PWR_STATUS_SPARE_OK = 1)
    (first : s.r Reg.PWR_STATUS_PLL_IN_SERVICE = 0) (fails : lost = true ∨ 2000 < dev ∨ dev < -2000) :
    pllCheck lost dev s = pllSwitch (if lost then 0 else 1) (pllShown lost dev s) := by
  have shown : ((s.wi Reg.PWR_CLOCK_TB_DEV (satI 16 dev)).when_ lost fun t =>
      t.wb (pllLock ((s.wi Reg.PWR_CLOCK_TB_DEV (satI 16 dev)).r Reg.PWR_STATUS_PLL_IN_SERVICE)) false) = pllShown lost dev s := by
    have inService : (s.wi Reg.PWR_CLOCK_TB_DEV (satI 16 dev)).r Reg.PWR_STATUS_PLL_IN_SERVICE = 0 :=
      (State.r_w_ne _ _ _ _ (by decide)).trans first
    rw [inService]
    rfl
  have spare' : (pllShown lost dev s).rb Reg.PWR_STATUS_SPARE_OK = true := by
    rw [State.rb_eq, regsBut_pllShown lost dev s _ (by decide), spare]
    rfl
  have fails' : (lost || decide (2000 < mag dev)) = true := by
    rcases fails with h | h
    · simp [h]
    · have : 2000 < mag dev := by unfold mag; omega
      simp [this]
  have form : pllCheck lost dev s = if (lost || decide (2000 < mag dev)) && (pllShown lost dev s).rb Reg.PWR_STATUS_SPARE_OK then
      pllSwitch (if lost then 0 else 1) (pllShown lost dev s) else pllShown lost dev s := by
    rw [← shown]
    rfl
  rw [form, fails', spare']
  rfl

theorem pllSwitch_completes (s : Machine.State) (lost : Bool) (dev : Int) (spare : s.r Reg.PWR_STATUS_SPARE_OK = 1)
    (first : s.r Reg.PWR_STATUS_PLL_IN_SERVICE = 0) (fails : lost = true ∨ 2000 < dev ∨ dev < -2000) :
    ∃ t, exec (.pllSwitch lost dev) s = .next t ∧ t.r Reg.PWR_STATUS_PLL_IN_SERVICE = 1 ∧ t.r Reg.PWR_STATUS_SPARE_OK = 0 ∧
      bitAt (t.r Reg.PWR_CLOCK_FENCED) 0 = true ∧ Pending Evt.PLL_SWITCH t ∧ Pending Evt.SPARES_LOW t ∧
      RegsBut [Reg.PWR_STATUS_PLL_IN_SERVICE, Reg.PWR_STATUS_SPARE_OK, Reg.PWR_CLOCK_FENCED, Reg.PWR_CLOCK_TB_DEV,
        Reg.PWR_CLOCK_PLL0_LOCK, Reg.IMG_MODULE_STATE_SPARE_IN_USE] s t ∧ SameMemory s t := by
  have run : exec (.pllSwitch lost dev) s = .next (pllCheck lost dev s).fin := rfl
  have shown := regsBut_pllShown lost dev s
  obtain ⟨inService, noSpare, fenced, switch, low, regs, keep, deep, near, table⟩ :=
    pllSwitch_effects (if lost then 0 else 1) ((shown _ (by decide)).trans first)
  obtain ⟨keep', deep', near', table'⟩ := sameMemory_pllShown lost dev s
  refine ⟨_, run, ?_⟩
  rw [pllCheck_switches spare first fails]
  simp only [State.fin_r, regsBut_fin, sameMemory_fin]
  exact ⟨inService, noSpare, fenced, pending_fin switch, pending_fin low, (shown.mono (by decide)).trans (regs.mono (by decide)),
    keep.trans keep', deep.trans deep', near.trans near', table.trans table'⟩

/-- The jitter margins with both verdicts good, with a bad spare, and with a bad PLL in service (R401). -/
theorem pllMargins_good {s : Machine.State} (m0 m1 : Nat) (first : s.r Reg.PWR_STATUS_PLL_IN_SERVICE = 0)
    (spare : s.r Reg.PWR_STATUS_SPARE_OK = 1) :
    pllMargins [m0, m1] [true, true] true s = s.w Reg.PWR_CLOCK_MARGIN (satN 8 m0) := by
  simp (disch := decide) [pllMargins, first, spare, State.rb_eq, nth]

theorem pllMargins_spareFails {s : Machine.State} (m0 m1 : Nat) (first : s.r Reg.PWR_STATUS_PLL_IN_SERVICE = 0)
    (spare : s.r Reg.PWR_STATUS_SPARE_OK = 1) : ∃ b, pllMargins [m0, m1] [true, false] true s =
      ((fencePll 1 ((s.w Reg.PWR_CLOCK_MARGIN (satN 8 m0)).wb Reg.PWR_CLOCK_PLL1_LOCK b)).wb Reg.PWR_STATUS_SPARE_OK false).raise
        Evt.PLL_SPARE_FAIL [.code 1] :=
  ⟨_, by simp (disch := decide) [pllMargins, first, spare, State.rb_eq, nth, pllLock]; rfl⟩

theorem pllMargins_switches {s : Machine.State} (m0 m1 : Nat) (first : s.r Reg.PWR_STATUS_PLL_IN_SERVICE = 0)
    (spare : s.r Reg.PWR_STATUS_SPARE_OK = 1) : pllMargins [m0, m1] [false, true] true s =
      (pllSwitch 2 (s.w Reg.PWR_CLOCK_MARGIN (satN 8 m0))).w Reg.PWR_CLOCK_MARGIN (satN 8 m1) := by
  simp (disch := decide) [pllMargins, first, spare, State.rb_eq, nth]

theorem pllMarginCheck_completes (s : Machine.State) (m0 m1 : Nat) (spare : s.r Reg.PWR_STATUS_SPARE_OK = 1)
    (first : s.r Reg.PWR_STATUS_PLL_IN_SERVICE = 0) :
    (∃ t, exec (.pllMarginCheck [m0, m1] [true, true] true) s = .next t ∧ t.r Reg.PWR_CLOCK_MARGIN = satN 8 m0 ∧
      RegsBut [Reg.PWR_CLOCK_MARGIN] s t ∧ SameMemory s t) ∧
    (∃ t, exec (.pllMarginCheck [m0, m1] [true, false] true) s = .next t ∧ t.r Reg.PWR_STATUS_SPARE_OK = 0 ∧
      bitAt (t.r Reg.PWR_CLOCK_FENCED) 1 = true ∧ t.r Reg.PWR_STATUS_PLL_IN_SERVICE = 0 ∧ Pending Evt.PLL_SPARE_FAIL t ∧
      SameMemory s t) ∧
    ∃ t, exec (.pllMarginCheck [m0, m1] [false, true] true) s = .next t ∧ t.r Reg.PWR_STATUS_PLL_IN_SERVICE = 1 ∧
      t.r Reg.PWR_CLOCK_MARGIN = satN 8 m1 ∧ Pending Evt.PLL_SWITCH t ∧ SameMemory s t := by
  have run (passes : List Bool) : exec (.pllMarginCheck [m0, m1] passes true) s = .next (pllMargins [m0, m1] passes true s).fin := rfl
  have margin (m : Nat) (t : Machine.State) : (t.w Reg.PWR_CLOCK_MARGIN (satN 8 m)).r Reg.PWR_CLOCK_MARGIN = satN 8 m := by
    rw [State.r_w_same]
    exact Nat.mod_eq_of_lt (satN_lt 8 m)
  refine ⟨⟨_, run _, ?_⟩, ⟨_, run _, ?_⟩, ⟨_, run _, ?_⟩⟩
  · rw [pllMargins_good m0 m1 first spare, State.fin_r, regsBut_fin, sameMemory_fin]
    exact ⟨margin m0 s, .w _ (.refl _ s) List.mem_cons_self, rfl, rfl, rfl, rfl⟩
  · obtain ⟨b, form⟩ := pllMargins_spareFails m0 m1 first spare
    simp only [form, State.fin_r, sameMemory_fin]
    refine ⟨?_, ?_, ?_, pending_fin (by simp), rfl, rfl, rfl, rfl⟩
    · simp (disch := decide) [b2n]
    · have fenced (v : Nat) : bitAt (setBit v 1 true % 2 ^ Reg.PWR_CLOCK_FENCED.width) 1 = true := by
        rw [bitAt_mod (by decide), bitAt_setBit_same]
      simp (disch := decide) [fencePll, fenced]
    · simp (disch := decide) [fencePll, first]
  · obtain ⟨inService, -, -, switch, -, -, keep, deep, near, table⟩ :=
      pllSwitch_effects 2 (s := s.w Reg.PWR_CLOCK_MARGIN (satN 8 m0)) ((State.r_w_ne _ _ _ _ (by decide)).trans first)
    rw [pllMargins_switches m0 m1 first spare, State.fin_r, State.fin_r, sameMemory_fin]
    refine ⟨(State.r_w_ne _ _ _ _ (by decide)).trans inService, margin m1 _, pending_fin switch, keep, deep, near, table⟩

/-! ### Temperature (R416) -/

/-- A reading of 16 bits is shown as it is. -/
theorem toI_ofI_reading {v : Int} (low : 0 < v) (high : v < 2 ^ 15) : toI 16 (ofI 16 v % 2 ^ 16) = v := by
  have shown : ofI 16 v = v.toNat := by
    unfold ofI
    rw [Int.emod_eq_of_lt (by omega) (by omega)]
  rw [shown]
  unfold toI
  split <;> omega

/-- A signed field held at the largest value shown. -/
def maxHeld (f : Machine.Field) (v : Int) (s : Machine.State) : Machine.State := if s.ri f < v then s.wi f v else s

theorem maxHeld_with_rcd (f : Machine.Field) (v : Int) (s : Machine.State) (rcd : RecState) :
    maxHeld f v { s with rcd := rcd } = { maxHeld f v s with rcd := rcd } := by
  have same : ({ s with rcd := rcd } : Machine.State).ri f = s.ri f := rfl
  unfold maxHeld
  rw [same]
  split <;> rfl

theorem maxHeld_pwr (f : Machine.Field) (v : Int) (s : Machine.State) : (maxHeld f v s).pwr = s.pwr := by
  unfold maxHeld
  split <;> rfl

/-- The recorder's extreme of a reading is entered in the recorder's state alone. -/
theorem recTemp_eq_with_rcd (e : Nat) (v : Int) (s : Machine.State) : ∃ rcd, recTemp e v s = { s with rcd := rcd } := ⟨_, rfl⟩

/-- A reading of sensor 0 as the registers show it: TEMP, and MAX where it is a new maximum. -/
def tempShown (v : Int) (s : Machine.State) : Machine.State :=
  maxHeld (Reg.PWR_TEMP_MAX 0) v (s.wi (Reg.PWR_TEMP_TEMP 0) v)

theorem regsBut_tempShown (v : Int) (s : Machine.State) : RegsBut [Reg.PWR_TEMP_TEMP 0, Reg.PWR_TEMP_MAX 0] s (tempShown v s) := by
  have temp : RegsBut [Reg.PWR_TEMP_TEMP 0, Reg.PWR_TEMP_MAX 0] s (s.wi (Reg.PWR_TEMP_TEMP 0) v) := (RegsBut.refl _ s).w _ (by decide)
  unfold tempShown maxHeld
  split
  · exact temp.w _ (by decide)
  · exact temp

theorem ri_tempShown {v : Int} (low : 0 < v) (high : v < 2 ^ 15) (s : Machine.State) :
    (tempShown v s).ri (Reg.PWR_TEMP_TEMP 0) = v := by
  have shown : (s.wi (Reg.PWR_TEMP_TEMP 0) v).ri (Reg.PWR_TEMP_TEMP 0) = v := by
    rw [State.ri, State.wi_eq, State.r_w_same]
    exact toI_ofI_reading low high
  unfold tempShown maxHeld
  split
  · rw [State.ri, State.wi_eq, State.r_w_ne _ _ _ _ (by decide)]
    exact shown
  · exact shown

theorem sameMemory_tempShown (v : Int) (s : Machine.State) : SameMemory s (tempShown v s) := by
  unfold tempShown maxHeld
  split <;> exact ⟨rfl, rfl, rfl, rfl⟩

/-- The end of a sensor's reading: whether it is hot, and the warning once per excursion. -/
def tempWarned (v : Int) (i : Nat) (s : Machine.State) : Machine.State :=
  let lim : Int := 10 * (s.r (tempLimit i) : Nat)
  let hot := nth s.pwr.hot i false
  let s := s.modPwr fun p => { p with hot := setAt p.hot i (if hot then decide (lim - 50 < v) else decide (lim < v)) false }
  s.when_ (!hot && decide (lim < v)) fun s => s.raise Evt.TEMP_WARN [.code i, .signed v]

theorem tempRead_eq (s : Machine.State) (v : Int) (i : Nat) : tempRead s (v, i) =
    tempWarned (satI 16 v) i (maxHeld (Reg.PWR_TEMP_MAX i) (satI 16 v) (recTemp i (satI 16 v) (s.wi (Reg.PWR_TEMP_TEMP i) (satI 16 v)))) := rfl

theorem tempWarned_hot {s : Machine.State} {v : Int} (rcd : RecState) (hot : (10 * s.r Reg.PWR_TEMP_LIM_LIM0 : Int) < v)
    (cool : nth s.pwr.hot 0 false = false) : tempWarned v 0 { s with rcd := rcd } =
      { s.raise Evt.TEMP_WARN [.code 0, .signed v] with
        rcd := rcd, pwr := { s.pwr with hot := setAt s.pwr.hot 0 true false } } := by
  have limit : ({ s with rcd := rcd } : Machine.State).r (tempLimit 0) = s.r Reg.PWR_TEMP_LIM_LIM0 := rfl
  have above : decide ((10 * s.r Reg.PWR_TEMP_LIM_LIM0 : Int) < v) = true := decide_eq_true hot
  unfold tempWarned
  simp only [limit, cool, above]
  rfl

/-- A reading above the limit of sensor 0, not hot before: shown, entered in the recorder and warned of. -/
theorem tempRead_hot {s : Machine.State} {v : Int} (high : v < 2 ^ 15) (hot : (10 * s.r Reg.PWR_TEMP_LIM_LIM0 : Int) < v)
    (cool : nth s.pwr.hot 0 false = false) : ∃ rcd, tempRead s (v, 0) =
      { (tempShown v s).raise Evt.TEMP_WARN [.code 0, .signed v] with
        rcd := rcd, pwr := { (tempShown v s).pwr with hot := setAt (tempShown v s).pwr.hot 0 true false } } := by
  have exact16 : satI 16 v = v := by
    unfold satI clampI
    rw [if_neg (by norm_num; omega), if_neg (by norm_num; omega)]
  have limit : (tempShown v s).r Reg.PWR_TEMP_LIM_LIM0 = s.r Reg.PWR_TEMP_LIM_LIM0 := regsBut_tempShown v s _ (by decide)
  have pwr : (tempShown v s).pwr = s.pwr := (maxHeld_pwr ..).trans rfl
  obtain ⟨rcd, entered⟩ := recTemp_eq_with_rcd 0 v (s.wi (Reg.PWR_TEMP_TEMP 0) v)
  have shown : maxHeld (Reg.PWR_TEMP_MAX 0) v (recTemp 0 v (s.wi (Reg.PWR_TEMP_TEMP 0) v)) = { tempShown v s with rcd := rcd } := by
    rw [entered]
    exact maxHeld_with_rcd ..
  refine ⟨rcd, ?_⟩
  rw [tempRead_eq, exact16, shown]
  exact tempWarned_hot rcd (by rw [limit]; exact hot) (by rw [pwr]; exact cool)

theorem temperatureRead_completes (s : Machine.State) (v : Int) (high : v < 2 ^ 15)
    (hot : (10 * s.r Reg.PWR_TEMP_LIM_LIM0 : Int) < v) (cool : nth s.pwr.hot 0 false = false) :
    ∃ t, exec (.temperatureRead [v]) s = .next t ∧ t.ri (Reg.PWR_TEMP_TEMP 0) = v ∧ nth t.pwr.hot 0 false = true ∧
      Pending Evt.TEMP_WARN t ∧ RegsBut [Reg.PWR_TEMP_TEMP 0, Reg.PWR_TEMP_MAX 0] s t ∧ SameMemory s t := by
  have run : exec (.temperatureRead [v]) s = .next (tempRead s (v, 0)).fin := rfl
  obtain ⟨rcd, form⟩ := tempRead_hot high hot cool
  refine ⟨_, run, ?_⟩
  simp only [State.fin_ri, State.fin_pwr_hot, regsBut_fin, sameMemory_fin]
  rw [form]
  exact ⟨ri_tempShown (by omega) high s, nth_setAt_same .., pending_fin (by simp), (regsBut_tempShown v s).of_regs rfl,
    sameMemory_tempShown v s⟩

/-! ### The operating-time counter (R4) -/

theorem optimeWrap_completes (s : Machine.State) (last : s.optime + 1 = 0) :
    ∃ t, exec .optimeWrap s = .next t ∧ t.optime = 0 ∧ t.pcc = (s.pcc + 1) % 2 ^ 32 ∧ t.regs = s.regs ∧ SameMemory s t := by
  have run : exec .optimeWrap s = .next (optimeWrap s).fin := rfl
  have wraps : optimeWrap s = { s with optime := 0, pcc := (s.pcc + 1) % 2 ^ 32 } := by
    rw [optimeWrap, if_pos last, optimeStep, last]
    rfl
  rw [wraps] at run
  exact ⟨_, run, by simp, by simp, by simp, by simp [SameMemory]⟩

/-- Settles O45, command by command: X1's band, Dim down and up, loss of supply, rails, PLLs, temperature, operating time. -/
theorem supplyClocksAndTemperatureComplete : Obligations.SupplyClocksAndTemperatureComplete := by
  unfold Obligations.SupplyClocksAndTemperatureComplete
  exact ⟨⟨vinBand_completes, dimStepDown_completes, dimStepUp_completes, powerFail_completes, railWarn_completes⟩,
    pllSwitch_completes, pllMarginCheck_completes, fun s v high hot cool _ => temperatureRead_completes s v high hot cool,
    optimeWrap_completes⟩

end Sys2Proof

/-! PROOFS. Every step keeps the canonical form of the stores and the queue (R25, R46, R368, R390): one lemma per operation of the model,
that a state which is tidy against a state fixed before is still so after the operation. -/

namespace Sys2Proof.Machine

/-- A property of every member of a group holds after one member has changed. -/
theorem forall_modAt {α : Type} {P : α → Prop} {l : List α} {i : Nat} {f : α → α} {d : α} (all : ∀ x ∈ l, P x) (default : P d)
    (step : ∀ x, P x → P (f x)) : ∀ x ∈ modAt l i f d, P x := by
  induction i generalizing l with
  | zero => cases l <;> simp_all [modAt]
  | succ i ih =>
    cases l with
    | nil => simpa [modAt, default] using ih (l := []) (by simp)
    | cons y l => simpa [modAt, all y List.mem_cons_self] using ih (l := l) fun x hx => all x (List.mem_cons_of_mem _ hx)

/-- The stores of s are in canonical form if those of a are, and the same commands wait. -/
structure Tidy (a s : State) : Prop where
  canonical : Canonical a → Canonical s
  queue : s.pending = a.pending

section
variable {a s t : State}

theorem tidy_refl (s : State) : Tidy s s := ⟨id, rfl⟩

theorem tidy_trans {u : State} (h : Tidy s t) (h' : Tidy t u) : Tidy s u := ⟨fun c => h'.1 (h.1 c), h'.2.trans h.2⟩

theorem tidy_w {f : Field} {v : Nat} (h : Tidy a s) : Tidy a (s.w f v) := ⟨fun c => (h.1 c).w f v, h.2⟩

theorem tidy_when {b : Bool} {f : State → State} (h : Tidy a s) (hf : ∀ {s}, Tidy a s → Tidy a (f s)) : Tidy a (s.when_ b f) := by
  cases b
  · exact h
  · exact hf h

theorem tidy_ite {c : Prop} {_ : Decidable c} (ht : Tidy a s) (he : Tidy a t) : Tidy a (if c then s else t) := by
  split <;> assumption

/-- The same for the first of two results. -/
theorem tidy_ite_fst {α : Type} {c : Prop} {_ : Decidable c} {x y : State × α} (ht : Tidy a x.1) (he : Tidy a y.1) :
    Tidy a (if c then x else y).1 := by
  split <;> assumption

theorem tidy_fst {α : Type} {x : α} (h : Tidy a s) : Tidy a (s, x).1 := h

theorem tidy_foldl {α : Type} {f : State → α → State} (hf : ∀ {s x}, Tidy a s → Tidy a (f s x)) {l : List α} (h : Tidy a s) :
    Tidy a (l.foldl f s) := by
  induction l generalizing s with
  | nil => exact h
  | cons x l ih => exact ih (hf h)

/-- A run over a list whose steps carry something beside the state. -/
theorem tidy_foldl_fst {α β : Type} {f : State × β → α → State × β} (hf : ∀ {x y}, Tidy a x.1 → Tidy a (f x y).1) {l : List α}
    {x : State × β} (h : Tidy a x.1) : Tidy a (l.foldl f x).1 := by
  induction l generalizing x with
  | nil => exact h
  | cons y l ih => exact ih (hf h)

theorem tidy_awake {f : State → State} (h : Tidy a s) (hf : ∀ {s}, Tidy a s → Tidy a (f s)) : Tidy a (s.awake f) :=
  tidy_ite h (hf h)
theorem tidy_graphDoes {f : State → State} (h : Tidy a s) (hf : ∀ {s}, Tidy a s → Tidy a (f s)) : Tidy a (s.graphDoes f) :=
  tidy_ite (tidy_awake h hf) h
theorem tidy_served {f : State → State} (h : Tidy a s) (hf : ∀ {s}, Tidy a s → Tidy a (f s)) : Tidy a (s.served f) :=
  tidy_ite h (hf h)
theorem tidy_servedOn {p : Path} {f : State → State} (h : Tidy a s) (hf : ∀ {s}, Tidy a s → Tidy a (f s)) : Tidy a (s.servedOn p f) := by
  cases p
  · exact hf h
  · exact tidy_served h hf

theorem tidy_fin (h : Tidy a s) : Tidy a s.fin := ⟨fun c => (h.1 c).fin, s.fin_pending.trans h.2⟩

/-- The command's answer, if it is a next state, is tidy. -/
def TidyRes (a : State) (r : Res) : Prop := ∀ t, r = .next t → Tidy a t

theorem tidyRes_done (h : Tidy a s) : TidyRes a s.done := by
  rintro t ⟨⟩
  exact tidy_fin h

theorem tidyRes_ite {c : Prop} {_ : Decidable c} {x y : Res} (ht : TidyRes a x) (he : TidyRes a y) : TidyRes a (if c then x else y) := by
  split <;> assumption

/-- The keep store written. -/
theorem tidy_keep {o : Nat} {bs : List Byte} (h : Tidy a s) : Tidy a { s with keep := memWrite s.keep o bs } :=
  ⟨fun c => by
    obtain ⟨regs, keep, rest⟩ := h.canonical c
    exact ⟨regs, memWrite_wf bs o keep, rest⟩, h.queue⟩

/-- A slot of the deep store written. -/
theorem tidy_deep {n o : Nat} {bs : List Byte} (h : Tidy a s) :
    Tidy a { s with deep := modAt s.deep n (fun m => memWrite m o bs) [] } :=
  ⟨fun c => by
    obtain ⟨regs, keep, near, table, deep⟩ := h.canonical c
    exact ⟨regs, keep, near, table, forall_modAt deep rfl fun m wf => memWrite_wf bs o wf⟩, h.queue⟩

/-- The near store written. -/
theorem tidy_near {o : Nat} {bs : List Byte} (h : Tidy a s) : Tidy a { s with near := memWrite s.near o bs } :=
  ⟨fun c => by
    obtain ⟨regs, keep, near, rest⟩ := h.canonical c
    exact ⟨regs, keep, memWrite_wf bs o near, rest⟩, h.queue⟩

/-- The table store written. -/
theorem tidy_table {o : Nat} {bs : List Byte} (h : Tidy a s) : Tidy a { s with table := memWrite s.table o bs } :=
  ⟨fun c => by
    obtain ⟨regs, keep, near, table, deep⟩ := h.canonical c
    exact ⟨regs, keep, near, memWrite_wf bs o table, deep⟩, h.queue⟩

/-- A region of the table store replaced. -/
theorem tidy_region {p : Nat × Byte → Bool} {o : Nat} {bs : List Byte} {mem : MemState} (h : Tidy a s) :
    Tidy a { s with table := memWrite (s.table.filter p) o bs, mem := mem } :=
  ⟨fun c => by
    obtain ⟨regs, keep, near, table, deep⟩ := h.canonical c
    exact ⟨regs, keep, near, memWrite_wf bs o (filter_wf p table), deep⟩, h.queue⟩

section
variable {optime : Time} {pcc free : Nat} {raised : List Raised} {ev : EvState} {log : LogState} {wall : WallState}
  {host : HostPort} {pathHost pathMgmt : PathState} {img : ImgState} {dsp : DspState} {pos : PosState} {ret : RetState}
  {trip : TripState} {loop : LoopState} {saf : SafState} {fio : FioState} {net : NetState} {mir : MirState} {rcd : RecState}
  {mem : MemState} {pwr : PwrState} {sec : SecState}

/-- A state with the queue and the stores of s. -/
theorem tidy_mk (h : Tidy a s) : Tidy a (State.mk s.pending s.regs optime pcc free raised ev log wall host pathHost pathMgmt
    s.keep s.deep s.near s.table img dsp pos ret trip loop saf fio net mir rcd mem pwr sec) := ⟨h.1, h.2⟩

end
end

/-! ### The operations of the blocks -/

section
variable {a s : State}

/-! #### The named operations -/

theorem tidy_wi {f : Field} {i : Int} (h : Tidy a s) : Tidy a (s.wi f i) :=
  tidy_w h

theorem tidy_wb {f : Field} {b : Bool} (h : Tidy a s) : Tidy a (s.wb f b) :=
  tidy_w h

theorem tidy_inc {f : Field} (h : Tidy a s) : Tidy a (s.inc f) :=
  tidy_w h

theorem tidy_peak {f : Field} {v : Nat} (h : Tidy a s) : Tidy a (s.peak f v) :=
  tidy_w h

theorem tidy_incWrap {f : Field} (h : Tidy a s) : Tidy a (s.incWrap f) :=
  tidy_w h

theorem tidy_took (h : Tidy a s) : Tidy a (s.took) :=
  tidy_mk h

theorem tidy_wake {cause : Nat} (h : Tidy a s) : Tidy a (s.wake cause) :=
  tidy_ite (tidy_mk h) h

theorem tidy_raise {e : Evt} {args : List Arg} (h : Tidy a s) : Tidy a (s.raise e args) :=
  tidy_mk h

theorem tidy_post {port key : Nat} (h : Tidy a s) : Tidy a (s.post port key) := by
  unfold State.post
  extract_lets woken
  have hw : Tidy a woken := tidy_ite (tidy_wake h) (tidy_ite (tidy_wake h) h)
  split
  · exact hw
  · split
    · exact tidy_mk hw
    · exact tidy_ite (tidy_inc hw) (tidy_ite hw (tidy_mk hw))

theorem tidy_spareUsed (h : Tidy a s) : Tidy a (s.spareUsed) :=
  tidy_wb h

/-! #### The recorder -/

theorem tidy_modRec {item inst : Nat} {f : RecSlot → RecSlot} (h : Tidy a s) : Tidy a (s.modRec item inst f) :=
  tidy_mk h

theorem tidy_recFePeak {n peak : Nat} (h : Tidy a s) : Tidy a (recFePeak n peak s) :=
  tidy_modRec h

theorem tidy_recSupply {e v : Nat} (h : Tidy a s) : Tidy a (recSupply e v s) :=
  tidy_modRec h

theorem tidy_recCounter {item e n : Nat} (h : Tidy a s) : Tidy a (recCounter item e n s) :=
  tidy_modRec h

theorem tidy_recTrip {origin dest : Nat} (h : Tidy a s) : Tidy a (recTrip origin dest s) :=
  tidy_ite h (tidy_modRec h)

theorem tidy_recCommitSlot {bad : Option Nat} {slot : Nat} (h : Tidy a s) : Tidy a (recCommitSlot bad s slot) := by
  unfold recCommitSlot
  refine tidy_ite (tidy_raise (tidy_keep h)) ?_
  split
  · exact h
  · exact tidy_keep h

theorem tidy_recCommit {bad : Option Nat} (h : Tidy a s) : Tidy a (recCommit bad s) :=
  tidy_w (tidy_mk (tidy_foldl tidy_recCommitSlot h))

theorem tidy_recDiscard {slot copy : Nat} (h : Tidy a s) : Tidy a (recDiscard slot s copy) :=
  tidy_ite h (tidy_raise (tidy_inc h))

/-- One slot of the recorder at a start, beside the records found so far. -/
theorem tidy_recStartSlot {held : List RecSlot} {acc : State × List RecSlot × Nat} {x : Option RecSlot × Nat}
    (h : Tidy a acc.1) :
    Tidy a (recStartSlot held acc x).1 := by
  unfold recStartSlot
  extract_lets slot t
  have h : Tidy a t := tidy_foldl tidy_recDiscard h
  clear_value t
  cases t.recNewer slot with
  | none => exact tidy_raise h
  | some c =>
    cases x.1 with
    | none => exact h
    | some n => exact tidy_ite_fst h (tidy_raise h)

theorem tidy_recStartWith {want : List (Option RecSlot)} (h : Tidy a s) : Tidy a (recStartWith want s) := by
  unfold recStartWith
  extract_lets begun r n t rcd found
  have hr : Tidy a r.1 := tidy_foldl_fst tidy_recStartSlot (tidy_w h)
  have hf : Tidy a found := tidy_w (tidy_mk hr)
  exact tidy_recCounter (tidy_recCounter hf)

/-! #### The loupe's schedule -/

theorem tidy_loupeLate {t : Nat} (h : Tidy a s) : Tidy a (loupeLate s t) :=
  tidy_ite (tidy_raise (tidy_inc (tidy_w h))) h

theorem tidy_loupeRan {t : Nat} (h : Tidy a s) : Tidy a (loupeRan t s) :=
  tidy_post (tidy_w (tidy_mk (tidy_loupeLate h)))

/-! #### The byte strings of the images -/

theorem tidy_targetWrite {target o : Nat} {bs : List Byte} (h : Tidy a s) : Tidy a (targetWrite s target o bs) :=
  tidy_ite (tidy_keep h) (tidy_deep h)

theorem tidy_loadReg {entries : List (Nat × Nat)} {addr : Nat} (h : Tidy a s) : Tidy a (loadReg entries s addr) :=
  tidy_foldl tidy_w h

theorem tidy_modLane {l : Nat} {f : Lane → Lane} (h : Tidy a s) : Tidy a (s.modLane l f) :=
  tidy_mk h

/-! #### Image writes and staging (file 02) -/

theorem tidy_foreignWrite (h : Tidy a s) : Tidy a (foreignWrite s) :=
  tidy_inc (tidy_w h)

theorem tidy_endSession {err mark : Nat} (h : Tidy a s) : Tidy a (endSession s err mark) :=
  tidy_w (tidy_w (tidy_w h))

theorem tidy_abortSession (h : Tidy a s) : Tidy a (abortSession s) :=
  tidy_w (tidy_w h)

theorem tidy_imgWriteBegin {p : Path} {target : Nat} (h : Tidy a s) : Tidy a (imgWriteBegin p target s) := by
  unfold imgWriteBegin
  exact tidy_ite (tidy_foreignWrite h) (by split; exacts [tidy_mk (tidy_w
                                             (tidy_w (tidy_w (tidy_w (tidy_w (tidy_w (tidy_w h))))))), tidy_w h])

theorem tidy_acceptWord {word : Nat} (h : Tidy a s) : Tidy a (acceptWord word s) :=
  have h := tidy_w (tidy_targetWrite h)
  tidy_ite (tidy_endSession (tidy_mk h)) (tidy_mk h)

theorem tidy_imgWriteData {p : Path} {word : Nat} (h : Tidy a s) : Tidy a (imgWriteData p word s) :=
  tidy_ite (tidy_foreignWrite h) (tidy_ite h (tidy_ite (tidy_endSession h) (tidy_acceptWord h)))

theorem tidy_imgWriteFinish {p : Path} (h : Tidy a s) : Tidy a (imgWriteFinish p s) :=
  tidy_ite (tidy_foreignWrite h) (tidy_ite h (tidy_ite (tidy_endSession h) (tidy_w (tidy_mk h))))

theorem tidy_imgWriteAbort {p : Path} (h : Tidy a s) : Tidy a (imgWriteAbort p s) :=
  tidy_ite (tidy_foreignWrite h) (tidy_ite (tidy_abortSession h) h)

theorem tidy_imgActivate {bank confirm : Nat} (h : Tidy a s) : Tidy a (imgActivate bank confirm s) :=
  tidy_ite h (tidy_ite (tidy_raise (tidy_w (tidy_mk h))) (tidy_raise h))

theorem tidy_dropSlot {slot : Nat} (h : Tidy a s) : Tidy a (s.dropSlot slot) :=
  tidy_mk h

theorem tidy_imgStage {slot : Nat} (h : Tidy a s) : Tidy a (imgStage slot s) :=
  tidy_ite (tidy_w h) (tidy_ite (tidy_w h) (tidy_dropSlot (tidy_w (tidy_w (tidy_w (tidy_w h))))))

theorem tidy_copyPart {deepSlot tsSlot n : Nat} (h : Tidy a s) : Tidy a (copyPart s deepSlot tsSlot n) :=
  tidy_region h

theorem tidy_copySlot {deepSlot tsSlot : Nat} (h : Tidy a s) : Tidy a (copySlot s deepSlot tsSlot) :=
  tidy_copyPart h

theorem tidy_copyCut {deepSlot tsSlot : Nat} (h : Tidy a s) : Tidy a (copyCut s deepSlot tsSlot) :=
  tidy_w (tidy_copyPart (tidy_took h))

theorem tidy_fillSlot {deepSlot tsSlot : Nat} (h : Tidy a s) : Tidy a (fillSlot s deepSlot tsSlot) :=
  tidy_mk h

theorem tidy_imgStageAbort (h : Tidy a s) : Tidy a (imgStageAbort s) :=
  tidy_ite h (tidy_dropSlot (tidy_w (tidy_ite (tidy_copyCut h) h)))

theorem tidy_atlasStagingEnd {uncorr : Bool} (h : Tidy a s) : Tidy a (atlasStagingEnd uncorr s) := by
  grind [atlasStagingEnd, tidy_raise, tidy_w, tidy_copyCut, tidy_copySlot, tidy_fillSlot]

theorem tidy_atlasReady (h : Tidy a s) : Tidy a (atlasReady s) :=
  tidy_post (tidy_raise (tidy_w (tidy_w h)))

theorem tidy_swapSlots (h : Tidy a s) : Tidy a (swapSlots s) :=
  tidy_post (tidy_dropSlot (tidy_w (tidy_w h)))

theorem tidy_swapWhenFree (h : Tidy a s) : Tidy a (swapWhenFree s) :=
  tidy_ite (tidy_mk h) (tidy_atlasReady (tidy_swapSlots (tidy_mk h)))

theorem tidy_loadEnded (h : Tidy a s) : Tidy a (s.loadEnded) :=
  tidy_when h tidy_swapWhenFree

theorem tidy_setPath {p : Path} {x : PathState} (h : Tidy a s) : Tidy a (s.setPath p x) := by
  unfold State.setPath
  split <;> exact tidy_mk h

theorem tidy_latch {p : Path} {words : SMap Nat} (h : Tidy a s) : Tidy a (s.latch p words) :=
  tidy_setPath h

theorem tidy_answerRead {p : Path} {v : Nat} (h : Tidy a s) : Tidy a (s.answerRead p v) :=
  tidy_setPath h

theorem tidy_imgDigestRead {p : Path} (h : Tidy a s) : Tidy a (imgDigestRead p s) :=
  tidy_answerRead (tidy_latch h)

/-! #### The dispatcher and the facets (file 03) -/

theorem tidy_modFacet {p : Nat} {f : Facet → Facet} (h : Tidy a s) : Tidy a (s.modFacet p f) :=
  tidy_mk h

theorem tidy_fence {p : Nat} (h : Tidy a s) : Tidy a (s.fence p) :=
  tidy_ite h (tidy_modFacet (tidy_inc (tidy_w h)))

theorem tidy_countSpares (h : Tidy a s) : Tidy a (s.countSpares) :=
  tidy_w h

theorem tidy_loupePort {c : Nat} (h : Tidy a s) : Tidy a (s.loupePort c) := by
  unfold State.loupePort
  split <;> exact tidy_mk h

theorem tidy_dataWrites {p : Nat} {writes : List (Nat × Byte)} (h : Tidy a s) : Tidy a (s.dataWrites p writes) :=
  tidy_when h (fun h => tidy_when (tidy_modFacet h) tidy_modFacet)

theorem tidy_itemCycles {p cycles : Nat} (h : Tidy a s) : Tidy a (s.itemCycles p cycles) :=
  tidy_peak (tidy_w h)

theorem tidy_completeItem {p mask cycles : Nat} (h : Tidy a s) : Tidy a (completeItem p mask cycles s) := by
  unfold completeItem
  exact tidy_ite h (by split; exacts [tidy_itemCycles (tidy_modFacet h), tidy_ite (tidy_itemCycles (tidy_modFacet h)) h, h])

theorem tidy_takeCompletion {x : Nat × Completion} (h : Tidy a s) : Tidy a (takeCompletion s x) :=
  tidy_peak (tidy_peak (tidy_w (tidy_incWrap (tidy_mk (tidy_modFacet h)))))

theorem tidy_completionCollect (h : Tidy a s) : Tidy a (completionCollect s) :=
  tidy_ite h (tidy_foldl tidy_modFacet (tidy_foldl tidy_takeCompletion (tidy_peak h)))

theorem tidy_applyHit {acc : State × List Nat} {x : Hit} (h : Tidy a acc.1) : Tidy a (applyHit acc x).1 := by
  unfold applyHit
  exact tidy_ite_fst (tidy_inc h) (tidy_ite_fst (tidy_mk h) (tidy_mk h))

theorem tidy_counterApply (h : Tidy a s) : Tidy a (counterApply s) :=
  tidy_ite h (tidy_mk (tidy_foldl_fst tidy_applyHit h))

theorem tidy_readyPeaks (h : Tidy a s) : Tidy a (s.readyPeaks) :=
  tidy_foldl tidy_peak h

theorem tidy_readyListEntry (h : Tidy a s) : Tidy a (readyListEntry s) := by
  grind [readyListEntry, tidy_readyPeaks, tidy_wb, tidy_raise, tidy_inc, tidy_mk]

theorem tidy_place {d : Desc} {x : Nat × Nat × Bool} (h : Tidy a s) : Tidy a (s.place d x) :=
  tidy_mk (tidy_modFacet h)

theorem tidy_scanDesc {acc : State × Nat × List Desc} {d : Desc} (h : Tidy a acc.1) : Tidy a (scanDesc acc d).1 := by
  unfold scanDesc
  refine tidy_ite_fst h (tidy_ite_fst (tidy_loupePort h) (tidy_ite_fst h ?_))
  split
  · exact h
  · exact tidy_place h

theorem tidy_scanLevel {acc : State × Nat} {level : Nat} (h : Tidy a acc.1) : Tidy a (scanLevel acc level).1 :=
  tidy_mk (tidy_foldl_fst tidy_scanDesc h)

theorem tidy_descriptorPlacement (h : Tidy a s) : Tidy a (descriptorPlacement s) :=
  tidy_ite (tidy_foldl_fst tidy_scanLevel h) h

theorem tidy_delayFull {list : Nat} (h : Tidy a s) : Tidy a (delayFull list s) :=
  tidy_when (tidy_raise (tidy_inc h)) tidy_post

theorem tidy_posInsert {down : Bool} {node level arg tag : Nat} {thresh : Int} (h : Tidy a s) : Tidy a
    (posInsert down node level arg tag thresh s).1 :=
  tidy_ite_fst (tidy_fst (tidy_delayFull h)) (tidy_fst (tidy_peak (tidy_mk h)))

theorem tidy_timeInsert {node level arg tag delay : Nat} (h : Tidy a s) : Tidy a (timeInsert node level arg tag delay s).1 :=
  tidy_ite_fst (tidy_fst (tidy_delayFull h)) (tidy_fst (tidy_peak (tidy_mk h)))

theorem tidy_answerItem {k : Nat} {f : Facet → Facet} (h : Tidy a s) : Tidy a (s.answerItem k f) := by
  unfold State.answerItem
  split
  · exact h
  · exact tidy_modFacet h

theorem tidy_delayInsert {new : List DelayInsert} (h : Tidy a s) : Tidy a (delayInsert new s) :=
  tidy_foldl (fun h => tidy_answerItem (tidy_ite_fst (tidy_posInsert h) (tidy_timeInsert h))) (tidy_mk h)

theorem tidy_delayCancel {position : Bool} {tag : Nat} (h : Tidy a s) : Tidy a (delayCancel position tag s) :=
  tidy_ite (tidy_mk h) (tidy_mk h)

theorem tidy_posListExpiry {pos speed : Int} (h : Tidy a s) : Tidy a (posListExpiry pos speed s) :=
  tidy_mk h

theorem tidy_portDelivery {port : Nat} (h : Tidy a s) : Tidy a (portDelivery port s) := by
  unfold portDelivery
  exact tidy_ite h (by split; exacts [h, tidy_mk h])

theorem tidy_dspDoorbell {c : Nat} (h : Tidy a s) : Tidy a (dspDoorbell c s) := by
  unfold dspDoorbell
  exact tidy_ite (by split; exacts [tidy_mk h, tidy_inc h]) h

theorem tidy_tripCmdPush {word : Nat} (h : Tidy a s) : Tidy a (tripCmdPush word s).1 := by
  unfold tripCmdPush
  split
  · exact tidy_fst (tidy_mk h)
  · exact tidy_fst (tidy_inc h)

theorem tidy_clear {l : List Field} (h : Tidy a s) : Tidy a (s.clear l) :=
  tidy_foldl tidy_w h

theorem tidy_dspPeakClear {value : Nat} (h : Tidy a s) : Tidy a (dspPeakClear value s) :=
  tidy_ite h (tidy_foldl (fun h => tidy_w (tidy_clear h)) (tidy_clear h))

theorem tidy_relayRequest {k reason : Nat} (h : Tidy a s) : Tidy a (relayRequest k reason s) :=
  tidy_ite h (tidy_mk h)

theorem tidy_relayBegin {k reason target : Nat} (h : Tidy a s) : Tidy a (relayBegin k reason target s) :=
  tidy_countSpares (tidy_wb (tidy_w (tidy_w (tidy_w (tidy_w (tidy_w (tidy_modFacet h)))))))

theorem tidy_relayFail {k reason : Nat} (h : Tidy a s) : Tidy a (relayFail k reason s) :=
  tidy_raise (tidy_countSpares (tidy_wb (tidy_w (tidy_w (tidy_w h)))))

theorem tidy_facetLost {k : Nat} (h : Tidy a s) : Tidy a (facetLost k s) := by
  unfold facetLost
  exact tidy_raise (tidy_wb (tidy_mk (by split; exacts [tidy_fence h, h])))

/-- A relay's target may be a facet in service, which then loses its place in the map. -/
theorem tidy_relayTarget {k t : Nat} {u : State} (h : Tidy a s) (target : relayTarget k s = some (t, u)) : Tidy a u := by
  unfold relayTarget at target
  split at target
  · obtain ⟨-, rfl⟩ : _ ∧ s = u := by simpa using target
    exact h
  · obtain ⟨j, -, target⟩ := Option.bind_eq_some_iff.mp target
    obtain ⟨p, -, target⟩ := Option.map_eq_some_iff.mp target
    cases target
    exact tidy_mk h

theorem tidy_faultBegin {k : Nat} (h : Tidy a s) : Tidy a (faultBegin k s) := by
  unfold faultBegin
  split
  · next target => exact tidy_relayBegin (tidy_relayTarget h target)
  · exact tidy_facetLost (tidy_raise (tidy_relayFail h))

theorem tidy_stopFacet {p : Nat} (h : Tidy a s) : Tidy a (stopFacet p s) := by
  unfold stopFacet
  exact tidy_modFacet (by split; exacts [h, tidy_mk h])

theorem tidy_faultRelay {k p : Nat} (h : Tidy a s) : Tidy a (faultRelay k p s) :=
  tidy_ite (tidy_ite (tidy_w (tidy_w (tidy_stopFacet h))) (tidy_relayRequest (tidy_stopFacet h)))
      (tidy_faultBegin (tidy_mk (tidy_stopFacet h)))

theorem tidy_overrunItem {p : Nat} (h : Tidy a s) : Tidy a (overrunItem p s) := by
  dsimp only [overrunItem]
  split
  · exact tidy_relayRequest (tidy_raise (tidy_inc (tidy_itemCycles (tidy_modFacet h))))
  · exact h

theorem tidy_complete {p mask cycles : Nat} {writes : List (Nat × Byte)} (h : Tidy a s) : Tidy a
    (complete p mask cycles writes s) :=
  tidy_ite (tidy_overrunItem (tidy_dataWrites h)) (tidy_completeItem (tidy_dataWrites h))

theorem tidy_dspRelayCtrl {logical confirm : Nat} (h : Tidy a s) : Tidy a (dspRelayCtrl logical confirm s) :=
  tidy_ite (tidy_relayRequest h) h

theorem tidy_relayStart (h : Tidy a s) : Tidy a (relayStart s) := by
  unfold relayStart
  refine tidy_ite h ?_
  split
  · exact h
  · refine tidy_ite (tidy_faultBegin (tidy_mk h)) ?_
    split
    · next target => exact tidy_raise (tidy_relayBegin (tidy_relayTarget (tidy_mk h) target))
    · exact tidy_raise (tidy_relayFail (tidy_raise (tidy_mk h)))

theorem tidy_relayCodeLoaded (h : Tidy a s) : Tidy a (relayCodeLoaded s) := by
  unfold relayCodeLoaded
  exact tidy_ite (by split; exacts [tidy_w (tidy_modFacet h)]) h

theorem tidy_relayCopyDone (h : Tidy a s) : Tidy a (relayCopyDone s) := by
  unfold relayCopyDone
  exact tidy_ite (by split; exacts [tidy_w (tidy_modFacet h)]) h

theorem tidy_relayEnd (h : Tidy a s) : Tidy a (relayEnd s) := by
  unfold relayEnd
  split
  exact tidy_when (tidy_spareUsed (tidy_raise (tidy_when (tidy_countSpares
      (tidy_inc (tidy_wb (tidy_w (tidy_fence (tidy_mk h)))))) tidy_inc))) tidy_raise

theorem tidy_relaySwitch (h : Tidy a s) : Tidy a (relaySwitch s) := by
  unfold relaySwitch
  split
  exact tidy_ite (tidy_relayEnd h) h

theorem tidy_facetStall {p : Nat} (h : Tidy a s) : Tidy a (facetStall p s) := by
  unfold facetStall
  exact tidy_ite (by split; exacts [tidy_faultRelay h, h]) h

theorem tidy_facetMemoryUncorr {p : Nat} (h : Tidy a s) : Tidy a (facetMemoryUncorr p s) := by
  dsimp only [facetMemoryUncorr]
  split
  · exact tidy_faultRelay (tidy_inc h)
  · exact (tidy_inc h)

theorem tidy_faultRelayLoadDone (h : Tidy a s) : Tidy a (faultRelayLoadDone s) := by
  unfold faultRelayLoadDone
  exact tidy_ite (by split; exacts [tidy_relayEnd (tidy_loupePort (tidy_modFacet h))]) h

theorem tidy_selfTest {p : Nat} {tests : List Bool} (h : Tidy a s) : Tidy a (s.selfTest p tests) :=
  tidy_modFacet h

theorem tidy_facetCheck {margins eccs : List Nat} {tests : List Bool} {p : Nat} (h : Tidy a s) :
    Tidy a (facetCheck margins eccs tests s p) := by
  unfold facetCheck
  refine tidy_ite h ?_
  extract_lets m shown least c counted
  have hs : Tidy a shown := tidy_w h
  have hc : Tidy a counted := tidy_w (tidy_ite (tidy_w hs) hs)
  split
  · exact tidy_ite (tidy_selfTest hc) hc
  · exact tidy_when (tidy_when (tidy_ite (tidy_selfTest hc) hc) tidy_relayRequest) tidy_relayRequest

theorem tidy_facetMarginCheck {margins eccs : List Nat} {tests : List Bool} (h : Tidy a s) : Tidy a
    (facetMarginCheck margins eccs tests s) :=
  tidy_foldl tidy_facetCheck (tidy_ite (tidy_mk (tidy_clear (tidy_loupeRan h))) (tidy_loupeRan h))

/-! #### The position front ends (file 04) -/

theorem tidy_setBitOf {f : Field} {i : Nat} {b : Bool} (h : Tidy a s) : Tidy a (s.setBitOf f i b) :=
  tidy_w h

theorem tidy_raisePos {e : Evt} {args : List Arg} (h : Tidy a s) : Tidy a (s.raisePos e args) :=
  tidy_post (tidy_raise h)

theorem tidy_cause {i : Nat} {b : Bool} (h : Tidy a s) : Tidy a (s.cause i b) :=
  tidy_setBitOf h

theorem tidy_modSc {c : Nat} {f : ScChan → ScChan} (h : Tidy a s) : Tidy a (s.modSc c f) :=
  tidy_mk h

theorem tidy_modQd {q : Nat} {f : QdChan → QdChan} (h : Tidy a s) : Tidy a (s.modQd q f) :=
  tidy_mk h

theorem tidy_modEmu {i : Nat} {f : EmuState → EmuState} (h : Tidy a s) : Tidy a (s.modEmu i f) :=
  tidy_mk h

theorem tidy_emuFeed {i : Nat} {delta : Int} (h : Tidy a s) : Tidy a (emuFeed i delta s) :=
  have h := tidy_ite (tidy_raisePos (tidy_peak (tidy_modEmu h))) (tidy_peak (tidy_modEmu h))
  tidy_ite (tidy_raisePos (tidy_wb h)) h

theorem tidy_emuCopyZ {source : Nat} (h : Tidy a s) : Tidy a (emuCopyZ source s) :=
  tidy_foldl (fun h => tidy_ite (tidy_modEmu h) h) h

theorem tidy_calApply {c : Nat} (h : Tidy a s) : Tidy a (calApply c s) := by
  unfold calApply
  split
  · exact h
  · exact tidy_when (tidy_when (tidy_when (tidy_wi (tidy_wi (tidy_wi (tidy_wi h)))) tidy_raisePos) tidy_raisePos) tidy_raisePos

theorem tidy_ampJudge {c r2 : Nat} (h : Tidy a s) : Tidy a (ampJudge c r2 s) :=
  tidy_modSc (tidy_ite (tidy_raisePos (tidy_wb (tidy_modSc h))) (tidy_ite (tidy_wb (tidy_modSc h)) (tidy_modSc h)))

theorem tidy_lineRate {c : Nat} {x : ScSample} (h : Tidy a s) : Tidy a (lineRate c x s) :=
  tidy_when h (fun h => tidy_raisePos (tidy_wb h))

theorem tidy_fitRevolution {c : Nat} {x : ScSample} (h : Tidy a s) : Tidy a (fitRevolution c x s) :=
  tidy_ite (tidy_modSc h) h

theorem tidy_illegalSample {c kind : Nat} (h : Tidy a s) : Tidy a (illegalSample c kind s) :=
  tidy_raisePos (tidy_w (tidy_wb (tidy_modSc h)))

theorem tidy_legalSample {c : Nat} {cand : Int} (h : Tidy a s) : Tidy a (legalSample c cand s) :=
  tidy_ite (tidy_modSc h) (tidy_foldl (fun h => tidy_ite (tidy_emuFeed h) h) (tidy_modSc (tidy_modSc h)))

theorem tidy_markEdges {c : Nat} {before : Int} {illegal : Bool} {x : ScSample} (h : Tidy a s) : Tidy a
    (markEdges c before illegal x s) :=
  tidy_ite (tidy_modSc h) (tidy_emuCopyZ (tidy_modSc h))

theorem tidy_markCauses (h : Tidy a s) : Tidy a (markCauses s) :=
  tidy_cause (tidy_cause h)

theorem tidy_missingMark {c : Nat} (h : Tidy a s) : Tidy a (missingMark c s) :=
  tidy_ite (tidy_markCauses (tidy_modSc (tidy_raisePos (tidy_inc (tidy_modSc h))))) h

theorem tidy_scDeliver {c : Nat} {x : ScSample} (h : Tidy a s) : Tidy a (scDeliver s c x) := by
  unfold scDeliver
  refine tidy_ite h ?_
  extract_lets before r fitted t th r2 old shown judged kind counted marked applied
  clear_value kind
  have hj : Tidy a judged := tidy_ampJudge (tidy_modSc (tidy_w (tidy_fitRevolution (tidy_lineRate (tidy_modSc h)))))
  have hc : Tidy a counted := by
    unfold counted
    split
    · exact tidy_illegalSample hj
    · exact tidy_legalSample hj
  have hm : Tidy a marked := tidy_markEdges hc
  exact tidy_missingMark (tidy_ite (tidy_calApply hm) hm)

theorem tidy_sincosLost {ch : Nat} (h : Tidy a s) : Tidy a (sincosLost ch s) :=
  tidy_ite (tidy_ite (tidy_ite (tidy_raisePos (tidy_wb (tidy_wb h))) (tidy_raisePos (tidy_wb h))) h)
      (tidy_ite (tidy_raisePos (tidy_wb (tidy_modQd h))) h)

theorem tidy_onMark {ch : Nat} {c : Int} (h : Tidy a s) : Tidy a (onMark ch c s) :=
  tidy_markCauses (tidy_modSc (tidy_ite (tidy_modSc (tidy_w (tidy_wb (tidy_w h))))
      (tidy_ite (have h := tidy_modSc (tidy_w (tidy_modRec (tidy_wi h))); tidy_ite (tidy_modSc h) h)
      (tidy_inc (tidy_modSc (tidy_raisePos (tidy_wi h)))))))

theorem tidy_indexLost {ch : Nat} (h : Tidy a s) : Tidy a (indexLost ch s) :=
  tidy_ite (tidy_ite (tidy_raisePos (tidy_wb (tidy_modSc h))) (tidy_raisePos (tidy_modSc h))) h

theorem tidy_adcCalSwap {ch track : Nat} {diffs : List Int} (h : Tidy a s) : Tidy a (adcCalSwap ch track diffs s) :=
  tidy_ite h (have h := tidy_loupeRan (tidy_mk h); tidy_ite (tidy_modSc h) (tidy_raisePos h))

theorem tidy_quadEdge {q : Nat} {a' b z : Bool} (h : Tidy a s) : Tidy a (quadEdge q a' b z s) :=
  tidy_ite h (tidy_ite (tidy_raisePos (tidy_inc (tidy_wb (tidy_foldl (fun h => tidy_ite (tidy_emuFeed h) h)
      (tidy_modQd (tidy_emuCopyZ (tidy_w h))))))) (tidy_ite (tidy_emuCopyZ (tidy_w h))
      (tidy_foldl (fun h => tidy_ite (tidy_emuFeed h) h) (tidy_wi (tidy_modQd (tidy_emuCopyZ (tidy_w h)))))))

theorem tidy_doorReference {q : Nat} (h : Tidy a s) : Tidy a (doorReference q s) :=
  tidy_ite h (tidy_ite (tidy_modQd h) (tidy_raisePos (tidy_wb (tidy_modQd h))))

theorem tidy_modSsi {c : Nat} {f : SsiChan → SsiChan} (h : Tidy a s) : Tidy a (s.modSsi c f) :=
  tidy_mk h

theorem tidy_ssiReject {c reason : Nat} (h : Tidy a s) : Tidy a (ssiReject c reason s) :=
  tidy_raisePos (tidy_modSsi (tidy_inc (tidy_inc (tidy_w h))))

theorem tidy_slipJudge {p : Int} {t : Time} (h : Tidy a s) : Tidy a (slipJudge p t s) := by
  unfold slipJudge
  split
  · exact h
  · exact tidy_ite (tidy_mk (tidy_wi h)) (tidy_ite (tidy_raisePos (tidy_cause (tidy_mk (tidy_wi h))))
        (tidy_ite (tidy_cause (tidy_mk (tidy_wi h))) (tidy_mk (tidy_wi h))))

theorem tidy_ssiFrame {c : Nat} {bits : List Bool} {idleLow : Bool} {t : Time} (h : Tidy a s) : Tidy a
    (ssiFrame c bits idleLow t s) := by
  dsimp only [ssiFrame]
  split
  · exact tidy_ite (tidy_ssiReject (tidy_w h)) (have h := tidy_modSsi (tidy_w (tidy_wi (tidy_w h))); tidy_ite
                                                  (tidy_slipJudge (tidy_ite (tidy_mk (tidy_wi h))
                                                  (tidy_ite (tidy_mk (tidy_mk (tidy_wi h)))
                                                  (tidy_mk (tidy_mk (tidy_mk (tidy_wi h))))))) h)
  · exact tidy_ssiReject (tidy_w h)

theorem tidy_ssiEnd {bits : List Bool} {idleLow : Bool} (h : Tidy a s) : Tidy a (ssiEnd bits idleLow s) := by
  unfold ssiEnd
  split
  · exact h
  · exact tidy_ssiFrame (tidy_modSsi h)

theorem tidy_slipLatch (h : Tidy a s) : Tidy a (slipLatch s) := by
  unfold slipLatch
  split
  · exact h
  · exact tidy_ite (tidy_raisePos (tidy_wb h)) h

theorem tidy_refReject {entry reason : Nat} (h : Tidy a s) : Tidy a (refReject entry reason s) :=
  have h := tidy_raisePos (tidy_w (tidy_w (tidy_mk h)))
  tidy_ite (tidy_cause h) h

theorem tidy_rereference {at_ : Time} {i : Nat} {x : RefPoint} {e : Int} (h : Tidy a s) : Tidy a (rereference at_ i x e s) := by
  unfold rereference
  extract_lets pm cleared channel _ known _ held
  have hc : Tidy a channel := by
    unfold channel
    split
    · exact tidy_modSc (tidy_clear (tidy_clear h))
    · exact tidy_modQd (tidy_clear h)
  have hk : Tidy a known := tidy_mk hc
  exact tidy_raisePos (tidy_markCauses (tidy_ite (tidy_mk hk) (tidy_ite (tidy_mk hk) (tidy_mk hk))))

theorem tidy_referencePoint {input : Nat} {rising : Bool} (h : Tidy a s) : Tidy a (referencePoint input rising s) := by
  dsimp only [referencePoint]
  split
  · exact h
  · split
    · split <;> exact tidy_refReject (tidy_mk h)
    · exact tidy_ite (tidy_refReject (tidy_wi (tidy_mk h)))
        (have h := tidy_cause (tidy_cause (tidy_mk (tidy_w (tidy_w (tidy_wi (tidy_mk h)))))); tidy_ite (tidy_rereference h)
           (tidy_mk h))

theorem tidy_setHalf {source : Nat} {v : Int} (h : Tidy a s) : Tidy a (s.setHalf source v) :=
  tidy_ite (tidy_mk h) (tidy_mk h)

theorem tidy_changeSource {old new : Nat} {pm : Int} {t : Time} (h : Tidy a s) : Tidy a (changeSource old new pm t s) :=
  tidy_ite h (tidy_ite (tidy_mk (tidy_ite (tidy_setHalf h) h)) (tidy_mk (tidy_setHalf h)))

theorem tidy_sampleCauses (h : Tidy a s) : Tidy a (sampleCauses s) := by
  unfold sampleCauses
  exact tidy_cause (by split; exacts [tidy_cause (tidy_cause h), tidy_cause (tidy_modQd h)])

theorem tidy_showSample {x : CarSample} (h : Tidy a s) : Tidy a (showSample x s) :=
  tidy_wb (tidy_wb (tidy_w (tidy_w (tidy_w (tidy_wi (tidy_wi (tidy_wi h)))))))

theorem tidy_positionModel {t : Time} {pm : Int} (h : Tidy a s) : Tidy a (positionModel t pm s) :=
  have h := tidy_changeSource (tidy_mk h)
  have h := tidy_showSample (tidy_mk (tidy_sampleCauses (tidy_ite h (tidy_mk (tidy_setHalf h)))))
  tidy_ite h (tidy_raisePos h)

/-! #### The reticle (file 05) -/

theorem tidy_modSet {k : Nat} {f : MarkSet → MarkSet} (h : Tidy a s) : Tidy a (s.modSet k f) :=
  tidy_mk h

theorem tidy_lateFound {k i : Nat} {m : Mark} (h : Tidy a s) : Tidy a (lateFound k i m s) :=
  tidy_ite (tidy_raise (tidy_inc h)) (tidy_inc h)

theorem tidy_putSlot {k i : Nat} {t : Slot} (h : Tidy a s) : Tidy a (s.putSlot k i t) :=
  tidy_modSet h

theorem tidy_armSlot {k i : Nat} (h : Tidy a s) : Tidy a (armSlot k i s) := by
  dsimp only [armSlot]
  exact tidy_ite h
      (by split; exacts [tidy_putSlot h, by split; exacts [have h := tidy_inc (tidy_putSlot h); tidy_ite (tidy_raise h) h,
                                              tidy_putSlot h]])

theorem tidy_disarmSlot {k i : Nat} (h : Tidy a s) : Tidy a (disarmSlot k i s) :=
  tidy_putSlot h

theorem tidy_reticleLoad {k addr : Nat} (h : Tidy a s) : Tidy a (reticleLoad k addr s) :=
  tidy_modSet h

theorem tidy_freeMarks {k : Nat} (h : Tidy a s) : Tidy a (s.freeMarks k) :=
  tidy_modSet h

theorem tidy_swapSet {k : Nat} (h : Tidy a s) : Tidy a (swapSet k s) :=
  tidy_ite (tidy_foldl (fun h => tidy_ite (tidy_armSlot h) h) (tidy_modSet h)) (tidy_raise h)

theorem tidy_emptySet {k : Nat} (h : Tidy a s) : Tidy a (emptySet k s) :=
  tidy_loadEnded (tidy_modSet h)

theorem tidy_swapCommand {k : Nat} (h : Tidy a s) : Tidy a (swapCommand k s) :=
  tidy_ite h (tidy_swapSet h)

theorem tidy_beginProgram {k region retProg : Nat} (h : Tidy a s) : Tidy a (beginProgram k region retProg s) :=
  tidy_ite (tidy_emptySet (tidy_freeMarks h)) (tidy_when (tidy_freeMarks h) tidy_swapSet)

theorem tidy_reactSet {k : Nat} (h : Tidy a s) : Tidy a (reactSet k s) :=
  tidy_loadEnded (tidy_modSet h)

theorem tidy_reactLoad {k region retProg : Nat} (h : Tidy a s) : Tidy a (reactLoad k region retProg s) :=
  tidy_ite h (tidy_reticleLoad h)

theorem tidy_ownMarks {k : Nat} (h : Tidy a s) : Tidy a (s.ownMarks k) :=
  tidy_modSet h

theorem tidy_beginStaged {k region retProg : Nat} (h : Tidy a s) : Tidy a (beginStaged k region retProg s) :=
  tidy_ite (tidy_ownMarks (tidy_emptySet h)) (tidy_ite (tidy_ownMarks (tidy_swapSet h)) (tidy_modSet h))

theorem tidy_reticleLoadDone {k : Nat} {uncorr : Bool} (h : Tidy a s) : Tidy a (reticleLoadDone k uncorr s) :=
  tidy_ite h (have h := tidy_ite (tidy_raise (tidy_modSet h)) (tidy_modSet h); tidy_ite
                (tidy_ownMarks (tidy_swapSet (tidy_loadEnded h))) (tidy_loadEnded h))

theorem tidy_queuePost {f : Fire} (h : Tidy a s) : Tidy a (queuePost s f) :=
  have h := tidy_ite (tidy_wake h) h
  tidy_ite h (tidy_ite (tidy_peak (tidy_mk h)) (tidy_raise (tidy_inc h)))

theorem tidy_postDelivery (h : Tidy a s) : Tidy a (postDelivery s) := by
  unfold postDelivery
  split
  · exact h
  · split
    · exact tidy_mk h
    · exact h

theorem tidy_retCapPosRead {p : Path} (h : Tidy a s) : Tidy a (retCapPosRead p s) :=
  tidy_mk (tidy_answerRead (tidy_latch h))

theorem tidy_retStatClear {value : Nat} (h : Tidy a s) : Tidy a (retStatClear value s) :=
  tidy_ite h (tidy_clear h)

/-! #### The actuator interfaces -/

theorem tidy_modMir {f : MirState → MirState} (h : Tidy a s) : Tidy a (s.modMir f) :=
  tidy_mk h

theorem tidy_sendLink {m : LinkMsg} (h : Tidy a s) : Tidy a (s.sendLink m) :=
  tidy_ite (tidy_modMir h) (tidy_raise (tidy_modMir h))

theorem tidy_journal {x : JournalRec} (h : Tidy a s) : Tidy a (s.journal x) :=
  tidy_ite (tidy_sendLink h) h

theorem tidy_modSaf {f : SafState → SafState} (h : Tidy a s) : Tidy a (s.modSaf f) :=
  tidy_mk h

theorem tidy_request {f : Nat} {on : Bool} (h : Tidy a s) : Tidy a (s.request f on) :=
  tidy_ite (tidy_modSaf h) h

theorem tidy_modFio {f : FioState → FioState} (h : Tidy a s) : Tidy a (s.modFio f) :=
  tidy_mk h

theorem tidy_modDo {i : Nat} {f : DoState → DoState} (h : Tidy a s) : Tidy a (s.modDo i f) :=
  tidy_modFio h

theorem tidy_doRestart {i : Nat} (h : Tidy a s) : Tidy a (s.doRestart i) :=
  tidy_modDo h

theorem tidy_doChanged {i : Nat} (h : Tidy a s) : Tidy a (s.doChanged i) :=
  tidy_ite h (tidy_doRestart h)

theorem tidy_doRefresh (h : Tidy a s) : Tidy a (doRefresh s) :=
  tidy_foldl tidy_doChanged h

theorem tidy_doCommand {n : Nat} {level : Bool} (h : Tidy a s) : Tidy a (s.doCommand n level) :=
  tidy_ite h (tidy_doChanged (tidy_modFio h))

theorem tidy_completeWith {p mask cycles : Nat} {writes : List (Nat × Byte)} {outs : List (Nat × Bool)} (h : Tidy a s) : Tidy a
    (completeWith p mask cycles writes outs s) :=
  tidy_ite (tidy_foldl tidy_doCommand (tidy_complete h)) (tidy_complete h)

theorem tidy_dropLine (h : Tidy a s) : Tidy a (dropLine s) :=
  tidy_doRefresh (tidy_wb (tidy_w (tidy_w (tidy_wb (tidy_modMir h)))))

theorem tidy_releaseHolds (h : Tidy a s) : Tidy a (s.releaseHolds) :=
  tidy_mk (tidy_freeMarks h)

theorem tidy_holdLoop (h : Tidy a s) : Tidy a (s.holdLoop) :=
  tidy_mk h

theorem tidy_requestDrive {on : Bool} (h : Tidy a s) : Tidy a (s.requestDrive on) :=
  tidy_request (tidy_request (tidy_request h))

theorem tidy_modEng {n : Nat} {f : Engine → Engine} (h : Tidy a s) : Tidy a (s.modEng n f) :=
  tidy_mk h

theorem tidy_modeNext {n m : Nat} (h : Tidy a s) : Tidy a (s.modeNext n m) :=
  tidy_modEng h

/-! #### The profile evaluator (file 06) -/

theorem tidy_modChan {k : Nat} {f : Channel → Channel} (h : Tidy a s) : Tidy a (s.modChan k f) :=
  tidy_mk h

theorem tidy_modTrip {f : TripState → TripState} (h : Tidy a s) : Tidy a (s.modTrip f) :=
  tidy_mk h

theorem tidy_mapStops {f : StopEntry → StopEntry} (h : Tidy a s) : Tidy a (s.mapStops f) :=
  tidy_modTrip h

theorem tidy_requeue (h : Tidy a s) : Tidy a (s.requeue) :=
  tidy_w (tidy_modTrip (tidy_mapStops h))

theorem tidy_abandonStart (h : Tidy a s) : Tidy a (abandonStart s) :=
  tidy_w (tidy_requestDrive (tidy_modTrip (tidy_requeue h)))

theorem tidy_markStop {n state : Nat} (h : Tidy a s) : Tidy a (s.markStop n state) :=
  tidy_mapStops h

theorem tidy_goOos {cause : Nat} (h : Tidy a s) : Tidy a (goOos cause s) :=
  tidy_raise (tidy_w (tidy_setBitOf (tidy_ite h (tidy_when (tidy_when (tidy_modTrip (tidy_requeue h)) tidy_requestDrive)
      tidy_w))))

theorem tidy_ctrlStopGo {cause : Nat} (h : Tidy a s) : Tidy a (ctrlStopGo cause s) :=
  tidy_ite (tidy_ite (tidy_when (tidy_setBitOf h) tidy_goOos) (tidy_ite (tidy_setBitOf h)
      (tidy_reactLoad (tidy_wb (tidy_wb (tidy_reactSet (tidy_modTrip (tidy_modChan (tidy_setBitOf h)))))))))
      (tidy_ite (tidy_abandonStart (tidy_reactSet (tidy_setBitOf h))) (tidy_setBitOf h))

theorem tidy_ctrlStop {cause : Nat} (h : Tidy a s) : Tidy a (ctrlStop cause s) :=
  tidy_ite (tidy_ctrlStopGo (tidy_journal h)) h

theorem tidy_oosAfterTrip {cause : Nat} (h : Tidy a s) : Tidy a (oosAfterTrip cause s) :=
  tidy_ite (tidy_ite h (tidy_modTrip h)) (tidy_goOos h)

theorem tidy_tripLimit {kind : Nat} (h : Tidy a s) : Tidy a (tripLimit kind s) :=
  tidy_ite h (tidy_oosAfterTrip (tidy_ctrlStop (tidy_raise (tidy_wb h))))

/-! #### Door operators and the deck (file 07) -/

theorem tidy_modDoor {d : Nat} {f : DoorOp → DoorOp} (h : Tidy a s) : Tidy a (s.modDoor d f) :=
  tidy_mk h

theorem tidy_modDeck {f : DeckState → DeckState} (h : Tidy a s) : Tidy a (s.modDeck f) :=
  tidy_mk h

theorem tidy_continuityEvent {k i : Nat} (h : Tidy a s) : Tidy a (continuityEvent k i s) :=
  tidy_raise (tidy_when h tidy_wb)

theorem tidy_cycleCheck (h : Tidy a s) : Tidy a (cycleCheck s) :=
  tidy_ite (tidy_raise (tidy_mk h)) (tidy_mk h)

theorem tidy_doorsArrive {stop : Nat} {levelled : Bool} (h : Tidy a s) : Tidy a (doorsArrive stop levelled s) :=
  tidy_cycleCheck (tidy_mk h)

theorem tidy_doorHold {d : Nat} (h : Tidy a s) : Tidy a (doorHold d s) := by
  unfold doorHold
  split
  · exact h
  · exact tidy_cycleCheck (tidy_modeNext (tidy_w (tidy_when (tidy_modDoor
        (tidy_modChan (tidy_when (tidy_recFePeak (tidy_when h tidy_modRec)) tidy_freeMarks))) tidy_w)))

theorem tidy_beginProfile {d n : Nat} {reaction : Bool} (h : Tidy a s) : Tidy a (beginProfile d n reaction s) := by
  unfold beginProfile
  split
  · exact h
  · exact tidy_cycleCheck (tidy_when (tidy_when (tidy_ite (tidy_beginStaged
        (tidy_modeNext (tidy_wb (tidy_w (tidy_w (tidy_modEng (tidy_modDoor (tidy_modChan h))))))))
        (tidy_beginProgram (tidy_modeNext (tidy_wb (tidy_w (tidy_w (tidy_modEng (tidy_modDoor (tidy_modChan h)))))))))
        tidy_continuityEvent) tidy_doorHold)

theorem tidy_dropStarts {d : Nat} (h : Tidy a s) : Tidy a (dropStarts d s) :=
  tidy_wb (tidy_modDoor h)

theorem tidy_doorOff {d : Nat} (h : Tidy a s) : Tidy a (doorOff d s) :=
  tidy_cycleCheck (tidy_modeNext (tidy_w (tidy_modDoor (tidy_modChan (tidy_dropStarts h)))))

theorem tidy_stageProfile {d n : Nat} (h : Tidy a s) : Tidy a (stageProfile d n s) := by
  unfold stageProfile
  split
  · exact tidy_ite h (tidy_reactLoad h)
  · exact h

theorem tidy_stopBranch {d : Nat} {reaction : Bool} (h : Tidy a s) : Tidy a (stopBranch d reaction s) := by
  unfold stopBranch
  split
  · exact h
  · split
    · exact tidy_beginProfile (tidy_when (tidy_when h tidy_reactSet) tidy_stageProfile)
    · exact tidy_ite (tidy_modDoor (tidy_when h tidy_reactSet)) (tidy_doorOff (tidy_when h tidy_reactSet))

theorem tidy_doorFault {d cause : Nat} (h : Tidy a s) : Tidy a (doorFault d cause s) :=
  tidy_ite h (have h := tidy_modDoor (tidy_raise (tidy_w (tidy_wb h))); tidy_ite
                (tidy_cycleCheck (tidy_modDoor (tidy_stopBranch (tidy_wb h))))
                (tidy_cycleCheck (tidy_modeNext (tidy_modDoor (tidy_reactSet (tidy_wb h))))))

theorem tidy_deckFault {cause : Nat} (h : Tidy a s) : Tidy a (deckFault cause s) :=
  tidy_ite h (tidy_raise (tidy_w (tidy_wb h)))

theorem tidy_deckTarget {x : Int} (h : Tidy a s) : Tidy a (deckTarget x s) := by
  unfold deckTarget
  exact tidy_ite h (by split; exacts [tidy_modDeck (tidy_w (tidy_wi h)), tidy_wi h])

theorem tidy_deckHold (h : Tidy a s) : Tidy a (deckHold s) :=
  have h := tidy_modDeck (tidy_modChan (tidy_recFePeak h))
  tidy_ite (tidy_raise (tidy_modeNext (tidy_wb h))) (tidy_modeNext h)

theorem tidy_deckBegin {n : Nat} (h : Tidy a s) : Tidy a (deckBegin n s) := by
  unfold deckBegin
  split
  · exact h
  · exact tidy_when (tidy_when (tidy_wb (tidy_modeNext (tidy_modEng (tidy_modDeck (tidy_modChan h))))) tidy_continuityEvent)
        tidy_deckHold

theorem tidy_deckMoveStart (h : Tidy a s) : Tidy a (deckMoveStart s) := by
  dsimp only [deckMoveStart]
  split
  · exact h
  · exact tidy_ite h
        (tidy_ite (tidy_modDeck h) (by split; exacts [tidy_deckBegin (tidy_w (tidy_modDeck h)), (tidy_w (tidy_modDeck h))]))

theorem tidy_deckReference (h : Tidy a s) : Tidy a (deckReference s) := by
  dsimp only [deckReference]
  split
  · exact tidy_ite (tidy_modeNext (tidy_modDeck (tidy_modChan (tidy_raise (tidy_wi (tidy_wb (tidy_modDeck h)))))))
        (tidy_raise (tidy_wi (tidy_wb (tidy_modDeck h))))
  · exact (tidy_raise (tidy_wi (tidy_wb (tidy_modDeck h))))

theorem tidy_discardStart {d n : Nat} (h : Tidy a s) : Tidy a (discardStart d n s) :=
  tidy_raise h

theorem tidy_nudged {d n : Nat} {p : Profile} (h : Tidy a s) : Tidy a (nudged d n p s).2 := by
  unfold nudged
  split
  · split
    · exact tidy_raise h
    · exact h
  · exact h

theorem tidy_doorStart {d n : Nat} (h : Tidy a s) : Tidy a (doorStart d n s) := by
  unfold doorStart
  refine tidy_ite h ?_
  split
  · exact tidy_discardStart h
  · exact tidy_ite (tidy_discardStart h) (tidy_ite (tidy_raise (tidy_wb (tidy_modDoor h))) (tidy_modDoor (tidy_nudged h)))

theorem tidy_doorOpenRelease {d : Nat} (h : Tidy a s) : Tidy a (doorOpenRelease d s) := by
  unfold doorOpenRelease
  split
  · exact tidy_ite (tidy_beginProfile h) h
  · exact h

theorem tidy_doorStop {d : Nat} (h : Tidy a s) : Tidy a (doorStop d s) :=
  tidy_ite h (tidy_stopBranch h)

theorem tidy_doorSelect {d : Nat} (h : Tidy a s) : Tidy a (doorSelect d s) := by
  dsimp only [doorSelect]
  exact tidy_ite h
      (have h := tidy_dropStarts (tidy_modDoor h);
         by split; exacts [h, tidy_ite (tidy_stopBranch h) (tidy_stageProfile (tidy_modDoor (tidy_reactSet h)))])

theorem tidy_doorReversal {d : Nat} (h : Tidy a s) : Tidy a (doorReversal d s) := by
  unfold doorReversal
  split
  · exact h
  · split
    · exact h
    · exact tidy_ite (tidy_beginProfile (tidy_raise (tidy_inc (tidy_inc h)))) h

theorem tidy_doorBeginPending {d : Nat} (h : Tidy a s) : Tidy a (doorBeginPending d s) := by
  unfold doorBeginPending
  split
  · exact tidy_ite (tidy_beginProfile h) h
  · exact h

theorem tidy_doorClosedEdge {d : Nat} (h : Tidy a s) : Tidy a (doorClosedEdge d s) := by
  dsimp only [doorClosedEdge]
  split
  · exact tidy_ite (tidy_modeNext (tidy_w (tidy_modDoor (tidy_modChan (tidy_doorReference h))))) (tidy_doorReference h)
  · exact (tidy_doorReference h)

theorem tidy_doorInputEdge {code : Nat} (h : Tidy a s) : Tidy a (doorInputEdge code s) :=
  have h := tidy_foldl (fun h => tidy_ite (tidy_doorClosedEdge h) h) (tidy_ite
      (tidy_mk (tidy_foldl (fun h => tidy_mk (tidy_wake h)) h)) (tidy_foldl (fun h => tidy_mk (tidy_wake h)) h))
  tidy_cycleCheck (tidy_ite (tidy_deckReference h) h)

theorem tidy_obstruct {d source : Nat} (h : Tidy a s) : Tidy a (obstruct d source s) :=
  tidy_raise (tidy_wi (tidy_w h))

theorem tidy_select {d : Nat} (h : Tidy a s) : Tidy a (select d s) :=
  tidy_ite h (tidy_modDoor h)

theorem tidy_forceDetect {d : Nat} {p : Profile} {f : Int} (h : Tidy a s) : Tidy a (forceDetect d p f s) := by
  unfold forceDetect
  split
  · exact h
  · exact tidy_ite (have h := tidy_obstruct (tidy_modDoor h); tidy_ite (tidy_select h) h) (tidy_modDoor h)

theorem tidy_levelDetect {d : Nat} {p : Profile} (h : Tidy a s) : Tidy a (levelDetect d p s) :=
  tidy_ite (have h := tidy_ite (tidy_when (tidy_obstruct h) tidy_select) h; tidy_ite (tidy_select (tidy_obstruct h)) h) h

theorem tidy_kineticCheck {d : Nat} {p : Profile} {vr v : Int} (h : Tidy a s) : Tidy a (kineticCheck d p vr v s) :=
  tidy_modDoor (tidy_when (tidy_when (tidy_peak (tidy_w h)) tidy_raise) tidy_raise)

theorem tidy_doorDuty {d : Nat} {u : Int} (h : Tidy a s) : Tidy a (doorDuty d u s) :=
  tidy_modDoor h

theorem tidy_doorStartCmd {d profile : Nat} (h : Tidy a s) : Tidy a (doorStartCmd d profile s) :=
  tidy_ite h (tidy_ite (tidy_modMir h) (tidy_doorStart (tidy_journal h)))

theorem tidy_doorStopCmd {d : Nat} (h : Tidy a s) : Tidy a (doorStopCmd d s) :=
  tidy_ite (tidy_doorStop (tidy_journal h)) h

/-! #### The loop engines (file 07) -/

theorem tidy_setEngine {n e : Nat} (h : Tidy a s) : Tidy a (s.setEngine n e) :=
  tidy_w h

theorem tidy_countEngines (h : Tidy a s) : Tidy a (s.countEngines) :=
  tidy_w h

theorem tidy_fenceEngine {e : Nat} (h : Tidy a s) : Tidy a (s.fenceEngine e) :=
  tidy_countEngines (tidy_setBitOf h)

theorem tidy_carDriveReact (h : Tidy a s) : Tidy a (carDriveReact s) :=
  tidy_ite (tidy_ctrlStop (tidy_modTrip (tidy_holdLoop (tidy_requestDrive (tidy_reactSet h))))) h

theorem tidy_carDriveLost (h : Tidy a s) : Tidy a (carDriveLost s) :=
  tidy_ite (tidy_dropLine (tidy_sendLink h)) (tidy_carDriveReact h)

theorem tidy_analogOut {n : Nat} (h : Tidy a s) : Tidy a (analogOut n s) :=
  have h := tidy_ite (tidy_wi h) h
  tidy_ite (tidy_wi h) h

theorem tidy_loopOff {n : Nat} (h : Tidy a s) : Tidy a (loopOff n s) :=
  have h := tidy_wi (tidy_wi (tidy_w (tidy_modEng h)))
  tidy_ite (tidy_doorDuty h) (tidy_analogOut h)

theorem tidy_loseLoop {n : Nat} (h : Tidy a s) : Tidy a (loseLoop n s) :=
  have h := tidy_loopOff (tidy_setEngine (tidy_raise (tidy_wb h)))
  tidy_ite (tidy_carDriveLost h) (tidy_ite (tidy_deckFault h) (tidy_doorFault h))

theorem tidy_substitute {n : Nat} (h : Tidy a s) : Tidy a (substitute n s) := by
  unfold substitute
  split
  · exact tidy_loseLoop (tidy_fenceEngine h)
  · exact tidy_when (tidy_w (tidy_raise (tidy_spareUsed (tidy_inc (tidy_fenceEngine (tidy_setEngine h)))))) tidy_raise

theorem tidy_spareCheck {n : Nat} {mismatch sparePass : Bool} (h : Tidy a s) : Tidy a (spareCheck n mismatch sparePass s) := by
  unfold spareCheck
  split
  · exact tidy_w h
  · extract_lets _ begun failed
    have hb : Tidy a begun := tidy_ite (tidy_w (tidy_mk h)) h
    have hf : Tidy a failed := tidy_inc (tidy_raise hb)
    exact tidy_ite hb (tidy_ite (tidy_ite (tidy_substitute hf) (tidy_w (tidy_raise (tidy_fenceEngine hf))))
      (tidy_ite (tidy_w (tidy_mk hb)) (tidy_mk hb)))

theorem tidy_following {n m : Nat} {ep : Int} (h : Tidy a s) : Tidy a (following n m ep s) :=
  tidy_ite (tidy_peak (tidy_modEng (tidy_when h tidy_raise))) (tidy_modEng h)

theorem tidy_loopPeriod {n : Nat} {p : PeriodIn} (h : Tidy a s) : Tidy a (loopPeriod n p s) :=
  tidy_ite (tidy_modEng h) (tidy_following (tidy_when (tidy_wb (tidy_wb (tidy_wi
      (tidy_wi (tidy_wi (tidy_wi (tidy_w (tidy_modEng h)))))))) tidy_inc))

theorem tidy_modDl {node : Nat} {f : DlNode → DlNode} (h : Tidy a s) : Tidy a (s.modDl node f) :=
  tidy_mk h

theorem tidy_dlSend {node : Nat} (h : Tidy a s) : Tidy a (dlSend node s) :=
  tidy_ite (tidy_modDl h) h

theorem tidy_levelReport (h : Tidy a s) : Tidy a (levelReport s) := by
  unfold levelReport
  exact tidy_modTrip (tidy_ite h (tidy_modRec h))

theorem tidy_carModes (h : Tidy a s) : Tidy a (carModes s) := by
  grind [carModes, tidy_journal, tidy_modeNext, tidy_holdLoop, tidy_request, State.when_, tidy_levelReport, tidy_mk]

theorem tidy_carPeriod {dt : Nat} {mismatch sparePass : Bool} (h : Tidy a s) : Tidy a (carPeriod dt mismatch sparePass s) :=
  have h := tidy_modTrip (tidy_when (tidy_w (tidy_modMir h)) tidy_inc)
  have h := tidy_ite (tidy_spareCheck (tidy_analogOut (tidy_loopPeriod (tidy_carModes h)))) (tidy_modEng h)
  tidy_post (tidy_ite (tidy_dlSend (tidy_dlSend h)) (tidy_dlSend h))

theorem tidy_carLoopPeriod {mismatch sparePass : Bool} (h : Tidy a s) : Tidy a (carLoopPeriod mismatch sparePass s) := by
  unfold carLoopPeriod
  split
  · exact tidy_ite h (tidy_carPeriod h)
  · exact h

theorem tidy_doorJudge {d : Nat} {vr v : Int} (h : Tidy a s) : Tidy a (doorJudge d vr v s) := by
  dsimp only [doorJudge]
  split
  · exact tidy_modDoor (tidy_wi h)
  · exact tidy_kineticCheck (tidy_levelDetect (tidy_forceDetect (tidy_wi (tidy_wi h))))

theorem tidy_deckPeriod {mismatch sparePass : Bool} (h : Tidy a s) : Tidy a (deckPeriod mismatch sparePass s) :=
  tidy_spareCheck (tidy_analogOut (tidy_loopPeriod (tidy_modDeck (tidy_wi h))))

theorem tidy_doorLoopPeriod {n : Nat} {mismatch sparePass : Bool} (h : Tidy a s) : Tidy a
    (doorLoopPeriod n mismatch sparePass s) :=
  tidy_ite h (tidy_ite (tidy_post (tidy_deckPeriod h)) (tidy_ite (tidy_post
      (tidy_spareCheck (tidy_doorJudge (tidy_doorDuty (tidy_loopPeriod h))))) h))

theorem tidy_followErr {n : Nat} (h : Tidy a s) : Tidy a (followErr n s) := by
  unfold followErr
  split
  · exact h
  · exact tidy_ite h (have h := tidy_raise (tidy_wb h); tidy_ite (tidy_ctrlStop h)
                        (tidy_ite (tidy_deckFault h) (tidy_doorFault h)))

theorem tidy_dlBad {node reason : Nat} (h : Tidy a s) : Tidy a (dlBad node reason s) :=
  have h := tidy_raise (tidy_modDl h)
  tidy_ite (tidy_inc (tidy_inc h)) (tidy_inc (tidy_inc h))

theorem tidy_nodeReact {node : Nat} {lost : Bool} (h : Tidy a s) : Tidy a (nodeReact node lost s) := by
  unfold nodeReact
  split
  · exact tidy_ite (tidy_carDriveLost h) (tidy_carDriveReact h)
  · exact tidy_ite h (tidy_deckFault (tidy_took h))
  · exact h

theorem tidy_dlShow {node : Nat} {f : List Byte} (h : Tidy a s) : Tidy a (dlShow node f s) :=
  tidy_ite (tidy_w (tidy_w (tidy_w (tidy_w (tidy_w h))))) (tidy_w (tidy_w (tidy_w (tidy_w (tidy_w h)))))

theorem tidy_driveFault {node code : Nat} (h : Tidy a s) : Tidy a (driveFault node code s) :=
  have h := tidy_ite (tidy_w h) (tidy_w h)
  tidy_ite h (tidy_nodeReact (tidy_raise (tidy_ite (tidy_wb h) (tidy_wb h))))

theorem tidy_driveResponse {node : Nat} {frame : List Byte} (h : Tidy a s) : Tidy a (driveResponse node frame s) := by
  unfold driveResponse
  exact tidy_ite h (by split; exacts [have h := tidy_dlShow (tidy_modDl h); have h := tidy_ite (tidy_modSaf h) h; tidy_ite
                         (tidy_driveFault h) h, tidy_dlBad h])

theorem tidy_drivelinkLost {node : Nat} (h : Tidy a s) : Tidy a (drivelinkLost node s) :=
  tidy_ite h (tidy_nodeReact (tidy_raise (tidy_ite (tidy_wb h) (tidy_wb h))))

theorem tidy_clearNodes {n : Nat} (h : Tidy a s) : Tidy a (clearNodes n s) :=
  have h := tidy_ite (tidy_wb (tidy_wb h)) h
  tidy_ite (tidy_wb (tidy_wb h)) h

theorem tidy_clearLoop {n : Nat} (h : Tidy a s) : Tidy a (clearLoop n s) :=
  tidy_ite (tidy_releaseHolds (tidy_clearNodes (tidy_wb h)))
      (tidy_ite (have h := tidy_clearNodes (tidy_w (tidy_wb (tidy_wb h))); tidy_ite (tidy_deckBegin h) h)
      (have h := tidy_w (tidy_wb (tidy_freeMarks (tidy_wb h))); tidy_cycleCheck (tidy_ite (tidy_modDoor h) h)))

theorem tidy_loopCmdClear {n confirm : Nat} (h : Tidy a s) : Tidy a (loopCmdClear n confirm s) :=
  tidy_ite h (tidy_ite (tidy_journal (tidy_clearLoop h)) (tidy_wb h))

theorem tidy_loopCmdPeakClear {n confirm : Nat} (h : Tidy a s) : Tidy a (loopCmdPeakClear n confirm s) :=
  tidy_ite h (tidy_journal (tidy_ite (tidy_w (tidy_w h)) (tidy_w h)))

theorem tidy_engineUncorr {engine : Nat} (h : Tidy a s) : Tidy a (engineUncorr engine s) := by
  unfold engineUncorr
  split
  · exact tidy_substitute (tidy_modEng h)
  · exact h

/-! #### The separation comparator (file 06) -/

theorem tidy_modNbr {i : Nat} {f : Neighbour → Neighbour} (h : Tidy a s) : Tidy a (s.modNbr i f) :=
  tidy_modTrip h

theorem tidy_sepStop {cause i : Nat} (h : Tidy a s) : Tidy a (sepStop cause i s) :=
  tidy_ctrlStop (tidy_when (tidy_modNbr (tidy_modTrip h)) tidy_inc)

theorem tidy_sepTimeout {i : Nat} (h : Tidy a s) : Tidy a (sepTimeout i s) :=
  tidy_sepStop (tidy_when (tidy_w h) tidy_raise)

theorem tidy_sepCompare {i : Nat} (h : Tidy a s) : Tidy a (sepCompare i s) :=
  have h := tidy_foldl tidy_modLane (tidy_wi h)
  tidy_ite (tidy_sepTimeout h) (tidy_ite (tidy_sepStop (tidy_ite h (tidy_raise (tidy_w (tidy_inc h)))))
      (tidy_ite (tidy_sepStop (tidy_ite h (tidy_raise (tidy_w h)))) (tidy_modNbr (tidy_w h))))

theorem tidy_sepFrame {i : Nat} {p v : Int} {conf time : Nat} (h : Tidy a s) : Tidy a (sepFrame i p v conf time s) :=
  tidy_sepCompare (tidy_modNbr (tidy_foldl tidy_modLane h))

theorem tidy_nbrReport {i reason : Nat} (h : Tidy a s) : Tidy a (nbrReport i reason s) :=
  tidy_sepTimeout (tidy_raise (tidy_inc (tidy_modNbr h)))

theorem tidy_sepClearCauses (h : Tidy a s) : Tidy a (sepClearCauses s) := by
  unfold sepClearCauses
  exact tidy_modTrip (tidy_setBitOf (tidy_setBitOf (tidy_freeMarks (tidy_foldl
      (fun h => tidy_ite (tidy_raise (tidy_w (tidy_modNbr h))) h) h))))

/-! #### The stop list and the splice (file 06) -/

theorem tidy_atlasMiss {kind origin dest : Nat} (h : Tidy a s) : Tidy a (atlasMiss kind origin dest s) :=
  tidy_raise h

theorem tidy_noteStops {old : List StopEntry} {req payload code : Nat} (h : Tidy a s) : Tidy a
    (noteStops old req payload code s) :=
  have h := tidy_ite h (tidy_modMir h)
  tidy_ite h (tidy_journal h)

theorem tidy_setTarget {n : Nat} (h : Tidy a s) : Tidy a (setTarget n s) :=
  tidy_w (tidy_mapStops h)

theorem tidy_untarget {n : Nat} (h : Tidy a s) : Tidy a (untarget n s) :=
  tidy_mapStops h

theorem tidy_showSplice {stop state : Nat} {alt : Bool} {x : Trip} (h : Tidy a s) : Tidy a (showSplice stop state alt x s) :=
  tidy_wi (tidy_wi (tidy_wb (tidy_w (tidy_w h))))

theorem tidy_endSplice (h : Tidy a s) : Tidy a (endSplice s) := by
  unfold endSplice
  split
  · exact tidy_showSplice h
  · exact tidy_w h

theorem tidy_insertCommit {stop word : Nat} {x : Trip} {alt : Bool} (h : Tidy a s) : Tidy a (insertCommit stop word x alt s).1
    := by
  have inserted := tidy_posInsert (a := a) (s := s.took.took) (down := !s.up) (node := s.freeNat 10) (level := s.took.freeNat 3)
    (arg := s.trip.nextTag) (tag := s.trip.nextTag) (thresh := x.commit) (tidy_took (tidy_took h))
  unfold insertCommit
  dsimp only
  split
  · next e =>
    rw [e] at inserted
    exact tidy_showSplice (tidy_modTrip inserted)
  · next e =>
    rw [e] at inserted
    exact inserted

theorem tidy_stageSplice {c : Commit} (h : Tidy a s) : Tidy a (stageSplice c s) :=
  have h := tidy_w (tidy_modTrip h)
  tidy_ite h (tidy_reticleLoad h)

theorem tidy_demote {stop : Nat} (h : Tidy a s) : Tidy a (demote stop s) :=
  tidy_raise (tidy_inc (tidy_w (tidy_setTarget (tidy_untarget (tidy_modTrip h)))))

theorem tidy_takeAlt {c : Commit} (h : Tidy a s) : Tidy a (takeAlt c s) := by
  grind [takeAlt, tidy_demote, tidy_raise, tidy_stageSplice, tidy_showSplice, tidy_insertCommit]

theorem tidy_spliceItem {late : Bool} (h : Tidy a s) : Tidy a (spliceItem late s) := by
  unfold spliceItem
  split
  · exact h
  · exact tidy_ite h (tidy_ite (tidy_takeAlt h) (tidy_ite (tidy_stageSplice h)
        (by split; exacts [tidy_stageSplice (tidy_showSplice h), tidy_demote h, tidy_demote (tidy_atlasMiss h)])))

theorem tidy_spliceCommand (h : Tidy a s) : Tidy a (spliceCommand s) := by
  unfold spliceCommand
  split
  · exact h
  · exact tidy_ite h (tidy_journal (tidy_modTrip (tidy_modChan h)))

theorem tidy_cancelCommit {c : Option Commit} (h : Tidy a s) : Tidy a (cancelCommit c s) := by
  unfold cancelCommit
  split
  · exact tidy_ite h (tidy_delayCancel h)
  · exact h

theorem tidy_acceptRun {d word : Nat} {x : Trip} (h : Tidy a s) : Tidy a (acceptRun d word x s).1 := by
  grind [acceptRun, tidy_insertCommit, tidy_cancelCommit, tidy_setTarget, tidy_untarget]

theorem tidy_tryRun {d : Nat} (h : Tidy a s) : Tidy a (tryRun d s).1 := by
  unfold tryRun
  exact tidy_ite_fst h (by split; exacts [tidy_ite_fst (tidy_acceptRun h) h, h, tidy_fst (tidy_atlasMiss h)])

theorem tidy_frozenAnswer {codes : List Nat} (h : Tidy a s) : Tidy a (frozenAnswer codes s).1 :=
  tidy_fst (tidy_ite (tidy_inc (tidy_took h)) (tidy_ite (tidy_inc (tidy_took h))
      (tidy_ite (tidy_inc (tidy_took h)) (tidy_took h))))

theorem tidy_assign {req landing : Nat} {upper : Bool} {doors profile : Nat} (h : Tidy a s) : Tidy a
    (assign req landing upper doors profile s).1 := by
  grind [assign, tidy_inc, tidy_frozenAnswer, tidy_mapStops, tidy_raise, tidy_modTrip, tidy_tryRun]

theorem tidy_cancelTarget {stop : Nat} (h : Tidy a s) : Tidy a (cancelTarget stop s).1 := by
  dsimp only [cancelTarget]
  exact tidy_ite_fst (tidy_fst (tidy_setTarget (tidy_endSplice (tidy_modTrip (tidy_cancelCommit h)))))
      (tidy_ite_fst (have h := tidy_foldl (fun h => tidy_ite (tidy_atlasMiss h) h) h;
                       by split; exacts [tidy_fst (tidy_setTarget (tidy_stageSplice (tidy_showSplice h))), h]) h)

theorem tidy_cancelRequest {landing : Nat} {upper : Bool} (h : Tidy a s) : Tidy a (cancelRequest landing upper s).1 := by
  grind [cancelRequest, tidy_frozenAnswer, tidy_modTrip, tidy_cancelTarget]

theorem tidy_finishAt {l : List Nat} (h : Tidy a s) : Tidy a (finishAt l s).1 :=
  tidy_foldl_fst (fun h => tidy_ite_fst h (tidy_tryRun h)) h

theorem tidy_finishRule (h : Tidy a s) : Tidy a (finishRule s) := by
  grind [finishRule, tidy_finishAt, tidy_modTrip, tidy_wb]

theorem tidy_confChange (h : Tidy a s) : Tidy a (confChange s) :=
  tidy_ite (tidy_modTrip h) (tidy_ite (tidy_abandonStart (tidy_modTrip h))
      (tidy_ite (tidy_finishRule (tidy_modTrip h)) (tidy_modTrip h)))

/-! #### Trips (file 06) -/

theorem tidy_showTrip {x : Trip} (h : Tidy a s) : Tidy a (showTrip x s) :=
  tidy_wi (tidy_w (tidy_w (tidy_w h)))

theorem tidy_startTrip {cmd : Bool} {x : Trip} {word stop : Nat} (h : Tidy a s) : Tidy a (startTrip cmd x word stop s) :=
  have h := tidy_foldl tidy_w (tidy_wb (tidy_w (tidy_showTrip (tidy_w (tidy_wb
      (tidy_w (tidy_setTarget (tidy_modTrip (tidy_ite (tidy_releaseHolds h) (tidy_modTrip (tidy_releaseHolds h)))))))))))
  tidy_requestDrive (tidy_ite (tidy_deckTarget h) (tidy_reticleLoad (tidy_deckTarget h)))

theorem tidy_startChecked {cmd : Bool} {x : Trip} {word stop : Nat} (h : Tidy a s) : Tidy a (startChecked cmd x word stop s).1
    := by
  unfold startChecked
  split
  · exact tidy_fst (tidy_wb h)
  · exact tidy_fst (tidy_startTrip h)

theorem tidy_tripStart (h : Tidy a s) : Tidy a (tripStart s) := by
  unfold tripStart
  split
  · exact h
  · exact tidy_ite (tidy_atlasMiss h) (tidy_ite h (tidy_ite (tidy_wb h) (tidy_startTrip (tidy_w (tidy_w h)))))

theorem tidy_levellingStart (h : Tidy a s) : Tidy a (levellingStart s) := by
  unfold levellingStart
  split
  · exact h
  · exact tidy_ite (tidy_request (tidy_request h)) (tidy_ite (tidy_atlasMiss h) (tidy_ite h (tidy_startChecked h)))

theorem tidy_endRescue (h : Tidy a s) : Tidy a (s.endRescue) :=
  tidy_modTrip h

theorem tidy_rescueStart {dir : Option Bool} {cmd : Bool} (h : Tidy a s) : Tidy a (rescueStart dir cmd s).1 := by
  grind [rescueStart, tidy_endRescue, tidy_raise, tidy_atlasMiss, tidy_startChecked, tidy_modTrip]

theorem tidy_separationClear (h : Tidy a s) : Tidy a (separationClear s) :=
  have h := tidy_ite (tidy_sepClearCauses h) h
  tidy_ite h (tidy_ite (tidy_endRescue h) (by split; exacts [tidy_rescueStart h, tidy_ite (tidy_rescueStart h) h]))

theorem tidy_sepWait (h : Tidy a s) : Tidy a (sepWait s) := by
  unfold sepWait
  split
  · exact tidy_modTrip (tidy_wb h)
  · exact tidy_ite (tidy_raise (tidy_modTrip (tidy_wb h))) (tidy_wb h)

theorem tidy_takeDue (h : Tidy a s) : Tidy a (takeDue s) :=
  tidy_foldl tidy_goOos (tidy_modTrip h)

theorem tidy_finishEnd (h : Tidy a s) : Tidy a (finishEnd s) :=
  tidy_ite (have h := tidy_modTrip (tidy_wb h); tidy_ite h (tidy_goOos h)) h

theorem tidy_carHold (h : Tidy a s) : Tidy a (carHold s) := by
  unfold carHold
  extract_lets x free target stop recorded idle marked held released rescued ready arrived ended
  have hf : Tidy a free := by
    unfold free
    split
    · exact tidy_ite h (tidy_demote (tidy_cancelCommit h))
    · exact h
  have hi : Tidy a idle := tidy_wb (tidy_modTrip (tidy_modChan (tidy_recFePeak (tidy_recTrip hf))))
  have hm : Tidy a marked := tidy_ite (tidy_markStop hi) hi
  have hr : Tidy a released := tidy_request (tidy_request (tidy_modTrip (tidy_w (tidy_w (tidy_w hm)))))
  have hs : Tidy a rescued := tidy_ite (tidy_request (tidy_request hr)) hr
  have hd : Tidy a ready := tidy_ite hs (tidy_journal (tidy_modeNext hs))
  have he : Tidy a ended := tidy_finishEnd (tidy_takeDue (tidy_doorsArrive hd))
  exact tidy_ite (tidy_w he) he

theorem tidy_stopBegun (h : Tidy a s) : Tidy a (stopBegun s) :=
  have h := tidy_raise (tidy_w (tidy_w (tidy_showTrip (tidy_requeue (tidy_cancelCommit h)))))
  tidy_ite (tidy_goOos (tidy_beginStaged h)) (tidy_beginStaged h)

theorem tidy_spliceAccepted (h : Tidy a s) : Tidy a (spliceAccepted s) := by
  unfold spliceAccepted
  split
  · exact tidy_ite h (tidy_modTrip (tidy_showSplice h))
  · exact h

theorem tidy_diversionBegun (h : Tidy a s) : Tidy a (diversionBegun s) :=
  have h := tidy_beginProgram (tidy_showTrip (tidy_modTrip h))
  tidy_deckTarget (tidy_raise (tidy_ite h (tidy_w (tidy_modTrip h))))

theorem tidy_spliceRefused (h : Tidy a s) : Tidy a (spliceRefused s) := by
  unfold spliceRefused
  split
  · exact tidy_ite (tidy_takeAlt h) h
  · exact h

theorem tidy_takeNote {k : Nat} {x : Note} (h : Tidy a s) : Tidy a (takeNote k s x) := by
  unfold takeNote
  split
  · exact tidy_raise h
  · exact tidy_spliceAccepted h
  · exact tidy_spliceRefused h
  · exact tidy_stopBegun h
  · exact tidy_continuityEvent h
  · exact tidy_post h
  · exact tidy_diversionBegun h
  · exact tidy_ite (tidy_carHold h) (tidy_ite (tidy_deckHold h) (tidy_doorHold h))

theorem tidy_channelResult {k : Nat} {x : Channel × List Note} (h : Tidy a s) : Tidy a (channelResult k x s) :=
  have h := tidy_foldl tidy_takeNote (tidy_modChan h)
  tidy_ite (tidy_wb h) h

theorem tidy_timeoutFault {k : Nat} (h : Tidy a s) : Tidy a (timeoutFault k s) :=
  tidy_ite (tidy_tripLimit h) (tidy_ite (tidy_deckFault h) (tidy_doorFault h))

theorem tidy_segTimeout {k : Nat} (h : Tidy a s) : Tidy a (segTimeout k s) :=
  tidy_ite (tidy_timeoutFault (tidy_channelResult h)) h

theorem tidy_evaluatorStep {k : Nat} (h : Tidy a s) : Tidy a (evaluatorStep k s) :=
  tidy_ite h (tidy_channelResult (tidy_when (tidy_ite (tidy_doorBeginPending
      (tidy_doorSelect (tidy_segTimeout (tidy_modChan h)))) (tidy_segTimeout (tidy_modChan h)))
      (fun h => tidy_ite (tidy_modTrip h) h)))

theorem tidy_tripBegin (h : Tidy a s) : Tidy a (tripBegin s) := by
  unfold tripBegin
  split
  · exact h
  · exact tidy_ite h (tidy_ite (tidy_abandonStart h) (tidy_channelResult (tidy_journal
        (tidy_journal (tidy_modeNext (tidy_beginProgram (tidy_modEng (tidy_w
        (tidy_ite (tidy_wb (tidy_modTrip (tidy_releaseHolds h))) (tidy_w (tidy_wb
        (tidy_modTrip (tidy_releaseHolds h)))))))))))))

theorem tidy_cmdOutOfService (h : Tidy a s) : Tidy a (cmdOutOfService s).1 :=
  tidy_fst (tidy_oosAfterTrip h)

theorem tidy_cmdReturn (h : Tidy a s) : Tidy a (cmdReturn s).1 :=
  tidy_ite_fst h (have h := tidy_modTrip (tidy_w (tidy_freeMarks (tidy_wb (tidy_w (tidy_wb h))))); tidy_fst
                    (tidy_ite (tidy_w h) h))

theorem tidy_cmdRescue {dir : Nat} (h : Tidy a s) : Tidy a (cmdRescue dir s).1 :=
  tidy_ite_fst h (tidy_rescueStart h)

theorem tidy_tripCmdDo {cmd dir : Nat} (h : Tidy a s) : Tidy a (tripCmdDo cmd dir s) := by
  grind [tripCmdDo, tidy_cmdOutOfService, tidy_cmdReturn, tidy_cmdRescue, tidy_journal, tidy_raise]

theorem tidy_tripCmd {cmd dir confirm : Nat} (h : Tidy a s) : Tidy a (tripCmd cmd dir confirm s) := by
  grind [tripCmd, tidy_tripCmdPush, tidy_raise, tidy_modTrip, tidy_tripCmdDo]

/-! #### The lanes' judgement (files 08 and 09) -/

theorem tidy_latchFault {l bit : Nat} {e : Evt} {args : List Arg} (h : Tidy a s) : Tidy a (latchFault l bit e args s) :=
  tidy_when (tidy_modLane h) tidy_raise

theorem tidy_setCmd {l new : Nat} (h : Tidy a s) : Tidy a (setCmd l new s) :=
  tidy_modLane h

theorem tidy_abortPulse {l o : Nat} (h : Tidy a s) : Tidy a (abortPulse l o s) := by
  unfold abortPulse
  split
  · exact tidy_ite h (tidy_raise (tidy_inc (tidy_modLane (tidy_modSaf h))))
  · exact h

theorem tidy_laneOpen {l : Nat} (h : Tidy a s) : Tidy a (laneOpen l s) := by
  unfold laneOpen
  exact tidy_setCmd (by split; exacts [tidy_ite h (tidy_abortPulse h), h])

theorem tidy_sepStale {l i : Nat} (h : Tidy a s) : Tidy a (sepStale l i s) :=
  tidy_ite h (tidy_when (tidy_modLane h) tidy_raise)

theorem tidy_modBrake {l b : Nat} {f : LaneBrake → LaneBrake} (h : Tidy a s) : Tidy a (s.modBrake l b f) :=
  tidy_modLane h

theorem tidy_brakeFault {l b cause : Nat} (h : Tidy a s) : Tidy a (brakeFault l b cause s) :=
  tidy_ite h (tidy_when (tidy_latchFault h) (fun h => tidy_oosAfterTrip (tidy_w h)))

theorem tidy_brakeTimeout {l b : Nat} (h : Tidy a s) : Tidy a (brakeTimeout l b s) := by
  dsimp only [brakeTimeout]
  split
  · exact tidy_ite (tidy_ite (tidy_brakeFault (tidy_modBrake (tidy_ite (tidy_brakeFault h) h)))
        (tidy_modBrake (tidy_ite (tidy_brakeFault h) h))) (tidy_ite (tidy_brakeFault h) h)
  · exact tidy_ite (tidy_brakeFault h) h
  · exact h

theorem tidy_brakeObserve {l b : Nat} (h : Tidy a s) : Tidy a (brakeObserve l b s) :=
  tidy_when (tidy_modBrake h) tidy_raise

theorem tidy_brakeSample {l b : Nat} (h : Tidy a s) : Tidy a (brakeSample l b s) :=
  have h := tidy_brakeTimeout (tidy_brakeObserve h)
  have h := tidy_ite (tidy_brakeFault (tidy_modBrake h)) (tidy_modBrake h)
  have h := tidy_ite (tidy_brakeFault h) h
  tidy_ite (tidy_brakeFault h) h

theorem tidy_brakeTestFail {l b : Nat} (h : Tidy a s) : Tidy a (brakeTestFail l b s) :=
  tidy_ite h (tidy_when (tidy_latchFault h) (fun h => tidy_wb (tidy_modTrip (tidy_oosAfterTrip h))))

theorem tidy_brakeWindow {l : Nat} (h : Tidy a s) : Tidy a (brakeWindow l s) :=
  tidy_ite h (tidy_ite (tidy_modLane h) (tidy_foldl (fun h => tidy_ite (tidy_brakeTestFail h) h) (tidy_modLane h)))

theorem tidy_laneFunctions {l : Nat} (h : Tidy a s) : Tidy a (laneFunctions l s) :=
  have h := tidy_ite (tidy_latchFault h) h
  have h := tidy_ite (tidy_latchFault h) h
  have h := tidy_ite (tidy_latchFault h) h
  tidy_laneOpen (tidy_modLane (tidy_modLane (tidy_ite (tidy_latchFault h) h)))

theorem tidy_ucmSample {l : Nat} (h : Tidy a s) : Tidy a (ucmSample l s) := by
  dsimp only [ucmSample]
  exact tidy_ite (tidy_modLane h) (by split; exacts [tidy_ite (tidy_latchFault (tidy_modLane (tidy_modLane h)))
                                        (tidy_modLane (tidy_modLane h)), (tidy_modLane (tidy_modLane h))])

theorem tidy_travelSample {l : Nat} (h : Tidy a s) : Tidy a (travelSample l s) := by
  dsimp only [travelSample]
  split
  · exact tidy_latchFault (tidy_modLane (by split; exacts [tidy_ite (tidy_latchFault h) h, h]))
  · exact (tidy_modLane (by split; exacts [tidy_ite (tidy_latchFault h) h, h]))

theorem tidy_speedSample {l : Nat} (h : Tidy a s) : Tidy a (speedSample l s) :=
  have h := tidy_ite (tidy_latchFault h) h
  tidy_ite (tidy_latchFault h) h

theorem tidy_lockCheck {l deck : Nat} (h : Tidy a s) : Tidy a (lockCheck l deck s) := by
  dsimp only [lockCheck]
  split
  · exact h
  · exact tidy_ite h (tidy_ite (tidy_modLane h) (have h := tidy_when (tidy_modLane h) (fun h => tidy_raise (tidy_inc h));
                                                   tidy_ite (tidy_latchFault h) h))

theorem tidy_lockSample {l deck : Nat} (h : Tidy a s) : Tidy a (lockSample l deck s) := by
  unfold lockSample
  split
  · exact tidy_lockCheck (tidy_modLane h)
  · exact h

theorem tidy_motionSample {l : Nat} (h : Tidy a s) : Tidy a (motionSample l s) :=
  tidy_ite h (tidy_brakeWindow (tidy_sepStale (tidy_sepStale (tidy_lockSample
      (tidy_lockSample (tidy_travelSample (tidy_speedSample (tidy_ucmSample h))))))))

theorem tidy_portNine (h : Tidy a s) : Tidy a (portNine s) :=
  tidy_foldl (fun h => tidy_ite h (tidy_post (tidy_modSaf h))) h

theorem tidy_quietWatch (h : Tidy a s) : Tidy a (quietWatch s) :=
  tidy_modSaf h

/-! #### The lane period and the records (files 08 and 09) -/

theorem tidy_refuseOverride {index reason : Nat} (h : Tidy a s) : Tidy a (refuseOverride index reason s) :=
  tidy_raise (tidy_w (tidy_w h))

theorem tidy_endOverride (h : Tidy a s) : Tidy a (endOverride s) :=
  tidy_modLane (tidy_modSaf h)

theorem tidy_startOverride {confirm : Nat} (h : Tidy a s) : Tidy a (startOverride confirm s) := by
  dsimp only [startOverride]
  split
  · exact tidy_refuseOverride h
  · exact tidy_ite (tidy_refuseOverride h) (tidy_ite (tidy_refuseOverride h)
        (tidy_ite (tidy_refuseOverride h) (tidy_modLane (tidy_w (tidy_modSaf h)))))

theorem tidy_overrideExchange {l : Nat} {r : Rec} (h : Tidy a s) : Tidy a (overrideExchange l r s) := by
  unfold overrideExchange
  exact tidy_ite (tidy_ite (tidy_modLane h) (tidy_ite (tidy_modLane h) h))
      (by split; exacts [h, tidy_ite (tidy_ite (tidy_w (tidy_modLane h)) (tidy_ite (tidy_refuseOverride (tidy_endOverride h))
            h)) h])

theorem tidy_overrideApply {l : Nat} (h : Tidy a s) : Tidy a (overrideApply l s) :=
  tidy_ite h (tidy_ite (tidy_ite (tidy_when (tidy_modSaf (tidy_mk (tidy_modLane h))) tidy_raise) (tidy_modLane h))
      (tidy_ite (tidy_refuseOverride (tidy_endOverride h)) h))

theorem tidy_sequenceEnd (h : Tidy a s) : Tidy a (sequenceEnd s) :=
  tidy_ite h (tidy_modSaf (tidy_wb (tidy_ite (tidy_modSaf (tidy_incWrap (tidy_foldl tidy_modLane h))) (tidy_modSaf h))))

theorem tidy_slotBegin {l : Nat} (h : Tidy a s) : Tidy a (slotBegin l s) :=
  tidy_ite h (have h := tidy_ite (tidy_w h) h; tidy_ite (tidy_modSaf h) h)

theorem tidy_laneBegin {l k : Nat} {at_ : Time} {volts : List Nat} (h : Tidy a s) : Tidy a (laneBegin l k at_ volts s) :=
  tidy_modLane (tidy_slotBegin (tidy_overrideApply (tidy_ite (tidy_sequenceEnd (tidy_modLane h)) (tidy_modLane h))))

theorem tidy_laneAStart {volts : List Nat} (h : Tidy a s) : Tidy a (laneAStart volts s) :=
  tidy_ite (tidy_ite (tidy_laneBegin h) h) (tidy_ite (tidy_laneBegin h) h)

theorem tidy_laneBStart {bc : Nat} {volts : List Nat} (h : Tidy a s) : Tidy a (laneBStart bc volts s) := by
  dsimp only [laneBStart]
  split
  · exact tidy_ite (tidy_laneBegin h) h
  · exact h
  · exact tidy_ite (tidy_laneBegin h) (tidy_ite (tidy_modLane (tidy_laneBegin h)) h)

theorem tidy_recMissing {l : Nat} (h : Tidy a s) : Tidy a (recMissing l s) :=
  tidy_ite (tidy_latchFault (tidy_modLane h)) (tidy_raise (tidy_modLane h))

theorem tidy_recTake {l : Nat} {r : Rec} (h : Tidy a s) : Tidy a (recTake l r s) :=
  tidy_modLane h

theorem tidy_itemBad {l code : Nat} (h : Tidy a s) : Tidy a (itemBad l code s) :=
  tidy_modLane h

theorem tidy_itemClock {l : Nat} {r : Rec} (h : Tidy a s) : Tidy a (itemClock l r s) :=
  have h := tidy_when (tidy_modLane h) tidy_itemBad
  tidy_ite (tidy_latchFault h) h

theorem tidy_itemDigest {l : Nat} {r : Rec} (h : Tidy a s) : Tidy a (itemDigest l r s) :=
  have h := tidy_when (tidy_modLane h) tidy_itemBad
  tidy_ite (tidy_latchFault h) h

theorem tidy_itemSwitch {l : Nat} {r : Rec} (h : Tidy a s) : Tidy a (itemSwitch l r s) :=
  tidy_when (tidy_modLane (tidy_when (tidy_modLane h) tidy_itemBad)) tidy_raise

theorem tidy_itemPerm {l : Nat} {r : Rec} (h : Tidy a s) : Tidy a (itemPerm l r s) :=
  have h := tidy_when (tidy_modLane h) tidy_itemBad
  tidy_ite (tidy_latchFault h) h

theorem tidy_itemCmd {l : Nat} {r : Rec} (h : Tidy a s) : Tidy a (itemCmd l r s) :=
  have h := tidy_when (tidy_modLane h) tidy_itemBad
  tidy_ite (tidy_latchFault h) h

theorem tidy_itemPosition {l : Nat} {r : Rec} (h : Tidy a s) : Tidy a (itemPosition l r s) :=
  tidy_ite (have h := tidy_when (tidy_modLane (tidy_when h tidy_raise)) tidy_itemBad; tidy_ite (tidy_latchFault h) h)
      (tidy_when (tidy_modLane h) tidy_raise)

theorem tidy_showInputFault {i kind channel tp : Nat} (h : Tidy a s) : Tidy a (showInputFault i kind channel tp s) :=
  tidy_w (tidy_w (tidy_w (tidy_w h)))

theorem tidy_itemInput {l : Nat} {r : Rec} {i : Nat} (h : Tidy a s) : Tidy a (itemInput l r i s) :=
  tidy_ite h (tidy_when (tidy_when (tidy_modLane h) tidy_itemBad) (fun h => tidy_raise (tidy_showInputFault h)))

theorem tidy_judgeItems {l : Nat} {r : Rec} (h : Tidy a s) : Tidy a (judgeItems l r s) := by
  unfold judgeItems
  exact have h := tidy_foldl tidy_itemInput (tidy_itemPosition (tidy_itemCmd
      (tidy_itemPerm (tidy_when (tidy_modLane (tidy_when (tidy_itemSwitch (tidy_itemDigest (tidy_itemClock (tidy_modLane h))))
      tidy_raise)) tidy_itemBad))))
    tidy_ite (tidy_modLane h) (tidy_modLane h)

theorem tidy_switchChanged {l : Nat} {args : List Arg} (h : Tidy a s) : Tidy a (switchChanged l args s) :=
  tidy_ite h (tidy_when (tidy_modLane h) tidy_raise)

theorem tidy_setMismatch {l : Nat} (h : Tidy a s) : Tidy a (setMismatch l s) :=
  tidy_latchFault h

theorem tidy_switchPoint {l : Nat} (h : Tidy a s) : Tidy a (switchPoint l s) :=
  have h := tidy_ite (tidy_ite (tidy_switchChanged h) h) (tidy_modLane h)
  tidy_ite (tidy_setMismatch (tidy_modLane h)) (tidy_modLane h)

theorem tidy_brakePoint {l b : Nat} (h : Tidy a s) : Tidy a (brakePoint l b s) :=
  tidy_ite (tidy_brakeFault (tidy_modBrake (tidy_brakeObserve h))) (tidy_modBrake (tidy_brakeObserve h))

theorem tidy_clearFaults {l : Nat} (h : Tidy a s) : Tidy a (clearFaults l s) :=
  tidy_modLane (tidy_modSaf (tidy_foldl (fun h => tidy_w (tidy_w (tidy_w h))) h))

theorem tidy_raiseJudged {l : Nat} {ok : Bool} {e : Evt} {args : List Arg} (h : Tidy a s) : Tidy a (raiseJudged l ok e args s)
    :=
  tidy_when (tidy_modLane h) tidy_raise

theorem tidy_resetRefused {l reason bit : Nat} (h : Tidy a s) : Tidy a (resetRefused l reason bit s) :=
  have h := tidy_ite (tidy_raise h) (tidy_raiseJudged h)
  tidy_ite (tidy_inc (tidy_w (tidy_w (tidy_w h)))) h

theorem tidy_resetAccepted {l : Nat} {srst : Bool} {n : Nat} (h : Tidy a s) : Tidy a (resetAccepted l srst n s) :=
  tidy_ite (tidy_inc (tidy_w (tidy_w (tidy_w (tidy_raiseJudged h))))) (tidy_raiseJudged h)

theorem tidy_resetPoint {l : Nat} (h : Tidy a s) : Tidy a (resetPoint l s) := by
  dsimp only [resetPoint]
  exact tidy_ite h (tidy_ite (by split; exacts [tidy_resetRefused (tidy_modLane h), tidy_resetAccepted
                                   (tidy_clearFaults (tidy_modLane h))]) (tidy_ite (tidy_resetRefused h) h))

theorem tidy_closePoles {l : Nat} (h : Tidy a s) : Tidy a (closePoles l s) := by
  unfold closePoles
  exact tidy_setCmd (by split; exacts [tidy_ite h (tidy_abortPulse h), h])

theorem tidy_pointCounts {l : Nat} (h : Tidy a s) : Tidy a (pointCounts l s) := by
  unfold pointCounts
  exact tidy_modSaf (tidy_modLane h)

theorem tidy_grantPoint {l : Nat} (h : Tidy a s) : Tidy a (grantPoint l s) :=
  tidy_modLane h

/-! #### The brake test (file 09) -/

theorem tidy_modBt {f : BrakeTest → BrakeTest} (h : Tidy a s) : Tidy a (s.modBt f) :=
  tidy_modSaf h

theorem tidy_brakeBegin {b : Nat} (h : Tidy a s) : Tidy a (brakeBegin b s) :=
  tidy_modeNext (tidy_request (tidy_request (tidy_w (tidy_modBt h))))

theorem tidy_brakeRelease (h : Tidy a s) : Tidy a (brakeRelease s) :=
  tidy_modeNext (tidy_request (tidy_request (tidy_request (tidy_request h))))

theorem tidy_brakeResult {b result : Nat} (h : Tidy a s) : Tidy a (brakeResult b result s) :=
  tidy_ite (tidy_w (tidy_w h)) (tidy_w (tidy_w h))

theorem tidy_brakeStop {b result : Nat} (h : Tidy a s) : Tidy a (brakeStop b result s) :=
  tidy_wb (tidy_modBt (tidy_brakeRelease (tidy_brakeResult h)))

theorem tidy_brakeAbort {b reason : Nat} (h : Tidy a s) : Tidy a (brakeAbort b reason s) :=
  tidy_raise (tidy_brakeStop h)

theorem tidy_brakePass {b : Nat} (h : Tidy a s) : Tidy a (brakePass b s) :=
  have h := tidy_raise (tidy_brakeResult h)
  have h := tidy_ite (tidy_wb (tidy_modTrip h)) h
  tidy_ite (tidy_modBt (tidy_brakeRelease h)) (tidy_wb (tidy_w (tidy_modBt (tidy_brakeRelease h))))

theorem tidy_brakeWatch (h : Tidy a s) : Tidy a (brakeWatch s) :=
  tidy_ite h (tidy_ite (tidy_brakeStop h) (tidy_ite (tidy_brakeAbort h) (tidy_ite (tidy_modBt (tidy_request h))
      (tidy_ite (tidy_modBt h) h))))

theorem tidy_brakePhaseEnd (h : Tidy a s) : Tidy a (brakePhaseEnd s) := by
  grind [brakePhaseEnd, tidy_brakeWatch, tidy_modBt, tidy_brakeAbort, tidy_request, tidy_brakeBegin]

theorem tidy_btCmdStart {confirm : Nat} (h : Tidy a s) : Tidy a (btCmdStart confirm s) :=
  tidy_ite h (tidy_ite (tidy_w (tidy_modBt h)) (tidy_modBt h))

theorem tidy_btCmdAbort {confirm : Nat} (h : Tidy a s) : Tidy a (btCmdAbort confirm s) :=
  tidy_ite h (tidy_brakeAbort h)

/-! #### Readbacks and test pulses (file 08) -/

theorem tidy_showOutFault {o kind pole partner : Nat} (h : Tidy a s) : Tidy a (showOutFault o kind pole partner s) :=
  tidy_w (tidy_w (tidy_w h))

theorem tidy_outStuck {l o partner : Nat} (h : Tidy a s) : Tidy a (outStuck l o partner s) :=
  tidy_ite h (tidy_raise (tidy_showOutFault (tidy_modLane h)))

theorem tidy_outOpen {l o : Nat} (h : Tidy a s) : Tidy a (outOpen l o s) :=
  tidy_ite h (tidy_raise (tidy_showOutFault (tidy_modLane h)))

theorem tidy_readbackCheck {l o : Nat} (h : Tidy a s) : Tidy a (readbackCheck l o s) :=
  tidy_ite h (tidy_ite (tidy_ite h (tidy_laneOpen (tidy_outStuck h))) (tidy_ite (tidy_laneOpen (tidy_outOpen h)) h))

theorem tidy_currentLimit {l o : Nat} (h : Tidy a s) : Tidy a (currentLimit l o s) :=
  tidy_ite h (tidy_laneOpen (tidy_outOpen (tidy_modLane (tidy_setCmd h))))

theorem tidy_tpFault {tp : Nat} (h : Tidy a s) : Tidy a (tpFault tp s) := by
  dsimp only [tpFault]
  split
  · exact tidy_ite (tidy_modLane (tidy_latchFault h)) h
  · exact h

theorem tidy_tpSample {l rb : Nat} (h : Tidy a s) : Tidy a (tpSample l rb s) :=
  tidy_tpFault (tidy_tpFault (tidy_foldl tidy_modLane h))

theorem tidy_sequenceBegin {kind : Nat} (h : Tidy a s) : Tidy a (sequenceBegin kind s) :=
  tidy_slotBegin (tidy_modSaf (tidy_wb h))

theorem tidy_testSequenceStart (h : Tidy a s) : Tidy a (testSequenceStart s) :=
  tidy_ite (tidy_foldl tidy_modLane (tidy_modSaf (tidy_sequenceBegin h))) h

theorem tidy_pulseStart {slot : Nat} (h : Tidy a s) : Tidy a (pulseStart slot s) :=
  tidy_ite h (tidy_ite (tidy_ite (tidy_modSaf h) (tidy_ite (tidy_inc (tidy_modSaf h))
      (tidy_setCmd (tidy_modSaf (tidy_modSaf h))))) (tidy_ite (tidy_modSaf (tidy_foldl tidy_modLane (tidy_modSaf h)))
      (tidy_modSaf h)))

theorem tidy_polePulseEnd {l o : Nat} {p : Pulse} {x : PulseSeen} (h : Tidy a s) : Tidy a (polePulseEnd l o p x s) :=
  tidy_ite (tidy_modSaf h) (have h := tidy_foldl (fun h => tidy_raise (tidy_showOutFault (tidy_showOutFault (tidy_modLane h))))
                              (tidy_ite (tidy_modSaf h) (tidy_outStuck (tidy_inc (tidy_modSaf h)))); tidy_laneOpen
                              (tidy_ite (tidy_setCmd h) h))

theorem tidy_wiringFault {kind l i tp : Nat} (h : Tidy a s) : Tidy a (wiringFault kind l i tp s) :=
  tidy_ite h (have h := tidy_showInputFault (tidy_modLane h); tidy_ite (tidy_raise h) (tidy_raise h))

theorem tidy_tpJudge {tp l i : Nat} {off on after : Bool} (h : Tidy a s) : Tidy a (tpJudge tp l i off on after s) :=
  tidy_ite h (tidy_ite (tidy_ite (tidy_modLane h) (tidy_wiringFault h)) (tidy_ite (tidy_wiringFault h) h))

theorem tidy_tpWindowEnd {tp : Nat} {x : PulseSeen} (h : Tidy a s) : Tidy a (tpWindowEnd tp x s) :=
  tidy_laneFunctions (tidy_laneFunctions (tidy_foldl tidy_tpJudge (tidy_foldl tidy_tpJudge (tidy_modSaf h))))

theorem tidy_pulseEnd {x : PulseSeen} (h : Tidy a s) : Tidy a (pulseEnd x s) := by
  unfold pulseEnd
  split
  · exact h
  · split
    · exact tidy_ite h (tidy_polePulseEnd h)
    · exact tidy_ite h (tidy_tpWindowEnd h)

/-! #### The commands of the lanes -/

theorem tidy_missPoint {l : Nat} (h : Tidy a s) : Tidy a (missPoint l s) :=
  tidy_ite (tidy_judgeItems (tidy_recMissing h)) (tidy_recMissing h)

theorem tidy_comparison {l : Nat} {volts : List Nat} (h : Tidy a s) : Tidy a (comparison l volts s) := by
  have judged {s : State} (h : Tidy a s) {r : Option Rec} : Tidy a (match r with
      | some r => overrideExchange l r (judgeItems l r (recTake l r s))
      | none => missPoint l s) := by
    cases r
    · exact tidy_missPoint h
    · exact tidy_overrideExchange (tidy_judgeItems (tidy_recTake h))
  unfold comparison
  refine tidy_ite h ?_
  exact tidy_brakeWatch (tidy_portNine (tidy_grantPoint (tidy_pointCounts (tidy_closePoles (tidy_laneFunctions (tidy_resetPoint
    (tidy_brakePoint (tidy_brakePoint (tidy_switchPoint (judged (tidy_modLane (tidy_modLane h))))))))))))

theorem tidy_comparisonIf {l : Nat} {volts : List Nat} {p : State → Bool} (h : Tidy a s) : Tidy a (comparisonIf l volts p s) :=
  tidy_ite (tidy_comparison h) h

theorem tidy_setChannel {l i : Nat} {on : Bool} (h : Tidy a s) : Tidy a (setChannel l i on s) :=
  tidy_ite (tidy_doorInputEdge (tidy_modLane h)) (tidy_modLane h)

theorem tidy_fastDemand {l i : Nat} (h : Tidy a s) : Tidy a (fastDemand l i s) :=
  tidy_laneFunctions (tidy_when (tidy_modLane (tidy_setChannel h)) tidy_raise)

theorem tidy_channelSample {l i : Nat} {level : Bool} {fastRun : Nat} (h : Tidy a s) : Tidy a
    (channelSample l i level fastRun s) :=
  tidy_ite h (tidy_ite (tidy_modLane (tidy_modLane h)) (tidy_ite (tidy_ite (tidy_modLane h)
      (tidy_ite (tidy_setChannel (tidy_modLane h)) (tidy_fastDemand (tidy_modLane h))))
      (tidy_ite (tidy_setChannel (tidy_modLane h)) (tidy_modLane (tidy_modLane h)))))

theorem tidy_takeMotion {l : Nat} (h : Tidy a s) : Tidy a (takeMotion l s) :=
  tidy_modLane h

theorem tidy_laneTake {l : Nat} {x : LaneInputs} (h : Tidy a s) : Tidy a (laneTake l x s) :=
  tidy_foldl tidy_channelSample (tidy_modLane (tidy_modLane h))

theorem tidy_laneSample {l : Nat} {x : LaneInputs} (h : Tidy a s) : Tidy a (laneSample l x s) := by
  have watched {s : State} {b : Prop} {_ : Decidable b} (h : Tidy a s) : Tidy a
      (brakeWatch (portNine (if b then quietWatch s else s))) :=
    tidy_brakeWatch (tidy_portNine (tidy_ite (tidy_quietWatch h) h))
  unfold laneSample
  refine tidy_ite h ?_
  exact watched (tidy_foldl tidy_readbackCheck (tidy_laneFunctions (tidy_motionSample (tidy_brakeSample (tidy_brakeSample
    (tidy_takeMotion (tidy_tpSample (tidy_modLane (tidy_laneTake h)))))))))

theorem tidy_requestChange {l bus : Nat} (h : Tidy a s) : Tidy a (requestChange l bus s) :=
  tidy_portNine (tidy_laneFunctions (tidy_ite (tidy_modLane (tidy_modLane (tidy_modMir h))) (tidy_modLane (tidy_modMir h))))

theorem tidy_fastOff {l i : Nat} (h : Tidy a s) : Tidy a (fastOff l i s) :=
  tidy_ite (tidy_portNine (tidy_fastDemand h)) h

theorem tidy_sw2Change {level : Bool} (h : Tidy a s) : Tidy a (sw2Change level s) :=
  tidy_ite h (tidy_raise (tidy_wb (tidy_wb h)))

theorem tidy_mainSwitch {sw : Nat} {level : Bool} (h : Tidy a s) : Tidy a (mainSwitch sw level s) :=
  tidy_ite (tidy_wb h) (tidy_ite (tidy_sw2Change h) (tidy_ite (tidy_wb (tidy_setBitOf h)) h))

theorem tidy_laneSwitch {l sw : Nat} {level : Bool} (h : Tidy a s) : Tidy a (laneSwitch l sw level s) :=
  tidy_ite (tidy_switchChanged (tidy_modLane (tidy_modLane h))) (tidy_modLane h)

theorem tidy_rwsWrite {addr v : Nat} (h : Tidy a s) : Tidy a (rwsWrite addr v s) :=
  tidy_ite h (tidy_ite (tidy_raise (tidy_wb h)) (tidy_ite (tidy_w h) (tidy_startOverride (tidy_w h))))

/-! #### Standard field I/O (file 10) -/

theorem tidy_modDi {i : Nat} {f : DiState → DiState} (h : Tidy a s) : Tidy a (s.modDi i f) :=
  tidy_modFio h

theorem tidy_setPair {lo hi : Field} {i : Nat} {b : Bool} (h : Tidy a s) : Tidy a (setPair lo hi i b s) :=
  tidy_ite (tidy_setBitOf h) (tidy_setBitOf h)

theorem tidy_diSet {i : Nat} {on : Bool} (h : Tidy a s) : Tidy a (diSet i on s) :=
  tidy_ite h (tidy_doorInputEdge (tidy_setPair h))

theorem tidy_modCpl {g k : Nat} {f : CplLane → CplLane} (h : Tidy a s) : Tidy a (s.modCpl g k f) :=
  tidy_modFio h

theorem tidy_modGroup {g : Nat} {f : CplGroup → CplGroup} (h : Tidy a s) : Tidy a (s.modGroup g f) :=
  tidy_modFio h

theorem tidy_classTaken {i k : Nat} (h : Tidy a s) : Tidy a (classTaken i k s) :=
  tidy_ite (tidy_modDi h) (tidy_diSet (tidy_ite (tidy_ite (tidy_setPair (tidy_modDi h))
      (tidy_raise (tidy_setPair (tidy_setPair (tidy_modDi h))))) (tidy_ite
      (tidy_raise (tidy_setPair (tidy_setPair (tidy_modDi h)))) (tidy_setPair (tidy_modDi h)))))

theorem tidy_diSample {i : Nat} {level : Bool} {current : Nat} (h : Tidy a s) : Tidy a (diSample i level current s) :=
  tidy_ite h (tidy_ite (tidy_diSet h) (tidy_ite (tidy_ite (tidy_classTaken (tidy_modDi (tidy_modDi h)))
      (tidy_modDi (tidy_modDi h))) (tidy_ite (tidy_modDi (tidy_modDi h)) (tidy_ite (tidy_diSet (tidy_modDi (tidy_modDi h)))
      (tidy_modDi (tidy_modDi h))))))

theorem tidy_fsSample {i v : Nat} (h : Tidy a s) : Tidy a (fsSample i v s) := by
  unfold fsSample
  exact tidy_modFio (tidy_recSupply (tidy_w (tidy_w h)))

theorem tidy_inputSample {levels : Nat} {currents volts : List Nat} (h : Tidy a s) : Tidy a
    (inputSample levels currents volts s) := by
  unfold inputSample
  exact tidy_ite h (tidy_foldl tidy_fsSample (tidy_foldl tidy_diSample h))

theorem tidy_doInfo {i kind partner : Nat} (h : Tidy a s) : Tidy a (doInfo i kind partner s) :=
  tidy_w (tidy_w h)

theorem tidy_doOverload {i : Nat} (h : Tidy a s) : Tidy a (doOverload i s) :=
  tidy_ite h (tidy_raise (tidy_doChanged (tidy_modDo (tidy_w (tidy_doInfo h)))))

theorem tidy_doRetry {i : Nat} (h : Tidy a s) : Tidy a (doRetry i s) := by
  unfold doRetry
  split
  · exact tidy_ite h (tidy_doRestart (tidy_modDo (tidy_doInfo h)))
  · exact h

theorem tidy_fioClear {output confirm : Nat} (h : Tidy a s) : Tidy a (fioClear output confirm s) :=
  tidy_ite h (tidy_doRestart (tidy_modDo (tidy_w (tidy_doInfo h))))

theorem tidy_doStuck {i : Nat} {high : Bool} (h : Tidy a s) : Tidy a (doStuck i high s) :=
  tidy_ite (tidy_ite h (tidy_raise (tidy_doInfo h))) (tidy_ite h (tidy_raise (tidy_doInfo h)))

theorem tidy_doAgree {i : Nat} (h : Tidy a s) : Tidy a (doAgree i s) :=
  tidy_ite h (have h := tidy_ite (tidy_w h) h; tidy_ite h (tidy_raise (tidy_doInfo h)))

theorem tidy_doReadback {i : Nat} {high pulse : Bool} (h : Tidy a s) : Tidy a (doReadback i high pulse s) :=
  tidy_ite (tidy_setBitOf h) (tidy_ite (tidy_doStuck (tidy_modDo (tidy_setBitOf h)))
      (tidy_doAgree (tidy_modDo (tidy_setBitOf h))))

theorem tidy_standardSequence (h : Tidy a s) : Tidy a (standardSequence s) := by
  unfold standardSequence
  split
  · exact tidy_ite h (tidy_modFio (tidy_incWrap (tidy_modSaf h)))
  · exact h

theorem tidy_doPulseStart {i : Nat} (h : Tidy a s) : Tidy a (doPulseStart i s) := by
  unfold doPulseStart
  split
  · exact h
  · exact tidy_ite h (tidy_ite (tidy_modFio (tidy_modFio h)) (tidy_inc (tidy_modFio h)))

theorem tidy_doAfresh {i : Nat} (h : Tidy a s) : Tidy a (doAfresh i s) :=
  tidy_modDo h

theorem tidy_doCross {i j : Nat} (h : Tidy a s) : Tidy a (doCross i j s) :=
  tidy_raise (tidy_raise (tidy_doAfresh (tidy_doAfresh (tidy_doInfo (tidy_doInfo h)))))

theorem tidy_doPulseJudge {i : Nat} {words : List Nat} (h : Tidy a s) : Tidy a (doPulseJudge i words s) :=
  tidy_foldl tidy_doCross (tidy_ite h (tidy_raise (tidy_doAfresh (tidy_doInfo (tidy_inc h)))))

theorem tidy_doPulseEnd {samples : List Nat} (h : Tidy a s) : Tidy a (doPulseEnd samples s) := by
  unfold doPulseEnd
  split
  · exact h
  · exact tidy_ite h (tidy_ite (tidy_raise (tidy_inc (tidy_modFio h))) (tidy_doPulseJudge (tidy_modFio h)))

theorem tidy_polesOpen {g : Nat} (h : Tidy a s) : Tidy a (polesOpen g s) := by
  grind [polesOpen, tidy_modLane]

theorem tidy_silence {g : Nat} (h : Tidy a s) : Tidy a (silence g s) :=
  tidy_ite h (tidy_polesOpen (tidy_modGroup (tidy_modFio h)))

theorem tidy_aliveReturn {g : Nat} (h : Tidy a s) : Tidy a (aliveReturn g s) := by
  unfold aliveReturn
  split
  · exact h
  · exact tidy_ite h (tidy_ite (tidy_modGroup h) (tidy_raise (tidy_peak (tidy_inc
        (tidy_foldl (fun h => tidy_ite (tidy_doRestart h) h) (tidy_modGroup h))))))

theorem tidy_holdExpiry {i : Nat} (h : Tidy a s) : Tidy a (holdExpiry i s) := by
  unfold holdExpiry
  split
  · exact tidy_ite h (tidy_modDo h)
  · exact h

theorem tidy_couplerCheck {g k margin errors : Nat} (h : Tidy a s) : Tidy a (couplerCheck g k margin errors s) :=
  tidy_ite h (have h := tidy_when (tidy_modCpl (tidy_ite (tidy_modFio (tidy_loupeRan h)) (tidy_loupeRan h))) tidy_raise;
                tidy_ite (tidy_modCpl h) (tidy_ite (tidy_modGroup h) h))

theorem tidy_cplTakeover {g : Nat} (h : Tidy a s) : Tidy a (cplTakeover g s) := by
  unfold cplTakeover
  split
  · exact h
  · exact tidy_ite h (tidy_modCpl (tidy_modGroup h))

theorem tidy_cplSwitch {g k reason : Nat} (h : Tidy a s) : Tidy a (cplSwitch g k reason s) :=
  tidy_raise (tidy_raise (tidy_spareUsed (tidy_inc (tidy_wb (tidy_setBitOf (tidy_modGroup (tidy_modCpl (tidy_modCpl h))))))))

theorem tidy_cplCompareEnd {g : Nat} {equal pattern : Bool} (h : Tidy a s) : Tidy a (cplCompareEnd g equal pattern s) := by
  dsimp only [cplCompareEnd]
  split
  · exact h
  · exact tidy_ite (tidy_cplSwitch h) (tidy_ite (tidy_modCpl (tidy_modGroup (tidy_ite (tidy_modCpl h) h)))
        (tidy_raise (tidy_setBitOf (tidy_modCpl (tidy_modGroup h)))))

theorem tidy_demandOff {l i : Nat} (h : Tidy a s) : Tidy a (demandOff l i s) :=
  tidy_ite (tidy_fastOff h) (tidy_ite (tidy_portNine (tidy_laneFunctions (tidy_setChannel h))) h)

theorem tidy_channelOff {g k : Nat} (h : Tidy a s) : Tidy a (channelOff g k s) :=
  tidy_ite (tidy_demandOff h) (tidy_ite (tidy_demandOff h) (tidy_ite (tidy_ite (tidy_modLane h) (tidy_ite (tidy_modLane h) h))
      h))

theorem tidy_cplFail {g k : Nat} (h : Tidy a s) : Tidy a (cplFail g k s) :=
  tidy_ite h (have h := tidy_ite (tidy_channelOff h) h; tidy_ite (tidy_cplSwitch (tidy_inc h))
                (have h := tidy_wb (tidy_setBitOf (tidy_modCpl h)); have h := tidy_ite (tidy_diSet h) h; tidy_raise
                   (tidy_ite (tidy_silence h) h)))

/-! #### The shaft networks (file 11) -/

theorem tidy_modNet {f : NetState → NetState} (h : Tidy a s) : Tidy a (s.modNet f) :=
  tidy_mk h

theorem tidy_modPort {p : Nat} {f : PortSt → PortSt} (h : Tidy a s) : Tidy a (s.modPort p f) :=
  tidy_modNet h

theorem tidy_enqueue {p cls : Nat} {f : NetFrame} (h : Tidy a s) : Tidy a (enqueue p cls f s) :=
  tidy_ite (tidy_modPort h) (tidy_inc h)

theorem tidy_transmit {p : Nat} (h : Tidy a s) : Tidy a (transmit p s) := by
  dsimp only [transmit]
  split
  · exact h
  · exact tidy_ite h (by split; exacts [h, by split; exacts [tidy_enqueue (tidy_modPort h), (tidy_modPort h)]])

theorem tidy_countSeq {kind : Nat} (h : Tidy a s) : Tidy a (s.countSeq kind) :=
  tidy_modNet h

theorem tidy_sendFrame {kind hops dst sel : Nat} {payload : List Byte} {ports : List Nat} (h : Tidy a s) : Tidy a
    (sendFrame kind hops dst sel payload ports s) :=
  tidy_ite h (tidy_countSeq (tidy_foldl tidy_enqueue h))

theorem tidy_listenUpdate (h : Tidy a s) : Tidy a (listenUpdate s) :=
  have h := tidy_ite (tidy_raise h) h
  tidy_ite (tidy_modNet h) (tidy_raise (tidy_wb (tidy_modNet h)))

theorem tidy_tellPartner (h : Tidy a s) : Tidy a (tellPartner s) :=
  tidy_ite (tidy_sendLink h) h

theorem tidy_chainCheck (h : Tidy a s) : Tidy a (chainCheck s) :=
  tidy_ite (tidy_raise (tidy_wb h)) (tidy_wb h)

theorem tidy_setAdj {p : Nat} {a' : Adj} (h : Tidy a s) : Tidy a (setAdj p a' s) :=
  tidy_chainCheck (tidy_ite (tidy_modNet h) (tidy_tellPartner (tidy_modNet h)))

theorem tidy_adjSend (h : Tidy a s) : Tidy a (adjSend s) :=
  tidy_ite h (tidy_chainCheck (tidy_sendFrame (tidy_sendFrame (tidy_modNet h))))

theorem tidy_commitAddr {a' id : Nat} (h : Tidy a s) : Tidy a (commitAddr a' id s) :=
  tidy_listenUpdate (tidy_tellPartner (tidy_modNet (tidy_mk (tidy_raise (tidy_w (tidy_w h))))))

theorem tidy_sendEnum {id : Nat} {counters : List (Option Nat)} (h : Tidy a s) : Tidy a (sendEnum id counters s) := by
  refine tidy_countSeq (tidy_foldl (fun {s x} h => ?_) h)
  dsimp only
  split
  · exact h
  · exact tidy_enqueue h

theorem tidy_enumDecide {id c : Nat} (h : Tidy a s) : Tidy a (enumDecide id c s) :=
  have h := tidy_listenUpdate (tidy_modNet h)
  tidy_ite (tidy_sendEnum (tidy_ite (tidy_raise h) h))
      (by split; exacts [tidy_sendEnum (tidy_commitAddr h), tidy_ite (tidy_sendEnum (tidy_raise (tidy_modNet h)))
            (tidy_ite (tidy_sendEnum (tidy_commitAddr h)) (tidy_sendEnum (tidy_raise (tidy_modNet h))))])

theorem tidy_enumDecision (h : Tidy a s) : Tidy a (enumDecision s) := by
  unfold enumDecision
  split
  · exact h
  · split
    · exact tidy_ite (tidy_enumDecide (tidy_modNet h)) (tidy_sendEnum (tidy_listenUpdate
        (tidy_raise (tidy_modNet (tidy_modNet h)))))
    · exact tidy_ite (tidy_sendEnum (tidy_listenUpdate (tidy_raise (tidy_modNet (tidy_modNet h))))) h

theorem tidy_enumFrame {p : Nat} {h' : Rh} (h : Tidy a s) : Tidy a (enumFrame p h' s) := by
  unfold enumFrame
  exact tidy_ite h (by split; exacts [tidy_modNet h, tidy_ite h (tidy_modNet h)])

theorem tidy_addrCmd {cmd confirm : Nat} (h : Tidy a s) : Tidy a (addrCmd cmd confirm s) :=
  tidy_ite (tidy_listenUpdate (tidy_tellPartner (tidy_w (tidy_w h)))) (tidy_wb h)

theorem tidy_setPathSt {x : PathSt} (h : Tidy a s) : Tidy a (setPathSt x s) :=
  tidy_modNet h

theorem tidy_resetLine {on : Bool} (h : Tidy a s) : Tidy a (resetLine on s) :=
  tidy_wb h

theorem tidy_resetAbandoned {id reason : Nat} (h : Tidy a s) : Tidy a (resetAbandoned id reason s) :=
  tidy_raise (tidy_inc h)

theorem tidy_abandon {reason : Nat} (h : Tidy a s) : Tidy a (abandon reason s) := by
  unfold abandon
  split
  · exact h
  · exact tidy_ite h (tidy_resetAbandoned (tidy_wb (tidy_modNet h)))

theorem tidy_pathReact {x : PathSt} (h : Tidy a s) : Tidy a (pathReact x s) := by
  unfold pathReact
  exact tidy_ite (tidy_abandon h) (by split; exacts [tidy_nbrReport h, h])

theorem tidy_dualMismatch {x : PathSt} (h : Tidy a s) : Tidy a (dualMismatch x s) :=
  tidy_raise (tidy_inc h)

theorem tidy_pathMismatch {x : PathSt} (h : Tidy a s) : Tidy a (pathMismatch x s) :=
  have h := tidy_dualMismatch (tidy_setPathSt h)
  tidy_ite h (tidy_pathReact h)

theorem tidy_pathDual {x : PathSt} (h : Tidy a s) : Tidy a (pathDual x s) :=
  tidy_ite (tidy_setPathSt h) (tidy_ite (tidy_raise (tidy_setPathSt h)) (tidy_setPathSt h))

theorem tidy_pathDeadlines (h : Tidy a s) : Tidy a (pathDeadlines s) :=
  tidy_foldl (fun h => tidy_ite (tidy_raise (tidy_inc (tidy_setPathSt h))) (tidy_setPathSt h)) h

theorem tidy_pathExpiries (h : Tidy a s) : Tidy a (pathExpiries s) :=
  tidy_foldl (fun h => tidy_pathReact (tidy_raise (tidy_inc (tidy_setPathSt h)))) h

theorem tidy_staleCopy (h : Tidy a s) : Tidy a (staleCopy s) :=
  tidy_inc h

theorem tidy_dualCopy {p : Nat} {h' : Rh} (h : Tidy a s) : Tidy a (dualCopy p h' s).1 :=
  tidy_ite_fst (tidy_fst (tidy_ite (tidy_pathDual h) (tidy_pathMismatch h)))
      (tidy_ite_fst (tidy_fst (tidy_setPathSt h)) (tidy_fst (tidy_staleCopy h)))

theorem tidy_notePort {p : Nat} {h' : Rh} (h : Tidy a s) : Tidy a (notePort p h' s) :=
  tidy_modNet h

theorem tidy_dupCopy {p : Nat} {h' : Rh} (h : Tidy a s) : Tidy a (dupCopy p h' s).1 := by
  grind [dupCopy, tidy_modNet, tidy_notePort, tidy_staleCopy, tidy_dualMismatch]

theorem tidy_modClock {n : Nat} {f : NetClock → NetClock} (h : Tidy a s) : Tidy a (s.modClock n f) :=
  tidy_modNet h

theorem tidy_clockStep {new old cause : Nat} (h : Tidy a s) : Tidy a (clockStep new old cause s) :=
  tidy_mk h

theorem tidy_wallFollow {stepped : Bool} (h : Tidy a s) : Tidy a (wallFollow stepped s) :=
  tidy_ite (tidy_clockStep (tidy_mk h)) (tidy_ite (tidy_clockStep (tidy_mk h))
      (tidy_ite (tidy_clockStep (tidy_mk h)) (tidy_mk h)))

theorem tidy_discipline {goal : Nat} (h : Tidy a s) : Tidy a (discipline goal s) :=
  tidy_ite (tidy_wallFollow (tidy_raise (tidy_modNet h))) (tidy_wallFollow (tidy_modNet h))

theorem tidy_ptpSource (h : Tidy a s) : Tidy a (ptpSource s) :=
  tidy_ite h (tidy_raise (tidy_w h))

theorem tidy_setLock {n st : Nat} (h : Tidy a s) : Tidy a (setLock n st s) :=
  tidy_ite (tidy_raise (tidy_w h)) (tidy_ite (tidy_raise (tidy_w h)) (tidy_w h))

theorem tidy_wallUnlock (h : Tidy a s) : Tidy a (wallUnlock s) :=
  have h := tidy_ite h (tidy_modNet h)
  tidy_ite (tidy_mk h) h

theorem tidy_ptpDiverge (h : Tidy a s) : Tidy a (ptpDiverge s) :=
  tidy_ite (tidy_raise (tidy_modNet h)) (tidy_modNet h)

theorem tidy_ptpSync {n domain : Nat} {twoStep : Bool} {interval : Int} {grand gm : Nat} (h : Tidy a s) : Tidy a
    (ptpSync n domain twoStep interval grand gm s) :=
  tidy_ite h (have h := tidy_ptpSource (tidy_setLock (tidy_wi (tidy_modClock h))); tidy_ptpDiverge
                (tidy_wallUnlock (tidy_ite h (tidy_ite (tidy_discipline h) (tidy_ite (tidy_discipline h) h)))))

theorem tidy_ptpTimeout {n : Nat} (h : Tidy a s) : Tidy a (ptpTimeout n s) :=
  tidy_ite h (have h := tidy_ptpSource (tidy_setLock (tidy_modClock h)); tidy_ptpDiverge
                (tidy_wallUnlock (tidy_ite (tidy_discipline h) h)))

theorem tidy_announce {p : Nat} {f : List Byte} (h : Tidy a s) : Tidy a (announce p f s) :=
  tidy_ite (tidy_modClock (tidy_enqueue h)) (tidy_enqueue h)

theorem tidy_pdelayReq {p : Nat} {f : List Byte} (h : Tidy a s) : Tidy a (pdelayReq p f s) :=
  tidy_ite (tidy_enqueue h) h

theorem tidy_ptpFrame {p residence : Nat} {f : List Byte} (h : Tidy a s) : Tidy a (ptpFrame p residence f s) :=
  tidy_ite (tidy_enqueue h) (tidy_ite (tidy_pdelayReq h) (tidy_ite h (tidy_ite (tidy_announce h)
      (tidy_ite (tidy_enqueue h) (tidy_enqueue h)))))

theorem tidy_rxOverflow {p port : Nat} (h : Tidy a s) : Tidy a (rxOverflow p port s) :=
  tidy_raise (tidy_inc h)

theorem tidy_nbrAccept {p i : Nat} {h' : Rh} (h : Tidy a s) : Tidy a (nbrAccept p i h' s) := by
  unfold nbrAccept
  extract_lets age noted compared judged
  have hj : Tidy a judged := tidy_portNine (tidy_laneFunctions (tidy_laneFunctions (tidy_sepFrame (tidy_modNet h))))
  split
  · exact hj
  · exact tidy_ite (tidy_rxOverflow hj) (tidy_post hj)

theorem tidy_nbrFrame {p : Nat} {h' : Rh} (h : Tidy a s) : Tidy a (nbrFrame p h' s) := by
  unfold nbrFrame
  split
  · exact h
  · exact tidy_ite h (tidy_ite (tidy_raise (tidy_inc h)) (tidy_nbrAccept h))

theorem tidy_snapRefused {tag reason : Nat} (h : Tidy a s) : Tidy a (snapRefused tag reason s) :=
  tidy_raise (tidy_inc h)

theorem tidy_snapFrame {h' : Rh} (h : Tidy a s) : Tidy a (snapFrame h' s) :=
  tidy_ite h (tidy_ite h (tidy_ite h (tidy_ite (tidy_snapRefused h) (tidy_ite (tidy_snapRefused h)
      (tidy_w (tidy_w (tidy_wb (tidy_w (tidy_wb (tidy_ite (tidy_snapRefused h) h))))))))))

theorem tidy_useFrame {p : Nat} {h' : Rh} (h : Tidy a s) : Tidy a (useFrame p h' s) :=
  tidy_ite (tidy_nbrFrame h) (tidy_ite (tidy_ite (tidy_rxOverflow h) (tidy_post (tidy_modNet h)))
      (tidy_ite (tidy_ite (tidy_rxOverflow h) (tidy_post (tidy_inc (tidy_modNet h))))
      (tidy_ite (tidy_ite h (tidy_ite (tidy_rxOverflow h) (tidy_post (tidy_modNet h))))
      (tidy_ite (tidy_snapFrame h) (tidy_ite (tidy_setAdj h) h)))))

theorem tidy_deliver {p : Nat} {h' : Rh} (h : Tidy a s) : Tidy a (deliver p h' s) :=
  tidy_ite (tidy_enumFrame h) (tidy_ite (tidy_useFrame (tidy_ite_fst (tidy_dualCopy h) (tidy_dupCopy h)))
      (tidy_ite_fst (tidy_dualCopy h) (tidy_dupCopy h)))

theorem tidy_forward {p : Nat} {h' : Rh} {f : List Byte} (h : Tidy a s) : Tidy a (forward p h' f s) :=
  tidy_ite (tidy_ite (tidy_listenUpdate (tidy_raise (tidy_modNet (tidy_enqueue h)))) (tidy_enqueue h)) h

theorem tidy_frameReceived {p residence : Nat} {f : List Byte} (h : Tidy a s) : Tidy a (frameReceived p residence f s) :=
  tidy_ite h (tidy_ite (tidy_inc h) (tidy_ite (tidy_enqueue h) (tidy_ite (tidy_ptpFrame h)
      (tidy_ite (tidy_inc h) (tidy_ite (tidy_inc h) (tidy_ite (tidy_raise (tidy_wb h))
      (tidy_ite (tidy_deliver (tidy_forward h)) (tidy_forward h))))))))

theorem tidy_kindFrame {kind p : Nat} {f : List Byte} (h : Tidy a s) : Tidy a (kindFrame kind p f s) :=
  tidy_ite (tidy_deliver h) h

theorem tidy_sendReply {x : Request} {code : Nat} (h : Tidy a s) : Tidy a (sendReply x code s) :=
  tidy_sendFrame h

theorem tidy_recordAnswer {x : Answer} (h : Tidy a s) : Tidy a (recordAnswer x s) :=
  tidy_modNet h

theorem tidy_takeRequest (h : Tidy a s) : Tidy a (takeRequest s) := by
  unfold takeRequest
  split
  · exact h
  · exact tidy_ite (tidy_modNet h) (by split; exacts [tidy_sendReply (tidy_inc (tidy_modNet h)), tidy_ite
                                         (tidy_modNet (tidy_modNet h)) (tidy_modNet h)])

theorem tidy_answer {op req landing : Nat} {upper : Bool} {doors profile : Nat} {f : State → State × Nat}
    (h : Tidy a s) (hf : ∀ {s}, Tidy a s → Tidy a (f s).1) : Tidy a (answer op req landing upper doors profile f s) :=
  tidy_sendReply (tidy_noteStops (tidy_recordAnswer (hf (tidy_modNet h))))

theorem tidy_cancelAnswer {landing : Nat} {upper : Bool} (h : Tidy a s) : Tidy a (cancelAnswer landing upper s).1 :=
  tidy_ite_fst h (tidy_cancelRequest h)

theorem tidy_press {id : Nat} (h : Tidy a s) : Tidy a (press id s) := by
  unfold press
  split
  · exact tidy_ite h (tidy_resetLine (tidy_w (tidy_modNet h)))
  · exact tidy_ite h (tidy_ite (tidy_modNet h) (tidy_abandon h))

theorem tidy_release {id : Nat} (h : Tidy a s) : Tidy a (release id s) := by
  unfold release
  split
  · exact h
  · exact tidy_ite h (tidy_resetLine (tidy_modNet h))

theorem tidy_takeReset {releases : Bool} (h : Tidy a s) : Tidy a (takeReset releases s) := by
  unfold takeReset
  split
  · exact h
  · exact tidy_ite h (tidy_ite (tidy_resetAbandoned (tidy_modNet h)) (tidy_ite (tidy_press (tidy_modNet h))
        (tidy_ite (tidy_release (tidy_modNet h)) (tidy_resetAbandoned (tidy_modNet h)))))

theorem tidy_pressTimeout (h : Tidy a s) : Tidy a (pressTimeout s) := by
  unfold pressTimeout
  split
  · exact h
  · exact tidy_ite (tidy_abandon h) h

theorem tidy_abandonEnd (h : Tidy a s) : Tidy a (abandonEnd s) := by
  unfold abandonEnd
  split
  · exact h
  · exact tidy_ite (tidy_resetLine (tidy_wb (tidy_modNet h))) h

theorem tidy_modAps {f : Aperture → Aperture} (h : Tidy a s) : Tidy a (s.modAps f) :=
  tidy_mk h

theorem tidy_setBank {b v : Nat} (h : Tidy a s) : Tidy a (setBank b v s) :=
  tidy_w (tidy_ite h (tidy_modAps h))

theorem tidy_bankCopy (h : Tidy a s) : Tidy a (bankCopy s) := by
  unfold bankCopy
  split
  · exact h
  · exact tidy_ite (tidy_snapRefused (tidy_w (tidy_modNet h))) (tidy_raise
        (tidy_when (tidy_inc (tidy_w (tidy_setBank (tidy_modNet (tidy_modAps (tidy_w (tidy_modNet h))))))) tidy_inc))

theorem tidy_snapRelease {v : Nat} (h : Tidy a s) : Tidy a (snapRelease v s) :=
  tidy_foldl (fun h => tidy_ite (tidy_setBank h) h) h

theorem tidy_linkDown {p : Nat} (h : Tidy a s) : Tidy a (linkDown p s) :=
  tidy_ite h (tidy_raise (tidy_w h))

/-! #### The mirror pair (file 12) -/

theorem tidy_lanesTake (h : Tidy a s) : Tidy a (lanesTake s) :=
  tidy_requestChange (tidy_requestChange h)

theorem tidy_enterPark (h : Tidy a s) : Tidy a (enterPark s) :=
  tidy_ite h (tidy_lanesTake (tidy_raise (tidy_modSaf (tidy_wb (tidy_mk h)))))

theorem tidy_exitPark {cause : Nat} (h : Tidy a s) : Tidy a (exitPark cause s) :=
  tidy_ite h (tidy_raise (tidy_wb (tidy_mk h)))

theorem tidy_showRole (h : Tidy a s) : Tidy a (showRole s) :=
  tidy_w h

theorem tidy_raiseLine (h : Tidy a s) : Tidy a (raiseLine s) :=
  tidy_lanesTake (tidy_doRefresh (tidy_showRole (tidy_w (tidy_wb (tidy_wb (tidy_w (tidy_modMir h)))))))

theorem tidy_roleLineChange {level : Bool} {bus : Nat} (h : Tidy a s) : Tidy a (roleLineChange level bus s) :=
  tidy_ite (tidy_modMir h) (have h := tidy_ite (tidy_wb (tidy_wb (tidy_modMir h)))
                              (tidy_wb (tidy_modMir (tidy_wb (tidy_modMir h)))); have h := tidy_ite h (tidy_exitPark h);
                              tidy_lanesTake (tidy_showRole (tidy_ite (tidy_dropLine h) h)))

theorem tidy_askSync {item : Nat} (h : Tidy a s) : Tidy a (askSync item s) :=
  tidy_modMir (tidy_w (tidy_sendLink h))

theorem tidy_shadowFail {item : Nat} (h : Tidy a s) : Tidy a (shadowFail item s) :=
  tidy_askSync (tidy_raise (tidy_inc (tidy_w h)))

theorem tidy_shadowPass (h : Tidy a s) : Tidy a (shadowPass s) :=
  tidy_ite (tidy_raise (tidy_modMir (tidy_w (tidy_modMir h)))) (tidy_modMir h)

theorem tidy_mirClean (h : Tidy a s) : Tidy a (mirClean s) := by
  unfold mirClean
  split
  · exact h
  · exact tidy_ite (tidy_raise (tidy_w h)) h

theorem tidy_takeHeartbeat {act : List Byte} (h : Tidy a s) : Tidy a (takeHeartbeat act s) := by
  unfold takeHeartbeat
  exact tidy_modMir (tidy_modSaf (tidy_foldl tidy_modEmu (tidy_foldl tidy_modEng h)))

theorem tidy_linkPort (h : Tidy a s) : Tidy a (linkPort s) :=
  tidy_post h

theorem tidy_linkBad (h : Tidy a s) : Tidy a (linkBad s) :=
  tidy_inc h

theorem tidy_linkTake {crcOk : Bool} {f : State → State} (h : Tidy a s) (hf : ∀ {s}, Tidy a s → Tidy a (f s)) : Tidy a
    (linkTake crcOk f s) :=
  tidy_ite h (tidy_ite (hf (tidy_linkPort h)) (tidy_linkBad h))

theorem tidy_heartbeat {act : List Byte} {age : Nat} (h : Tidy a s) : Tidy a (heartbeat act age s) :=
  have h := tidy_ite h (tidy_mk (tidy_modMir h))
  have h := tidy_ite (tidy_w h) h
  have h := tidy_ite (tidy_modMir h) h
  tidy_ite h (tidy_takeHeartbeat (tidy_ite (tidy_shadowPass (tidy_modMir h)) (tidy_foldl tidy_shadowFail (tidy_modMir h))))

theorem tidy_stateMessage {m : List Byte} {age : Nat} (h : Tidy a s) : Tidy a (stateMessage m age s) := by
  unfold stateMessage
  exact tidy_ite h (by split; exacts [tidy_linkBad h, tidy_ite (tidy_heartbeat (tidy_exitPark (tidy_linkPort h)))
                         (tidy_linkPort h)])

theorem tidy_heartbeatMissing (h : Tidy a s) : Tidy a (heartbeatMissing s) := by
  unfold heartbeatMissing
  exact tidy_ite h (by split; exacts [h, tidy_ite h (tidy_modMir (tidy_inc h))])

theorem tidy_stageNow {x : Trip} (h : Tidy a s) : Tidy a (stageNow x s) :=
  tidy_ite h (tidy_reticleLoadDone (tidy_reticleLoad h))

theorem tidy_shadowTrip {x : Trip} {word : Nat} (h : Tidy a s) : Tidy a (shadowTrip x word s) := by
  unfold shadowTrip
  exact have h := tidy_modTrip (tidy_releaseHolds (tidy_wb h))
    have h := tidy_showTrip (tidy_w (tidy_w (tidy_wb (tidy_w (tidy_ite h (tidy_w h))))))
    tidy_channelResult (tidy_beginProgram (tidy_ite h (tidy_stageNow h)))

theorem tidy_shadowSplice {x : Trip} {word : Nat} (h : Tidy a s) : Tidy a (shadowSplice x word s) :=
  have h := tidy_modTrip (tidy_modChan h)
  tidy_ite (tidy_wb h) (tidy_stageNow (tidy_wb h))

theorem tidy_shadowStops {x : StopChange} (h : Tidy a s) : Tidy a (shadowStops x s) :=
  have h := tidy_ite h (tidy_modMir (tidy_modTrip h))
  tidy_ite h (tidy_recordAnswer h)

theorem tidy_shadowTripCmd {cmd : Nat} (h : Tidy a s) : Tidy a (shadowTripCmd cmd s) :=
  tidy_ite (tidy_cmdOutOfService h) (tidy_ite (tidy_cmdReturn h) h)

theorem tidy_shadowLoopCmd {n cmd : Nat} (h : Tidy a s) : Tidy a (shadowLoopCmd n cmd s) :=
  tidy_ite (tidy_clearLoop h) (tidy_loopCmdPeakClear h)

theorem tidy_applyJournal {x : JournalRec} (h : Tidy a s) : Tidy a (applyJournal x s) := by
  cases x
  case stops => exact tidy_shadowStops h
  case tripStart => exact tidy_ite (tidy_shadowTrip h) (tidy_modMir h)
  case splice => exact tidy_ite (tidy_shadowSplice h) (tidy_modMir h)
  case ctrlStop => exact tidy_ctrlStopGo h
  case doorStart => exact tidy_doorStart h
  case doorStop => exact tidy_doorStop h
  case tripCmd => exact tidy_shadowTripCmd h
  case loopCmd => exact tidy_shadowLoopCmd h
  case mode => exact tidy_modeNext h
  case park => exact tidy_ite (tidy_enterPark h) (tidy_modMir h)

theorem tidy_adoptProg {k prog : Nat} (h : Tidy a s) : Tidy a (adoptProg k prog s) :=
  tidy_ite h (tidy_modSet (tidy_emptySet h))

theorem tidy_adoptSync {x : SyncBody} (h : Tidy a s) : Tidy a (adoptSync x s) := by
  unfold adoptSync
  extract_lets _ _ taken modes states faults programs foreign emptied
  have hp : Tidy a programs := tidy_foldl tidy_adoptProg (tidy_foldl tidy_w (tidy_foldl tidy_w (tidy_foldl tidy_w (tidy_mk h))))
  have he : Tidy a emptied := tidy_ite (tidy_emptySet hp) hp
  exact tidy_modMir (tidy_w (tidy_w (tidy_w (tidy_wb (tidy_w (tidy_wb he))))))

theorem tidy_syncMessage {x : SyncBody} (h : Tidy a s) : Tidy a (syncMessage x s) :=
  tidy_ite (tidy_when h tidy_w) (tidy_ite (tidy_adoptSync (tidy_when h tidy_w)) (tidy_modMir (tidy_when h tidy_w)))

theorem tidy_sendSync (h : Tidy a s) : Tidy a (sendSync s) :=
  tidy_ite (tidy_sendLink h) h

theorem tidy_linkResync (h : Tidy a s) : Tidy a (linkResync s) :=
  tidy_ite (tidy_ite (tidy_shadowFail (tidy_modMir h)) (tidy_sendSync (tidy_modMir h))) h

theorem tidy_shadowDue (h : Tidy a s) : Tidy a (shadowDue s) := by
  dsimp only [shadowDue]
  split
  · exact tidy_ite (tidy_adoptSync (tidy_foldl tidy_applyJournal (tidy_modMir h)))
        (tidy_foldl tidy_applyJournal (tidy_modMir h))
  · exact (tidy_foldl tidy_applyJournal (tidy_modMir h))

theorem tidy_sendHello (h : Tidy a s) : Tidy a (sendHello s) :=
  tidy_ite (tidy_sendLink (tidy_modMir h)) h

theorem tidy_mirLinkUp (h : Tidy a s) : Tidy a (mirLinkUp s) :=
  tidy_ite h (have h := tidy_raise (tidy_wb h); tidy_ite (tidy_askSync h) (tidy_ite (tidy_w h) h))

theorem tidy_helloTake {x : Hello} {delay : Nat} (h : Tidy a s) : Tidy a (helloTake x delay s) :=
  have h := tidy_mirLinkUp (tidy_wb (tidy_wb (tidy_modMir h)))
  have h := tidy_showRole (tidy_ite (tidy_lanesTake (tidy_dropLine (tidy_w (tidy_w (tidy_w (tidy_w (tidy_w h)))))))
      (tidy_w (tidy_w (tidy_w (tidy_w (tidy_w h))))))
  have h := tidy_ite (tidy_raise h) h
  tidy_ite (tidy_commitAddr h) h

theorem tidy_mirLinkDown (h : Tidy a s) : Tidy a (mirLinkDown s) :=
  tidy_ite h (have h := tidy_wb (tidy_wb (tidy_wb h)); tidy_ite (tidy_raise (tidy_modMir h))
                (tidy_raise (tidy_modMir (tidy_w (tidy_modMir h)))))

theorem tidy_sendDrive (h : Tidy a s) : Tidy a (sendDrive s) :=
  tidy_dlSend (tidy_dlSend h)

theorem tidy_takeoverEvent {synced resign : Bool} (h : Tidy a s) : Tidy a (takeoverEvent synced resign s) :=
  tidy_raise (tidy_inc h)

theorem tidy_takeover (h : Tidy a s) : Tidy a (takeover s) :=
  tidy_ite (tidy_ite (tidy_ctrlStop (tidy_modTrip (tidy_takeoverEvent (tidy_sendDrive (tidy_raiseLine h)))))
      (tidy_takeoverEvent (tidy_sendDrive (tidy_raiseLine h)))) h

theorem tidy_reqHoldExpiry (h : Tidy a s) : Tidy a (reqHoldExpiry s) :=
  tidy_ite h (tidy_ite (tidy_goOos (tidy_takeoverEvent (tidy_raiseLine (tidy_lanesTake (tidy_wb (tidy_modMir h))))))
      (tidy_lanesTake (tidy_wb (tidy_modMir h))))

theorem tidy_releaseStarts (h : Tidy a s) : Tidy a (releaseStarts s) :=
  have h := tidy_wb (tidy_modMir h)
  tidy_ite (tidy_foldl (fun h => tidy_doorStart (tidy_journal h)) h) h

theorem tidy_autoHandover (h : Tidy a s) : Tidy a (autoHandover s) := by
  unfold autoHandover
  exact tidy_ite h (by split; exacts [h, tidy_sendLink (tidy_wb (tidy_modMir h))])

theorem tidy_cmdResult {cmd result reason : Nat} (h : Tidy a s) : Tidy a (cmdResult cmd result reason s) :=
  tidy_w (tidy_w (tidy_w h))

theorem tidy_handoverEvent {why : Nat} (h : Tidy a s) : Tidy a (handoverEvent why s) :=
  tidy_raise (tidy_w (tidy_inc h))

theorem tidy_handoverActive {k : Nat} (h : Tidy a s) : Tidy a (handoverActive k s) := by
  unfold handoverActive
  split
  · exact tidy_releaseStarts (tidy_raise (tidy_modMir h))
  · exact tidy_ite h (tidy_lanesTake (tidy_wb (tidy_dropLine (tidy_modMir
        (tidy_handoverEvent (tidy_ite (tidy_cmdResult h) h))))))

theorem tidy_handoverStandby {k : Nat} (h : Tidy a s) : Tidy a (handoverStandby k s) :=
  tidy_ite (tidy_handoverEvent (tidy_modMir (tidy_sendDrive (tidy_raiseLine h)))) h

theorem tidy_handoverExecute (h : Tidy a s) : Tidy a (handoverExecute s) := by
  unfold handoverExecute
  split
  · exact h
  · exact tidy_ite (tidy_handoverActive h) (tidy_handoverStandby h)

theorem tidy_mirRefused {cmd reason : Nat} (h : Tidy a s) : Tidy a (mirRefused cmd reason s) :=
  tidy_raise (tidy_cmdResult h)

theorem tidy_mirCmd {confirm : Nat} {f : State → State} (h : Tidy a s) (hf : ∀ {s}, Tidy a s → Tidy a (f s)) : Tidy a
    (mirCmd confirm f s) :=
  tidy_ite (hf h) h

theorem tidy_cmdHandover (h : Tidy a s) : Tidy a (cmdHandover s) :=
  tidy_ite (tidy_mirRefused h) (tidy_ite (tidy_mirRefused h) (tidy_modMir (tidy_cmdResult h)))

theorem tidy_tellCommand {cmd : Nat} (h : Tidy a s) : Tidy a (s.tellCommand cmd) :=
  tidy_ite (tidy_sendLink h) h

theorem tidy_cmdRelease (h : Tidy a s) : Tidy a (cmdRelease s) :=
  tidy_ite (tidy_mirRefused h) (tidy_tellCommand (tidy_raise (tidy_doRefresh (tidy_wb (tidy_cmdResult h)))))

theorem tidy_cmdAttach (h : Tidy a s) : Tidy a (cmdAttach s) :=
  tidy_ite (tidy_mirRefused h) (tidy_tellCommand (tidy_raise (tidy_doRefresh (tidy_wb (tidy_cmdResult h)))))

theorem tidy_cmdAdopt (h : Tidy a s) : Tidy a (cmdAdopt s) := by
  unfold cmdAdopt
  split
  · exact tidy_mirRefused h
  · exact tidy_sendLink (tidy_modMir (tidy_cmdResult h))

theorem tidy_adoptRelease (h : Tidy a s) : Tidy a (adoptRelease s) := by
  unfold adoptRelease
  split
  · exact h
  · exact tidy_ite (tidy_releaseStarts (tidy_modMir h)) h

theorem tidy_pairPeriod {mismatch sparePass : Bool} (h : Tidy a s) : Tidy a (pairPeriod mismatch sparePass s) :=
  tidy_ite h (have h := tidy_ite (tidy_modMir h) h; have h := tidy_ite (tidy_shadowDue h) h; tidy_ite h
                (tidy_ite (tidy_enterPark (tidy_w h)) (tidy_ite (tidy_sendLink (tidy_carLoopPeriod h)) (tidy_carLoopPeriod h))))

theorem tidy_ssiBegin (h : Tidy a s) : Tidy a (ssiBegin s) :=
  tidy_ite (tidy_ite h (tidy_ite (tidy_modSsi h) (tidy_ssiReject (tidy_modSsi h)))) (tidy_ite (tidy_modSsi h) h)

theorem tidy_ssiNoFrame {laneB : Bool} (h : Tidy a s) : Tidy a (ssiNoFrame laneB s) :=
  tidy_ite h (tidy_ite (tidy_ite h (tidy_ite (tidy_ssiReject (tidy_modLane h)) (tidy_modLane h)))
      (tidy_ite (tidy_ssiReject (tidy_modSsi h)) h))

/-! #### Errors of the memories (files 02 and 12) -/

theorem tidy_modMem {f : MemState → MemState} (h : Tidy a s) : Tidy a (s.modMem f) :=
  tidy_mk h

theorem tidy_remapDue {table : Bool} {row : Nat} (h : Tidy a s) : Tidy a (remapDue table row s) :=
  tidy_ite h (tidy_modMem h)

theorem tidy_correctedAt {table : Bool} {o : Nat} (h : Tidy a s) : Tidy a (correctedAt table s o) :=
  tidy_ite (tidy_remapDue (tidy_inc (tidy_modMem h))) (tidy_inc (tidy_modMem h))

theorem tidy_spoilWord {table : Bool} {o : Nat} (h : Tidy a s) : Tidy a (spoilWord table o s) :=
  tidy_ite (tidy_table h) (tidy_near h)

theorem tidy_uncorrAt {table : Bool} {o : Nat} (h : Tidy a s) : Tidy a (uncorrAt table s o) :=
  tidy_remapDue (tidy_when (tidy_modMem (tidy_spoilWord h)) (fun h => tidy_ite (tidy_w h) h))

theorem tidy_memoryUncorrectable {table : Bool} {o : Nat} {facet : Option Nat} (h : Tidy a s) : Tidy a
    (memoryUncorrectable table o facet s) := by
  dsimp only [memoryUncorrectable]
  split
  · exact tidy_modFacet (tidy_raise (tidy_uncorrAt h))
  · exact (tidy_raise (tidy_uncorrAt h))

theorem tidy_remapSwitch (h : Tidy a s) : Tidy a (remapSwitch s) := by
  unfold remapSwitch
  split
  · exact h
  · exact tidy_when (tidy_raise (tidy_spareUsed (tidy_inc (tidy_w (tidy_modMem h))))) tidy_raise

theorem tidy_deepRetire {old : Nat} (h : Tidy a s) : Tidy a (deepRetire old s) :=
  tidy_inc (tidy_modMem h)

theorem tidy_deepReplace {block : Nat} (h : Tidy a s) : Tidy a (deepReplace block s) :=
  tidy_when (tidy_spareUsed (tidy_w (tidy_deepRetire (tidy_modMem h)))) tidy_raise

theorem tidy_deepBlockFail {block : Nat} (h : Tidy a s) : Tidy a (deepBlockFail block s) :=
  tidy_ite (have h := tidy_ite h (tidy_raise (tidy_deepRetire h)); tidy_ite (tidy_endSession h) h)
      (tidy_raise (tidy_deepReplace h))

theorem tidy_storeAtRisk {target : Nat} (h : Tidy a s) : Tidy a (storeAtRisk s target) :=
  tidy_raise (tidy_w h)

theorem tidy_storeScrub {table : Bool} {corrected uncorr : List Nat} (h : Tidy a s) : Tidy a
    (storeScrub table corrected uncorr s) :=
  tidy_ite h (tidy_foldl tidy_uncorrAt (tidy_foldl tidy_correctedAt (tidy_ite (tidy_w (tidy_w (tidy_modMem (tidy_loupeRan h))))
      (tidy_loupeRan h))))

theorem tidy_recordLost {r : SysRecord} (h : Tidy a s) : Tidy a (recordLost r s) := by
  unfold recordLost
  split
  · exact tidy_ite h (tidy_w (tidy_mk h))
  · exact tidy_mk h
  · exact tidy_mk h
  · exact tidy_mk h
  · exact h
  · exact tidy_modMem h

theorem tidy_keepUncorr {o : Nat} (h : Tidy a s) : Tidy a (keepUncorr s o) :=
  tidy_ite (tidy_storeAtRisk h) (tidy_ite (tidy_storeAtRisk h)
    (tidy_ite (tidy_raise (tidy_keep (tidy_took h))) (tidy_raise (tidy_recordLost h))))

theorem tidy_deepPatrol {blocks : List (Nat × Nat)} {slots : List Nat} (h : Tidy a s) : Tidy a (deepPatrol blocks slots s) :=
  tidy_foldl tidy_storeAtRisk (tidy_foldl (fun h => tidy_ite h (tidy_raise (tidy_deepReplace h))) (tidy_loupeRan h))

/-! #### The logs (file 13) -/

theorem tidy_evtQRead {p : Path} (h : Tidy a s) : Tidy a (evtQRead p s) := by
  unfold evtQRead
  split
  · exact tidy_answerRead h
  · exact tidy_answerRead (tidy_latch (tidy_mk h))

theorem tidy_logClear {confirm : Nat} (h : Tidy a s) : Tidy a (logClear confirm s) :=
  tidy_ite h (tidy_mk (tidy_mk h))

theorem tidy_logWallSet {p : Path} {hi : Nat} (h : Tidy a s) : Tidy a (logWallSet p hi s) :=
  tidy_ite (tidy_wb h) (tidy_clockStep (tidy_mk h))

theorem tidy_logMediumFail {addr offset syndrome : Nat} (h : Tidy a s) : Tidy a (logMediumFail addr offset syndrome s) :=
  tidy_ite (tidy_mk (tidy_remapDue h)) (tidy_recCounter (tidy_mk (tidy_mk (tidy_remapDue h))))

theorem tidy_logStopped {offset : Nat} (h : Tidy a s) : Tidy a (logStopped offset s) :=
  tidy_ite (tidy_mk h) (tidy_recCounter (tidy_raise (tidy_mk (tidy_mk h))))

theorem tidy_logRecClear {confirm : Nat} {bad : Option Nat} (h : Tidy a s) : Tidy a (logRecClear confirm bad s) :=
  tidy_ite (tidy_recCommit (tidy_mk h)) h

theorem tidy_modAp {p : Path} {f : Aperture → Aperture} (h : Tidy a s) : Tidy a (s.modAp p f) :=
  tidy_setPath h

theorem tidy_apFill {p : Path} (h : Tidy a s) : Tidy a (apFill p s) :=
  tidy_ite h (tidy_ite (tidy_modAp h) (tidy_ite (tidy_ite (tidy_modAp h) (tidy_modAp h))
      (tidy_ite (tidy_modAp h) (tidy_ite (tidy_modAp h) (tidy_modAp (tidy_ite (tidy_modAp (tidy_setBank h)) h))))))

theorem tidy_apSelect {p : Path} {source : Nat} (h : Tidy a s) : Tidy a (apSelect p source s) := by
  unfold apSelect
  exact tidy_modAp (tidy_ite h (tidy_ite (tidy_setBank (tidy_modAp h)) (tidy_modAp h)))

theorem tidy_apCursor {p : Path} {cursor : Nat} (h : Tidy a s) : Tidy a (apCursor p cursor s) :=
  tidy_modAp h

theorem tidy_apRead {p : Path} {w : Nat} (h : Tidy a s) : Tidy a (apRead p w s) :=
  have h := tidy_ite (tidy_answerRead h) (tidy_ite (tidy_setBank (tidy_answerRead h)) (tidy_answerRead h))
  tidy_ite h (tidy_modAp h)

theorem tidy_apAccess {p : Path} {f : State → State} (h : Tidy a s) (hf : ∀ {s}, Tidy a s → Tidy a (f s)) : Tidy a
    (s.apAccess p f) := by
  unfold State.apAccess
  exact tidy_ite (hf h) (by split; exacts [h, hf (tidy_apFill h)])

/-! #### Supply, clocks, temperature (file 14) -/

theorem tidy_modPwr {f : PwrState → PwrState} (h : Tidy a s) : Tidy a (s.modPwr f) :=
  tidy_mk h

theorem tidy_dimStep {step cause : Nat} (h : Tidy a s) : Tidy a (dimStep step cause s) :=
  have h := tidy_modPwr (tidy_w (tidy_w h))
  tidy_raise (tidy_ite (tidy_recCounter (tidy_inc h)) (tidy_ite (tidy_recCounter (tidy_inc h)) h))

theorem tidy_dimWatch {vinMv coreMv : Nat} (h : Tidy a s) : Tidy a (dimWatch vinMv coreMv s) :=
  tidy_modPwr h

theorem tidy_dimUp {vinMv coreMv : Nat} (h : Tidy a s) : Tidy a (dimUp vinMv coreMv s) := by
  dsimp only [dimUp]
  split
  · exact (tidy_dimWatch h)
  · exact tidy_ite (tidy_dimWatch h) (tidy_dimWatch (tidy_dimStep (tidy_dimWatch h)))

theorem tidy_vinSample {v : Nat} (h : Tidy a s) : Tidy a (vinSample v s) :=
  have h := tidy_recSupply (tidy_w (tidy_w h))
  have h := tidy_ite (tidy_wb h) h
  have h := tidy_ite h (tidy_modPwr h)
  tidy_ite (tidy_modPwr h) (tidy_raise (tidy_w (tidy_modPwr h)))

theorem tidy_fencePll {p : Nat} (h : Tidy a s) : Tidy a (fencePll p s) :=
  tidy_w h

theorem tidy_pllSwitch {reason : Nat} (h : Tidy a s) : Tidy a (pllSwitch reason s) :=
  tidy_raise (tidy_raise (tidy_spareUsed (tidy_wb (tidy_w (tidy_fencePll h)))))

theorem tidy_pllCheck {lockLost : Bool} {dev : Int} (h : Tidy a s) : Tidy a (pllCheck lockLost dev s) :=
  tidy_ite (tidy_pllSwitch (tidy_when (tidy_wi h) tidy_wb)) (tidy_when (tidy_wi h) tidy_wb)

theorem tidy_pllMargins {margins : List Nat} {passes : List Bool} {spareLocked : Bool} (h : Tidy a s) : Tidy a
    (pllMargins margins passes spareLocked s) :=
  tidy_ite (tidy_w h) (tidy_ite (tidy_raise (tidy_wb (tidy_fencePll (tidy_wb (tidy_w h)))))
      (tidy_ite (tidy_w (tidy_pllSwitch (tidy_w h))) (tidy_w h)))

theorem tidy_tempRead {x : Int × Nat} (h : Tidy a s) : Tidy a (tempRead s x) :=
  have h := tidy_modRec (tidy_wi h)
  tidy_when (tidy_modPwr (tidy_ite (tidy_wi h) h)) tidy_raise

theorem tidy_pwrResult {cmd result reason : Nat} (h : Tidy a s) : Tidy a (pwrResult cmd result reason s) :=
  tidy_w (tidy_w (tidy_w h))

theorem tidy_pwrRefuse {cmd reason : Nat} (h : Tidy a s) : Tidy a (pwrRefuse cmd reason s) :=
  tidy_raise (tidy_pwrResult h)

theorem tidy_pwrCmd {confirm : Nat} {f : State → State} (h : Tidy a s) (hf : ∀ {s}, Tidy a s → Tidy a (f s)) : Tidy a
    (pwrCmd confirm f s) :=
  tidy_ite (hf h) h

theorem tidy_cmdPark (h : Tidy a s) : Tidy a (cmdPark s) := by
  unfold cmdPark
  split
  · exact tidy_ite (tidy_modPwr (tidy_journal (tidy_pwrResult h))) (tidy_enterPark (tidy_pwrResult h))
  · exact tidy_pwrRefuse h

theorem tidy_cmdUnpark (h : Tidy a s) : Tidy a (cmdUnpark s) :=
  tidy_wake (tidy_pwrResult h)

theorem tidy_facetReset {k p : Nat} (h : Tidy a s) : Tidy a (facetReset k p s) :=
  tidy_recCounter (tidy_loupePort (tidy_modFacet (tidy_w (tidy_clear (tidy_stopFacet (tidy_ite (tidy_relayFail h) h))))))

theorem tidy_cmdFacet {k : Nat} (h : Tidy a s) : Tidy a (cmdFacet k s) := by
  unfold cmdFacet
  exact tidy_ite (tidy_pwrRefuse h) (by split; exacts [tidy_pwrRefuse h, tidy_ite (tidy_pwrRefuse h)
                                          (tidy_facetReset (tidy_pwrResult h))])

theorem tidy_parkExit (h : Tidy a s) : Tidy a (parkExit s) := by
  unfold parkExit
  exact tidy_ite h (by split; exacts [tidy_exitPark h, h])

theorem tidy_optimeStep (h : Tidy a s) : Tidy a (optimeStep s) :=
  tidy_mk h

/-! #### The delivery of a position sample -/

theorem tidy_doorSamples {x : RawSample} (h : Tidy a s) : Tidy a (doorSamples x s) := by
  unfold doorSamples
  exact tidy_modDeck (tidy_foldl (fun h => tidy_modDoor (tidy_mk h)) h)

theorem tidy_lossStop (h : Tidy a s) : Tidy a (lossStop s) :=
  have h := tidy_ctrlStop (tidy_when h tidy_reactSet)
  tidy_ite (tidy_journal (tidy_holdLoop (tidy_modeNext h))) h

theorem tidy_firstPosition (h : Tidy a s) : Tidy a (firstPosition s) :=
  tidy_ite h (tidy_w (tidy_modChan (tidy_modTrip h)))

theorem tidy_act {c : Command} (h : Tidy a s) : Tidy a (act s c) := by
  unfold act
  split
  · exact tidy_doCommand h
  · exact tidy_ite h (tidy_request h)
  · exact tidy_ite h (tidy_modChan h)
  · exact tidy_ite h (tidy_modeNext h)
  · exact tidy_ite (tidy_doorStartCmd h) (tidy_doorStopCmd h)
  · exact tidy_ite (tidy_armSlot h) (tidy_putSlot h)
  · exact tidy_ite (tidy_swapCommand h) h
  · exact tidy_when (tidy_mk h) tidy_raise

theorem tidy_fireMarks {fires : List Fire} (h : Tidy a s) : Tidy a (fireMarks fires s) :=
  tidy_foldl tidy_act (tidy_foldl (fun h => tidy_raise (tidy_inc h)) (tidy_foldl tidy_queuePost h))

theorem tidy_feedLane (h : Tidy a s) : Tidy a (feedLane s) := by
  unfold feedLane
  exact tidy_modSaf h

theorem tidy_deliverFront {x : RawSample} (h : Tidy a s) : Tidy a (deliverFront x s) := by
  grind [deliverFront, tidy_scDeliver, tidy_positionModel, tidy_doorSamples, tidy_feedLane, tidy_mk]

theorem tidy_leaveSlot {k i : Nat} {late : Bool} {acc : State × List Fire} (h : Tidy a acc.1) : Tidy a
    (leaveSlot k i late acc).1 := by
  have left := tidy_disarmSlot (k := k) (i := i) h
  unfold leaveSlot
  exact tidy_ite_fst (tidy_raise (tidy_inc left))
    (tidy_when (tidy_w (tidy_wb (tidy_w (tidy_w (tidy_incWrap (tidy_putSlot left)))))) tidy_raise)

theorem tidy_compareSlot {k i : Nat} {x : SetSample} {acc : State × List Fire} (h : Tidy a acc.1) :
    Tidy a (compareSlot k x acc i).1 := by
  unfold compareSlot
  refine tidy_ite_fst h (tidy_ite_fst (tidy_leaveSlot h) (tidy_ite_fst ?_ (tidy_ite_fst (tidy_ite_fst h (tidy_leaveSlot h))
    (tidy_ite_fst (tidy_leaveSlot h) h))))
  split
  · exact tidy_ite_fst (tidy_leaveSlot (tidy_lateFound (tidy_putSlot h))) (tidy_lateFound (tidy_putSlot h))
  · exact tidy_putSlot h

theorem tidy_compareSet {acc : State × List Fire} {k : Nat} (h : Tidy a acc.1) : Tidy a (compareSet acc k).1 := by
  unfold compareSet
  split
  · exact h
  · exact tidy_foldl_fst tidy_compareSlot h

theorem tidy_sampleDelivery (h : Tidy a s) : Tidy a (sampleDelivery s) := by
  unfold sampleDelivery
  split
  · exact h
  · extract_lets was taken delivered stopped woken expired compared
    have hd : Tidy a delivered := tidy_firstPosition (tidy_deliverFront (tidy_mk h))
    have hs : Tidy a stopped := tidy_ite (tidy_lossStop hd) hd
    have hw : Tidy a woken := tidy_ite (tidy_wake hs) hs
    have he : Tidy a expired := tidy_awake hw tidy_posListExpiry
    exact tidy_fireMarks (tidy_foldl_fst tidy_compareSet he)

theorem tidy_referenceMark {ch : Nat} (h : Tidy a s) : Tidy a (referenceMark ch s) := by
  unfold referenceMark
  split
  · exact h
  · exact tidy_ite (tidy_onMark (tidy_modSc h)) (tidy_modSc h)

/-! #### The checks of FINISH -/

theorem tidy_imgVerifyEnd {medium : Bool} (h : Tidy a s) : Tidy a (imgVerifyEnd medium s) :=
  tidy_ite h (tidy_ite (tidy_raise (tidy_w (tidy_w (tidy_mk h)))) (tidy_raise (tidy_endSession h)))

/-! #### Resets and start-up (files 02 and 14) -/

/-- The register-field file written directly. -/
theorem tidy_regs {f : Field} {v : Nat} (h : Tidy a s) : Tidy a { s with regs := SMap.put s.regs f.key v f.reset } :=
  ⟨fun c => by
    obtain ⟨regs, rest⟩ := h.canonical c
    exact ⟨SMap.sorted_put _ _ _ regs, rest⟩, h.queue⟩

theorem tidy_showAgain {kind : Nat} {before : State} (h : Tidy a s) : Tidy a (showAgain kind before s) :=
  tidy_foldl tidy_regs h

theorem tidy_resetPll (h : Tidy a s) : Tidy a (resetPll s) :=
  tidy_wb h

theorem tidy_cutWrites (h : Tidy a s) : Tidy a (cutWrites s) :=
  have h := tidy_foldl (fun h => tidy_ite (tidy_w h) h) h
  tidy_ite (tidy_w h) h

theorem tidy_resetState {kind cause : Nat} (h : Tidy a s) : Tidy a (resetState kind cause s) := by
  unfold resetState
  refine tidy_showAgain (tidy_resetPll (tidy_cutWrites (tidy_w (tidy_w ⟨fun c => ?_, h.queue⟩))))
  obtain ⟨regs, keep, near, table, deep⟩ := h.canonical c
  refine ⟨sortedFrom_filter _ ?_, keep, ?_, ?_, deep⟩
  · unfold lostRegs
    split
    · simp only [List.foldl_cons, List.foldl_nil]
      exact SMap.sorted_put _ _ _ (SMap.sorted_put _ _ _ regs)
    · exact regs
  · dsimp only
    split
    · rfl
    · exact near
  · dsimp only
    split
    · exact table
    · rfl

theorem tidy_clockLost {refLost : Bool} (h : Tidy a s) : Tidy a (clockLost refLost s) :=
  tidy_ite h (tidy_lanesTake (tidy_wb (tidy_mk (tidy_modSaf (tidy_resetState h)))))

theorem tidy_readFrames {bank : Nat} {retries : List (Nat × Nat)} {n i : Nat} (h : Tidy a s) : Tidy a
    (readFrames bank retries n i s).1 := by
  induction n generalizing i s with
  | zero => exact h
  | succ n ih => exact tidy_ite_fst (ih (tidy_when h tidy_raise)) (tidy_when h tidy_raise)

theorem tidy_tryBank {bank : Nat} {retries : List (Nat × Nat)} (h : Tidy a s) : Tidy a (tryBank bank retries s).1 :=
  tidy_ite_fst h (tidy_ite_fst (tidy_fst (tidy_readFrames h)) (tidy_fst (tidy_w (tidy_readFrames h))))

theorem tidy_chooseBank {retries : List (Nat × Nat)} (h : Tidy a s) : Tidy a (chooseBank retries s).1 :=
  tidy_ite_fst h (tidy_ite_fst (tidy_fst (tidy_tryBank h)) (tidy_ite_fst (tidy_ite_fst
      (tidy_fst (tidy_raise (tidy_wb (tidy_tryBank (tidy_tryBank h))))) (tidy_fst (tidy_tryBank (tidy_tryBank h))))
      (tidy_fst (tidy_tryBank h))))

theorem tidy_placeCommon {rd : Rd} {len : Nat} (h : Tidy a s) : Tidy a (placeCommon rd len s) :=
  tidy_region h

theorem tidy_mapFacets (h : Tidy a s) : Tidy a (mapFacets s) := by
  refine tidy_countSpares (tidy_foldl (fun {s k} h => ?_) (tidy_mk h))
  split
  · exact tidy_modFacet h
  · exact h

theorem tidy_placeSsi2 {t : LaneTable} (h : Tidy a s) : Tidy a (placeSsi2 t s) :=
  tidy_w (tidy_w (tidy_w (tidy_wi (tidy_w (tidy_wb (tidy_w (tidy_wb (tidy_w
      (tidy_wb (tidy_w (tidy_w (tidy_w (tidy_wb (tidy_w (tidy_w (tidy_w h))))))))))))))))

theorem tidy_placeFields {sec : Nat → List Byte} {t : LaneTable} {e : Envelopes} (h : Tidy a s) : Tidy a
    (placeFields sec t e s) :=
  tidy_wb (tidy_w (tidy_w (tidy_w (tidy_w (tidy_w (tidy_foldl tidy_loadReg
      (tidy_foldl (fun h => tidy_foldl tidy_loadReg h) h)))))))

theorem tidy_placeImage {bank : Nat} (h : Tidy a s) : Tidy a (placeImage bank s) :=
  tidy_w (tidy_w (tidy_wb (tidy_w (tidy_w (tidy_foldl (fun h => tidy_ite (tidy_modEmu h) h)
      (tidy_placeSsi2 (tidy_placeFields (tidy_mk (tidy_placeCommon h)))))))))

theorem tidy_loadImage {retries : List (Nat × Nat)} (h : Tidy a s) : Tidy a (loadImage retries s) := by
  dsimp only [loadImage]
  split
  · exact tidy_recStartWith (tidy_raise (tidy_w (tidy_chooseBank h)))
  · split
    · exact tidy_recStartWith (tidy_raise (tidy_w (tidy_chooseBank h)))
    · exact tidy_recStartWith (tidy_countEngines (tidy_foldl tidy_setEngine
        (tidy_mapFacets (tidy_placeImage (tidy_chooseBank h)))))

theorem tidy_countReset (h : Tidy a s) : Tidy a (countReset s) :=
  tidy_recCounter h

theorem tidy_countCycle (h : Tidy a s) : Tidy a (countCycle s) :=
  tidy_ite (tidy_mk h) (tidy_w h)

theorem tidy_suppliesUp {vinMv coreMv side : Nat} (h : Tidy a s) : Tidy a (suppliesUp vinMv coreMv side s) :=
  have h := tidy_modPwr (tidy_w (tidy_mk (tidy_doRefresh (tidy_modFio (tidy_modPwr h)))))
  tidy_ite h (tidy_dimStep h)

theorem tidy_pllStart {locks : List Bool} {u : State} (h : Tidy a s) (start : pllStart locks s = some u) : Tidy a u := by
  unfold pllStart at start
  dsimp only at start
  split at start
  · cases start
  · cases start
    exact tidy_wb (tidy_w (tidy_wb (tidy_wb (tidy_wb h))))

theorem tidy_suppliesValid {vinMv coreMv : Nat} {locks : List Bool} {side : Nat} {retries : List (Nat × Nat)} (h : Tidy a s) :
    Tidy a (suppliesValid vinMv coreMv locks side retries s) := by
  unfold suppliesValid
  refine tidy_ite h ?_
  dsimp only
  split
  · exact tidy_mk (tidy_countCycle h)
  · next start => exact tidy_countReset (tidy_loadImage (tidy_suppliesUp (tidy_pllStart (tidy_countCycle h) start)))

theorem tidy_takeContacts {l c : Nat} (h : Tidy a s) : Tidy a (takeContacts l c s) :=
  tidy_modLane h

theorem tidy_setLoadCheck {l : Nat} (h : Tidy a s) : Tidy a (setLoadCheck s l) :=
  tidy_ite h (tidy_raise (tidy_modLane h))

theorem tidy_setLoadClear (h : Tidy a s) : Tidy a (setLoadClear s) :=
  tidy_ite (tidy_foldl tidy_modLane h) h

theorem tidy_laneChecks {contactsA contactsB : Nat} (h : Tidy a s) : Tidy a (laneChecks contactsA contactsB s) := by
  unfold laneChecks
  exact tidy_foldl tidy_modLane (tidy_foldl (fun h => tidy_ite h (tidy_setMismatch h))
    (tidy_takeContacts (tidy_takeContacts (tidy_setLoadClear (tidy_foldl tidy_setLoadCheck h)))))

theorem tidy_startEvents (h : Tidy a s) : Tidy a (startEvents s) :=
  tidy_ite (tidy_raise h) (tidy_modPwr (tidy_raise (tidy_raise h)))

theorem tidy_streamNext (h : Tidy a s) : Tidy a (streamNext s) := by
  dsimp only [streamNext]
  split
  · exact tidy_mk (tidy_dropSlot (tidy_w h))
  · exact tidy_raise (tidy_ite h (tidy_w h))

theorem tidy_chooseAtlas (h : Tidy a s) : Tidy a (chooseAtlas s) :=
  tidy_ite (tidy_atlasReady (tidy_wb (tidy_swapSlots h))) (tidy_ite (tidy_atlasReady (tidy_wb h)) (tidy_streamNext h))

theorem tidy_homing (h : Tidy a s) : Tidy a (homing s) :=
  tidy_foldl (fun h => tidy_ite (tidy_modDoor h) h) (tidy_ite (tidy_deckBegin h) h)

theorem tidy_controlReadyNow {contactsA contactsB : Nat} (h : Tidy a s) : Tidy a (controlReadyNow contactsA contactsB s) := by
  unfold controlReadyNow
  refine tidy_ite h ?_
  extract_lets ready
  exact tidy_chooseAtlas (tidy_homing (tidy_doRefresh (tidy_sendHello (tidy_showRole
      (tidy_listenUpdate (tidy_startEvents (tidy_mk (tidy_post (tidy_w (tidy_w (tidy_laneChecks h)))))))))))

theorem tidy_atlasStreamEnd {uncorr : Bool} (h : Tidy a s) : Tidy a (atlasStreamEnd uncorr s) :=
  tidy_ite h (have h := tidy_ite (tidy_copyCut h) (tidy_copySlot h); tidy_ite
                (tidy_streamNext (tidy_mk (tidy_raise (tidy_w h)))) (tidy_swapWhenFree (tidy_fillSlot h)))

theorem tidy_pllStart_getD {locks : List Bool} (h : Tidy a s) : Tidy a ((pllStart locks s).getD s) := by
  cases start : pllStart locks s with
  | none => exact h
  | some u => exact tidy_pllStart h start

theorem tidy_warmState {cause : Nat} (h : Tidy a s) : Tidy a (warmState cause s) :=
  tidy_pllStart_getD (tidy_resetState h)

theorem tidy_warmReset {cause side : Nat} {retries : List (Nat × Nat)} (h : Tidy a s) : Tidy a (warmReset cause side retries s)
    :=
  tidy_countReset (tidy_loadImage (tidy_w (tidy_warmState h)))

theorem tidy_cmdWarm {side : Nat} {retries : List (Nat × Nat)} (h : Tidy a s) : Tidy a (cmdWarm side retries s) :=
  tidy_ite h (tidy_ite (tidy_pwrRefuse h) (tidy_ite (tidy_wake (tidy_modPwr (tidy_pwrResult h))) (tidy_warmReset h)))

theorem tidy_parkExitWarm {side : Nat} (h : Tidy a s) : Tidy a (parkExitWarm side s) :=
  tidy_ite (tidy_parkExit h) (tidy_ite (tidy_warmReset (tidy_parkExit h))
      (tidy_noteStops (tidy_foldl tidy_tripCmdDo (tidy_modTrip (tidy_parkExit h)))))

theorem tidy_adoptExecute {side : Nat} {retries : List (Nat × Nat)} (h : Tidy a s) : Tidy a (adoptExecute side retries s) :=
  have h := tidy_ite (tidy_wb (tidy_modMir h)) h
  tidy_ite (tidy_modMir (tidy_warmReset h)) h

/-! #### The security block (file 15) -/

theorem tidy_modSec {f : SecState → SecState} (h : Tidy a s) : Tidy a (s.modSec f) :=
  tidy_mk h

theorem tidy_keyResult {result reason slot : Nat} (h : Tidy a s) : Tidy a (keyResult result reason slot s) :=
  tidy_w (tidy_w (tidy_w h))

theorem tidy_keyRefuse {reason slot : Nat} (h : Tidy a s) : Tidy a (keyRefuse reason slot s) :=
  tidy_when (tidy_keyResult h) tidy_raise

theorem tidy_keyCommand {p : Path} {enroll : Bool} {slot confirm : Nat} (h : Tidy a s) : Tidy a
    (keyCommand p enroll slot confirm s) := by
  unfold keyCommand
  split
  · exact tidy_keyResult (tidy_modSec h)
  · exact tidy_keyRefuse h

theorem tidy_keyCmdDone (h : Tidy a s) : Tidy a (keyCmdDone s) := by
  unfold keyCmdDone
  split
  · exact h
  · exact tidy_ite (tidy_raise (tidy_inc (tidy_keyResult (tidy_modSec (tidy_modSec h)))))
        (tidy_ite (tidy_keyRefuse (tidy_modSec h)) (tidy_ite (tidy_keyRefuse (tidy_modSec h))
        (tidy_raise (tidy_inc (tidy_keyResult (tidy_setPath (tidy_modSec (tidy_modSec h))))))))

theorem tidy_attestRefuse {reason : Nat} (h : Tidy a s) : Tidy a (attestRefuse reason s) :=
  tidy_raise (tidy_w (tidy_w h))

theorem tidy_attest {p : Path} (h : Tidy a s) : Tidy a (attest p s) :=
  tidy_ite (tidy_attestRefuse h) (tidy_ite (tidy_attestRefuse h) (tidy_ite (tidy_attestRefuse h)
      (tidy_modSec (tidy_w (tidy_incWrap h)))))

theorem tidy_attestDone (h : Tidy a s) : Tidy a (attestDone s) := by
  unfold attestDone
  split
  · exact h
  · exact tidy_ite (tidy_attestRefuse (tidy_modSec h)) (tidy_raise (tidy_w (tidy_w (tidy_modSec (tidy_took (tidy_modSec h))))))

theorem tidy_rngRead {p : Path} (h : Tidy a s) : Tidy a (rngRead p s) :=
  tidy_ite (tidy_answerRead (tidy_took h)) (tidy_answerRead h)

theorem tidy_secBufRead {p : Path} (h : Tidy a s) : Tidy a (secBufRead p s) :=
  tidy_answerRead (tidy_latch h)

/-! #### The access paths -/

theorem tidy_pairRead {p : Path} {a' : Nat} {others : List Nat} (h : Tidy a s) : Tidy a (pairRead p a' others s) :=
  tidy_answerRead (tidy_latch h)

theorem tidy_plainRead {p : Path} {a' : Nat} (h : Tidy a s) : Tidy a (plainRead p a' s) :=
  tidy_answerRead h

/-- What a table of effects does. -/
theorem tidy_effect {l : List (Nat × (State → State))} {k : Nat} {f : State → State}
    (all : ∀ x ∈ l, ∀ {s}, Tidy a s → Tidy a (x.2 s)) (found : lookup l k = some f) (h : Tidy a s) : Tidy a (f s) := by
  obtain ⟨x, at_, rfl⟩ := Option.map_eq_some_iff.mp found
  exact all x (List.mem_of_find?_eq_some at_) h

theorem tidy_readEffects {p : Path} : ∀ x ∈ readEffects p, ∀ {s}, Tidy a s → Tidy a (x.2 s) := by
  simp only [readEffects, List.forall_mem_cons]
  exact ⟨tidy_imgDigestRead, tidy_retCapPosRead, tidy_evtQRead, tidy_secBufRead, tidy_rngRead, by simp⟩

theorem tidy_readReg {p : Path} {k : Nat} (h : Tidy a s) : Tidy a (readReg p k s) := by
  unfold readReg
  refine tidy_ite (tidy_apRead h) ?_
  split
  · next found => exact tidy_effect tidy_readEffects found h
  · split
    · exact tidy_pairRead h
    · exact tidy_plainRead h

theorem tidy_readAt {p : Path} {a' : Nat} (h : Tidy a s) : Tidy a (readAt p a' s) :=
  tidy_ite (tidy_ite (tidy_raise (tidy_answerRead h)) (tidy_answerRead h)) (tidy_readReg h)

theorem tidy_fieldWrite {v : Nat} {f : Field} (h : Tidy a s) : Tidy a (fieldWrite v s f) := by
  unfold fieldWrite
  split
  · exact tidy_w h
  · exact tidy_w h
  · exact h

theorem tidy_plainWrite {a' v : Nat} (h : Tidy a s) : Tidy a (plainWrite a' v s) :=
  tidy_foldl tidy_fieldWrite h

theorem tidy_writeImgCtrl {p : Path} {v : Nat} (h : Tidy a s) : Tidy a (writeImgCtrl p v s) := by
  unfold writeImgCtrl
  split
  · exact tidy_imgWriteBegin h
  · exact tidy_imgWriteFinish h
  · exact tidy_imgWriteAbort h
  · exact tidy_ite (tidy_foreignWrite h) h

theorem tidy_writeImgLen {v : Nat} (h : Tidy a s) : Tidy a (writeImgLen v s) :=
  tidy_ite h (tidy_plainWrite h)

theorem tidy_writeImgStage {v : Nat} (h : Tidy a s) : Tidy a (writeImgStage v s) := by
  unfold writeImgStage
  split
  · exact tidy_imgStage h
  · exact tidy_imgStageAbort h
  · exact h

theorem tidy_writeTripCmd {v : Nat} (h : Tidy a s) : Tidy a (writeTripCmd v s) :=
  tidy_ite h (tidy_noteStops (tidy_tripCmd h))

theorem tidy_writeLoopCmd {v : Nat} (h : Tidy a s) : Tidy a (writeLoopCmd v s) := by
  unfold writeLoopCmd
  split
  · exact tidy_loopCmdClear h
  · exact tidy_loopCmdPeakClear h
  · exact h

theorem tidy_writeBtCmd {v : Nat} (h : Tidy a s) : Tidy a (writeBtCmd v s) := by
  unfold writeBtCmd
  split
  · exact tidy_btCmdStart h
  · exact tidy_btCmdAbort h
  · exact h

theorem tidy_writeFioCmd {v : Nat} (h : Tidy a s) : Tidy a (writeFioCmd v s) :=
  tidy_ite (tidy_fioClear h) h

theorem tidy_writeMirCmd {v : Nat} (h : Tidy a s) : Tidy a (writeMirCmd v s) := by
  unfold writeMirCmd
  split
  · exact tidy_mirCmd h tidy_cmdHandover
  · exact tidy_mirCmd h tidy_cmdRelease
  · exact tidy_mirCmd h tidy_cmdAttach
  · exact tidy_mirCmd h tidy_cmdAdopt
  · exact h

theorem tidy_writeLogCmd {v : Nat} (h : Tidy a s) : Tidy a (writeLogCmd v s) :=
  tidy_ite (tidy_logClear h) h

theorem tidy_writeRecCmd {v : Nat} (h : Tidy a s) : Tidy a (writeRecCmd v s) := by
  unfold writeRecCmd
  split
  · exact tidy_recCommit h
  · exact tidy_logRecClear h
  · exact h

theorem tidy_writePwrCmd {v : Nat} (h : Tidy a s) : Tidy a (writePwrCmd v s) := by
  unfold writePwrCmd
  split
  · exact tidy_pwrCmd h tidy_cmdWarm
  · exact tidy_pwrCmd h tidy_cmdFacet
  · exact tidy_pwrCmd h tidy_cmdPark
  · exact tidy_pwrCmd h tidy_cmdUnpark
  · exact h

theorem tidy_writeKeyCmd {p : Path} {v : Nat} (h : Tidy a s) : Tidy a (writeKeyCmd p v s) := by
  unfold writeKeyCmd
  split
  · exact tidy_keyCommand h
  · exact tidy_keyCommand h
  · exact h

theorem tidy_clearPending {n v : Nat} (h : Tidy a s) : Tidy a (clearPending n v s) :=
  tidy_mk h

theorem tidy_writeEffects {p : Path} {v : Nat} : ∀ x ∈ writeEffects p v, ∀ {s}, Tidy a s → Tidy a (x.2 s) := by
  simp only [writeEffects, List.forall_mem_cons]
  exact ⟨tidy_writeImgCtrl, tidy_writeImgLen, tidy_imgWriteData, tidy_imgActivate, tidy_writeImgStage, tidy_dspPeakClear,
    tidy_dspDoorbell, tidy_dspRelayCtrl, tidy_retStatClear, tidy_writeTripCmd, tidy_writeLoopCmd, tidy_rwsWrite, tidy_rwsWrite,
    tidy_writeBtCmd, tidy_writeFioCmd, tidy_addrCmd, tidy_snapRelease, tidy_writeMirCmd, tidy_writeLogCmd, tidy_setPath,
    tidy_logWallSet, tidy_writeRecCmd, tidy_apSelect, tidy_apCursor, tidy_writePwrCmd, tidy_writeKeyCmd,
    fun h => tidy_ite (tidy_attest h) h, tidy_setPath, by simp⟩

theorem tidy_writeReg {p : Path} {k v : Nat} (h : Tidy a s) : Tidy a (writeReg p k v s) := by
  unfold writeReg
  refine tidy_ite (tidy_clearPending h) (tidy_ite (tidy_setPath h) (tidy_ite (tidy_setPath h) ?_))
  split
  · next found => exact tidy_effect tidy_writeEffects found h
  · exact tidy_plainWrite h

theorem tidy_writeAt {p : Path} {a' v : Nat} (h : Tidy a s) : Tidy a (writeAt p a' v s).1 :=
  tidy_ite_fst h (tidy_ite_fst h (tidy_fst (tidy_writeReg h)))

theorem tidy_modHost {f : HostPort → HostPort} (h : Tidy a s) : Tidy a (s.modHost f) :=
  tidy_mk h

theorem tidy_respond {status addr data hold : Nat} (h : Tidy a s) : Tidy a (respond status addr data hold s) :=
  tidy_modHost h

theorem tidy_countRequest (h : Tidy a s) : Tidy a (countRequest s) :=
  tidy_modHost h

theorem tidy_hostRead {a' : Nat} (h : Tidy a s) : Tidy a (hostRead a' s) :=
  tidy_ite (tidy_respond (tidy_countRequest h)) (tidy_respond (tidy_fin (tidy_readAt (tidy_countRequest h))))

theorem tidy_hostRequest {f : List Byte} (h : Tidy a s) : Tidy a (hostRequest f s) :=
  tidy_ite (tidy_respond h) (tidy_ite (tidy_hostRead h) (tidy_ite (tidy_respond
      (tidy_fin (tidy_writeAt (tidy_countRequest h)))) (tidy_ite (tidy_respond (tidy_countRequest h)) (tidy_respond h))))

theorem tidy_hostFrame {f : List Byte} {gapNs : Nat} (h : Tidy a s) : Tidy a (hostFrame f gapNs s) :=
  tidy_ite h (tidy_ite (tidy_modHost (tidy_apFill h)) (tidy_hostRequest (tidy_modHost (tidy_apFill h))))

/-! #### Frames the module sends of itself -/

theorem tidy_mgmtAccess {x : MgmtReq} {acc : Nat × Nat} (h : Tidy a s) : Tidy a (mgmtAccess x acc s).1 := by
  unfold mgmtAccess
  split
  · exact tidy_ite_fst (tidy_apFill h) (tidy_fin (tidy_readAt (tidy_apFill h)))
  · exact tidy_ite_fst (tidy_apFill h) (tidy_fin (tidy_writeAt (tidy_apFill h)))
  · exact (tidy_apFill h)

theorem tidy_mgmtReply {x : MgmtReq} {entries : List Byte} (h : Tidy a s) : Tidy a (mgmtReply x entries s) :=
  tidy_sendFrame h

theorem tidy_mgmtRun {x : MgmtReq} {l : List (Nat × Nat)} {out : List Byte} (h : Tidy a s) : Tidy a (mgmtRun x l out s) := by
  induction l generalizing out s with
  | nil => exact tidy_mgmtReply (tidy_modNet h)
  | cons y l ih => exact tidy_ite (tidy_mgmtAccess h) (ih (tidy_mgmtAccess h))

theorem tidy_mgmtExecute (h : Tidy a s) : Tidy a (mgmtExecute s) := by
  unfold mgmtExecute
  split
  · exact h
  · exact tidy_ite (tidy_modNet h) (tidy_mgmtRun h)

/-! #### One microsecond without a command -/

theorem tidy_dimTime (h : Tidy a s) : Tidy a (dimTime s) :=
  tidy_ite (tidy_when (tidy_modPwr (tidy_recCounter h)) tidy_inc) (tidy_ite
      (tidy_when (tidy_modPwr (tidy_recCounter h)) tidy_inc) (tidy_ite (tidy_when (tidy_modPwr (tidy_recCounter h)) tidy_inc)
      h))

theorem tidy_periodic (h : Tidy a s) : Tidy a (periodic s) :=
  tidy_when (tidy_when (tidy_when h (fun h => tidy_awake h (fun h => tidy_foldl (fun h => tidy_wb (tidy_w h)) h)))
      (fun h => tidy_peak (tidy_w (tidy_took h)))) tidy_inc

theorem tidy_tick (h : Tidy a s) : Tidy a (tick s) :=
  tidy_ite (tidy_ite h (tidy_optimeStep h)) (tidy_linkResync (tidy_when (tidy_took
      (tidy_foldl tidy_loupeLate (tidy_ite (tidy_mk (tidy_dimTime (tidy_periodic
      (tidy_mk (tidy_modNet (tidy_took (tidy_optimeStep h))))))) (tidy_dimTime
      (tidy_periodic (tidy_mk (tidy_modNet (tidy_took (tidy_optimeStep h))))))))) tidy_modMir))

end

/-! ### The commands -/

section
variable {a s : State}

theorem tidyRes_noted {f : State → State} (h : Tidy a s) (hf : ∀ {s}, Tidy a s → Tidy a (f s)) : TidyRes a (noted f s) :=
  tidyRes_done (tidy_noteStops (hf h))

theorem tidyRes_exec {c : Instr} (h : Tidy a s) : TidyRes a (exec c s) :=
  match c with
  | .hostRead _ _ => tidyRes_done (tidy_hostFrame h)
  | .hostWrite _ _ => tidyRes_done (tidy_hostFrame h)
  | .hostNoOperation _ _ => tidyRes_done (tidy_hostFrame h)
  | .registerWrite _ _ _ => tidyRes_done (tidy_writeAt h)
  | .latchingRead _ _ => tidyRes_done (tidy_servedOn h (fun h => tidy_ite (tidy_readAt h) h))
  | .imgDigestRead _ => tidyRes_done (tidy_servedOn h (fun h => tidy_answerRead (tidy_latch h)))
  | .imgWriteBegin _ _ => tidyRes_done (tidy_servedOn h tidy_imgWriteBegin)
  | .imgWriteData _ _ => tidyRes_done (tidy_servedOn h tidy_imgWriteData)
  | .imgWriteFinish _ => tidyRes_done (tidy_servedOn h tidy_imgWriteFinish)
  | .imgWriteAbort _ => tidyRes_done (tidy_servedOn h tidy_imgWriteAbort)
  | .imgSessionTimeout => tidyRes_done (tidy_ite (tidy_raise (tidy_abortSession h)) h)
  | .imgVerifyEnd _ => tidyRes_done (tidy_imgVerifyEnd h)
  | .imgActivate _ _ => tidyRes_done (tidy_ite h (tidy_ite (tidy_raise (tidy_w (tidy_mk h))) (tidy_raise h)))
  | .imgStage _ => tidyRes_done (tidy_served h tidy_imgStage)
  | .imgStageAbort => tidyRes_done (tidy_served h tidy_imgStageAbort)
  | .atlasStagingEnd _ => tidyRes_done (tidy_atlasStagingEnd h)
  | .suppliesValid _ _ _ _ _ => tidyRes_done (tidy_suppliesValid h)
  | .controlReady _ _ => tidyRes_done (tidy_controlReadyNow h)
  | .atlasStreamEnd _ => tidyRes_done (tidy_atlasStreamEnd h)
  | .complete _ _ _ _ _ => tidyRes_done (tidy_awake h tidy_completeWith)
  | .completionCollect => tidyRes_done (tidy_awake h tidy_completionCollect)
  | .counterApply => tidyRes_done (tidy_awake h tidy_counterApply)
  | .readyListEntry => tidyRes_done (tidy_awake h tidy_readyListEntry)
  | .descriptorPlacement => tidyRes_done (tidy_awake h tidy_descriptorPlacement)
  | .delayInsert _ => tidyRes_done (tidy_awake h tidy_delayInsert)
  | .delayCancel _ _ _ => tidyRes_done (tidy_awake h (fun h => tidy_answerItem (tidy_delayCancel h)))
  | .timeListExpiry => tidyRes_done (tidy_awake h tidy_mk)
  | .portDelivery _ => tidyRes_done (tidy_awake h tidy_portDelivery)
  | .dspDoorbell _ => tidyRes_done (tidy_served h tidy_dspDoorbell)
  | .dspPeakClear _ => tidyRes_done (tidy_served h tidy_dspPeakClear)
  | .facetOverrun _ _ => tidyRes_done (tidy_awake h (fun h => tidy_overrunItem (tidy_dataWrites h)))
  | .dspRelayCtrl _ _ => tidyRes_done (tidy_served h (fun h => tidy_ite (tidy_relayRequest h) h))
  | .relayStart => tidyRes_done (tidy_relayStart h)
  | .relayCopyDone => tidyRes_done (tidy_relayCopyDone h)
  | .relaySwitch => tidyRes_done (tidy_relaySwitch h)
  | .facetStall _ => tidyRes_done (tidy_awake h tidy_facetStall)
  | .facetMemoryUncorr _ => tidyRes_done (tidy_facetMemoryUncorr h)
  | .faultRelayLoadDone => tidyRes_done (tidy_faultRelayLoadDone h)
  | .carPositionSample _ => tidyRes_done (tidy_mk h)
  | .sampleDelivery => tidyRes_done (tidy_sampleDelivery h)
  | .sincosLost _ => tidyRes_done (tidy_sincosLost h)
  | .referenceMark _ => tidyRes_done (tidy_referenceMark h)
  | .indexLost _ => tidyRes_done (tidy_indexLost h)
  | .adcCalSwap _ _ _ => tidyRes_done (tidy_adcCalSwap h)
  | .quadEdge _ _ _ _ => tidyRes_done (tidy_quadEdge h)
  | .emulatorEdge _ => tidyRes_done (tidy_ite h (tidy_modEmu h))
  | .ssiFrameStart => tidyRes_done (tidy_ssiBegin h)
  | .ssiFrameEnd _ _ => tidyRes_done (tidy_ssiEnd h)
  | .slip => tidyRes_done (tidy_slipLatch h)
  | .ssiLost _ => tidyRes_done (tidy_ite (tidy_raisePos (tidy_modSsi (tidy_wb h))) h)
  | .ssiRestored _ => tidyRes_done (tidy_ite (tidy_raisePos (tidy_wb h)) h)
  | .laneBSsiFrame _ _ _ => tidyRes_done (tidy_ssiFrame (tidy_modLane h))
  | .referencePoint _ _ => tidyRes_done (tidy_referencePoint h)
  | .reticleLoad _ _ => tidyRes_done (tidy_graphDoes h tidy_reticleLoad)
  | .reticleLoadDone _ _ => tidyRes_done (tidy_reticleLoadDone h)
  | .reticleCancel _ => tidyRes_done (tidy_graphDoes h (fun h => tidy_loadEnded (tidy_modSet h)))
  | .reticleSwap _ => tidyRes_done (tidy_graphDoes h tidy_swapCommand)
  | .postDelivery => tidyRes_done (tidy_postDelivery h)
  | .retCapPosRead _ => tidyRes_done (tidy_servedOn h (fun h => tidy_mk (tidy_answerRead (tidy_latch h))))
  | .retStatClear _ => tidyRes_done (tidy_served h (fun h => tidy_ite h (tidy_clear h)))
  | .evaluatorStep _ => show TidyRes a (execEvaluatorStep _ s) from tidyRes_noted h (fun h => tidy_awake h tidy_evaluatorStep)
  | .segTimeout _ => show TidyRes a (execSegTimeout _ s) from tidyRes_noted h (fun h => tidy_awake h tidy_segTimeout)
  | .tripLimit => show TidyRes a (execTripLimit s) from tidyRes_noted h (fun h => tidy_awake h
      (fun h => tidy_ite h (tidy_tripLimit h)))
  | .spliceCommand => tidyRes_done (tidy_awake h tidy_spliceCommand)
  | .assign _ _ _ _ _ => tidyRes_ite (tidyRes_done (tidy_awake h fun h => tidy_answer h tidy_assign)) (tidyRes_done h)
  | .cancelRequest _ _ _ => tidyRes_ite (tidyRes_done (tidy_awake h fun h => tidy_answer h tidy_cancelAnswer)) (tidyRes_done h)
  | .spliceItem _ => tidyRes_done (tidy_noteStops (tidy_awake h tidy_spliceItem))
  | .tripStart => show TidyRes a (execTripStart s) from tidyRes_noted h (fun h => tidy_awake h tidy_tripStart)
  | .tripBegin => show TidyRes a (execTripBegin s) from tidyRes_noted h (fun h => tidy_awake h tidy_tripBegin)
  | .levellingStart => show TidyRes a (execLevellingStart s) from tidyRes_noted h (fun h => tidy_awake h tidy_levellingStart)
  | .confChangeItem => tidyRes_done (tidy_noteStops (tidy_awake h tidy_confChange))
  | .tripCmdOutOfService _ => show TidyRes a (execTripCmdOutOfService _ s) from tidyRes_noted h
      (fun h => tidy_served h tidy_tripCmd)
  | .tripCmdReturn _ => show TidyRes a (execTripCmdReturn _ s) from tidyRes_noted h (fun h => tidy_served h tidy_tripCmd)
  | .tripCmdRescue _ _ => show TidyRes a (execTripCmdRescue _ _ s) from tidyRes_noted h (fun h => tidy_served h tidy_tripCmd)
  | .neighbourFrame _ _ => tidyRes_done (tidy_noteStops (tidy_kindFrame h))
  | .neighbourTimeout _ => tidyRes_done (tidy_ite h (tidy_nbrReport h))
  | .separationClear => show TidyRes a (execSeparationClear s) from tidyRes_noted h (fun h => tidy_awake h tidy_separationClear)
  | .sepWait => tidyRes_done (tidy_sepWait h)
  | .carLoopPeriod _ _ => show TidyRes a (execCarLoopPeriod _ _ s) from tidyRes_noted h tidy_pairPeriod
  | .doorLoopPeriod _ _ _ => tidyRes_done (tidy_awake h tidy_doorLoopPeriod)
  | .followErr _ => tidyRes_done (tidy_followErr h)
  | .drivelinkResponse _ _ => tidyRes_done (tidy_driveResponse h)
  | .drivelinkResponseMissing _ => tidyRes_done (tidy_ite (tidy_dlBad h) h)
  | .drivelinkLost _ => tidyRes_done (tidy_drivelinkLost h)
  | .loopEngineUncorr _ => tidyRes_done (tidy_engineUncorr h)
  | .deckMoveStart => tidyRes_done (tidy_awake h tidy_deckMoveStart)
  | .doorStart _ _ => tidyRes_done (tidy_graphDoes h tidy_doorStartCmd)
  | .doorOpenRelease _ => tidyRes_done (tidy_awake h tidy_doorOpenRelease)
  | .doorStop _ => tidyRes_done (tidy_graphDoes h tidy_doorStopCmd)
  | .doorReversal _ => tidyRes_done (tidy_awake h tidy_doorReversal)
  | .doorFault _ => tidyRes_done (tidy_ite (tidy_doorFault h) h)
  | .loopCmdClear _ _ => tidyRes_done (tidy_served h tidy_loopCmdClear)
  | .loopCmdPeakClear _ _ => tidyRes_done (tidy_served h tidy_loopCmdPeakClear)
  | .laneAPeriodStart _ => tidyRes_done (tidy_laneAStart h)
  | .laneBPeriodStart _ _ => tidyRes_done (tidy_laneBStart h)
  | .prismRecord _ _ _ => tidyRes_done (tidy_modLane h)
  | .comparisonPoint _ _ => tidyRes_done (tidy_comparison h)
  | .prismLink _ _ => tidyRes_done (tidy_comparisonIf h)
  | .laneClock _ _ => tidyRes_done (tidy_comparisonIf h)
  | .lanePosDiff _ _ => tidyRes_done (tidy_comparisonIf h)
  | .switchDisagree _ _ => tidyRes_done (tidy_comparisonIf h)
  | .laneRequestChange _ _ => tidyRes_done (tidy_requestChange h)
  | .laneSampleInstant _ _ _ _ _ _ _ _ => show TidyRes a (execLaneSampleInstant _ _ _ _ _ _ _ _ s) from tidyRes_noted h
      tidy_laneSample
  | .brakeTimeout _ _ => show TidyRes a (execBrakeTimeout _ _ s) from tidyRes_noted h
      (fun h => tidy_portNine (tidy_laneFunctions (tidy_brakeTimeout h)))
  | .fastInputDemand _ _ _ _ => show TidyRes a (execFastInputDemand _ _ _ _ s) from tidyRes_noted h
      (fun h => tidy_ite (tidy_fastOff (tidy_ite (tidy_setChannel h) h)) h)
  | .testSequenceStart => tidyRes_done (tidy_testSequenceStart h)
  | .recheckSequenceStart => tidyRes_done (tidy_ite (tidy_modSaf (tidy_sequenceBegin h)) h)
  | .testPulseStart _ => tidyRes_done (tidy_pulseStart h)
  | .testPulseEnd _ _ _ _ _ _ _ _ => tidyRes_done (tidy_pulseEnd h)
  | .poleReadbackCheck _ _ _ => tidyRes_done (tidy_readbackCheck (tidy_modLane h))
  | .tpFault _ => tidyRes_done (tidy_tpFault h)
  | .sealSwitchChange _ _ _ _ => tidyRes_done (tidy_ite h (tidy_ite (tidy_laneSwitch h) (tidy_mainSwitch h)))
  | .rwsWrite _ _ => tidyRes_done (tidy_served h tidy_rwsWrite)
  | .safParamConfirm _ => tidyRes_done (tidy_served h tidy_rwsWrite)
  | .overrideApply _ => tidyRes_done (tidy_overrideApply h)
  | .brakeTestDue => tidyRes_done (tidy_ite h (tidy_w (tidy_modBt h)))
  | .brakeTestOverdue => tidyRes_done (tidy_ite h (tidy_raise (tidy_wb h)))
  | .safBtCmdStart _ => tidyRes_done (tidy_served h tidy_btCmdStart)
  | .safBtCmdAbort _ => tidyRes_done (tidy_served h tidy_btCmdAbort)
  | .brakeTestStart => tidyRes_done (tidy_ite (tidy_brakeBegin h) h)
  | .brakeTestPhaseEnd => tidyRes_done (tidy_brakePhaseEnd h)
  | .brakeTestEnd => tidyRes_done (tidy_ite (tidy_brakePass (tidy_brakeWatch h)) (tidy_brakeWatch h))
  | .lockCheck _ _ => tidyRes_done (tidy_portNine (tidy_laneFunctions (tidy_lockCheck h)))
  | .sepStale _ _ => tidyRes_done (tidy_sepStale h)
  | .resetPulse _ _ _ => tidyRes_done (tidy_ite (tidy_modLane (tidy_modLane h)) (tidy_modLane h))
  | .stuckReset _ _ => tidyRes_done (tidy_ite h (tidy_when (tidy_modLane h) tidy_raise))
  | .standardInputSample _ _ _ => tidyRes_done (tidy_inputSample h)
  | .diUndefined _ => tidyRes_done (tidy_ite h (tidy_diSet (tidy_raise (tidy_setPair h))))
  | .doOverload _ => tidyRes_done (tidy_doOverload h)
  | .doOverloadRetry _ => tidyRes_done (tidy_doRetry h)
  | .fioCmdClearOverload _ _ => tidyRes_done (tidy_served h tidy_fioClear)
  | .doReadbackCheck _ _ _ => tidyRes_done (tidy_doReadback h)
  | .standardTestSequence => tidyRes_done (tidy_standardSequence h)
  | .doPulseStart _ => tidyRes_done (tidy_doPulseStart h)
  | .doPulseEnd _ => tidyRes_done (tidy_doPulseEnd h)
  | .groupSilent _ => tidyRes_done (tidy_ite h (tidy_silence h))
  | .aliveCountReturn _ => tidyRes_done (tidy_aliveReturn h)
  | .doHoldExpiry _ => tidyRes_done (tidy_holdExpiry h)
  | .fieldPowerFail => tidyRes_done (tidy_foldl tidy_modLane (tidy_modFio h))
  | .fsBand _ => tidyRes_done (tidy_ite h (tidy_raise (tidy_w h)))
  | .couplerCheck _ _ _ _ => tidyRes_done (tidy_couplerCheck h)
  | .cplOrderlyTakeover _ => tidyRes_done (tidy_cplTakeover h)
  | .cplComparisonEnd _ _ _ => tidyRes_done (tidy_cplCompareEnd h)
  | .cplLaneFail _ _ => show TidyRes a (execCplLaneFail _ _ s) from tidyRes_noted h tidy_cplFail
  | .linkUp _ => tidyRes_done (tidy_ite h (tidy_raise (tidy_w h)))
  | .linkDown _ => tidyRes_done (tidy_linkDown h)
  | .frameReceived _ _ _ => tidyRes_done (tidy_noteStops (tidy_frameReceived h))
  | .frameTransmit _ => tidyRes_done (tidy_transmit h)
  | .dualPathDeadline => tidyRes_done (tidy_pathDeadlines h)
  | .singlePathExpired => tidyRes_done (tidy_noteStops (tidy_pathExpiries h))
  | .neighbourSend => tidyRes_done (tidy_ite h (tidy_sendFrame (tidy_modNet h)))
  | .statusSend => tidyRes_done (tidy_ite h (tidy_mk (tidy_sendFrame (tidy_modNet h))))
  | .eventFrameSend => tidyRes_done (tidy_ite h (tidy_mk (tidy_sendFrame h)))
  | .requestFrame => tidyRes_done (tidy_awake h tidy_takeRequest)
  | .resetPress => tidyRes_done (tidy_takeReset h)
  | .resetRelease => tidyRes_done (tidy_takeReset h)
  | .resetPressTimeout => tidyRes_done (tidy_pressTimeout h)
  | .resetAbandonEnd => tidyRes_done (tidy_abandonEnd h)
  | .snapshotFrame _ _ => tidyRes_done (tidy_kindFrame h)
  | .snapshotCapture => tidyRes_done (tidy_ite h (tidy_modNet (tidy_wb h)))
  | .snapshotBankCopy => tidyRes_done (tidy_bankCopy h)
  | .mgmtReqFrame _ _ => tidyRes_done (tidy_kindFrame h)
  | .mgmtExecute => tidyRes_done (tidy_mgmtExecute h)
  | .enumerateFrame _ _ => tidyRes_done (tidy_kindFrame h)
  | .enumerateDecision => tidyRes_done (tidy_enumDecision h)
  | .netAddrCmdClear _ _ => tidyRes_done (tidy_served h tidy_addrCmd)
  | .adjSend => tidyRes_done (tidy_adjSend h)
  | .adjFrame _ _ => tidyRes_done (tidy_kindFrame h)
  | .adjAbsent _ => tidyRes_done (tidy_ite (tidy_setAdj h) h)
  | .ptpSync _ _ _ _ _ _ => tidyRes_done (tidy_ptpSync h)
  | .ptpSyncTimeout _ => tidyRes_done (tidy_ptpTimeout h)
  | .pdelayReqSend _ => tidyRes_done (tidy_ite h (tidy_enqueue (tidy_modPort h)))
  | .pdelayReq _ _ => tidyRes_done (tidy_pdelayReq h)
  | .announce _ _ => tidyRes_done (tidy_announce h)
  | .netSnapRelease _ => tidyRes_done (tidy_served h (fun h => tidy_foldl (fun h => tidy_ite (tidy_setBank h) h) h))
  | .helloSend => tidyRes_done (tidy_ite (tidy_sendHello h) h)
  | .hello _ _ _ => tidyRes_done (tidy_linkTake h tidy_helloTake)
  | .mirLinkDown => tidyRes_done (tidy_mirLinkDown h)
  | .stateMessage _ _ => tidyRes_done (tidy_stateMessage h)
  | .mirClean => tidyRes_done (tidy_mirClean h)
  | .heartbeatMissing => tidyRes_done (tidy_heartbeatMissing h)
  | .takeover => show TidyRes a (execTakeover s) from tidyRes_noted h tidy_takeover
  | .journal _ _ => tidyRes_done (tidy_linkTake h (fun h => tidy_ite (tidy_applyJournal h) h))
  | .syncReq _ _ => tidyRes_done (tidy_linkTake h (fun h => tidy_sendSync (tidy_modMir h)))
  | .sync _ _ => tidyRes_done (tidy_linkTake h tidy_syncMessage)
  | .handoverMessage _ _ _ => tidyRes_done (tidy_linkTake h (fun h => tidy_ite h (tidy_ite (tidy_modMir h) (tidy_modMir h))))
  | .neighboursMessage _ _ => tidyRes_done (tidy_linkTake h (fun h => tidy_chainCheck (tidy_modNet h)))
  | .commandMessage _ _ _ => tidyRes_done (tidy_linkTake h (fun h => tidy_ite (tidy_sendLink (tidy_modMir h)) h))
  | .roleLineChange _ _ => tidyRes_done (tidy_roleLineChange h)
  | .roleLineDrop => tidyRes_done (tidy_ite (tidy_lanesTake (tidy_dropLine h)) h)
  | .reqHoldExpiry => show TidyRes a (execReqHoldExpiry s) from tidyRes_noted h tidy_reqHoldExpiry
  | .mirCmdHandover _ => tidyRes_done (tidy_served h (fun h => tidy_mirCmd h tidy_cmdHandover))
  | .autoHandover => tidyRes_done (tidy_autoHandover h)
  | .handoverExecute => tidyRes_done (tidy_handoverExecute h)
  | .mirCmdRelease _ => tidyRes_done (tidy_served h (fun h => tidy_mirCmd h tidy_cmdRelease))
  | .mirCmdAttach _ => tidyRes_done (tidy_served h (fun h => tidy_mirCmd h tidy_cmdAttach))
  | .mirCmdAdopt _ => tidyRes_done (tidy_served h (fun h => tidy_mirCmd h tidy_cmdAdopt))
  | .adoptExecute _ _ => tidyRes_done (tidy_adoptExecute h)
  | .adoptHoldRelease => tidyRes_done (tidy_adoptRelease h)
  | .memoryUncorrectable _ _ _ => tidyRes_done (tidy_memoryUncorrectable h)
  | .memoryRemapStart _ _ _ => tidyRes_done (tidy_ite h (tidy_modMem h))
  | .memoryRemapSwitch => tidyRes_done (tidy_remapSwitch h)
  | .deepBlockFail _ => tidyRes_done (tidy_deepBlockFail h)
  | .nearStoreScrub _ _ => tidyRes_done (tidy_storeScrub h)
  | .tableStoreScrub _ _ => tidyRes_done (tidy_storeScrub h)
  | .keepStoreScrub _ => tidyRes_done (tidy_foldl tidy_keepUncorr (tidy_loupeRan h))
  | .deepStorePatrol _ _ => tidyRes_done (tidy_deepPatrol h)
  | .facetMarginCheck _ _ _ => tidyRes_done (tidy_facetMarginCheck h)
  | .telemetry => tidyRes_done (tidy_loupeRan h)
  | .evtQSrcRead _ => tidyRes_done (tidy_servedOn h tidy_evtQRead)
  | .logCmdClear _ => tidyRes_done (tidy_served h tidy_logClear)
  | .logWallSet _ _ => tidyRes_done (tidy_served h (fun h => tidy_ite (tidy_wb h) (tidy_clockStep (tidy_mk h))))
  | .logMediumFail _ _ _ => tidyRes_done (tidy_logMediumFail h)
  | .logStopped _ => tidyRes_done (tidy_logStopped h)
  | .recorderCommit _ => tidyRes_done (tidy_ite h (tidy_recCommit h))
  | .logRecCmdCommit _ => tidyRes_done (tidy_served h tidy_recCommit)
  | .logRecCmdClear _ _ => tidyRes_done (tidy_served h tidy_logRecClear)
  | .apertureSelect _ _ => tidyRes_done (tidy_servedOn h (fun h => tidy_apAccess h tidy_apSelect))
  | .apertureCursor _ _ => tidyRes_done (tidy_servedOn h (fun h => tidy_apAccess h tidy_modAp))
  | .apertureFill _ => tidyRes_done (tidy_apFill h)
  | .apertureAdvance _ => tidyRes_done (tidy_servedOn h (fun h => tidy_apAccess h tidy_apRead))
  | .vinBand _ => tidyRes_done (tidy_vinSample h)
  | .dimStepDown _ _ => tidyRes_done (tidy_dimWatch (tidy_ite (tidy_dimStep h) (tidy_w h)))
  | .dimStepUp _ _ => tidyRes_done (tidy_dimUp h)
  | .pllSwitch _ _ => tidyRes_done (tidy_pllCheck h)
  | .pllMarginCheck _ _ _ => tidyRes_done (tidy_pllMargins h)
  | .clockLost _ => tidyRes_done (tidy_clockLost h)
  | .pllRetry _ => tidyRes_done (tidy_ite h (tidy_ite (tidy_mk (tidy_resetState h)) (tidy_mk h)))
  | .pwrCmdPark _ => tidyRes_done (tidy_served h (fun h => tidy_pwrCmd h tidy_cmdPark))
  | .pwrCmdUnpark _ => tidyRes_done (tidy_served h (fun h => tidy_pwrCmd h tidy_cmdUnpark))
  | .parkExit _ => tidyRes_done (tidy_parkExitWarm h)
  | .pwrCmdWarm _ _ _ => tidyRes_done (tidy_pwrCmd h tidy_cmdWarm)
  | .pwrCmdFacet _ _ => tidyRes_done (tidy_served h (fun h => tidy_pwrCmd h tidy_cmdFacet))
  | .powerFail => tidyRes_done (tidy_foldl tidy_linkDown (tidy_modNet (tidy_wb h)))
  | .dipReset _ => tidyRes_done (tidy_ite h (tidy_resetState h))
  | .powerOnReset _ => tidyRes_done (tidy_resetState h)
  | .temperatureRead _ => tidyRes_done (tidy_foldl tidy_tempRead h)
  | .optimeWrap => tidyRes_done (tidy_ite (tidy_optimeStep h) h)
  | .secKeyEnroll _ _ _ => tidyRes_done (tidy_servedOn h tidy_keyCommand)
  | .secKeyRemove _ _ _ => tidyRes_done (tidy_servedOn h tidy_keyCommand)
  | .keyCmdDone => tidyRes_done (tidy_keyCmdDone h)
  | .secAttAttest _ => tidyRes_done (tidy_servedOn h tidy_attest)
  | .attestDone => tidyRes_done (tidy_attestDone h)
  | .secRngRead _ => tidyRes_done (tidy_servedOn h (fun h => tidy_ite (tidy_answerRead (tidy_took h)) (tidy_answerRead h)))
  | .rngFail _ => tidyRes_done (tidy_raise (tidy_inc (tidy_wb h)))
  | .rngOk => tidyRes_done (tidy_ite h (tidy_raise (tidy_wb h)))
  | .identityCheck _ => tidyRes_done (tidy_when (tidy_modSec (tidy_wb h)) tidy_raise)
  | .sw2Changed _ => tidyRes_done (tidy_sw2Change h)
  | .secBufRead _ => tidyRes_done (tidy_servedOn h (fun h => tidy_answerRead (tidy_latch h)))
  | .phyReady _ => tidyRes_done (tidy_modNet h)
  | .pdelayResp _ _ _ => tidyRes_done (tidy_ite h (tidy_w (tidy_modPort h)))
  | .encSupply _ _ _ => tidyRes_done (tidy_ite (tidy_raisePos (tidy_mk h)) (tidy_mk h))
  | .railWarn _ _ => tidyRes_done (tidy_ite h (tidy_raise (tidy_w h)))
  | .relayCodeLoaded => tidyRes_done (tidy_relayCodeLoaded h)
  | .ssiNoFrame _ => tidyRes_done (tidy_ssiNoFrame h)
  | .outputCurrentLimit _ _ => tidyRes_done (tidy_currentLimit h)

end

/-- A step without a command is tidy; one that runs a command takes that command alone from the queue. -/
theorem canonical_step {s t : State} (canonical : Canonical s) (run : step s = .next t) : Canonical t := by
  unfold step at run
  split at run
  · exact (tidyRes_done (tidy_tick (tidy_refl s)) t run).canonical canonical
  · next c rest _ => exact (tidyRes_exec (tidy_refl { s with pending := rest }) t run).canonical canonical

end Sys2Proof.Machine

namespace Sys2Proof

open Sys2Proof.Machine

/-- Settles O57: every operation that commands are made of keeps the canonical form of the stores and the queue (Tidy). -/
theorem stepsKeepTheStoresCanonical : Obligations.StepsKeepTheStoresCanonical := by
  unfold Obligations.StepsKeepTheStoresCanonical
  exact ⟨fun s t canonical run => canonical_step canonical run, fun c s t run => (tidyRes_exec (tidy_refl s) t run).queue⟩

end Sys2Proof

/-! PROOFS. What every read by a path leaves alone (R25, R27, R394, R396), and the frames of the host port (R28 to R31): reads, writes,
no-operation, and the frames that execute nothing. -/

namespace Sys2Proof

open Sys2Proof.Machine

/-! ### Reads -/

/-- What no read by a path changes: the host port, the network block, the memories, and every register field but BANKS (R27, R396). -/
structure ReadKeeps (s t : Machine.State) : Prop where
  host : t.host = s.host
  net : t.net = s.net
  memory : SameMemory s t
  regs : RegsBut [Reg.NET_SNAP_STATUS_BANKS] s t

section
variable {s t u : Machine.State}

theorem SameMemory.refl (s : Machine.State) : SameMemory s s := ⟨rfl, rfl, rfl, rfl⟩

theorem SameMemory.trans (h : SameMemory s t) (h' : SameMemory t u) : SameMemory s u := by
  obtain ⟨keep, deep, near, table⟩ := h
  obtain ⟨keep', deep', near', table'⟩ := h'
  exact ⟨keep'.trans keep, deep'.trans deep, near'.trans near, table'.trans table⟩

theorem ReadKeeps.refl (s : Machine.State) : ReadKeeps s s := ⟨rfl, rfl, .refl s, .refl _ s⟩

theorem ReadKeeps.trans (h : ReadKeeps s t) (h' : ReadKeeps t u) : ReadKeeps s u :=
  ⟨h'.host.trans h.host, h'.net.trans h.net, h.memory.trans h'.memory, h.regs.trans h'.regs⟩

theorem ReadKeeps.ite {c : Prop} {_ : Decidable c} (ht : ReadKeeps s t) (hu : ReadKeeps s u) : ReadKeeps s (if c then t else u) := by
  split <;> assumption

theorem ReadKeeps.setPath (h : ReadKeeps s t) (p : Path) (x : PathState) : ReadKeeps s (t.setPath p x) := by
  cases p <;> exact ⟨h.host, h.net, h.memory, h.regs⟩

theorem ReadKeeps.answerRead (h : ReadKeeps s t) (p : Path) (v : Nat) : ReadKeeps s (t.answerRead p v) := h.setPath p _

theorem ReadKeeps.latch (h : ReadKeeps s t) (p : Path) (ws : SMap Nat) : ReadKeeps s (t.latch p ws) := h.setPath p _

theorem ReadKeeps.modAp (h : ReadKeeps s t) (p : Path) (f : Aperture → Aperture) : ReadKeeps s (t.modAp p f) := h.setPath p _

theorem ReadKeeps.ev (h : ReadKeeps s t) (e : EvState) : ReadKeeps s { t with ev := e } := ⟨h.host, h.net, h.memory, h.regs⟩

theorem ReadKeeps.ret (h : ReadKeeps s t) (r : RetState) : ReadKeeps s { t with ret := r } := ⟨h.host, h.net, h.memory, h.regs⟩

theorem ReadKeeps.took (h : ReadKeeps s t) : ReadKeeps s t.took := ⟨h.host, h.net, h.memory, h.regs⟩

theorem ReadKeeps.raise (h : ReadKeeps s t) (e : Evt) (l : List Arg) : ReadKeeps s (t.raise e l) :=
  ⟨h.host, h.net, h.memory, h.regs⟩

theorem ReadKeeps.fin (h : ReadKeeps s t) : ReadKeeps s t.fin :=
  ⟨t.fin_host.trans h.host, t.fin_net.trans h.net, (sameMemory_fin s t).mpr h.memory, (regsBut_fin _ s t).mpr h.regs⟩

/-- A snapshot bank's state is read out of the register BANKS alone. -/
theorem ReadKeeps.setBank (h : ReadKeeps s t) (b v : Nat) : ReadKeeps s (setBank b v t) := by
  have shown {u : Machine.State} (n : Nat) (hu : ReadKeeps s u) : ReadKeeps s (u.w Reg.NET_SNAP_STATUS_BANKS n) :=
    ⟨hu.host, hu.net, hu.memory, hu.regs.w n (by simp)⟩
  exact shown _ (ReadKeeps.ite h ⟨h.host, h.net, h.memory, h.regs⟩)

theorem ReadKeeps.bankReading (h : ReadKeeps s t) (p : Path) (b : Nat) : ReadKeeps s (bankReading p b t) :=
  ReadKeeps.ite ((h.setBank b 2).modAp p _) h

/-- An aperture's fill (R394, R396). -/
theorem readKeeps_apFill (p : Path) (s : Machine.State) : ReadKeeps s (apFill p s) := by
  have h := ReadKeeps.refl s
  exact h.ite ((h.modAp p _).ite (((h.modAp p _).ite (h.modAp p _)).ite ((h.modAp p _).ite ((h.modAp p _).ite
    ((h.bankReading p _).modAp p _)))))

theorem ReadKeeps.apRead (h : ReadKeeps s t) (p : Path) (w : Nat) : ReadKeeps s (apRead p w t) := by
  have bank {u : Machine.State} (hu : ReadKeeps s u) : ReadKeeps s (bankRead p w u) := hu.ite ((hu.setBank _ 3).ite hu)
  have answered := bank (h.answerRead p (nth (t.path p).ap.win w 0))
  exact answered.ite (answered.modAp p _)

end

/-- The reads with an effect of their own, register by register. -/
theorem readKeeps_readEffects (p : Path) (s : Machine.State) : ∀ x ∈ readEffects p, ReadKeeps s (x.2 s) := by
  have h := ReadKeeps.refl s
  have queue : ReadKeeps s (evtQRead p s) := by
    unfold evtQRead
    split
    · exact h.answerRead p _
    · exact ((h.ev _).latch p _).answerRead p _
  have capture : ReadKeeps s (retCapPosRead p s) := ((h.latch p _).answerRead p _).ret _
  have random : ReadKeeps s (rngRead p s) := (h.took.answerRead p _).ite (h.answerRead p 0)
  simp only [readEffects, List.forall_mem_cons]
  exact ⟨(h.latch p _).answerRead p _, capture, queue, (h.latch p _).answerRead p _, random, by simp⟩

theorem readKeeps_readReg (p : Path) (a : Nat) (s : Machine.State) : ReadKeeps s (readReg p a s) := by
  have h := ReadKeeps.refl s
  unfold readReg
  refine ReadKeeps.ite (h.apRead p _) ?_
  split
  · next f found =>
    obtain ⟨x, at_, rfl⟩ := Option.map_eq_some_iff.mp found
    exact readKeeps_readEffects p s x (List.mem_of_find?_eq_some at_)
  · split
    · exact (h.latch p _).answerRead p _
    · exact h.answerRead p _

/-- A read by address, of a register or of a memory window. -/
theorem readKeeps_readAt (p : Path) (a : Nat) (s : Machine.State) : ReadKeeps s (readAt p a s) := by
  have answered := (ReadKeeps.refl s).answerRead p (s.windowWord a)
  exact ReadKeeps.ite ((answered.raise _ _).ite answered) (readKeeps_readReg p a s)

/-! ### Frames of the host port -/

section
variable {s : Machine.State} {f : List Byte} {gap : Nat}

/-- The state in which a frame that found the previous result ready is executed: the response has been shifted out. -/
def shiftedOut (s : Machine.State) : Machine.State := (apFill .host s).modHost fun h => { h with miso := responseBytes s.host.resp }

theorem apFill_idle {p : Path} (idle : (s.path p).ap.filling = false) : apFill p s = s := if_pos (by simp [idle])

theorem hostFrame_ready (up : s.down = false) (ready : s.hostWait ≤ gap) : hostFrame f gap s = hostRequest f (shiftedOut s) := by
  unfold hostFrame
  rw [if_neg (by simp [up]), if_neg (by omega)]
  rfl

theorem hostFrame_early (up : s.down = false) (idle : s.pathHost.ap.filling = false) (early : gap < s.hostWait) :
    hostFrame f gap s = s.modHost fun h => { h with miso := responseBytes ⟨8 + s.hostStatus, 0, 0⟩, holdNs := 0 } := by
  unfold hostFrame
  rw [if_neg (by simp [up]), if_pos early, apFill_idle (p := .host) idle]

theorem hostRequest_read (good : frameGood f = true) (op : leAt f 0 1 = 0x0B) : hostRequest f s = hostRead (leAt f 1 4) s := by
  simp [hostRequest, good, op]

theorem hostRequest_write (good : frameGood f = true) (op : leAt f 0 1 = 0x02) :
    hostRequest f s = hostWrite (leAt f 1 4) (leAt f 5 4) s := by
  simp [hostRequest, good, op]

theorem hostRequest_noOperation (good : frameGood f = true) (op : leAt f 0 1 = 0) :
    hostRequest f s = respond 0 0 0 200 (countRequest s) := by
  simp [hostRequest, good, op]

theorem hostRequest_damaged (bad : frameGood f = false) : hostRequest f s = respond 1 (leAt f 1 4) 0 200 s := by
  simp [hostRequest, bad]

theorem hostRequest_otherOp (good : frameGood f = true) (notNop : leAt f 0 1 ≠ 0) (notRead : leAt f 0 1 ≠ 0x0B)
    (notWrite : leAt f 0 1 ≠ 0x02) : hostRequest f s = respond 2 (leAt f 1 4) 0 200 s := by
  simp [hostRequest, good, notNop, notRead, notWrite]

theorem hostRead_valid {a : Nat} (valid : addrValid a = true) :
    hostRead a s = respond 0 a ((readAt .host a (countRequest s)).fin.path .host).data (if addrWindow a then 2000 else 200)
      (readAt .host a (countRequest s)).fin := by
  simp [hostRead, valid]

/-- EVT_PENDING and SEQ stand above the five bits of a status that a frame sets (Table 01-8). -/
theorem hostStatus_above (s : Machine.State) : s.hostStatus = 2 ^ 5 * (b2n s.evtPin + 2 * s.host.seq) := by
  simp only [State.hostStatus]
  omega

theorem bitAt_status {n i : Nat} (h : i < 5) : bitAt (n + s.hostStatus) i = bitAt n i := by
  rw [← bitAt_mod h, hostStatus_above, Nat.add_mul_mod_self_left, bitAt_mod h]

/-! What a response is, and what forming one leaves alone. -/

@[simp] theorem respond_resp (status addr data hold : Nat) (s : Machine.State) :
    (respond status addr data hold s).host.resp = ⟨status + s.hostStatus, addr, data⟩ := rfl
@[simp] theorem respond_miso (status addr data hold : Nat) (s : Machine.State) :
    (respond status addr data hold s).host.miso = s.host.miso := rfl
@[simp] theorem respond_seq (status addr data hold : Nat) (s : Machine.State) :
    (respond status addr data hold s).host.seq = s.host.seq := rfl
@[simp] theorem respond_pathHost (status addr data hold : Nat) (s : Machine.State) :
    (respond status addr data hold s).pathHost = s.pathHost := rfl
@[simp] theorem respond_r (status addr data hold : Nat) (s : Machine.State) (g : Field) : (respond status addr data hold s).r g = s.r g :=
  rfl
@[simp] theorem respond_regs (status addr data hold : Nat) (s : Machine.State) : (respond status addr data hold s).regs = s.regs := rfl
@[simp] theorem sameMemory_respond (status addr data hold : Nat) (s t : Machine.State) :
    SameMemory t (respond status addr data hold s) ↔ SameMemory t s := Iff.rfl

/-- A counted request leaves all but SEQ alone. -/
@[simp] theorem countRequest_host (s : Machine.State) : (countRequest s).host = { s.host with seq := (s.host.seq + 1) % 4 } := rfl
@[simp] theorem countRequest_regs (s : Machine.State) : (countRequest s).regs = s.regs := rfl
@[simp] theorem sameMemory_countRequest (s t : Machine.State) : SameMemory t (countRequest s) ↔ SameMemory t s := Iff.rfl

/-- The port as the request finds it: the response shifted out, SEQ not yet counted. -/
@[simp] theorem shiftedOut_host (s : Machine.State) : (shiftedOut s).host = { s.host with miso := responseBytes s.host.resp } :=
  congrArg (fun h : HostPort => { h with miso := responseBytes s.host.resp }) (readKeeps_apFill .host s).host

theorem sameMemory_shiftedOut (s : Machine.State) : SameMemory s (shiftedOut s) := (readKeeps_apFill .host s).memory

/-- With no fill running the frame finds the registers as they were. -/
theorem shiftedOut_regs (idle : s.pathHost.ap.filling = false) : (shiftedOut s).regs = s.regs := by
  rw [shiftedOut, apFill_idle (p := .host) idle]
  rfl

end

/-- Settles O1: each kind of frame is one response, and a read keeps the port and the stores (`readKeeps_readAt`). -/
theorem hostReadsAndFramesComplete : Obligations.HostReadsAndFramesComplete := by
  unfold Obligations.HostReadsAndFramesComplete
  refine ⟨fun s f gap up ready good op valid => ?_, fun s f gap up idle => ?_⟩
  · have run : exec (.hostRead f gap) s = .next (hostFrame f gap s).fin := rfl
    obtain ⟨host, -, memory, -⟩ := readKeeps_readAt .host (leAt f 1 4) (countRequest (shiftedOut s))
    rw [hostFrame_ready up ready, hostRequest_read good op, hostRead_valid valid] at run
    refine ⟨_, run, ?_⟩
    simpa [host, State.path] using (sameMemory_shiftedOut s).trans memory
  have run : exec (.hostNoOperation f gap) s = .next (hostFrame f gap s).fin := rfl
  have memory := sameMemory_shiftedOut s
  have regs := shiftedOut_regs idle
  refine ⟨fun ready good op => ?_, fun ready bad => ?_, fun ready good notNop notRead notWrite => ?_, fun early => ?_⟩
  · rw [hostFrame_ready up ready, hostRequest_noOperation good op] at run
    exact ⟨_, run, by simp [memory, regs]⟩
  · rw [hostFrame_ready up ready, hostRequest_damaged bad] at run
    have odd : (1 + (shiftedOut s).hostStatus) % 2 = 1 := by rw [hostStatus_above]; omega
    exact ⟨_, run, by simp [memory, regs, odd]⟩
  · rw [hostFrame_ready up ready, hostRequest_otherOp good notNop notRead notWrite] at run
    have bit : bitAt (2 + (shiftedOut s).hostStatus) 1 = true := (bitAt_status (by omega)).trans rfl
    exact ⟨_, run, by simp [memory, regs, bit]⟩
  · rw [hostFrame_early up idle early] at run
    exact ⟨_, run, by simp [State.modHost, SameMemory]⟩

/-! ### Writes by the host port -/

section
variable {s : Machine.State} {a v : Nat}

/-- The response to a write: its status, and the word that then stands. -/
theorem hostWrite_of_writeAt {t : Machine.State} {status : Nat} (w : writeAt .host a v (countRequest s) = (t, status)) :
    hostWrite a v s = respond status a (if addrValid a then t.fin.present .host a else 0) 200 t.fin := by
  simp [hostWrite, w]

theorem writeAt_plain {p : Path} (valid : addrValid a = true) (accepted : s.writeRefused p a v = false) (plain : ownWrite a = false) :
    writeAt p a v s = (plainWrite a v s, 0) := by
  simp [writeAt, valid, accepted, writeReg_plain p v s plain]

theorem writeAt_invalid {p : Path} (invalid : addrValid a = false) : writeAt p a v s = (s, Status.range) := by
  simp [writeAt, invalid]

theorem writeAt_window {p : Path} (valid : addrValid a = true) (window : addrWindow a = true) :
    writeAt p a v s = (s, Status.refused) := by
  simp [writeAt, valid, State.writeRefused, window]

theorem writeRefused_of_regs {t : Machine.State} {p : Path} (regs : t.regs = s.regs) :
    t.writeRefused p a v = s.writeRefused p a v := by
  simp [State.writeRefused, State.r, regs]

/-- The new value of a field depends on its register alone. -/
theorem fieldAfter_of_regs {t : Machine.State} (regs : t.regs = s.regs) (g : Field) : fieldAfter v t g = fieldAfter v s g := by
  simp [fieldAfter, State.r, regs]

end

/-- Settles O2: the write itself is that of `r_plainWrite`; a refused one returns the state that the frame found. -/
theorem hostWriteCompletes : Obligations.HostWriteCompletes := by
  unfold Obligations.HostWriteCompletes
  intro s f gap up ready good op idle
  have run : exec (.hostWrite f gap) s = .next (hostFrame f gap s).fin := rfl
  rw [hostFrame_ready up ready, hostRequest_write good op] at run
  have memory := sameMemory_shiftedOut s
  have regs := shiftedOut_regs idle
  refine ⟨fun valid accepted plain => ?_, fun invalid => ?_, fun valid window => ?_⟩
  · have counted : (countRequest (shiftedOut s)).regs = s.regs := regs
    rw [hostWrite_of_writeAt (writeAt_plain valid ((writeRefused_of_regs counted).trans accepted) plain)] at run
    obtain ⟨written, others⟩ := r_plainWrite (leAt f 1 4) (leAt f 5 4) (countRequest (shiftedOut s))
    have host : (plainWrite (leAt f 1 4) (leAt f 5 4) (countRequest (shiftedOut s))).host = (countRequest (shiftedOut s)).host := by
      rw [plainWrite_regs]
    refine ⟨_, run, fun g hg => ?_, fun g hg => ?_, ?_, by simp [host], by simp⟩
    · rw [State.fin_r, respond_r, State.fin_r, written g hg, fieldAfter_of_regs counted]
      exact fieldAfter_by_code _ s g
    · rw [State.fin_r, respond_r, State.fin_r, others g hg, State.r, counted, State.r]
    · simpa using memory.trans (sameMemory_plainWrite (leAt f 1 4) (leAt f 5 4) (countRequest (shiftedOut s)))
  · rw [hostWrite_of_writeAt (writeAt_invalid invalid)] at run
    have bit : bitAt (Status.range + (countRequest (shiftedOut s)).fin.hostStatus) 2 = true := (bitAt_status (by omega)).trans rfl
    exact ⟨_, run, by simp [memory, regs, invalid, bit]⟩
  · rw [hostWrite_of_writeAt (writeAt_window valid window)] at run
    have bit : bitAt (Status.refused + (countRequest (shiftedOut s)).fin.hostStatus) 4 = true := (bitAt_status (by omega)).trans rfl
    exact ⟨_, run, by simp [memory, regs, bit]⟩

end Sys2Proof

/-! PROOFS. The frames the module builds are read back: byte strings put together from numbers, the frame check sequence, and the frame
with HOPS replaced (R28, R315 to R317, R320). -/

namespace Sys2Proof.Machine

/-! ### Parts of a byte string -/

theorem nth_append_right {α : Type} {a l : List α} {d : α} {i : Nat} (h : a.length ≤ i) : nth (a ++ l) i d = nth l (i - a.length) d := by
  induction a generalizing i with
  | nil => rfl
  | cons x a ih =>
    cases i with
    | zero => simp at h
    | succ i => simpa [nth] using ih (i := i) (by simpa using h)

theorem slice_append_right {a l : List Byte} {o n : Nat} (h : a.length ≤ o) : slice (a ++ l) o n = slice l (o - a.length) n := by
  refine List.map_congr_left fun i _ => ?_
  rw [nth_append_right (by omega), Nat.sub_add_comm h]

theorem slice_zero_append {a l : List Byte} : slice (a ++ l) 0 a.length = a := by
  induction a with
  | nil => rfl
  | cons x a ih => simpa [slice, List.range_succ_eq_map, nth, Function.comp_def] using ih

/-- The part that stands at a place is read there. -/
theorem slice_part {a b c : List Byte} {o n : Nat} (ho : a.length = o) (hn : b.length = n) : slice (a ++ (b ++ c)) o n = b := by
  subst ho hn
  rw [slice_append_right (le_refl _), Nat.sub_self, slice_zero_append]

theorem leAt_append_right {a l : List Byte} {o n : Nat} (h : a.length ≤ o) : leAt (a ++ l) o n = leAt l (o - a.length) n := by
  rw [leAt, leAt, slice_append_right h]

/-- A number put at the front is read there. -/
theorem leAt_leBytes_append {c : List Byte} {n v : Nat} : leAt (leBytes n v ++ c) 0 n = v % 256 ^ n := by
  have front := slice_zero_append (a := leBytes n v) (l := c)
  rw [leBytes_length] at front
  rw [leAt, front, leNat_leBytes]

/-! ### Frame check sequence and CRC-8 -/

/-- A frame of at least 64 bytes closed by its frame check sequence passes the check (R315). -/
theorem fcsOk_withFcs {b : List Byte} (h : 60 ≤ b.length) : fcsOk (withFcs b) = true := by
  have word : crc32 b % 256 ^ 4 = crc32 b := Nat.mod_eq_of_lt (crc32_lt b)
  simp [fcsOk, withFcs, leNat_leBytes]
  omega

/-! ### Frames as they are built -/

/-- What the CRC of a frame covers: VERSION to the payload (R316). -/
def rhCore (h : FrameHead) (payload : List Byte) : List Byte :=
  leBytes 1 1 ++ leBytes 1 h.kind ++ leBytes 1 h.src ++ leBytes 1 h.info ++ leBytes 1 h.dst ++ leBytes 1 h.sel ++
    leBytes 4 h.seq ++ leBytes 2 payload.length ++ leBytes 2 0 ++ payload

theorem rhCore_length (h : FrameHead) (payload : List Byte) : (rhCore h payload).length = 14 + payload.length := by
  simp only [rhCore, List.length_append, leBytes_length]

/-- A frame without its frame check sequence, by its Ethernet header, HOPS and what follows NET. -/
def rhBytes (eth : List Byte) (hops net : Nat) (core pad : List Byte) : List Byte :=
  eth ++ (leBytes 1 hops ++ (leBytes 1 net ++ (core ++ (leBytes 4 (crc32c core) ++ pad))))

/-- The Ethernet header of a frame the module sends. -/
def ethernetHead (s : State) (net : Nat) : List Byte := rhDest ++ s.macBytes net ++ beBytes 2 (s.r Reg.NET_MAP_CFG_ETHERTYPE)

theorem ethernetHead_length (s : State) (net : Nat) : (ethernetHead s net).length = ethHead := by
  unfold ethernetHead State.macBytes
  split <;> simp [rhDest, ethHead]

theorem buildFrame_eq (s : State) (net : Nat) (h : FrameHead) (payload : List Byte) :
    buildFrame s net h payload =
      withFcs (rhBytes (ethernetHead s net) h.hops net (rhCore h payload) (List.replicate (26 - payload.length) 0)) := by
  have eth := ethernetHead_length s net
  have pad : 60 - (rhBytes (ethernetHead s net) h.hops net (rhCore h payload) []).length = 26 - payload.length := by
    simp [rhBytes, eth, rhCore_length, ethHead]
    omega
  rw [← pad]
  simp [buildFrame, rhBytes, rhCore, ethernetHead]

section
variable {eth pad payload : List Byte} {hops n net : Nat} {h : FrameHead}

/-- A frame without its frame check sequence fills the least Ethernet frame. -/
theorem rhBytes_length (len : eth.length = ethHead) (filled : 26 ≤ payload.length + pad.length) :
    60 ≤ (rhBytes eth hops net (rhCore h payload) pad).length := by
  simp [rhBytes, len, rhCore_length, ethHead]
  omega

/-- A switch writes another HOPS and leaves the rest (R320). -/
theorem withHops_rhBytes {core : List Byte} (len : eth.length = ethHead) :
    withHops n (withFcs (rhBytes eth hops net core pad)) = withFcs (rhBytes eth n net core pad) := by
  have bytes : (withFcs (rhBytes eth hops net core pad)).take ((withFcs (rhBytes eth hops net core pad)).length - 4) =
      rhBytes eth hops net core pad := by simp [withFcs]
  have front : (withFcs (rhBytes eth hops net core pad)).take ethHead = eth := by simp [withFcs, rhBytes, ← len]
  have rest : (rhBytes eth hops net core pad).drop (ethHead + 1) = leBytes 1 net ++ (core ++ (leBytes 4 (crc32c core) ++ pad)) := by
    rw [rhBytes, ← List.append_assoc, List.drop_left' (by simp [len])]
  rw [withHops, bytes, front, rest, rhBytes, List.append_assoc]

theorem etherType_rhBytes {s : State} {core : List Byte} :
    etherType (withFcs (rhBytes (ethernetHead s net) hops net core pad)) = s.r Reg.NET_MAP_CFG_ETHERTYPE % 65536 := by
  have front : (rhDest ++ s.macBytes net).length = 12 := by
    have len := ethernetHead_length s net
    simp only [ethernetHead, List.length_append, beBytes_length, ethHead] at len ⊢
    omega
  have part : slice (withFcs (rhBytes (ethernetHead s net) hops net core pad)) 12 2 = beBytes 2 (s.r Reg.NET_MAP_CFG_ETHERTYPE) := by
    rw [withFcs, rhBytes, ethernetHead, List.append_assoc, List.append_assoc, List.append_assoc rhDest, ← List.append_assoc]
    exact slice_part front (beBytes_length 2 _)
  simp [etherType, part, beNat_beBytes]

/-! What the parts of a frame read, whatever follows its CRC. -/

/-- A frame down to its CRC, and what follows. -/
def rhFrame (eth : List Byte) (hops net : Nat) (core rest : List Byte) : List Byte :=
  eth ++ (leBytes 1 hops ++ (leBytes 1 net ++ (core ++ (leBytes 4 (crc32c core) ++ rest))))

theorem withFcs_rhBytes {core : List Byte} : withFcs (rhBytes eth hops net core pad) =
    rhFrame eth hops net core (pad ++ leBytes 4 (crc32 (rhBytes eth hops net core pad))) := by
  simp only [withFcs, rhBytes, rhFrame, List.append_assoc]

section
variable {core rest : List Byte} (len : eth.length = ethHead)
include len

theorem slice_rhFrame_core : slice (rhFrame eth hops net core rest) (ethHead + 2) core.length = core := by
  rw [rhFrame, ← List.append_assoc, ← List.append_assoc]
  exact slice_part (by simp [len]) rfl

theorem slice_rhFrame_body :
    slice (rhFrame eth hops net core rest) (ethHead + 2) (core.length + 4) = core ++ leBytes 4 (crc32c core) := by
  rw [rhFrame, ← List.append_assoc, ← List.append_assoc, ← List.append_assoc core]
  exact slice_part (by simp [len]) (by simp)

theorem leAt_rhFrame_crc : leAt (rhFrame eth hops net core rest) (ethHead + 2 + core.length) 4 = crc32c core := by
  have front : (eth ++ leBytes 1 hops ++ leBytes 1 net ++ core).length = ethHead + 2 + core.length := by
    simp [len]
    omega
  rw [rhFrame, ← List.append_assoc, ← List.append_assoc, ← List.append_assoc _ core, leAt, slice_part front (leBytes_length ..),
    leNat_leBytes]
  exact Nat.mod_eq_of_lt (crc32c_lt core)

end

theorem leAt_rhFrame_len {rest : List Byte} (len : eth.length = ethHead) (size : payload.length < 65536) :
    leAt (rhFrame eth hops net (rhCore h payload) rest) (ethHead + 12) 2 = payload.length := by
  simp [rhFrame, rhCore, leAt_append_right, leAt_leBytes_append, len, size]

theorem slice_rhFrame_payload {rest : List Byte} (len : eth.length = ethHead) :
    slice (rhFrame eth hops net (rhCore h payload) rest) (ethHead + 16) payload.length = payload := by
  simp [rhFrame, rhCore, slice_append_right, slice_zero_append, len]

/-- Every field of a frame is read as it was written. -/
theorem parseRh_rhFrame {rest : List Byte} (len : eth.length = ethHead) (size : payload.length < 65536) (closed : 4 ≤ rest.length) :
    parseRh (rhFrame eth hops net (rhCore h payload) rest) =
      { hops := hops % 256, version := 1, kind := h.kind % 256, src := h.src % 256, side := h.info % 256 % 2,
        active := bitAt (h.info % 256) 1, origin := h.info % 256 / 4 % 4, first := bitAt (h.info % 256) 4, dst := h.dst % 256,
        sel := h.sel % 256 % 4, seq := h.seq % 2 ^ 32, payload := payload,
        body := rhCore h payload ++ leBytes 4 (crc32c (rhCore h payload)), crcOk := true } := by
  have core := slice_rhFrame_core (hops := hops) (net := net) (core := rhCore h payload) (rest := rest) len
  have body := slice_rhFrame_body (hops := hops) (net := net) (core := rhCore h payload) (rest := rest) len
  have crc := leAt_rhFrame_crc (hops := hops) (net := net) (core := rhCore h payload) (rest := rest) len
  rw [rhCore_length] at core body crc
  rw [show ethHead + 2 + (14 + payload.length) = ethHead + 16 + payload.length by omega] at crc
  rw [show 14 + payload.length + 4 = 18 + payload.length by omega] at body
  unfold parseRh
  simp only [leAt_rhFrame_len len size, slice_rhFrame_payload len, core, body, crc]
  simp [rhFrame, rhCore, leAt_append_right, leAt_leBytes_append, len]
  omega

end

/-- The response frame's CRC-8 fits its byte (R28). -/
theorem crc8_lt (bs : List Byte) : crc8 bs < 2 ^ 8 := by
  have bit (c : Nat) (h : c < 2 ^ 8) : crcLeftBit 8 0x07 c < 2 ^ 8 := by
    unfold crcLeftBit
    split
    · exact Nat.xor_lt_two_pow (by omega) (by omega)
    · omega
  have bytes (c : Nat) (h : c < 2 ^ 8) : crcLeft 8 0x07 c bs < 2 ^ 8 := by
    unfold crcLeft
    induction bs generalizing c with
    | nil => exact h
    | cons b rest ih =>
      exact ih _ (iter_lt bit 8 _ (Nat.xor_lt_two_pow h (by simpa using b.isLt)))
  exact bytes 0 (by decide)

end Sys2Proof.Machine

namespace Sys2Proof

open Sys2Proof.Machine

/-- A response frame is nine bytes and their CRC-8 (R28). -/
theorem responseBytes_good (x : HostResp) : (responseBytes x).length = 10 ∧ frameGood (responseBytes x) = true := by
  have nine : (leBytes 1 x.status ++ leBytes 4 x.addr ++ leBytes 4 x.data).length = 9 := by simp
  have form : responseBytes x = (leBytes 1 x.status ++ leBytes 4 x.addr ++ leBytes 4 x.data) ++
      leBytes 1 (crc8 (leBytes 1 x.status ++ leBytes 4 x.addr ++ leBytes 4 x.data)) := rfl
  rw [form]
  generalize leBytes 1 x.status ++ leBytes 4 x.addr ++ leBytes 4 x.data = b at nine
  have crc : leAt (b ++ leBytes 1 (crc8 b)) 9 1 = crc8 b := by
    have part := slice_part (c := []) nine (leBytes_length 1 (crc8 b))
    rw [List.append_nil] at part
    rw [leAt, part, leNat_leBytes]
    exact Nat.mod_eq_of_lt (crc8_lt b)
  have front : (b ++ leBytes 1 (crc8 b)).take 9 = b := List.take_left' nine
  exact ⟨by simp [nine], by simp [frameGood, crc, front, nine]⟩

/-- Settles O60: a built frame is a header, HOPS and the rest; replacing HOPS gives a frame of the same form, which is read by
`parseRh_rhFrame` too. -/
theorem framesReadBackAsBuilt : Obligations.FramesReadBackAsBuilt := by
  unfold Obligations.FramesReadBackAsBuilt
  refine ⟨fun s net n h payload hops kind src info dst sel seq size hn => ?_, responseBytes_good⟩
  have len := ethernetHead_length s net
  have long (m : Nat) := rhBytes_length (hops := m) (net := net) (h := h) (payload := payload)
    (pad := List.replicate (26 - payload.length) 0) len (by simp; omega)
  have read (m : Nat) := parseRh_rhFrame (hops := m) (net := net) (h := h) (payload := payload)
    (rest := List.replicate (26 - payload.length) 0 ++ leBytes 4 (crc32 (rhBytes (ethernetHead s net) m net (rhCore h payload)
      (List.replicate (26 - payload.length) 0)))) len size (by simp)
  rw [buildFrame_eq, withHops_rhBytes len]
  refine ⟨fcsOk_withFcs (long _), etherType_rhBytes, ?_, fcsOk_withFcs (long _)⟩
  rintro x rfl
  rw [withFcs_rhBytes, withFcs_rhBytes, read, read]
  simp (disch := omega) [Nat.mod_eq_of_lt]

end Sys2Proof

/-! PROOFS. The reticle's programs: loading, cancelling and swapping a set's staging half (R139 to R141, R149); the post queue and the
capture registers (R150) and the clearing of its counts (R151). -/

namespace Sys2Proof

open Sys2Proof.Machine

/-! ### Mark sets -/

section
variable {s : Machine.State} {k : Nat}

/-- A command of a graph, where the graphs run (R56, R406). -/
theorem graphDoes_released (f : Machine.State → Machine.State) (released : s.released = true) (awake : s.parked = false) :
    s.graphDoes f = f s := by
  rw [State.graphDoes, if_pos released, awake_unparked f awake]

/-- The end of a load where no slot of the table store waits for it. -/
theorem loadEnded_idle (idle : s.img.swapDue = false) : s.loadEnded = s := by simp [State.loadEnded, State.when_, idle]

/-- A run whose every step leaves the state. -/
theorem foldl_unchanged {α β : Type} {f : β → α → β} {b : β} {l : List α} (step : ∀ x ∈ l, f b x = b) : l.foldl f b = b := by
  induction l with
  | nil => rfl
  | cons x l ih =>
    rw [List.foldl_cons, step x List.mem_cons_self]
    exact ih fun y hy => step y (List.mem_cons_of_mem _ hy)

theorem nth_map_range {α : Type} {f : Nat → α} {n i : Nat} {d : α} (hi : i < n) : nth ((List.range n).map f) i d = f i := by
  induction n generalizing f i with
  | zero => omega
  | succ n ih =>
    rw [List.range_succ_eq_map, List.map_cons, List.map_map]
    cases i with
    | zero => rfl
    | succ i => exact ih (by omega)

/-- Entry i of a program stands in slot i (R141). -/
theorem nth_liveOf {p : Program} {i : Nat} (hi : i < setSize k) : nth (liveOf k p) i {} = { mark := nth p.marks i {} } :=
  nth_map_range hi

/-- The marks of a program that gives none armed arm no slot. -/
theorem armNew_unarmed (unarmed : ∀ i, i < setSize k → (s.slot k i).mark.arm = false) : armNew k s = s := by
  unfold armNew
  refine foldl_unchanged fun i hi => ?_
  rw [unarmed i (List.mem_range.mp hi)]
  rfl

/-- The set after a swap of a valid half (R141). -/
def swapped (k : Nat) (m : MarkSet) : MarkSet :=
  { m with live := liveOf k m.staging, prog := m.staging.id, valid := false, swapDue := false }

theorem swapSet_unarmed (valid : (s.set k).valid = true)
    (unarmed : ∀ i, i < setSize k → (nth (s.set k).staging.marks i {}).arm = false) : swapSet k s = s.modSet k (swapped k) := by
  have e : swapSet k s = armNew k (s.modSet k (swapped k)) := if_pos valid
  rw [e]
  refine armNew_unarmed fun i hi => ?_
  rw [State.slot, State.set_modSet_same, swapped, nth_liveOf hi]
  exact unarmed i hi

theorem swapSet_invalid (invalid : (s.set k).valid = false) : swapSet k s = s.raise Evt.RET_SWAP_REFUSED [.code k] := by
  simp [swapSet, invalid]

/-! ### Loads -/

/-- The set at the end of its load (R139, R140). -/
def loaded (uncorr : Bool) (m : MarkSet) : MarkSet := { m with loading := false, valid := !uncorr, swapDue := false }

theorem reticleLoadDone_good (loading : (s.set k).loading = true) (idle : s.img.swapDue = false) :
    reticleLoadDone k false s =
      if (s.set k).swapDue then (swapSet k (s.modSet k (loaded false))).ownMarks k else s.modSet k (loaded false) := by
  have ended : (s.modSet k (loaded false)).loadEnded = s.modSet k (loaded false) := loadEnded_idle idle
  have e : reticleLoadDone k false s = if (s.set k).swapDue && !false then
      (swapSet k (s.modSet k (loaded false)).loadEnded).ownMarks k else (s.modSet k (loaded false)).loadEnded := if_neg (by simp [loading])
  rw [e, ended]
  simp

theorem reticleLoadDone_bad (loading : (s.set k).loading = true) (idle : s.img.swapDue = false) :
    reticleLoadDone k true s =
      (s.modSet k (loaded true)).raise Evt.RET_STAGE_FAIL [.code k, .ident ((s.set k).staging.id % 65536)] := by
  have e : reticleLoadDone k true s = if (s.set k).swapDue && !true then
      (swapSet k ((s.modSet k (loaded true)).raise Evt.RET_STAGE_FAIL
        [.code k, .ident ((s.set k).staging.id % 65536)]).loadEnded).ownMarks k
      else ((s.modSet k (loaded true)).raise Evt.RET_STAGE_FAIL [.code k, .ident ((s.set k).staging.id % 65536)]).loadEnded :=
    if_neg (by simp [loading])
  rw [e, if_neg (by simp)]
  exact loadEnded_idle idle

end

/-! ### Posts and captures -/

section
variable {s : Machine.State} {x : Post} {rest : List Post}

theorem postDelivery_room (queued : s.ret.posts = x :: rest) (room : (nth s.dsp.ports 0 []).length < 16) :
    postDelivery s = { s with
      dsp := { s.dsp with ports := setAt s.dsp.ports 0 (nth s.dsp.ports 0 [] ++ [⟨x.counter, none⟩]) [] }
      ret := { s.ret with posts := rest } } := by
  simp [postDelivery, queued, portPush_room _ room]

theorem postDelivery_full (queued : s.ret.posts = x :: rest) (full : 16 ≤ (nth s.dsp.ports 0 []).length) : postDelivery s = s := by
  simp [postDelivery, queued, portPush_full _ full]

/-- What the read of RET_CAP_POS leaves its path: the position, and the other words in the shadow (R27, R150). -/
theorem retCapPosRead_path (p : Path) (s : Machine.State) :
    (retCapPosRead p s).path p = { s.path p with
      data := ofI 32 (nth s.ret.caps (s.r Reg.RET_CAP_SEL) {}).pos
      shadow := wordsAt 0x500CC [ofI 32 (nth s.ret.caps (s.r Reg.RET_CAP_SEL) {}).speed,
        (nth s.ret.caps (s.r Reg.RET_CAP_SEL) {}).time, (nth s.ret.caps (s.r Reg.RET_CAP_SEL) {}).info] } := by
  cases p <;> rfl

/-- What RET_STAT_CLEAR clears (R151). -/
def retStatFields : List Field :=
  [Reg.RET_EXC_COUNT_WITHHELD, Reg.RET_EXC_COUNT_LATE, Reg.RET_EXC_COUNT_CONFLICT, Reg.RET_EXC_COUNT_POST_LOST, Reg.RET_POST_PEAK]

end

/-! ### The commands -/

theorem reticleLoad_completes (s : Machine.State) (k addr : Nat) (hk : k < 5) (released : s.released = true) (awake : s.parked = false) :
    ∃ t, exec (.reticleLoad k addr) s = .next t ∧ (t.set k).valid = false ∧ (t.set k).loading = true ∧ (t.set k).live = (s.set k).live ∧
      (t.set k).staging = parseProgram (fun o => s.tableRd (addr + o)) 0 ∧ t.regs = s.regs ∧ SameMemory s t := by
  have run : exec (.reticleLoad k addr) s = (s.graphDoes (reticleLoad (k % 5) addr)).done := rfl
  rw [Nat.mod_eq_of_lt hk, graphDoes_released _ released awake, State.done_eq] at run
  exact ⟨_, run, by simp [reticleLoad, SameMemory]⟩

theorem reticleLoadDone_completes (s : Machine.State) (k : Nat) (hk : k < 5) (loading : (s.set k).loading = true)
    (idle : s.img.swapDue = false) :
    ((s.set k).swapDue = false →
      ∃ t, exec (.reticleLoadDone k false) s = .next t ∧ (t.set k).valid = true ∧ (t.set k).loading = false ∧
        (t.set k).staging = (s.set k).staging ∧ t.regs = s.regs ∧ SameMemory s t) ∧
    ((s.set k).swapDue = true → (∀ i, i < setSize k → (nth (s.set k).staging.marks i {}).arm = false) →
      ∃ t, exec (.reticleLoadDone k false) s = .next t ∧ (t.set k).live = liveOf k (s.set k).staging ∧ (t.set k).valid = false ∧
        t.regs = s.regs ∧ SameMemory s t) ∧
    ∃ t, exec (.reticleLoadDone k true) s = .next t ∧ (t.set k).valid = false ∧ Pending Evt.RET_STAGE_FAIL t ∧ t.regs = s.regs ∧
      SameMemory s t := by
  have run (uncorr : Bool) : exec (.reticleLoadDone k uncorr) s = (reticleLoadDone (k % 5) uncorr s).done := rfl
  simp only [Nat.mod_eq_of_lt hk, State.done_eq] at run
  refine ⟨fun due => ⟨_, run false, ?_⟩, fun due unarmed => ⟨_, run false, ?_⟩, _, run true, ?_⟩
  · rw [reticleLoadDone_good loading idle, due]
    simp [loaded, SameMemory]
  · have full : swapSet k (s.modSet k (loaded false)) = (s.modSet k (loaded false)).modSet k (swapped k) :=
      swapSet_unarmed (by simp [loaded]) fun i hi => by simpa [loaded] using unarmed i hi
    rw [reticleLoadDone_good loading idle, due, if_pos rfl, full]
    simp [loaded, swapped, State.ownMarks, SameMemory]
  · rw [reticleLoadDone_bad loading idle]
    exact ⟨by simp [loaded], pending_fin (by simp), by simp [SameMemory]⟩

theorem reticleCancel_completes (s : Machine.State) (k : Nat) (hk : k < 5) (released : s.released = true) (awake : s.parked = false)
    (idle : s.img.swapDue = false) :
    ∃ t, exec (.reticleCancel k) s = .next t ∧ (t.set k).valid = false ∧ (t.set k).live = (s.set k).live ∧ t.regs = s.regs ∧
      SameMemory s t := by
  have run : exec (.reticleCancel k) s = (s.graphDoes (reticleCancel (k % 5))).done := rfl
  have cancelled : reticleCancel k s = s.modSet k fun m => { m with valid := false, loading := false, swapDue := false } :=
    loadEnded_idle idle
  rw [Nat.mod_eq_of_lt hk, graphDoes_released _ released awake, cancelled, State.done_eq] at run
  exact ⟨_, run, by simp [SameMemory]⟩

theorem reticleSwap_completes (s : Machine.State) (k : Nat) (hk : k < 5) (released : s.released = true) (awake : s.parked = false) :
    ((s.set k).barred = true → ∃ t, exec (.reticleSwap k) s = .next t ∧ t.ret = s.ret ∧ t.regs = s.regs ∧ SameMemory s t) ∧
    ((s.set k).barred = false → (s.set k).valid = false →
      ∃ t, exec (.reticleSwap k) s = .next t ∧ t.ret = s.ret ∧ Pending Evt.RET_SWAP_REFUSED t ∧ t.regs = s.regs ∧ SameMemory s t) ∧
    ((s.set k).barred = false → (s.set k).valid = true → (∀ i, i < setSize k → (nth (s.set k).staging.marks i {}).arm = false) →
      ∃ t, exec (.reticleSwap k) s = .next t ∧ (t.set k).live = liveOf k (s.set k).staging ∧ (t.set k).prog = (s.set k).staging.id ∧
        (t.set k).valid = false ∧ t.regs = s.regs ∧ SameMemory s t) := by
  have run : exec (.reticleSwap k) s = (s.graphDoes (swapCommand (k % 5))).done := rfl
  rw [Nat.mod_eq_of_lt hk, graphDoes_released _ released awake, State.done_eq] at run
  refine ⟨fun barred => ⟨_, run, ?_⟩, fun free invalid => ⟨_, run, ?_⟩, fun free valid unarmed => ⟨_, run, ?_⟩⟩
  · rw [swapCommand, if_pos barred]
    simp [SameMemory]
  · rw [swapCommand, if_neg (by simp [free]), swapSet_invalid invalid]
    exact ⟨by simp, pending_fin (by simp), by simp [SameMemory]⟩
  · rw [swapCommand, if_neg (by simp [free]), swapSet_unarmed valid unarmed]
    simp [swapped, SameMemory]

theorem postDelivery_completes (s : Machine.State) (x : Post) (rest : List Post) (queued : s.ret.posts = x :: rest) :
    ((nth s.dsp.ports 0 []).length < 16 →
      ∃ t, exec .postDelivery s = .next t ∧ t.ret.posts = rest ∧ nth t.dsp.ports 0 [] = nth s.dsp.ports 0 [] ++ [⟨x.counter, none⟩] ∧
        t.regs = s.regs ∧ SameMemory s t) ∧
    (16 ≤ (nth s.dsp.ports 0 []).length → ∃ t, exec .postDelivery s = .next t ∧ t.ret = s.ret ∧ t.dsp = s.dsp ∧ SameMemory s t) := by
  have run : exec .postDelivery s = .next (postDelivery s).fin := rfl
  refine ⟨fun room => ⟨_, run, ?_⟩, fun full => ⟨_, run, ?_⟩⟩
  · rw [postDelivery_room queued room]
    simp [SameMemory]
  · rw [postDelivery_full queued full]
    simp [SameMemory]

theorem retCapPosRead_completes (s : Machine.State) (p : Path) (served : Served p s) :
    ∃ t, exec (.retCapPosRead p) s = .next t ∧ (t.path p).data = ofI 32 (nth s.ret.caps (s.r Reg.RET_CAP_SEL) {}).pos ∧
      (t.path p).shadow = wordsAt 0x500CC [ofI 32 (nth s.ret.caps (s.r Reg.RET_CAP_SEL) {}).speed,
        (nth s.ret.caps (s.r Reg.RET_CAP_SEL) {}).time, (nth s.ret.caps (s.r Reg.RET_CAP_SEL) {}).info] ∧
      nth t.ret.caps (s.r Reg.RET_CAP_SEL) {} =
        { nth s.ret.caps (s.r Reg.RET_CAP_SEL) {} with overwritten := false, unread := false } ∧ t.regs = s.regs ∧ SameMemory s t := by
  have run : exec (.retCapPosRead p) s = (s.servedOn p (retCapPosRead p)).done := rfl
  rw [servedOn_of_served _ served, State.done_eq] at run
  exact ⟨_, run, by simp [retCapPosRead_path], by simp [retCapPosRead_path], by simp [retCapPosRead],
    by simp [retCapPosRead, State.answerRead, State.latch, SameMemory]⟩

theorem retStatClear_completes (s : Machine.State) (v : Nat) (serving : Serving s) (odd : v % 2 = 1) :
    ∃ t, exec (.retStatClear v) s = .next t ∧ (∀ g ∈ retStatFields, t.r g = 0) ∧ RegsBut retStatFields s t ∧ SameMemory s t := by
  have run : exec (.retStatClear v) s = (s.served (retStatClear v)).done := rfl
  rw [served_serving _ serving, retStatClear, if_neg (by omega), State.done_eq] at run
  refine ⟨_, run, fun g hg => ?_, (regsBut_fin _ _ _).mpr fun g hg => r_clear_ne _ hg s, (sameMemory_fin _ _).mpr ?_⟩
  · rw [State.fin_r]
    exact r_clear_mem (by decide) hg s
  · rw [regsOnly_clear s]
    exact ⟨rfl, rfl, rfl, rfl⟩

/-- Settles O11, command by command: loads, their ends, cancels and swaps of a set; the post queue, the captures and the counts. -/
theorem reticleProgramsPostsAndCapturesComplete : Obligations.ReticleProgramsPostsAndCapturesComplete := by
  unfold Obligations.ReticleProgramsPostsAndCapturesComplete
  refine ⟨⟨reticleLoad_completes, reticleLoadDone_completes, reticleCancel_completes, reticleSwap_completes⟩,
    postDelivery_completes, ?_, fun s v serving odd => ?_⟩
  · rintro s p _ served rfl
    exact retCapPosRead_completes s p served
  · obtain ⟨t, run, cleared, others, memory⟩ := retStatClear_completes s v serving odd
    exact ⟨t, run, cleared _ (by decide), cleared _ (by decide), cleared _ (by decide), cleared _ (by decide),
      cleared _ (by decide), others, memory⟩

end Sys2Proof

/-! PROOFS. Management replies (R334, R335): a stored request whose port of arrival on network A is not a port of that network. No frame
stores one, but the statement speaks of every request that buffer 3 can hold. -/

namespace Sys2Proof

open Sys2Proof.Machine

/-- A request of one access, a write by an origin that MGMT_WRITERS does not allow, with port 2 noted as its port on network A. -/
def strayRequest : MgmtReq := { origin := 0, src := 0, seq := 0, tag := 0, accesses := [(0 + 2, 0)], ports := [some 2, none] }

/-- A module out of transparent mode whose buffer 3 holds that request alone. -/
def strayState : Machine.State := ({ net := { bufMgmt := [strayRequest] } } : Machine.State).w Reg.NET_STATUS_TRANSPARENT 0

/-- The copies of the reply for both networks enter the queue of B1, the port of network B. -/
theorem strayState_replies_twice : (queueOf (mgmtExecute strayState).fin 2 3).length = 2 := by decide

/-- Refutes O32: for a request whose port on network A is stored as 2, the port at which the reply on network B is queued, two frames are
queued there and not one. -/
theorem not_managementFramesComplete : ¬ Obligations.ManagementFramesComplete := by
  unfold Obligations.ManagementFramesComplete
  rintro ⟨-, execute⟩
  obtain ⟨-, access⟩ := execute strayState strayRequest [] rfl
  obtain ⟨-, -, denied⟩ := access 0 0 (by decide) (by decide) rfl rfl
  obtain ⟨t, run, ⟨-, replies, -⟩, -⟩ := denied rfl (by decide)
  have ran : exec .mgmtExecute strayState = .next (mgmtExecute strayState).fin := rfl
  obtain rfl : (mgmtExecute strayState).fin = t := Host.Outcome.next.inj (ran.symm.trans run)
  have once := congrArg List.length (replies 1 2 (by decide) (by decide) (by decide) (by decide))
  rw [strayState_replies_twice, List.length_append] at once
  exact absurd once (by decide)

end Sys2Proof

/-! PROOFS. Completions (R66, R78): COMPLETE of an item on a fenced facet. R66 lets a fenced facet post no completion; the statement
speaks of every facet whose running slot is occupied and whose latch is empty, the fenced ones included. -/

namespace Sys2Proof

open Sys2Proof.Machine

/-- COMPLETE within BUDGET on a fenced facet writes nothing and posts nothing (R66, R78). -/
theorem complete_fenced {s : Machine.State} {p mask cycles : Nat} (writes : List (Nat × Byte)) (fenced : s.fenced p = true)
    (within : s.overBudget p cycles = false) : complete p mask cycles writes s = s := by
  have unwritten : s.dataWrites p writes = s := by simp [State.dataWrites, State.executes, fenced]
  simp [complete, unwritten, within, completeItem, fenced]

/-- Facet 0 fenced (R66), with a descriptor of node 0 in its running slot. -/
def fencedState : Machine.State :=
  ({ dsp := { facets := [{ running := some { node := 0, prio := 0 } }] } } : Machine.State).w (Reg.DSP_FENCED 0) 1

/-- Refutes O6: of facet 0, which is fenced, runs an item within its BUDGET and has nothing latched, COMPLETE latches nothing. -/
theorem not_completionsReadyListsAndPlacementComplete : ¬ Obligations.CompletionsReadyListsAndPlacementComplete := by
  unfold Obligations.CompletionsReadyListsAndPlacementComplete
  rintro ⟨⟨completes, -, -⟩, -⟩
  obtain ⟨within, -⟩ := completes fencedState 0 0 0 [] [] _ (by decide) rfl rfl
  obtain ⟨t, run, latched, -⟩ := within (by decide)
  have unchanged : complete 0 0 0 [] fencedState = fencedState := complete_fenced [] (by decide) (by decide)
  have ran : exec (.complete 0 0 0 [] []) fencedState = .next (complete 0 0 0 [] fencedState).fin := rfl
  rw [unchanged] at ran
  obtain rfl : fencedState.fin = t := Host.Outcome.next.inj (ran.symm.trans run)
  rw [State.fin_facet] at latched
  exact absurd latched (by decide)

end Sys2Proof

/-! PROOFS. Facet relays: their steps, their registers and what their end leaves (R88, R89, R92); overruns, stalls and memory errors of
facets, and the 1 s check of their margins (R87, R88). -/

namespace Sys2Proof.Machine

/-! ### What the facets' operations leave alone -/

/-- The second state differs from the first in the dispatcher and the facets alone. -/
def DspOnly (s t : State) : Prop := t = { s with dsp := t.dsp }

theorem DspOnly.refl (s : State) : DspOnly s s := rfl

theorem DspOnly.trans {s t u : State} (h : DspOnly s t) (h' : DspOnly t u) : DspOnly s u := by
  unfold DspOnly at *
  rw [h', h]

theorem DspOnly.when {s t : State} {b : Bool} {f : State → State} (h : DspOnly s t) (hf : ∀ u, DspOnly u (f u)) :
    DspOnly s (t.when_ b f) := by
  cases b
  · exact h
  · exact h.trans (hf t)

theorem DspOnly.regs {s t : State} (h : DspOnly s t) : t.regs = s.regs := by rw [h]

theorem DspOnly.r {s t : State} (h : DspOnly s t) (g : Field) : t.r g = s.r g := by rw [h]; rfl

theorem DspOnly.raised {s t : State} (h : DspOnly s t) : t.raised = s.raised := by rw [h]

theorem DspOnly.sameMemory {s t : State} (h : DspOnly s t) : SameMemory s t := by
  rw [h]
  exact ⟨rfl, rfl, rfl, rfl⟩

/-- The state with other relay requests held. -/
def withRequests (requests : List (Nat × Nat)) (s : State) : State := { s with dsp := { s.dsp with requests := requests } }

@[simp] theorem withRequests_facet (requests : List (Nat × Nat)) (s : State) (p : Nat) : (withRequests requests s).facet p = s.facet p := rfl

/-- A relay request changes the held requests alone (R88). -/
theorem relayRequest_form (k reason : Nat) (s : State) :
    ∃ requests, relayRequest k reason s = withRequests requests s := by
  unfold relayRequest
  split
  · exact ⟨s.dsp.requests, rfl⟩
  · exact ⟨_, rfl⟩

@[simp] theorem relayRequest_facet (k reason : Nat) (s : State) (p : Nat) : (relayRequest k reason s).facet p = s.facet p := by
  obtain ⟨requests, form⟩ := relayRequest_form k reason s
  rw [form, withRequests_facet]

theorem DspOnly.relayRequest (k reason : Nat) (s : State) : DspOnly s (relayRequest k reason s) := by
  obtain ⟨requests, form⟩ := relayRequest_form k reason s
  rw [form]
  rfl

/-! The spares and the index of a facet, read from the register-field file and the map alone. -/

section
variable {s t : State}

theorem logicalOf_of_map (map : t.dsp.map = s.dsp.map) (p : Nat) : t.logicalOf p = s.logicalOf p := by
  simp only [State.logicalOf, State.physOf, map]

theorem fenced_of_regs (regs : t.regs = s.regs) (p : Nat) : t.fenced p = s.fenced p := by
  simp only [State.fenced, State.r, regs]

theorem relayBusy_of_regs (regs : t.regs = s.regs) : t.relayBusy = s.relayBusy := by
  simp only [State.relayBusy, State.r, regs]

theorem idleSpares_of_regs (regs : t.regs = s.regs) (map : t.dsp.map = s.dsp.map) : t.idleSpares = s.idleSpares := by
  have same : t.idleSpare = s.idleSpare := by
    funext p
    simp only [State.idleSpare, fenced_of_regs regs, logicalOf_of_map map, relayBusy_of_regs regs, State.r, regs]
  rw [State.idleSpares, same, State.idleSpares]

theorem indexOf_of_regs (regs : t.regs = s.regs) (map : t.dsp.map = s.dsp.map) (p : Nat) : t.indexOf p = s.indexOf p := by
  simp only [State.indexOf, logicalOf_of_map map, fenced_of_regs regs, idleSpares_of_regs regs map]

/-- A spare carries no logical facet. -/
theorem logicalOf_of_spare {p q : Nat} {k : Nat} (spare : p ∈ s.idleSpares) (carries : s.logicalOf q = some k) : p ≠ q := by
  rintro rfl
  simp [State.idleSpares, State.idleSpare, carries] at spare

/-- The target of a relay is the lowest idle spare whose self-test passed, if there is one (R88). -/
theorem relayTarget_spare {q : Nat} (k : Nat) (spare : s.idleSpares.find? (fun p => (s.facet p).testPass) = some q) :
    relayTarget k s = some (q, s) := by
  simp [relayTarget, spare]

end

/-! ### The registers of a relay -/

theorem relayBegin_facet_ne {p target : Nat} (k reason : Nat) (s : State) (h : p ≠ target) :
    (relayBegin k reason target s).facet p = s.facet p := State.facet_modFacet_ne s target p _ h

theorem relayBegin_sameMemory (k reason target : Nat) (s : State) : SameMemory s (relayBegin k reason target s) := ⟨rfl, rfl, rfl, rfl⟩

theorem relayBegin_shows {k reason target : Nat} (hk : k < 128) (hreason : reason < 8) (htarget : target < 128) (s : State) :
    (relayBegin k reason target s).r Reg.DSP_RELAY_STATUS_STATE = 1 ∧ (relayBegin k reason target s).r Reg.DSP_RELAY_STATUS_LOGICAL = k ∧
    (relayBegin k reason target s).r Reg.DSP_RELAY_STATUS_TO_PHYS = target ∧
    (relayBegin k reason target s).r Reg.DSP_RELAY_STATUS_REASON = reason ∧ (relayBegin k reason target s).r Reg.DSP_STATUS_RELAY_BUSY = 1 := by
  simp (disch := decide) [relayBegin, State.countSpares, b2n, Reg.DSP_RELAY_STATUS_STATE, Reg.DSP_RELAY_STATUS_LOGICAL,
    Reg.DSP_RELAY_STATUS_TO_PHYS, Reg.DSP_RELAY_STATUS_REASON, Reg.DSP_STATUS_RELAY_BUSY, Nat.mod_eq_of_lt, *]

/-- Fencing changes the register-field file and the self-test of the facet (R66). -/
theorem fence_form (s : State) (p : Nat) : ∃ regs facets, s.fence p = { s with regs := regs, dsp := { s.dsp with facets := facets } } ∧
    ∀ q, (nth facets q {}).data = (s.facet q).data := by
  unfold State.fence
  split
  · exact ⟨s.regs, s.dsp.facets, rfl, fun q => rfl⟩
  · refine ⟨_, _, rfl, fun q => ?_⟩
    by_cases h : q = p
    · rw [h, nth_modAt_same]
      rfl
    · rw [nth_modAt_ne _ _ _ _ _ h]
      rfl

/-- The logical facet moved to the target, the old facet fenced (R88). -/
def relayMoved (s : State) : State :=
  { s with dsp := { s.dsp with
      map := setAt s.dsp.map (s.r Reg.DSP_RELAY_STATUS_LOGICAL) (some (s.r Reg.DSP_RELAY_STATUS_TO_PHYS)) none } }.fence
    (s.r Reg.DSP_RELAY_STATUS_FROM_PHYS)

/-- The registers of a relay that ends (R88, R92). -/
def relayShown (fault : Bool) (s : State) : State :=
  ((((s.w Reg.DSP_RELAY_STATUS_STATE 4).wb Reg.DSP_STATUS_RELAY_BUSY false).inc Reg.DSP_RELAY_COUNT_RELAYS).countSpares).when_ fault
    fun s => s.inc Reg.DSP_RELAY_COUNT_FAULT_RELAYS

theorem facetSpareUsed_r {g : Field} (h : g.key ≠ Reg.IMG_MODULE_STATE_SPARE_IN_USE.key) (s : State) : s.facetSpareUsed.r g = s.r g := by
  unfold State.facetSpareUsed State.spareUsed
  cases s.idleSpares.isEmpty <;> exact State.r_w_ne s _ _ (b2n true) h

theorem facetSpareUsed_raised (s : State) : s.raised ⊆ s.facetSpareUsed.raised := by
  unfold State.facetSpareUsed State.spareUsed
  cases s.idleSpares.isEmpty <;> simp

theorem regsAndEvents_facetSpareUsed (s : State) : RegsAndEvents s s.facetSpareUsed := by
  unfold State.facetSpareUsed
  cases s.idleSpares.isEmpty <;> rfl

/-- The end of a relay: the move, the registers, the event and the spare in use (R88). -/
theorem relayEnd_eq (s : State) : ∃ fault args, relayEnd s =
    ((relayShown fault (relayMoved s)).raise Evt.FACET_RELAY_DONE args).facetSpareUsed := ⟨_, _, rfl⟩

/-- What the end of a relay shows and leaves (R88, R92). -/
theorem relayEnd_effects (s : State) :
    (relayEnd s).r Reg.DSP_RELAY_STATUS_STATE = 4 ∧ (relayEnd s).r Reg.DSP_STATUS_RELAY_BUSY = 0 ∧
    (relayEnd s).physOf (s.r Reg.DSP_RELAY_STATUS_LOGICAL) = some (s.r Reg.DSP_RELAY_STATUS_TO_PHYS) ∧
    (∀ q, ((relayEnd s).facet q).data = (s.facet q).data) ∧
    Evt.FACET_RELAY_DONE.src ∈ (relayEnd s).raised.map (fun x => x.evt.src) ∧ SameMemory s (relayEnd s) := by
  obtain ⟨fault, args, form⟩ := relayEnd_eq s
  obtain ⟨regs, facets, moved, data⟩ := fence_form { s with dsp := { s.dsp with
      map := setAt s.dsp.map (s.r Reg.DSP_RELAY_STATUS_LOGICAL) (some (s.r Reg.DSP_RELAY_STATUS_TO_PHYS)) none } }
    (s.r Reg.DSP_RELAY_STATUS_FROM_PHYS)
  have shown : RegsAndEvents (relayMoved s) ((relayShown fault (relayMoved s)).raise Evt.FACET_RELAY_DONE args) := by cases fault <;> rfl
  have only := shown.trans (regsAndEvents_facetSpareUsed _)
  rw [← form] at only
  have dsp : (relayEnd s).dsp = (relayMoved s).dsp := by rw [only]
  refine ⟨?_, ?_, ?_, fun q => ?_, ?_, ?_⟩
  · rw [form, facetSpareUsed_r (by decide)]
    cases fault <;> simp (disch := decide) [relayShown, State.countSpares, Reg.DSP_RELAY_STATUS_STATE]
  · rw [form, facetSpareUsed_r (by decide)]
    cases fault <;> simp (disch := decide) [relayShown, State.countSpares, b2n]
  · rw [State.physOf, dsp, relayMoved, moved]
    exact nth_setAt_same ..
  · rw [State.facet, dsp, relayMoved, moved]
    exact data q
  · rw [form]
    exact List.map_subset _ (facetSpareUsed_raised _) (by simp)
  · rw [only, relayMoved, moved]
    exact ⟨rfl, rfl, rfl, rfl⟩

end Sys2Proof.Machine

namespace Sys2Proof

open Sys2Proof.Machine

/-! ### The steps of a relay -/

theorem insertBy_perm {α : Type} (key : α → Nat) (x : α) (l : List α) : (insertBy key x l).Perm (x :: l) := by
  induction l with
  | nil => exact .refl _
  | cons y l ih =>
    rw [insertBy]
    split
    · exact .refl _
    · exact (ih.cons y).trans (.swap x y l)

/-- A request for a facet that none is held or running for joins the held ones (R88). -/
theorem relayRequest_new {s : Machine.State} {k reason : Nat} (mapped : (s.physOf k).isSome = true) (idle : s.relayBusy = false)
    (none : ∀ x ∈ s.dsp.requests, x.1 ≠ k) : relayRequest k reason s =
      withRequests (insertBy (fun x => x.1) (k, reason) s.dsp.requests) s := by
  have unheld : (s.dsp.requests.any fun x => x.1 == k) = false := by simpa using none
  rw [relayRequest, if_neg (by simp [idle, Option.isSome_iff_ne_none.mp mapped]), unheld]
  rfl

theorem dspRelayCtrl_completes (s : Machine.State) (k : Nat) (serving : Serving s) (hk : k < 96) (mapped : (s.physOf k).isSome = true)
    (idle : s.relayBusy = false) (none : ∀ x ∈ s.dsp.requests, x.1 ≠ k) :
    ∃ t, exec (.dspRelayCtrl k 0xC3A5) s = .next t ∧ (k, 3) ∈ t.dsp.requests ∧
      t.dsp.requests.length = s.dsp.requests.length + 1 ∧ t.regs = s.regs ∧ SameMemory s t := by
  have run : exec (.dspRelayCtrl k 0xC3A5) s = .next (relayRequest k 3 s).fin := by
    have e : exec (.dspRelayCtrl k 0xC3A5) s = (s.served (dspRelayCtrl k 0xC3A5)).done := rfl
    rw [e, served_serving _ serving, dspRelayCtrl, if_pos rfl, Nat.mod_eq_of_lt (by omega), State.done_eq]
  have joins := insertBy_perm (fun x : Nat × Nat => x.1) (k, 3) s.dsp.requests
  refine ⟨_, run, ?_⟩
  simp only [State.fin_dsp, State.fin_regs, sameMemory_fin]
  rw [relayRequest_new mapped idle none]
  exact ⟨joins.mem_iff.mpr List.mem_cons_self, joins.length_eq, rfl, rfl, rfl, rfl, rfl⟩

theorem relayStart_completes (s : Machine.State) (k p reason : Nat) (rest : List (Nat × Nat)) (hk : k < 96) (hp : p < 112)
    (orderly : reason < 4) (idle : s.relayBusy = false) (held : s.dsp.requests = (k, reason) :: rest)
    (spare : s.idleSpares.find? (fun p => (s.facet p).testPass) = some p) :
    ∃ t, exec .relayStart s = .next t ∧ t.r Reg.DSP_RELAY_STATUS_STATE = 1 ∧ t.r Reg.DSP_RELAY_STATUS_LOGICAL = k ∧
      t.r Reg.DSP_RELAY_STATUS_TO_PHYS = p ∧ t.r Reg.DSP_RELAY_STATUS_REASON = reason ∧ t.r Reg.DSP_STATUS_RELAY_BUSY = 1 ∧
      t.dsp.requests = rest ∧ Pending Evt.FACET_RELAY_START t ∧ SameMemory s t := by
  let u : Machine.State := { s with dsp := { s.dsp with requests := rest } }
  have target : relayTarget k u = some (p, u) := by
    refine relayTarget_spare k ?_
    rw [idleSpares_of_regs (s := s) (t := u) rfl rfl]
    exact spare
  have form : relayStart s = (relayBegin k reason p u).raise Evt.FACET_RELAY_START [.code k, .code reason] := by
    rw [relayStart, if_neg (by simp [idle]), held]
    refine (if_neg (by omega)).trans ?_
    rw [target]
  obtain ⟨state, logical, target', why, busy⟩ := relayBegin_shows (reason := reason) (by omega : k < 128) (by omega) (by omega : p < 128) u
  have run : exec .relayStart s = .next (relayStart s).fin := rfl
  refine ⟨_, run, ?_⟩
  simp only [State.fin_r, State.fin_dsp, sameMemory_fin]
  rw [form]
  exact ⟨state, logical, target', why, busy, rfl, pending_fin (by simp), rfl, rfl, rfl, rfl⟩

theorem relayCodeLoaded_completes (s : Machine.State) (loading : s.r Reg.DSP_RELAY_STATUS_STATE = 1)
    (orderly : s.r Reg.DSP_RELAY_STATUS_REASON ≠ 4) :
    ∃ t, exec .relayCodeLoaded s = .next t ∧ t.r Reg.DSP_RELAY_STATUS_STATE = 2 ∧
      (t.facet (s.r Reg.DSP_RELAY_STATUS_TO_PHYS)).code = nth s.dsp.graphs.code (s.r Reg.DSP_RELAY_STATUS_LOGICAL) [] ∧
      RegsBut [Reg.DSP_RELAY_STATUS_STATE] s t ∧ SameMemory s t := by
  have form : relayCodeLoaded s = (s.modFacet (s.r Reg.DSP_RELAY_STATUS_TO_PHYS) fun f => { f with
      code := nth s.dsp.graphs.code (s.r Reg.DSP_RELAY_STATUS_LOGICAL) [] }).w Reg.DSP_RELAY_STATUS_STATE 2 :=
    if_pos (by simp [loading, orderly])
  have run : exec .relayCodeLoaded s = .next (relayCodeLoaded s).fin := rfl
  refine ⟨_, run, ?_⟩
  simp only [State.fin_r, State.fin_facet, regsBut_fin, sameMemory_fin]
  rw [form, State.r_w_same, State.w_facet, State.facet_modFacet_same]
  exact ⟨rfl, rfl, ((RegsBut.refl _ s).of_regs rfl).w 2 List.mem_cons_self, rfl, rfl, rfl, rfl⟩

theorem relayCopyDone_completes (s : Machine.State) (copying : s.r Reg.DSP_RELAY_STATUS_STATE = 2) :
    ∃ t, exec .relayCopyDone s = .next t ∧ t.r Reg.DSP_RELAY_STATUS_STATE = 3 ∧
      (t.facet (s.r Reg.DSP_RELAY_STATUS_TO_PHYS)).data = (s.facet (s.r Reg.DSP_RELAY_STATUS_FROM_PHYS)).data ∧
      RegsBut [Reg.DSP_RELAY_STATUS_STATE] s t ∧ SameMemory s t := by
  have form : relayCopyDone s = (s.modFacet (s.r Reg.DSP_RELAY_STATUS_TO_PHYS) fun f => { f with
      data := (s.facet (s.r Reg.DSP_RELAY_STATUS_FROM_PHYS)).data }).w Reg.DSP_RELAY_STATUS_STATE 3 := if_pos copying
  have run : exec .relayCopyDone s = .next (relayCopyDone s).fin := rfl
  refine ⟨_, run, ?_⟩
  simp only [State.fin_r, State.fin_facet, regsBut_fin, sameMemory_fin]
  rw [form, State.r_w_same, State.w_facet, State.facet_modFacet_same]
  exact ⟨rfl, rfl, ((RegsBut.refl _ s).of_regs rfl).w 3 List.mem_cons_self, rfl, rfl, rfl, rfl⟩

theorem relaySwitch_completes (s : Machine.State) (waiting : s.r Reg.DSP_RELAY_STATUS_STATE = 3)
    (running : (s.facet (s.r Reg.DSP_RELAY_STATUS_FROM_PHYS)).running = none) (pref : (s.facet (s.r Reg.DSP_RELAY_STATUS_FROM_PHYS)).pref = none)
    (latch : (s.facet (s.r Reg.DSP_RELAY_STATUS_FROM_PHYS)).latch = none) :
    ∃ t, exec .relaySwitch s = .next t ∧ t.r Reg.DSP_RELAY_STATUS_STATE = 4 ∧ t.r Reg.DSP_STATUS_RELAY_BUSY = 0 ∧
      t.physOf (s.r Reg.DSP_RELAY_STATUS_LOGICAL) = some (s.r Reg.DSP_RELAY_STATUS_TO_PHYS) ∧ Pending Evt.FACET_RELAY_DONE t ∧
      SameMemory s t := by
  obtain ⟨state, busy, moved, -, told, memory⟩ := relayEnd_effects s
  have form : relaySwitch s = relayEnd s := if_pos (by simp [waiting, running, pref, latch])
  have run : exec .relaySwitch s = .next (relaySwitch s).fin := rfl
  refine ⟨_, run, ?_⟩
  rw [form]
  simp only [State.fin_r, State.physOf, State.fin_dsp, sameMemory_fin]
  exact ⟨state, busy, moved, pending_fin told, memory⟩

end Sys2Proof

namespace Sys2Proof.Machine

/-! ### Overruns and stops -/

/-- A write to data memory changes the data of facets alone (R88, R89). -/
theorem dataWrites_form (s : State) (p : Nat) (writes : List (Nat × Byte)) : ∃ facets,
    s.dataWrites p writes = { s with dsp := { s.dsp with facets := facets } } ∧
      ∀ q, ∃ data, nth facets q {} = { s.facet q with data := data } := by
  have put (u : State) (p : Nat) (g : Facet → Facet) (keeps : ∀ f, ∃ data, g f = { f with data := data })
      (same : ∀ q, ∃ data, u.facet q = { s.facet q with data := data }) (q : Nat) :
      ∃ data, (u.modFacet p g).facet q = { s.facet q with data := data } := by
    obtain ⟨data, held⟩ := same q
    by_cases h : q = p
    · obtain ⟨data', changed⟩ := keeps (u.facet q)
      exact ⟨data', by rw [← h, State.facet_modFacet_same, changed, held]⟩
    · exact ⟨data, by rw [State.facet_modFacet_ne _ _ _ _ h, held]⟩
  have unchanged (q : Nat) : ∃ data, s.facet q = { s.facet q with data := data } := ⟨_, rfl⟩
  unfold State.dataWrites
  cases s.executes p
  · exact ⟨s.dsp.facets, rfl, unchanged⟩
  · rw [State.when_true]
    have once := put s p _ (fun f => ⟨writes.foldl (fun l x => setAt l (x.1 % 4096) x.2 0) f.data, rfl⟩) unchanged
    dsimp only
    cases s.r Reg.DSP_RELAY_STATUS_STATE == 2 || s.r Reg.DSP_RELAY_STATUS_STATE == 3
    · exact ⟨_, rfl, once⟩
    · cases s.r Reg.DSP_RELAY_STATUS_FROM_PHYS == p
      · exact ⟨_, rfl, once⟩
      · exact ⟨_, rfl, put _ _ _ (fun f => ⟨_, rfl⟩) once⟩

/-- An item beyond its BUDGET: its completion with the abort flag is latched, its cycles are recorded, and the overrun is reported
(R87). -/
theorem overrunItem_effects {s : State} {p : Nat} {d : Desc} (running : (s.facet p).running = some d) (empty : (s.facet p).latch = none) :
    ((overrunItem p s).facet p).latch = some { index := s.indexOf p, node := d.node, mask := 0, abort := true } ∧
    (overrunItem p s).r (Reg.DSP_FCT_CYCLES_LAST p) = satN 16 ((s.node d.node).budget + 1) ∧
    Evt.FACET_OVERRUN.src ∈ (overrunItem p s).raised.map (fun x => x.evt.src) ∧ SameMemory s (overrunItem p s) := by
  let aborted : Completion := { index := s.indexOf p, node := d.node, mask := 0, abort := true }
  let u := ((((s.modFacet p fun f => { f with latch := some aborted }).itemCycles p ((s.node d.node).budget + 1)).inc Reg.DSP_OVERRUNS).raise
    Evt.FACET_OVERRUN [.code (s.indexOf p), .ident d.node])
  have form : overrunItem p s = relayRequest (s.indexOf p) 2 u := by
    rw [overrunItem]
    dsimp only
    rw [running, empty]
    rfl
  have below : (Reg.DSP_FCT_CYCLES_LAST p).key ≠ Reg.DSP_OVERRUNS.key := by
    simp [Field.key, Reg.DSP_FCT_CYCLES_LAST, Reg.DSP_OVERRUNS]; omega
  have beside : (Reg.DSP_FCT_CYCLES_LAST p).key ≠ (Reg.DSP_FCT_CYCLES_MAX p).key := by
    simp [Field.key, Reg.DSP_FCT_CYCLES_LAST, Reg.DSP_FCT_CYCLES_MAX]
  rw [form]
  refine ⟨?_, ?_, ?_, ?_⟩
  · simp [u, aborted, State.itemCycles]
  · rw [(DspOnly.relayRequest _ _ u).r, State.raise_r, State.inc_eq, State.r_w_ne _ _ _ _ below, State.itemCycles, State.peak_eq,
      State.r_w_ne _ _ _ _ beside, State.r_w_same]
    exact Nat.mod_eq_of_lt (satN_lt _ _)
  · rw [(DspOnly.relayRequest _ _ u).raised]
    simp [u]
  · exact (DspOnly.relayRequest _ _ u).sameMemory

/-- The stop of a facet: an empty latch takes the aborted completion of its running item, the prefetched slot is emptied (R92). -/
theorem stopFacet_form (p : Nat) (s : State) : ∃ ready flows stop,
    stopFacet p s = State.modFacet { s with dsp := { s.dsp with ready := ready, flows := flows } } p stop ∧
    (∀ f, (stop f).stopped = true ∧ (stop f).pref = none ∧ (stop f).testPass = f.testPass) ∧
    ∀ f d, f.running = some d → f.latch = none →
      (stop f).latch = some { index := s.indexOf p, node := d.node, mask := 0, abort := true } := by
  unfold stopFacet
  dsimp only
  split
  · refine ⟨s.dsp.ready, s.dsp.flows, _, rfl, fun f => ⟨rfl, rfl, rfl⟩, fun f d running empty => ?_⟩
    dsimp only
    rw [running, empty]
  · refine ⟨_, _, _, rfl, fun f => ⟨rfl, rfl, rfl⟩, fun f d running empty => ?_⟩
    dsimp only
    rw [running, empty]

theorem stopFacet_effects {s : State} {p : Nat} {d : Desc} (running : (s.facet p).running = some d) (empty : (s.facet p).latch = none) :
    DspOnly s (stopFacet p s) ∧ (stopFacet p s).dsp.map = s.dsp.map ∧ ((stopFacet p s).facet p).stopped = true ∧
    ((stopFacet p s).facet p).pref = none ∧
    ((stopFacet p s).facet p).latch = some { index := s.indexOf p, node := d.node, mask := 0, abort := true } ∧
    ∀ q, ((stopFacet p s).facet q).testPass = (s.facet q).testPass := by
  obtain ⟨ready, flows, stop, form, stops, latches⟩ := stopFacet_form p s
  obtain ⟨stopped, pref, -⟩ := stops (s.facet p)
  rw [form]
  refine ⟨rfl, rfl, ?_, ?_, ?_, fun q => ?_⟩
  · rw [State.facet_modFacet_same]
    exact stopped
  · rw [State.facet_modFacet_same]
    exact pref
  · rw [State.facet_modFacet_same]
    exact latches _ d running empty
  · by_cases h : q = p
    · rw [h, State.facet_modFacet_same]
      exact (stops _).2.2
    · rw [State.facet_modFacet_ne _ _ _ _ h]
      rfl

/-- A FAULT relay of a facet while no relay is busy: the facet stops, the requests held for it are dropped and the relay takes its
target at once (R92). -/
theorem faultRelay_idle {s : State} {k p q : Nat} {d : Desc} (running : (s.facet p).running = some d) (empty : (s.facet p).latch = none)
    (idle : s.relayBusy = false) (spare : s.idleSpares.find? (fun p => (s.facet p).testPass) = some q) : ∃ requests,
    faultRelay k p s = relayBegin k 4 q (withRequests requests (stopFacet p s)) := by
  obtain ⟨only, map, -, -, -, testPass⟩ := stopFacet_effects running empty
  let u := withRequests ((stopFacet p s).dsp.requests.filter fun x => x.1 != k) (stopFacet p s)
  have spares : u.idleSpares = s.idleSpares := idleSpares_of_regs only.regs map
  have passed : (fun p => (u.facet p).testPass) = fun p => (s.facet p).testPass := funext testPass
  have target : relayTarget k u = some (q, u) := relayTarget_spare k (by rw [spares, passed, spare])
  have begins : faultRelay k p s = faultBegin k u := if_neg (by simp [relayBusy_of_regs only.regs, idle])
  exact ⟨_, by rw [begins, faultBegin, target]⟩

end Sys2Proof.Machine

namespace Sys2Proof

open Sys2Proof.Machine

theorem facetOverrun_completes (s : Machine.State) (p : Nat) (writes : List (Nat × Byte)) (d : Desc) (awake : s.parked = false)
    (running : (s.facet p).running = some d) (empty : (s.facet p).latch = none) :
    ∃ t, exec (.facetOverrun p writes) s = .next t ∧
      (t.facet p).latch = some { index := s.indexOf p, node := d.node, mask := 0, abort := true } ∧
      t.r (Reg.DSP_FCT_CYCLES_LAST p) = satN 16 ((s.node d.node).budget + 1) ∧ Pending Evt.FACET_OVERRUN t ∧ SameMemory s t := by
  have run : exec (.facetOverrun p writes) s = .next (overrunItem p (s.dataWrites p writes)).fin := by
    have e : exec (.facetOverrun p writes) s = (s.awake (facetOverrun p writes)).done := rfl
    rw [e, awake_unparked _ awake, State.done_eq, facetOverrun]
  obtain ⟨facets, written, keeps⟩ := dataWrites_form s p writes
  obtain ⟨data, facet⟩ := keeps p
  have runs : ((s.dataWrites p writes).facet p).running = some d := by
    rw [written, State.facet_mk, facet]
    exact running
  have free : ((s.dataWrites p writes).facet p).latch = none := by
    rw [written, State.facet_mk, facet]
    exact empty
  obtain ⟨latch, cycles, told, memory⟩ := overrunItem_effects runs free
  have index : (s.dataWrites p writes).indexOf p = s.indexOf p := indexOf_of_regs (by rw [written]) (by rw [written]) p
  have node : (s.dataWrites p writes).node d.node = s.node d.node := by
    rw [written]
    rfl
  rw [index] at latch
  rw [node] at cycles
  refine ⟨_, run, ?_⟩
  simp only [State.fin_facet, State.fin_r, sameMemory_fin]
  refine ⟨latch, cycles, pending_fin told, ?_⟩
  rw [written] at memory ⊢
  exact memory

theorem facetStall_completes (s : Machine.State) (p k q : Nat) (d : Desc) (awake : s.parked = false)
    (running : (s.facet p).running = some d) (empty : (s.facet p).latch = none) (carries : s.logicalOf p = some k)
    (idle : s.relayBusy = false) (hq : q < 112) (spare : s.idleSpares.find? (fun p => (s.facet p).testPass) = some q) :
    ∃ t, exec (.facetStall p) s = .next t ∧ (t.facet p).stopped = true ∧ (t.facet p).pref = none ∧
      (t.facet p).latch = some { index := s.indexOf p, node := d.node, mask := 0, abort := true } ∧
      t.r Reg.DSP_RELAY_STATUS_STATE = 1 ∧ t.r Reg.DSP_RELAY_STATUS_REASON = 4 ∧ t.r Reg.DSP_RELAY_STATUS_TO_PHYS = q ∧
      SameMemory s t := by
  have run : exec (.facetStall p) s = .next (faultRelay k p s).fin := by
    have e : exec (.facetStall p) s = (s.awake (facetStall p)).done := rfl
    have stalls : facetStall p s = faultRelay k p s := by simp [facetStall, running, empty, carries]
    rw [e, awake_unparked _ awake, State.done_eq, stalls]
  obtain ⟨requests, form⟩ := faultRelay_idle (k := k) running empty idle spare
  obtain ⟨only, -, stopped, pref, latch, -⟩ := stopFacet_effects running empty
  have hk : k < 96 := List.mem_range.mp (List.mem_of_find?_eq_some carries)
  have other : p ≠ q := (logicalOf_of_spare (List.mem_of_find?_eq_some spare) carries).symm
  obtain ⟨state, -, target, reason, -⟩ := relayBegin_shows (reason := 4) (by omega : k < 128) (by omega) (by omega : q < 128)
    (withRequests requests (stopFacet p s))
  have facet : (faultRelay k p s).facet p = (stopFacet p s).facet p := by
    rw [form, relayBegin_facet_ne _ _ _ other, withRequests_facet]
  refine ⟨_, run, ?_⟩
  simp only [State.fin_facet, State.fin_r, sameMemory_fin]
  rw [facet, form]
  have held : SameMemory (stopFacet p s) (withRequests requests (stopFacet p s)) := ⟨rfl, rfl, rfl, rfl⟩
  exact ⟨stopped, pref, latch, state, reason, target, (only.sameMemory.trans held).trans (relayBegin_sameMemory ..)⟩

theorem facetMemoryUncorr_completes (s : Machine.State) (p : Nat) (carries : s.logicalOf p = none) :
    ∃ t, exec (.facetMemoryUncorr p) s = .next t ∧
      t.r (Reg.DSP_FCT_ECC_UNCORRECTED p) =
        satN (Reg.DSP_FCT_ECC_UNCORRECTED p).width (s.r (Reg.DSP_FCT_ECC_UNCORRECTED p) + 1) ∧
      RegsBut [Reg.DSP_FCT_ECC_UNCORRECTED p] s t ∧ SameMemory s t := by
  have form : facetMemoryUncorr p s = s.inc (Reg.DSP_FCT_ECC_UNCORRECTED p) := by
    rw [facetMemoryUncorr]
    rw [logicalOf_of_map (s := s) (t := s.inc (Reg.DSP_FCT_ECC_UNCORRECTED p)) rfl, carries]
  have run : exec (.facetMemoryUncorr p) s = .next (facetMemoryUncorr p s).fin := rfl
  refine ⟨_, run, ?_⟩
  simp only [State.fin_r, regsBut_fin, sameMemory_fin]
  rw [form, State.inc_eq, State.r_w_same, Nat.mod_eq_of_lt (satN_lt _ _)]
  exact ⟨rfl, .w _ (.refl _ s) List.mem_cons_self, rfl, rfl, rfl, rfl⟩

/-- The loupe's decrement at port 13 changes the ports alone. -/
theorem loupePort_form (s : Machine.State) (c : Nat) :
    ∃ ports held, s.loupePort c = { s with dsp := { s.dsp with ports := ports, held := held } } := by
  by_cases room : (nth s.dsp.ports 13 []).length < 16
  · exact ⟨_, s.dsp.held, by rw [State.loupePort, portPush_room _ room]⟩
  · exact ⟨s.dsp.ports, _, by
      rw [State.loupePort, portPush_full _ (by omega)]
      rfl⟩

theorem faultRelayLoadDone_completes (s : Machine.State) (loading : s.r Reg.DSP_RELAY_STATUS_STATE = 1)
    (fault : s.r Reg.DSP_RELAY_STATUS_REASON = 4) :
    ∃ t, exec .faultRelayLoadDone s = .next t ∧ t.r Reg.DSP_RELAY_STATUS_STATE = 4 ∧ t.r Reg.DSP_STATUS_RELAY_BUSY = 0 ∧
      t.physOf (s.r Reg.DSP_RELAY_STATUS_LOGICAL) = some (s.r Reg.DSP_RELAY_STATUS_TO_PHYS) ∧
      (t.facet (s.r Reg.DSP_RELAY_STATUS_TO_PHYS)).data = nth s.dsp.graphs.data (s.r Reg.DSP_RELAY_STATUS_LOGICAL) [] ∧
      Pending Evt.FACET_RELAY_DONE t ∧ SameMemory s t := by
  let u := s.modFacet (s.r Reg.DSP_RELAY_STATUS_TO_PHYS) fun f => { f with
    code := nth s.dsp.graphs.code (s.r Reg.DSP_RELAY_STATUS_LOGICAL) [], data := nth s.dsp.graphs.data (s.r Reg.DSP_RELAY_STATUS_LOGICAL) [] }
  obtain ⟨ports, held, restart⟩ := loupePort_form u (nth s.dsp.fab.restart (s.r Reg.DSP_RELAY_STATUS_LOGICAL) 0)
  have form : faultRelayLoadDone s = relayEnd (u.loupePort (nth s.dsp.fab.restart (s.r Reg.DSP_RELAY_STATUS_LOGICAL) 0)) :=
    if_pos (by simp [loading, fault])
  rw [restart] at form
  obtain ⟨state, busy, moved, data, told, memory⟩ := relayEnd_effects
    { u with dsp := { u.dsp with ports := ports, held := held } }
  have run : exec .faultRelayLoadDone s = .next (faultRelayLoadDone s).fin := rfl
  refine ⟨_, run, ?_⟩
  rw [form]
  simp only [State.fin_r, State.physOf, State.fin_facet, State.fin_dsp, sameMemory_fin]
  refine ⟨state, busy, moved, (data _).trans ?_, pending_fin told, memory⟩
  exact congrArg Facet.data (State.facet_modFacet_same s _ _)

end Sys2Proof

namespace Sys2Proof.Machine

/-! ### The check of margins and errors -/

/-- What the loupe's check shows of a facet: its margin, the least margin and its corrected errors (R88). -/
def facetShown (margins eccs : List Nat) (p : Nat) (s : State) : State :=
  let m := satN 8 (nth margins p (s.r (Reg.DSP_FCT_MARGIN_MARGIN p)))
  let s := s.w (Reg.DSP_FCT_MARGIN_MARGIN p) m
  let s := if m < s.r (Reg.DSP_FCT_MARGIN_MIN p) then s.w (Reg.DSP_FCT_MARGIN_MIN p) m else s
  s.w (Reg.DSP_FCT_ECC_CORRECTED p) (satN 16 (s.r (Reg.DSP_FCT_ECC_CORRECTED p) + nth eccs p 0))

theorem DspOnly.selfTest (s : State) (p : Nat) (tests : List Bool) : DspOnly s (s.selfTest p tests) := rfl

/-- Beside what it shows of an unfenced facet, the check begins a self-test and holds relay requests (R65, R88). -/
theorem facetCheck_unfenced {s : State} {p : Nat} (margins eccs : List Nat) (tests : List Bool) (free : s.fenced p = false) :
    DspOnly (facetShown margins eccs p s) (facetCheck margins eccs tests s p) := by
  rw [facetCheck, if_neg (by simp [free])]
  extract_lets m margin least c shown
  have e : facetShown margins eccs p s = shown := rfl
  rw [e]
  clear_value shown
  split
  · split
    · exact .selfTest shown p tests
    · exact .refl shown
  · extract_lets tested
    have begun : DspOnly shown tested := by
      unfold tested
      split
      · exact .selfTest shown p tests
      · exact .refl shown
    exact (begun.when fun u => .relayRequest ..).when fun u => .relayRequest ..

/-- The registers of a facet's margin and errors. -/
def checkFields (p : Nat) : List Field := [Reg.DSP_FCT_MARGIN_MARGIN p, Reg.DSP_FCT_MARGIN_MIN p, Reg.DSP_FCT_ECC_CORRECTED p]

theorem facetShown_margin (margins eccs : List Nat) (p : Nat) (s : State) :
    (facetShown margins eccs p s).r (Reg.DSP_FCT_MARGIN_MARGIN p) = satN 8 (nth margins p (s.r (Reg.DSP_FCT_MARGIN_MARGIN p))) := by
  have min : (Reg.DSP_FCT_MARGIN_MARGIN p).key ≠ (Reg.DSP_FCT_MARGIN_MIN p).key := by
    simp [Field.key, Reg.DSP_FCT_MARGIN_MARGIN, Reg.DSP_FCT_MARGIN_MIN]
  have ecc : (Reg.DSP_FCT_MARGIN_MARGIN p).key ≠ (Reg.DSP_FCT_ECC_CORRECTED p).key := by
    simp [Field.key, Reg.DSP_FCT_MARGIN_MARGIN, Reg.DSP_FCT_ECC_CORRECTED]
  unfold facetShown
  dsimp only
  rw [State.r_w_ne _ _ _ _ ecc]
  split
  · rw [State.r_w_ne _ _ _ _ min, State.r_w_same]
    exact Nat.mod_eq_of_lt (satN_lt _ _)
  · rw [State.r_w_same]
    exact Nat.mod_eq_of_lt (satN_lt _ _)

end Sys2Proof.Machine

namespace Sys2Proof

open Sys2Proof.Machine

theorem facetShown_frame (margins eccs : List Nat) (p : Nat) (s : Machine.State) :
    RegsBut (checkFields p) s (facetShown margins eccs p s) ∧ SameMemory s (facetShown margins eccs p s) := by
  have margin := (RegsBut.refl (checkFields p) s).w (satN 8 (nth margins p (s.r (Reg.DSP_FCT_MARGIN_MARGIN p)))) List.mem_cons_self
  unfold facetShown
  dsimp only
  split
  · exact ⟨(margin.w _ (by simp [checkFields])).w _ (by simp [checkFields]), rfl, rfl, rfl, rfl⟩
  · exact ⟨margin.w _ (by simp [checkFields]), rfl, rfl, rfl, rfl⟩

/-- The check of one facet touches that facet's registers alone. -/
theorem facetCheck_frame (margins eccs : List Nat) (tests : List Bool) (s : Machine.State) (p : Nat) :
    RegsBut (checkFields p) s (facetCheck margins eccs tests s p) ∧ SameMemory s (facetCheck margins eccs tests s p) := by
  by_cases free : s.fenced p = false
  · obtain ⟨regs, memory⟩ := facetShown_frame margins eccs p s
    have only := facetCheck_unfenced margins eccs tests free
    exact ⟨regs.of_regs only.regs, memory.trans only.sameMemory⟩
  · have skipped : facetCheck margins eccs tests s p = s := if_pos (by simpa using free)
    rw [skipped]
    exact ⟨.refl _ s, .refl s⟩

theorem key_not_mem_checkFields {f : Machine.Field} {q : Nat} (h : f.key < 0x30000 * 32) : f.key ∉ (checkFields q).map Machine.Field.key := by
  simp [checkFields, Machine.Field.key, Reg.DSP_FCT_MARGIN_MARGIN, Reg.DSP_FCT_MARGIN_MIN, Reg.DSP_FCT_ECC_CORRECTED] at h ⊢
  omega

theorem margin_not_mem_checkFields {p q : Nat} (h : p ≠ q) :
    (Reg.DSP_FCT_MARGIN_MARGIN p).key ∉ (checkFields q).map Machine.Field.key := by
  simp [checkFields, Machine.Field.key, Reg.DSP_FCT_MARGIN_MARGIN, Reg.DSP_FCT_MARGIN_MIN, Reg.DSP_FCT_ECC_CORRECTED]
  omega

/-- What a group has at a place it covers does not depend on the default. -/
theorem nth_default_eq {α : Type} {l : List α} {i : Nat} (h : i < l.length) (d e : α) : nth l i d = nth l i e := by
  induction l generalizing i with
  | nil => cases h
  | cons x l ih =>
    cases i with
    | zero => rfl
    | succ i => exact ih (by simpa using h)

/-- After the facets of a list are checked, an unfenced one among them shows its margin. -/
theorem margin_checked (margins eccs : List Nat) (tests : List Bool) {p : Nat} (hp : p < 112) (given : p < margins.length) (l : List Nat)
    (s : Machine.State) (free : s.fenced p = false)
    (h : p ∈ l ∨ s.r (Reg.DSP_FCT_MARGIN_MARGIN p) = satN 8 (nth margins p 0)) :
    (l.foldl (facetCheck margins eccs tests) s).r (Reg.DSP_FCT_MARGIN_MARGIN p) = satN 8 (nth margins p 0) := by
  induction l generalizing s with
  | nil => exact h.resolve_left List.not_mem_nil
  | cons q l ih =>
    obtain ⟨regs, -⟩ := facetCheck_frame margins eccs tests s q
    have below : (Reg.DSP_FENCED (p / 32)).key < 0x30000 * 32 := by
      simp [Machine.Field.key, Reg.DSP_FENCED]
      omega
    have stays : (facetCheck margins eccs tests s q).fenced p = false := by
      rw [State.fenced, regs _ (key_not_mem_checkFields below)]
      exact free
    refine ih _ stays ?_
    by_cases e : p = q
    · subst e
      right
      rw [(facetCheck_unfenced margins eccs tests free).r, facetShown_margin, nth_default_eq given _ 0]
    · rw [regs _ (margin_not_mem_checkFields e)]
      exact h.imp_left fun m => (List.mem_cons.mp m).resolve_left e

theorem sameMemory_checked (margins eccs : List Nat) (tests : List Bool) (l : List Nat) (s : Machine.State) :
    SameMemory s (l.foldl (facetCheck margins eccs tests) s) := by
  induction l generalizing s with
  | nil => exact .refl s
  | cons q l ih => exact (facetCheck_frame margins eccs tests s q).2.trans (ih _)

theorem loupeLate_frame (t : Nat) (s : Machine.State) :
    RegsBut [Reg.MIR_LOUPE_LATE_LATE, Reg.MIR_LOUPE_LATE_EVENTS] s (loupeLate s t) ∧ SameMemory s (loupeLate s t) := by
  unfold loupeLate
  dsimp only
  split
  · exact ⟨(((RegsBut.refl _ s).w _ (by simp)).w _ (by simp)).of_regs rfl, rfl, rfl, rfl, rfl⟩
  · exact ⟨.refl _ s, .refl s⟩

theorem loupeRan_frame (t : Nat) (s : Machine.State) :
    RegsBut [Reg.MIR_LOUPE_LATE_LATE, Reg.MIR_LOUPE_LATE_EVENTS] s (loupeRan t s) ∧ SameMemory s (loupeRan t s) := by
  obtain ⟨regs, memory⟩ := loupeLate_frame t s
  unfold loupeRan
  extract_lets late mem u
  obtain ⟨ports, held, form⟩ := post_form (u.w Reg.MIR_LOUPE_LATE_LATE (setBit (u.r Reg.MIR_LOUPE_LATE_LATE) t false)) 13 t (by decide)
  rw [form]
  have noted : RegsBut [Reg.MIR_LOUPE_LATE_LATE, Reg.MIR_LOUPE_LATE_EVENTS] s u := regs.of_regs rfl
  exact ⟨(noted.w (setBit (u.r Reg.MIR_LOUPE_LATE_LATE) t false) List.mem_cons_self).of_regs rfl, memory⟩

theorem clear_frame (l : List Machine.Field) (s : Machine.State) : RegsBut l s (s.clear l) ∧ SameMemory s (s.clear l) := by
  refine ⟨fun g hg => r_clear_ne l hg s, ?_⟩
  rw [regsOnly_clear s l]
  exact ⟨rfl, rfl, rfl, rfl⟩

theorem eccWindow_frame (s : Machine.State) :
    RegsBut ((List.range 112).map Reg.DSP_FCT_ECC_CORRECTED) s (eccWindow s) ∧ SameMemory s (eccWindow s) := by
  generalize fields : (List.range 112).map Reg.DSP_FCT_ECC_CORRECTED = l
  rw [eccWindow, fields]
  obtain ⟨regs, memory⟩ := clear_frame l s
  split
  · exact ⟨regs.of_regs rfl, memory⟩
  · exact ⟨.refl _ s, .refl s⟩

theorem facetMarginCheck_completes (s : Machine.State) (margins eccs : List Nat) (tests : List Bool) (p : Nat) (hp : p < 112)
    (free : s.fenced p = false) (given : p < margins.length) :
    ∃ t, exec (.facetMarginCheck margins eccs tests) s = .next t ∧
      t.r (Reg.DSP_FCT_MARGIN_MARGIN p) = satN 8 (nth margins p 0) ∧ SameMemory s t := by
  have run : exec (.facetMarginCheck margins eccs tests) s = .next (facetMarginCheck margins eccs tests s).fin := rfl
  obtain ⟨ran, memory⟩ := loupeRan_frame 6 s
  obtain ⟨window, memory'⟩ := eccWindow_frame (loupeRan 6 s)
  have below : (Reg.DSP_FENCED (p / 32)).key < 0x30000 * 32 := by
    simp [Machine.Field.key, Reg.DSP_FENCED]
    omega
  have stays : (eccWindow (loupeRan 6 s)).fenced p = false := by
    rw [State.fenced, window, ran]
    · exact free
    · simp [Machine.Field.key, Reg.MIR_LOUPE_LATE_LATE, Reg.MIR_LOUPE_LATE_EVENTS] at below ⊢
      omega
    · simp [Machine.Field.key, Reg.DSP_FCT_ECC_CORRECTED] at below ⊢
      omega
  refine ⟨_, run, ?_⟩
  simp only [State.fin_r, sameMemory_fin]
  exact ⟨margin_checked margins eccs tests hp given _ _ stays (.inl (List.mem_range.mpr hp)),
    (memory.trans memory').trans (sameMemory_checked ..)⟩

/-- Settles O8, command by command: the steps of an orderly relay, overruns, stalls and memory errors, the FAULT relay's end, the check. -/
theorem relaysAndFacetFaultsComplete : Obligations.RelaysAndFacetFaultsComplete := by
  unfold Obligations.RelaysAndFacetFaultsComplete
  exact ⟨⟨dspRelayCtrl_completes, relayStart_completes, relayCodeLoaded_completes, relayCopyDone_completes, relaySwitch_completes⟩,
    facetOverrun_completes, facetStall_completes, facetMemoryUncorr_completes, faultRelayLoadDone_completes, facetMarginCheck_completes⟩

end Sys2Proof

/-! PROOFS. Trip commands through port 15 (R81, R190, R191), the rescue trip that one starts (R180), neighbour timeouts (R328) and the
waiting and clearing of the separation check (R188, R189). -/

namespace Sys2Proof.Machine

/-! ### What the pair is told -/

/-- The second state differs from the first in the mirror state and in further raised events alone. -/
def Told (s t : State) : Prop := ∃ mir more, t = { s with mir := mir, raised := s.raised ++ more }

theorem Told.refl (s : State) : Told s s := ⟨s.mir, [], by simp⟩

theorem Told.trans {s t u : State} (h : Told s t) (h' : Told t u) : Told s u := by
  obtain ⟨mir, more, e⟩ := h
  obtain ⟨mir', more', e'⟩ := h'
  exact ⟨mir', more ++ more', by rw [e', e]; simp⟩

theorem Told.regs {s t : State} (h : Told s t) : t.regs = s.regs := by
  obtain ⟨mir, more, e⟩ := h
  rw [e]

theorem Told.r {s t : State} (h : Told s t) (g : Field) : t.r g = s.r g := by simp only [State.r, h.regs]

theorem Told.trip {s t : State} (h : Told s t) : t.trip = s.trip := by
  obtain ⟨mir, more, e⟩ := h
  rw [e]

theorem Told.raised {s t : State} (h : Told s t) : s.raised ⊆ t.raised := by
  obtain ⟨mir, more, e⟩ := h
  rw [e]
  exact List.subset_append_left ..

theorem Told.sameMemory {s t : State} (h : Told s t) : SameMemory s t := by
  obtain ⟨mir, more, e⟩ := h
  rw [e]
  exact ⟨rfl, rfl, rfl, rfl⟩

theorem told_modMir (s : State) (f : MirState → MirState) : Told s (s.modMir f) := ⟨f s.mir, [], by simp [State.modMir]⟩

theorem told_sendLink (s : State) (m : LinkMsg) : Told s (s.sendLink m) := by
  unfold State.sendLink
  split
  · exact told_modMir ..
  · exact ⟨_, _, rfl⟩

/-- A journal entry goes to the partner, or the link's overflow is reported (R351, R354). -/
theorem told_journal (s : State) (x : JournalRec) : Told s (s.journal x) := by
  unfold State.journal
  split
  · exact told_sendLink ..
  · exact .refl s

theorem told_noteStops (old : List StopEntry) (req payload code : Nat) (s : State) : Told s (noteStops old req payload code s) := by
  unfold noteStops
  extract_lets noted
  have counted : Told s noted := by
    unfold noted
    split
    · exact .refl s
    · exact told_modMir ..
  split
  · exact counted
  · exact counted.trans (told_journal ..)

/-- A stop list that stays as it was is not noted. -/
theorem noteStops_same {old : List StopEntry} {s : State} (h : s.trip.stops = old) : noteStops old 0 0 0 s = s := by
  simp [noteStops, h]

/-! ### Commands at port 15 -/

/-- The state with a command's word behind the others at port 15 (R81). -/
def commandTaken (cmd dir : Nat) (s : State) : State :=
  let entry : Dec := ⟨s.dsp.fab.tripCmd, some (cmd + 16 * (dir % 4) + 65536 * 0x7E19)⟩
  { s with dsp := { s.dsp with ports := setAt s.dsp.ports 15 (nth s.dsp.ports 15 [] ++ [entry]) [] } }

/-- A command that finds room enters the FIFO and, on the active module out of Parked, is carried out at once (R81, R191). -/
theorem tripCmd_room {s : State} (cmd dir : Nat) (room : (nth s.dsp.ports 15 []).length < 16) (active : s.active = true)
    (awake : s.parked = false) : tripCmd cmd dir 0x7E19 s = tripCmdDo cmd dir (commandTaken cmd dir s) := by
  rw [tripCmd, if_neg (by simp), tripCmdPush, portPush_room _ room]
  refine (if_neg (fun passive => ?_)).trans (if_neg (fun parked => ?_))
  · exact absurd (active.symm.trans (Bool.eq_false_of_not_eq_true' passive)) (by simp)
  · exact absurd (awake.symm.trans parked) (by simp)

/-- One that finds room while Parked is held by the port (R406). -/
theorem tripCmd_parked {s : State} (cmd dir : Nat) (room : (nth s.dsp.ports 15 []).length < 16) (active : s.active = true)
    (parked : s.parked = true) : tripCmd cmd dir 0x7E19 s =
      (commandTaken cmd dir s).modTrip fun t => { t with cmdsHeld := t.cmdsHeld ++ [(cmd, dir)] } := by
  rw [tripCmd, if_neg (by simp), tripCmdPush, portPush_room _ room]
  refine (if_neg (fun passive => ?_)).trans (if_pos parked)
  exact absurd (active.symm.trans (Bool.eq_false_of_not_eq_true' passive)) (by simp)

/-- One that meets a full FIFO is counted and refused (R81, R191). -/
theorem tripCmd_full {s : State} (cmd dir : Nat) (full : 16 ≤ (nth s.dsp.ports 15 []).length) :
    tripCmd cmd dir 0x7E19 s = (s.inc Reg.DSP_BP_COUNT_DOORBELL_LOST).raise Evt.TRIP_CMD_REFUSED [.code cmd] := by
  rw [tripCmd, if_neg (by simp), tripCmdPush, portPush_full _ full]

/-! ### Out of service -/

/-- A request changes the safety block alone. -/
theorem requestDrive_form (s : State) (on : Bool) : ∃ saf, s.requestDrive on = { s with saf := saf } := ⟨_, rfl⟩

/-- A car that stands and is in service goes out of it at once: its stop list is emptied and the cause recorded (R190). -/
theorem goOos_standing {s : State} {cause : Nat} (hc : cause < 6) (service : s.r Reg.TRIP_OOS_CAUSES = 0)
    (standing : (s.chan 0).moving = false) :
    bitAt ((goOos cause s).r Reg.TRIP_OOS_CAUSES) cause = true ∧ (goOos cause s).r Reg.TRIP_OOS_LAST = cause ∧
    (goOos cause s).r Reg.TRIP_STATUS_STATE = 5 ∧ (goOos cause s).trip.stops = [] ∧
    Evt.OUT_OF_SERVICE.src ∈ (goOos cause s).raised.map (fun x => x.evt.src) ∧ SameMemory s (goOos cause s) := by
  let emptied := s.requeue.modTrip fun t => { t with stops := [], starting := none, rescueHeld := none }
  obtain ⟨saf, withdrawn⟩ : ∃ saf, (emptied.when_ (emptied.r Reg.TRIP_STATUS_STATE == 1) fun s => s.requestDrive false) =
      { emptied with saf := saf } := by
    cases emptied.r Reg.TRIP_STATUS_STATE == 1
    · exact ⟨emptied.saf, rfl⟩
    · exact requestDrive_form emptied false
  have still : (emptied.chan 0).moving = false := standing
  have form : goOos cause s = ((((({ emptied with saf := saf } : State).w Reg.TRIP_STATUS_STATE 5).setBitOf Reg.TRIP_OOS_CAUSES cause true).w
      Reg.TRIP_OOS_LAST cause).raise Evt.OUT_OF_SERVICE [.code cause]) := by
    have inService : s.outOfService = false := by simp [State.outOfService, service]
    unfold goOos
    rw [inService, if_neg (by simp)]
    dsimp only
    rw [withdrawn, still]
    rfl
  rw [form]
  refine ⟨?_, ?_, ?_, rfl, by simp, rfl, rfl, rfl, rfl⟩
  · simp (disch := decide) only [State.raise_r, State.r_w_ne, State.setBitOf, State.r_w_same]
    exact (bitAt_mod hc).trans (bitAt_setBit_same ..)
  · simp only [State.raise_r, State.r_w_same]
    exact Nat.mod_eq_of_lt (hc.trans (by decide))
  · simp (disch := decide) only [State.raise_r, State.r_w_ne, State.setBitOf, State.r_w_same]
    rfl

/-- Out of service at a standing car is entered in the journal (R190, R354). -/
theorem tripCmdDo_outOfService (dir : Nat) (s : State) : tripCmdDo 1 dir s = (oosAfterTrip 2 s).journal (.tripCmd 1 dir) := rfl

/-- Out of service is not put off at a car that stands. -/
theorem oosAfterTrip_standing {s : State} (cause : Nat) (standing : (s.chan 0).moving = false) : oosAfterTrip cause s = goOos cause s :=
  if_neg (by simp [standing])

/-! ### Return -/

/-- RETURN out of STATE OUT_OF_SERVICE that nothing refuses: the causes and TRIP_LIMIT clear, and the car is idle (R190). -/
theorem cmdReturn_back {s : State} (permitted : s.returnRefused = false) (out : s.r Reg.TRIP_STATUS_STATE = 5) :
    ∃ t, cmdReturn s = (t, true) ∧ t.r Reg.TRIP_OOS_CAUSES = 0 ∧ t.r Reg.TRIP_STATUS_TRIP_LIMIT = 0 ∧ t.r Reg.TRIP_STATUS_STATE = 0 ∧
      SameMemory s t := by
  unfold cmdReturn
  rw [permitted, if_neg (by simp)]
  extract_lets cleared freed
  have stillOut : freed.r Reg.TRIP_STATUS_STATE = 5 := by
    simp (disch := decide) only [freed, cleared, State.modTrip_r, State.freeMarks, State.modSet_r, State.r_w_ne, State.wb_eq]
    exact out
  rw [if_pos stillOut]
  refine ⟨_, rfl, ?_, ?_, ?_, rfl, rfl, rfl, rfl⟩ <;>
    simp (disch := decide) [freed, cleared, State.freeMarks, State.r_w_ne, b2n]

theorem tripCmdDo_return {s t : State} (dir : Nat) (h : cmdReturn s = (t, true)) : tripCmdDo 2 dir s = t.journal (.tripCmd 2 dir) := by
  simp [tripCmdDo, h]

/-- A refused RETURN is reported and does nothing else (R190). -/
theorem tripCmdDo_return_refused {s : State} (dir : Nat) (refused : s.returnRefused = true) :
    tripCmdDo 2 dir s = s.raise Evt.TRIP_CMD_REFUSED [.code 2] := by
  simp [tripCmdDo, cmdReturn, refused]

/-! ### A start's frame -/

/-- What a start's later steps leave alone: the trip that starts, the memories and the listed registers. -/
structure StartKeeps (l : List Field) (s t : State) : Prop where
  starting : t.trip.starting = s.trip.starting
  memory : SameMemory s t
  regs : ∀ g ∈ l, t.r g = s.r g

section
variable {l : List Field} {s t u : State}

theorem StartKeeps.refl (l : List Field) (s : State) : StartKeeps l s s := ⟨rfl, .refl s, fun _ _ => rfl⟩

theorem StartKeeps.trans (h : StartKeeps l s t) (h' : StartKeeps l t u) : StartKeeps l s u :=
  ⟨h'.starting.trans h.starting, h.memory.trans h'.memory, fun g m => (h'.regs g m).trans (h.regs g m)⟩

theorem StartKeeps.w (h : StartKeeps l s t) (f : Field) (v : Nat) (other : ∀ g ∈ l, g.key ≠ f.key := by decide) :
    StartKeeps l s (t.w f v) :=
  ⟨h.starting, h.memory, fun g m => (State.r_w_ne _ _ _ _ (other g m)).trans (h.regs g m)⟩

theorem StartKeeps.ite {c : Prop} {_ : Decidable c} (ht : StartKeeps l s t) (hu : StartKeeps l s u) :
    StartKeeps l s (if c then t else u) := by
  split <;> assumption

theorem StartKeeps.raise (h : StartKeeps l s t) (e : Evt) (a : List Arg) : StartKeeps l s (t.raise e a) := ⟨h.starting, h.memory, h.regs⟩

theorem StartKeeps.modSet (h : StartKeeps l s t) (k : Nat) (f : MarkSet → MarkSet) : StartKeeps l s (t.modSet k f) :=
  ⟨h.starting, h.memory, h.regs⟩

theorem StartKeeps.modDeck (h : StartKeeps l s t) (f : DeckState → DeckState) : StartKeeps l s (t.modDeck f) :=
  ⟨h.starting, h.memory, h.regs⟩

theorem StartKeeps.modNbr (h : StartKeeps l s t) (i : Nat) (f : Neighbour → Neighbour) : StartKeeps l s (t.modNbr i f) :=
  ⟨h.starting, h.memory, h.regs⟩

theorem StartKeeps.requestDrive (h : StartKeeps l s t) (on : Bool) : StartKeeps l s (t.requestDrive on) := by
  obtain ⟨saf, form⟩ := requestDrive_form t on
  rw [form]
  exact ⟨h.starting, h.memory, h.regs⟩
end

/-- The deck's target is the deck's own matter. -/
theorem StartKeeps.deckTarget {s t : State} (h : StartKeeps [Reg.TRIP_STATUS_STATE] s t) (x : Int) :
    StartKeeps [Reg.TRIP_STATUS_STATE] s (deckTarget x t) := by
  unfold Machine.deckTarget
  split
  · exact h
  · split
    · exact ((h.w ..).w ..).modDeck _
    · exact h.w ..

/-- A trip that starts is awaited in STATE START (R177). -/
theorem startTrip_starts (cmd : Bool) (x : Trip) (word stop : Nat) (s : State) :
    (startTrip cmd x word stop s).trip.starting = some (s.resolveDest x stop) ∧
    (startTrip cmd x word stop s).r Reg.TRIP_STATUS_STATE = 1 ∧ SameMemory s (startTrip cmd x word stop s) := by
  unfold startTrip
  extract_lets x' freed listed taken begun shown counted deck staged
  have fromListed : SameMemory s listed := by
    unfold listed
    split <;> exact ⟨rfl, rfl, rfl, rfl⟩
  have fromTaken : SameMemory s taken := fromListed
  have atStart : StartKeeps [Reg.TRIP_STATUS_STATE] (taken.w Reg.TRIP_STATUS_STATE 1) begun := ((StartKeeps.refl ..).w ..).w ..
  have atShown : StartKeeps [Reg.TRIP_STATUS_STATE] (taken.w Reg.TRIP_STATUS_STATE 1) shown := ((((atStart.w ..).w ..).w ..).w ..).w ..
  have atCounted : StartKeeps [Reg.TRIP_STATUS_STATE] (taken.w Reg.TRIP_STATUS_STATE 1) counted :=
    ((((atShown.w ..).w ..).w ..).w ..).w ..
  have atDeck : StartKeeps [Reg.TRIP_STATUS_STATE] (taken.w Reg.TRIP_STATUS_STATE 1) deck := atCounted.deckTarget _
  have atStaged : StartKeeps [Reg.TRIP_STATUS_STATE] (taken.w Reg.TRIP_STATUS_STATE 1) staged := atDeck.ite (atDeck.modSet ..)
  obtain ⟨starting, memory, regs⟩ := atStaged.requestDrive true
  refine ⟨starting, ?_, fromTaken.trans memory⟩
  exact (regs _ (by simp)).trans (State.r_w_same ..)

/-- RESCUE of an idle car away from every car stop, with a rescue trip that everything permits and separation does not hold, starts that
trip (R180, R191). -/
theorem cmdRescue_starts {s : State} {d w dist : Nat} {x : Trip} (idle : s.r Reg.TRIP_STATUS_STATE = 0) (away : s.stopHere = 0)
    (found : s.rescue none = (d, some (w, x), dist)) (word : w ≠ 0) (permitted : s.rescuePermitted true d x = true)
    (free : s.startHeld x = none) : cmdRescue 0 s = (startTrip true x w d s, true) := by
  obtain ⟨n, rfl⟩ := Nat.exists_eq_succ_of_ne_zero word
  simp [cmdRescue, idle, away, rescueStart, found, permitted, startChecked, free]

theorem tripCmdDo_rescue {s t : State} (h : cmdRescue 0 s = (t, true)) : tripCmdDo 3 0 s = t.journal (.tripCmd 3 0) := by
  simp [tripCmdDo, h]

end Sys2Proof.Machine

namespace Sys2Proof

open Sys2Proof.Machine

/-! ### The commands of TRIP_CMD -/

/-- A trip command that is served: what it does, the change of the stop list noted (R354). -/
theorem exec_tripCmdOutOfService {s : Machine.State} (serving : Serving s) :
    exec (.tripCmdOutOfService 0x7E19) s = .next (noteStops s.trip.stops 0 0 0 (tripCmd 1 0 0x7E19 s)).fin :=
  congrArg (fun t => (noteStops s.trip.stops 0 0 0 t).done) (served_serving _ serving)

theorem exec_tripCmdReturn {s : Machine.State} (serving : Serving s) :
    exec (.tripCmdReturn 0x7E19) s = .next (noteStops s.trip.stops 0 0 0 (tripCmd 2 0 0x7E19 s)).fin :=
  congrArg (fun t => (noteStops s.trip.stops 0 0 0 t).done) (served_serving _ serving)

theorem exec_tripCmdRescue {s : Machine.State} (serving : Serving s) :
    exec (.tripCmdRescue 0 0x7E19) s = .next (noteStops s.trip.stops 0 0 0 (tripCmd 3 0 0x7E19 s)).fin :=
  congrArg (fun t => (noteStops s.trip.stops 0 0 0 t).done) (served_serving _ serving)

/-- What a command leaves in the registers, the trip state, the raised events and the memories is there at the end of its step. -/
theorem noted_fin (old : List StopEntry) {t u : Machine.State} (told : Told t u) :
    (∀ g, (noteStops old 0 0 0 u).fin.r g = t.r g) ∧ (noteStops old 0 0 0 u).fin.trip = t.trip ∧
    (∀ e : Evt, e.src ∈ t.raised.map (fun x => x.evt.src) → Pending e (noteStops old 0 0 0 u).fin) ∧
    SameMemory t (noteStops old 0 0 0 u).fin := by
  have all : Told t (noteStops old 0 0 0 u) := told.trans (told_noteStops ..)
  exact ⟨fun g => by simp [all.r], by simp [all.trip], fun e h => pending_fin (List.map_subset _ all.raised h),
    (sameMemory_fin _ _).mpr all.sameMemory⟩

theorem outOfService_completes {s : Machine.State} (serving : Serving s) (awake : s.parked = false)
    (room : (nth s.dsp.ports 15 []).length < 16) (active : s.active = true) (standing : (s.chan 0).moving = false)
    (service : s.r Reg.TRIP_OOS_CAUSES = 0) :
    ∃ t, exec (.tripCmdOutOfService 0x7E19) s = .next t ∧ bitAt (t.r Reg.TRIP_OOS_CAUSES) 2 = true ∧ t.r Reg.TRIP_OOS_LAST = 2 ∧
      t.r Reg.TRIP_STATUS_STATE = 5 ∧ t.trip.stops = [] ∧ Pending Evt.OUT_OF_SERVICE t ∧ SameMemory s t := by
  have stands : ((commandTaken 1 0 s).chan 0).moving = false := standing
  obtain ⟨causes, last, state, stops, raised, memory⟩ := goOos_standing (cause := 2) (by decide) (s := commandTaken 1 0 s) service stands
  obtain ⟨regs, trip, pending, kept⟩ := noted_fin s.trip.stops (told_journal (goOos 2 (commandTaken 1 0 s)) (.tripCmd 1 0))
  refine ⟨_, exec_tripCmdOutOfService serving, ?_⟩
  rw [tripCmd_room 1 0 room active awake, tripCmdDo_outOfService, oosAfterTrip_standing 2 stands]
  exact ⟨by rw [regs, causes], by rw [regs, last], by rw [regs, state], by rw [trip, stops], pending _ raised, SameMemory.trans memory kept⟩

theorem return_completes {s : Machine.State} (serving : Serving s) (awake : s.parked = false)
    (room : (nth s.dsp.ports 15 []).length < 16) (active : s.active = true) (permitted : s.returnRefused = false)
    (out : s.r Reg.TRIP_STATUS_STATE = 5) :
    ∃ t, exec (.tripCmdReturn 0x7E19) s = .next t ∧ t.r Reg.TRIP_OOS_CAUSES = 0 ∧ t.r Reg.TRIP_STATUS_TRIP_LIMIT = 0 ∧
      t.r Reg.TRIP_STATUS_STATE = 0 ∧ SameMemory s t := by
  obtain ⟨u, back, causes, limit, state, memory⟩ := cmdReturn_back (s := commandTaken 2 0 s) permitted out
  obtain ⟨regs, -, -, kept⟩ := noted_fin s.trip.stops (told_journal u (.tripCmd 2 0))
  refine ⟨_, exec_tripCmdReturn serving, ?_⟩
  rw [tripCmd_room 2 0 room active awake, tripCmdDo_return 0 back]
  exact ⟨by rw [regs, causes], by rw [regs, limit], by rw [regs, state], SameMemory.trans memory kept⟩

theorem return_refused {s : Machine.State} (serving : Serving s) (awake : s.parked = false)
    (room : (nth s.dsp.ports 15 []).length < 16) (active : s.active = true) (refused : s.returnRefused = true) :
    ∃ t, exec (.tripCmdReturn 0x7E19) s = .next t ∧ Pending Evt.TRIP_CMD_REFUSED t ∧ t.regs = s.regs ∧ SameMemory s t := by
  have done : tripCmd 2 0 0x7E19 s = (commandTaken 2 0 s).raise Evt.TRIP_CMD_REFUSED [.code 2] :=
    (tripCmd_room 2 0 room active awake).trans (tripCmdDo_return_refused 0 refused)
  refine ⟨_, exec_tripCmdReturn serving, ?_⟩
  rw [done, noteStops_same]
  · exact ⟨pending_fin (by simp), by rw [State.fin_regs]; rfl, (sameMemory_fin _ _).mpr ⟨rfl, rfl, rfl, rfl⟩⟩
  · rfl

theorem rescue_completes {s : Machine.State} {d w dist : Nat} {x : Trip} (serving : Serving s) (awake : s.parked = false)
    (active : s.active = true) (room : (nth s.dsp.ports 15 []).length < 16) (idle : s.r Reg.TRIP_STATUS_STATE = 0)
    (away : s.stopHere = 0) (found : s.rescue none = (d, some (w, x), dist)) (word : w ≠ 0)
    (permitted : s.rescuePermitted true d x = true) (free : s.startHeld x = none) :
    ∃ t, exec (.tripCmdRescue 0 0x7E19) s = .next t ∧ t.trip.starting = some (s.resolveDest x d) ∧ t.r Reg.TRIP_STATUS_STATE = 1 ∧
      SameMemory s t := by
  have starts : cmdRescue 0 (commandTaken 3 0 s) = (startTrip true x w d (commandTaken 3 0 s), true) :=
    cmdRescue_starts idle away found word permitted free
  obtain ⟨starting, state, memory⟩ := startTrip_starts true x w d (commandTaken 3 0 s)
  obtain ⟨regs, trip, -, kept⟩ :=
    noted_fin s.trip.stops (told_journal (startTrip true x w d (commandTaken 3 0 s)) (.tripCmd 3 0))
  refine ⟨_, exec_tripCmdRescue serving, ?_⟩
  rw [tripCmd_room 3 0 room active awake, tripCmdDo_rescue starts]
  exact ⟨by rw [trip, starting]; rfl, by rw [regs, state], SameMemory.trans memory kept⟩

/-- A command at a full port is refused and counted (R81, R191). -/
theorem tripCmd_lost {s : Machine.State} (serving : Serving s) (full : 16 ≤ (nth s.dsp.ports 15 []).length) :
    ∃ t, exec (.tripCmdReturn 0x7E19) s = .next t ∧ Pending Evt.TRIP_CMD_REFUSED t ∧ t.trip = s.trip ∧
      t.r Reg.DSP_BP_COUNT_DOORBELL_LOST = satN Reg.DSP_BP_COUNT_DOORBELL_LOST.width (s.r Reg.DSP_BP_COUNT_DOORBELL_LOST + 1) ∧
      RegsBut [Reg.DSP_BP_COUNT_DOORBELL_LOST] s t ∧ SameMemory s t := by
  refine ⟨_, exec_tripCmdReturn serving, ?_⟩
  rw [tripCmd_full 2 0 full, noteStops_same]
  · refine ⟨pending_fin (by simp), by simp, ?_, (regsBut_fin _ _ _).mpr (((RegsBut.refl _ s).w _ (by simp)).of_regs rfl),
      (sameMemory_fin _ _).mpr ⟨rfl, rfl, rfl, rfl⟩⟩
    simp only [State.fin_r, State.raise_r, State.inc_eq, State.r_w_same]
    exact Nat.mod_eq_of_lt (satN_lt ..)
  · rfl

/-- A command given in Parked waits at the port (R406). -/
theorem tripCmd_held {s : Machine.State} (serving : Serving s) (parked : s.parked = true) (active : s.active = true)
    (room : (nth s.dsp.ports 15 []).length < 16) :
    ∃ t, exec (.tripCmdOutOfService 0x7E19) s = .next t ∧ t.trip.cmdsHeld = s.trip.cmdsHeld ++ [(1, 0)] ∧ t.trip.stops = s.trip.stops ∧
      t.regs = s.regs ∧ SameMemory s t := by
  refine ⟨_, exec_tripCmdOutOfService serving, ?_⟩
  rw [tripCmd_parked 1 0 room active parked, noteStops_same]
  · exact ⟨by rw [State.fin_trip]; rfl, by rw [State.fin_trip]; rfl, by rw [State.fin_regs]; rfl,
      (sameMemory_fin _ _).mpr ⟨rfl, rfl, rfl, rfl⟩⟩
  · rfl

end Sys2Proof

namespace Sys2Proof.Machine

/-! ### The separation causes clear -/

/-- A neighbour's failure ends (R189). -/
def failureCleared (s : State) (i : Nat) : State :=
  if (s.nbr i).failed then
    ((s.modNbr i fun n => { n with failed := false }).w (nbrStateField i) 0).raise Evt.SEP_CLEARED [.code (s.nbrAddr i)]
  else s

theorem startKeeps_failureCleared (s : State) (i : Nat) : StartKeeps [Reg.TRIP_STATUS_CAR_STOP] s (failureCleared s i) := by
  have other : ∀ g ∈ [Reg.TRIP_STATUS_CAR_STOP], g.key ≠ (nbrStateField i).key := by
    unfold nbrStateField
    split <;> decide
  exact .ite ((((StartKeeps.refl ..).modNbr ..).w _ _ other).raise ..) (.refl ..)

/-- The separation causes go out of STOP_CAUSE; no start, no memory and not the car stop are touched (R189). -/
theorem sepClearCauses_clears (s : State) :
    bitAt ((sepClearCauses s).r Reg.TRIP_STATUS_STOP_CAUSE) 0 = false ∧ bitAt ((sepClearCauses s).r Reg.TRIP_STATUS_STOP_CAUSE) 1 = false ∧
    StartKeeps [Reg.TRIP_STATUS_CAR_STOP] s (sepClearCauses s) := by
  let ended := failureCleared (failureCleared s 0) 1
  have form : sepClearCauses s = (((ended.freeMarks 0).setBitOf Reg.TRIP_STATUS_STOP_CAUSE 0 false).setBitOf Reg.TRIP_STATUS_STOP_CAUSE 1
      false).modTrip fun t => { t with resumeDue := true } := rfl
  have frame : StartKeeps [Reg.TRIP_STATUS_CAR_STOP] s ended :=
    (startKeeps_failureCleared s 0).trans (startKeeps_failureCleared _ 1)
  have cleared : StartKeeps [Reg.TRIP_STATUS_CAR_STOP] s (((ended.freeMarks 0).setBitOf Reg.TRIP_STATUS_STOP_CAUSE 0 false).setBitOf
      Reg.TRIP_STATUS_STOP_CAUSE 1 false) := ((frame.modSet ..).w ..).w ..
  rw [form]
  refine ⟨?_, ?_, cleared.starting, cleared.memory, cleared.regs⟩
  · simp only [State.modTrip_r, State.setBitOf, State.r_w_same]
    rw [bitAt_mod (by decide), bitAt_setBit_ne _ _ _ _ (by decide), bitAt_mod (by decide), bitAt_setBit_same]
  · simp only [State.modTrip_r, State.setBitOf, State.r_w_same]
    rw [bitAt_mod (by decide), bitAt_setBit_same]

/-- Once every comparison has passed for SEP_CLEAR_MS the causes clear at a car that stands at a car stop, which needs no rescue trip
(R189). -/
theorem separationClear_atStop {s : State} (cause : s.sepCause = true) (clear : s.sepClear = true) (active : s.active = true)
    (stop : s.r Reg.TRIP_STATUS_CAR_STOP ≠ 0) :
    (separationClear s).r Reg.TRIP_STATUS_STOP_CAUSE = (sepClearCauses s).r Reg.TRIP_STATUS_STOP_CAUSE ∧
    (separationClear s).trip.starting = (sepClearCauses s).trip.starting ∧ SameMemory (sepClearCauses s) (separationClear s) := by
  obtain ⟨-, -, -, -, regs⟩ := sepClearCauses_clears s
  have still : (sepClearCauses s).r Reg.TRIP_STATUS_CAR_STOP ≠ 0 := by rwa [regs _ (by simp)]
  have due : (s.sepCause && s.sepClear && s.active) = true := by simp [cause, clear, active]
  unfold separationClear
  dsimp only
  rw [if_pos due, if_pos still]
  split <;> exact ⟨rfl, rfl, rfl, rfl, rfl, rfl⟩

/-! ### Waiting for separation -/

/-- A start of the next stop's trip that only the separation check holds is what the car waits on (R189). -/
theorem waitingOn_of_startFor {s : State} {d load prof w i : Nat} (due : s.startFor = some (d, load, prof, w)) (word : w ≠ 0)
    (permitted : s.confPermits false (s.tripAt (s.region s.fullAtlas) w) = true)
    (held : s.startHeld (s.tripAt (s.region s.fullAtlas) w) = some i) : s.waitingOn = some i := by
  simp [State.waitingOn, due, word, permitted, held]

/-- The state with WAIT at a value and the first moment of the wait. -/
def waitShown (on : Bool) (at_ : Option Time) (s : State) : State :=
  (s.wb Reg.TRIP_SEP_STATUS_WAIT on).modTrip fun t => { t with waitAt := at_ }

/-- The first moment of a wait is reported (R189). -/
theorem sepWait_begins {s : State} {i : Nat} (waits : s.waitingOn = some i) (first : s.trip.waitAt = none) :
    ∃ args, sepWait s = (waitShown true (some s.optime) s).raise Evt.SEP_WAIT args := by
  have unset : (s.wb Reg.TRIP_SEP_STATUS_WAIT true).trip.waitAt = none := first
  unfold sepWait
  rw [waits]
  dsimp only
  rw [unset]
  exact ⟨_, rfl⟩

theorem sepWait_none {s : State} (free : s.waitingOn = none) : sepWait s = waitShown false none s := by
  unfold sepWait
  rw [free]
  rfl

theorem waitShown_wait (on : Bool) (at_ : Option Time) (s : State) : (waitShown on at_ s).r Reg.TRIP_SEP_STATUS_WAIT = b2n on := by
  simp only [waitShown, State.modTrip_r, State.wb_eq, State.r_w_same]
  exact Nat.mod_eq_of_lt (b2n_lt on)

theorem regsBut_waitShown (on : Bool) (at_ : Option Time) (s : State) : RegsBut [Reg.TRIP_SEP_STATUS_WAIT] s (waitShown on at_ s) :=
  ((RegsBut.refl _ s).w _ (by simp)).of_regs rfl

/-! ### A controlled stop's frame -/

/-- The registers a controlled stop shows itself in. -/
def stopFields : List Field :=
  [Reg.TRIP_STATUS_STOP_CAUSE, Reg.TRIP_STATUS_STATE, Reg.TRIP_STATUS_CONTINUATION, Reg.TRIP_STATUS_FINISH, Reg.TRIP_TARGET_TARGET,
    Reg.TRIP_OOS_CAUSES, Reg.TRIP_OOS_LAST, Reg.TRIP_SEP_COUNT_STOPS, Reg.IMG_STATUS_TS_ACTIVE_SLOT, Reg.IMG_STATUS_TS_INCOMING_STATE,
    Reg.IMG_MODULE_STATE_PHASE, Reg.IMG_LOAD_TIMES_ATLAS_READY_MS]

/-- What a controlled stop leaves: which neighbours have timed out, the events raised before it, the memories and every other register. -/
structure StopKeeps (s t : State) : Prop where
  timedOut : ∀ i, (t.nbr i).timedOut = (s.nbr i).timedOut
  raised : s.raised ⊆ t.raised
  memory : SameMemory s t
  regs : RegsBut stopFields s t

section
variable {s t u : State}

theorem StopKeeps.refl (s : State) : StopKeeps s s := ⟨fun _ => rfl, List.Subset.refl _, .refl s, .refl _ s⟩

theorem StopKeeps.w (h : StopKeeps s t) {f : Field} (v : Nat) (m : f ∈ stopFields := by simp [stopFields]) : StopKeeps s (t.w f v) :=
  ⟨h.timedOut, h.raised, h.memory, h.regs.w v m⟩

theorem StopKeeps.ite {c : Prop} {_ : Decidable c} (ht : StopKeeps s t) (hu : StopKeeps s u) : StopKeeps s (if c then t else u) := by
  split <;> assumption

theorem StopKeeps.when_ (h : StopKeeps s t) {b : Bool} {f : State → State} (hf : StopKeeps s (f t)) : StopKeeps s (t.when_ b f) := by
  cases b
  · exact h
  · exact hf

theorem StopKeeps.raise (h : StopKeeps s t) (e : Evt) (a : List Arg) : StopKeeps s (t.raise e a) :=
  ⟨h.timedOut, fun _ m => by simp [h.raised m], h.memory, h.regs⟩

theorem StopKeeps.modSet (h : StopKeeps s t) (k : Nat) (f : MarkSet → MarkSet) : StopKeeps s (t.modSet k f) :=
  ⟨h.timedOut, h.raised, h.memory, h.regs⟩

theorem StopKeeps.img (h : StopKeeps s t) (x : ImgState) : StopKeeps s { t with img := x } := ⟨h.timedOut, h.raised, h.memory, h.regs⟩

theorem StopKeeps.modChan (h : StopKeeps s t) (k : Nat) (f : Channel → Channel) : StopKeeps s (t.modChan k f) :=
  ⟨h.timedOut, h.raised, h.memory, h.regs⟩

/-- A change of the trip state outside the neighbours. -/
theorem StopKeeps.modTrip (h : StopKeeps s t) {f : TripState → TripState} (nbrs : (f t.trip).nbrs = t.trip.nbrs := by rfl) :
    StopKeeps s (t.modTrip f) :=
  ⟨fun i => (congrArg (fun l => (nth l i {}).timedOut) nbrs).trans (h.timedOut i), h.raised, h.memory, h.regs⟩

theorem StopKeeps.modNbr (h : StopKeeps s t) (i : Nat) {f : Neighbour → Neighbour} (same : ∀ n, (f n).timedOut = n.timedOut) :
    StopKeeps s (t.modNbr i f) := by
  refine ⟨fun j => Eq.trans ?_ (h.timedOut j), h.raised, h.memory, h.regs⟩
  by_cases e : j = i
  · rw [e, State.nbr_modNbr_same, same]
  · exact congrArg Neighbour.timedOut (nth_modAt_ne t.trip.nbrs i j f {} e)

theorem StopKeeps.post (h : StopKeeps s t) (port key : Nat) (other : port ∉ [2, 3, 4, 7, 8, 10] := by decide) :
    StopKeeps s (t.post port key) := by
  obtain ⟨ports, held, form⟩ := post_form t port key other
  rw [form]
  exact ⟨h.timedOut, h.raised, h.memory, h.regs⟩

theorem StopKeeps.requestDrive (h : StopKeeps s t) (on : Bool) : StopKeeps s (t.requestDrive on) := by
  obtain ⟨saf, form⟩ := requestDrive_form t on
  rw [form]
  exact ⟨h.timedOut, h.raised, h.memory, h.regs⟩

theorem StopKeeps.journal (h : StopKeeps s t) (x : JournalRec) : StopKeeps s (t.journal x) := by
  have told := told_journal t x
  exact ⟨fun i => by rw [← h.timedOut i, State.nbr, told.trip, State.nbr], List.Subset.trans h.raised told.raised,
    h.memory.trans told.sameMemory, h.regs.of_regs told.regs⟩

/-- The end of the loads in progress may make the streamed slot active (R60, R139). -/
theorem StopKeeps.loadEnded (h : StopKeeps s t) : StopKeeps s t.loadEnded := by
  have swapped : StopKeeps s (swapSlots { t with img := { t.img with swapDue := false } }) :=
    ((((h.img _).w _).w _).img _).post ..
  have ready : StopKeeps s (atlasReady (swapSlots { t with img := { t.img with swapDue := false } })) :=
    (((swapped.w _).w _).raise ..).post ..
  exact h.when_ (.ite (h.img _) ready)

theorem StopKeeps.reactSet (h : StopKeeps s t) (k : Nat) : StopKeeps s (reactSet k t) := (h.modSet ..).loadEnded

theorem StopKeeps.requeue (h : StopKeeps s t) : StopKeeps s t.requeue := (h.modTrip.modTrip).w _

theorem StopKeeps.abandonStart (h : StopKeeps s t) : StopKeeps s (abandonStart t) :=
  (h.requeue.modTrip.requestDrive _).w _

theorem StopKeeps.goOos (h : StopKeeps s t) (cause : Nat) : StopKeeps s (goOos cause t) := by
  have emptied := h.requeue.modTrip (f := fun t => { t with stops := [], starting := none, rescueHeld := none })
  refine .raise (.w (.w (.ite h ?_) _) _) ..
  have withdrawn := emptied.when_ (b := t.requeue.r Reg.TRIP_STATUS_STATE == 1) (f := (·.requestDrive false)) (emptied.requestDrive false)
  exact withdrawn.when_ (withdrawn.w 5)

/-- A controlled stop, on whichever module (R184). -/
theorem StopKeeps.ctrlStop (h : StopKeeps s t) (cause : Nat) : StopKeeps s (ctrlStop cause t) := by
  have caused := (h.journal (.ctrlStop cause)).w (f := Reg.TRIP_STATUS_STOP_CAUSE)
    (setBit ((t.journal (.ctrlStop cause)).r Reg.TRIP_STATUS_STOP_CAUSE) cause true)
  refine .ite ?_ h
  unfold ctrlStopGo
  extract_lets fresh caused' c x taken reacted shown
  refine .ite (.ite (caused.when_ (caused.goOos 3)) (.ite caused ?_)) (.ite (caused.reactSet 0).abandonStart caused)
  have atTaken : StopKeeps s taken := caused.modChan ..
  have atReacted : StopKeeps s reacted := atTaken.modTrip.reactSet 0
  have atShown : StopKeeps s shown := (atReacted.w _).w _
  exact .ite atShown (atShown.modSet ..)

end

/-- A failed comparison with cause SEP_TIMEOUT: the neighbour's state is 3, and a controlled stop follows (R188). -/
theorem stopKeeps_sepTimeout (i : Nat) (s : State) : StopKeeps (s.w (nbrStateField i) 3) (sepTimeout i s) := by
  unfold sepTimeout sepStop
  extract_lets fresh shown fresh' failed
  have atShown : StopKeeps (s.w (nbrStateField i) 3) shown := (StopKeeps.refl _).when_ ((StopKeeps.refl _).raise ..)
  have atFailed : StopKeeps (s.w (nbrStateField i) 3) failed := atShown.modTrip.modNbr i fun _ => rfl
  exact (atFailed.when_ (atFailed.w _)).ctrlStop 1

/-- The state with a neighbour's timeout noted, counted and reported (R328). -/
def timeoutNoted (i : Nat) (s : State) : State :=
  ((s.modNbr i fun n => { n with timedOut := true, passSince := none }).inc Reg.NET_NBR_COUNT_TIMEOUTS).raise Evt.NBR_TIMEOUT
    [.code (s.nbrAddr i), .code 0]

theorem neighbourTimeout_reports {s : State} {i : Nat} (named : s.nbrAddr i ≠ 0) (ready : s.controlReady = true)
    (late : s.nbrLate i = true) (once : (s.nbr i).timedOut = false) : neighbourTimeout i s = sepTimeout i (timeoutNoted i s) := by
  unfold neighbourTimeout
  rw [if_neg (by simp [named, ready, late, once])]
  rfl

/-- A neighbour's timeout: its state is 3, and the timeout is noted, counted and raised (R328). -/
theorem neighbourTimeout_completes {s : State} {below : Bool} (named : s.nbrAddr (b2n below) ≠ 0) (ready : s.controlReady = true)
    (late : s.nbrLate (b2n below) = true) (once : (s.nbr (b2n below)).timedOut = false) :
    ∃ t, exec (.neighbourTimeout below) s = .next t ∧ (t.nbr (b2n below)).timedOut = true ∧ t.r (nbrStateField (b2n below)) = 3 ∧
      t.r Reg.NET_NBR_COUNT_TIMEOUTS = satN Reg.NET_NBR_COUNT_TIMEOUTS.width (s.r Reg.NET_NBR_COUNT_TIMEOUTS + 1) ∧
      Pending Evt.NBR_TIMEOUT t ∧ SameMemory s t := by
  obtain ⟨timedOut, raised, memory, regs⟩ := stopKeeps_sepTimeout (b2n below) (timeoutNoted (b2n below) s)
  refine ⟨(neighbourTimeout (b2n below) s).fin, rfl, ?_⟩
  rw [neighbourTimeout_reports named ready late once]
  refine ⟨?_, ?_, ?_, pending_fin (List.map_subset _ raised ?_), (sameMemory_fin _ _).mpr (SameMemory.trans ⟨rfl, rfl, rfl, rfl⟩ memory)⟩
  · have noted : ((timeoutNoted (b2n below) s).nbr (b2n below)).timedOut = true := by simp [timeoutNoted]
    simpa using (timedOut (b2n below)).trans noted
  · rw [State.fin_r, regs _ (by cases below <;> decide), State.r_w_same]
    cases below <;> rfl
  · rw [State.fin_r, regs _ (by decide), State.r_w_ne _ _ _ _ (by cases below <;> decide)]
    simp only [timeoutNoted, State.raise_r, State.inc_eq, State.r_w_same, State.modNbr_r]
    exact Nat.mod_eq_of_lt (satN_lt ..)
  · simp [timeoutNoted]

end Sys2Proof.Machine

namespace Sys2Proof

open Sys2Proof.Machine

/-! ### What each command's step leaves -/

theorem sepWait_completes {s : Machine.State} {i : Nat} (waits : s.waitingOn = some i) (first : s.trip.waitAt = none) :
    ∃ t, exec .sepWait s = .next t ∧ t.r Reg.TRIP_SEP_STATUS_WAIT = 1 ∧ t.trip.waitAt = some s.optime ∧ Pending Evt.SEP_WAIT t ∧
      RegsBut [Reg.TRIP_SEP_STATUS_WAIT] s t ∧ SameMemory s t := by
  obtain ⟨args, form⟩ := sepWait_begins waits first
  refine ⟨(sepWait s).fin, rfl, ?_⟩
  rw [form]
  have regs : RegsBut [Reg.TRIP_SEP_STATUS_WAIT] s ((waitShown true (some s.optime) s).raise Evt.SEP_WAIT args) :=
    RegsBut.of_regs (regsBut_waitShown true (some s.optime) s) rfl
  refine ⟨?_, by rw [State.fin_trip]; rfl, pending_fin (by simp), (regsBut_fin _ _ _).mpr regs,
    (sameMemory_fin _ _).mpr ⟨rfl, rfl, rfl, rfl⟩⟩
  rw [State.fin_r, State.raise_r, waitShown_wait, b2n, if_pos rfl]

theorem sepWait_ends {s : Machine.State} (free : s.waitingOn = none) :
    ∃ t, exec .sepWait s = .next t ∧ t.r Reg.TRIP_SEP_STATUS_WAIT = 0 ∧ t.trip.waitAt = none ∧ RegsBut [Reg.TRIP_SEP_STATUS_WAIT] s t ∧
      SameMemory s t := by
  refine ⟨(sepWait s).fin, rfl, ?_⟩
  rw [sepWait_none free]
  refine ⟨?_, by rw [State.fin_trip]; rfl, (regsBut_fin _ _ _).mpr (regsBut_waitShown _ _ s),
    (sameMemory_fin _ _).mpr ⟨rfl, rfl, rfl, rfl⟩⟩
  rw [State.fin_r, waitShown_wait]
  rfl

theorem separationClear_completes {s : Machine.State} (awake : s.parked = false) (cause : s.sepCause = true) (clear : s.sepClear = true)
    (active : s.active = true) (stop : s.r Reg.TRIP_STATUS_CAR_STOP ≠ 0) :
    ∃ t, exec .separationClear s = .next t ∧ bitAt (t.r Reg.TRIP_STATUS_STOP_CAUSE) 0 = false ∧
      bitAt (t.r Reg.TRIP_STATUS_STOP_CAUSE) 1 = false ∧ t.trip.starting = s.trip.starting ∧ SameMemory s t := by
  have run : exec .separationClear s = .next (noteStops s.trip.stops 0 0 0 (separationClear s)).fin :=
    congrArg (fun t => (noteStops s.trip.stops 0 0 0 t).done) (awake_unparked _ awake)
  obtain ⟨bit0, bit1, starting, cleared, -⟩ := sepClearCauses_clears s
  obtain ⟨shown, starting', memory⟩ := separationClear_atStop cause clear active stop
  obtain ⟨regs, trip, -, kept⟩ := noted_fin s.trip.stops (Told.refl (separationClear s))
  exact ⟨_, run, by rw [regs, shown, bit0], by rw [regs, shown, bit1], by rw [trip, starting', starting],
    (SameMemory.trans cleared memory).trans kept⟩

/-- Settles O15, a command of TRIP_CMD by what port 15 does with it, a timeout through the frame of a controlled stop. -/
theorem tripCommandsAndSeparationComplete : Obligations.TripCommandsAndSeparationComplete := by
  refine ⟨⟨?_, ?_, ?_, ?_, ?_⟩, ?_, ?_, ?_, ?_⟩
  · intro s serving awake room active standing service
    exact outOfService_completes serving awake room active standing service
  · intro s serving awake room active
    exact ⟨fun permitted out => return_completes serving awake room active permitted out, return_refused serving awake room active⟩
  · intro s d w dist x serving awake active room idle away found word permitted free
    exact rescue_completes serving awake active room idle away found word permitted free
  · intro s serving full
    exact tripCmd_lost serving full
  · intro s serving parked active room
    exact tripCmd_held serving parked active room
  · intro s below named ready late once
    exact neighbourTimeout_completes named ready late once
  · intro s d load prof w i due word permitted held first
    exact sepWait_completes (waitingOn_of_startFor due word permitted held) first
  · intro s free
    exact sepWait_ends free
  · intro s awake cause clear active stop
    exact separationClear_completes awake cause clear active stop

end Sys2Proof

/-! PROOFS. The position front ends (file 04): car samples and their delivery (R96, R97, R120, R128), reference edges (R124), losses,
marks and checks of the sin/cos channels (R103, R106, R108, R109, R135). -/

namespace Sys2Proof.Machine

/-! ### Position events -/

/-- A position event is raised and reported to port 1, which changes the dispatcher's ports alone (R135). -/
theorem raisePos_form (s : State) (e : Evt) (args : List Arg) :
    ∃ dsp, s.raisePos e args = { s.raise e args with dsp := dsp } := by
  obtain ⟨ports, held, form⟩ := post_form (s.raise e args) 1 e.src (by decide)
  exact ⟨_, form⟩

section
variable (s t : State) (e : Evt) (args : List Arg)

@[simp] theorem raisePos_regs : (s.raisePos e args).regs = s.regs := by
  obtain ⟨dsp, form⟩ := raisePos_form s e args
  rw [form]
  rfl

@[simp] theorem raisePos_r (g : Field) : (s.raisePos e args).r g = s.r g := by simp only [State.r, raisePos_regs]

@[simp] theorem raisePos_pos : (s.raisePos e args).pos = s.pos := by
  obtain ⟨dsp, form⟩ := raisePos_form s e args
  rw [form]
  rfl

@[simp] theorem raisePos_scChan (c : Nat) : (s.raisePos e args).scChan c = s.scChan c := by
  simp only [State.scChan, raisePos_pos]

@[simp] theorem raisePos_raised : (s.raisePos e args).raised = s.raised ++ [{ evt := e, arg := packArgs args }] := by
  obtain ⟨dsp, form⟩ := raisePos_form s e args
  rw [form]
  rfl

@[simp] theorem regsBut_raisePos (l : List Field) : RegsBut l s (t.raisePos e args) ↔ RegsBut l s t := by
  simp only [RegsBut, raisePos_r]

@[simp] theorem sameMemory_raisePos : SameMemory s (t.raisePos e args) ↔ SameMemory s t := by
  obtain ⟨dsp, form⟩ := raisePos_form t e args
  rw [form]
  rfl

/-- A position event is pending at the end of its step, as a fault or not. -/
theorem pending_raisePos {f : Evt} (same : f.src = e.src := by rfl) : Pending f (s.raisePos e args).fin :=
  pending_fin (by simp [same])

end

/-! ### What the front ends leave alone -/

/-- The second state differs from the first in registers, raised events, the dispatcher and the position front ends alone. -/
def PosOnly (s t : State) : Prop := t = { s with regs := t.regs, raised := t.raised, dsp := t.dsp, pos := t.pos }

section
variable {s t u : State}

theorem PosOnly.refl (s : State) : PosOnly s s := rfl

theorem PosOnly.trans (h : PosOnly s t) (h' : PosOnly t u) : PosOnly s u := by
  unfold PosOnly at *
  rw [h', h]

theorem PosOnly.w (h : PosOnly s t) (f : Field) (v : Nat) : PosOnly s (t.w f v) := h.trans rfl

theorem PosOnly.pos (h : PosOnly s t) (p : PosState) : PosOnly s { t with pos := p } := h.trans rfl

theorem PosOnly.raisePos (h : PosOnly s t) (e : Evt) (args : List Arg) : PosOnly s (t.raisePos e args) := by
  obtain ⟨dsp, form⟩ := raisePos_form t e args
  rw [form]
  exact h.trans rfl

theorem PosOnly.ite {c : Prop} {_ : Decidable c} (ht : PosOnly s t) (hu : PosOnly s u) : PosOnly s (if c then t else u) := by
  split <;> assumption

theorem PosOnly.markCauses (h : PosOnly s t) : PosOnly s (markCauses t) := (h.w ..).w ..

theorem PosOnly.sameMemory (h : PosOnly s t) : SameMemory s t := by
  rw [h]
  exact ⟨rfl, rfl, rfl, rfl⟩

theorem PosOnly.ret (h : PosOnly s t) : t.ret = s.ret := by rw [h]

theorem PosOnly.saf (h : PosOnly s t) : t.saf = s.saf := by rw [h]

end

end Sys2Proof.Machine

namespace Sys2Proof

open Sys2Proof.Machine

/-! ### Samples and reference edges -/

theorem carPositionSample_completes (s : Machine.State) (sc : List ScSample) :
    ∃ t x, exec (.carPositionSample sc) s = .next t ∧ t.pos.raw = some x ∧ x.time = s.optime ∧ x.sc = sc ∧
      (∀ q, q < 6 → nth x.qd q 0 = s.qdCount q) ∧ t.pos.qdLatched = x.qd ∧ t.regs = s.regs ∧ SameMemory s t := by
  have pos : (carPositionSample sc s).fin.pos = (carPositionSample sc s).pos := State.fin_pos _
  refine ⟨_, ⟨s.optime, sc, (List.range 6).map s.qdCount⟩, rfl, ?_, rfl, rfl, fun q hq => nth_map_range hq, ?_, State.fin_regs _,
    (sameMemory_fin _ _).mpr ⟨rfl, rfl, rfl, rfl⟩⟩
  · rw [pos]
    rfl
  · rw [pos]
    rfl

/-- The state with an edge taken and its deviation, its entry and an accepted result shown, START and REF cleared (R124). -/
def refAccepted (g : RefEdge) (i : Nat) (e : Int) (s : Machine.State) : Machine.State :=
  let s := { s with pos := { s.pos with edges := s.pos.edges.erase g } }
  let s := ((s.wi Reg.PFE_REF_DEV e).w Reg.PFE_REF_LAST_ENTRY i).w Reg.PFE_REF_LAST_RESULT 0
  (({ s with pos := { s.pos with rejects := 0 } }).cause Cause.start false).cause Cause.ref false

/-- An edge whose best candidate deviates within its window, without a re-reference, leaves the correction that R124 gives. -/
theorem referencePoint_accepts {s : Machine.State} {input : Nat} {rising : Bool} {g : RefEdge} {i : Nat} {x : RefPoint} {e : Int}
    (edge : s.refEdge input rising = some g) (best : refBest s g.at_ (refCandidates s g) = some (i, x, e))
    (kept : rerefAllowed s x = false) (within : mag e ≤ x.win) :
    referencePoint input rising s = { refAccepted g i e s with
      pos := { (refAccepted g i e s).pos with pendHalf := s.pos.pendHalf + 2 * divOpen (e * (x.weight + 1 : Nat)) 256 } } := by
  let u : Machine.State := { s with pos := { s.pos with edges := s.pos.edges.erase g } }
  have best' : refBest u g.at_ (refCandidates u g) = some (i, x, e) := best
  have kept' : rerefAllowed u x = false := kept
  unfold referencePoint
  rw [edge]
  dsimp only
  rw [best']
  dsimp only
  rw [kept', if_neg (by simp; omega)]
  rfl

theorem referencePoint_completes (s : Machine.State) (input : Nat) (rising : Bool) (g : RefEdge) (i : Nat) (x : RefPoint) (e : Int)
    (edge : s.refEdge input rising = some g) (best : refBest s g.at_ (refCandidates s g) = some (i, x, e))
    (kept : rerefAllowed s x = false) (within : mag e ≤ x.win) (listed : i < 1023) :
    ∃ t, exec (.referencePoint input rising) s = .next t ∧ t.r Reg.PFE_REF_LAST_ENTRY = i ∧ t.r Reg.PFE_REF_LAST_RESULT = 0 ∧
      t.pos.rejects = 0 ∧ t.pos.edges = s.pos.edges.erase g ∧ t.pos.pendHalf = s.pos.pendHalf + 2 * divOpen (e * (x.weight + 1 : Nat)) 256 ∧
      SameMemory s t := by
  refine ⟨(referencePoint input rising s).fin, rfl, ?_⟩
  simp only [State.fin_r, State.fin_pos, sameMemory_fin]
  rw [referencePoint_accepts edge best kept within]
  have shown (g' : Machine.Field) (h : g'.key ≠ Reg.PFE_STATUS_CAUSE.key) : (refAccepted g i e s).r g' =
      ((((s.wi Reg.PFE_REF_DEV e).w Reg.PFE_REF_LAST_ENTRY i).w Reg.PFE_REF_LAST_RESULT 0)).r g' :=
    (State.r_w_ne _ _ _ _ h).trans (State.r_w_ne _ _ _ _ h)
  refine ⟨?_, ?_, rfl, rfl, rfl, rfl, rfl, rfl, rfl⟩
  · refine (shown _ (by decide)).trans ?_
    rw [State.r_w_ne _ _ _ _ (by decide), State.r_w_same]
    exact Nat.mod_eq_of_lt (listed.trans (by decide))
  · refine (shown _ (by decide)).trans ?_
    rw [State.r_w_same]
    rfl

/-! ### Losses of a sin/cos channel -/

/-- Three illegal transitions within one revolution latch the loss of a channel that had none (R103). -/
theorem sincosLost_latches {s : Machine.State} {c : Nat} {a b d : Int} (hc : c < 2) (three : (s.scChan c).illegalQ = [a, b, d])
    (oldest : mag (a - d) < 4 * s.r (Reg.PFE_SC_CFG_LINES c)) (newer : mag (a - b) < 4 * s.r (Reg.PFE_SC_CFG_LINES c))
    (known : s.r (Reg.PFE_SC_STATUS_LOST c) = 0) :
    sincosLost c s = if s.machSc == some c then
        ((s.wb (Reg.PFE_SC_STATUS_LOST c) true).wb Reg.PFE_STATUS_MACH_LOST true).raisePos Evt.SINCOS_LOST.asFault [.code c]
      else (s.wb (Reg.PFE_SC_STATUS_LOST c) true).raisePos Evt.SINCOS_LOST [.code c] := by
  unfold sincosLost
  dsimp only
  rw [if_pos hc, if_pos (by simp [three, nth, oldest, newer, State.rb, known])]

theorem sincosLost_completes (s : Machine.State) (c : Nat) (a b d : Int) (hc : c < 2) (three : (s.scChan c).illegalQ = [a, b, d])
    (oldest : mag (a - d) < 4 * s.r (Reg.PFE_SC_CFG_LINES c)) (newer : mag (a - b) < 4 * s.r (Reg.PFE_SC_CFG_LINES c))
    (known : s.r (Reg.PFE_SC_STATUS_LOST c) = 0) :
    ∃ t, exec (.sincosLost c) s = .next t ∧ t.r (Reg.PFE_SC_STATUS_LOST c) = 1 ∧ Pending Evt.SINCOS_LOST t ∧
      (s.machSc = some c → t.r Reg.PFE_STATUS_MACH_LOST = 1) ∧
      RegsBut [Reg.PFE_SC_STATUS_LOST c, Reg.PFE_STATUS_MACH_LOST] s t ∧ SameMemory s t := by
  have other : (Reg.PFE_SC_STATUS_LOST c).key ≠ Reg.PFE_STATUS_MACH_LOST.key := by interval_cases c <;> decide
  have latched : RegsBut [Reg.PFE_SC_STATUS_LOST c, Reg.PFE_STATUS_MACH_LOST] s (s.wb (Reg.PFE_SC_STATUS_LOST c) true) :=
    (RegsBut.refl _ s).w _ (by simp)
  refine ⟨(sincosLost c s).fin, rfl, ?_⟩
  rw [sincosLost_latches hc three oldest newer known]
  by_cases source : s.machSc = some c
  · rw [if_pos (by simp [source])]
    simp only [State.fin_r, regsBut_fin, sameMemory_fin, raisePos_r, regsBut_raisePos, sameMemory_raisePos, State.wb_eq, State.r_w_same]
    refine ⟨?_, pending_raisePos _ _ _, fun _ => rfl, latched.w _ (by simp), rfl, rfl, rfl, rfl⟩
    rw [State.r_w_ne _ _ _ _ other, State.r_w_same]
    rfl
  · rw [if_neg (by simp [source])]
    simp only [State.fin_r, regsBut_fin, sameMemory_fin, raisePos_r, regsBut_raisePos, sameMemory_raisePos, State.wb_eq, State.r_w_same]
    exact ⟨rfl, pending_raisePos _ _ _, fun h => absurd h source, latched, rfl, rfl, rfl, rfl⟩

/-- A channel's third mark out of tolerance in a row latches its INDEX_LOST (R109, R111). -/
theorem indexLost_latches {s : Machine.State} {c : Nat} (third : s.r (Reg.PFE_SC_INDEX_CONSEC c) = 3)
    (known : (s.scChan c).indexLost = false) :
    indexLost c s = if s.machSc == some c then
        ((s.modSc c fun x => { x with indexLost := true }).wb Reg.PFE_STATUS_INDEX_LOST true).raisePos Evt.INDEX_LOST.asFault [.code c]
      else (s.modSc c fun x => { x with indexLost := true }).raisePos Evt.INDEX_LOST [.code c] := by
  unfold indexLost
  rw [if_pos (by simp [third, known])]
  rfl

theorem indexLost_completes (s : Machine.State) (c : Nat) (third : s.r (Reg.PFE_SC_INDEX_CONSEC c) = 3)
    (known : (s.scChan c).indexLost = false) :
    ∃ t, exec (.indexLost c) s = .next t ∧ (t.scChan c).indexLost = true ∧ Pending Evt.INDEX_LOST t ∧
      (s.machSc = some c → t.r Reg.PFE_STATUS_INDEX_LOST = 1) ∧ RegsBut [Reg.PFE_STATUS_INDEX_LOST] s t ∧ SameMemory s t := by
  have noted : ((s.modSc c fun x => { x with indexLost := true }).scChan c).indexLost = true := by simp
  have frame : RegsBut [Reg.PFE_STATUS_INDEX_LOST] s (s.modSc c fun x => { x with indexLost := true }) := (RegsBut.refl _ s).of_regs rfl
  refine ⟨(indexLost c s).fin, rfl, ?_⟩
  rw [indexLost_latches third known]
  by_cases source : s.machSc = some c
  · rw [if_pos (by simp [source])]
    simp only [State.fin_r, State.fin_scChan, regsBut_fin, sameMemory_fin, raisePos_r, raisePos_scChan, regsBut_raisePos,
      sameMemory_raisePos, State.wb_eq, State.r_w_same]
    exact ⟨noted, pending_raisePos _ _ _, fun _ => rfl, frame.w _ (by simp), rfl, rfl, rfl, rfl⟩
  · rw [if_neg (by simp [source])]
    simp only [State.fin_r, State.fin_scChan, regsBut_fin, sameMemory_fin, raisePos_scChan, regsBut_raisePos, sameMemory_raisePos]
    exact ⟨noted, pending_raisePos _ _ _, fun h => absurd h source, frame, rfl, rfl, rfl, rfl⟩

/-! ### Reference marks -/

theorem markCauses_r {g : Machine.Field} (s : Machine.State) (h : g.key ≠ Reg.PFE_STATUS_CAUSE.key) : (markCauses s).r g = s.r g :=
  (State.r_w_ne _ _ _ _ h).trans (State.r_w_ne _ _ _ _ h)

/-- A count committed as the reference count of a channel, the mark noted (R109). -/
def markCommitted (c : Nat) (count : Int) (s : Machine.State) : Machine.State :=
  let s := ((s.w (Reg.PFE_SC_REF_COUNT c) (modCpr count (s.cpr c))).wb (Reg.PFE_SC_INDEX_COMMITTED c) true).w (Reg.PFE_SC_INDEX_CONSEC c) 0
  (s.modSc c fun x => { x with good := 1 }).modSc c fun x => { x with lastMark := count, missed := 0, causeMissing := false }

theorem onMark_commits {s : Machine.State} {c : Nat} (count : Int) (first : s.r (Reg.PFE_SC_INDEX_COMMITTED c) = 0) :
    onMark c count s = markCauses (markCommitted c count s) := by
  unfold onMark
  dsimp only
  rw [if_pos (by simp [State.rb, first])]
  rfl

/-- The fields of a channel's index state are other fields than the causes and each other. -/
theorem indexFields_distinct : ∀ c < 2, ([Reg.PFE_STATUS_CAUSE, Reg.PFE_SC_REF_COUNT c, Reg.PFE_SC_INDEX_COMMITTED c,
    Reg.PFE_SC_INDEX_CONSEC c].map Machine.Field.key).Nodup := by decide

theorem posOnly_markCommitted (c : Nat) (count : Int) (s : Machine.State) : PosOnly s (markCommitted c count s) :=
  (((((PosOnly.refl s).w ..).w ..).w ..).pos _).pos _

theorem markCommitted_shows {c : Nat} (hc : c < 2) (count : Int) (s : Machine.State) :
    (markCommitted c count s).r (Reg.PFE_SC_REF_COUNT c) = modCpr count (s.cpr c) % 2 ^ (Reg.PFE_SC_REF_COUNT c).width ∧
    (markCommitted c count s).r (Reg.PFE_SC_INDEX_COMMITTED c) = 1 := by
  have distinct := indexFields_distinct c hc
  simp only [List.map_cons, List.map_nil, List.nodup_cons, List.mem_cons, List.not_mem_nil, or_false, not_or] at distinct
  obtain ⟨-, ⟨countCommitted, countConsec⟩, committedConsec, -⟩ := distinct
  simp only [markCommitted, State.modSc_r, State.wb_eq]
  constructor
  · rw [State.r_w_ne _ _ _ _ countConsec, State.r_w_ne _ _ _ _ countCommitted, State.r_w_same]
  · rw [State.r_w_ne _ _ _ _ committedConsec, State.r_w_same]
    rfl

/-- The state with the ended mark pulse of a channel taken. -/
def markPulseTaken (c : Nat) (s : Machine.State) : Machine.State := s.modSc c fun x => { x with mark := none }

/-- An ended pulse that is taken commits the count of a channel that had none (R109). -/
theorem referenceMark_commits {s : Machine.State} {c : Nat} {m : MarkPulse} (ended : (s.scChan c).mark = some m)
    (taken : markTaken c m.illegal s = true) (first : s.r (Reg.PFE_SC_INDEX_COMMITTED c) = 0) :
    referenceMark c s = markCauses (markCommitted c m.count (markPulseTaken c s)) := by
  have taken' : markTaken c m.illegal (markPulseTaken c s) = true := taken
  have first' : (markPulseTaken c s).r (Reg.PFE_SC_INDEX_COMMITTED c) = 0 := first
  unfold referenceMark
  rw [ended]
  dsimp only
  rw [← markPulseTaken, if_pos taken', onMark_commits m.count first']

theorem referenceMark_completes (s : Machine.State) (c : Nat) (m : MarkPulse) (hc : c < 2) (ended : (s.scChan c).mark = some m)
    (taken : markTaken c m.illegal s = true) (first : s.r (Reg.PFE_SC_INDEX_COMMITTED c) = 0) :
    ∃ t, exec (.referenceMark c) s = .next t ∧ (t.scChan c).mark = none ∧
      t.r (Reg.PFE_SC_REF_COUNT c) = modCpr m.count (s.cpr c) % 2 ^ (Reg.PFE_SC_REF_COUNT c).width ∧
      t.r (Reg.PFE_SC_INDEX_COMMITTED c) = 1 ∧ (t.scChan c).lastMark = m.count ∧ SameMemory s t := by
  have run : exec (.referenceMark c) s = .next (markCauses (markCommitted c m.count (markPulseTaken c s))).fin := by
    have e : exec (.referenceMark c) s = (referenceMark (c % 2) s).done := rfl
    rw [e, Nat.mod_eq_of_lt hc, referenceMark_commits ended taken first, State.done_eq]
  have channel : (markCauses (markCommitted c m.count (markPulseTaken c s))).scChan c =
      { s.scChan c with mark := none, good := 1, lastMark := m.count, missed := 0, causeMissing := false } := by
    simp [markCauses, State.cause, State.setBitOf, markCommitted, markPulseTaken]
  obtain ⟨count, committed⟩ := markCommitted_shows hc m.count (markPulseTaken c s)
  have notCause : (Reg.PFE_SC_REF_COUNT c).key ≠ Reg.PFE_STATUS_CAUSE.key ∧ (Reg.PFE_SC_INDEX_COMMITTED c).key ≠ Reg.PFE_STATUS_CAUSE.key := by
    interval_cases c <;> decide
  have frame : PosOnly s (markCauses (markCommitted c m.count (markPulseTaken c s))) :=
    (((PosOnly.refl s).pos _).trans (posOnly_markCommitted ..)).markCauses
  refine ⟨_, run, ?_⟩
  simp only [State.fin_r, State.fin_scChan, sameMemory_fin, channel]
  refine ⟨trivial, ?_, ?_, trivial, frame.sameMemory⟩
  · rw [markCauses_r _ notCause.1, count]
    rfl
  · rw [markCauses_r _ notCause.2, committed]

/-! ### Calibrated converters and encoder supplies -/

/-- The loupe has run the check of a track (R106). -/
def adcChecked (c k : Nat) (s : Machine.State) : Machine.State :=
  loupeRan 5 { s with pos := { s.pos with calAt := setAt s.pos.calAt (2 * c + k) s.optime 0 } }

theorem loupeRan_pos (t : Nat) (s : Machine.State) : (loupeRan t s).pos = s.pos := by
  unfold loupeRan
  extract_lets late mem u
  obtain ⟨ports, held, form⟩ := post_form (u.w Reg.MIR_LOUPE_LATE_LATE (setBit (u.r Reg.MIR_LOUPE_LATE_LATE) t false)) 13 t (by decide)
  rw [form]
  have noted : late.pos = s.pos := by
    unfold late loupeLate
    dsimp only
    split <;> rfl
  exact noted

theorem adcChecked_scChan (c k d : Nat) (s : Machine.State) : (adcChecked c k s).scChan d = s.scChan d := by
  simp only [State.scChan, adcChecked, loupeRan_pos]

theorem sameMemory_adcChecked (c k : Nat) (s : Machine.State) : SameMemory s (adcChecked c k s) :=
  SameMemory.trans ⟨rfl, rfl, rfl, rfl⟩ (loupeRan_frame 5 _).2

theorem adcCalSwap_due {s : Machine.State} {c k : Nat} (diffs : List Int) (hc : c < 2) (hk : k < 2)
    (due : 10000000 ≤ s.since (nth s.pos.calAt (2 * c + k) 0)) :
    adcCalSwap c k diffs s = if diffs.length = 16 && diffs.all fun d => decide (mag d ≤ 32) then
        (adcChecked c k s).modSc c fun x => { x with conv := modAt x.conv k (fun n => 1 - n) 0 }
      else (adcChecked c k s).raisePos Evt.ADC_CAL_FAIL [.code c, .code k] := by
  unfold adcCalSwap
  dsimp only
  rw [Nat.mod_eq_of_lt hc, Nat.mod_eq_of_lt hk, if_neg (Nat.not_lt.mpr due)]
  rfl

theorem adcCalSwap_completes (s : Machine.State) (c k : Nat) (diffs : List Int) (hc : c < 2) (hk : k < 2)
    (due : 10000000 ≤ s.since (nth s.pos.calAt (2 * c + k) 0)) :
    (diffs.length = 16 → (∀ d ∈ diffs, mag d ≤ 32) →
      ∃ t, exec (.adcCalSwap c k diffs) s = .next t ∧ nth (t.scChan c).conv k 0 = 1 - nth (s.scChan c).conv k 0 ∧ SameMemory s t) ∧
    ((∃ d ∈ diffs, 32 < mag d) → ∃ t, exec (.adcCalSwap c k diffs) s = .next t ∧ Pending Evt.ADC_CAL_FAIL t ∧ SameMemory s t) := by
  refine ⟨fun sixteen small => ⟨(adcCalSwap c k diffs s).fin, rfl, ?_⟩, fun large => ⟨(adcCalSwap c k diffs s).fin, rfl, ?_⟩⟩
  · rw [adcCalSwap_due diffs hc hk due, if_pos (by simpa [sixteen] using small)]
    simp only [State.fin_scChan, sameMemory_fin, State.scChan_modSc_same, nth_modAt_same, adcChecked_scChan]
    exact ⟨trivial, sameMemory_adcChecked c k s⟩
  · obtain ⟨d, hd, high⟩ := large
    rw [adcCalSwap_due diffs hc hk due, if_neg fun h => ?_]
    · simp only [sameMemory_fin, sameMemory_raisePos]
      exact ⟨pending_raisePos _ _ _, sameMemory_adcChecked c k s⟩
    · simp only [Bool.and_eq_true, List.all_eq_true, decide_eq_true_eq] at h
      exact absurd (h.2 d hd) (by omega)

/-- The state with the judgement of an encoder supply noted. -/
def supplyNoted (i : Nat) (out : Bool) (s : Machine.State) : Machine.State :=
  { s with pos := { s.pos with encOut := setAt s.pos.encOut i out false } }

/-- A supply is switched on and leaves 10 % of its voltage or exceeds 300 mA (R135, R438). -/
def supplyOut (i mv ma : Nat) (s : Machine.State) : Bool :=
  let nom := if s.rb (Reg.PFE_SC_CFG_SUPPLY_12V i) then 12000 else 5000
  s.rb (Reg.PFE_SC_CFG_SUPPLY_ON i) && (decide (mv * 10 < nom * 9) || decide (nom * 11 < mv * 10) || decide (300 < ma))

theorem encSupply_eq {i : Nat} (hi : i < 2) (mv ma : Nat) (s : Machine.State) :
    encSupply (i + 1) mv ma s = if supplyOut i mv ma s && !nth s.pos.encOut i false then
        (supplyNoted i (supplyOut i mv ma s) s).raisePos Evt.ENC_SUPPLY [.code (i + 1)]
      else supplyNoted i (supplyOut i mv ma s) s := by
  unfold encSupply
  rw [Nat.add_sub_cancel, Nat.mod_eq_of_lt hi]
  rfl

theorem supplyOut_good {s : Machine.State} {i mv ma : Nat} (good : s.r (Reg.PFE_SC_CFG_SUPPLY_ON i) = 0 ∨
    s.r (Reg.PFE_SC_CFG_SUPPLY_12V i) = 1 ∧ 10800 ≤ mv ∧ mv ≤ 13200 ∧ ma ≤ 300) : supplyOut i mv ma s = false := by
  rcases good with off | ⟨twelve, low, high, load⟩
  · simp [supplyOut, State.rb, off]
  · simp only [supplyOut, State.rb, twelve]
    simp
    omega

theorem supplyOut_bad {s : Machine.State} {i mv ma : Nat} (on : s.r (Reg.PFE_SC_CFG_SUPPLY_ON i) = 1)
    (five : s.r (Reg.PFE_SC_CFG_SUPPLY_12V i) = 0) (bad : mv < 4500 ∨ 5500 < mv ∨ 300 < ma) : supplyOut i mv ma s = true := by
  simp only [supplyOut, State.rb, on, five]
  simp
  omega

theorem encSupply_completes (s : Machine.State) (n mv ma : Nat) (low : 1 ≤ n) (high : n ≤ 2) :
    (nth s.pos.encOut (n - 1) false = false → s.r (Reg.PFE_SC_CFG_SUPPLY_ON (n - 1)) = 1 →
      s.r (Reg.PFE_SC_CFG_SUPPLY_12V (n - 1)) = 0 → (mv < 4500 ∨ 5500 < mv ∨ 300 < ma) →
      ∃ t, exec (.encSupply n mv ma) s = .next t ∧ nth t.pos.encOut (n - 1) false = true ∧ Pending Evt.ENC_SUPPLY t ∧
        t.regs = s.regs ∧ SameMemory s t) ∧
    (s.r (Reg.PFE_SC_CFG_SUPPLY_ON (n - 1)) = 0 ∨ s.r (Reg.PFE_SC_CFG_SUPPLY_12V (n - 1)) = 1 ∧ 10800 ≤ mv ∧ mv ≤ 13200 ∧ ma ≤ 300 →
      ∃ t, exec (.encSupply n mv ma) s = .next t ∧ nth t.pos.encOut (n - 1) false = false ∧ t.regs = s.regs ∧ SameMemory s t) := by
  obtain ⟨i, rfl⟩ : ∃ i, n = i + 1 := ⟨n - 1, by omega⟩
  simp only [Nat.add_sub_cancel]
  have noted (out : Bool) : nth (supplyNoted i out s).pos.encOut i false = out := nth_setAt_same ..
  refine ⟨fun before on five bad => ⟨(encSupply (i + 1) mv ma s).fin, rfl, ?_⟩, fun good => ⟨(encSupply (i + 1) mv ma s).fin, rfl, ?_⟩⟩
  · rw [encSupply_eq (by omega), supplyOut_bad on five bad, if_pos (by simpa using before)]
    simp only [State.fin_pos, State.fin_regs, sameMemory_fin, raisePos_pos, raisePos_regs, sameMemory_raisePos, noted]
    exact ⟨trivial, pending_raisePos _ _ _, rfl, rfl, rfl, rfl, rfl⟩
  · rw [encSupply_eq (by omega), supplyOut_good good, if_neg (by simp)]
    simp only [State.fin_pos, State.fin_regs, sameMemory_fin, noted]
    exact ⟨trivial, rfl, rfl, rfl, rfl, rfl⟩

end Sys2Proof

namespace Sys2Proof.Machine

/-! ### The position model at a sample of the machine source (R120, R125, R128) -/

/-- The position front ends at work, the latched sample left where it is. -/
structure LatchKept (s t : State) : Prop where
  only : PosOnly s t
  raw : t.pos.raw = s.pos.raw

section
variable {s t : State}

theorem LatchKept.refl (s : State) : LatchKept s s := ⟨.refl s, rfl⟩

theorem LatchKept.w (h : LatchKept s t) (f : Field) (v : Nat) : LatchKept s (t.w f v) := ⟨h.only.w f v, h.raw⟩

theorem LatchKept.pos (h : LatchKept s t) {p : PosState} (same : p.raw = t.pos.raw := by rfl) : LatchKept s { t with pos := p } :=
  ⟨h.only.pos p, same.trans h.raw⟩

theorem LatchKept.raisePos (h : LatchKept s t) (e : Evt) (args : List Arg) : LatchKept s (t.raisePos e args) :=
  ⟨h.only.raisePos e args, (congrArg PosState.raw (raisePos_pos ..)).trans h.raw⟩

theorem LatchKept.ite {u : State} {c : Prop} {_ : Decidable c} (ht : LatchKept s t) (hu : LatchKept s u) :
    LatchKept s (if c then t else u) := by
  split <;> assumption

theorem LatchKept.setHalf (h : LatchKept s t) (source : Nat) (v : Int) : LatchKept s (t.setHalf source v) := .ite h.pos h.pos

theorem LatchKept.changeSource (h : LatchKept s t) (old new : Nat) (pm : Int) (at_ : Time) :
    LatchKept s (changeSource old new pm at_ t) := by
  have known : LatchKept s (if new = 1 then t.setHalf 1 0 else t) := .ite (h.setHalf ..) h
  exact .ite h (.ite known.pos (h.setHalf ..).pos)

theorem LatchKept.slew (h : LatchKept s t) (source : Nat) (travel speed : Int) : LatchKept s (slew source travel speed t) :=
  (h.setHalf ..).pos

theorem LatchKept.sampleCauses (h : LatchKept s t) : LatchKept s (sampleCauses t) := by
  unfold Machine.sampleCauses
  refine LatchKept.w ?_ ..
  split
  · exact (h.w ..).w ..
  · exact h.pos.w ..

theorem LatchKept.showSample (h : LatchKept s t) (x : CarSample) : LatchKept s (showSample x t) :=
  (((((((h.w ..).w ..).w ..).w ..).w ..).w ..).w ..).w ..

end

theorem showSample_source (x : CarSample) (s : State) : (showSample x s).r Reg.PFE_STATUS_SOURCE = x.source % 4 := by
  simp (disch := decide) [showSample, Reg.PFE_STATUS_SOURCE]

theorem showSample_time (x : CarSample) (s : State) : (showSample x s).r Reg.PFE_SAMPLE_TIME = x.time.toNat % 2 ^ 32 := by
  simp (disch := decide) [showSample, Reg.PFE_SAMPLE_TIME]

/-- The machine source gives CONF FULL or DEGRADED (Table 04-4). -/
theorem confOf_machine (cause : Nat) : confOf 0 cause < 2 := by
  unfold confOf
  split
  · split <;> decide
  · contradiction

/-- What the position model makes of a sample while the machine source is OK. -/
structure MachineSample (at_ : Time) (s t : State) : Prop where
  kept : LatchKept s t
  time : t.pos.sample.time = at_
  source : t.pos.sample.source = 0
  known : t.pos.sample.conf < 2
  shownSource : t.r Reg.PFE_STATUS_SOURCE = 0
  shownTime : t.r Reg.PFE_SAMPLE_TIME = at_.toNat % 2 ^ 32

theorem MachineSample.raisePos {at_ : Time} {s t : State} (h : MachineSample at_ s t) (e : Evt) (args : List Arg) :
    MachineSample at_ s (t.raisePos e args) where
  kept := h.kept.raisePos e args
  time := by rw [raisePos_pos, h.time]
  source := by rw [raisePos_pos, h.source]
  known := by rw [raisePos_pos]; exact h.known
  shownSource := by rw [raisePos_r, h.shownSource]
  shownTime := by rw [raisePos_r, h.shownTime]

theorem positionModel_machine {s : State} (at_ : Time) (pm : Int) (ok : s.machOk = true) :
    MachineSample at_ s (positionModel at_ pm s) := by
  unfold positionModel
  extract_lets pms v vs a old new _ changed speed moved pos judged conf x _ shown
  have machine : new = 0 := if_pos ok
  have atChanged : LatchKept s changed := (LatchKept.refl s).pos.changeSource ..
  have atJudged : LatchKept s judged := (LatchKept.ite atChanged (atChanged.slew ..)).sampleCauses
  have atShown : MachineSample at_ s shown := {
    kept := atJudged.pos.showSample x
    time := rfl
    source := machine
    known := (congrArg (confOf · _) machine).trans_lt (confOf_machine _)
    shownSource := (showSample_source ..).trans (congrArg (· % 4) machine)
    shownTime := showSample_time .. }
  split
  · exact atShown
  · exact atShown.raisePos ..

end Sys2Proof.Machine

namespace Sys2Proof

open Sys2Proof.Machine

/-! ### The delivery beyond the position model (R97) -/

/-- What the rest of a delivery leaves alone: the position front ends, the reticle, the memories and every register but the car stop. -/
structure DeliveryKeeps (s t : Machine.State) : Prop where
  pos : t.pos = s.pos
  ret : t.ret = s.ret
  memory : SameMemory s t
  regs : RegsBut [Reg.TRIP_STATUS_CAR_STOP] s t

section
variable {s t u : Machine.State}

theorem DeliveryKeeps.refl (s : Machine.State) : DeliveryKeeps s s := ⟨rfl, rfl, .refl s, .refl _ s⟩

theorem DeliveryKeeps.feedLane (h : DeliveryKeeps s t) : DeliveryKeeps s (feedLane t) := ⟨h.pos, h.ret, h.memory, h.regs⟩

theorem DeliveryKeeps.ite {c : Prop} {_ : Decidable c} (ht : DeliveryKeeps s t) (hu : DeliveryKeeps s u) :
    DeliveryKeeps s (if c then t else u) := by
  split <;> assumption

theorem DeliveryKeeps.firstPosition (h : DeliveryKeeps s t) : DeliveryKeeps s (firstPosition t) := by
  refine .ite h ?_
  extract_lets placed
  have atPlaced : DeliveryKeeps s placed := ⟨h.pos, h.ret, h.memory, h.regs⟩
  exact ⟨atPlaced.pos, atPlaced.ret, atPlaced.memory, atPlaced.regs.w _ (by simp)⟩

theorem DeliveryKeeps.wake (h : DeliveryKeeps s t) (cause : Nat) : DeliveryKeeps s (t.wake cause) := by
  obtain ⟨exit, form⟩ := t.wake_form cause
  rw [form]
  exact ⟨h.pos, h.ret, h.memory, h.regs⟩

theorem DeliveryKeeps.posListExpiry (h : DeliveryKeeps s t) (pos speed : Int) :
    DeliveryKeeps s (t.awake (posListExpiry pos speed)) := .ite h ⟨h.pos, h.ret, h.memory, h.regs⟩

end

theorem foldl_of_fixed {α β : Type} {f : β → α → β} {b : β} {l : List α} (fixed : ∀ x ∈ l, f b x = b) : l.foldl f b = b := by
  induction l with
  | nil => rfl
  | cons x l ih =>
    rw [List.foldl_cons, fixed x List.mem_cons_self]
    exact ih fun y hy => fixed y (List.mem_cons_of_mem _ hy)

/-- A set without an armed slot fires nothing and stays as it is (R142 to R146). -/
theorem compareSet_unarmed {s : Machine.State} {k : Nat} (fires : List Fire) (unarmed : ∀ i, i < setSize k → (s.slot k i).armed = false) :
    compareSet (s, fires) k = (s, fires) := by
  unfold compareSet
  split
  · rfl
  · refine foldl_of_fixed fun i hi => ?_
    exact if_pos (by simp [unarmed i (List.mem_range.mp hi)])

theorem scDeliver_disabled {s : Machine.State} {c : Nat} (x : ScSample) (off : s.r (Reg.PFE_SC_CFG_ENABLE c) = 0) : scDeliver s c x = s :=
  if_pos (by simp [State.rb, off])

/-- The state with a sample delivered to the reticle. -/
def sampleSeen (s : Machine.State) : Machine.State := { s with ret := { s.ret with seen := true } }

theorem sampleSeen_sets (s : Machine.State) : (sampleSeen s).ret.sets = s.ret.sets := rfl

/-- The delivery of a car sample that is no door sample, with the sin/cos channels off, is the model's sample, told to the reticle and
lane A. -/
theorem deliverFront_machine {s : Machine.State} {x : RawSample} (noDoors : x.doors = false)
    (sc1 : s.r (Reg.PFE_SC_CFG_ENABLE 0) = 0) (sc2 : s.r (Reg.PFE_SC_CFG_ENABLE 1) = 0) :
    ∃ pm, deliverFront x s = feedLane (sampleSeen (positionModel x.time pm s)) := by
  unfold deliverFront
  rw [scDeliver_disabled _ sc1, scDeliver_disabled _ sc2, noDoors]
  exact ⟨_, rfl⟩

/-- The state with its latched sample taken. -/
def latchTaken (s : Machine.State) : Machine.State := { s with pos := { s.pos with raw := none } }

/-- A delivery of the machine source's sample to a car set without an armed mark: the model, then what touches neither it nor the set. -/
theorem sampleDelivery_machine {s : Machine.State} {x : RawSample} (latched : s.pos.raw = some x) (noDoors : x.doors = false)
    (ok : s.machOk = true) (sc1 : s.r (Reg.PFE_SC_CFG_ENABLE 0) = 0) (sc2 : s.r (Reg.PFE_SC_CFG_ENABLE 1) = 0)
    (unarmed : ∀ i, i < 256 → (s.slot 0 i).armed = false) :
    ∃ m, MachineSample x.time (latchTaken s) m ∧ DeliveryKeeps (sampleSeen m) (sampleDelivery s) := by
  obtain ⟨pm, front⟩ := deliverFront_machine (s := latchTaken s) noDoors sc1 sc2
  have model : MachineSample x.time (latchTaken s) (positionModel x.time pm (latchTaken s)) := positionModel_machine _ _ ok
  refine ⟨_, model, ?_⟩
  unfold sampleDelivery
  split
  · rename_i none
    cases latched.symm.trans none
  rename_i y some
  cases latched.symm.trans some
  rw [← latchTaken, front]
  generalize positionModel x.time pm (latchTaken s) = m at model
  extract_lets was delivered stopped woken expired compared
  have atDelivered : DeliveryKeeps (sampleSeen m) delivered := (DeliveryKeeps.refl _).feedLane.firstPosition
  have notLost : stopped = delivered := if_neg (by
    have known : delivered.pos.sample.conf < 2 := by rw [atDelivered.pos]; exact model.known
    simp [show delivered.pos.sample.conf ≠ 3 by omega])
  have atWoken : DeliveryKeeps (sampleSeen m) woken := by
    rw [← notLost] at atDelivered
    exact .ite (atDelivered.wake 4) atDelivered
  have atExpired : DeliveryKeeps (sampleSeen m) expired := atWoken.posListExpiry ..
  have slots (i : Nat) : expired.slot 0 i = s.slot 0 i := by
    have sets : expired.ret.sets = s.ret.sets := by
      rw [atExpired.ret, sampleSeen_sets, model.kept.only.ret]
      rfl
    simp only [State.slot, State.set, sets]
  have none : compared = (expired, []) := by
    simp only [compared, setsFor, noDoors]
    exact compareSet_unarmed [] fun i hi => by rw [slots]; exact unarmed i hi
  rw [none]
  exact atExpired

theorem sampleDelivery_completes (s : Machine.State) (x : RawSample) (latched : s.pos.raw = some x) (noDoors : x.doors = false)
    (ok : s.machOk = true) (sc1 : s.r (Reg.PFE_SC_CFG_ENABLE 0) = 0) (sc2 : s.r (Reg.PFE_SC_CFG_ENABLE 1) = 0)
    (unarmed : ∀ i, i < 256 → (s.slot 0 i).armed = false) :
    ∃ t, exec .sampleDelivery s = .next t ∧ t.pos.raw = none ∧ t.ret.seen = true ∧ t.pos.sample.time = x.time ∧
      t.pos.sample.source = 0 ∧ t.r Reg.PFE_STATUS_SOURCE = 0 ∧ t.r Reg.PFE_SAMPLE_TIME = x.time.toNat % 2 ^ 32 ∧ SameMemory s t := by
  obtain ⟨m, model, rest⟩ := sampleDelivery_machine latched noDoors ok sc1 sc2 unarmed
  have taken : SameMemory s m := SameMemory.trans ⟨rfl, rfl, rfl, rfl⟩ model.kept.only.sameMemory
  refine ⟨(sampleDelivery s).fin, rfl, ?_⟩
  simp only [State.fin_r, State.fin_pos, State.fin_ret, sameMemory_fin, rest.pos, rest.ret]
  refine ⟨model.kept.raw, rfl, model.time, model.source, ?_, ?_, taken.trans rest.memory⟩
  · exact (rest.regs _ (by decide)).trans model.shownSource
  · exact (rest.regs _ (by decide)).trans model.shownTime

/-- Settles O9: the sample and its delivery through the position model while the machine source is OK, each loss and check of a channel by
the one branch of its operation that the hypotheses leave. -/
theorem carSamplesAndSinCosComplete : Obligations.CarSamplesAndSinCosComplete := by
  refine ⟨⟨carPositionSample_completes, ?_, ?_⟩, ?_, ?_, indexLost_completes, ?_, encSupply_completes⟩
  · intro s x latched noDoors ok sc1 sc2 unarmed
    exact sampleDelivery_completes s x latched noDoors ok sc1 sc2 unarmed
  · intro s input rising g i x e edge best kept within listed
    exact referencePoint_completes s input rising g i x e edge best kept within listed
  · intro s c a b d hc three oldest newer known
    exact sincosLost_completes s c a b d hc three oldest newer known
  · intro s c m hc ended taken first
    exact referenceMark_completes s c m hc ended taken first
  · intro s c k diffs hc hk due
    exact adcCalSwap_completes s c k diffs hc hk due

end Sys2Proof

/-! PROOFS. Quadrature inputs, emulators and SSI channels (file 04): edges and the emulators they feed (R112, R113, R131, R132),
frames of SSI1 and SSI2 (R116 to R119, R356) and slip (R127). -/

namespace Sys2Proof.Machine

/-! ### What the emulators' pending edges leave alone (R131, R132, R134) -/

/-- The registers that show the emulators' backlog. -/
def emuFields : List Field :=
  [Reg.PFE_EMU_STATUS_MAX_BACKLOG 0, Reg.PFE_EMU_STATUS_MAX_BACKLOG 1, Reg.PFE_EMU_STATUS_OVERFLOW 0, Reg.PFE_EMU_STATUS_OVERFLOW 1]

/-- The second state differs from the first in the front ends alone, in no quadrature channel and in no register but the backlog's. -/
structure EmuKeeps (s t : State) : Prop where
  only : PosOnly s t
  qd : t.pos.qd = s.pos.qd
  regs : RegsBut emuFields s t

section
variable {s t u : State}

theorem EmuKeeps.refl (s : State) : EmuKeeps s s := ⟨.refl s, rfl, .refl _ s⟩

theorem EmuKeeps.trans (h : EmuKeeps s t) (h' : EmuKeeps t u) : EmuKeeps s u :=
  ⟨h.only.trans h'.only, h'.qd.trans h.qd, h.regs.trans h'.regs⟩

theorem EmuKeeps.w (h : EmuKeeps s t) {f : Field} (m : f ∈ emuFields) (v : Nat) : EmuKeeps s (t.w f v) :=
  ⟨h.only.w f v, h.qd, h.regs.w v m⟩

theorem EmuKeeps.modEmu (h : EmuKeeps s t) (i : Nat) (f : EmuState → EmuState) : EmuKeeps s (t.modEmu i f) :=
  ⟨h.only.pos _, h.qd, h.regs⟩

theorem EmuKeeps.raisePos (h : EmuKeeps s t) (e : Evt) (args : List Arg) : EmuKeeps s (t.raisePos e args) :=
  ⟨h.only.raisePos e args, (congrArg PosState.qd (raisePos_pos ..)).trans h.qd, (regsBut_raisePos ..).mpr h.regs⟩

theorem EmuKeeps.ite {c : Prop} {_ : Decidable c} (ht : EmuKeeps s t) (hu : EmuKeeps s u) : EmuKeeps s (if c then t else u) := by
  split <;> assumption

theorem EmuKeeps.foldl {f : State → Nat → State} {l : List Nat} (step : ∀ u, ∀ i ∈ l, EmuKeeps u (f u i)) (s : State) :
    EmuKeeps s (l.foldl f s) := by
  induction l generalizing s with
  | nil => exact .refl s
  | cons i l ih => exact (step s i List.mem_cons_self).trans (ih (fun u j hj => step u j (List.mem_cons_of_mem _ hj)) _)

end

theorem EmuKeeps.qdChan {s t : State} (h : EmuKeeps s t) (q : Nat) : t.qdChan q = s.qdChan q := by
  simp only [State.qdChan, h.qd]

theorem EmuKeeps.qdCount {s t : State} (h : EmuKeeps s t) (q : Nat) : t.qdCount q = s.qdCount q :=
  congrArg QdChan.count (h.qdChan q)

theorem emuKeeps_emuFeed {i : Nat} (hi : i < 2) (delta : Int) (s : State) : EmuKeeps s (emuFeed i delta s) := by
  have backlog : Reg.PFE_EMU_STATUS_MAX_BACKLOG i ∈ emuFields := by interval_cases i <;> simp [emuFields]
  have overflow : Reg.PFE_EMU_STATUS_OVERFLOW i ∈ emuFields := by interval_cases i <;> simp [emuFields]
  unfold emuFeed
  extract_lets e den acc n want pend fed peaked told
  have atPeaked : EmuKeeps s peaked := ((EmuKeeps.refl s).modEmu ..).w backlog _
  have atTold : EmuKeeps s told := .ite (atPeaked.raisePos ..) atPeaked
  exact .ite ((atTold.w overflow _).raisePos ..) atTold

theorem emuKeeps_emuQuad (q : Nat) (turn count : Int) (s : State) : EmuKeeps s (emuQuad q turn count s) :=
  EmuKeeps.foldl (fun u _ hi => .ite (emuKeeps_emuFeed (List.mem_range.mp hi) _ u) (.refl u)) s

theorem emuKeeps_emuCopyZ (source : Nat) (s : State) : EmuKeeps s (emuCopyZ source s) :=
  EmuKeeps.foldl (fun u i _ => .ite ((EmuKeeps.refl u).modEmu i _) (.refl u)) s

end Sys2Proof.Machine

namespace Sys2Proof

open Sys2Proof.Machine

theorem fin_qdCount (s : Machine.State) (q : Nat) : s.fin.qdCount q = s.qdCount q := congrArg QdChan.count (State.fin_qdChan s q)

theorem qdCount_setQdCount (s : Machine.State) (q : Nat) (count : Int) : (s.setQdCount q count).qdCount q = wrap48 count := by
  simp [State.setQdCount, State.qdCount]

theorem setQdCount_frame (s : Machine.State) (q : Nat) (count : Int) :
    PosOnly s (s.setQdCount q count) ∧ RegsBut [Reg.PFE_QD_COUNT q] s (s.setQdCount q count) :=
  ⟨rfl, RegsBut.w (ofI _ (wrap48 count)) ((RegsBut.refl _ s).of_regs (State.modQd_regs ..)) List.mem_cons_self⟩

/-! ### Edges of a quadrature channel (R112, R113) -/

/-- The steps of the quadrature cycle from the shown levels of a channel to levels A and B. -/
def quadDelta (q : Nat) (a b : Bool) (s : Machine.State) : Nat :=
  (quadPlace a b + 4 - quadPlace (bitAt (s.r (Reg.PFE_QD_STATUS_LEVELS q)) 0) (bitAt (s.r (Reg.PFE_QD_STATUS_LEVELS q)) 1)) % 4

/-- The levels shown, and Z copied by the emulators that follow it. -/
def quadShown (q : Nat) (a b z : Bool) (s : Machine.State) : Machine.State :=
  emuCopyZ (q + 2) (s.w (Reg.PFE_QD_STATUS_LEVELS q) (b2n a + 2 * b2n b + 4 * b2n z))

/-- The step of the count: the sense of the turn, which INVERT turns. -/
def quadStep (q d : Nat) (s : Machine.State) : Int := if (d = 1) = (s.r (Reg.PFE_QD_CFG_INVERT q) = 0) then 1 else -1

/-- The fields of a quadrature channel are other fields than the backlog's and each other. -/
theorem quadFields_apart : ∀ q < 6,
    (∀ f ∈ [Reg.PFE_QD_STATUS_LEVELS q, Reg.PFE_QD_COUNT q, Reg.PFE_QD_CFG_INVERT q], f.key ∉ emuFields.map Machine.Field.key) ∧
    (Reg.PFE_QD_STATUS_LEVELS q).key ≠ (Reg.PFE_QD_COUNT q).key ∧ (Reg.PFE_QD_CFG_INVERT q).key ≠ (Reg.PFE_QD_STATUS_LEVELS q).key ∧
    (Reg.PFE_QD_STATUS_ILLEGAL q).key ≠ (Reg.PFE_QD_STATUS_ILL_COUNT q).key := by decide

theorem quadShown_levels {q : Nat} (hq : q < 6) (a b z : Bool) (s : Machine.State) :
    (quadShown q a b z s).r (Reg.PFE_QD_STATUS_LEVELS q) = b2n a + 2 * b2n b + 4 * b2n z := by
  obtain ⟨apart, -⟩ := quadFields_apart q hq
  rw [quadShown, (emuKeeps_emuCopyZ ..).regs _ (apart _ (by simp)), State.r_w_same]
  cases a <;> cases b <;> cases z <;> rfl

theorem quadShown_frame (q : Nat) (a b z : Bool) (s : Machine.State) :
    PosOnly s (quadShown q a b z s) ∧ (quadShown q a b z s).qdChan q = s.qdChan q ∧
    RegsBut (emuFields ++ [Reg.PFE_QD_STATUS_LEVELS q]) s (quadShown q a b z s) := by
  have copied := emuKeeps_emuCopyZ (q + 2) (s.w (Reg.PFE_QD_STATUS_LEVELS q) (b2n a + 2 * b2n b + 4 * b2n z))
  have levels : RegsBut (emuFields ++ [Reg.PFE_QD_STATUS_LEVELS q]) s
      (s.w (Reg.PFE_QD_STATUS_LEVELS q) (b2n a + 2 * b2n b + 4 * b2n z)) := (RegsBut.refl _ s).w _ (by simp)
  exact ⟨((PosOnly.refl s).w ..).trans copied.only, copied.qdChan q, levels.trans (copied.regs.mono (by simp))⟩

/-- The sense of a step of the cycle, up when A leads B (log entry 16). -/
def quadTurn (d : Nat) : Int := if d = 1 then 1 else -1

/-- The state with an illegal transition of a channel noted (R113). -/
def quadIllegal (q : Nat) (s : Machine.State) : Machine.State :=
  s.modQd q fun x => { x with illegalAt := (x.count :: x.illegalAt).take 3, sinceIllegal := 0 }

theorem quadIllegal_frame (q : Nat) (s : Machine.State) :
    PosOnly s (quadIllegal q s) ∧ RegsBut [] s (quadIllegal q s) ∧ (quadIllegal q s).qdCount q = s.qdCount q :=
  ⟨rfl, fun _ _ => rfl, by simp [State.qdCount, quadIllegal]⟩

/-- An edge on an enabled channel: both levels changed, none or the channel lost, or a step of the cycle (R112, R113). -/
theorem quadEdge_enabled {s : Machine.State} {q : Nat} (a b z : Bool) (enabled : s.r (Reg.PFE_QD_CFG_ENABLE q) = 1) :
    quadEdge q a b z s =
      let u := quadShown q a b z s
      if quadDelta q a b s = 2 then
        (((emuQuad q (if (u.qdChan q).lost then 0 else 2) 0 (quadIllegal q u)).wb (Reg.PFE_QD_STATUS_ILLEGAL q) true).inc
          (Reg.PFE_QD_STATUS_ILL_COUNT q)).raisePos Evt.QUAD_ILLEGAL [.code q]
      else if quadDelta q a b s = 0 || (u.qdChan q).lost then u
      else
        let step := if u.rb (Reg.PFE_QD_CFG_INVERT q) then -quadTurn (quadDelta q a b s) else quadTurn (quadDelta q a b s)
        emuQuad q (quadTurn (quadDelta q a b s)) step (u.setQdCount q (u.qdCount q + step)) := by
  unfold quadEdge
  rw [if_neg (by simp [State.rb, enabled])]
  rfl

/-- INVERT turns the sense of a step. -/
theorem quadStep_eq {q d : Nat} (s : Machine.State) (moved : d = 1 ∨ d = 3) :
    (if s.rb (Reg.PFE_QD_CFG_INVERT q) then -quadTurn d else quadTurn d) = quadStep q d s := by
  by_cases turned : s.r (Reg.PFE_QD_CFG_INVERT q) = 0 <;> rcases moved with rfl | rfl <;> simp [quadStep, quadTurn, State.rb, turned]

/-- A step of the cycle on an enabled channel that is not lost counts by one (R112). -/
theorem quadEdge_counts {s : Machine.State} {q : Nat} {a b : Bool} (z : Bool) (hq : q < 6) (enabled : s.r (Reg.PFE_QD_CFG_ENABLE q) = 1)
    (known : (s.qdChan q).lost = false) (moved : quadDelta q a b s = 1 ∨ quadDelta q a b s = 3) :
    quadEdge q a b z s = emuQuad q (quadTurn (quadDelta q a b s)) (quadStep q (quadDelta q a b s) s)
      ((quadShown q a b z s).setQdCount q (s.qdCount q + quadStep q (quadDelta q a b s) s)) := by
  obtain ⟨-, channel, regs⟩ := quadShown_frame q a b z s
  obtain ⟨apart, -, other, -⟩ := quadFields_apart q hq
  have count : (quadShown q a b z s).qdCount q = s.qdCount q := congrArg QdChan.count channel
  have sense : (quadShown q a b z s).rb (Reg.PFE_QD_CFG_INVERT q) = s.rb (Reg.PFE_QD_CFG_INVERT q) := by
    have same := regs (Reg.PFE_QD_CFG_INVERT q) (by simpa using ⟨by simpa using apart _ (by simp), other⟩)
    simp only [State.rb, same]
  rw [quadEdge_enabled a b z enabled]
  dsimp only
  rw [channel, known, if_neg (by omega), if_neg (by simp; omega), count, sense, quadStep_eq s moved]

theorem ofI_mod (w : Nat) (i : Int) : ofI w i % 2 ^ w = ofI w i := by
  have positive : (0 : Int) < ((2 ^ w : Nat) : Int) := by exact_mod_cast Nat.two_pow_pos w
  have below := Int.emod_lt_of_pos i positive
  have nonneg := Int.emod_nonneg i positive.ne'
  refine Nat.mod_eq_of_lt ?_
  unfold ofI
  omega

theorem quadEdge_run {q : Nat} (a b z : Bool) (s : Machine.State) (hq : q < 6) :
    exec (.quadEdge q a b z) s = .next (quadEdge q a b z s).fin := by
  have e : exec (.quadEdge q a b z) s = (quadEdge (q % 6) a b z s).done := rfl
  rw [e, Nat.mod_eq_of_lt hq, State.done_eq]

theorem quadEdge_step_completes (s : Machine.State) (q : Nat) (a b z : Bool) (hq : q < 6) (enabled : s.r (Reg.PFE_QD_CFG_ENABLE q) = 1)
    (known : (s.qdChan q).lost = false) (moved : quadDelta q a b s = 1 ∨ quadDelta q a b s = 3) :
    ∃ t, exec (.quadEdge q a b z) s = .next t ∧ t.qdCount q = wrap48 (s.qdCount q + quadStep q (quadDelta q a b s) s) ∧
      t.r (Reg.PFE_QD_COUNT q) = ofI (Reg.PFE_QD_COUNT q).width (wrap48 (s.qdCount q + quadStep q (quadDelta q a b s) s)) ∧
      t.r (Reg.PFE_QD_STATUS_LEVELS q) = b2n a + 2 * b2n b + 4 * b2n z ∧
      RegsBut (emuFields ++ [Reg.PFE_QD_STATUS_LEVELS q, Reg.PFE_QD_COUNT q]) s t ∧ SameMemory s t := by
  have run := quadEdge_run a b z s hq
  obtain ⟨only, -, regs⟩ := quadShown_frame q a b z s
  obtain ⟨apart, other, -, -⟩ := quadFields_apart q hq
  rw [quadEdge_counts z hq enabled known moved] at run
  generalize quadStep q (quadDelta q a b s) s = step at run ⊢
  obtain ⟨counted, countRegs⟩ := setQdCount_frame (quadShown q a b z s) q (s.qdCount q + step)
  have fed := emuKeeps_emuQuad q (quadTurn (quadDelta q a b s)) step ((quadShown q a b z s).setQdCount q (s.qdCount q + step))
  have frame : RegsBut (emuFields ++ [Reg.PFE_QD_STATUS_LEVELS q, Reg.PFE_QD_COUNT q]) s (emuQuad q (quadTurn (quadDelta q a b s)) step
      ((quadShown q a b z s).setQdCount q (s.qdCount q + step))) :=
    ((regs.mono (by simp)).trans (countRegs.mono (by simp))).trans (fed.regs.mono (by simp))
  refine ⟨_, run, ?_⟩
  simp only [fin_qdCount, State.fin_r, regsBut_fin, sameMemory_fin]
  refine ⟨?_, ?_, ?_, frame, ((only.trans counted).trans fed.only).sameMemory⟩
  · rw [fed.qdCount, qdCount_setQdCount]
  · rw [fed.regs _ (apart (Reg.PFE_QD_COUNT q) (by simp)), State.setQdCount, State.wi_eq, State.r_w_same, ofI_mod]
  · rw [fed.regs _ (apart (Reg.PFE_QD_STATUS_LEVELS q) (by simp)), State.setQdCount, State.wi_eq, State.r_w_ne _ _ _ _ other,
      State.modQd_r, quadShown_levels hq]

theorem quadEdge_illegal_completes (s : Machine.State) (q : Nat) (a b z : Bool) (hq : q < 6)
    (enabled : s.r (Reg.PFE_QD_CFG_ENABLE q) = 1) (both : quadDelta q a b s = 2) :
    ∃ t, exec (.quadEdge q a b z) s = .next t ∧ t.qdCount q = s.qdCount q ∧ t.r (Reg.PFE_QD_STATUS_ILLEGAL q) = 1 ∧
      Pending Evt.QUAD_ILLEGAL t ∧
      RegsBut (emuFields ++ [Reg.PFE_QD_STATUS_LEVELS q, Reg.PFE_QD_STATUS_ILLEGAL q, Reg.PFE_QD_STATUS_ILL_COUNT q]) s t ∧
      SameMemory s t := by
  have run := quadEdge_run a b z s hq
  obtain ⟨only, channel, regs⟩ := quadShown_frame q a b z s
  obtain ⟨-, -, -, other⟩ := quadFields_apart q hq
  rw [quadEdge_enabled a b z enabled] at run
  dsimp only at run
  rw [if_pos both] at run
  obtain ⟨noted, notedRegs, count⟩ := quadIllegal_frame q (quadShown q a b z s)
  have fed := emuKeeps_emuQuad q (if ((quadShown q a b z s).qdChan q).lost then 0 else 2) 0 (quadIllegal q (quadShown q a b z s))
  generalize emuQuad q _ 0 (quadIllegal q (quadShown q a b z s)) = u at run fed
  have atFed : PosOnly s u := (only.trans noted).trans fed.only
  have fedRegs : RegsBut (emuFields ++ [Reg.PFE_QD_STATUS_LEVELS q, Reg.PFE_QD_STATUS_ILLEGAL q, Reg.PFE_QD_STATUS_ILL_COUNT q]) s u :=
    ((regs.mono (by simp)).trans (notedRegs.mono (by simp))).trans (fed.regs.mono (by simp))
  have same : u.qdCount q = s.qdCount q := by
    rw [fed.qdCount, count]
    exact congrArg QdChan.count channel
  refine ⟨_, run, ?_, ?_, pending_raisePos _ _ _, ?_, ?_⟩
  · rw [fin_qdCount, ← same]
    simp only [State.qdCount, State.qdChan, raisePos_pos]
    rfl
  · rw [State.fin_r, raisePos_r, State.inc_eq, State.r_w_ne _ _ _ _ other, State.wb_eq, State.r_w_same]
    rfl
  · simp only [regsBut_fin, regsBut_raisePos]
    exact (fedRegs.w _ (by simp)).w _ (by simp)
  · simp only [sameMemory_fin, sameMemory_raisePos]
    exact ((atFed.w ..).w ..).sameMemory

/-! ### Edges of an emulator (R132) -/

theorem emulatorEdge_completes (s : Machine.State) (i : Nat) (enabled : s.r (Reg.PFE_EMU_CFG_ENABLE i) = 1)
    (due : (nth s.pos.emu i {}).pending ≠ 0) :
    ∃ t, exec (.emulatorEdge i) s = .next t ∧
      (nth t.pos.emu i {}).pending = (nth s.pos.emu i {}).pending - sgn (nth s.pos.emu i {}).pending ∧
      (nth t.pos.emu i {}).edges = (nth s.pos.emu i {}).edges + sgn (nth s.pos.emu i {}).pending ∧
      (nth t.pos.emu i {}).lastEdge = some s.optime ∧ t.regs = s.regs ∧ SameMemory s t := by
  obtain ⟨phase, out, form⟩ : ∃ phase out, emulatorEdge i s = s.modEmu i fun e => { e with
      pending := e.pending - sgn (nth s.pos.emu i {}).pending, phase := phase,
      edges := (nth s.pos.emu i {}).edges + sgn (nth s.pos.emu i {}).pending, out := out, lastEdge := some s.optime } :=
    ⟨_, _, if_neg (by simp [State.rb, enabled, due])⟩
  refine ⟨(emulatorEdge i s).fin, rfl, ?_⟩
  rw [form]
  simp only [State.fin_pos, State.fin_regs, sameMemory_fin, State.modEmu, nth_modAt_same]
  exact ⟨trivial, trivial, trivial, trivial, rfl, rfl, rfl, rfl⟩

@[simp] theorem raisePos_ssiChan (s : Machine.State) (e : Evt) (args : List Arg) (c : Nat) :
    (s.raisePos e args).ssiChan c = s.ssiChan c := by
  simp only [State.ssiChan, raisePos_pos]

/-! ### Accepted and rejected frames (R117, R118) -/

/-- The fields that a frame of an SSI channel writes. -/
def ssiFields (c : Nat) : List Field :=
  [Reg.PFE_SSI_RAW c, Reg.PFE_SSI_POS c, Reg.PFE_SSI_STATUS_CONSEC_BAD c, Reg.PFE_SSI_STATUS_LAST_ERR c, Reg.PFE_SSI_STATUS_BAD_COUNT c]

/-- The shown error of a channel is another field than its counts. -/
theorem ssiLastErr_apart : ∀ c < 2, (Reg.PFE_SSI_STATUS_LAST_ERR c).key ≠ (Reg.PFE_SSI_STATUS_CONSEC_BAD c).key ∧
    (Reg.PFE_SSI_STATUS_LAST_ERR c).key ≠ (Reg.PFE_SSI_STATUS_BAD_COUNT c).key := by decide

/-- What a rejected frame shows and leaves alone. -/
structure SsiRejected (c reason : Nat) (s t : Machine.State) : Prop where
  only : PosOnly s t
  regs : RegsBut (ssiFields c) s t
  shown : t.r (Reg.PFE_SSI_STATUS_LAST_ERR c) = reason % 2 ^ (Reg.PFE_SSI_STATUS_LAST_ERR c).width
  accepted : (t.ssiChan c).accepted = (s.ssiChan c).accepted
  latch : (t.ssiChan c).latch = (s.ssiChan c).latch
  told : Pending Evt.SSI_ERR t.fin

theorem ssiReject_lastErr {c : Nat} (hc : c < 2) (reason : Nat) (s : Machine.State) :
    (ssiReject c reason s).r (Reg.PFE_SSI_STATUS_LAST_ERR c) = reason % 2 ^ (Reg.PFE_SSI_STATUS_LAST_ERR c).width := by
  obtain ⟨run, count⟩ := ssiLastErr_apart c hc
  simp only [ssiReject, raisePos_r, State.modSsi_r, State.inc_eq, State.r_w_ne _ _ _ _ count, State.r_w_ne _ _ _ _ run, State.r_w_same]

theorem ssiReject_ssiChan (c reason : Nat) (s : Machine.State) :
    (ssiReject c reason s).ssiChan c = { s.ssiChan c with goodRun := 0 } := by
  simp only [ssiReject, raisePos_ssiChan, State.ssiChan_modSsi_same, State.inc_eq, State.w_ssiChan]

theorem ssiReject_regs (c reason : Nat) (s : Machine.State) : RegsBut (ssiFields c) s (ssiReject c reason s) := by
  simp only [ssiReject, regsBut_raisePos, State.inc_eq]
  refine RegsBut.of_regs ?_ (State.modSsi_regs ..)
  exact (((RegsBut.refl _ s).w _ (by simp [ssiFields])).w _ (by simp [ssiFields])).w _ (by simp [ssiFields])

theorem ssiReject_only (c reason : Nat) (s : Machine.State) : PosOnly s (ssiReject c reason s) :=
  (((((PosOnly.refl s).w ..).w ..).w ..).pos _).raisePos ..

theorem ssiRejected {c : Nat} (hc : c < 2) (reason : Nat) (s : Machine.State) : SsiRejected c reason s (ssiReject c reason s) where
  only := ssiReject_only c reason s
  regs := ssiReject_regs c reason s
  shown := ssiReject_lastErr hc reason s
  accepted := by rw [ssiReject_ssiChan]
  latch := by rw [ssiReject_ssiChan]
  told := pending_raisePos _ _ _

/-- What an accepted frame of a channel whose prediction starts anew shows and leaves alone. -/
structure SsiAccepted (c : Nat) (p : Int) (t0 : Time) (s t : Machine.State) : Prop where
  only : PosOnly s t
  regs : RegsBut (ssiFields c) s t
  run : t.r (Reg.PFE_SSI_STATUS_CONSEC_BAD c) = 0
  latch : (t.ssiChan c).latch = (s.ssiChan c).latch
  accepted : (s.ssiChan c).fresh = true → (t.ssiChan c).accepted = [(p, t0)]

theorem ssiAccepted (c : Nat) (p : Int) (t0 : Time) (s : Machine.State) : SsiAccepted c p t0 s (ssiAccept c p t0 s) := by
  unfold ssiAccept
  extract_lets shown
  have atShown : PosOnly s shown := ((PosOnly.refl s).w ..).w ..
  have shownRegs : RegsBut (ssiFields c) s shown := ((RegsBut.refl _ s).w _ (by simp [ssiFields])).w _ (by simp [ssiFields])
  exact {
    only := atShown.pos _
    regs := shownRegs.of_regs (State.modSsi_regs ..)
    run := by
      rw [State.modSsi_r]
      exact (State.r_w_same ..).trans (Nat.zero_mod _)
    latch := by
      rw [State.ssiChan_modSsi_same]
      rfl
    accepted := fun fresh => by
      have same : (shown.ssiChan c).fresh = true := fresh
      rw [State.ssiChan_modSsi_same, same]
      rfl }

/-- The state with the raw value of a frame shown. -/
def ssiShown (c : Nat) (bits : List Bool) (s : Machine.State) : Machine.State := s.w (Reg.PFE_SSI_RAW c) (ssiValue (s.ssiFormat c) bits)

theorem ssiShown_regs (c : Nat) (bits : List Bool) (s : Machine.State) : RegsBut (ssiFields c) s (ssiShown c bits s) :=
  (RegsBut.refl _ s).w _ (by simp [ssiFields])

theorem ssiShown_only (c : Nat) (bits : List Bool) (s : Machine.State) : PosOnly s (ssiShown c bits s) := (PosOnly.refl s).w ..

/-- A frame with an error is rejected with its reason. -/
theorem ssiFrame_bad {c : Nat} {bits : List Bool} {idleLow : Bool} (t0 : Time) {s : Machine.State}
    (bad : ssiFrameError (s.ssiFormat c) bits idleLow ≠ 0) :
    ssiFrame c bits idleLow t0 s = ssiReject c (ssiFrameError (s.ssiFormat c) bits idleLow) (ssiShown c bits s) := by
  unfold ssiFrame
  extract_lets f p u
  split
  case h_1 good => exact absurd good bad
  case h_2 => rfl

/-- A good frame of SSI1 beyond its acceptance: the shaft position is shown, lane A hears of it and the slip is judged (R123, R127, R130). -/
def shaftShown (p : Int) (t0 : Time) (s : Machine.State) : Machine.State :=
  let s := (s.wi Reg.PFE_SHAFT_POS p).feedShaft p t0
  let s := if s.pos.ssiSeen then s else firstShaft p t0 s
  slipJudge p t0 s

/-- A frame without an error is rejected for a jump or accepted. -/
theorem ssiFrame_good {c : Nat} {bits : List Bool} {idleLow : Bool} (t0 : Time) {s : Machine.State}
    (good : ssiFrameError (s.ssiFormat c) bits idleLow = 0) :
    ssiFrame c bits idleLow t0 s =
      let u := ssiShown c bits s
      let p := ssiPosition (s.ssiFormat c) bits
      if !(s.ssiChan c).fresh && ssiJump (s.ssiChan c).accepted p t0 (u.r (Reg.PFE_SSI_CHECK_JUMP c) * 100) then ssiReject c 4 u
      else if c = 0 then shaftShown p t0 (ssiAccept c p t0 u) else ssiAccept c p t0 u := by
  unfold ssiFrame
  extract_lets f p u
  split
  case h_1 => rfl
  case h_2 bad => exact absurd good bad

/-- A frame without an error on a channel whose prediction starts anew is accepted. -/
theorem ssiFrame_fresh {c : Nat} {bits : List Bool} {idleLow : Bool} (t0 : Time) {s : Machine.State}
    (good : ssiFrameError (s.ssiFormat c) bits idleLow = 0) (fresh : (s.ssiChan c).fresh = true) :
    ssiFrame c bits idleLow t0 s =
      if c = 0 then shaftShown (ssiPosition (s.ssiFormat c) bits) t0 (ssiAccept c (ssiPosition (s.ssiFormat c) bits) t0 (ssiShown c bits s))
      else ssiAccept c (ssiPosition (s.ssiFormat c) bits) t0 (ssiShown c bits s) := by
  rw [ssiFrame_good t0 good, fresh]
  rfl

/-! ### The slip judgement (R123, R127) -/

/-- The second state differs from the first in the front ends alone, in no SSI channel and in the slip's registers alone. -/
structure SlipKeeps (s t : Machine.State) : Prop where
  only : PosOnly s t
  ssi : t.pos.ssi = s.pos.ssi
  regs : RegsBut [Reg.PFE_SLIP, Reg.PFE_STATUS_CAUSE] s t

section
variable {s t : Machine.State}

theorem SlipKeeps.refl (s : Machine.State) : SlipKeeps s s := ⟨.refl s, rfl, .refl _ s⟩

theorem SlipKeeps.trans {u : Machine.State} (h : SlipKeeps s t) (h' : SlipKeeps t u) : SlipKeeps s u :=
  ⟨h.only.trans h'.only, h'.ssi.trans h.ssi, h.regs.trans h'.regs⟩

theorem SlipKeeps.pos (h : SlipKeeps s t) {p : PosState} (same : p.ssi = t.pos.ssi := by rfl) : SlipKeeps s { t with pos := p } :=
  ⟨h.only.pos p, same.trans h.ssi, h.regs⟩

theorem SlipKeeps.w (h : SlipKeeps s t) {f : Field} (m : f ∈ [Reg.PFE_SLIP, Reg.PFE_STATUS_CAUSE]) (v : Nat) : SlipKeeps s (t.w f v) :=
  ⟨h.only.w f v, h.ssi, h.regs.w v m⟩

theorem SlipKeeps.cause (h : SlipKeeps s t) (i : Nat) (b : Bool) : SlipKeeps s (t.cause i b) := h.w (by simp) _

theorem SlipKeeps.raisePos (h : SlipKeeps s t) (e : Evt) (args : List Arg) : SlipKeeps s (t.raisePos e args) :=
  ⟨h.only.raisePos e args, (congrArg PosState.ssi (raisePos_pos ..)).trans h.ssi, (regsBut_raisePos ..).mpr h.regs⟩

theorem SlipKeeps.ite {u : Machine.State} {c : Prop} {_ : Decidable c} (ht : SlipKeeps s t) (hu : SlipKeeps s u) :
    SlipKeeps s (if c then t else u) := by
  split <;> assumption

end

theorem slipKeeps_firstShaft (p : Int) (t0 : Time) (s : Machine.State) : SlipKeeps s (firstShaft p t0 s) :=
  have seen : SlipKeeps s { s with pos := { s.pos with ssiSeen := true } } := (SlipKeeps.refl s).pos
  .ite seen seen.pos

theorem slipKeeps_slipJudge (p : Int) (t0 : Time) (s : Machine.State) : SlipKeeps s (slipJudge p t0 s) := by
  unfold slipJudge
  split
  · exact .refl s
  next h =>
    extract_lets d shown _ above was good since judged
    have atShown : SlipKeeps s shown := (SlipKeeps.refl s).w (by simp) _
    have atJudged : SlipKeeps s judged := atShown.pos
    exact .ite atShown.pos (.ite ((atJudged.cause ..).raisePos ..) (.ite (atJudged.cause ..) atJudged))

theorem shaftShown_keeps (p : Int) (t0 : Time) (s : Machine.State) :
    SlipKeeps ((s.wi Reg.PFE_SHAFT_POS p).feedShaft p t0) (shaftShown p t0 s) := by
  unfold shaftShown
  extract_lets shown seen
  have atSeen : SlipKeeps shown seen := .ite (.refl _) (slipKeeps_firstShaft ..)
  exact atSeen.trans (slipKeeps_slipJudge ..)

/-- What a good frame of SSI1 shows and leaves alone beyond its acceptance. -/
theorem shaftShown_frame (p : Int) (t0 : Time) (s : Machine.State) :
    (shaftShown p t0 s).ssiChan 0 = s.ssiChan 0 ∧ (shaftShown p t0 s).r Reg.PFE_SHAFT_POS = ofI Reg.PFE_SHAFT_POS.width p ∧
    (shaftShown p t0 s).r (Reg.PFE_SSI_STATUS_CONSEC_BAD 0) = s.r (Reg.PFE_SSI_STATUS_CONSEC_BAD 0) ∧ SameMemory s (shaftShown p t0 s) := by
  obtain ⟨only, ssi, regs⟩ := shaftShown_keeps p t0 s
  have fed : SameMemory s ((s.wi Reg.PFE_SHAFT_POS p).feedShaft p t0) := ⟨rfl, rfl, rfl, rfl⟩
  refine ⟨?_, ?_, ?_, fed.trans only.sameMemory⟩
  · simp only [State.ssiChan, ssi]
    rfl
  · rw [regs _ (by decide)]
    exact (State.r_w_same ..).trans (ofI_mod ..)
  · rw [regs _ (by decide)]
    exact State.r_w_ne _ _ _ _ (by decide)

/-! ### Frames of SSI1 (R116 to R118) -/

/-- The first period of an enabled SSI1 whose frame fits begins a frame on the module that drives (R116). -/
theorem ssiFrameStart_completes (s : Machine.State) (drives : s.active = true) (enabled : s.r (Reg.PFE_SSI_CFG_ENABLE 0) = 1)
    (first : (s.ssiChan 0).lastStart = none) (fits : ssiFits s 0 = true) :
    ∃ t, exec .ssiFrameStart s = .next t ∧ (t.ssiChan 0).latch = some s.optime ∧ (t.ssiChan 0).lastStart = some s.optime ∧
      t.regs = s.regs ∧ SameMemory s t := by
  have begun : ssiBegin s = s.modSsi 0 fun x => { x with lastStart := some s.optime, latch := some s.optime } := by
    unfold ssiBegin ssiStart
    simp only [drives, first, fits, State.rb, enabled]
    rfl
  refine ⟨(ssiBegin s).fin, rfl, ?_⟩
  rw [begun]
  simp only [State.fin_ssiChan, State.fin_regs, sameMemory_fin, State.ssiChan_modSsi_same]
  exact ⟨trivial, trivial, rfl, rfl, rfl, rfl, rfl⟩

/-- The state with the frame of SSI1 that was being clocked taken. -/
def ssiTaken (s : Machine.State) : Machine.State := s.modSsi 0 fun x => { x with latch := none }

theorem ssiTaken_channel (s : Machine.State) : ((ssiTaken s).ssiChan 0).latch = none ∧
    ((ssiTaken s).ssiChan 0).accepted = (s.ssiChan 0).accepted ∧ ((ssiTaken s).ssiChan 0).fresh = (s.ssiChan 0).fresh := by
  rw [ssiTaken, State.ssiChan_modSsi_same]
  exact ⟨rfl, rfl, rfl⟩

theorem ssiTaken_only (s : Machine.State) : PosOnly s (ssiTaken s) := (PosOnly.refl s).pos _

/-- A frame that was being clocked is judged with its latch time. -/
theorem ssiFrameEnd_run {s : Machine.State} (bits : List Bool) (idleLow : Bool) {t0 : Time} (latched : (s.ssiChan 0).latch = some t0) :
    exec (.ssiFrameEnd bits idleLow) s = .next (ssiFrame 0 bits idleLow t0 (ssiTaken s)).fin := by
  have e : exec (.ssiFrameEnd bits idleLow) s = .next (ssiEnd bits idleLow s).fin := rfl
  rw [e, ssiEnd, latched]
  rfl

theorem ssiFrameEnd_accepts {s : Machine.State} {bits : List Bool} {idleLow : Bool} {t0 : Time} (latched : (s.ssiChan 0).latch = some t0)
    (good : ssiFrameError (s.ssiFormat 0) bits idleLow = 0) (fresh : (s.ssiChan 0).fresh = true) :
    ∃ t, exec (.ssiFrameEnd bits idleLow) s = .next t ∧ (t.ssiChan 0).latch = none ∧ t.r (Reg.PFE_SSI_STATUS_CONSEC_BAD 0) = 0 ∧
      (t.ssiChan 0).accepted = [(ssiPosition (s.ssiFormat 0) bits, t0)] ∧
      t.r Reg.PFE_SHAFT_POS = ofI Reg.PFE_SHAFT_POS.width (ssiPosition (s.ssiFormat 0) bits) ∧ SameMemory s t := by
  have run := ssiFrameEnd_run bits idleLow latched
  obtain ⟨idle, -, unchanged⟩ := ssiTaken_channel s
  have still := unchanged.trans fresh
  have format : (ssiTaken s).ssiFormat 0 = s.ssiFormat 0 := rfl
  rw [ssiFrame_fresh t0 (format ▸ good) still, if_pos rfl, format] at run
  have taken := ssiAccepted 0 (ssiPosition (s.ssiFormat 0) bits) t0 (ssiShown 0 bits (ssiTaken s))
  generalize ssiAccept 0 _ t0 (ssiShown 0 bits (ssiTaken s)) = u at run taken
  obtain ⟨channel, shown, bad, memory⟩ := shaftShown_frame (ssiPosition (s.ssiFormat 0) bits) t0 u
  refine ⟨_, run, ?_⟩
  simp only [State.fin_ssiChan, State.fin_r, sameMemory_fin]
  refine ⟨?_, bad.trans taken.run, ?_, shown, ?_⟩
  · rw [channel, taken.latch]
    exact idle
  · rw [channel]
    exact taken.accepted still
  · exact (((ssiTaken_only s).trans (ssiShown_only ..)).trans taken.only).sameMemory.trans memory

/-- A frame's error fits the field that shows it. -/
theorem ssiFrameError_lt (f : SsiFormat) (bits : List Bool) (idleLow : Bool) : ssiFrameError f bits idleLow < 8 := by
  unfold ssiFrameError
  extract_lets ones
  split_ifs <;> decide

theorem ssiFrameEnd_rejects {s : Machine.State} {bits : List Bool} {idleLow : Bool} {t0 : Time} (latched : (s.ssiChan 0).latch = some t0)
    (bad : ssiFrameError (s.ssiFormat 0) bits idleLow ≠ 0) :
    ∃ t, exec (.ssiFrameEnd bits idleLow) s = .next t ∧ (t.ssiChan 0).latch = none ∧
      t.r (Reg.PFE_SSI_STATUS_LAST_ERR 0) = ssiFrameError (s.ssiFormat 0) bits idleLow ∧
      (t.ssiChan 0).accepted = (s.ssiChan 0).accepted ∧ Pending Evt.SSI_ERR t ∧ SameMemory s t := by
  have run := ssiFrameEnd_run bits idleLow latched
  obtain ⟨idle, last, -⟩ := ssiTaken_channel s
  have format : (ssiTaken s).ssiFormat 0 = s.ssiFormat 0 := rfl
  rw [ssiFrame_bad t0 (format ▸ bad), format] at run
  have rejected := ssiRejected (by decide : 0 < 2) (ssiFrameError (s.ssiFormat 0) bits idleLow) (ssiShown 0 bits (ssiTaken s))
  refine ⟨_, run, ?_, ?_, ?_, rejected.told, ?_⟩
  · rw [State.fin_ssiChan, rejected.latch]
    exact idle
  · rw [State.fin_r, rejected.shown]
    exact Nat.mod_eq_of_lt (ssiFrameError_lt ..)
  · rw [State.fin_ssiChan, rejected.accepted]
    exact last
  · rw [sameMemory_fin]
    exact (((ssiTaken_only s).trans (ssiShown_only ..)).trans rejected.only).sameMemory

/-! ### Loss and return of an SSI channel, and slip (R118, R127) -/

theorem ssiLost_completes (s : Machine.State) (c : Nat) (known : s.r (Reg.PFE_SSI_STATUS_LOST c) = 0)
    (running : 0 < s.r (Reg.PFE_SSI_STATUS_CONSEC_BAD c))
    (enough : s.r (Reg.PFE_SSI_CHECK_FAIL_N c) ≤ s.r (Reg.PFE_SSI_STATUS_CONSEC_BAD c)) :
    ∃ t, exec (.ssiLost c) s = .next t ∧ t.r (Reg.PFE_SSI_STATUS_LOST c) = 1 ∧ Pending Evt.SSI_LOST t ∧
      RegsBut [Reg.PFE_SSI_STATUS_LOST c] s t ∧ SameMemory s t := by
  have latched : ssiLost c s = ((s.wb (Reg.PFE_SSI_STATUS_LOST c) true).modSsi c fun x => { x with fresh := true, goodRun := 0 }).raisePos
      Evt.SSI_LOST [.code c] := if_pos (by simp [State.rb, known, running, enough])
  have frame : RegsBut [Reg.PFE_SSI_STATUS_LOST c] s (s.wb (Reg.PFE_SSI_STATUS_LOST c) true) := (RegsBut.refl _ s).w _ (by simp)
  refine ⟨(ssiLost c s).fin, rfl, ?_⟩
  rw [latched]
  simp only [State.fin_r, regsBut_fin, sameMemory_fin, raisePos_r, regsBut_raisePos, sameMemory_raisePos, State.modSsi_r, State.wb_eq,
    State.r_w_same]
  exact ⟨rfl, pending_raisePos _ _ _, frame.of_regs (State.modSsi_regs ..), rfl, rfl, rfl, rfl⟩

theorem ssiRestored_completes (s : Machine.State) (c : Nat) (lost : s.r (Reg.PFE_SSI_STATUS_LOST c) = 1)
    (enough : 64 ≤ (s.ssiChan c).goodRun) :
    ∃ t, exec (.ssiRestored c) s = .next t ∧ t.r (Reg.PFE_SSI_STATUS_LOST c) = 0 ∧ Pending Evt.SSI_RESTORED t ∧
      RegsBut [Reg.PFE_SSI_STATUS_LOST c] s t ∧ SameMemory s t := by
  have cleared : ssiRestored c s = (s.wb (Reg.PFE_SSI_STATUS_LOST c) false).raisePos Evt.SSI_RESTORED [.code c] :=
    if_pos (by simp [State.rb, lost, enough])
  refine ⟨(ssiRestored c s).fin, rfl, ?_⟩
  rw [cleared]
  simp only [State.fin_r, regsBut_fin, sameMemory_fin, raisePos_r, regsBut_raisePos, sameMemory_raisePos, State.wb_eq, State.r_w_same]
  exact ⟨rfl, pending_raisePos _ _ _, (RegsBut.refl _ s).w _ (by simp), rfl, rfl, rfl, rfl⟩

theorem slip_completes (s : Machine.State) (t0 : Time) (above : s.pos.slipSince = some t0)
    (long : s.r Reg.PFE_SLIP_CFG_SLIP_TIME * 1000 ≤ s.since t0) (known : s.r Reg.PFE_STATUS_SLIP = 0) (serves : s.pos.sample.source = 0) :
    ∃ t, exec .slip s = .next t ∧ t.r Reg.PFE_STATUS_SLIP = 1 ∧ Pending Evt.SLIP t ∧ RegsBut [Reg.PFE_STATUS_SLIP] s t ∧
      SameMemory s t := by
  have latched : slipLatch s =
      (s.wb Reg.PFE_STATUS_SLIP true).raisePos Evt.SLIP.asFault [.signed (divOpen (s.ri Reg.PFE_SLIP) 1000)] := by
    unfold slipLatch
    rw [above]
    exact if_pos (by simp [State.rb, serves, long, known])
  refine ⟨(slipLatch s).fin, rfl, ?_⟩
  rw [latched]
  simp only [State.fin_r, regsBut_fin, sameMemory_fin, raisePos_r, regsBut_raisePos, sameMemory_raisePos, State.wb_eq, State.r_w_same]
  exact ⟨rfl, pending_raisePos _ _ _, (RegsBut.refl _ s).w _ (by simp), rfl, rfl, rfl, rfl⟩

/-! ### Frames of SSI2 (R119) -/

/-- A frame of SSI2, accepted or rejected, writes its own channel's fields alone, in the front ends alone. -/
theorem ssiFrame_two_frame (bits : List Bool) (idleLow : Bool) (t0 : Time) (s : Machine.State) :
    PosOnly s (ssiFrame 1 bits idleLow t0 s) ∧ RegsBut (ssiFields 1) s (ssiFrame 1 bits idleLow t0 s) := by
  have only := ssiShown_only 1 bits s
  have regs := ssiShown_regs 1 bits s
  have rejects (reason : Nat) := ssiRejected (by decide : 1 < 2) reason (ssiShown 1 bits s)
  by_cases good : ssiFrameError (s.ssiFormat 1) bits idleLow = 0
  · rw [ssiFrame_good t0 good]
    dsimp only
    split
    · exact ⟨only.trans (rejects 4).only, regs.trans (rejects 4).regs⟩
    · have accepts := ssiAccepted 1 (ssiPosition (s.ssiFormat 1) bits) t0 (ssiShown 1 bits s)
      exact ⟨only.trans accepts.only, regs.trans accepts.regs⟩
  · rw [ssiFrame_bad t0 good]
    exact ⟨only.trans (rejects _).only, regs.trans (rejects _).regs⟩

/-- Lane B's decoder takes a good frame from which its prediction starts anew. -/
theorem laneFrame_accepts {s : Machine.State} {bits : List Bool} {idleLow : Bool} (age : Nat)
    (good : ssiFrameError (s.laneTable 1).ssiFormat bits idleLow = 0) (fresh : (s.lane 1).ssiFresh = true) :
    ((laneFrame bits idleLow age s).lane 1).ssiBad = 0 ∧
    ((laneFrame bits idleLow age s).lane 1).ssi = [(ssiPosition (s.laneTable 1).ssiFormat bits, s.optime - BitVec.ofNat 48 age)] := by
  unfold laneFrame
  simp only [good, fresh, State.lane_modLane_same]
  exact ⟨rfl, rfl⟩

theorem laneFrame_frame (bits : List Bool) (idleLow : Bool) (age : Nat) (s : Machine.State) :
    (laneFrame bits idleLow age s).regs = s.regs ∧ (laneFrame bits idleLow age s).ssiChan 1 = s.ssiChan 1 ∧
    SameMemory s (laneFrame bits idleLow age s) :=
  ⟨rfl, rfl, rfl, rfl, rfl, rfl⟩

theorem laneBSsiFrame_completes (s : Machine.State) (bits : List Bool) (idleLow : Bool) (age : Nat)
    (good : ssiFrameError (s.laneTable 1).ssiFormat bits idleLow = 0) (fresh : (s.lane 1).ssiFresh = true) :
    ∃ t, exec (.laneBSsiFrame bits idleLow age) s = .next t ∧ (t.lane 1).ssiBad = 0 ∧
      (t.lane 1).ssi = [(ssiPosition (s.laneTable 1).ssiFormat bits, s.optime - BitVec.ofNat 48 age)] ∧
      (ssiFrameError (s.ssiFormat 1) bits idleLow = 0 → (s.ssiChan 1).fresh = true → t.r (Reg.PFE_SSI_STATUS_CONSEC_BAD 1) = 0 ∧
        (t.ssiChan 1).accepted = [(ssiPosition (s.ssiFormat 1) bits, s.optime - BitVec.ofNat 48 age)]) ∧
      RegsBut (ssiFields 1) s t ∧ SameMemory s t := by
  obtain ⟨bad, ssi⟩ := laneFrame_accepts age good fresh
  obtain ⟨laneRegs, channel, memory⟩ := laneFrame_frame bits idleLow age s
  obtain ⟨only, regs⟩ := ssiFrame_two_frame bits idleLow (s.optime - BitVec.ofNat 48 age) (laneFrame bits idleLow age s)
  have format : (laneFrame bits idleLow age s).ssiFormat 1 = s.ssiFormat 1 := rfl
  have run : exec (.laneBSsiFrame bits idleLow age) s =
      .next (ssiFrame 1 bits idleLow (s.optime - BitVec.ofNat 48 age) (laneFrame bits idleLow age s)).fin := rfl
  generalize laneFrame bits idleLow age s = u at *
  have lane (l : Nat) : (ssiFrame 1 bits idleLow (s.optime - BitVec.ofNat 48 age) u).lane l = u.lane l := by
    simp only [State.lane, only.saf]
  refine ⟨_, run, ?_⟩
  simp only [State.fin_lane, State.fin_ssiChan, State.fin_r, regsBut_fin, sameMemory_fin, lane]
  refine ⟨bad, ssi, fun good' fresh' => ?_, ((RegsBut.refl _ s).of_regs laneRegs).trans regs, memory.trans only.sameMemory⟩
  have still : (u.ssiChan 1).fresh = true := channel ▸ fresh'
  rw [ssiFrame_fresh _ (format ▸ good') still, if_neg (by decide), format]
  have taken := ssiAccepted 1 (ssiPosition (s.ssiFormat 1) bits) (s.optime - BitVec.ofNat 48 age) (ssiShown 1 bits u)
  exact ⟨taken.run, taken.accepted still⟩

/-! ### Frames that a listener misses (R356) -/

theorem ssiNoFrame_one_completes (s : Machine.State) (listens : s.active = false) (enabled : s.r (Reg.PFE_SSI_CFG_ENABLE 0) = 1)
    (ready : s.controlReady = true) (silent : 2 * s.r (Reg.PFE_SSI_CFG_PERIOD_US 0) ≤ s.sinceOrReady (s.ssiChan 0).lastStart) :
    ∃ t, exec (.ssiNoFrame false) s = .next t ∧ t.r (Reg.PFE_SSI_STATUS_LAST_ERR 0) = 5 ∧ Pending Evt.SSI_ERR t ∧ SameMemory s t := by
  have rejects : ssiNoFrame false s = ssiReject 0 5 (s.modSsi 0 fun x => { x with lastStart := some s.optime, latch := none }) := by
    unfold ssiNoFrame
    rw [if_neg (by simp [listens]), if_neg (by decide)]
    exact if_pos (by simp [State.rb, enabled, ready, silent])
  have rejected := ssiRejected (by decide : 0 < 2) 5 (s.modSsi 0 fun x => { x with lastStart := some s.optime, latch := none })
  have taken : PosOnly s (s.modSsi 0 fun x => { x with lastStart := some s.optime, latch := none }) := (PosOnly.refl s).pos _
  refine ⟨(ssiNoFrame false s).fin, rfl, ?_⟩
  rw [rejects]
  refine ⟨?_, rejected.told, (sameMemory_fin ..).mpr (taken.trans rejected.only).sameMemory⟩
  rw [State.fin_r, rejected.shown]
  rfl

/-- The state in which lane B's decoder has rejected a frame that it did not see. -/
def laneMissed (s : Machine.State) : Machine.State :=
  s.modLane 1 fun x => { x.ssiReject (s.laneTable 1).ssiFailN with ssiAt := some s.optime }

theorem laneMissed_frame (s : Machine.State) :
    ((laneMissed s).lane 1).ssiBad = (s.lane 1).ssiBad + 1 ∧ (laneMissed s).regs = s.regs ∧ SameMemory s (laneMissed s) := by
  refine ⟨?_, rfl, rfl, rfl, rfl, rfl⟩
  rw [laneMissed, State.lane_modLane_same]
  rfl

/-- Lane B's decoder misses a frame of SSI2, and the front end where it has the channel enabled. -/
theorem ssiNoFrame_two {s : Machine.State} (listens : s.active = false)
    (silent : 2 * (s.laneTable 1).ssiPeriod ≤ s.sinceOrReady (s.lane 1).ssiAt) :
    ssiNoFrame true s =
      if s.rb (Reg.PFE_SSI_CFG_ENABLE 1) && s.controlReady then ssiReject 1 5 (laneMissed s) else laneMissed s := by
  unfold ssiNoFrame
  rw [if_neg (by simp [listens]), if_pos rfl]
  exact if_neg (by omega)

theorem ssiNoFrame_two_completes (s : Machine.State) (listens : s.active = false)
    (silent : 2 * (s.laneTable 1).ssiPeriod ≤ s.sinceOrReady (s.lane 1).ssiAt) :
    ∃ t, exec (.ssiNoFrame true) s = .next t ∧ (t.lane 1).ssiBad = (s.lane 1).ssiBad + 1 ∧ SameMemory s t ∧
      (s.r (Reg.PFE_SSI_CFG_ENABLE 1) = 0 → t.regs = s.regs) ∧
      (s.r (Reg.PFE_SSI_CFG_ENABLE 1) = 1 → s.controlReady = true →
        t.r (Reg.PFE_SSI_STATUS_LAST_ERR 1) = 5 ∧ Pending Evt.SSI_ERR t) := by
  obtain ⟨missed, regs, memory⟩ := laneMissed_frame s
  have rejected := ssiRejected (by decide : 1 < 2) 5 (laneMissed s)
  refine ⟨(ssiNoFrame true s).fin, rfl, ?_⟩
  rw [ssiNoFrame_two listens silent]
  simp only [State.fin_lane, State.fin_regs, State.fin_r, sameMemory_fin]
  by_cases enabled : s.rb (Reg.PFE_SSI_CFG_ENABLE 1) && s.controlReady
  · rw [if_pos enabled]
    have lane : (ssiReject 1 5 (laneMissed s)).lane 1 = (laneMissed s).lane 1 := by simp only [State.lane, rejected.only.saf]
    refine ⟨by rw [lane, missed], memory.trans rejected.only.sameMemory, fun off => ?_, fun _ _ => ⟨?_, rejected.told⟩⟩
    · simp [State.rb, off] at enabled
    · rw [rejected.shown]
      rfl
  · rw [if_neg enabled]
    exact ⟨missed, memory, fun _ => regs, fun on ready => absurd (by simp [State.rb, on, ready]) enabled⟩

/-- Settles O10: the quadrature channels by the cycle's step and the frame of the emulators they feed, the SSI channels by what
an accepted and a rejected frame show and leave alone. -/
theorem quadratureEmulatorsAndSsiComplete : Obligations.QuadratureEmulatorsAndSsiComplete := by
  unfold Obligations.QuadratureEmulatorsAndSsiComplete
  refine ⟨⟨?_, emulatorEdge_completes⟩, ssiFrameStart_completes, ?_, ssiLost_completes, ssiRestored_completes, slip_completes,
    laneBSsiFrame_completes, fun s listens => ⟨ssiNoFrame_one_completes s listens, ssiNoFrame_two_completes s listens⟩⟩
  · intro s q a b z hq enabled emus d
    exact ⟨quadEdge_step_completes s q a b z hq enabled, quadEdge_illegal_completes s q a b z hq enabled⟩
  · intro s bits idleLow t0 latched
    exact ⟨ssiFrameEnd_accepts latched, ssiFrameEnd_rejects latched⟩

end Sys2Proof

/-! PROOFS. The host's writes to the RET_ block (R151): which of its registers take a write, and what that leaves alone. -/

namespace Sys2Proof

open Sys2Proof.Machine

/-- The only registers of the RET_ block with a field that a write by access code changes are RET_MARK_SEL and RET_CAP_SEL. -/
theorem reticleRows_writable : ∀ row ∈ reticleRows, ∀ i < row.count, ∀ f ∈ row.fields i,
    f.addr = 0x500B0 ∨ f.addr = 0x500C4 ∨ f.acc = .ro ∨ f.acc = .wo := by decide

theorem mem_fieldsIn {rows : List RegRow} {a : Nat} {f : Field} (h : f ∈ fieldsIn rows a) :
    ∃ row ∈ rows, ∃ i < row.count, f ∈ row.fields i := by
  induction rows with
  | nil => cases h
  | cons row rest ih =>
    simp only [fieldsIn, RegRow.at?] at h
    split at h
    · rename_i fs found
      split at found
      · cases found
      · split at found
        · rename_i inGroup
          cases found
          simp only [Bool.and_eq_true, decide_eq_true_eq] at inGroup
          exact ⟨row, List.mem_cons_self, _, inGroup.1, h⟩
        · cases found
    · obtain ⟨row, m, i, hi, hf⟩ := ih h
      exact ⟨row, List.mem_cons_of_mem _ m, i, hi, hf⟩

section
variable {s : Machine.State} {p : Path} {a : Nat} (v : Nat)

/-- A write by access code to any other register of the RET_ block changes nothing. -/
theorem plainWrite_reticle (low : 0x50000 ≤ a) (high : a < 0x60000) (mark : a ≠ 0x500B0) (capture : a ≠ 0x500C4)
    (s : Machine.State) : plainWrite a v s = s := by
  refine foldl_unchanged fun f hf => ?_
  have place : f.addr = a := ((fieldsAt_ok a).2 f hf).1
  have block : fieldsAt a = fieldsIn reticleRows a := by
    rw [fieldsAt, if_neg (by simp; omega), show a / 0x10000 = 5 by omega]
    rfl
  obtain ⟨row, hrow, i, hi, hfi⟩ := mem_fieldsIn (block ▸ hf)
  rcases reticleRows_writable row hrow i hi f hfi with other | other | code | code
  · exact absurd (place.symm.trans other) mark
  · exact absurd (place.symm.trans other) capture
  · simp [fieldWrite, code]
  · simp [fieldWrite, code]

/-- In the RET_ block RET_STAT_CLEAR alone has a command of its own. -/
theorem writeEffects_reticle : ∀ b ∈ (writeEffects .host 0).map Prod.fst, b < 0x50000 ∨ 0x60000 ≤ b ∨ b = 0x500C0 := by decide

theorem ownWrite_reticle (low : 0x50000 ≤ a) (high : a < 0x60000) (clear : a ≠ 0x500C0) : ownWrite a = false := by
  have effect : ((writeEffects .host 0).any fun x => x.1 == a) = false := by
    rw [List.any_eq_false]
    intro x hx e
    have := writeEffects_reticle _ (List.mem_map_of_mem hx)
    have := beq_iff_eq.mp e
    omega
  simp only [ownWrite, Bool.or_eq_false_iff, Bool.and_eq_false_iff, decide_eq_false_iff_not]
  exact ⟨⟨⟨by omega, by omega⟩, by omega⟩, effect⟩

theorem writeReg_retStatClear (p : Path) (s : Machine.State) : writeReg p 0x500C0 v s = retStatClear v s := by
  unfold writeReg
  rw [if_neg (by decide), if_neg (by decide), if_neg (by decide)]
  rfl

/-- REGISTER_WRITE in the RET_ block goes by `writeReg`, unless it is refused or misaligned. -/
theorem registerWrite_low (p : Path) (s : Machine.State) (high : a < 0x60000) (word : v < 2 ^ 32) :
    exec (.registerWrite p a v) s = .next (if a % 4 = 0 ∧ s.writeRefused p a v = false then writeReg p a v s else s).fin := by
  have run : exec (.registerWrite p a v) s = (writeAt p a (v % 2 ^ 32) s).1.done := rfl
  rw [run, Nat.mod_eq_of_lt word, State.done_eq]
  have valid : addrValid a = decide (a % 4 = 0) := by
    have : a < 0x100000 := by omega
    simp [addrValid, this, beq_eq_decide]
  congr 2
  unfold writeAt
  rw [valid]
  by_cases aligned : a % 4 = 0 <;> cases s.writeRefused p a v <;> simp [aligned]

/-- A served write to a register that only selects what a read shows, or in any other PHASE, is not refused (R58). -/
theorem writeRefused_reticle (served : Served p s) (low : 0x50000 ≤ a) (high : a < 0x60000)
    (h : a ∈ selectRegs ∨ s.r Reg.IMG_MODULE_STATE_PHASE ≠ 7) : s.writeRefused p a v = false := by
  have window : addrWindow a = false := by
    simp [addrWindow, inNear, inTable]
    omega
  rcases h with selects | serving
  · rcases served with serving | rfl
    · simp [State.writeRefused, window, serving]
    · simp [State.writeRefused, window, servedInFail, selects, ownerCode]
  · simp [State.writeRefused, window, serving]

end

/-- What a write to the RET_ block makes of the state before the step ends: the register-field file alone may change. -/
theorem registerWrite_reticle {s : Machine.State} {p : Path} {a v : Nat} (low : 0x50000 ≤ a) (high : a < 0x60000) (word : v < 2 ^ 32)
    (served : Served p s) :
    ∃ u, exec (.registerWrite p a v) s = .next u.fin ∧ RegsOnly s u ∧
      (a ≠ 0x500B0 → a ≠ 0x500C0 → a ≠ 0x500C4 → u = s) ∧ (a = 0x500B0 ∨ a = 0x500C4 → u = plainWrite a v s) ∧
      (a = 0x500C0 → u = s ∨ u = retStatClear v s) ∧
      (a = 0x500C0 → s.r Reg.IMG_MODULE_STATE_PHASE ≠ 7 → u = retStatClear v s) := by
  refine ⟨_, registerWrite_low v p s high word, ?_⟩
  by_cases clear : a = 0x500C0
  · subst clear
    rw [writeReg_retStatClear]
    have only : RegsOnly s (retStatClear v s) := by
      unfold retStatClear
      split
      · rfl
      · exact regsOnly_clear ..
    refine ⟨?_, by simp, by simp, fun _ => ?_, fun _ serving => if_pos ⟨rfl, ?_⟩⟩
    · split
      · exact only
      · rfl
    · split
      · exact .inr rfl
      · exact .inl rfl
    · exact writeRefused_reticle v served low high (.inr serving)
  · rw [writeReg_plain p v s (ownWrite_reticle low high clear)]
    refine ⟨?_, fun mark _ capture => ?_, fun selection => if_pos ⟨by omega, ?_⟩, fun c => absurd c clear, fun c => absurd c clear⟩
    · split
      · exact plainWrite_regs a v s
      · rfl
    · rw [plainWrite_reticle v low high mark capture, ite_self]
    · exact writeRefused_reticle v served low high (.inl (by rcases selection with rfl | rfl <;> simp [selectRegs]))

/-- RET_MARK_SEL takes its three fields of the word (R8). -/
theorem plainWrite_markSel (v : Nat) (s : Machine.State) :
    (plainWrite 0x500B0 v s).r Reg.RET_MARK_SEL_SLOT = v % 256 ∧ (plainWrite 0x500B0 v s).r Reg.RET_MARK_SEL_SET = v / 256 % 8 ∧
      (plainWrite 0x500B0 v s).r Reg.RET_MARK_SEL_STAGING = v / 4096 % 2 ∧
      RegsBut [Reg.RET_MARK_SEL_SLOT, Reg.RET_MARK_SEL_SET, Reg.RET_MARK_SEL_STAGING] s (plainWrite 0x500B0 v s) := by
  have fields : fieldsAt 0x500B0 = [Reg.RET_MARK_SEL_SLOT, Reg.RET_MARK_SEL_SET, Reg.RET_MARK_SEL_STAGING] := by decide
  obtain ⟨taken, others⟩ := r_plainWrite 0x500B0 v s
  rw [fields] at taken others
  refine ⟨(taken _ (by simp)).trans ?_, (taken _ (by simp)).trans ?_, (taken _ (by simp)).trans ?_, others⟩
  · exact congrArg (· % 256) (Nat.div_one v)
  · rfl
  · rfl

/-- RET_CAP_SEL takes its field of the word (R8). -/
theorem plainWrite_capSel (v : Nat) (s : Machine.State) :
    (plainWrite 0x500C4 v s).r Reg.RET_CAP_SEL = v % 8 ∧ RegsBut [Reg.RET_CAP_SEL] s (plainWrite 0x500C4 v s) := by
  have fields : fieldsAt 0x500C4 = [Reg.RET_CAP_SEL] := by decide
  obtain ⟨taken, others⟩ := r_plainWrite 0x500C4 v s
  rw [fields] at taken others
  exact ⟨(taken _ (by simp)).trans (congrArg (· % 8) (Nat.div_one v)), others⟩

theorem regsBut_retStatClear (v : Nat) (s : Machine.State) : RegsBut retStatFields s (retStatClear v s) := by
  unfold retStatClear
  split
  · exact .refl _ s
  · exact fun g hg => r_clear_ne _ hg s

theorem r_retStatClear {v : Nat} (odd : v % 2 = 1) (s : Machine.State) : ∀ g ∈ retStatFields, (retStatClear v s).r g = 0 := by
  intro g hg
  rw [retStatClear, if_neg (by omega)]
  exact r_clear_mem (by decide) hg s

/-- Settles O53: a write to the RET_ block is a write by access code, which only RET_MARK_SEL and RET_CAP_SEL have fields for, or
RET_STAT_CLEAR; all of these touch the register-field file alone. -/
theorem hostCannotWriteTheReticle : Obligations.HostCannotWriteTheReticle := by
  intro s p a v low high word served
  obtain ⟨u, run, only, other, selection, clear, cleared⟩ := registerWrite_reticle low high word served
  refine ⟨_, run, ?_, ?_, (sameMemory_fin ..).mpr ?_, fun mark clear capture => ?_, ?_, ?_, fun clears => ⟨?_, fun even => ?_, fun odd serving => ?_⟩⟩
  · rw [State.fin_ret, only]
  · rw [State.fin_trip, only]
  · rw [only]
    exact ⟨rfl, rfl, rfl, rfl⟩
  · rw [State.fin_regs, other mark clear capture]
  · rintro rfl
    rw [selection (.inl rfl)]
    simpa only [State.fin_r, regsBut_fin] using plainWrite_markSel v s
  · rintro rfl
    rw [selection (.inr rfl)]
    simpa only [State.fin_r, regsBut_fin] using plainWrite_capSel v s
  · refine (regsBut_fin ..).mpr ?_
    rcases clear clears with rfl | rfl
    · exact .refl _ _
    · exact regsBut_retStatClear v s
  · rw [State.fin_regs]
    rcases clear clears with rfl | rfl
    · rfl
    · rw [retStatClear, if_pos even]
  · rw [cleared clears serving]
    simp only [State.fin_r]
    have zero := r_retStatClear odd s
    exact ⟨zero _ (by decide), zero _ (by decide), zero _ (by decide), zero _ (by decide), zero _ (by decide)⟩

end Sys2Proof

/-! PROOFS. The reticle's marks (file 05): slots, the check of a mark as it is armed (R142), and the swap that arms one (R141). -/

namespace Sys2Proof

open Sys2Proof.Machine

/-! ### Runs in which few entries act -/

/-- A run over a list in which, while an invariant holds, the entries outside a part of the list do nothing. -/
theorem foldl_eq_filter {α β : Type} {f : β → α → β} {p : α → Bool} {l : List α} (Inv : β → Prop)
    (skip : ∀ b, ∀ x ∈ l, Inv b → p x = false → f b x = b) (keep : ∀ b, ∀ x ∈ l, Inv b → p x = true → Inv (f b x)) {b : β}
    (start : Inv b) : l.foldl f b = (l.filter p).foldl f b := by
  induction l generalizing b with
  | nil => rfl
  | cons x l ih =>
    have rest := @ih (fun b y hy => skip b y (List.mem_cons_of_mem _ hy)) (fun b y hy => keep b y (List.mem_cons_of_mem _ hy))
    cases acts : p x
    · rw [List.foldl_cons, skip b x List.mem_cons_self start acts, List.filter_cons_of_neg (by simp [acts]), rest start]
    · rw [List.foldl_cons, List.filter_cons_of_pos acts, List.foldl_cons, rest (keep b x List.mem_cons_self start acts)]

/-- The slots of a set that a rising list names. -/
theorem filter_range {n : Nat} {l : List Nat} (rising : l.SortedLT) (below : ∀ q ∈ l, q < n) :
    (List.range n).filter (fun q => decide (q ∈ l)) = l := by
  refine List.SortedLT.eq_of_mem_iff ?_ rising fun q => ?_
  · exact (List.pairwise_lt_range.filter _).sortedLT
  · simp only [List.mem_filter, List.mem_range, decide_eq_true_eq, and_iff_right_iff_imp]
    exact below q

/-! ### Slots -/

section
variable {s : Machine.State} {k i : Nat}

theorem set_modSet_ne (s : Machine.State) (k : Nat) {j : Nat} (f : MarkSet → MarkSet) (h : j ≠ k) : (s.modSet k f).set j = s.set j :=
  nth_modAt_ne s.ret.sets k j f _ h

@[simp] theorem slot_putSlot_same (s : Machine.State) (k i : Nat) (x : Slot) : (s.putSlot k i x).slot k i = x := by
  simp [State.slot, State.putSlot]

theorem slot_putSlot_ne (s : Machine.State) (k : Nat) {i j : Nat} (x : Slot) (h : j ≠ i) : (s.putSlot k i x).slot k j = s.slot k j := by
  simp only [State.slot, State.putSlot, State.set_modSet_same]
  exact nth_setAt_ne _ _ _ _ _ h

/-- The slot that a swap gives a set holds its program's entry, and is not armed (R141). -/
theorem slot_swapped {j : Nat} (hj : j < setSize k) : (s.modSet k (swapped k)).slot k j = { mark := nth (s.set k).staging.marks j {} } := by
  rw [State.slot, State.set_modSet_same, swapped, nth_liveOf hj]

/-! ### The check of a mark (R142) -/

/-- Only a mark of DIR up or down crosses. -/
theorem dir_of_crosses {m : Mark} {x : SetSample} (h : crosses m x = true) : m.dir = 1 ∨ m.dir = 2 := by
  unfold crosses at h
  split at h
  · exact .inl ‹_›
  · split at h
    · exact .inr ‹_›
    · cases h

/-- A slot whose mark is found late as it is armed (R142). -/
def lateSlot (t : Slot) : Slot := { t with armed := !t.mark.withhold, late := !t.mark.withhold, unchecked := false }

/-- A slot whose mark is still ahead as it is armed, with its side if its DIR is either (R142). -/
def aheadSlot (t : Slot) (x : SetSample) : Slot :=
  { t with armed := true, late := false, unchecked := false, above := if t.mark.dir = 3 then liesAbove t.mark x else t.above }

/-- A slot armed without a check (R142). -/
def uncheckedSlot (t : Slot) : Slot := { t with armed := true, late := false, unchecked := true }

/-- Without a comparable sample a slot is armed unchecked. -/
theorem armSlot_unseen (used : (s.slot k i).mark.dir ≠ 0) (unseen : s.comparable k = none) :
    armSlot k i s = s.putSlot k i (uncheckedSlot (s.slot k i)) := by
  unfold armSlot
  simp only [if_neg used, unseen, uncheckedSlot]

theorem armSlot_late {x : SetSample} (seen : s.comparable k = some x) (late : crosses (s.slot k i).mark x = true) :
    armSlot k i s = lateFound k i (s.slot k i).mark (s.putSlot k i (lateSlot (s.slot k i))) := by
  have dir := dir_of_crosses late
  have used : (s.slot k i).mark.dir ≠ 0 := by omega
  have either : (s.slot k i).mark.dir ≠ 3 := by omega
  unfold armSlot
  simp only [if_neg used, seen, checkSlot, if_neg either, if_pos late, lateSlot]
  cases (s.slot k i).mark.withhold <;> rfl

theorem armSlot_ahead {x : SetSample} (used : (s.slot k i).mark.dir ≠ 0) (seen : s.comparable k = some x)
    (ahead : crosses (s.slot k i).mark x = false) : armSlot k i s = s.putSlot k i (aheadSlot (s.slot k i) x) := by
  unfold armSlot
  simp only [if_neg used, seen, checkSlot, ahead, aheadSlot]
  by_cases either : (s.slot k i).mark.dir = 3 <;> simp [either]

/-- What arming a slot can do: nothing, or a change of that slot, which keeps its mark, and the report of a mark found late. -/
theorem armSlot_cases (s : Machine.State) (k i : Nat) :
    armSlot k i s = s ∨ ∃ t : Slot, t.mark = (s.slot k i).mark ∧
      (armSlot k i s = s.putSlot k i t ∨ armSlot k i s = lateFound k i t.mark (s.putSlot k i t)) := by
  by_cases used : (s.slot k i).mark.dir = 0
  · exact .inl (if_pos used)
  refine .inr ?_
  cases seen : s.comparable k with
  | none => exact ⟨uncheckedSlot (s.slot k i), rfl, .inl (armSlot_unseen used seen)⟩
  | some x =>
    cases crossed : crosses (s.slot k i).mark x
    · exact ⟨aheadSlot (s.slot k i) x, rfl, .inl (armSlot_ahead used seen crossed)⟩
    · exact ⟨lateSlot (s.slot k i), rfl, .inr (armSlot_late seen crossed)⟩

/-- The report of a late mark: its count, and with LATE_MODE withhold an event. -/
theorem lateFound_form (k i : Nat) (m : Mark) (s : Machine.State) :
    ∃ more, lateFound k i m s = { s with regs := (s.inc Reg.RET_EXC_COUNT_LATE).regs, raised := s.raised ++ more } ∧
      (m.withhold = true → Evt.RET_LATE_WITHHELD.src ∈ more.map fun x => x.evt.src) := by
  unfold lateFound
  cases m.withhold
  · exact ⟨[], by simp; rfl, by simp⟩
  · exact ⟨_, rfl, fun _ => List.mem_singleton.mpr rfl⟩

@[simp] theorem slot_lateFound (k' i' : Nat) (m : Mark) (s : Machine.State) (k j : Nat) :
    (lateFound k' i' m s).slot k j = s.slot k j := by
  obtain ⟨more, form, -⟩ := lateFound_form k' i' m s
  rw [form]
  rfl

/-- Arming a slot leaves the others alone. -/
theorem slot_armSlot_ne (s : Machine.State) (k : Nat) {i j : Nat} (h : j ≠ i) : (armSlot k i s).slot k j = s.slot k j := by
  rcases armSlot_cases s k i with same | ⟨t, -, form | form⟩
  · rw [same]
  · rw [form, slot_putSlot_ne _ _ _ h]
  · rw [form, slot_lateFound, slot_putSlot_ne _ _ _ h]

/-- Arming a slot leaves it its mark. -/
theorem mark_armSlot (s : Machine.State) (k i : Nat) : ((armSlot k i s).slot k i).mark = (s.slot k i).mark := by
  rcases armSlot_cases s k i with same | ⟨t, mark, form | form⟩
  · rw [same]
  · rw [form, slot_putSlot_same, mark]
  · rw [form, slot_lateFound, slot_putSlot_same, mark]

theorem sameMemory_armSlot (s : Machine.State) (k i : Nat) : SameMemory s (armSlot k i s) := by
  rcases armSlot_cases s k i with same | ⟨t, -, form | form⟩
  · rw [same]
    exact .refl s
  · rw [form]
    exact ⟨rfl, rfl, rfl, rfl⟩
  · obtain ⟨more, reported, -⟩ := lateFound_form k i t.mark (s.putSlot k i t)
    rw [form, reported]
    exact ⟨rfl, rfl, rfl, rfl⟩

/-- A program that arms one mark arms that slot (R141). -/
theorem armNew_one (hi : i < setSize k) (one : ∀ j, j < setSize k → (s.slot k j).mark.arm = decide (j = i)) :
    armNew k s = armSlot k i s := by
  unfold armNew
  rw [foldl_eq_filter (p := fun j => decide (j ∈ [i])) fun u => ∀ j, j < setSize k → (u.slot k j).mark = (s.slot k j).mark]
  · rw [filter_range (n := setSize k) (l := [i]) (by simp [List.sortedLT_iff_pairwise]) (by simpa using hi), List.foldl_cons,
      List.foldl_nil, if_pos (by simp [one i hi])]
  · intro u j hj marks other
    have hj := List.mem_range.mp hj
    rw [if_neg (by simpa [marks j hj, one j hj] using other)]
  · intro u j _ marks this q hq
    split
    · by_cases e : q = j
      · rw [e, mark_armSlot, marks j (e ▸ hq)]
      · rw [slot_armSlot_ne _ _ e, marks q hq]
    · exact marks q hq
  · exact fun _ _ => rfl

end

/-! ### A swap that arms one mark -/

section
variable {s : Machine.State} {k i : Nat} {m : Mark}

/-- RETICLE_SWAP of a valid half whose program arms one mark. -/
theorem reticleSwap_one (hk : k < 5) (hi : i < setSize k) (released : s.released = true) (awake : s.parked = false)
    (free : (s.set k).barred = false) (valid : (s.set k).valid = true)
    (one : ∀ j, j < setSize k → (nth (s.set k).staging.marks j {}).arm = decide (j = i)) :
    exec (.reticleSwap k) s = .next (armSlot k i (s.modSet k (swapped k))).fin := by
  have run : exec (.reticleSwap k) s = (s.graphDoes (swapCommand (k % 5))).done := rfl
  have swap : swapCommand k s = armNew k (s.modSet k (swapped k)) := (if_neg (by simp [free])).trans (if_pos valid)
  rw [run, Nat.mod_eq_of_lt hk, graphDoes_released _ released awake, State.done_eq, swap, armNew_one hi]
  intro j hj
  rw [slot_swapped hj]
  exact one j hj

theorem fin_slot (s : Machine.State) (k j : Nat) : s.fin.slot k j = s.slot k j := by simp only [State.slot, State.fin_set]

/-- A swap that arms one mark, without and with a comparable sample. -/
theorem reticleSwap_arms (hk : k < 5) (hi : i < setSize k) (released : s.released = true) (awake : s.parked = false)
    (free : (s.set k).barred = false) (valid : (s.set k).valid = true) (entry : nth (s.set k).staging.marks i {} = m) (used : m.dir ≠ 0)
    (one : ∀ j, j < setSize k → (nth (s.set k).staging.marks j {}).arm = decide (j = i)) :
    ∃ t, exec (.reticleSwap k) s = .next t ∧ (∀ j, j < setSize k → j ≠ i → (t.slot k j).armed = false) ∧ (t.slot k i).mark = m ∧
      (s.comparable k = none → (t.slot k i).armed = true ∧ (t.slot k i).unchecked = true ∧ t.regs = s.regs) ∧
      (∀ y, s.comparable k = some y →
        (crosses m y = true → t.r Reg.RET_EXC_COUNT_LATE = satN Reg.RET_EXC_COUNT_LATE.width (s.r Reg.RET_EXC_COUNT_LATE + 1) ∧
          (m.withhold = true → (t.slot k i).armed = false ∧ Pending Evt.RET_LATE_WITHHELD t) ∧
          (m.withhold = false → (t.slot k i).armed = true ∧ (t.slot k i).late = true)) ∧
        (crosses m y = false → (t.slot k i).armed = true ∧ (t.slot k i).late = false ∧ (t.slot k i).unchecked = false ∧
          (m.dir = 3 → (t.slot k i).above = liesAbove m y) ∧ t.regs = s.regs)) ∧ SameMemory s t := by
  have run := reticleSwap_one hk hi released awake free valid one
  have others (j : Nat) (hj : j < setSize k) : (s.modSet k (swapped k)).slot k j = { mark := nth (s.set k).staging.marks j {} } :=
    slot_swapped hj
  have memory : SameMemory s (s.modSet k (swapped k)) := ⟨rfl, rfl, rfl, rfl⟩
  have comparable : (s.modSet k (swapped k)).comparable k = s.comparable k := rfl
  have counts : (s.modSet k (swapped k)).regs = s.regs := rfl
  generalize s.modSet k (swapped k) = u at run others memory comparable counts
  have slot : u.slot k i = { mark := m } := by rw [others i hi, entry]
  have mark : (u.slot k i).mark = m := by rw [slot]
  refine ⟨_, run, fun j hj other => ?_, ?_, fun unseen => ?_, fun y seen => ⟨fun late => ?_, fun ahead => ?_⟩,
    (sameMemory_fin ..).mpr (memory.trans (sameMemory_armSlot u k i))⟩
  · rw [fin_slot, slot_armSlot_ne _ _ other, others j hj]
  · rw [fin_slot, mark_armSlot, mark]
  · rw [fin_slot, State.fin_regs, armSlot_unseen (mark ▸ used) (comparable.trans unseen), slot_putSlot_same]
    exact ⟨rfl, rfl, counts⟩
  · rw [fin_slot, State.fin_r, armSlot_late (comparable.trans seen) (mark ▸ late), slot_lateFound, slot_putSlot_same, slot]
    obtain ⟨more, reported, told⟩ := lateFound_form k i m (u.putSlot k i (lateSlot { mark := m }))
    rw [reported]
    refine ⟨?_, fun withhold => ⟨by simp [lateSlot, withhold], pending_fin ?_⟩, fun fires => by simp [lateSlot, fires]⟩
    · have same : u.r Reg.RET_EXC_COUNT_LATE = s.r Reg.RET_EXC_COUNT_LATE := by simp only [State.r, counts]
      rw [← same]
      exact (State.r_w_same u _ _).trans (Nat.mod_eq_of_lt (satN_lt ..))
    · rw [List.map_append]
      exact List.mem_append_right _ (told withhold)
  · rw [fin_slot, State.fin_regs, armSlot_ahead (mark ▸ used) (comparable.trans seen) (mark ▸ ahead), slot_putSlot_same, slot]
    exact ⟨rfl, rfl, rfl, fun either => if_pos either, counts⟩

end

end Sys2Proof

/-! PROOFS. What the position front ends leave of the reticle at a delivery (R97): all of it but what they have seen. -/

namespace Sys2Proof.Machine

/-- The registers that show what the marks have done and what was withheld or lost to a conflict (file 05). -/
def markFields : List Field :=
  [Reg.RET_EXC_COUNT_WITHHELD, Reg.RET_EXC_COUNT_CONFLICT, Reg.RET_FIRE_COUNT, Reg.RET_LAST_SLOT, Reg.RET_LAST_SET, Reg.RET_LAST_LATE]

/-- Two states agree on those registers. -/
def SameMarkFields (s t : State) : Prop := ∀ g ∈ markFields, t.r g = s.r g

section
variable {s t u : State}

theorem SameMarkFields.refl (s : State) : SameMarkFields s s := fun _ _ => rfl

theorem SameMarkFields.trans (h : SameMarkFields s t) (h' : SameMarkFields t u) : SameMarkFields s u :=
  fun g hg => (h' g hg).trans (h g hg)

theorem SameMarkFields.w (h : SameMarkFields s t) {f : Field} (v : Nat) (apart : f.key ∉ markFields.map Field.key) :
    SameMarkFields s (t.w f v) := fun g hg =>
  (State.r_w_ne _ _ _ _ fun e => apart (e ▸ List.mem_map_of_mem hg)).trans (h g hg)

theorem SameMarkFields.of_regs (e : t.regs = s.regs) : SameMarkFields s t := fun g _ => by simp only [State.r, e]

/-- The front ends at work, the reticle's registers left as they are. -/
structure FrontKeeps (s t : State) : Prop where
  only : PosOnly s t
  fields : SameMarkFields s t

theorem FrontKeeps.refl (s : State) : FrontKeeps s s := ⟨.refl s, .refl s⟩

theorem FrontKeeps.trans (h : FrontKeeps s t) (h' : FrontKeeps t u) : FrontKeeps s u := ⟨h.only.trans h'.only, h.fields.trans h'.fields⟩

theorem FrontKeeps.w (h : FrontKeeps s t) {f : Field} (v : Nat) (apart : f.key ∉ markFields.map Field.key := by decide) :
    FrontKeeps s (t.w f v) := ⟨h.only.w f v, h.fields.w v apart⟩

theorem FrontKeeps.pos (h : FrontKeeps s t) (p : PosState) : FrontKeeps s { t with pos := p } := ⟨h.only.pos p, h.fields⟩

theorem FrontKeeps.raisePos (h : FrontKeeps s t) (e : Evt) (args : List Arg) : FrontKeeps s (t.raisePos e args) :=
  ⟨h.only.raisePos e args, fun g hg => (raisePos_r ..).trans (h.fields g hg)⟩

theorem FrontKeeps.ite {c : Prop} {_ : Decidable c} (ht : FrontKeeps s t) (hu : FrontKeeps s u) : FrontKeeps s (if c then t else u) := by
  split <;> assumption

theorem FrontKeeps.when_ (h : FrontKeeps s t) {b : Bool} {f : State → State} (hf : FrontKeeps s (f t)) : FrontKeeps s (t.when_ b f) :=
  .ite hf h

theorem FrontKeeps.emu (h : FrontKeeps s t) (h' : EmuKeeps t u) : FrontKeeps s u :=
  ⟨h.only.trans h'.only, h.fields.trans fun g hg => h'.regs g ((by decide : ∀ g ∈ markFields, g.key ∉ emuFields.map Field.key) g hg)⟩

/-! #### A sin/cos channel's share (R99 to R105, R110) -/

/-- The fields of a sin/cos channel that a delivery writes lie outside the reticle's. -/
theorem scFields_apart : ∀ c < 2, ∀ f ∈ [Reg.PFE_SC_STATUS_LINE_RATE c, Reg.PFE_SC_STATUS_RADIUS c, Reg.PFE_SC_STATUS_AMP_OUT c,
    Reg.PFE_SC_STATUS_ILLEGAL c, Reg.PFE_SC_STATUS_ILL_KIND c, Reg.PFE_SC_CAL_OFS_SIN_OFS c, Reg.PFE_SC_CAL_OFS_COS_OFS c,
    Reg.PFE_SC_CAL_GP_GAIN c, Reg.PFE_SC_CAL_GP_PHASE c, Reg.PFE_SC_INDEX_MISSING c], f.key ∉ markFields.map Field.key := by decide

variable {c : Nat}

theorem FrontKeeps.cause (h : FrontKeeps s t) (i : Nat) (b : Bool) : FrontKeeps s (t.cause i b) := h.w _

theorem FrontKeeps.markCauses (h : FrontKeeps s t) : FrontKeeps s (markCauses t) := (h.cause ..).cause ..

theorem FrontKeeps.lineRate (h : FrontKeeps s t) (hc : c < 2) (x : ScSample) : FrontKeeps s (lineRate c x t) :=
  h.when_ ((h.w _ (scFields_apart c hc _ (by simp))).raisePos ..)

theorem FrontKeeps.fitRevolution (h : FrontKeeps s t) (x : ScSample) : FrontKeeps s (fitRevolution c x t) := .ite (h.pos _) h

theorem FrontKeeps.ampJudge (h : FrontKeeps s t) (hc : c < 2) (r2 : Nat) : FrontKeeps s (ampJudge c r2 t) := by
  unfold Machine.ampJudge
  extract_lets ch out bad good was counted judged amp
  have atCounted : FrontKeeps s counted := h.pos _
  have shown (v : Nat) : FrontKeeps s (counted.w (Reg.PFE_SC_STATUS_AMP_OUT c) v) := atCounted.w v (scFields_apart c hc _ (by simp))
  have atJudged : FrontKeeps s judged := .ite ((shown _).raisePos ..) (.ite (shown _) atCounted)
  exact atJudged.pos _

theorem FrontKeeps.illegalSample (h : FrontKeeps s t) (hc : c < 2) (kind : Nat) : FrontKeeps s (illegalSample c kind t) :=
  (((h.pos _).w _ (scFields_apart c hc _ (by simp))).w _ (scFields_apart c hc _ (by simp))).raisePos ..

theorem FrontKeeps.legalSample (h : FrontKeeps s t) (cand : Int) : FrontKeeps s (legalSample c cand t) := by
  unfold Machine.legalSample acceptSample
  extract_lets counted ch adj new accepted
  have atCounted : FrontKeeps s counted := h.pos _
  have atAccepted : FrontKeeps s accepted := atCounted.pos _
  refine .ite atCounted (atAccepted.emu ?_)
  exact EmuKeeps.foldl (fun u _ hi => .ite (emuKeeps_emuFeed (List.mem_range.mp hi) _ u) (.refl u)) _

theorem FrontKeeps.markEdges (h : FrontKeeps s t) (before : Int) (illegal : Bool) (x : ScSample) :
    FrontKeeps s (markEdges c before illegal x t) := .ite (h.pos _) ((h.pos _).emu (emuKeeps_emuCopyZ ..))

theorem FrontKeeps.calApply (h : FrontKeeps s t) (hc : c < 2) : FrontKeeps s (calApply c t) := by
  unfold Machine.calApply
  split
  · exact h
  · extract_lets a b g p offsets gains told told'
    have atOffsets : FrontKeeps s offsets := (h.w _ (scFields_apart c hc _ (by simp))).w _ (scFields_apart c hc _ (by simp))
    have atGains : FrontKeeps s gains := (atOffsets.w _ (scFields_apart c hc _ (by simp))).w _ (scFields_apart c hc _ (by simp))
    have atTold : FrontKeeps s told := atGains.when_ (atGains.raisePos ..)
    have atTold' : FrontKeeps s told' := atTold.when_ (atTold.raisePos ..)
    exact atTold'.when_ (atTold'.raisePos ..)

theorem FrontKeeps.missingMark (h : FrontKeeps s t) (hc : c < 2) : FrontKeeps s (missingMark c t) :=
  .ite (.markCauses (((((h.pos _).w _ (scFields_apart c hc _ (by simp))).raisePos ..)).pos _)) h

theorem FrontKeeps.scDeliver (h : FrontKeeps s t) (hc : c < 2) (x : ScSample) : FrontKeeps s (scDeliver t c x) := by
  refine .ite h ?_
  extract_lets before r fitted tracks th r2 old shown judged kind counted marked applied
  clear_value kind
  have atFitted : FrontKeeps s fitted := ((h.pos _).lineRate hc x).fitRevolution x
  have atShown : FrontKeeps s shown := (atFitted.w _ (scFields_apart c hc _ (by simp))).pos _
  have atJudged : FrontKeeps s judged := atShown.ampJudge hc r2
  have atCounted : FrontKeeps s counted := by
    unfold counted
    split
    · exact atJudged.illegalSample hc _
    · exact atJudged.legalSample _
  have atMarked : FrontKeeps s marked := atCounted.markEdges ..
  have atApplied : FrontKeeps s applied := .ite (atMarked.calApply hc) atMarked
  exact atApplied.missingMark hc

/-! #### The position model (R120, R125, R126, R128) -/

theorem FrontKeeps.setHalf (h : FrontKeeps s t) (source : Nat) (v : Int) : FrontKeeps s (t.setHalf source v) := .ite (h.pos _) (h.pos _)

theorem FrontKeeps.changeSource (h : FrontKeeps s t) (old new : Nat) (pm : Int) (at_ : Time) :
    FrontKeeps s (changeSource old new pm at_ t) :=
  .ite h (.ite (.pos (.ite (h.setHalf ..) h) _) (.pos (h.setHalf ..) _))

theorem FrontKeeps.slew (h : FrontKeeps s t) (source : Nat) (travel speed : Int) : FrontKeeps s (slew source travel speed t) :=
  (h.setHalf ..).pos _

theorem FrontKeeps.sampleCauses (h : FrontKeeps s t) : FrontKeeps s (sampleCauses t) := by
  unfold Machine.sampleCauses
  refine FrontKeeps.cause ?_ ..
  split
  · exact (h.cause ..).cause ..
  · exact (h.pos _).cause ..

theorem FrontKeeps.showSample (h : FrontKeeps s t) (x : CarSample) : FrontKeeps s (showSample x t) :=
  (((((((h.w _).w _).w _).w _).w _).w _).w _).w _

theorem FrontKeeps.positionModel (h : FrontKeeps s t) (at_ : Time) (pm : Int) : FrontKeeps s (positionModel at_ pm t) := by
  unfold Machine.positionModel
  extract_lets pms v vs a old new _ changed speed moved pos judged conf x _ shown
  have atChanged : FrontKeeps s changed := (h.pos _).changeSource ..
  have atJudged : FrontKeeps s judged := (FrontKeeps.ite atChanged (atChanged.slew ..)).sampleCauses
  have atShown : FrontKeeps s shown := (atJudged.pos _).showSample x
  exact .ite atShown (atShown.raisePos ..)

end

end Sys2Proof.Machine

/-! PROOFS. What the marks' actions leave alone (Table 05-3, R147): the sample, the posts, the memories and the sets they do not command;
the same of the controlled stop that a lost position starts (R183). -/

namespace Sys2Proof.Machine

/-- The second state has the memories, the sample, the posts and the marks' registers of the first, its sets but those listed, and its
events. -/
structure BesideSets (sets : List Nat) (s t : State) : Prop where
  memory : SameMemory s t
  pos : t.pos = s.pos
  others : ∀ j ∉ sets, t.set j = s.set j
  posts : t.ret.posts = s.ret.posts
  fields : SameMarkFields s t
  raised : s.raised ⊆ t.raised

section
variable {l : List Nat} {s t u : State}

theorem BesideSets.refl (l : List Nat) (s : State) : BesideSets l s s :=
  ⟨.refl s, rfl, fun _ _ => rfl, rfl, .refl s, List.Subset.refl _⟩

theorem BesideSets.trans (h : BesideSets l s t) (h' : BesideSets l t u) : BesideSets l s u where
  memory := h.memory.trans h'.memory
  pos := h'.pos.trans h.pos
  others j hj := (h'.others j hj).trans (h.others j hj)
  posts := h'.posts.trans h.posts
  fields := h.fields.trans h'.fields
  raised := List.Subset.trans h.raised h'.raised

/-- A change outside all of these. -/
theorem BesideSets.same (h : BesideSets l s t) (memory : SameMemory t u := by exact ⟨rfl, rfl, rfl, rfl⟩) (pos : u.pos = t.pos := by rfl)
    (ret : u.ret = t.ret := by rfl) (regs : u.regs = t.regs := by rfl) (raised : u.raised = t.raised := by rfl) : BesideSets l s u :=
  h.trans ⟨memory, pos, fun _ _ => by simp only [State.set, ret], by rw [ret], .of_regs regs, raised ▸ List.Subset.refl _⟩

theorem BesideSets.w (h : BesideSets l s t) {f : Field} (v : Nat) (apart : f.key ∉ markFields.map Field.key := by decide) :
    BesideSets l s (t.w f v) := ⟨h.memory, h.pos, h.others, h.posts, h.fields.w v apart, h.raised⟩

theorem BesideSets.raise (h : BesideSets l s t) (e : Evt) (args : List Arg) : BesideSets l s (t.raise e args) :=
  ⟨h.memory, h.pos, h.others, h.posts, h.fields, fun _ m => by simp [h.raised m]⟩

theorem BesideSets.img (h : BesideSets l s t) (x : ImgState) : BesideSets l s { t with img := x } := h.same

theorem BesideSets.modTrip (h : BesideSets l s t) (f : TripState → TripState) : BesideSets l s (t.modTrip f) := h.same

theorem BesideSets.ite {c : Prop} {_ : Decidable c} (ht : BesideSets l s t) (hu : BesideSets l s u) :
    BesideSets l s (if c then t else u) := by
  split <;> assumption

theorem BesideSets.when_ (h : BesideSets l s t) {b : Bool} {f : State → State} (hf : BesideSets l s (f t)) :
    BesideSets l s (t.when_ b f) := .ite hf h

theorem BesideSets.foldl {α : Type} {f : State → α → State} (step : ∀ u x, BesideSets l u (f u x)) (xs : List α)
    (h : BesideSets l s t) : BesideSets l s (xs.foldl f t) := by
  induction xs generalizing t with
  | nil => exact h
  | cons x xs ih => exact ih (h.trans (step t x))

theorem BesideSets.modSet (h : BesideSets l s t) {k : Nat} (f : MarkSet → MarkSet) (listed : k ∈ l) : BesideSets l s (t.modSet k f) :=
  ⟨h.memory, h.pos, fun j hj => (set_modSet_ne t k f fun e => hj (by rw [e]; exact listed)).trans (h.others j hj), h.posts, h.fields, h.raised⟩

theorem BesideSets.told (h : BesideSets l s t) (h' : Told t u) : BesideSets l s u := by
  obtain ⟨mir, more, form⟩ := h'
  rw [form]
  exact h.trans ⟨⟨rfl, rfl, rfl, rfl⟩, rfl, fun _ _ => rfl, rfl, .refl t, List.subset_append_left ..⟩

theorem BesideSets.journal (h : BesideSets l s t) (x : JournalRec) : BesideSets l s (t.journal x) := h.told (told_journal t x)

theorem BesideSets.post (h : BesideSets l s t) (port key : Nat) (other : port ∉ [2, 3, 4, 7, 8, 10] := by decide) :
    BesideSets l s (t.post port key) := by
  obtain ⟨ports, held, form⟩ := post_form t port key other
  rw [form]
  exact h.same

/-! #### Sets as they are armed, swapped and emptied (R139 to R142) -/

/-- The end of the loads in progress may make the streamed slot active (R60, R139). -/
theorem BesideSets.loadEnded (h : BesideSets l s t) : BesideSets l s t.loadEnded := by
  have swapped : BesideSets l s (swapSlots { t with img := { t.img with swapDue := false } }) :=
    ((((h.img _).w _).w _).img _).post ..
  exact h.when_ (.ite (h.img _) ((((swapped.w _).w _).raise ..).post ..))

variable {k : Nat} (listed : k ∈ l)
include listed

theorem BesideSets.armSlot (h : BesideSets l s t) (i : Nat) : BesideSets l s (armSlot k i t) := by
  rcases armSlot_cases t k i with same | ⟨x, -, form | form⟩
  · rw [same]
    exact h
  · rw [form]
    exact h.modSet _ listed
  · rw [form]
    have counted := (h.modSet (fun m => { m with live := setAt m.live i x {} }) listed).w (f := Reg.RET_EXC_COUNT_LATE)
    exact .ite ((counted _).raise ..) (counted _)

theorem BesideSets.swapSet (h : BesideSets l s t) : BesideSets l s (swapSet k t) :=
  .ite (.foldl (fun u i => .ite (.armSlot listed (.refl l u) i) (.refl l u)) _ (h.modSet _ listed)) (h.raise ..)

theorem BesideSets.swapCommand (h : BesideSets l s t) : BesideSets l s (swapCommand k t) := .ite h (h.swapSet listed)

theorem BesideSets.emptySet (h : BesideSets l s t) : BesideSets l s (emptySet k t) := (h.modSet _ listed).loadEnded

theorem BesideSets.reactSet (h : BesideSets l s t) : BesideSets l s (reactSet k t) := (h.modSet _ listed).loadEnded

theorem BesideSets.beginProgram (h : BesideSets l s t) (region retProg : Nat) : BesideSets l s (beginProgram k region retProg t) :=
  have freed : BesideSets l s (t.freeMarks k) := h.modSet _ listed
  .ite (freed.emptySet listed) (freed.when_ (freed.swapSet listed))

omit listed

/-! #### A lost position (R183, R201) -/

theorem BesideSets.requeue (h : BesideSets l s t) : BesideSets l s t.requeue := ((h.modTrip _).modTrip _).w _

theorem BesideSets.requestDrive (h : BesideSets l s t) (on : Bool) : BesideSets l s (t.requestDrive on) := by
  obtain ⟨saf, form⟩ := requestDrive_form t on
  rw [form]
  exact h.same

theorem BesideSets.abandonStart (h : BesideSets l s t) : BesideSets l s (abandonStart t) :=
  ((h.requeue.modTrip _).requestDrive false).w _

theorem BesideSets.goOos (h : BesideSets l s t) (cause : Nat) : BesideSets l s (goOos cause t) := by
  have emptied := h.requeue.modTrip fun x => { x with stops := [], starting := none, rescueHeld := none }
  refine .raise (.w (.w (.ite h ?_) _) _) ..
  have withdrawn := emptied.when_ (b := t.requeue.r Reg.TRIP_STATUS_STATE == 1) (f := (·.requestDrive false)) (emptied.requestDrive false)
  exact withdrawn.when_ (withdrawn.w 5)

/-- A controlled stop commands the car's set alone (R149, R184). -/
theorem BesideSets.ctrlStop (h : BesideSets [0] s t) (cause : Nat) : BesideSets [0] s (ctrlStop cause t) := by
  have caused := (h.journal (.ctrlStop cause)).w (f := Reg.TRIP_STATUS_STOP_CAUSE)
    (setBit ((t.journal (.ctrlStop cause)).r Reg.TRIP_STATUS_STOP_CAUSE) cause true)
  refine .ite ?_ h
  unfold ctrlStopGo
  extract_lets fresh caused' c x taken reacted shown
  refine .ite (.ite (caused.when_ (caused.goOos 3)) (.ite caused ?_)) (.ite (caused.reactSet (by simp)).abandonStart caused)
  have atTaken : BesideSets [0] s taken := caused.same
  have atReacted : BesideSets [0] s reacted := (atTaken.modTrip _).reactSet (by simp)
  have atShown : BesideSets [0] s shown := (atReacted.w _).w _
  exact .ite atShown (atShown.modSet _ (by simp))

theorem BesideSets.lossStop (h : BesideSets [0] s t) : BesideSets [0] s (lossStop t) := by
  unfold Machine.lossStop
  extract_lets off stopped
  have atStopped : BesideSets [0] s stopped := .ctrlStop (h.when_ (h.reactSet (by simp))) _
  clear_value stopped
  have held : BesideSets [0] s (stopped.modeNext 0 5).holdLoop := atStopped.same
  exact .ite (held.journal _) atStopped

/-! #### Door commands (R217, R221, R453) -/

theorem apart_of_high {f : Field} (h : 0x60000 ≤ f.addr) : f.key ∉ markFields.map Field.key := by
  intro m
  have low : ∀ k ∈ markFields.map Field.key, k < 0x60000 * 32 := by decide
  have := low _ m
  simp only [Field.key] at this
  omega

/-- The fields of an operator that its commands write lie outside the reticle's. -/
theorem doorFields_apart (i : Nat) : ∀ f ∈ [Reg.LOOP_DOOR_STATUS_STATE i, Reg.LOOP_DOOR_STATUS_PROFILE i, Reg.LOOP_DOOR_STATUS_DECK_HOLD i,
    Reg.LOOP_DOOR_STATUS_REV_COUNT i], f.key ∉ markFields.map Field.key := by
  intro f hf
  refine apart_of_high ?_
  simp only [List.mem_cons, List.not_mem_nil, or_false] at hf
  rcases hf with rfl | rfl | rfl | rfl
  · exact Nat.le_add_right_of_le (by decide)
  · exact Nat.le_add_right_of_le (by decide)
  · exact Nat.le_add_right_of_le (by decide)
  · exact Nat.le_add_right_of_le (by decide)

variable {d : Nat}

theorem BesideSets.modDoor (h : BesideSets l s t) (d : Nat) (f : DoorOp → DoorOp) : BesideSets l s (t.modDoor d f) := h.same

theorem BesideSets.modChan (h : BesideSets l s t) (k : Nat) (f : Channel → Channel) : BesideSets l s (t.modChan k f) := h.same

theorem BesideSets.modEng (h : BesideSets l s t) (n : Nat) (f : Engine → Engine) : BesideSets l s (t.modEng n f) := h.same

theorem BesideSets.modRec (h : BesideSets l s t) (item inst : Nat) (f : RecSlot → RecSlot) : BesideSets l s (t.modRec item inst f) := h.same

theorem BesideSets.cycleCheck (h : BesideSets l s t) : BesideSets l s (cycleCheck t) := by
  unfold Machine.cycleCheck
  extract_lets c loop noted
  have atNoted : BesideSets l s noted := h.same
  exact .ite (atNoted.raise ..) atNoted

theorem BesideSets.doorHold (h : BesideSets l s t) (listed : d ∈ l) : BesideSets l s (doorHold d t) := by
  unfold Machine.doorHold
  split
  · exact h
  · extract_lets close timed peaked m freed idled counted shown
    have atTimed : BesideSets l s timed := h.when_ (h.modRec ..)
    have atPeaked : BesideSets l s peaked := atTimed.modRec ..
    have atFreed : BesideSets l s freed := atPeaked.when_ (atPeaked.modSet _ listed)
    have atIdled : BesideSets l s idled := (atFreed.modChan ..).modDoor ..
    have atCounted : BesideSets l s counted := atIdled.when_ (atIdled.w _ (doorFields_apart (d - 1) _ (by simp)))
    have atShown : BesideSets l s shown := atCounted.w _ (doorFields_apart (d - 1) _ (by simp))
    exact (atShown.modEng ..).cycleCheck

/-- A profile that no reaction begins commands its operator's set alone. -/
theorem BesideSets.beginProfile (h : BesideSets l s t) (listed : d ∈ l) (n : Nat) : BesideSets l s (beginProfile d n false t) := by
  unfold Machine.beginProfile
  split
  · exact h
  · extract_lets place x begun opened rested shown held programmed c joined
    have atRested : BesideSets l s rested := ((h.modChan ..).modDoor ..).modEng ..
    have atShown : BesideSets l s shown := (atRested.w _ (doorFields_apart (d - 1) _ (by simp))).w _ (doorFields_apart (d - 1) _ (by simp))
    have atHeld : BesideSets l s held := (atShown.w _ (doorFields_apart (d - 1) _ (by simp))).modEng ..
    have atProgrammed : BesideSets l s programmed := atHeld.beginProgram listed ..
    have atJoined : BesideSets l s joined := atProgrammed.when_ (.raise (atProgrammed.when_ (atProgrammed.w _ (apart_of_high (by decide)))) ..)
    exact (atJoined.when_ (atJoined.doorHold listed)).cycleCheck

theorem BesideSets.doorOff (h : BesideSets l s t) (d : Nat) : BesideSets l s (doorOff d t) := by
  unfold Machine.doorOff
  extract_lets idled
  have atIdled : BesideSets l s idled := (((h.modDoor ..).w _ (doorFields_apart (d - 1) _ (by simp))).modChan ..).modDoor ..
  exact ((atIdled.w _ (doorFields_apart (d - 1) _ (by simp))).modEng ..).cycleCheck

theorem BesideSets.stopBranch (h : BesideSets l s t) (listed : d ∈ l) : BesideSets l s (stopBranch d false t) := by
  unfold Machine.stopBranch
  split
  · exact h
  · dsimp only [State.when_]
    split
    · exact h.beginProfile listed _
    · exact .ite (h.modDoor ..) (h.doorOff d)

theorem BesideSets.doorStart (h : BesideSets l s t) (d n : Nat) : BesideSets l s (doorStart d n t) := by
  refine .ite h ?_
  split
  · exact h.raise ..
  · rename_i p _
    have nudged : BesideSets l s (nudged d n p t).2 := by
      unfold Machine.nudged
      split
      · split
        · exact h.raise ..
        · exact h
      · exact h
    exact .ite (h.raise ..) (.ite (((h.modDoor ..).w _ (doorFields_apart (d - 1) _ (by simp))).raise ..) (nudged.modDoor ..))

theorem BesideSets.doorStartCmd (h : BesideSets l s t) (d profile : Nat) : BesideSets l s (doorStartCmd d profile t) :=
  .ite h (.ite (h.told (told_modMir ..)) ((h.journal _).doorStart ..))

theorem BesideSets.doorStopCmd (h : BesideSets l s t) (listed : d ∈ l) : BesideSets l s (doorStopCmd d t) :=
  .ite (.ite (h.journal _) ((h.journal _).stopBranch listed)) h

/-! #### A command at its actuator -/

/-- The sets whose marks a command at an actuator may change. -/
def Actuator.sets : Actuator → List Nat
  | .door d => [d]
  | .slot k _ => [k]
  | .program k => [k]
  | _ => []

theorem BesideSets.doCommand (h : BesideSets l s t) (n : Nat) (level : Bool) : BesideSets l s (t.doCommand n level) := by
  refine .ite h ?_
  have commanded : BesideSets l s (t.modFio fun x => { x with cmd := setBit x.cmd (n - 1) level }) := h.same
  exact .ite commanded commanded.same

theorem BesideSets.capture (h : BesideSets l s t) (n : Nat) (f : Fire) : BesideSets l s (capture n f t) := by
  unfold Machine.capture
  extract_lets old lost x caps written
  have atWritten : BesideSets l s written := ⟨h.memory, h.pos, h.others, h.posts, h.fields, h.raised⟩
  exact atWritten.when_ (atWritten.raise ..)

theorem besideSets_act (s : State) (c : Command) : BesideSets c.target.sets s (act s c) := by
  have h := BesideSets.refl c.target.sets s
  unfold act
  split <;> rename_i target <;> rw [target] at h ⊢
  · exact h.doCommand ..
  · exact .ite h (.ite h.same h)
  · exact .ite h (h.modChan ..)
  · exact .ite h (h.modEng ..)
  · exact .ite (h.doorStartCmd ..) (h.doorStopCmd List.mem_cons_self)
  · exact .ite (h.armSlot List.mem_cons_self _) (h.modSet _ List.mem_cons_self)
  · exact .ite (h.swapCommand List.mem_cons_self) h
  · exact h.capture ..

end

end Sys2Proof.Machine

/-! PROOFS. The delivery of a car sample as far as the marks (R97): the state in which the car's set is compared, and the comparison of
one slot (R142 to R146). -/

namespace Sys2Proof

open Sys2Proof.Machine

/-! ### The state that is compared -/

/-- A delivery has come to the marks with a known position: what the comparison reads and the actions meet is as it was before. -/
structure ReadyToCompare (s u : Machine.State) : Prop where
  memory : SameMemory s u
  seen : u.ret.seen = true
  sets : u.ret.sets = s.ret.sets
  posts : u.ret.posts = s.ret.posts
  caps : u.ret.caps = s.ret.caps
  fields : SameMarkFields s u
  reqHeld : u.trip.reqHeld = s.trip.reqHeld
  stopPend : (u.chan 0).stopPend = (s.chan 0).stopPend

section
variable {s t u : Machine.State}

/-- The first position places the evaluator and shows the car stop (R160). -/
theorem ReadyToCompare.firstPosition (h : ReadyToCompare s t) : ReadyToCompare s (firstPosition t) := by
  unfold Machine.firstPosition
  split
  · exact h
  · extract_lets placed
    have stopPend : (placed.chan 0).stopPend = (t.chan 0).stopPend := by
      simp only [placed, State.chan_modChan_same, Channel.place]
      rfl
    exact ⟨h.memory, h.seen, h.sets, h.posts, h.caps, h.fields.w _ (by decide), h.reqHeld, stopPend.trans h.stopPend⟩

theorem ReadyToCompare.wake (h : ReadyToCompare s t) (cause : Nat) : ReadyToCompare s (t.wake cause) := by
  obtain ⟨exit, form⟩ := t.wake_form cause
  rw [form]
  exact ⟨h.memory, h.seen, h.sets, h.posts, h.caps, h.fields, h.reqHeld, h.stopPend⟩

theorem ReadyToCompare.posListExpiry (h : ReadyToCompare s t) (pos speed : Int) :
    ReadyToCompare s (t.awake (posListExpiry pos speed)) := by
  unfold State.awake
  split
  · exact h
  · exact ⟨h.memory, h.seen, h.sets, h.posts, h.caps, h.fields, h.reqHeld, h.stopPend⟩

/-- The channels, the model and lane A's share of a delivery without door samples. -/
theorem readyToCompare_deliverFront {x : RawSample} (noDoors : x.doors = false) :
    ReadyToCompare s (deliverFront x (latchTaken s)) := by
  unfold deliverFront
  extract_lets channels modelled sampled
  have kept : FrontKeeps s modelled :=
    ((((FrontKeeps.refl s).pos { s.pos with raw := none }).scDeliver (by decide) _).scDeliver (by decide) _).positionModel ..
  clear_value modelled
  have same : sampled = modelled := if_neg (by simp [noDoors])
  clear_value sampled
  subst same
  obtain ⟨only, fields⟩ := kept
  have trip : sampled.trip = s.trip := by rw [only]
  exact ⟨only.sameMemory, rfl, congrArg (·.sets) only.ret, congrArg (·.posts) only.ret, congrArg (·.caps) only.ret, fields,
    congrArg (·.reqHeld) trip, congrArg (fun x => (nth x.chans 0 {}).stopPend) trip⟩

/-- The memories and the sample are the same. -/
def SampleKept (s t : Machine.State) : Prop := SameMemory s t ∧ t.pos = s.pos

theorem SampleKept.refl (s : Machine.State) : SampleKept s s := ⟨.refl s, rfl⟩

theorem SampleKept.trans (h : SampleKept s t) (h' : SampleKept t u) : SampleKept s u := ⟨h.1.trans h'.1, h'.2.trans h.2⟩

theorem SampleKept.foldl {α : Type} {f : Machine.State → α → Machine.State} (step : ∀ u x, SampleKept u (f u x)) (xs : List α)
    (s : Machine.State) : SampleKept s (xs.foldl f s) := by
  induction xs generalizing s with
  | nil => exact .refl s
  | cons x xs ih => exact (step s x).trans (ih _)

theorem sampleKept_wake (s : Machine.State) (cause : Nat) : SampleKept s (s.wake cause) := by
  obtain ⟨exit, form⟩ := s.wake_form cause
  rw [form]
  exact ⟨⟨rfl, rfl, rfl, rfl⟩, rfl⟩

theorem sampleKept_posListExpiry (s : Machine.State) (pos speed : Int) : SampleKept s (s.awake (posListExpiry pos speed)) := by
  unfold State.awake
  split
  · exact .refl s
  · exact ⟨⟨rfl, rfl, rfl, rfl⟩, rfl⟩

/-- A delivery without door samples compares the car's set, as it was before unless the position is LOST. -/
theorem sampleDelivery_compares {x : RawSample} (latched : s.pos.raw = some x) (noDoors : x.doors = false) :
    ∃ u, sampleDelivery s = fireMarks (compareSet (u, []) 0).2 (compareSet (u, []) 0).1 ∧ SameMemory s u ∧
      (u.pos.sample.conf ≠ 3 → ReadyToCompare s u) := by
  unfold sampleDelivery
  split
  · rename_i none
    cases latched.symm.trans none
  rename_i y some
  cases latched.symm.trans some
  rw [← latchTaken]
  extract_lets was delivered stopped woken expired compared
  have atDelivered : ReadyToCompare s delivered := (readyToCompare_deliverFront noDoors).firstPosition
  have compares : compared = compareSet (expired, []) 0 := by simp only [compared, setsFor, noDoors]; rfl
  refine ⟨expired, by rw [compares], ?_⟩
  by_cases lost : delivered.pos.sample.conf = 3 ∧ was ≠ 3
  · have atStopped : BesideSets [0] delivered stopped := by
      have e : stopped = lossStop delivered := if_pos (by simpa using lost)
      rw [e]
      exact (BesideSets.refl _ _).lossStop
    have atWoken : SampleKept delivered woken := by
      refine SampleKept.trans ⟨atStopped.memory, atStopped.pos⟩ ?_
      unfold woken
      split
      · exact sampleKept_wake ..
      · exact .refl _
    have atExpired : SampleKept delivered expired := atWoken.trans (sampleKept_posListExpiry ..)
    exact ⟨atDelivered.memory.trans atExpired.1, fun known => absurd (by rw [atExpired.2]; exact lost.1) known⟩
  · have e : stopped = delivered := if_neg (by simpa using lost)
    have atWoken : ReadyToCompare s woken := by
      unfold woken
      rw [e]
      split
      · exact atDelivered.wake 4
      · exact atDelivered
    have atExpired : ReadyToCompare s expired := atWoken.posListExpiry ..
    exact ⟨atExpired.memory, fun _ => atExpired⟩

end

end Sys2Proof

/-! PROOFS. The comparison of the car's set with a sample, slot by slot (R142 to R146), and what the marks that fire on it do (R147 to
R150). -/

namespace Sys2Proof

open Sys2Proof.Machine

/-! ### A slot compared -/

section
variable {s : Machine.State} {k i : Nat} {x : SetSample} {fires : List Fire}

theorem set_of_ret {t : Machine.State} (h : t.ret = s.ret) (k : Nat) : t.set k = s.set k := by simp only [State.set, h]

theorem slot_of_ret {t : Machine.State} (h : t.ret = s.ret) (k j : Nat) : t.slot k j = s.slot k j := by
  simp only [State.slot, set_of_ret h]

@[simp] theorem slot_disarmSlot_same (k i : Nat) (s : Machine.State) :
    (disarmSlot k i s).slot k i = { s.slot k i with armed := false, late := false, unchecked := false } := slot_putSlot_same ..

/-- The state in which a slot that has met its condition is withheld by its MIN_CONF (R145). -/
def withheldAt (i : Nat) (s : Machine.State) : Machine.State :=
  ((disarmSlot 0 i s).inc Reg.RET_EXC_COUNT_WITHHELD).raise Evt.RET_WITHHELD
    [.code 0, .code i, .ident (s.slot 0 i).mark.tag, .code s.pos.sample.conf]

/-- The car's set with a slot disarmed and its FIRED bit set. -/
def slotFired (i : Nat) (s : Machine.State) : Machine.State :=
  (disarmSlot 0 i s).putSlot 0 i { (disarmSlot 0 i s).slot 0 i with fired := true }

/-- A firing counted, shown as the last one, and reported if it is late (R146). -/
def firingShown (i : Nat) (m : Mark) (late : Bool) (s : Machine.State) : Machine.State :=
  ((((((s.incWrap Reg.RET_FIRE_COUNT).w Reg.RET_LAST_SLOT i).w Reg.RET_LAST_SET 0).wb Reg.RET_LAST_LATE late).w Reg.RET_LAST_TAG
    m.tag)).when_ late fun s => s.raise Evt.RET_LATE_FIRE [.code 0, .code i, .ident m.tag]

/-- The state in which a slot has fired. -/
def firedAt (i : Nat) (late : Bool) (s : Machine.State) : Machine.State := firingShown i (s.slot 0 i).mark late (slotFired i s)

theorem leaveSlot_withheld {acc : Machine.State × List Fire} (late : Bool)
    (above : (acc.1.slot 0 i).mark.minConf < acc.1.pos.sample.conf) : leaveSlot 0 i late acc = (withheldAt i acc.1, acc.2) := by
  unfold leaveSlot
  extract_lets t m left
  have low : (decide (0 = 0) && decide (m.minConf < left.pos.sample.conf)) = true :=
    Bool.and_eq_true_iff.mpr ⟨rfl, decide_eq_true above⟩
  rw [if_pos low]
  rfl

theorem leaveSlot_fires {acc : Machine.State × List Fire} (late : Bool)
    (within : acc.1.pos.sample.conf ≤ (acc.1.slot 0 i).mark.minConf) :
    leaveSlot 0 i late acc = (firedAt i late acc.1, acc.2 ++ [⟨0, i, (acc.1.slot 0 i).mark, late⟩]) := by
  unfold leaveSlot
  extract_lets t m left
  have sure : ¬(decide (0 = 0) && decide (m.minConf < left.pos.sample.conf)) = true := fun both =>
    absurd (of_decide_eq_true (Bool.and_eq_true_iff.mp both).2) (Nat.not_lt.mpr within)
  rw [if_neg sure]
  rfl

/-! What a slot leaves alone as it leaves its set. -/

/-- The second state has the memories, the sample and the other slots of the car's set of the first. -/
structure OnlySlot (i : Nat) (s t : Machine.State) : Prop where
  kept : SampleKept s t
  others : ∀ j, j ≠ i → t.slot 0 j = s.slot 0 j

theorem OnlySlot.refl (i : Nat) (s : Machine.State) : OnlySlot i s s := ⟨.refl s, fun _ _ => rfl⟩

theorem OnlySlot.trans {t u : Machine.State} (h : OnlySlot i s t) (h' : OnlySlot i t u) : OnlySlot i s u :=
  ⟨h.kept.trans h'.kept, fun j other => (h'.others j other).trans (h.others j other)⟩

theorem onlySlot_putSlot (i : Nat) (s : Machine.State) (x : Slot) : OnlySlot i s (s.putSlot 0 i x) :=
  ⟨⟨⟨rfl, rfl, rfl, rfl⟩, rfl⟩, fun _ h => slot_putSlot_ne s 0 x h⟩

theorem onlySlot_lateFound (i : Nat) (m : Mark) (s : Machine.State) : OnlySlot i s (lateFound 0 i m s) := by
  refine ⟨?_, fun j _ => slot_lateFound 0 i m s 0 j⟩
  obtain ⟨more, form, -⟩ := lateFound_form 0 i m s
  rw [form]
  exact ⟨⟨rfl, rfl, rfl, rfl⟩, rfl⟩

theorem withheldAt_frame (i : Nat) (s : Machine.State) :
    OnlySlot i s (withheldAt i s) ∧ (withheldAt i s).ret.posts = s.ret.posts ∧ (withheldAt i s).ret.caps = s.ret.caps :=
  ⟨⟨⟨⟨rfl, rfl, rfl, rfl⟩, rfl⟩, fun _ h => slot_putSlot_ne s 0 _ h⟩, rfl, rfl⟩

theorem withheldAt_shows (i : Nat) (s : Machine.State) :
    ((withheldAt i s).slot 0 i).armed = false ∧ (withheldAt i s).r Reg.RET_FIRE_COUNT = s.r Reg.RET_FIRE_COUNT ∧
      (withheldAt i s).r Reg.RET_EXC_COUNT_WITHHELD =
        satN Reg.RET_EXC_COUNT_WITHHELD.width (s.r Reg.RET_EXC_COUNT_WITHHELD + 1) ∧
      Evt.RET_WITHHELD.src ∈ (withheldAt i s).raised.map fun x => x.evt.src := by
  have disarmed : (disarmSlot 0 i s).r = s.r := rfl
  refine ⟨?_, ?_, ?_, by simp [withheldAt]⟩
  · exact congrArg Slot.armed (slot_putSlot_same s 0 i _)
  · simp (disch := decide) only [withheldAt, State.raise_r, State.inc_eq, State.r_w_ne, disarmed]
  · simp only [withheldAt, State.raise_r, State.inc_eq, State.r_w_same, disarmed]
    exact Nat.mod_eq_of_lt (satN_lt ..)

/-- Showing a firing changes registers and events alone. -/
theorem firingShown_frame (i : Nat) (m : Mark) (late : Bool) (s : Machine.State) :
    SampleKept s (firingShown i m late s) ∧ (firingShown i m late s).ret = s.ret ∧ (firingShown i m late s).trip = s.trip := by
  unfold firingShown
  cases late <;> simp [SampleKept, SameMemory, State.when_]

theorem firingShown_shows {i : Nat} (hi : i < 256) (m : Mark) (late : Bool) (s : Machine.State) :
    (firingShown i m late s).r Reg.RET_FIRE_COUNT = (s.r Reg.RET_FIRE_COUNT + 1) % 2 ^ Reg.RET_FIRE_COUNT.width ∧
      (firingShown i m late s).r Reg.RET_LAST_SLOT = i ∧ (firingShown i m late s).r Reg.RET_LAST_SET = 0 ∧
      (firingShown i m late s).r Reg.RET_LAST_LATE = b2n late ∧
      (firingShown i m late s).r Reg.RET_EXC_COUNT_CONFLICT = s.r Reg.RET_EXC_COUNT_CONFLICT ∧
      (late = true → Evt.RET_LATE_FIRE.src ∈ (firingShown i m late s).raised.map fun x => x.evt.src) := by
  have slot : i % 2 ^ Reg.RET_LAST_SLOT.width = i := Nat.mod_eq_of_lt hi
  have flag : ∀ b, b2n b % 2 ^ Reg.RET_LAST_LATE.width = b2n b := by decide
  unfold firingShown
  refine ⟨?_, ?_, ?_, ?_, ?_, ?_⟩
  all_goals cases late <;> simp (disch := decide) [State.when_, State.r_w_ne, slot, flag]

/-- What a slot leaves alone as it fires, who holds the evaluator among it. -/
theorem firedAt_frame (i : Nat) (late : Bool) (s : Machine.State) :
    OnlySlot i s (firedAt i late s) ∧ (firedAt i late s).ret.posts = s.ret.posts ∧ (firedAt i late s).ret.caps = s.ret.caps ∧
      (firedAt i late s).trip = s.trip ∧ ((firedAt i late s).set 0).held = (s.set 0).held := by
  obtain ⟨kept, ret, trip⟩ := firingShown_frame i (s.slot 0 i).mark late (slotFired i s)
  have fired : OnlySlot i s (slotFired i s) := (onlySlot_putSlot i s _).trans (onlySlot_putSlot i _ _)
  have shown : OnlySlot i (slotFired i s) (firedAt i late s) := ⟨kept, fun j _ => slot_of_ret ret 0 j⟩
  have held : ((slotFired i s).set 0).held = (s.set 0).held := by simp [slotFired, disarmSlot, State.putSlot]
  exact ⟨fired.trans shown, congrArg (·.posts) ret, congrArg (·.caps) ret, trip, (congrArg (·.held) (set_of_ret ret 0)).trans held⟩

theorem firedAt_slot (i : Nat) (late : Bool) (s : Machine.State) :
    (firedAt i late s).slot 0 i = { s.slot 0 i with armed := false, late := false, unchecked := false, fired := true } := by
  obtain ⟨-, ret, -⟩ := firingShown_frame i (s.slot 0 i).mark late (slotFired i s)
  have slot : (firedAt i late s).slot 0 i = (slotFired i s).slot 0 i := slot_of_ret ret 0 i
  rw [slot, slotFired, slot_putSlot_same, slot_disarmSlot_same]

theorem firedAt_shows {i : Nat} (hi : i < 256) (late : Bool) (s : Machine.State) :
    (firedAt i late s).r Reg.RET_FIRE_COUNT = (s.r Reg.RET_FIRE_COUNT + 1) % 2 ^ Reg.RET_FIRE_COUNT.width ∧
      (firedAt i late s).r Reg.RET_LAST_SLOT = i ∧ (firedAt i late s).r Reg.RET_LAST_SET = 0 ∧
      (firedAt i late s).r Reg.RET_LAST_LATE = b2n late ∧
      (firedAt i late s).r Reg.RET_EXC_COUNT_CONFLICT = s.r Reg.RET_EXC_COUNT_CONFLICT ∧
      (late = true → Evt.RET_LATE_FIRE.src ∈ (firedAt i late s).raised.map fun x => x.evt.src) :=
  firingShown_shows hi _ late (slotFired i s)

/-! ### The car's set compared -/

theorem onlySlot_leaveSlot (i : Nat) (late : Bool) (acc : Machine.State × List Fire) :
    OnlySlot i acc.1 (leaveSlot 0 i late acc).1 := by
  by_cases above : (acc.1.slot 0 i).mark.minConf < acc.1.pos.sample.conf
  · rw [leaveSlot_withheld late above]
    exact (withheldAt_frame i acc.1).1
  · rw [leaveSlot_fires late (Nat.not_lt.mp above)]
    exact (firedAt_frame i late acc.1).1

/-- A comparison changes the slot that is compared alone. -/
theorem onlySlot_compareSlot (x : SetSample) (acc : Machine.State × List Fire) (i : Nat) :
    OnlySlot i acc.1 (compareSlot 0 x acc i).1 := by
  have same := OnlySlot.refl i acc.1
  unfold compareSlot
  extract_lets t
  split_ifs
  · exact same
  · exact onlySlot_leaveSlot ..
  · split
    · rename_i checked _
      have found : OnlySlot i acc.1 (lateFound 0 i checked.mark (acc.1.putSlot 0 i checked)) :=
        (onlySlot_putSlot ..).trans (onlySlot_lateFound ..)
      dsimp only
      split
      · exact found.trans (onlySlot_leaveSlot i true (_, acc.2))
      · exact found
    · exact onlySlot_putSlot ..
  · exact same
  · exact onlySlot_leaveSlot ..
  · exact onlySlot_leaveSlot ..
  · exact same

/-- A slot that is not armed is passed over. -/
theorem compareSlot_unarmed {acc : Machine.State × List Fire} (unarmed : (acc.1.slot k i).armed = false) :
    compareSlot k x acc i = acc := if_pos (by simp [unarmed])

/-- A slot that is late, or crosses, leaves its set (R143, R145, R146). -/
theorem compareSlot_leaves {acc : Machine.State × List Fire} (armed : (acc.1.slot k i).armed = true)
    (checked : (acc.1.slot k i).unchecked = false)
    (h : (acc.1.slot k i).late = true ∨ crosses (acc.1.slot k i).mark x = true) :
    compareSlot k x acc i = leaveSlot k i (acc.1.slot k i).late acc := by
  unfold compareSlot
  cases late : (acc.1.slot k i).late
  · have crossed := h.resolve_left (by simp [late])
    have dir := dir_of_crosses crossed
    simp [armed, late, checked, crossed, show (acc.1.slot k i).mark.dir ≠ 3 by omega]
  · simp [armed, late]

/-- A slot of DIR up or down that does not cross stays as it is. -/
theorem compareSlot_ahead {acc : Machine.State × List Fire} (checked : (acc.1.slot k i).unchecked = false)
    (timely : (acc.1.slot k i).late = false) (dir : (acc.1.slot k i).mark.dir ≠ 3)
    (ahead : crosses (acc.1.slot k i).mark x = false) : compareSlot k x acc i = acc := by
  unfold compareSlot
  simp [checked, timely, dir, ahead]

/-- The sample that the car's set is compared with. -/
def carSample (s : Machine.State) : SetSample :=
  ⟨s.pos.sample.pos, decide (0 ≤ s.pos.sample.speed), decide (s.pos.sample.speed ≤ 0)⟩

/-- With a known position the slots that are armed are compared, in ascending order. -/
theorem compareSet_armed {l : List Nat} (seen : s.ret.seen = true) (known : s.pos.sample.conf ≠ 3) (rising : l.SortedLT)
    (below : ∀ q ∈ l, q < 256) (unarmed : ∀ q, q < 256 → q ∉ l → (s.slot 0 q).armed = false) :
    compareSet (s, []) 0 = l.foldl (compareSlot 0 (carSample s)) (s, []) := by
  have comparable : s.comparable 0 = some (carSample s) := by simp [State.comparable, seen, known, carSample]
  unfold compareSet
  rw [comparable]
  dsimp only
  rw [show setSize 0 = 256 from rfl, foldl_eq_filter (p := fun q => decide (q ∈ l)) fun acc =>
    ∀ q, q < 256 → q ∉ l → (acc.1.slot 0 q).armed = false, filter_range rising below]
  · intro acc q hq idle other
    exact compareSlot_unarmed (idle q (List.mem_range.mp hq) (by simpa using other))
  · intro acc q _ idle acts p hp other
    rw [(onlySlot_compareSlot _ acc q).others p fun e => other (by rw [e]; simpa using acts)]
    exact idle p hp other
  · exact unarmed

/-- A comparison of the car's set keeps the memories and the sample. -/
theorem sampleKept_compareSet (s : Machine.State) : SampleKept s (compareSet (s, []) 0).1 := by
  unfold compareSet
  split
  · exact .refl s
  · have step (l : List Nat) (x : SetSample) (acc : Machine.State × List Fire) : SampleKept acc.1 (l.foldl (compareSlot 0 x) acc).1 := by
      induction l generalizing acc with
      | nil => exact .refl acc.1
      | cons i l ih => exact (onlySlot_compareSlot x acc i).kept.trans (ih _)
    exact step ..

end

end Sys2Proof

/-! PROOFS. What the marks that fire on a sample do: their posts, the conflicts of two, and each action at its actuator (R147, R148,
R150). -/

namespace Sys2Proof

open Sys2Proof.Machine

/-! ### Posts (R150) -/

/-- A mark that fires has entered its post: registers, events and the post queue may have changed, and a parked module's exit cause. -/
structure PostQueued (f : Fire) (s t : Machine.State) : Prop where
  kept : SampleKept s t
  sets : t.ret.sets = s.ret.sets
  caps : t.ret.caps = s.ret.caps
  trip : t.trip = s.trip
  fields : SameMarkFields s t
  raised : s.raised ⊆ t.raised
  room : f.mark.postEn = true → s.ret.posts.length < 512 → t.ret.posts = s.ret.posts ++ [⟨f.mark.post % 4096⟩]
  full : f.mark.postEn = true → 512 ≤ s.ret.posts.length →
    t.ret.posts = s.ret.posts ∧ Evt.RET_POST_LOST.src ∈ t.raised.map fun x => x.evt.src

theorem postQueued_queuePost (s : Machine.State) (f : Fire) : PostQueued f s (queuePost s f) := by
  unfold queuePost
  extract_lets woken posts queued
  obtain ⟨exit, form⟩ : ∃ exit, woken = { s with pwr := { s.pwr with exit := exit } } := by
    unfold woken
    split
    · exact s.wake_form 5
    · exact ⟨s.pwr.exit, rfl⟩
  have kept : SampleKept s woken := by rw [form]; exact ⟨⟨rfl, rfl, rfl, rfl⟩, rfl⟩
  have ret : woken.ret = s.ret := by rw [form]
  have trip : woken.trip = s.trip := by rw [form]
  have fields : SameMarkFields s woken := .of_regs (by rw [form])
  have raised : woken.raised = s.raised := by rw [form]
  clear_value woken
  split_ifs with off room
  · exact ⟨kept, by rw [ret], by rw [ret], trip, fields, by simp [raised], fun on => by simp [on] at off, fun on => by simp [on] at off⟩
  · have entered : posts = s.ret.posts ++ [⟨f.mark.post % 4096⟩] := by simp only [posts, ret]
    exact {
      kept := kept.trans ⟨⟨rfl, rfl, rfl, rfl⟩, rfl⟩
      sets := congrArg (·.sets) ret
      caps := congrArg (·.caps) ret
      trip := trip
      fields := SameMarkFields.w (f := Reg.RET_POST_PEAK) fields _ (by decide)
      raised := raised.symm ▸ List.Subset.refl _
      room := fun _ _ => entered
      full := fun _ long => absurd (ret ▸ room) (Nat.not_lt.mpr long) }
  · exact {
      kept := kept.trans ⟨⟨rfl, rfl, rfl, rfl⟩, rfl⟩
      sets := congrArg (·.sets) ret
      caps := congrArg (·.caps) ret
      trip := trip
      fields := SameMarkFields.w (f := Reg.RET_EXC_COUNT_POST_LOST) fields _ (by decide)
      raised := by simp [raised]
      room := fun _ short => absurd (ret.symm ▸ short) room
      full := fun _ _ => ⟨congrArg (·.posts) ret, by simp⟩ }

/-! ### Conflicts (R148) -/

/-- A command that loses a conflict is counted and reported. -/
def conflictLost (s : Machine.State) (c : Command) : Machine.State :=
  (s.inc Reg.RET_EXC_COUNT_CONFLICT).raise Evt.RET_CONFLICT [.code c.fire.set, .code c.fire.slot, .ident c.fire.mark.tag]

theorem sampleKept_resolveMarks (fires : List Fire) (s : Machine.State) : SampleKept s (resolveMarks fires s).1 :=
  SampleKept.foldl (f := conflictLost) (fun _ _ => ⟨⟨rfl, rfl, rfl, rfl⟩, rfl⟩) _ s

/-- One mark that fires meets no other. -/
theorem resolveMarks_one (f : Fire) (s : Machine.State) : resolveMarks [f] s = (s, f.targets.map fun t => ⟨f, t⟩) := by
  have l : ([f].flatMap fun f => f.targets.map fun t => (⟨f, t⟩ : Command)) = f.targets.map fun t => ⟨f, t⟩ := by simp
  have unbeaten : ∀ c ∈ f.targets.map (fun t => (⟨f, t⟩ : Command)), beaten (f.targets.map fun t => ⟨f, t⟩) c = false := by
    intro c hc
    obtain ⟨t, -, rfl⟩ := List.mem_map.mp hc
    simp [beaten]
  unfold resolveMarks
  dsimp only
  rw [l, List.filter_eq_nil_iff.mpr fun c hc => by simp [unbeaten c hc], List.filter_eq_self.mpr fun c hc => by simp [unbeaten c hc]]
  rfl

/-- Of two marks with a command to one actuator, and none beside it, the one of lower rank takes effect. -/
theorem resolveMarks_two {f g : Fire} {n : Actuator} (hf : f.targets = [n]) (hg : g.targets = [n]) (s : Machine.State) :
    (f.rank < g.rank → resolveMarks [f, g] s = (conflictLost s ⟨g, n⟩, [⟨f, n⟩])) ∧
      (g.rank < f.rank → resolveMarks [f, g] s = (conflictLost s ⟨f, n⟩, [⟨g, n⟩])) := by
  constructor <;> intro lower <;> simp [resolveMarks, hf, hg, beaten, lower, Nat.lt_asymm lower, conflictLost]

/-! ### The marks that fire -/

/-- Whatever fires, the memories and the sample stay. -/
theorem sampleKept_fireMarks (fires : List Fire) (s : Machine.State) : SampleKept s (fireMarks fires s) := by
  have posted : SampleKept s (fires.foldl queuePost s) := SampleKept.foldl (fun u f => (postQueued_queuePost u f).kept) fires s
  have acted (cs : List Command) (u : Machine.State) : SampleKept u (cs.foldl act u) :=
    SampleKept.foldl (fun u c => ⟨(besideSets_act u c).memory, (besideSets_act u c).pos⟩) cs u
  exact (posted.trans (sampleKept_resolveMarks ..)).trans (acted ..)

theorem fireMarks_none (s : Machine.State) : fireMarks [] s = s := rfl

theorem fireMarks_one (f : Fire) (s : Machine.State) :
    fireMarks [f] s = (f.targets.map fun t => (⟨f, t⟩ : Command)).foldl act (queuePost s f) := by
  unfold fireMarks
  rw [List.foldl_cons, List.foldl_nil, resolveMarks_one]

/-- A mark of the car's set commands no mark of that set, but by SLOT and SWAP (Table 05-3). -/
theorem sets_of_mem_targets {f : Fire} (noSlot : f.mark.kind ≠ 6) (noSwap : f.mark.kind ≠ 7) :
    ∀ n ∈ f.targets, n.sets ⊆ [1, 2, 3, 4] := by
  intro n hn
  unfold Fire.targets at hn
  extract_lets a k at hn
  rw [if_neg (c := k = 6) noSlot, if_neg (c := k = 7) noSwap] at hn
  split_ifs at hn
  · simp_all [Actuator.sets]
  · simp_all [Actuator.sets]
  · simp_all [Actuator.sets]
  · simp_all [Actuator.sets]
  · obtain rfl := List.mem_singleton.mp hn
    simp [Actuator.sets]
    omega
  · simp_all [Actuator.sets]
  · cases hn

theorem besideSets_mono {l l' : List Nat} {s t : Machine.State} (h : BesideSets l s t) (sub : l ⊆ l') : BesideSets l' s t :=
  ⟨h.memory, h.pos, fun j hj => h.others j fun m => hj (sub m), h.posts, h.fields, h.raised⟩

/-- A mark that fires alone, and commands no slot or swap, leaves the car's set as its firing has left it. -/
theorem besideSets_fireMarks_one {f : Fire} (noSlot : f.mark.kind ≠ 6) (noSwap : f.mark.kind ≠ 7) (s : Machine.State) :
    BesideSets [1, 2, 3, 4] (queuePost s f) (fireMarks [f] s) := by
  rw [fireMarks_one]
  have step : ∀ l : List Actuator, (∀ n ∈ l, n.sets ⊆ [1, 2, 3, 4]) → ∀ u,
      BesideSets [1, 2, 3, 4] u ((l.map fun t => (⟨f, t⟩ : Command)).foldl act u) := by
    intro l
    induction l with
    | nil => exact fun _ u => .refl _ u
    | cons n l ih =>
      intro sub u
      exact (besideSets_mono (besideSets_act u ⟨f, n⟩) (sub n List.mem_cons_self)).trans
        (ih (fun m hm => sub m (List.mem_cons_of_mem _ hm)) _)
  exact step _ (sets_of_mem_targets noSlot noSwap) _

/-! ### Each action at its actuator (Table 05-3) -/

section
variable {f : Fire} {s : Machine.State}

theorem fireMarks_output (kind : f.mark.kind = 1) :
    fireMarks [f] s = (queuePost s f).doCommand (f.mark.action % 32) (bitAt f.mark.action 8) := by
  rw [fireMarks_one, show f.targets = [.output (f.mark.action % 32)] by simp [Fire.targets, kind]]
  rfl

theorem fireMarks_request (kind : f.mark.kind = 2) :
    fireMarks [f] s = requestAction (f.mark.action % 16) (bitAt f.mark.action 8) (queuePost s f) := by
  rw [fireMarks_one, show f.targets = [.request (f.mark.action % 16)] by simp [Fire.targets, kind]]
  rfl

theorem fireMarks_eval (kind : f.mark.kind = 3) : fireMarks [f] s = evalAction f.set (f.mark.action % 256) (queuePost s f) := by
  rw [fireMarks_one, show f.targets = [.evaluator f.set] by simp [Fire.targets, kind]]
  rfl

theorem targets_capture (kind : f.mark.kind = 8) : f.targets = [.capture (f.mark.action % 8)] := by simp [Fire.targets, kind]

theorem fireMarks_capture (kind : f.mark.kind = 8) : fireMarks [f] s = capture (f.mark.action % 8) f (queuePost s f) := by
  rw [fireMarks_one, targets_capture kind]
  rfl

/-- A standard output has the level that it was last commanded (R295). -/
theorem bitAt_doCommand {n : Nat} (low : 1 ≤ n) (high : n ≤ 24) (level : Bool) (s : Machine.State) :
    bitAt (s.doCommand n level).fio.cmd (n - 1) = level := by
  unfold State.doCommand
  split_ifs with same
  · exact (same.resolve_left (by omega)).resolve_left (by omega)
  · have kept (u : Machine.State) (i : Nat) : (u.doChanged i).fio.cmd = u.fio.cmd := by
      unfold State.doChanged
      split <;> rfl
    rw [kept]
    exact bitAt_setBit_same ..

theorem requested_request {n : Nat} (low : 1 ≤ n) (high : n ≤ 6) (on : Bool) (s : Machine.State) : (s.request n on).requested n = on := by
  unfold State.request
  rw [if_pos ⟨low, high⟩]
  exact bitAt_setBit_same ..

theorem requestAction_free {n : Nat} (free : s.trip.reqHeld = false) (on : Bool) : requestAction n on s = s.request n on :=
  if_neg (by simp [free])

/-- The car's evaluator takes the segment of an EVAL action that nothing holds (R161). -/
theorem evalAction_car (noStop : (s.chan 0).stopPend = none) (free : (s.set 0).held = false) (seg : Nat) :
    ((evalAction 0 seg s).chan 0).evalPend = some seg := by
  unfold evalAction
  rw [if_neg (by simp [noStop, free]), State.chan_modChan_same]

/-- A CAPTURE of the car's set holds the sample (R150). -/
theorem caps_capture (n : Nat) (car : f.set = 0) :
    nth (capture n f s).ret.caps n {} =
      { pos := s.pos.sample.pos, speed := s.pos.sample.speed, time := s.pos.sample.time.toNat % 2 ^ 32, slot := f.slot, set := 0,
        late := f.late, overwritten := (nth s.ret.caps n {}).valid && (nth s.ret.caps n {}).unread, valid := true, tag := f.mark.tag,
        unread := true } := by
  unfold capture
  extract_lets old lost x caps written
  have kept : (written.when_ lost fun s => s.raise Evt.RET_CAPTURE_OVERWRITE [.code n]).ret = written.ret := by
    unfold State.when_
    split <;> rfl
  rw [kept]
  exact (nth_setAt_same ..).trans (by simp [x, car, lost, old])

end

/-! ### A delivery with one mark armed -/

section
variable {s : Machine.State} {i : Nat}

/-- A delivery ends with the memories and the sample that the comparison had. -/
theorem sampleKept_delivered (u : Machine.State) :
    SampleKept u (fireMarks (compareSet (u, []) 0).2 (compareSet (u, []) 0).1).fin := by
  have kept := (sampleKept_compareSet u).trans (sampleKept_fireMarks (compareSet (u, []) 0).2 _)
  exact ⟨(sameMemory_fin ..).mpr kept.1, (State.fin_pos _).trans kept.2⟩

theorem ReadyToCompare.slot {u : Machine.State} (ready : ReadyToCompare s u) (j : Nat) : u.slot 0 j = s.slot 0 j := by
  simp only [State.slot, State.set, ready.sets]

/-- With one mark armed, and checked, the comparison is that slot's. -/
theorem compareSet_one {u : Machine.State} (ready : ReadyToCompare s u) (known : u.pos.sample.conf ≠ 3) (hi : i < 256)
    (unarmed : ∀ j, j < 256 → j ≠ i → (s.slot 0 j).armed = false) :
    compareSet (u, []) 0 = compareSlot 0 (carSample u) (u, []) i := by
  refine compareSet_armed (l := [i]) ready.seen known (by simp [List.sortedLT_iff_pairwise]) (by simpa using hi) ?_
  intro j hj other
  rw [ready.slot]
  exact unarmed j hj (by simpa using other)

end

end Sys2Proof

/-! PROOFS. The delivery of a car sample with one mark armed, and with two late CAPTUREs to one register (R143 to R150). -/

namespace Sys2Proof

open Sys2Proof.Machine

/-! ### One mark armed -/

/-- The state that a comparison of the car's set and the marks that fire in it leave. -/
def delivered (u : Machine.State) : Machine.State := fireMarks (compareSet (u, []) 0).2 (compareSet (u, []) 0).1

/-- SAMPLE_DELIVERY without door samples: the comparison of a state that is as it was before, unless the position is LOST. -/
theorem sampleDelivery_runs {s : Machine.State} {x : RawSample} (latched : s.pos.raw = some x) (noDoors : x.doors = false) :
    ∃ u, exec .sampleDelivery s = .next (delivered u).fin ∧ (delivered u).fin.pos = u.pos ∧ SameMemory s (delivered u).fin ∧
      (u.pos.sample.conf ≠ 3 → ReadyToCompare s u) := by
  obtain ⟨u, compares, memory, ready⟩ := sampleDelivery_compares latched noDoors
  have kept : SampleKept u (delivered u).fin := sampleKept_delivered u
  have run : exec .sampleDelivery s = .next (sampleDelivery s).fin := rfl
  exact ⟨u, by rw [run, compares, delivered], kept.2, memory.trans kept.1, ready⟩

section
variable {s u : Machine.State} {i : Nat} {m : Mark} (ready : ReadyToCompare s u) (known : u.pos.sample.conf ≠ 3) (hi : i < 256)
  (armed : (s.slot 0 i).armed = true) (mark : (s.slot 0 i).mark = m) (checked : (s.slot 0 i).unchecked = false)
  (unarmed : ∀ j, j < 256 → j ≠ i → (s.slot 0 j).armed = false)
include ready known hi armed mark checked unarmed

omit armed in
theorem delivered_ahead (timely : (s.slot 0 i).late = false) (dir : m.dir = 1 ∨ m.dir = 2) (ahead : crosses m (carSample u) = false) :
    delivered u = u := by
  subst mark
  have same : compareSet (u, []) 0 = (u, []) := by
    rw [compareSet_one ready known hi unarmed]
    refine compareSlot_ahead ?_ ?_ ?_ ?_ <;> simp only [ready.slot]
    exacts [checked, timely, by omega, ahead]
  rw [delivered, same, fireMarks_none]

theorem compareSet_leaves (leaves : (s.slot 0 i).late = true ∨ crosses m (carSample u) = true) :
    compareSet (u, []) 0 = leaveSlot 0 i (s.slot 0 i).late (u, []) := by
  subst mark
  rw [compareSet_one ready known hi unarmed, compareSlot_leaves] <;> simp only [ready.slot]
  exacts [armed, checked, leaves]

theorem delivered_withheld (leaves : (s.slot 0 i).late = true ∨ crosses m (carSample u) = true)
    (above : m.minConf < u.pos.sample.conf) : delivered u = withheldAt i u := by
  have e := compareSet_leaves ready known hi armed mark checked unarmed leaves
  rw [leaveSlot_withheld _ (by rw [ready.slot, mark]; exact above)] at e
  rw [delivered, e, fireMarks_none]

theorem delivered_fires (leaves : (s.slot 0 i).late = true ∨ crosses m (carSample u) = true)
    (within : u.pos.sample.conf ≤ m.minConf) :
    delivered u = fireMarks [⟨0, i, m, (s.slot 0 i).late⟩] (firedAt i (s.slot 0 i).late u) := by
  have e := compareSet_leaves ready known hi armed mark checked unarmed leaves
  rw [leaveSlot_fires _ (by rw [ready.slot, mark]; exact within)] at e
  rw [delivered, e, ready.slot, mark]
  rfl

end

/-- A delivery at which the armed mark does not cross. -/
theorem sampleDelivery_ahead {s u : Machine.State} {i : Nat} (ready : ReadyToCompare s u) (stays : delivered u = u) :
    (delivered u).fin.slot 0 i = s.slot 0 i ∧ (delivered u).fin.r Reg.RET_FIRE_COUNT = s.r Reg.RET_FIRE_COUNT ∧
      (delivered u).fin.ret.posts = s.ret.posts ∧ (delivered u).fin.ret.caps = s.ret.caps := by
  rw [stays, fin_slot, State.fin_r, State.fin_ret]
  exact ⟨ready.slot i, ready.fields _ (by simp [markFields]), ready.posts, ready.caps⟩

/-- A delivery at which the armed mark is withheld by its MIN_CONF (R145). -/
theorem sampleDelivery_withheld {s u : Machine.State} {i : Nat} (ready : ReadyToCompare s u) (withheld : delivered u = withheldAt i u) :
    ((delivered u).fin.slot 0 i).armed = false ∧ Pending Evt.RET_WITHHELD (delivered u).fin ∧
      (delivered u).fin.r Reg.RET_EXC_COUNT_WITHHELD =
        satN Reg.RET_EXC_COUNT_WITHHELD.width (s.r Reg.RET_EXC_COUNT_WITHHELD + 1) ∧
      (delivered u).fin.r Reg.RET_FIRE_COUNT = s.r Reg.RET_FIRE_COUNT ∧ (delivered u).fin.ret.posts = s.ret.posts ∧
      (delivered u).fin.ret.caps = s.ret.caps := by
  obtain ⟨-, posts, caps⟩ := withheldAt_frame i u
  obtain ⟨disarmed, fires, count, told⟩ := withheldAt_shows i u
  rw [withheld, fin_slot, State.fin_r, State.fin_r, State.fin_ret]
  rw [ready.fields _ (by simp [markFields])] at fires count
  exact ⟨disarmed, pending_fin told, count, fires, posts.trans ready.posts, caps.trans ready.caps⟩

/-- A delivery at which the armed mark fires: what its slot, the registers and the post queue show (R146, R150). -/
theorem fired_shows {s u : Machine.State} {i : Nat} {m : Mark} {late : Bool} (hi : i < 256) (ready : ReadyToCompare s u)
    (fires : delivered u = fireMarks [⟨0, i, m, late⟩] (firedAt i late u)) (noSlot : m.kind ≠ 6) (noSwap : m.kind ≠ 7) :
    ((delivered u).fin.slot 0 i).armed = false ∧ ((delivered u).fin.slot 0 i).fired = true ∧
      (delivered u).fin.r Reg.RET_FIRE_COUNT = (s.r Reg.RET_FIRE_COUNT + 1) % 2 ^ Reg.RET_FIRE_COUNT.width ∧
      (delivered u).fin.r Reg.RET_LAST_SLOT = i ∧ (delivered u).fin.r Reg.RET_LAST_SET = 0 ∧
      (delivered u).fin.r Reg.RET_LAST_LATE = b2n late ∧ (late = true → Pending Evt.RET_LATE_FIRE (delivered u).fin) ∧
      (m.postEn = true → s.ret.posts.length < 512 → (delivered u).fin.ret.posts = s.ret.posts ++ [⟨m.post % 4096⟩]) ∧
      (m.postEn = true → 512 ≤ s.ret.posts.length →
        Pending Evt.RET_POST_LOST (delivered u).fin ∧ (delivered u).fin.ret.posts = s.ret.posts) := by
  obtain ⟨-, posts, -, -, -⟩ := firedAt_frame i late u
  obtain ⟨count, slot, set, lateShown, -, told⟩ := firedAt_shows hi late u
  have queued := postQueued_queuePost (firedAt i late u) ⟨0, i, m, late⟩
  have acted : BesideSets [1, 2, 3, 4] _ (delivered u) := fires ▸ besideSets_fireMarks_one noSlot noSwap (firedAt i late u)
  have fields : SameMarkFields (firedAt i late u) (delivered u) := queued.fields.trans acted.fields
  have inSlot : (delivered u).slot 0 i = (firedAt i late u).slot 0 i := by
    simp only [State.slot, acted.others 0 (by simp)]
    simp only [State.set, queued.sets]
  have entered : (firedAt i late u).ret.posts = s.ret.posts := posts.trans ready.posts
  have room := queued.room
  have full := queued.full
  rw [entered] at room full
  have shows (g : Field) (hg : g ∈ markFields) : (delivered u).fin.r g = (firedAt i late u).r g :=
    (State.fin_r ..).trans (fields g hg)
  rw [fin_slot, inSlot, firedAt_slot, shows _ (by simp [markFields]), shows _ (by simp [markFields]), shows _ (by simp [markFields]),
    shows _ (by simp [markFields]), count, ready.fields _ (by simp [markFields]), State.fin_ret, acted.posts]
  refine ⟨rfl, rfl, rfl, slot, set, lateShown, fun h => ?_, room, fun on long => ⟨?_, (full on long).1⟩⟩
  · exact pending_fin (List.map_subset _ (fun _ hx => acted.raised (queued.raised hx)) (told h))
  · exact pending_fin (List.map_subset _ acted.raised (full on long).2)

section
variable {s u : Machine.State} {i : Nat} {m : Mark} {late : Bool} (ready : ReadyToCompare s u)
  (fires : delivered u = fireMarks [⟨0, i, m, late⟩] (firedAt i late u))
include ready fires

/-- A REQUEST that no reaction holds sets or clears its request (Table 05-3). -/
theorem fired_request (kind : m.kind = 2) (low : 1 ≤ m.action % 16) (high : m.action % 16 ≤ 6) (free : s.trip.reqHeld = false) :
    (delivered u).fin.requested (m.action % 16) = bitAt m.action 8 := by
  obtain ⟨-, -, -, trip, -⟩ := firedAt_frame i late u
  have queued := postQueued_queuePost (firedAt i late u) ⟨0, i, m, late⟩
  have held : (queuePost (firedAt i late u) ⟨0, i, m, late⟩).trip.reqHeld = false := by
    rw [queued.trip, trip, ready.reqHeld, free]
  rw [fires, fireMarks_request kind, requestAction_free held]
  simpa [State.requested] using requested_request low high (bitAt m.action 8) _

/-- An EVAL that nothing holds is pending for the car's evaluator (Table 05-3). -/
theorem fired_eval (kind : m.kind = 3) (noStop : (s.chan 0).stopPend = none) (free : (s.set 0).held = false) :
    ((delivered u).fin.chan 0).evalPend = some (m.action % 256) := by
  obtain ⟨-, -, -, trip, held⟩ := firedAt_frame i late u
  have queued := postQueued_queuePost (firedAt i late u) ⟨0, i, m, late⟩
  rw [State.fin_chan, fires, fireMarks_eval kind]
  refine evalAction_car ?_ ?_ _
  · rw [State.chan, queued.trip, trip]
    exact ready.stopPend.trans noStop
  · rw [State.set, queued.sets]
    refine held.trans ?_
    rw [State.set, ready.sets]
    exact free

/-- A CAPTURE writes the sample into its register (R150). -/
theorem fired_capture (kind : m.kind = 8) :
    nth (delivered u).fin.ret.caps (m.action % 8) {} =
      { pos := u.pos.sample.pos, speed := u.pos.sample.speed, time := u.pos.sample.time.toNat % 2 ^ 32, slot := i, set := 0,
        late := late, overwritten := (nth s.ret.caps (m.action % 8) {}).valid && (nth s.ret.caps (m.action % 8) {}).unread,
        valid := true, tag := m.tag, unread := true } := by
  obtain ⟨only, -, caps, -, -⟩ := firedAt_frame i late u
  have queued := postQueued_queuePost (firedAt i late u) ⟨0, i, m, late⟩
  rw [State.fin_ret, fires, fireMarks_capture kind, caps_capture _ rfl, queued.caps, caps, ready.caps, queued.kept.2, only.kept.2]

end

/-- A DO commands its output (Table 05-3). -/
theorem fired_output {u v : Machine.State} {f : Fire} (fires : delivered u = fireMarks [f] v) (kind : f.mark.kind = 1)
    (low : 1 ≤ f.mark.action % 32) (high : f.mark.action % 32 ≤ 24) :
    bitAt (delivered u).fin.fio.cmd (f.mark.action % 32 - 1) = bitAt f.mark.action 8 := by
  rw [State.fin_fio, fires, fireMarks_output kind]
  exact bitAt_doCommand low high ..

end Sys2Proof

/-! PROOFS. Two late CAPTUREs to one register (R148), and the statement of marks. -/

namespace Sys2Proof

open Sys2Proof.Machine

/-! ### Two late marks -/

/-- The CAPTURE of one mark with that of another lost to it. -/
def captureOver (n : Nat) (f g : Fire) (s : Machine.State) : Machine.State := capture n f (conflictLost s ⟨g, .capture n⟩)

theorem captureOver_shows {n : Nat} {f : Fire} (g : Fire) (s : Machine.State) (car : f.set = 0) :
    (nth (captureOver n f g s).ret.caps n {}).slot = f.slot ∧ (nth (captureOver n f g s).ret.caps n {}).valid = true ∧
      (captureOver n f g s).r Reg.RET_EXC_COUNT_CONFLICT =
        satN Reg.RET_EXC_COUNT_CONFLICT.width (s.r Reg.RET_EXC_COUNT_CONFLICT + 1) ∧
      Evt.RET_CONFLICT.src ∈ (captureOver n f g s).raised.map fun x => x.evt.src := by
  have written : BesideSets [] (conflictLost s ⟨g, .capture n⟩) (captureOver n f g s) := (BesideSets.refl ..).capture n f
  have counted : (conflictLost s ⟨g, .capture n⟩).r Reg.RET_EXC_COUNT_CONFLICT =
      satN Reg.RET_EXC_COUNT_CONFLICT.width (s.r Reg.RET_EXC_COUNT_CONFLICT + 1) := by
    rw [conflictLost, State.raise_r, State.inc_eq, State.r_w_same]
    exact Nat.mod_eq_of_lt (satN_lt ..)
  have said : Evt.RET_CONFLICT.src ∈ (conflictLost s ⟨g, .capture n⟩).raised.map fun x => x.evt.src := by simp [conflictLost]
  refine ⟨?_, ?_, (written.fields _ (by simp [markFields])).trans counted, List.map_subset _ written.raised said⟩
  · rw [captureOver, caps_capture n car]
  · rw [captureOver, caps_capture n car]

theorem fireMarks_captures {f g : Fire} {n : Nat} (hf : f.targets = [.capture n]) (hg : g.targets = [.capture n]) (s : Machine.State) :
    (f.rank < g.rank → fireMarks [f, g] s = captureOver n f g (queuePost (queuePost s f) g)) ∧
      (g.rank < f.rank → fireMarks [f, g] s = captureOver n g f (queuePost (queuePost s f) g)) := by
  obtain ⟨first, second⟩ := resolveMarks_two hf hg (queuePost (queuePost s f) g)
  constructor <;> intro lower <;> unfold fireMarks <;> rw [List.foldl_cons, List.foldl_cons, List.foldl_nil]
  · rw [first lower]
    rfl
  · rw [second lower]
    rfl

/-- Of two marks of the car's set that capture into one register, the one of lower PRIO, then of lower slot, takes effect (R148). -/
theorem fireMarks_captures_slot {i j n : Nat} {a b : Mark} (hij : i < j) (hj : j < 256) (ka : a.kind = 8) (kb : b.kind = 8)
    (na : a.action % 8 = n) (nb : b.action % 8 = n) (s : Machine.State) :
    ∃ v f g, fireMarks [⟨0, i, a, true⟩, ⟨0, j, b, true⟩] s = captureOver n f g v ∧ f.set = 0 ∧
      f.slot = (if a.prio ≤ b.prio then i else j) ∧ SameMarkFields s v := by
  obtain ⟨first, second⟩ := fireMarks_captures (f := ⟨0, i, a, true⟩) (g := ⟨0, j, b, true⟩) (n := n)
    (na ▸ targets_capture ka) (nb ▸ targets_capture kb) s
  have fields := (postQueued_queuePost s ⟨0, i, a, true⟩).fields.trans (postQueued_queuePost _ ⟨0, j, b, true⟩).fields
  by_cases prio : a.prio ≤ b.prio
  · exact ⟨_, _, _, first (by simp only [Fire.rank]; omega), rfl, (if_pos prio).symm, fields⟩
  · exact ⟨_, _, _, second (by simp only [Fire.rank]; omega), rfl, (if_neg prio).symm, fields⟩

/-- The comparison of the car's set with two late marks armed. -/
theorem delivered_two {s u : Machine.State} {i j : Nat} {a b : Mark} (ready : ReadyToCompare s u) (known : u.pos.sample.conf ≠ 3)
    (hij : i < j) (hj : j < 256) (armed : ∀ q, q < 256 → (s.slot 0 q).armed = (decide (q = i) || decide (q = j)))
    (late : ∀ q, (q = i ∨ q = j) → (s.slot 0 q).unchecked = false ∧ (s.slot 0 q).late = true)
    (markA : (s.slot 0 i).mark = a) (markB : (s.slot 0 j).mark = b)
    (withinA : u.pos.sample.conf ≤ a.minConf) (withinB : u.pos.sample.conf ≤ b.minConf) :
    delivered u = fireMarks [⟨0, i, a, true⟩, ⟨0, j, b, true⟩] (firedAt j true (firedAt i true u)) := by
  have leaves {v : Machine.State} {fires : List Fire} {q : Nat} {m : Mark} (hq : q = i ∨ q = j) (same : v.slot 0 q = s.slot 0 q)
      (pos : v.pos = u.pos) (mark : (s.slot 0 q).mark = m) (within : u.pos.sample.conf ≤ m.minConf) :
      compareSlot 0 (carSample u) (v, fires) q = (firedAt q true v, fires ++ [⟨0, q, m, true⟩]) := by
    obtain ⟨checked, isLate⟩ := late q hq
    rw [compareSlot_leaves, leaveSlot_fires] <;> simp only [same, isLate, mark, pos]
    · exact within
    · rw [armed q (by omega)]
      simpa using hq
    · exact checked
    · exact .inl trivial
  obtain ⟨firstOnly, -⟩ := firedAt_frame i true u
  have second : (firedAt i true u).slot 0 j = s.slot 0 j := (firstOnly.others j (by omega)).trans (ready.slot j)
  have compared : compareSet (u, []) 0 =
      (firedAt j true (firedAt i true u), [⟨0, i, a, true⟩, ⟨0, j, b, true⟩]) := by
    rw [compareSet_armed (l := [i, j]) ready.seen known (by simpa [List.sortedLT_iff_pairwise] using hij) (by simp; omega) ?_,
      List.foldl_cons, leaves (.inl rfl) (ready.slot i) rfl markA withinA, List.foldl_cons,
      leaves (.inr rfl) second firstOnly.kept.2 markB withinB]
    · rfl
    · intro q hq other
      rw [ready.slot, armed q hq]
      simpa using other
  rw [delivered, compared]

/-- A delivery at which two late marks capture into one register (R148). -/
theorem sampleDelivery_captures {s u : Machine.State} {i j n : Nat} {a b : Mark} (ready : ReadyToCompare s u)
    (known : u.pos.sample.conf ≠ 3) (hij : i < j) (hj : j < 256)
    (armed : ∀ q, q < 256 → (s.slot 0 q).armed = (decide (q = i) || decide (q = j)))
    (late : ∀ q, (q = i ∨ q = j) → (s.slot 0 q).unchecked = false ∧ (s.slot 0 q).late = true)
    (markA : (s.slot 0 i).mark = a) (markB : (s.slot 0 j).mark = b) (ka : a.kind = 8) (kb : b.kind = 8) (na : a.action % 8 = n)
    (nb : b.action % 8 = n) (withinA : u.pos.sample.conf ≤ a.minConf) (withinB : u.pos.sample.conf ≤ b.minConf) :
    (nth (delivered u).fin.ret.caps n {}).slot = (if a.prio ≤ b.prio then i else j) ∧
      (nth (delivered u).fin.ret.caps n {}).valid = true ∧
      (delivered u).fin.r Reg.RET_EXC_COUNT_CONFLICT =
        satN Reg.RET_EXC_COUNT_CONFLICT.width (s.r Reg.RET_EXC_COUNT_CONFLICT + 1) ∧
      Pending Evt.RET_CONFLICT (delivered u).fin := by
  obtain ⟨v, f, g, fires, car, winner, fields⟩ := fireMarks_captures_slot hij hj ka kb na nb (firedAt j true (firedAt i true u))
  obtain ⟨slot, valid, count, told⟩ := captureOver_shows (n := n) g v car
  obtain ⟨-, -, -, -, first, -⟩ := firedAt_shows (Nat.lt_trans hij hj) true u
  obtain ⟨-, -, -, -, second, -⟩ := firedAt_shows hj true (firedAt i true u)
  have before : v.r Reg.RET_EXC_COUNT_CONFLICT = s.r Reg.RET_EXC_COUNT_CONFLICT :=
    calc v.r Reg.RET_EXC_COUNT_CONFLICT
      _ = (firedAt j true (firedAt i true u)).r Reg.RET_EXC_COUNT_CONFLICT := fields _ (by simp [markFields])
      _ = u.r Reg.RET_EXC_COUNT_CONFLICT := second.trans first
      _ = s.r Reg.RET_EXC_COUNT_CONFLICT := ready.fields _ (by simp [markFields])
  rw [delivered_two ready known hij hj armed late markA markB withinA withinB, fires, State.fin_ret, State.fin_r]
  exact ⟨slot.trans winner, valid, before ▸ count, pending_fin told⟩

/-- Settles O12: a delivery compares the car's set in a state that holds the reticle as it was (`sampleDelivery_runs`); with one mark
armed the comparison is that slot's, with two late ones it is theirs in turn, and what each leaves is read off the firing. -/
theorem marksArmAndFire : Obligations.MarksArmAndFire := by
  refine ⟨fun s k i m hk hi released awake free valid entry used one =>
    reticleSwap_arms hk hi released awake free valid entry used one, ?_, ?_⟩
  · intro s x i m latched noDoors hi armed mark checked unarmed
    obtain ⟨u, run, pos, memory, ready⟩ := sampleDelivery_runs latched noDoors
    refine ⟨_, run, memory, ?_, ?_⟩ <;> rw [pos]
    · intro timely dir known ahead
      exact sampleDelivery_ahead (ready known) (delivered_ahead (ready known) known hi mark checked unarmed timely dir ahead)
    · intro known leaves
      have leaves := leaves.imp_right And.right
      refine ⟨fun above => ?_, fun within noSlot noSwap => ?_⟩
      · exact sampleDelivery_withheld (ready known) (delivered_withheld (ready known) known hi armed mark checked unarmed leaves above)
      · have fires := delivered_fires (ready known) known hi armed mark checked unarmed leaves within
        obtain ⟨disarmed, fired, count, slot, set, lateShown, told, room, full⟩ := fired_shows hi (ready known) fires noSlot noSwap
        exact ⟨disarmed, fired, count, slot, set, lateShown, told, room, full, fired_output fires, fired_request (ready known) fires,
          fired_eval (ready known) fires, fired_capture (ready known) fires⟩
  · intro s x i j n a b latched noDoors hij hj armed late markA markB ka kb na nb
    obtain ⟨u, run, pos, memory, ready⟩ := sampleDelivery_runs latched noDoors
    refine ⟨_, run, memory, ?_⟩
    rw [pos]
    intro known withinA withinB
    exact sampleDelivery_captures (ready known) known hij hj armed late markA markB ka kb na nb withinA withinB

end Sys2Proof

/-! PROOFS. The profile evaluator: the steps of a TIME segment (R159, R160), a segment's timeout and the run of limits, which latch
TRIP_LIMIT and start a controlled stop (R163, R184). -/

namespace Sys2Proof.Machine

/-! ### The end of the loads in progress (R60, R139) -/

/-- The registers that a change of active slot shows itself in. -/
def atlasFields : List Field :=
  [Reg.IMG_STATUS_TS_ACTIVE_SLOT, Reg.IMG_STATUS_TS_INCOMING_STATE, Reg.IMG_MODULE_STATE_PHASE, Reg.IMG_LOAD_TIMES_ATLAS_READY_MS]

/-- The second state differs from the first in the image's state, its atlas registers, the dispatcher and the raised events alone. -/
structure AtlasOnly (s t : State) : Prop where
  form : t = { s with regs := t.regs, img := t.img, dsp := t.dsp, raised := t.raised }
  regs : RegsBut atlasFields s t

section
variable {s t : State}

theorem AtlasOnly.refl (s : State) : AtlasOnly s s := ⟨rfl, .refl _ s⟩

theorem AtlasOnly.w (h : AtlasOnly s t) {f : Field} (v : Nat) (m : f ∈ atlasFields := by simp [atlasFields]) : AtlasOnly s (t.w f v) :=
  ⟨by rw [h.form]; rfl, h.regs.w v m⟩

theorem AtlasOnly.img (h : AtlasOnly s t) (x : ImgState) : AtlasOnly s { t with img := x } := ⟨by rw [h.form], h.regs⟩

theorem AtlasOnly.raise (h : AtlasOnly s t) (e : Evt) (a : List Arg) : AtlasOnly s (t.raise e a) := ⟨by rw [h.form]; rfl, h.regs⟩

theorem AtlasOnly.post (h : AtlasOnly s t) (port key : Nat) (other : port ∉ [2, 3, 4, 7, 8, 10] := by decide) :
    AtlasOnly s (t.post port key) := by
  obtain ⟨ports, held, form⟩ := post_form t port key other
  rw [form]
  exact ⟨by rw [h.form], h.regs⟩

theorem atlasOnly_loadEnded (s : State) : AtlasOnly s s.loadEnded := by
  have h := AtlasOnly.refl s
  have swapped : AtlasOnly s (swapSlots { s with img := { s.img with swapDue := false } }) := ((((h.img _).w _).w _).img _).post ..
  unfold State.loadEnded State.when_ swapWhenFree
  split
  · split
    · exact h.img _
    · exact (((swapped.w _).w _).raise ..).post ..
  · exact h

theorem AtlasOnly.trip (h : AtlasOnly s t) : t.trip = s.trip := by rw [h.form]

theorem AtlasOnly.saf (h : AtlasOnly s t) : t.saf = s.saf := by rw [h.form]

theorem AtlasOnly.ret (h : AtlasOnly s t) : t.ret = s.ret := by rw [h.form]

end

/-! ### What a controlled stop leaves (R184) -/

/-- The evaluator's channels, the lanes and the causes of a controlled stop are as they were. -/
structure CarKept (s t : State) : Prop where
  chans : t.trip.chans = s.trip.chans
  lanes : t.saf.lanes = s.saf.lanes
  cause : t.r Reg.TRIP_STATUS_STOP_CAUSE = s.r Reg.TRIP_STATUS_STOP_CAUSE

section
variable {s t u : State}

theorem CarKept.refl (s : State) : CarKept s s := ⟨rfl, rfl, rfl⟩

theorem CarKept.trans (h : CarKept s t) (h' : CarKept t u) : CarKept s u :=
  ⟨h'.chans.trans h.chans, h'.lanes.trans h.lanes, h'.cause.trans h.cause⟩

theorem CarKept.w (h : CarKept s t) {f : Field} (v : Nat) (other : Reg.TRIP_STATUS_STOP_CAUSE.key ≠ f.key := by decide) :
    CarKept s (t.w f v) := ⟨h.chans, h.lanes, (State.r_w_ne _ _ _ _ other).trans h.cause⟩

theorem CarKept.ite {c : Prop} {_ : Decidable c} (ht : CarKept s t) (hu : CarKept s u) : CarKept s (if c then t else u) := by
  split <;> assumption

theorem CarKept.when_ (h : CarKept s t) {b : Bool} {f : State → State} (hf : CarKept s (f t)) : CarKept s (t.when_ b f) := .ite hf h

theorem CarKept.raise (h : CarKept s t) (e : Evt) (a : List Arg) : CarKept s (t.raise e a) := ⟨h.chans, h.lanes, h.cause⟩

/-- A change of the trip state outside the channels. -/
theorem CarKept.modTrip (h : CarKept s t) {f : TripState → TripState} (chans : (f t.trip).chans = t.trip.chans := by rfl) :
    CarKept s (t.modTrip f) := ⟨chans.trans h.chans, h.lanes, h.cause⟩

theorem CarKept.modSet (h : CarKept s t) (k : Nat) (f : MarkSet → MarkSet) : CarKept s (t.modSet k f) := ⟨h.chans, h.lanes, h.cause⟩

theorem CarKept.requestDrive (h : CarKept s t) (on : Bool) : CarKept s (t.requestDrive on) := ⟨h.chans, h.lanes, h.cause⟩

theorem CarKept.loadEnded (h : CarKept s t) : CarKept s t.loadEnded := by
  have ended := atlasOnly_loadEnded t
  exact h.trans ⟨by rw [ended.trip], by rw [ended.saf], ended.regs _ (by decide)⟩

theorem CarKept.reactSet (h : CarKept s t) (k : Nat) : CarKept s (reactSet k t) := (h.modSet k _).loadEnded

theorem CarKept.requeue (h : CarKept s t) : CarKept s t.requeue := h.modTrip.modTrip.w _

theorem CarKept.abandonStart (h : CarKept s t) : CarKept s (abandonStart t) := (h.requeue.modTrip.requestDrive _).w _

theorem CarKept.goOos (h : CarKept s t) (cause : Nat) : CarKept s (goOos cause t) := by
  have emptied := h.requeue.modTrip (f := fun t => { t with stops := [], starting := none, rescueHeld := none })
  have withdrawn := emptied.when_ (b := t.requeue.r Reg.TRIP_STATUS_STATE == 1) (f := (·.requestDrive false)) (emptied.requestDrive false)
  exact .raise (.w (.w (.ite h (withdrawn.when_ (withdrawn.w 5))) _) _) ..

end

/-- The cause of a controlled stop entered in the journal and noted. -/
def stopCaused (cause : Nat) (s : State) : State := (s.journal (.ctrlStop cause)).setBitOf Reg.TRIP_STATUS_STOP_CAUSE cause true

/-- The controlled stop pending for the next step of the car's channel, in place of its other commands. -/
def stopTaken (s : State) : State :=
  s.modChan 0 fun c => { c with stopPend := some s.presentStop, evalPend := none, splicePend := none, cont := none, spliceX := none }

/-- The reaction of a controlled stop on the car's marks, its own program staged (R149, R184). -/
def stopSet (cause : Nat) (x : Trip) (s : State) : State :=
  let s := reactSet 0 (s.modTrip fun t => { t with stopCode := cause, frozen := false })
  reactLoad 0 x.region x.retProg ((s.wb Reg.TRIP_STATUS_CONTINUATION false).wb Reg.TRIP_STATUS_FINISH false)

theorem carKept_stopSet (cause : Nat) (x : Trip) (s : State) : CarKept s (stopSet cause x s) := by
  have h : CarKept s _ := (((CarKept.refl s).modTrip (f := fun t => { t with stopCode := cause, frozen := false })).reactSet 0)
  have shown := (h.w (f := Reg.TRIP_STATUS_CONTINUATION) 0).w (f := Reg.TRIP_STATUS_FINISH) 0
  exact .ite shown (shown.modSet ..)

theorem chan_stopCaused (cause : Nat) (s : State) : (stopCaused cause s).chan 0 = s.chan 0 := by
  rw [State.chan, stopCaused, State.setBitOf, State.w_trip, (told_journal ..).trip, ← State.chan]

/-- What the cause, once noted, makes of a car that moves and is not stopping. -/
theorem ctrlStop_moving {cause : Nat} {s : State} (active : s.active = true) (moving : (s.chan 0).moving = true)
    (trip : (s.chan 0).trip.kind ≠ 4) (free : (s.chan 0).stopPend = none) :
    ctrlStop cause s = stopSet cause (stopCaused cause s).presentStop (stopTaken (stopCaused cause s)) := by
  have stops : ctrlStopGo cause (s.journal (.ctrlStop cause)) =
      stopSet cause (stopCaused cause s).presentStop (stopTaken (stopCaused cause s)) := by
    unfold ctrlStopGo
    extract_lets fresh caused c x taken reacted shown
    have e : c = s.chan 0 := chan_stopCaused cause s
    rw [e, moving, if_pos rfl, if_neg trip, free]
    rfl
  rw [← stops, ctrlStop, if_pos active]

/-- Of a car that does not move, or is stopping, the cause leaves the channels as they were; on the standby it does nothing (R184). -/
theorem ctrlStop_cases (cause : Nat) (s : State) :
    (s.active = false ∧ ctrlStop cause s = s) ∨ CarKept (stopCaused cause s) (ctrlStop cause s) ∨
      ctrlStop cause s = stopSet cause (stopCaused cause s).presentStop (stopTaken (stopCaused cause s)) := by
  cases active : s.active
  · exact .inl ⟨rfl, by rw [ctrlStop, active]; rfl⟩
  · refine .inr ?_
    have caused := CarKept.refl (stopCaused cause s)
    rw [ctrlStop, active, if_pos rfl]
    unfold ctrlStopGo
    extract_lets fresh caused' c x taken reacted shown
    split
    · split
      · exact .inl (caused.when_ (caused.goOos 3))
      · split
        · exact .inl caused
        · exact .inr rfl
    · exact .inl (.ite (caused.reactSet 0).abandonStart caused)

/-- Whatever a controlled stop does, the car's channel runs on in its segment until the next step. -/
theorem seg_ctrlStop (cause : Nat) (s : State) : ((ctrlStop cause s).chan 0).seg = (s.chan 0).seg := by
  rcases ctrlStop_cases cause s with ⟨-, same⟩ | kept | stops
  · rw [same]
  · rw [State.chan, kept.chans, State.nth_chan, chan_stopCaused]
  · rw [stops, State.chan, (carKept_stopSet ..).chans, State.nth_chan, stopTaken, State.chan_modChan_same, chan_stopCaused]

/-! ### TRIP_LIMIT (R163) -/

theorem StopKeeps.oosAfterTrip {s t : State} (h : StopKeeps s t) (cause : Nat) : StopKeeps s (oosAfterTrip cause t) :=
  .ite (.ite h h.modTrip) (h.goOos cause)

/-- A fault that has not latched latches, is raised, and starts the controlled stop (R163). -/
theorem tripLimit_latches (kind : Nat) {s : State} (clear : s.r Reg.TRIP_STATUS_TRIP_LIMIT = 0) :
    (tripLimit kind s).r Reg.TRIP_STATUS_TRIP_LIMIT = 1 ∧
    Evt.TRIP_LIMIT.src ∈ (tripLimit kind s).raised.map (fun x => x.evt.src) ∧
    ((tripLimit kind s).chan 0).seg = (s.chan 0).seg ∧ SameMemory s (tripLimit kind s) := by
  let latched := (s.wb Reg.TRIP_STATUS_TRIP_LIMIT true).raise Evt.TRIP_LIMIT [.code kind]
  have form : tripLimit kind s = oosAfterTrip 0 (ctrlStop StopCause.limit latched) := if_neg (by simp [State.rb_eq, clear])
  obtain ⟨-, raised, memory, regs⟩ := ((StopKeeps.refl latched).ctrlStop StopCause.limit).oosAfterTrip 0
  have stopped : CarKept (ctrlStop StopCause.limit latched) (oosAfterTrip 0 (ctrlStop StopCause.limit latched)) :=
    .ite (.ite (.refl _) (CarKept.refl _).modTrip) ((CarKept.refl _).goOos 0)
  rw [form]
  refine ⟨?_, List.map_subset _ raised (by simp [latched]), ?_, SameMemory.trans ⟨rfl, rfl, rfl, rfl⟩ memory⟩
  · rw [regs _ (by decide)]
    exact State.r_w_same s Reg.TRIP_STATUS_TRIP_LIMIT 1
  · rw [State.chan, stopped.chans, State.nth_chan, seg_ctrlStop]
    rfl

/-! ### A step of a channel -/

/-- Entry of a segment that neither checks what it joins nor holds tells nothing (R157, R163). -/
theorem Channel.enter_quiet {c : Channel} (tol : JoinTol) (unchecked : c.cur.expect = false) (moves : c.cur.ending ≠ 4) :
    c.enter tol = [] := by simp [Channel.enter, unchecked, moves]

/-- Without a continuation the next segment begins at time 0 (R159). -/
theorem Channel.segEnd_next {c : Channel} (tol : JoinTol) (single : c.cont = none)
    (unchecked : (nth c.trip.segs (c.seg + 1) {}).expect = false) (moves : (nth c.trip.segs (c.seg + 1) {}).ending ≠ 4) :
    c.segEnd tol = ({ c with seg := c.seg + 1, tau := 0, timeout := false, spliceX := none }, [.segEnd]) := by
  unfold Channel.segEnd
  rw [single]
  exact congrArg (fun l => (_, Note.segEnd :: l)) (Channel.enter_quiet tol unchecked moves)

section
variable {c : Channel} (tol : JoinTol)

theorem Channel.pending_none (eval : c.evalPend = none) (splice : c.splicePend = none) (stop : c.stopPend = none) :
    c.pending tol = (c, []) := by
  have same : { c with evalPend := none, splicePend := none, stopPend := none } = c := by cases c; simp_all
  unfold Channel.pending
  rw [same, eval, splice, stop]

/-- A TIME segment takes a step of its integration (R159). -/
theorem Channel.advance_time (time : c.cur.ending = 0) : c.advance = { c.integrate with tau := c.tau + 1 } := by
  simp [Channel.advance, time]

variable (runs : c.running = true) (eval : c.evalPend = none) (splice : c.splicePend = none) (stop : c.stopPend = none)
  (time : c.cur.ending = 0)
include runs eval splice stop time

/-- A step in a TIME segment integrates it; the segment's end follows at its duration (R159). -/
theorem Channel.step_integrates : c.step tol =
    if c.tau + 1 = c.cur.dur then ({ c.integrate with tau := c.tau + 1 } : Channel).segEnd tol
    else ({ c.integrate with tau := c.tau + 1 }, []) := by
  have cur : ({ c.integrate with tau := c.tau + 1 } : Channel).cur = c.cur := rfl
  have done : ({ c.integrate with tau := c.tau + 1 } : Channel).done = (c.tau + 1 == c.cur.dur) := by simp [Channel.done, cur, time]
  unfold Channel.step
  rw [runs, Channel.pending_none tol eval splice stop]
  dsimp only
  rw [Channel.advance_time time, cur, time, done]
  simp

/-- A step that completes a TIME segment begins the next one (R159). -/
theorem Channel.step_ends (ends : c.tau + 1 = c.cur.dur) (single : c.cont = none)
    (unchecked : (nth c.trip.segs (c.seg + 1) {}).expect = false) (moves : (nth c.trip.segs (c.seg + 1) {}).ending ≠ 4) :
    c.step tol = ({ c.integrate with seg := c.seg + 1, tau := 0, timeout := false, spliceX := none }, [.segEnd]) := by
  rw [Channel.step_integrates tol runs eval splice stop time, if_pos ends]
  exact Channel.segEnd_next (c := { c.integrate with tau := c.tau + 1 }) tol single unchecked moves

end

/-! ### The state after a step of a channel -/

/-- A channel's result is stored: the rest of the trip state and the memories stay, and the registers but CONTINUATION. -/
structure ResultStored (k : Nat) (c : Channel) (s t : State) : Prop where
  chan : t.chan k = c
  trip : t.trip = { s.trip with chans := t.trip.chans }
  memory : SameMemory s t
  regs : RegsBut [Reg.TRIP_STATUS_CONTINUATION] s t

theorem ResultStored.stops {k : Nat} {c : Channel} {s t : State} (h : ResultStored k c s t) : t.trip.stops = s.trip.stops := by rw [h.trip]

/-- A result that tells of nothing but the end of a segment is stored and reported to port 11 (R160, Table 03-4). -/
theorem resultStored (k : Nat) (c : Channel) {notes : List Note} (quiet : notes = [] ∨ notes = [.segEnd]) (s : State) :
    ResultStored k c s (channelResult k (c, notes) s) := by
  obtain ⟨ports, held, posted⟩ := post_form (s.modChan k fun _ => c) 11 k (by decide)
  have told : ∃ dsp, notes.foldl (takeNote k) (s.modChan k fun _ => c) = { s.modChan k fun _ => c with dsp := dsp } := by
    rcases quiet with rfl | rfl
    · exact ⟨s.dsp, rfl⟩
    · exact ⟨_, posted⟩
  obtain ⟨dsp, told⟩ := told
  have stored : ResultStored k c s { s.modChan k fun _ => c with dsp := dsp } :=
    ⟨State.chan_modChan_same .., rfl, ⟨rfl, rfl, rfl, rfl⟩, .refl _ s⟩
  unfold channelResult
  dsimp only
  rw [told]
  split
  · exact ⟨stored.chan, stored.trip, stored.memory, stored.regs.w _ (by simp)⟩
  · exact stored

/-- The state of a channel's first step at a tick, its limits judged (R159, R163). -/
def stepJudged (k : Nat) (s : State) : State :=
  let u := s.modChan k fun c => { c with last := some s.optime }
  u.when_ (k == 0) (limitStep ((u.chan k).pending u.joinTol).1.advance)

theorem limitStep_form (c : Channel) (s : State) : ∃ n, limitStep c s = s.modTrip fun t => { t with limitNow := n } := by
  unfold limitStep
  extract_lets above v
  split
  · exact ⟨_, rfl⟩
  · exact ⟨s.trip.limitNow, rfl⟩

theorem stepJudged_frame (k : Nat) (s : State) : (stepJudged k s).trip.stops = s.trip.stops ∧ SameMemory s (stepJudged k s) := by
  unfold stepJudged State.when_
  extract_lets u
  obtain ⟨n, judged⟩ := limitStep_form ((u.chan k).pending u.joinTol).1.advance u
  rw [judged]
  split <;> exact ⟨rfl, rfl, rfl, rfl, rfl⟩

/-- The first step at a tick of the car's or the deck's channel, whose segment has not timed out (R159). -/
theorem evaluatorStep_first {s : State} {k : Nat} (carOrDeck : k = 0 ∨ k = 5) (first : (s.chan k).last ≠ some s.optime)
    (timely : (s.chan k).timeout = false) :
    evaluatorStep k s = channelResult k (({ s.chan k with last := some s.optime } : Channel).step s.joinTol) (stepJudged k s) := by
  let u := s.modChan k fun c => { c with last := some s.optime }
  have chan : u.chan k = { s.chan k with last := some s.optime } := State.chan_modChan_same ..
  have untimed : segTimeout k u = u := by simp [segTimeout, chan, timely]
  have before : doorBefore k u = u := by rcases carOrDeck with rfl | rfl <;> rfl
  have e : evaluatorStep k s = channelResult k (((doorBefore k (segTimeout k u)).chan k).step (doorBefore k (segTimeout k u)).joinTol)
      ((doorBefore k (segTimeout k u)).when_ (k == 0)
        (limitStep (((doorBefore k (segTimeout k u)).chan k).pending (doorBefore k (segTimeout k u)).joinTol).1.advance)) := if_neg first
  rw [e, untimed, before, chan, stepJudged]
  dsimp only
  rw [chan]
  rfl

end Sys2Proof.Machine

namespace Sys2Proof

open Sys2Proof.Machine

/-! ### The commands -/

/-- A step whose result tells of nothing but the end of a segment leaves the channel that result. -/
theorem evaluatorStep_completes {s : Machine.State} {k : Nat} {x : Channel} {notes : List Note} (carOrDeck : k = 0 ∨ k = 5)
    (awake : s.parked = false) (first : (s.chan k).last ≠ some s.optime) (timely : (s.chan k).timeout = false)
    (steps : ({ s.chan k with last := some s.optime } : Channel).step s.joinTol = (x, notes)) (quiet : notes = [] ∨ notes = [.segEnd]) :
    ∃ t, exec (.evaluatorStep k) s = .next t ∧ t.chan k = x ∧ SameMemory s t := by
  have run : exec (.evaluatorStep k) s = .next (noteStops s.trip.stops 0 0 0 (evaluatorStep k s)).fin := by
    have small : k % 6 = k := Nat.mod_eq_of_lt (by omega)
    have e : exec (.evaluatorStep k) s = noted (fun s => s.awake (evaluatorStep (k % 6))) s := rfl
    rw [e, small, noted, awake_unparked _ awake, State.done_eq]
  obtain ⟨stops, memory⟩ := stepJudged_frame k s
  have stored := resultStored k x quiet (stepJudged k s)
  rw [evaluatorStep_first carOrDeck first timely, steps, noteStops_same (stored.stops.trans stops)] at run
  exact ⟨_, run, by rw [State.fin_chan, stored.chan], (sameMemory_fin _ _).mpr (memory.trans stored.memory)⟩

/-- A trip limit latches at the end of a command's step (R163). -/
theorem tripLimit_completes {s u : Machine.State} {c : Instr} (kind : Nat)
    (run : exec c s = .next (noteStops s.trip.stops 0 0 0 (tripLimit kind u)).fin) (memory : SameMemory s u)
    (clear : u.r Reg.TRIP_STATUS_TRIP_LIMIT = 0) :
    ∃ t, exec c s = .next t ∧ (t.chan 0).seg = (u.chan 0).seg ∧ t.r Reg.TRIP_STATUS_TRIP_LIMIT = 1 ∧ Pending Evt.TRIP_LIMIT t ∧
      SameMemory s t := by
  obtain ⟨latched, raised, seg, kept⟩ := tripLimit_latches kind clear
  obtain ⟨regs, trip, pending, memory'⟩ := noted_fin s.trip.stops (Told.refl (tripLimit kind u))
  exact ⟨_, run, by rw [State.chan, trip, State.nth_chan, seg], by rw [regs, latched], pending _ raised, (memory.trans kept).trans memory'⟩

theorem segTimeout_completes {s : Machine.State} (awake : s.parked = false) (runs : (s.chan 0).running = true)
    (late : (s.chan 0).timeout = true) (single : (s.chan 0).cont = none)
    (unchecked : (nth (s.chan 0).trip.segs ((s.chan 0).seg + 1) {}).expect = false)
    (moves : (nth (s.chan 0).trip.segs ((s.chan 0).seg + 1) {}).ending ≠ 4) (clear : s.r Reg.TRIP_STATUS_TRIP_LIMIT = 0) :
    ∃ t, exec (.segTimeout 0) s = .next t ∧ (t.chan 0).seg = (s.chan 0).seg + 1 ∧ t.r Reg.TRIP_STATUS_TRIP_LIMIT = 1 ∧
      Pending Evt.TRIP_LIMIT t ∧ SameMemory s t := by
  have ended := Channel.segEnd_next s.joinTol single unchecked moves
  have stored := resultStored 0 ((s.chan 0).segEnd s.joinTol).1 (.inr (congrArg Prod.snd ended)) s
  have run : exec (.segTimeout 0) s =
      .next (noteStops s.trip.stops 0 0 0 (tripLimit 3 (channelResult 0 ((s.chan 0).segEnd s.joinTol) s))).fin := by
    have e : exec (.segTimeout 0) s = (noteStops s.trip.stops 0 0 0 (s.awake (segTimeout 0))).done := rfl
    rw [e, awake_unparked _ awake, State.done_eq, segTimeout, runs, late]
    rfl
  obtain ⟨t, exec, seg, shown⟩ := tripLimit_completes 3 run stored.memory ((stored.regs _ (by decide)).trans clear)
  refine ⟨t, exec, seg.trans ?_, shown⟩
  rw [stored.chan, ended]

/-- Settles O13: a TIME segment's step is read off `Channel.step`, and what is stored tells of nothing but a segment's end; a timeout
and the run of limits latch TRIP_LIMIT (`tripLimit_latches`). -/
theorem evaluatorStepsComplete : Obligations.EvaluatorStepsComplete := by
  refine ⟨?_, ?_, ?_⟩
  · rintro s k c carOrDeck awake rfl first runs timely eval splice stop time
    refine ⟨fun within => ?_, fun ends single unchecked moves => ?_⟩
    · have steps := (Channel.step_integrates (c := { s.chan k with last := some s.optime }) s.joinTol runs eval splice stop time).trans
        (if_neg within)
      obtain ⟨t, run, chan, memory⟩ := evaluatorStep_completes carOrDeck awake first timely steps (.inl rfl)
      exact ⟨t, run, by rw [chan], by rw [chan]; rfl, by rw [chan]; rfl, by rw [chan]; rfl, by rw [chan]; rfl, memory⟩
    · have steps := Channel.step_ends (c := { s.chan k with last := some s.optime }) s.joinTol runs eval splice stop time ends single
        unchecked moves
      obtain ⟨t, run, chan, memory⟩ := evaluatorStep_completes carOrDeck awake first timely steps (.inr rfl)
      exact ⟨t, run, by rw [chan], by rw [chan], by rw [chan]; exact runs, by rw [chan]; rfl, memory⟩
  · rintro s c awake rfl runs late single unchecked moves clear
    exact segTimeout_completes awake runs late single unchecked moves clear
  · intro s awake counted run clear
    have due : exec .tripLimit s = .next (noteStops s.trip.stops 0 0 0 (tripLimit (if bitAt (s.r Reg.TRIP_LIMIT_STATUS_LAST) 0 then 0
        else if bitAt (s.r Reg.TRIP_LIMIT_STATUS_LAST) 1 then 1 else 2) s)).fin := by
      have e : exec .tripLimit s = (noteStops s.trip.stops 0 0 0 (s.awake tripLimitDue)).done := rfl
      have latches : tripLimitDue s = tripLimit (if bitAt (s.r Reg.TRIP_LIMIT_STATUS_LAST) 0 then 0
        else if bitAt (s.r Reg.TRIP_LIMIT_STATUS_LAST) 1 then 1 else 2) s := if_neg (by omega)
      rw [e, awake_unparked _ awake, latches, State.done_eq]
    obtain ⟨t, exec, -, shown⟩ := tripLimit_completes _ due (.refl s) clear
    exact ⟨t, exec, shown⟩

end Sys2Proof

/-! PROOFS. Trip starts and splices (R165, R173, R174, R177, R179, R181, R189): the start of a trip and its beginning, levelling with doors
open, the items of a commit entry, and the finish rule's entry (R182). -/

namespace Sys2Proof.Machine

/-! ### A start (R177, R189) -/

/-- The deck's target is shown in the deck's own registers (R212). -/
theorem StartKeeps.deckTarget_of {l : List Field} {s t : State} (h : StartKeeps l s t) (x : Int)
    (target : ∀ g ∈ l, g.key ≠ Reg.LOOP_DECK_TARGET.key := by decide)
    (shown : ∀ g ∈ l, g.key ≠ Reg.LOOP_DECK_STATUS_TO.key := by decide) :
    StartKeeps l s (Machine.deckTarget x t) := by
  unfold Machine.deckTarget
  split
  · exact h
  · split
    · exact ((h.w _ _ target).w _ _ shown).modDeck _
    · exact h.w _ _ target

theorem requested_requestDrive {f : Nat} (low : 1 ≤ f) (high : f ≤ 3) (on : Bool) (s : State) : (s.requestDrive on).requested f = on := by
  interval_cases f <;> simp [State.requestDrive, State.request, State.requested, bitAt_setBit_ne]

/-- A trip that starts shows its target and where it starts, and requests drive and brakes (R177). -/
theorem startTrip_shows (cmd : Bool) (x : Trip) (word stop : Nat) (s : State) :
    (startTrip cmd x word stop s).r Reg.TRIP_TARGET_TARGET = stop % 256 ∧
    (startTrip cmd x word stop s).r Reg.TRIP_TARGET_ORIGIN = s.r Reg.TRIP_STATUS_CAR_STOP % 256 ∧
    ∀ f, 1 ≤ f → f ≤ 3 → (startTrip cmd x word stop s).requested f = true := by
  unfold startTrip
  extract_lets x' freed listed taken begun shown counted deck staged
  have fromListed : listed.r Reg.TRIP_STATUS_CAR_STOP = s.r Reg.TRIP_STATUS_CAR_STOP := by
    unfold listed
    split <;> rfl
  have target : begun.r Reg.TRIP_TARGET_TARGET = stop % 256 := by
    simp only [begun, State.wb_eq]
    rw [State.r_w_ne _ _ _ _ (by decide), State.r_w_ne _ _ _ _ (by decide), State.r_w_ne _ _ _ _ (by decide)]
    exact State.r_w_same ..
  have origin : begun.r Reg.TRIP_TARGET_ORIGIN = s.r Reg.TRIP_STATUS_CAR_STOP % 256 := by
    have stands : taken.r Reg.TRIP_STATUS_CAR_STOP = s.r Reg.TRIP_STATUS_CAR_STOP := (State.r_w_ne _ _ _ _ (by decide)).trans fromListed
    rw [← stands]
    exact State.r_w_same ..
  have atShown : StartKeeps [Reg.TRIP_TARGET_TARGET, Reg.TRIP_TARGET_ORIGIN] begun shown :=
    (((((StartKeeps.refl ..).w ..).w ..).w ..).w ..).w ..
  have atCounted : StartKeeps [Reg.TRIP_TARGET_TARGET, Reg.TRIP_TARGET_ORIGIN] begun counted :=
    ((((atShown.w ..).w ..).w ..).w ..).w ..
  have atDeck : StartKeeps [Reg.TRIP_TARGET_TARGET, Reg.TRIP_TARGET_ORIGIN] begun deck := atCounted.deckTarget_of _
  have atStaged : StartKeeps [Reg.TRIP_TARGET_TARGET, Reg.TRIP_TARGET_ORIGIN] begun staged := atDeck.ite (atDeck.modSet ..)
  obtain ⟨-, -, regs⟩ := atStaged.requestDrive true
  exact ⟨(regs _ (by simp)).trans target, (regs _ (by simp)).trans origin, fun f low high => requested_requestDrive low high true _⟩

/-- A trip to the next car stop that CONF permits and separation does not hold starts, with the load class and the profile latched (R177,
R189). -/
theorem tripStart_starts {s : State} {d load prof w : Nat} (due : s.startFor = some (d, load, prof, w)) (word : w ≠ 0)
    (permitted : s.confPermits false (s.tripAt (s.region s.fullAtlas) w) = true)
    (free : s.startHeld (s.tripAt (s.region s.fullAtlas) w) = none) :
    tripStart s = startTrip false (s.tripAt (s.region s.fullAtlas) w) w d
      ((s.w Reg.TRIP_STATUS_LOAD_CLASS load).w Reg.TRIP_STATUS_PROFILE prof) := by
  unfold tripStart
  rw [due]
  dsimp only
  rw [if_neg word, permitted, free]
  rfl

theorem tripStart_misses {s : State} {d load prof : Nat} (due : s.startFor = some (d, load, prof, 0)) :
    tripStart s = atlasMiss 0 (s.r Reg.TRIP_STATUS_CAR_STOP) d s := by
  unfold tripStart
  rw [due]
  rfl

/-! ### The beginning of a trip (R177, R450) -/

theorem AtlasOnly.memory {s t : State} (h : AtlasOnly s t) : SameMemory s t := by
  rw [h.form]
  exact ⟨rfl, rfl, rfl, rfl⟩

/-- A trip without a program begins with its set emptied, which ends the loads in progress (R450). -/
theorem beginProgram_none (k region : Nat) (s : State) : ∃ ret, AtlasOnly { s with ret := ret } (beginProgram k region 0 s) := by
  rw [beginProgram, if_pos rfl]
  exact ⟨_, atlasOnly_loadEnded _⟩

/-- The state of a car that leaves a car stop on a trip, its holds released and its checks begun anew. -/
def tripLeft (x : Trip) (s : State) : State :=
  let s := s.releaseHolds.modTrip fun t => { t with starting := none, tripped := true, limitRun := 0, limitNow := 0, runWord := t.startWord }
  let s := s.wb Reg.MIR_STATUS_FOREIGN false
  let s := if x.kind = 3 then s else s.w Reg.TRIP_STATUS_CAR_STOP 0
  (s.w Reg.TRIP_STATUS_STATE 2).modEng 0 fun e => { e with epPeak := 0 }

/-- The state of a car whose trip has begun, its channel not yet entered. -/
def tripBegun (x : Trip) (s : State) : State :=
  let s := (beginProgram 0 x.region x.retProg (tripLeft x s)).modeNext 0 1
  (s.journal (.tripStart x s.trip.startWord s.mir.k)).journal (.mode 0 1)

theorem tripBegin_begins {s : State} {x : Trip} (starting : s.trip.starting = some x) (active : s.active = true)
    (granted : s.granted = true) (lifted : s.brakes 1 = true) (permitted : s.startPermitted = true) :
    tripBegin s = channelResult 0 (((tripBegun x s).chan 0).begin_ x, (((tripBegun x s).chan 0).begin_ x).enter (tripBegun x s).joinTol)
      (tripBegun x s) := by
  unfold tripBegin
  rw [starting]
  dsimp only
  rw [if_neg (by simp [active, granted, lifted]), if_neg (by simp [permitted])]
  rfl

theorem tripLeft_shows (x : Trip) (s : State) : (tripLeft x s).trip.starting = none ∧ (tripLeft x s).r Reg.TRIP_STATUS_STATE = 2 ∧
    (x.kind ≠ 3 → (tripLeft x s).r Reg.TRIP_STATUS_CAR_STOP = 0) ∧ SameMemory s (tripLeft x s) := by
  unfold tripLeft
  extract_lets freed told left
  have starting : freed.trip.starting = none := rfl
  have fromHeld : SameMemory s freed := ⟨rfl, rfl, rfl, rfl⟩
  clear_value freed
  have leaves : left.trip = freed.trip ∧ SameMemory freed left ∧ (x.kind ≠ 3 → left.r Reg.TRIP_STATUS_CAR_STOP = 0) := by
    unfold left
    split
    · exact ⟨rfl, ⟨rfl, rfl, rfl, rfl⟩, fun away => absurd ‹_› away⟩
    · exact ⟨rfl, ⟨rfl, rfl, rfl, rfl⟩, fun _ => State.r_w_same told Reg.TRIP_STATUS_CAR_STOP 0⟩
  obtain ⟨trip, memory, stop⟩ := leaves
  clear_value left
  exact ⟨(congrArg TripState.starting trip).trans starting, State.r_w_same left Reg.TRIP_STATUS_STATE 2,
    fun away => (State.r_w_ne left Reg.TRIP_STATUS_STATE Reg.TRIP_STATUS_CAR_STOP 2 (by decide)).trans (stop away),
    fromHeld.trans memory⟩

/-- A trip without a program has begun in STATE RUN (R177). -/
theorem tripBegun_shows {x : Trip} (program : x.retProg = 0) (s : State) :
    (tripBegun x s).trip.starting = none ∧ (tripBegun x s).r Reg.TRIP_STATUS_STATE = 2 ∧
    (x.kind ≠ 3 → (tripBegun x s).r Reg.TRIP_STATUS_CAR_STOP = 0) ∧ SameMemory s (tripBegun x s) := by
  obtain ⟨starting, state, stop, memory⟩ := tripLeft_shows x s
  obtain ⟨ret, ended⟩ := beginProgram_none 0 x.region (tripLeft x s)
  unfold tripBegun
  rw [program]
  extract_lets begun
  have told := (told_journal begun (.tripStart x begun.trip.startWord begun.mir.k)).trans (told_journal _ (.mode 0 1))
  have trip : begun.trip = (tripLeft x s).trip := ended.trip
  have fromLeft : SameMemory (tripLeft x s) begun := by
    have kept : SameMemory (tripLeft x s) (beginProgram 0 x.region 0 (tripLeft x s)) := ended.memory
    exact kept
  refine ⟨by rw [told.trip, trip, starting], ?_, fun away => ?_, (memory.trans fromLeft).trans told.sameMemory⟩
  · exact (told.r _).trans ((ended.regs _ (by decide)).trans state)
  · exact (told.r _).trans ((ended.regs _ (by decide)).trans (stop away))

/-! ### Levelling (R179) -/

/-- A standing car that needs a levelling trip asks for DZ_BRIDGE and RELEVEL while its doors are not closed (R179). -/
theorem levellingStart_waits {s : State} (stop : s.r Reg.TRIP_STATUS_CAR_STOP ≠ 0) (free : s.canMove = true)
    (deck : s.deckPermits (s.r Reg.TRIP_STATUS_CAR_STOP) = true)
    (beyond : s.trip.env.relevelStart < mag (s.pos.sample.pos - s.stopPos (s.r Reg.TRIP_STATUS_CAR_STOP)))
    (doors : s.cycleComplete = false) (bridge : s.bridged = false) : levellingStart s = (s.request 4 true).request 5 true := by
  have due : s.levelDue = some (s.levelTrip (decide (s.pos.sample.pos - s.stopPos (s.r Reg.TRIP_STATUS_CAR_STOP) < 0))) :=
    if_neg (by simp [stop, free, deck, beyond])
  have waits : s.levelWaits = true := by simp [State.levelWaits, doors, bridge]
  unfold levellingStart
  rw [due]
  exact if_pos waits

/-! ### Commit entries (R173) -/

/-- The diversion's program is staged, its commit entry awaiting SPLICE (R173). -/
theorem stageSplice_form (c : Commit) (s : State) : ∃ ret, stageSplice c s =
    { (s.modTrip fun t => { t with commit := some { c with issued := false, staged := true } }).w Reg.TRIP_SPLICE_STATE 2 with ret := ret } := by
  unfold stageSplice
  extract_lets staged
  split
  · exact ⟨s.ret, rfl⟩
  · exact ⟨_, rfl⟩

/-- A staged diversion: STATE 2, its entry awaiting SPLICE, and the car stop shown as it was (R173). -/
theorem stageSplice_shows (c : Commit) (s : State) : (stageSplice c s).r Reg.TRIP_SPLICE_STATE = 2 ∧
    (stageSplice c s).r Reg.TRIP_SPLICE_CAR_STOP = s.r Reg.TRIP_SPLICE_CAR_STOP ∧
    (stageSplice c s).trip.commit = some { c with issued := false, staged := true } ∧ SameMemory s (stageSplice c s) := by
  obtain ⟨ret, form⟩ := stageSplice_form c s
  rw [form]
  exact ⟨State.r_w_same _ Reg.TRIP_SPLICE_STATE 2, State.r_w_ne _ Reg.TRIP_SPLICE_STATE Reg.TRIP_SPLICE_CAR_STOP 2 (by decide), rfl,
    rfl, rfl, rfl, rfl⟩

theorem sameMemory_showSplice (stop state : Nat) (alt : Bool) (x : Trip) (s : State) : SameMemory s (showSplice stop state alt x s) := by
  have form : ∃ regs, showSplice stop state alt x s = { s with regs := regs } := ⟨_, rfl⟩
  obtain ⟨regs, form⟩ := form
  rw [form]
  exact ⟨rfl, rfl, rfl, rfl⟩

theorem showSplice_shows (stop state : Nat) (alt : Bool) (x : Trip) (s : State) :
    (showSplice stop state alt x s).r Reg.TRIP_SPLICE_CAR_STOP = stop % 256 := by
  have start := RegsBut.refl [Reg.TRIP_SPLICE_STATE, Reg.TRIP_SPLICE_ALT, Reg.TRIP_SPLICE_C, Reg.TRIP_SPLICE_X]
    (s.w Reg.TRIP_SPLICE_CAR_STOP stop)
  have told := (start.w (f := Reg.TRIP_SPLICE_STATE) state (by simp)).w (f := Reg.TRIP_SPLICE_ALT) (b2n alt) (by simp)
  have shown := (told.w (f := Reg.TRIP_SPLICE_C) (ofI Reg.TRIP_SPLICE_C.width x.commit) (by simp)).w
    (f := Reg.TRIP_SPLICE_X) (ofI Reg.TRIP_SPLICE_X.width x.aux) (by simp)
  exact (shown _ (by decide)).trans (State.r_w_same s Reg.TRIP_SPLICE_CAR_STOP stop)

/-- A new target, and the end of one, change the stop list and TARGET (R170). -/
theorem setTarget_untarget_form (n stop : Nat) (s : State) : ∃ stops, setTarget n (untarget stop s) =
    (s.modTrip fun t => { t with stops := stops }).w Reg.TRIP_TARGET_TARGET n := ⟨_, rfl⟩

/-- A diversion that is gone leaves no commit entry, and its car stop is demoted (R173). -/
theorem demote_shows (stop : Nat) (s : State) : (demote stop s).r Reg.TRIP_SPLICE_STATE = 5 ∧ (demote stop s).trip.commit = none ∧
    Evt.STOP_DEMOTED.src ∈ (demote stop s).raised.map (fun x => x.evt.src) ∧ SameMemory s (demote stop s) := by
  obtain ⟨stops, form⟩ := setTarget_untarget_form s.reachTarget stop (s.modTrip fun t => { t with commit := none })
  unfold demote
  dsimp only
  rw [form]
  refine ⟨?_, rfl, by simp, rfl, rfl, rfl, rfl⟩
  rw [State.raise_r, State.inc_eq, State.r_w_ne _ _ _ _ (by decide), State.r_w_same]
  rfl

/-- The item of an expired commit entry does what its diversion, looked up again, asks (R173). -/
theorem spliceItem_expired {s : State} {c : Commit} (waits : s.trip.commit = some c) (active : s.active = true)
    (unstaged : c.staged = false) (expired : s.commitListed c.tag = false) (indexed : c.alt = false) :
    (∀ w x, s.diversion c.stop = some (some (w, x)) →
      spliceItem false s = stageSplice { c with trip := x, word := w } (showSplice c.stop 2 false x s)) ∧
    (s.diversion c.stop = some none → spliceItem false s = demote c.stop s) := by
  unfold spliceItem
  rw [waits]
  dsimp only
  rw [if_neg (by simp [active, unstaged, expired]), if_neg (by simp), if_neg (by simp [indexed])]
  exact ⟨fun w x found => by rw [found], fun gone => by rw [gone]⟩

/-- SPLICE is pending for the channel's next step, and its commit entry marked (R173, R174). -/
def spliceIssued (c : Commit) (s : State) : State :=
  (s.modChan 0 fun k => { k with splicePend := some c.trip }).modTrip fun t => { t with commit := some { c with issued := true } }

theorem spliceCommand_issues {s : State} {c : Commit} (waits : s.trip.commit = some c) (active : s.active = true)
    (first : c.issued = false) (staged : c.staged = true) (ready : c.trip.retProg = 0 ∨ (s.set 0).valid = true) :
    spliceCommand s = (spliceIssued c s).journal (.splice c.trip c.word s.mir.k) := by
  have held : ¬(!s.active || c.issued || !c.staged || (c.trip.retProg != 0 && !(s.set 0).valid)) = true := by
    rcases ready with none | valid
    · simp [active, first, staged, none]
    · simp [active, first, staged, valid]
  unfold spliceCommand
  rw [waits]
  exact if_neg held

/-! ### The finish rule (R182) -/

/-- Entry to SHAFT_ONLY during a trip that is no longer in its SPLICE_OK segment: FINISH, and the stop list frozen (R182). -/
theorem confChange_finishes {s : State} (shaft : s.pos.sample.conf = 2) (entered : s.trip.confSeen ≠ 2) (active : s.active = true)
    (runs : s.r Reg.TRIP_STATUS_STATE = 2) (late : s.inCruise = false) (permitted : s.startPermitted = true) :
    confChange s = ((s.modTrip fun t => { t with confSeen := 2 }).wb Reg.TRIP_STATUS_FINISH true).modTrip fun t =>
      { t with frozen := true } := by
  have seen : (s.modTrip fun t => { t with confSeen := 2 }).active = true ∧
      (s.modTrip fun t => { t with confSeen := 2 }).startPermitted = true ∧ (s.modTrip fun t => { t with confSeen := 2 }).inCruise = false :=
    ⟨active, permitted, late⟩
  obtain ⟨acts, allowed, past⟩ := seen
  unfold confChange
  dsimp only
  rw [shaft, if_neg (by simp [acts]), if_neg (by simp [allowed]), if_pos ⟨⟨rfl, entered⟩, runs⟩, finishRule, past]
  rfl

end Sys2Proof.Machine

namespace Sys2Proof

open Sys2Proof.Machine

/-! ### The commands -/

/-- The lanes, the requests and the marks too are at the end of a command's step as the command left them. -/
theorem noted_fin_others (old : List StopEntry) {t u : Machine.State} (told : Told t u) :
    (noteStops old 0 0 0 u).fin.saf = t.saf ∧ (noteStops old 0 0 0 u).fin.ret = t.ret := by
  obtain ⟨mir, more, form⟩ := told.trans (told_noteStops old 0 0 0 u)
  rw [State.fin_saf, State.fin_ret, form]
  exact ⟨rfl, rfl⟩

theorem exec_tripStart {s : Machine.State} (awake : s.parked = false) :
    exec .tripStart s = .next (noteStops s.trip.stops 0 0 0 (tripStart s)).fin :=
  congrArg (fun t => (noteStops s.trip.stops 0 0 0 t).done) (awake_unparked _ awake)

theorem exec_spliceItem {s : Machine.State} (awake : s.parked = false) :
    exec (.spliceItem false) s = .next (noteStops s.trip.stops 0 0 0 (spliceItem false s)).fin :=
  congrArg (fun t => (noteStops s.trip.stops 0 0 0 t).done) (awake_unparked _ awake)

theorem tripStart_completes {s : Machine.State} {d load prof w : Nat} (awake : s.parked = false)
    (due : s.startFor = some (d, load, prof, w)) (byte : d < 256) (word : w ≠ 0)
    (permitted : s.confPermits false (s.tripAt (s.region s.fullAtlas) w) = true)
    (free : s.startHeld (s.tripAt (s.region s.fullAtlas) w) = none) :
    ∃ t, exec .tripStart s = .next t ∧ t.trip.starting = some (s.resolveDest (s.tripAt (s.region s.fullAtlas) w) d) ∧
      t.r Reg.TRIP_STATUS_STATE = 1 ∧ t.r Reg.TRIP_TARGET_TARGET = d ∧ t.r Reg.TRIP_TARGET_ORIGIN = s.r Reg.TRIP_STATUS_CAR_STOP % 256 ∧
      (∀ f, 1 ≤ f → f ≤ 3 → t.requested f = true) ∧ SameMemory s t := by
  let latched := (s.w Reg.TRIP_STATUS_LOAD_CLASS load).w Reg.TRIP_STATUS_PROFILE prof
  have stands : latched.r Reg.TRIP_STATUS_CAR_STOP = s.r Reg.TRIP_STATUS_CAR_STOP :=
    (State.r_w_ne _ _ _ _ (by decide)).trans (State.r_w_ne _ _ _ _ (by decide))
  obtain ⟨starting, state, memory⟩ := startTrip_starts false (s.tripAt (s.region s.fullAtlas) w) w d latched
  obtain ⟨target, origin, requested⟩ := startTrip_shows false (s.tripAt (s.region s.fullAtlas) w) w d latched
  obtain ⟨regs, trip, -, kept⟩ := noted_fin s.trip.stops (Told.refl (startTrip false (s.tripAt (s.region s.fullAtlas) w) w d latched))
  obtain ⟨saf, -⟩ := noted_fin_others s.trip.stops (Told.refl (startTrip false (s.tripAt (s.region s.fullAtlas) w) w d latched))
  refine ⟨_, exec_tripStart awake, ?_⟩
  rw [tripStart_starts due word permitted free]
  refine ⟨by rw [trip, starting]; rfl, by rw [regs, state], ?_, by rw [regs, origin, stands], fun f low high => ?_,
    SameMemory.trans memory kept⟩
  · rw [regs, target, Nat.mod_eq_of_lt byte]
  · rw [State.requested, saf]
    exact requested f low high

theorem tripStart_missed {s : Machine.State} {d load prof : Nat} (awake : s.parked = false)
    (due : s.startFor = some (d, load, prof, 0)) :
    ∃ t, exec .tripStart s = .next t ∧ Pending Evt.TRIP_ATLAS_MISS t ∧ t.trip = s.trip ∧ t.regs = s.regs ∧ SameMemory s t := by
  refine ⟨_, exec_tripStart awake, ?_⟩
  rw [tripStart_misses due, noteStops_same (by rfl)]
  exact ⟨pending_fin (by simp [atlasMiss]), by rw [State.fin_trip]; rfl, by rw [State.fin_regs]; rfl,
    (sameMemory_fin _ _).mpr ⟨rfl, rfl, rfl, rfl⟩⟩

theorem tripBegin_completes {s : Machine.State} {x : Trip} (awake : s.parked = false) (starting : s.trip.starting = some x)
    (active : s.active = true) (granted : s.granted = true) (lifted : s.brakes 1 = true) (permitted : s.startPermitted = true)
    (unchecked : (nth x.segs 0 {}).expect = false) (moves : (nth x.segs 0 {}).ending ≠ 4) (program : x.retProg = 0) :
    ∃ t, exec .tripBegin s = .next t ∧ t.trip.starting = none ∧ t.r Reg.TRIP_STATUS_STATE = 2 ∧ (t.chan 0).running = true ∧
      (t.chan 0).trip = x ∧ (t.chan 0).seg = 0 ∧ (x.kind ≠ 3 → t.r Reg.TRIP_STATUS_CAR_STOP = 0) ∧ SameMemory s t := by
  have run : exec .tripBegin s = .next (noteStops s.trip.stops 0 0 0 (tripBegin s)).fin :=
    congrArg (fun t => (noteStops s.trip.stops 0 0 0 t).done) (awake_unparked _ awake)
  let c := ((tripBegun x s).chan 0).begin_ x
  have quiet : c.enter (tripBegun x s).joinTol = [] := Channel.enter_quiet _ unchecked moves
  obtain ⟨none, state, stop, memory⟩ := tripBegun_shows program s
  have stored := resultStored 0 c (.inl quiet) (tripBegun x s)
  rw [tripBegin_begins starting active granted lifted permitted] at run
  obtain ⟨regs, trip, -, kept⟩ := noted_fin s.trip.stops (Told.refl (channelResult 0 (c, c.enter (tripBegun x s).joinTol) (tripBegun x s)))
  have chan : (noteStops s.trip.stops 0 0 0 (channelResult 0 (c, c.enter (tripBegun x s).joinTol) (tripBegun x s))).fin.chan 0 = c := by
    rw [State.chan, trip, State.nth_chan, stored.chan]
  refine ⟨_, run, ?_, ?_, by rw [chan]; rfl, by rw [chan]; rfl, by rw [chan]; rfl, fun away => ?_, (memory.trans stored.memory).trans kept⟩
  · rw [trip, stored.trip]
    exact none
  · exact (regs _).trans ((stored.regs _ (by decide)).trans state)
  · exact (regs _).trans ((stored.regs _ (by decide)).trans (stop away))

theorem levellingStart_completes {s : Machine.State} (awake : s.parked = false) (stop : s.r Reg.TRIP_STATUS_CAR_STOP ≠ 0)
    (free : s.canMove = true) (deck : s.deckPermits (s.r Reg.TRIP_STATUS_CAR_STOP) = true)
    (beyond : s.trip.env.relevelStart < mag (s.pos.sample.pos - s.stopPos (s.r Reg.TRIP_STATUS_CAR_STOP)))
    (doors : s.cycleComplete = false) (bridge : s.bridged = false) :
    ∃ t, exec .levellingStart s = .next t ∧ t.requested 4 = true ∧ t.requested 5 = true ∧ t.trip = s.trip ∧ t.regs = s.regs ∧
      SameMemory s t := by
  have run : exec .levellingStart s = .next (noteStops s.trip.stops 0 0 0 (levellingStart s)).fin :=
    congrArg (fun t => (noteStops s.trip.stops 0 0 0 t).done) (awake_unparked _ awake)
  rw [levellingStart_waits stop free deck beyond doors bridge, noteStops_same (by rfl)] at run
  refine ⟨_, run, ?_, ?_, by rw [State.fin_trip]; rfl, by rw [State.fin_regs]; rfl, (sameMemory_fin _ _).mpr ⟨rfl, rfl, rfl, rfl⟩⟩
  · rw [State.requested, State.fin_saf]
    exact (bitAt_setBit_ne _ _ _ _ (by decide)).trans (bitAt_setBit_same ..)
  · rw [State.requested, State.fin_saf]
    exact bitAt_setBit_same ..

theorem spliceItem_stages {s : Machine.State} {c : Commit} {w : Nat} {x : Trip} (awake : s.parked = false)
    (waits : s.trip.commit = some c) (active : s.active = true) (unstaged : c.staged = false) (expired : s.commitListed c.tag = false)
    (indexed : c.alt = false) (byte : c.stop < 256) (found : s.diversion c.stop = some (some (w, x))) :
    ∃ t, exec (.spliceItem false) s = .next t ∧ t.r Reg.TRIP_SPLICE_STATE = 2 ∧ t.r Reg.TRIP_SPLICE_CAR_STOP = c.stop ∧
      t.trip.commit = some { c with trip := x, word := w, issued := false, staged := true } ∧ SameMemory s t := by
  obtain ⟨state, stop, commit, staged⟩ := stageSplice_shows { c with trip := x, word := w } (showSplice c.stop 2 false x s)
  obtain ⟨regs, trip, -, kept⟩ := noted_fin s.trip.stops (Told.refl
    (stageSplice { c with trip := x, word := w } (showSplice c.stop 2 false x s)))
  refine ⟨_, exec_spliceItem awake, ?_⟩
  rw [(spliceItem_expired waits active unstaged expired indexed).1 w x found]
  refine ⟨by rw [regs, state], ?_, by rw [trip, commit], ((sameMemory_showSplice ..).trans staged).trans kept⟩
  rw [regs, stop, showSplice_shows, Nat.mod_eq_of_lt byte]

theorem spliceItem_demotes {s : Machine.State} {c : Commit} (awake : s.parked = false)
    (waits : s.trip.commit = some c) (active : s.active = true) (unstaged : c.staged = false) (expired : s.commitListed c.tag = false)
    (indexed : c.alt = false) (gone : s.diversion c.stop = some none) :
    ∃ t, exec (.spliceItem false) s = .next t ∧ t.r Reg.TRIP_SPLICE_STATE = 5 ∧ t.trip.commit = none ∧ Pending Evt.STOP_DEMOTED t ∧
      SameMemory s t := by
  obtain ⟨state, commit, raised, memory⟩ := demote_shows c.stop s
  obtain ⟨regs, trip, pending, kept⟩ := noted_fin s.trip.stops (Told.refl (demote c.stop s))
  refine ⟨_, exec_spliceItem awake, ?_⟩
  rw [(spliceItem_expired waits active unstaged expired indexed).2 gone]
  exact ⟨by rw [regs, state], by rw [trip, commit], pending _ raised, SameMemory.trans memory kept⟩

theorem spliceCommand_completes {s : Machine.State} {c : Commit} (awake : s.parked = false) (waits : s.trip.commit = some c)
    (active : s.active = true) (first : c.issued = false) (staged : c.staged = true)
    (ready : c.trip.retProg = 0 ∨ (s.set 0).valid = true) :
    ∃ t, exec .spliceCommand s = .next t ∧ (t.chan 0).splicePend = some c.trip ∧ t.trip.commit = some { c with issued := true } ∧
      t.regs = s.regs ∧ SameMemory s t := by
  have run : exec .spliceCommand s = .next (spliceCommand s).fin := congrArg State.done (awake_unparked _ awake)
  have told := told_journal (spliceIssued c s) (.splice c.trip c.word s.mir.k)
  have chan : (spliceIssued c s).chan 0 = { s.chan 0 with splicePend := some c.trip } :=
    State.chan_modChan_same s 0 fun k => { k with splicePend := some c.trip }
  rw [spliceCommand_issues waits active first staged ready] at run
  refine ⟨_, run, ?_, by rw [State.fin_trip, told.trip]; rfl, by rw [State.fin_regs, told.regs]; rfl, (sameMemory_fin _ _).mpr told.sameMemory⟩
  rw [State.fin_chan, State.chan, told.trip, State.nth_chan, chan]

theorem confChangeItem_completes {s : Machine.State} (awake : s.parked = false) (shaft : s.pos.sample.conf = 2)
    (entered : s.trip.confSeen ≠ 2) (active : s.active = true) (runs : s.r Reg.TRIP_STATUS_STATE = 2) (late : s.inCruise = false)
    (permitted : s.startPermitted = true) :
    ∃ t, exec .confChangeItem s = .next t ∧ t.r Reg.TRIP_STATUS_FINISH = 1 ∧ t.trip.frozen = true ∧ t.trip.confSeen = 2 ∧
      RegsBut [Reg.TRIP_STATUS_FINISH] s t ∧ SameMemory s t := by
  have run : exec .confChangeItem s = .next (noteStops s.trip.stops 0 0 0 (confChange s)).fin :=
    congrArg (fun t => (noteStops s.trip.stops 0 0 0 t).done) (awake_unparked _ awake)
  rw [confChange_finishes shaft entered active runs late permitted, noteStops_same (by rfl)] at run
  have kept : RegsBut [Reg.TRIP_STATUS_FINISH] s (s.w Reg.TRIP_STATUS_FINISH 1) := (RegsBut.refl _ s).w 1 (by simp)
  exact ⟨_, run, by rw [State.fin_r]; exact State.r_w_same s Reg.TRIP_STATUS_FINISH 1, by rw [State.fin_trip]; rfl,
    by rw [State.fin_trip]; rfl, (regsBut_fin _ _ _).mpr kept, (sameMemory_fin _ _).mpr ⟨rfl, rfl, rfl, rfl⟩⟩

/-- Settles O14, command by command: a start shows itself in `startTrip`, its beginning in `tripBegun`, and each item of a commit entry in
what its diversion, found again or gone, leaves. -/
theorem tripStartsAndSplicesComplete : Obligations.TripStartsAndSplicesComplete := by
  refine ⟨⟨?_, ?_, ?_⟩, ?_, ?_, ?_⟩
  · intro s d load prof w awake due byte
    refine ⟨fun word permitted free => tripStart_completes awake due byte word permitted free, ?_⟩
    rintro rfl
    exact tripStart_missed awake due
  · intro s x awake starting active granted lifted permitted unchecked moves program
    exact tripBegin_completes awake starting active granted lifted permitted unchecked moves program
  · intro s awake stop free deck beyond doors bridge
    exact levellingStart_completes awake stop free deck beyond doors bridge
  · intro s c awake waits active unstaged expired indexed byte
    exact ⟨fun w x found => spliceItem_stages awake waits active unstaged expired indexed byte found,
      spliceItem_demotes awake waits active unstaged expired indexed⟩
  · intro s c awake waits active first staged ready
    exact spliceCommand_completes awake waits active first staged ready
  · intro s awake shaft entered active runs late permitted
    exact confChangeItem_completes awake shaft entered active runs late permitted

end Sys2Proof

/-! PROOFS. The separation comparison at an accepted NEIGHBOUR frame (R186 to R188), the controlled stop that a failed one starts (R184),
and what the lanes' judgement of the frame leaves of it. -/

namespace Sys2Proof.Machine

/-! ### What the lanes' judgement of a frame leaves (R252, R264, R322) -/

/-- The registers in which the lanes' judgement and a full receive buffer are counted. -/
def countFields : List Field :=
  [Reg.SAF_TEST_COUNT_ABORTED, Reg.NET_PORT_A1_DROPPED, Reg.NET_PORT_A2_DROPPED, Reg.NET_PORT_B1_DROPPED, Reg.NET_PORT_B2_DROPPED]

/-- The trips, the marks, the lanes' neighbours, the memories, the events before it and every other register are as they were. -/
structure TripsKept (s t : State) : Prop where
  trip : t.trip = s.trip
  ret : t.ret = s.ret
  nbrs : ∀ l, (t.lane l).nbrs = (s.lane l).nbrs
  raised : s.raised ⊆ t.raised
  memory : SameMemory s t
  regs : RegsBut countFields s t

section
variable {s t u : State}

theorem TripsKept.refl (s : State) : TripsKept s s := ⟨rfl, rfl, fun _ => rfl, List.Subset.refl _, .refl s, .refl _ s⟩

theorem TripsKept.w (h : TripsKept s t) {f : Field} (v : Nat) (m : f ∈ countFields := by simp [countFields]) : TripsKept s (t.w f v) :=
  ⟨h.trip, h.ret, h.nbrs, h.raised, h.memory, h.regs.w v m⟩

theorem TripsKept.raise (h : TripsKept s t) (e : Evt) (a : List Arg) : TripsKept s (t.raise e a) :=
  ⟨h.trip, h.ret, h.nbrs, fun _ m => by simp [h.raised m], h.memory, h.regs⟩

theorem TripsKept.ite {c : Prop} {_ : Decidable c} (ht : TripsKept s t) (hu : TripsKept s u) : TripsKept s (if c then t else u) := by
  split <;> assumption

theorem TripsKept.modSaf (h : TripsKept s t) {f : SafState → SafState} (lanes : (f t.saf).lanes = t.saf.lanes := by rfl) :
    TripsKept s (t.modSaf f) :=
  ⟨h.trip, h.ret, fun l => (congrArg (fun x => (nth x l {}).nbrs) lanes).trans (h.nbrs l), h.raised, h.memory, h.regs⟩

theorem TripsKept.modLane (h : TripsKept s t) (l : Nat) {f : Lane → Lane} (same : ∀ x, (f x).nbrs = x.nbrs) : TripsKept s (t.modLane l f) := by
  refine ⟨h.trip, h.ret, fun m => Eq.trans ?_ (h.nbrs m), h.raised, h.memory, h.regs⟩
  by_cases e : m = l
  · rw [e, State.lane_modLane_same, same]
  · rw [State.lane_modLane_ne _ _ _ _ e]

theorem TripsKept.post (h : TripsKept s t) (port key : Nat) (other : port ∉ [2, 3, 4, 7, 8, 10] := by decide) :
    TripsKept s (t.post port key) := by
  obtain ⟨ports, held, form⟩ := post_form t port key other
  rw [form]
  exact ⟨h.trip, h.ret, h.nbrs, h.raised, h.memory, h.regs⟩

theorem TripsKept.latchFault (h : TripsKept s t) (l bit : Nat) (e : Evt) (args : List Arg) : TripsKept s (latchFault l bit e args t) := by
  have latched : TripsKept s (t.modLane l fun x => { x with faults := setBit x.faults bit true }) := h.modLane l fun _ => rfl
  exact .ite (latched.raise ..) latched

theorem TripsKept.tripFault (h : TripsKept s t) (l n bit : Nat) (holds : Bool) (e : Evt) (args : List Arg) :
    TripsKept s (tripFault l n bit holds e args t) := .ite (h.latchFault ..) h

/-- A demand during a test pulse is counted and reported (R252). -/
theorem TripsKept.abortPulse (h : TripsKept s t) (l o : Nat) : TripsKept s (abortPulse l o t) := by
  unfold Machine.abortPulse
  split
  · refine .ite h (.raise (.w (.modLane (.modSaf h) l ?_) _) ..)
    exact fun _ => rfl
  · exact h

theorem TripsKept.laneOpen (h : TripsKept s t) (l : Nat) : TripsKept s (laneOpen l t) := by
  unfold Machine.laneOpen
  extract_lets a opened
  have atOpened : TripsKept s opened := by
    unfold opened
    split
    · exact .ite h (h.abortPulse ..)
    · exact h
  exact atOpened.modLane l fun _ => rfl

theorem nbrs_armUcm (x : Lane) (was closed : Bool) : (x.armUcm was closed).nbrs = x.nbrs := by
  unfold Lane.armUcm
  split
  · rfl
  · split <;> rfl

theorem TripsKept.laneFunctions (h : TripsKept s t) (l : Nat) : TripsKept s (laneFunctions l t) := by
  unfold Machine.laneFunctions
  extract_lets dz s1 s2 br s3 sf s4 closed s5
  have tripped : TripsKept s s4 := (((h.tripFault ..).tripFault ..).tripFault ..).tripFault ..
  have armed : TripsKept s s5 := tripped.modLane l fun x => nbrs_armUcm ..
  refine .laneOpen (.modLane armed l ?_) l
  exact fun _ => rfl

theorem TripsKept.portNine (h : TripsKept s t) : TripsKept s (portNine t) := by
  have report (l : Nat) {u : State} (h : TripsKept s u) : TripsKept s (if nth u.saf.reported l 0 = u.laneReport l then u
      else (u.modSaf fun x => { x with reported := setAt x.reported l (u.laneReport l) 0 }).post 9 l) :=
    .ite h (h.modSaf.post ..)
  exact report 1 (report 0 h)

theorem droppedField_mem (p : Nat) : droppedField p ∈ countFields := by
  match p with
  | 0 | 1 | 2 => simp [droppedField, nth, countFields]
  | n + 3 => simp [droppedField, nth, countFields]

/-- An accepted frame that the comparator and the lanes have taken goes to buffer 5 (R322). -/
theorem tripsKept_nbrAccept (p i : Nat) (h : Rh) (s : State) : ∃ net,
    TripsKept (sepFrame i (leAtI h.payload 0 4) (leAtI h.payload 4 4) (leAt h.payload 24 1 % 4) (leAt h.payload 12 8)
      { s with net := net }) (nbrAccept p i h s) := by
  unfold nbrAccept
  extract_lets age noted compared judged
  refine ⟨noted.net, ?_⟩
  have atJudged : TripsKept compared judged := (((TripsKept.refl compared).laneFunctions 0).laneFunctions 1).portNine
  split
  · exact atJudged
  · exact .ite ((atJudged.w _ (droppedField_mem p)).raise ..) (atJudged.post ..)

end

section
variable {s : State} {p i : Nat} {h : Rh}

/-- The first copy of a new frame of a path that has none pending is let through (R323). -/
theorem dualCopy_first (single : (s.pathSt h).pending = false) (path : (s.pathSt h).path < 4)
    (newer : h.newer (s.pathSt h).last = true) : ∃ paths, dualCopy p h s = (s.modNet fun n => { n with paths := paths }, true) := by
  unfold dualCopy
  dsimp only
  rw [if_neg (by simp [single]), if_pos newer, decide_eq_true path]
  exact ⟨_, rfl⟩

/-- A timely frame of an active named neighbour is accepted (R327). -/
theorem nbrFrame_accepts (named : s.nbrOf h.src = some i) (active : h.active = true) (ready : s.controlReady = true)
    (fresh : s.nbrStale h = false) : nbrFrame p h s = nbrAccept p i h s := by
  unfold nbrFrame
  rw [named]
  simp [active, ready, fresh]

/-- A NEIGHBOUR frame of a tracked producer is used once the dual-path rule lets it through (R323). -/
theorem deliver_neighbour {t : State} (kind : h.kind = Kind.neighbour) (tracked : s.tracked h = true)
    (taken : dualCopy p h s = (t, true)) : deliver p h s = nbrFrame p h t := by
  have pathed : (h.kind = Kind.neighbour ∨ h.kind = Kind.reset) ∧ s.tracked h = true := ⟨.inl kind, tracked⟩
  unfold deliver
  rw [if_neg (by rw [kind]; decide), if_pos pathed, taken]
  exact (if_pos rfl).trans (if_pos kind)

/-- A frame of a named neighbour that the dual-path rule lets through is accepted (R323, R327). -/
theorem neighbourFrame_accepted {f : List Byte} (passed : Passed Kind.neighbour p f s)
    (named : s.nbrOf (parseRh f).src = some i) (origin : (parseRh f).origin = 0) (active : (parseRh f).active = true)
    (ready : s.controlReady = true) (fresh : s.nbrStale (parseRh f) = false) (single : (s.pathSt (parseRh f)).pending = false)
    (path : (s.pathSt (parseRh f)).path < 4) (newer : (parseRh f).newer (s.pathSt (parseRh f)).last = true) :
    ∃ net, kindFrame Kind.neighbour (p % 4) f s = nbrAccept p i (parseRh f) { s with net := net } := by
  obtain ⟨port, crc, version, kind, delivers, configured, -⟩ := passed
  have tracked : s.tracked (parseRh f) = true := by simp [State.tracked, origin, named]
  obtain ⟨paths, taken⟩ := dualCopy_first (p := p) single path newer
  have accepted := nbrFrame_accepts (s := s.modNet fun n => { n with paths := paths }) (p := p) named active ready fresh
  refine ⟨_, Eq.trans ?_ ((deliver_neighbour kind tracked taken).trans accepted)⟩
  rw [Nat.mod_eq_of_lt port]
  exact if_pos ⟨port, crc, version, kind, delivers, by simp [State.rb_eq, configured], by simp [origin]⟩

end

/-! ### The controlled stop of a failed comparison (R184) -/

/-- The registers in which a comparison shows itself before its stop. -/
def sepFields : List Field :=
  [Reg.TRIP_SEP_GAP_UP, Reg.TRIP_SEP_GAP_DOWN, Reg.TRIP_SEP_STATUS_UP_STATE, Reg.TRIP_SEP_STATUS_DOWN_STATE, Reg.TRIP_SEP_COUNT_HARD,
    Reg.TRIP_SEP_COUNT_STOPS]

/-- A comparison has noted what it found: the channels, the environment, the marks, the memories and every other register stay. -/
structure SepNoted (s t : State) : Prop where
  chans : t.trip.chans = s.trip.chans
  env : t.trip.env = s.trip.env
  ret : t.ret = s.ret
  raised : s.raised ⊆ t.raised
  memory : SameMemory s t
  regs : RegsBut sepFields s t

/-- The present stop is read off the car's channel, the atlas, the direction and the load class (R174). -/
theorem presentStop_of {s t : State} (chans : t.trip.chans = s.trip.chans) (env : t.trip.env = s.trip.env)
    (dir : t.r Reg.TRIP_STATUS_DIR = s.r Reg.TRIP_STATUS_DIR) (load : t.r Reg.TRIP_STATUS_LOAD_CLASS = s.r Reg.TRIP_STATUS_LOAD_CLASS) :
    t.presentStop = s.presentStop := by
  have chan : t.chan 0 = s.chan 0 := by rw [State.chan, chans, State.nth_chan]
  unfold State.presentStop State.stopTrip State.bins
  rw [chan, load, env, State.rb_eq, State.rb_eq, dir]

section
variable {s t u : State}

theorem SepNoted.refl (s : State) : SepNoted s s := ⟨rfl, rfl, rfl, List.Subset.refl _, .refl s, .refl _ s⟩

theorem SepNoted.w (h : SepNoted s t) {f : Field} (v : Nat) (m : f ∈ sepFields := by simp [sepFields]) : SepNoted s (t.w f v) :=
  ⟨h.chans, h.env, h.ret, h.raised, h.memory, h.regs.w v m⟩

theorem SepNoted.raise (h : SepNoted s t) (e : Evt) (a : List Arg) : SepNoted s (t.raise e a) :=
  ⟨h.chans, h.env, h.ret, fun _ m => by simp [h.raised m], h.memory, h.regs⟩

theorem SepNoted.ite {c : Prop} {_ : Decidable c} (ht : SepNoted s t) (hu : SepNoted s u) : SepNoted s (if c then t else u) := by
  split <;> assumption

/-- A change of the trip state outside the channels and the environment. -/
theorem SepNoted.modTrip (h : SepNoted s t) {f : TripState → TripState} (chans : (f t.trip).chans = t.trip.chans := by rfl)
    (env : (f t.trip).env = t.trip.env := by rfl) : SepNoted s (t.modTrip f) :=
  ⟨chans.trans h.chans, env.trans h.env, h.ret, h.raised, h.memory, h.regs⟩

theorem SepNoted.active (h : SepNoted s t) : t.active = s.active := by
  simp only [State.active, State.paired, State.rb_eq, h.regs Reg.MIR_CFG_PAIRED (by decide), h.regs Reg.MIR_STATUS_OWN_LINE (by decide)]

theorem SepNoted.chan (h : SepNoted s t) : t.chan 0 = s.chan 0 := by rw [State.chan, h.chans, State.nth_chan]

theorem SepNoted.slot (h : SepNoted s t) (n : Nat) : t.slot 0 n = s.slot 0 n := by rw [State.slot, State.set, h.ret]; rfl

theorem SepNoted.presentStop (h : SepNoted s t) : t.presentStop = s.presentStop :=
  presentStop_of h.chans h.env (h.regs _ (by decide)) (h.regs _ (by decide))

end

/-- The channel, the marks and the registers that a journal entry of the cause leaves are those of the state it was noted in. -/
theorem presentStop_stopCaused (cause : Nat) (s : State) : (stopCaused cause s).presentStop = s.presentStop := by
  have told := told_journal s (.ctrlStop cause)
  have trip : (stopCaused cause s).trip = s.trip := told.trip
  exact presentStop_of (congrArg TripState.chans trip) (congrArg TripState.env trip) ((State.r_w_ne _ _ _ _ (by decide)).trans (told.r _))
    ((State.r_w_ne _ _ _ _ (by decide)).trans (told.r _))

theorem nth_map_fixed {α : Type} {f : α → α} {d : α} (fixed : f d = d) (l : List α) (i : Nat) : nth (l.map f) i d = f (nth l i d) := by
  induction l generalizing i with
  | nil => cases i <;> exact fixed.symm
  | cons x l ih =>
    cases i with
    | zero => rfl
    | succ i => exact ih i

/-- A slot that the reaction of a controlled stop has reached: disarmed unless its mark has KEEP (R149). -/
def disarmed (t : Slot) : Slot := if t.mark.keep then t else { t with armed := false, late := false, unchecked := false }

theorem live_reactSet (k : Nat) (s : State) : ((reactSet k s).set k).live = (s.set k).live.map disarmed := by
  rw [reactSet, State.set, (atlasOnly_loadEnded _).ret, ← State.set, State.set_modSet_same]
  rfl

theorem live_reactLoad (k region retProg : Nat) (s : State) : ((reactLoad k region retProg s).set k).live = (s.set k).live := by
  unfold reactLoad
  split
  · rfl
  · rw [reticleLoad, State.set_modSet_same]

/-- The stop disarms every mark without KEEP (R149). -/
theorem armed_stopSet (cause : Nat) (x : Trip) (s : State) (n : Nat) (leaves : (s.slot 0 n).mark.keep = false) :
    ((stopSet cause x s).slot 0 n).armed = false := by
  have live : ((stopSet cause x s).set 0).live = (s.set 0).live.map disarmed := (live_reactLoad ..).trans (live_reactSet ..)
  rw [State.slot, live, nth_map_fixed (by rfl), ← State.slot, disarmed, leaves]
  rfl

/-- What a failed comparison's cause does: it is noted, and a moving car that is not stopping takes the stop for its next step, its own
program's marks alone staying armed (R184). -/
structure StopStarts (cause : Nat) (s t : State) : Prop where
  noted : s.active = true → bitAt (t.r Reg.TRIP_STATUS_STOP_CAUSE) cause = true
  stops : s.active = true → (s.chan 0).moving = true → (s.chan 0).trip.kind ≠ 4 → (s.chan 0).stopPend = none →
    (t.chan 0).stopPend = some s.presentStop ∧ (t.chan 0).evalPend = none ∧ (t.chan 0).splicePend = none ∧
      ∀ n, (s.slot 0 n).mark.keep = false → (t.slot 0 n).armed = false

theorem stopStarts_ctrlStop {cause : Nat} (known : cause < 4) (s : State) : StopStarts cause s (ctrlStop cause s) := by
  have caused : bitAt ((stopCaused cause s).r Reg.TRIP_STATUS_STOP_CAUSE) cause = true := by
    rw [stopCaused, State.setBitOf, State.r_w_same]
    exact (bitAt_mod known).trans (bitAt_setBit_same ..)
  refine ⟨fun active => ?_, fun active moving trip free => ?_⟩
  · rcases ctrlStop_cases cause s with ⟨standby, -⟩ | kept | stops
    · exact absurd (active.symm.trans standby) (by simp)
    · rw [kept.cause, caused]
    · rw [stops, (carKept_stopSet ..).cause]
      exact caused
  · rw [ctrlStop_moving active moving trip free]
    have chan : (stopSet cause (stopCaused cause s).presentStop (stopTaken (stopCaused cause s))).chan 0 =
        (stopTaken (stopCaused cause s)).chan 0 := by rw [State.chan, (carKept_stopSet ..).chans, State.nth_chan]
    have slot (n : Nat) : (stopTaken (stopCaused cause s)).slot 0 n = s.slot 0 n := by
      obtain ⟨mir, more, told⟩ := told_journal s (.ctrlStop cause)
      have ret : (stopTaken (stopCaused cause s)).ret = s.ret := (congrArg State.ret told :)
      rw [State.slot, State.set, ret, ← State.set, ← State.slot]
    have pends : (stopTaken (stopCaused cause s)).chan 0 = { s.chan 0 with
        stopPend := some (stopCaused cause s).presentStop, evalPend := none, splicePend := none, cont := none, spliceX := none } := by
      rw [stopTaken, State.chan_modChan_same, chan_stopCaused]
    rw [chan, pends, presentStop_stopCaused]
    exact ⟨rfl, rfl, rfl, fun n leaves => armed_stopSet _ _ _ _ (by rw [slot, leaves])⟩

theorem lanes_ctrlStop (cause : Nat) (s : State) : (ctrlStop cause s).saf.lanes = s.saf.lanes := by
  have caused : (stopCaused cause s).saf = s.saf := by
    obtain ⟨mir, more, told⟩ := told_journal s (.ctrlStop cause)
    rw [stopCaused, State.setBitOf, State.w_saf, told]
  rcases ctrlStop_cases cause s with ⟨-, same⟩ | kept | stops
  · rw [same]
  · rw [kept.lanes, caused]
  · rw [stops, (carKept_stopSet ..).lanes]
    exact congrArg SafState.lanes caused

/-- What was noted before the stop changes nothing of it. -/
theorem StopStarts.of_noted {cause : Nat} {s t u : State} (h : StopStarts cause t u) (noted : SepNoted s t) : StopStarts cause s u := by
  obtain ⟨caused, stops⟩ := h
  refine ⟨fun active => caused (noted.active.trans active), fun active moving trip free => ?_⟩
  rw [noted.active, noted.chan, noted.presentStop] at stops
  obtain ⟨stop, eval, splice, marks⟩ := stops active moving trip free
  exact ⟨stop, eval, splice, fun n leaves => marks n (by rw [noted.slot, leaves])⟩

/-- A failed comparison noted, its stop not yet commanded. -/
def sepFailed (cause i : Nat) (s : State) : State :=
  let fresh := !bitAt (s.r Reg.TRIP_STATUS_STOP_CAUSE) cause
  let s := (s.modTrip fun t => { t with stoppedUp := s.rb Reg.TRIP_STATUS_DIR }).modNbr i fun n => { n with failed := true, passSince := none }
  s.when_ (fresh && cause == StopCause.separation) fun s => s.inc Reg.TRIP_SEP_COUNT_STOPS

theorem sepStop_eq (cause i : Nat) (s : State) : sepStop cause i s = ctrlStop cause (sepFailed cause i s) := rfl

theorem SepNoted.sepFailed {s t : State} (h : SepNoted s t) (cause i : Nat) : SepNoted s (sepFailed cause i t) := by
  have failed : SepNoted s ((t.modTrip fun x => { x with stoppedUp := t.rb Reg.TRIP_STATUS_DIR }).modNbr i fun n => { n with
    failed := true, passSince := none }) := h.modTrip.modTrip
  exact .ite (failed.w _) failed

theorem lanes_sepStop (cause i : Nat) (s : State) : (sepStop cause i s).saf.lanes = s.saf.lanes := by
  rw [sepStop_eq, lanes_ctrlStop, sepFailed, State.when_]
  split <;> rfl

theorem stopKeeps_sepStop (cause i : Nat) (s : State) : StopKeeps s (sepStop cause i s) := by
  have failed : StopKeeps s ((s.modTrip fun x => { x with stoppedUp := s.rb Reg.TRIP_STATUS_DIR }).modNbr i fun n => { n with
    failed := true, passSince := none }) := (StopKeeps.refl s).modTrip.modNbr i fun _ => rfl
  exact (failed.when_ (failed.w _)).ctrlStop cause

theorem stopStarts_sepStop {cause : Nat} (known : cause < 4) (i : Nat) {s t : State} (noted : SepNoted s t) :
    StopStarts cause s (sepStop cause i t) := (stopStarts_ctrlStop known (sepFailed cause i t)).of_noted (noted.sepFailed cause i)

/-! ### The comparison (R186 to R188) -/

/-- GAP_UP or GAP_DOWN. -/
def gapField (i : Nat) : Field := if i = 0 then Reg.TRIP_SEP_GAP_UP else Reg.TRIP_SEP_GAP_DOWN

theorem gapField_mem (i : Nat) : gapField i ∈ sepFields := by
  unfold gapField
  split <;> simp [sepFields]

theorem nbrStateField_mem (i : Nat) : nbrStateField i ∈ sepFields := by
  unfold nbrStateField
  split <;> simp [sepFields]

theorem nbrStateField_other (i : Nat) : (nbrStateField i).key ∉ (stopFields ++ countFields).map Field.key ∧
    (nbrStateField i).key ≠ Reg.TRIP_SEP_COUNT_HARD.key ∧ (nbrStateField i).key ≠ (gapField i).key := by
  unfold nbrStateField gapField
  split <;> decide

theorem gapField_other (i : Nat) : (gapField i).key ∉ (stopFields ++ countFields).map Field.key ∧
    (gapField i).key ≠ Reg.TRIP_SEP_COUNT_HARD.key := by
  unfold gapField
  split <;> decide

theorem r_nbrStateField_w (i : Nat) {v : Nat} (small : v < 4) (s : State) : (s.w (nbrStateField i) v).r (nbrStateField i) = v := by
  have width : (nbrStateField i).width = 2 := by
    unfold nbrStateField
    split <;> rfl
  rw [State.r_w_same, width]
  exact Nat.mod_eq_of_lt small

/-- The gap shown, and SEP_HARD put on the lines to both lanes. -/
def gapShown (i : Nat) (gap : Int) (hard : Bool) (s : State) : State := (s.wi (gapField i) gap).sepHardLines i hard

/-- A gap below G_HARD, noted and counted. -/
def hardNoted (i : Nat) (gap : Int) (s : State) : State :=
  if s.r (nbrStateField i) = 2 then s
  else ((s.inc Reg.TRIP_SEP_COUNT_HARD).w (nbrStateField i) 2).raise Evt.SEP_HARD [.code (s.nbrAddr i), .signed (divOpen gap 1000)]

/-- A gap below G_REQ and its margin, noted. -/
def closeNoted (i : Nat) (gap : Int) (s : State) : State :=
  if s.r (nbrStateField i) = 1 then s
  else (s.w (nbrStateField i) 1).raise Evt.SEP_STOP [.code (s.nbrAddr i), .signed (divOpen gap 1000)]

/-- A gap that passes, and since when. -/
def gapPasses (i : Nat) (s : State) : State :=
  (s.w (nbrStateField i) 0).modNbr i fun n => { n with passSince := some (n.passSince.getD s.optime) }

/-- The comparison by its cases: CONF LOST, then the bands of the gap in order (R187, R188). -/
theorem sepCompare_eq {s : State} {i req hard : Nat} {gap : Int} (there : gap = s.gapTo i (s.nbr i).pos)
    (entry : s.sepEntry i (signedBin s.bins s.pos.sample.speed) (signedBin s.bins (s.nbr i).speed) = (req, hard)) :
    sepCompare i s =
      if (s.nbr i).conf = 3 then sepTimeout i (gapShown i gap (decide (gap < hard)) s)
      else if gap < hard then sepStop StopCause.separation i (hardNoted i gap (gapShown i gap (decide (gap < hard)) s))
      else if gap < ((req + s.trip.env.sepMargin : Nat) : Int) then
        sepStop StopCause.separation i (closeNoted i gap (gapShown i gap (decide (gap < hard)) s))
      else gapPasses i (gapShown i gap (decide (gap < hard)) s) := by
  have still : (s.wi (gapField i) gap).sepEntry i (signedBin (s.wi (gapField i) gap).bins (s.wi (gapField i) gap).pos.sample.speed)
      (signedBin (s.wi (gapField i) gap).bins (s.nbr i).speed) = (req, hard) := entry
  subst there
  unfold sepCompare
  dsimp only
  rw [gapField] at still
  rw [still]
  simp only [decide_eq_true_eq]
  rfl

/-- The lines to both lanes show one neighbour's SEP_HARD (R186). -/
theorem hard_sepHardLines (i : Nat) (on : Bool) (s : State) {l : Nat} (lane : l < 2) :
    (nth ((s.sepHardLines i on).lane l).nbrs i {}).hard = on := by
  have both : s.sepHardLines i on = (s.modLane 0 fun x => { x with nbrs := modAt x.nbrs i (fun n => { n with hard := on }) {} }).modLane 1
    fun x => { x with nbrs := modAt x.nbrs i (fun n => { n with hard := on }) {} } := rfl
  rw [both]
  match l, lane with
  | 0, _ => rw [State.lane_modLane_ne _ _ _ _ (by decide), State.lane_modLane_same, nth_modAt_same]
  | 1, _ => rw [State.lane_modLane_same, nth_modAt_same]

theorem SepNoted.gapShown {s t : State} (h : SepNoted s t) (i : Nat) (gap : Int) (hard : Bool) : SepNoted s (gapShown i gap hard t) := by
  obtain ⟨chans, env, ret, raised, memory, regs⟩ := h.w (f := gapField i) (ofI (gapField i).width gap) (gapField_mem i)
  exact ⟨chans, env, ret, raised, memory, regs⟩

theorem SepNoted.hardNoted {s t : State} (h : SepNoted s t) (i : Nat) (gap : Int) : SepNoted s (hardNoted i gap t) :=
  .ite h (((h.w (f := Reg.TRIP_SEP_COUNT_HARD) _).w _ (nbrStateField_mem i)).raise ..)

theorem SepNoted.closeNoted {s t : State} (h : SepNoted s t) (i : Nat) (gap : Int) : SepNoted s (closeNoted i gap t) :=
  .ite h ((h.w _ (nbrStateField_mem i)).raise ..)

/-- CONF LOST, noted. -/
def lostNoted (i : Nat) (s : State) : State :=
  (s.w (nbrStateField i) 3).when_ (s.r (nbrStateField i) != 3) fun t => t.raise Evt.SEP_TIMEOUT [.code (t.nbrAddr i)]

theorem sepTimeout_eq (i : Nat) (s : State) : sepTimeout i s = sepStop StopCause.sepTimeout i (lostNoted i s) := rfl

theorem SepNoted.lostNoted {s t : State} (h : SepNoted s t) (i : Nat) : SepNoted s (lostNoted i t) :=
  .ite ((h.w _ (nbrStateField_mem i)).raise ..) (h.w _ (nbrStateField_mem i))

theorem lostNoted_shows (i : Nat) (s : State) : (lostNoted i s).r (nbrStateField i) = 3 ∧
    (s.r (nbrStateField i) ≠ 3 → Evt.SEP_TIMEOUT.src ∈ (lostNoted i s).raised.map fun x => x.evt.src) := by
  unfold lostNoted State.when_
  split
  · exact ⟨r_nbrStateField_w i (by decide) s, fun _ => by simp⟩
  · rename_i same
    exact ⟨r_nbrStateField_w i (by decide) s, fun fresh => absurd (by simpa using fresh) same⟩

theorem hardNoted_shows (i : Nat) (gap : Int) (s : State) : (hardNoted i gap s).r (nbrStateField i) = 2 ∧
    (s.r (nbrStateField i) ≠ 2 → Evt.SEP_HARD.src ∈ (hardNoted i gap s).raised.map (fun x => x.evt.src) ∧
      (hardNoted i gap s).r Reg.TRIP_SEP_COUNT_HARD = satN Reg.TRIP_SEP_COUNT_HARD.width (s.r Reg.TRIP_SEP_COUNT_HARD + 1)) := by
  obtain ⟨-, count, -⟩ := nbrStateField_other i
  unfold hardNoted
  split
  · exact ⟨‹_›, fun fresh => absurd ‹_› fresh⟩
  · refine ⟨r_nbrStateField_w i (by decide) _, fun _ => ⟨by simp, ?_⟩⟩
    rw [State.raise_r, State.r_w_ne _ _ _ _ count.symm, State.inc_eq, State.r_w_same]
    exact Nat.mod_eq_of_lt (satN_lt ..)

theorem closeNoted_shows (i : Nat) (gap : Int) (s : State) : (closeNoted i gap s).r (nbrStateField i) = 1 ∧
    (s.r (nbrStateField i) ≠ 1 → Evt.SEP_STOP.src ∈ (closeNoted i gap s).raised.map fun x => x.evt.src) := by
  unfold closeNoted
  split
  · exact ⟨‹_›, fun fresh => absurd ‹_› fresh⟩
  · exact ⟨r_nbrStateField_w i (by decide) s, fun _ => by simp⟩

/-- The stop keeps what was noted before it, and is the stop of the state before. -/
theorem sepStop_shows {cause : Nat} (known : cause < 4) (i : Nat) {s t : State} (noted : SepNoted s t) :
    (sepStop cause i t).r (nbrStateField i) = t.r (nbrStateField i) ∧
    (sepStop cause i t).r Reg.TRIP_SEP_COUNT_HARD = t.r Reg.TRIP_SEP_COUNT_HARD ∧
    t.raised.map (fun x => x.evt.src) ⊆ (sepStop cause i t).raised.map (fun x => x.evt.src) ∧
    StopStarts cause s (sepStop cause i t) := by
  obtain ⟨-, raised, -, regs⟩ := stopKeeps_sepStop cause i t
  obtain ⟨state, -, -⟩ := nbrStateField_other i
  rw [List.map_append, List.mem_append, not_or] at state
  exact ⟨regs _ state.1, regs _ (by decide), List.map_subset _ raised, stopStarts_sepStop known i noted⟩

/-- The gap shown in its register and SEP_HARD on the lines, the memories as they were. -/
structure GapShown (i : Nat) (gap : Int) (hard : Nat) (s t : State) : Prop where
  shown : t.r (gapField i) = ofI (gapField i).width gap
  lines : ∀ l, l < 2 → (nth (t.lane l).nbrs i {}).hard = decide (gap < (hard : Int))
  memory : SameMemory s t

theorem gapShown_shows (i : Nat) (gap : Int) (hard : Nat) (s : State) :
    GapShown i gap hard s (gapShown i gap (decide (gap < (hard : Int))) s) := by
  refine ⟨?_, fun l lane => hard_sepHardLines i _ _ lane, ⟨rfl, rfl, rfl, rfl⟩⟩
  exact (State.r_w_same s (gapField i) _).trans (ofI_mod ..)

section
variable {i hard : Nat} {gap : Int} {s t u : State}

theorem GapShown.w (h : GapShown i gap hard s t) {f : Field} (v : Nat) (other : (gapField i).key ≠ f.key) :
    GapShown i gap hard s (t.w f v) := ⟨(State.r_w_ne _ _ _ _ other).trans h.shown, h.lines, h.memory⟩

theorem GapShown.raise (h : GapShown i gap hard s t) (e : Evt) (a : List Arg) : GapShown i gap hard s (t.raise e a) :=
  ⟨h.shown, h.lines, h.memory⟩

theorem GapShown.ite {c : Prop} {_ : Decidable c} (ht : GapShown i gap hard s t) (hu : GapShown i gap hard s u) :
    GapShown i gap hard s (if c then t else u) := by
  split <;> assumption

theorem GapShown.sepStop (h : GapShown i gap hard s t) (cause : Nat) : GapShown i gap hard s (sepStop cause i t) := by
  obtain ⟨-, -, memory, regs⟩ := stopKeeps_sepStop cause i t
  obtain ⟨other, -⟩ := gapField_other i
  rw [List.map_append, List.mem_append, not_or] at other
  refine ⟨(regs _ other.1).trans h.shown, fun l lane => ?_, h.memory.trans memory⟩
  rw [State.lane, lanes_sepStop, ← State.lane, h.lines l lane]

theorem GapShown.state (h : GapShown i gap hard s t) (v : Nat) : GapShown i gap hard s (t.w (nbrStateField i) v) :=
  h.w v (nbrStateField_other i).2.2.symm

theorem GapShown.lostNoted (h : GapShown i gap hard s t) : GapShown i gap hard s (lostNoted i t) := .ite ((h.state 3).raise ..) (h.state 3)

theorem GapShown.hardNoted (h : GapShown i gap hard s t) : GapShown i gap hard s (hardNoted i gap t) :=
  .ite h (((h.w (f := Reg.TRIP_SEP_COUNT_HARD) _ (gapField_other i).2).state 2).raise ..)

theorem GapShown.closeNoted (h : GapShown i gap hard s t) : GapShown i gap hard s (closeNoted i gap t) := .ite h ((h.state 1).raise ..)

theorem GapShown.gapPasses (h : GapShown i gap hard s t) : GapShown i gap hard s (gapPasses i t) := by
  obtain ⟨shown, lines, memory⟩ := h.state 0
  exact ⟨shown, lines, memory⟩

end

/-- What a comparison leaves, by what it found: the neighbour's CONF, the gap, and G_REQ with its margin and G_HARD (R186 to R188). -/
structure Compared (i conf : Nat) (gap : Int) (limit hard : Nat) (s t : State) : Prop where
  shown : GapShown i gap hard s t
  lost : conf = 3 → t.r (nbrStateField i) = 3 ∧
    (s.r (nbrStateField i) ≠ 3 → Evt.SEP_TIMEOUT.src ∈ t.raised.map (fun x => x.evt.src)) ∧ StopStarts 1 s t
  below : conf ≠ 3 → gap < (hard : Int) → t.r (nbrStateField i) = 2 ∧
    (s.r (nbrStateField i) ≠ 2 → Evt.SEP_HARD.src ∈ t.raised.map (fun x => x.evt.src) ∧
      t.r Reg.TRIP_SEP_COUNT_HARD = satN Reg.TRIP_SEP_COUNT_HARD.width (s.r Reg.TRIP_SEP_COUNT_HARD + 1)) ∧ StopStarts 0 s t
  close : conf ≠ 3 → (hard : Int) ≤ gap → gap < (limit : Int) → t.r (nbrStateField i) = 1 ∧
    (s.r (nbrStateField i) ≠ 1 → Evt.SEP_STOP.src ∈ t.raised.map (fun x => x.evt.src)) ∧ StopStarts 0 s t
  passes : conf ≠ 3 → (hard : Int) ≤ gap → (limit : Int) ≤ gap → t.r (nbrStateField i) = 0 ∧
    t.r Reg.TRIP_STATUS_STOP_CAUSE = s.r Reg.TRIP_STATUS_STOP_CAUSE ∧ t.chan 0 = s.chan 0

/-- The comparison, case by case (R186 to R188). -/
theorem compared_sepCompare {s : State} {i req hard : Nat} {gap : Int} (there : gap = s.gapTo i (s.nbr i).pos)
    (entry : s.sepEntry i (signedBin s.bins s.pos.sample.speed) (signedBin s.bins (s.nbr i).speed) = (req, hard)) :
    Compared i (s.nbr i).conf gap (req + s.trip.env.sepMargin) hard s (sepCompare i s) := by
  have shown := gapShown_shows i gap hard s
  have noted := (SepNoted.refl s).gapShown i gap (decide (gap < (hard : Int)))
  have state : (gapShown i gap (decide (gap < (hard : Int))) s).r (nbrStateField i) = s.r (nbrStateField i) :=
    State.r_w_ne _ _ _ _ (nbrStateField_other i).2.2
  have count : (gapShown i gap (decide (gap < (hard : Int))) s).r Reg.TRIP_SEP_COUNT_HARD = s.r Reg.TRIP_SEP_COUNT_HARD :=
    State.r_w_ne _ _ _ _ (gapField_other i).2.symm
  rw [sepCompare_eq there entry]
  generalize gapShown i gap (decide (gap < (hard : Int))) s = g at *
  refine ⟨?_, fun lost => ?_, fun kept below => ?_, fun kept above close => ?_, fun kept above far => ?_⟩
  · exact .ite (shown.lostNoted.sepStop _) (.ite (shown.hardNoted.sepStop _) (.ite (shown.closeNoted.sepStop _) shown.gapPasses))
  · obtain ⟨three, raised⟩ := lostNoted_shows i g
    obtain ⟨kept, -, told, stops⟩ := sepStop_shows (cause := StopCause.sepTimeout) (by decide) i (noted.lostNoted i)
    rw [if_pos lost, sepTimeout_eq, kept]
    exact ⟨three, fun fresh => told (raised (by rwa [state])), stops⟩
  · obtain ⟨two, raised⟩ := hardNoted_shows i gap g
    obtain ⟨same, counted, told, stops⟩ := sepStop_shows (cause := StopCause.separation) (by decide) i (noted.hardNoted i gap)
    rw [if_neg kept, if_pos below, same, counted]
    rw [state, count] at raised
    exact ⟨two, fun fresh => ⟨told (raised fresh).1, (raised fresh).2⟩, stops⟩
  · obtain ⟨one, raised⟩ := closeNoted_shows i gap g
    obtain ⟨same, -, told, stops⟩ := sepStop_shows (cause := StopCause.separation) (by decide) i (noted.closeNoted i gap)
    rw [if_neg kept, if_neg (not_lt.mpr above), if_pos close, same]
    exact ⟨one, fun fresh => told (raised (by rwa [state])), stops⟩
  · rw [if_neg kept, if_neg (not_lt.mpr above), if_neg (not_lt.mpr far)]
    have other : Reg.TRIP_STATUS_STOP_CAUSE.key ≠ (nbrStateField i).key := by
      unfold nbrStateField
      split <;> decide
    exact ⟨r_nbrStateField_w i (by decide) g, (State.r_w_ne _ _ _ _ other).trans (noted.regs _ (by decide)), noted.chan⟩

/-! ### An accepted frame (R186, R284) -/

/-- An accepted frame's content taken by the lanes and the comparator. -/
def frameTaken (i : Nat) (p v : Int) (conf time : Nat) (s : State) : State :=
  (s.laneFrame i p v conf time).modNbr i fun n => { n with
    pos := p, speed := v, conf := conf, seen := true, lastAt := s.optime, timedOut := false, pathOut := false }

theorem nbr_frameTaken (i : Nat) (p v : Int) (conf time : Nat) (s : State) :
    ((frameTaken i p v conf time s).nbr i).pos = p ∧ ((frameTaken i p v conf time s).nbr i).speed = v ∧
      ((frameTaken i p v conf time s).nbr i).conf = conf := by
  rw [frameTaken, State.nbr_modNbr_same]
  exact ⟨rfl, rfl, rfl⟩

/-- What was shown before the frame was taken counts as before the comparison. -/
theorem Compared.before {i conf limit hard : Nat} {gap : Int} {s t u : State} (h : Compared i conf gap limit hard t u)
    (noted : SepNoted s t) (regs : t.regs = s.regs) : Compared i conf gap limit hard s u := by
  have same (f : Field) : t.r f = s.r f := by rw [State.r, State.r, regs]
  obtain ⟨⟨shown, lines, memory⟩, lost, below, close, passes⟩ := h
  simp only [same, noted.chan] at lost below close passes
  refine ⟨⟨shown, lines, noted.memory.trans memory⟩, fun l => ?_, fun k b => ?_, fun k a c => ?_, passes⟩
  · obtain ⟨state, raised, stops⟩ := lost l
    exact ⟨state, raised, stops.of_noted noted⟩
  · obtain ⟨state, raised, stops⟩ := below k b
    exact ⟨state, raised, stops.of_noted noted⟩
  · obtain ⟨state, raised, stops⟩ := close k a c
    exact ⟨state, raised, stops.of_noted noted⟩

/-- The comparison at an accepted frame (R186). -/
theorem compared_sepFrame {s : State} {i req hard conf time : Nat} {p v : Int} (entry :
    s.sepEntry i (signedBin s.bins s.pos.sample.speed) (signedBin s.bins v) = (req, hard)) :
    Compared i conf (s.gapTo i p) (req + s.trip.env.sepMargin) hard s (sepFrame i p v conf time s) := by
  obtain ⟨pos, speed, lost⟩ := nbr_frameTaken i p v conf time s
  have taken : SepNoted s (frameTaken i p v conf time s) := ⟨rfl, rfl, rfl, List.Subset.refl _, ⟨rfl, rfl, rfl, rfl⟩, .refl _ _⟩
  have compared := compared_sepCompare (s := frameTaken i p v conf time s) (i := i) (gap := s.gapTo i p) (req := req) (hard := hard)
    (by rw [pos]; rfl) (by rw [speed]; exact entry)
  rw [lost] at compared
  exact compared.before taken rfl

/-- The lanes' judgement of the frame leaves what the comparison left. -/
theorem StopStarts.after {cause : Nat} {s t u : State} (h : StopStarts cause s t) (judged : TripsKept t u) : StopStarts cause s u := by
  obtain ⟨caused, stops⟩ := h
  refine ⟨fun active => ?_, fun active moving trip free => ?_⟩
  · rw [judged.regs _ (by decide)]
    exact caused active
  · obtain ⟨stop, eval, splice, marks⟩ := stops active moving trip free
    rw [State.chan, judged.trip, State.nth_chan]
    refine ⟨stop, eval, splice, fun n leaves => ?_⟩
    rw [State.slot, State.set, judged.ret, ← State.set, ← State.slot]
    exact marks n leaves

theorem Compared.after {i conf limit hard : Nat} {gap : Int} {s t u : State} (h : Compared i conf gap limit hard s t)
    (judged : TripsKept t u) : Compared i conf gap limit hard s u := by
  obtain ⟨⟨shown, lines, memory⟩, lost, below, close, passes⟩ := h
  have gapOther : (gapField i).key ∉ countFields.map Field.key := fun m =>
    (gapField_other i).1 (List.map_append .. ▸ List.mem_append_right _ m)
  have stateOther : (nbrStateField i).key ∉ countFields.map Field.key := fun m =>
    (nbrStateField_other i).1 (List.map_append .. ▸ List.mem_append_right _ m)
  have state := judged.regs _ stateOther
  have told := List.map_subset (fun x => x.evt.src) judged.raised
  refine ⟨⟨(judged.regs _ gapOther).trans shown, fun l lane => ?_, memory.trans judged.memory⟩, fun l => ?_, fun k b => ?_, fun k a c => ?_,
    fun k a f => ?_⟩
  · rw [judged.nbrs, lines l lane]
  · obtain ⟨three, raised, stops⟩ := lost l
    exact ⟨state.trans three, fun fresh => told (raised fresh), stops.after judged⟩
  · obtain ⟨two, raised, stops⟩ := below k b
    exact ⟨state.trans two, fun fresh => ⟨told (raised fresh).1, (judged.regs _ (by decide)).trans (raised fresh).2⟩, stops.after judged⟩
  · obtain ⟨one, raised, stops⟩ := close k a c
    exact ⟨state.trans one, fun fresh => told (raised fresh), stops.after judged⟩
  · obtain ⟨zero, cause, chan⟩ := passes k a f
    refine ⟨state.trans zero, (judged.regs _ (by decide)).trans cause, ?_⟩
    rw [State.chan, judged.trip, State.nth_chan, chan]

/-- A comparison that does not pass adds its cause, and stops a moving car (R184, R187, R188). -/
theorem Compared.stops {i conf limit hard : Nat} {gap : Int} {s t : State} (h : Compared i conf gap limit hard s t)
    (failed : conf = 3 ∨ gap < (hard : Int) ∨ gap < (limit : Int)) : StopStarts (if conf = 3 then 1 else 0) s t := by
  by_cases lost : conf = 3
  · rw [if_pos lost]
    exact (h.lost lost).2.2
  · rw [if_neg lost]
    by_cases below : gap < (hard : Int)
    · exact (h.below lost below).2.2
    · exact (h.close lost (not_lt.mp below) ((failed.resolve_left lost).resolve_left below)).2.2

theorem TripsKept.of_told {s t : State} (told : Told s t) : TripsKept s t := by
  refine ⟨told.trip, ?_, fun l => ?_, told.raised, told.sameMemory, fun g _ => told.r g⟩ <;>
    · obtain ⟨mir, more, rfl⟩ := told
      rfl

end Sys2Proof.Machine

namespace Sys2Proof

open Sys2Proof.Machine

/-- An accepted frame of a named neighbour is compared. -/
theorem neighbourFrame_compared {s : Machine.State} {p i hard req : Nat} {f : List Byte} (passed : Passed Kind.neighbour p f s)
    (named : s.nbrOf (parseRh f).src = some i) (origin : (parseRh f).origin = 0) (active : (parseRh f).active = true)
    (ready : s.controlReady = true) (fresh : s.nbrStale (parseRh f) = false) (single : (s.pathSt (parseRh f)).pending = false)
    (path : (s.pathSt (parseRh f)).path < 4) (newer : (parseRh f).newer (s.pathSt (parseRh f)).last = true)
    (entry : s.sepEntry i (signedBin s.bins s.pos.sample.speed) (signedBin s.bins (leAtI (parseRh f).payload 4 4)) = (req, hard)) :
    ∃ u, exec (.neighbourFrame p f) s = .next u.fin ∧ Compared i (leAt (parseRh f).payload 24 1 % 4)
      (s.gapTo i (leAtI (parseRh f).payload 0 4)) (req + s.trip.env.sepMargin) hard s u := by
  obtain ⟨net, accepted⟩ := neighbourFrame_accepted passed named origin active ready fresh single path newer
  obtain ⟨net', judged⟩ := tripsKept_nbrAccept p i (parseRh f) { s with net := net }
  have compared := compared_sepFrame (s := { s with net := net' }) (conf := leAt (parseRh f).payload 24 1 % 4)
    (time := leAt (parseRh f).payload 12 8) (p := leAtI (parseRh f).payload 0 4) entry
  have before : SepNoted s { s with net := net' } := ⟨rfl, rfl, rfl, List.Subset.refl _, ⟨rfl, rfl, rfl, rfl⟩, .refl _ s⟩
  have told := told_noteStops s.trip.stops 0 0 0 (kindFrame Kind.neighbour (p % 4) f s)
  refine ⟨noteStops s.trip.stops 0 0 0 (kindFrame Kind.neighbour (p % 4) f s), rfl, ?_⟩
  refine Compared.after ?_ (TripsKept.of_told told)
  rw [accepted]
  exact (compared.before before rfl).after judged

/-- Settles O16: the frame is accepted, compared band by band (`compared_sepCompare`), and what the lanes judge of it leaves that. -/
theorem separationComparisonsComplete : Obligations.SeparationComparisonsComplete := by
  rintro s p i g hard req f gap passed named origin active ready fresh single path newer rfl rfl entry
  obtain ⟨u, run, compared⟩ := neighbourFrame_compared passed named origin active ready fresh single path newer entry
  have ⟨⟨shown, lines, memory⟩, lost, below, close, passes⟩ := compared
  refine ⟨u.fin, run, ?_, ?_, ?_, ?_, ?_, ?_, ?_, ?_, ?_, (sameMemory_fin _ _).mpr memory⟩
  · rintro rfl
    rw [State.fin_r]
    exact shown
  · intro below
    rw [State.fin_r]
    simpa [gapField, below] using shown
  · intro l lane
    rw [State.fin_lane]
    exact lines l lane
  · intro three
    obtain ⟨state, raised, stops⟩ := lost three
    exact ⟨by rw [State.fin_r, state], fun fresh => pending_fin (raised fresh), fun active => by rw [State.fin_r]; exact stops.noted active⟩
  · intro kept hard
    obtain ⟨state, raised, -⟩ := below kept hard
    exact ⟨by rw [State.fin_r, state], fun fresh => ⟨pending_fin (raised fresh).1, by rw [State.fin_r]; exact (raised fresh).2⟩⟩
  · intro kept above near
    obtain ⟨state, raised, -⟩ := close kept above near
    exact ⟨by rw [State.fin_r, state], fun fresh => pending_fin (raised fresh)⟩
  · intro kept failed active
    have stops := compared.stops (.inr failed)
    rw [if_neg kept] at stops
    rw [State.fin_r]
    exact stops.noted active
  · intro failed active moving trip free
    obtain ⟨stop, eval, splice, marks⟩ := (compared.stops failed).stops active moving trip free
    rw [State.fin_chan]
    exact ⟨stop, eval, splice, fun n _ leaves => by rw [fin_slot, marks n leaves]⟩
  · intro kept above far
    obtain ⟨state, cause, chan⟩ := passes kept above far
    exact ⟨by rw [State.fin_r, state], by rw [State.fin_r, cause], by rw [State.fin_chan, chan]⟩

end Sys2Proof

/-! PROOFS. Requests (R170, R175, R332): the frame taken from its buffer, the answer given and recorded, and what an assign or a cancel
makes of the stop list. -/

namespace Sys2Proof.Machine

/-! ### An answer given (R332) -/

section
variable {s t : State}

theorem TripsKept.modNet (h : TripsKept s t) (f : NetState → NetState) : TripsKept s (t.modNet f) :=
  ⟨h.trip, h.ret, h.nbrs, h.raised, h.memory, h.regs⟩

theorem TripsKept.trans {u : State} (h : TripsKept s t) (h' : TripsKept t u) : TripsKept s u :=
  ⟨h'.trip.trans h.trip, h'.ret.trans h.ret, fun l => (h'.nbrs l).trans (h.nbrs l), List.Subset.trans h.raised h'.raised,
    h.memory.trans h'.memory, h.regs.trans h'.regs⟩

/-- A frame entered in a class's queue, or counted as dropped, leaves the answers (R321). -/
theorem TripsKept.enqueue (h : TripsKept s t) (p cls : Nat) (f : NetFrame) : TripsKept s (enqueue p cls f t) :=
  .ite (h.modNet _) (h.w _ (droppedField_mem p))

theorem answers_enqueue (p cls : Nat) (f : NetFrame) (s : State) : (enqueue p cls f s).net.answers = s.net.answers := by
  unfold enqueue
  dsimp only
  split <;> rfl

/-- Frames entered at ports one after the other leave the trips and the answers. -/
theorem tripsKept_enqueues (cls : Nat) (g : State → Nat → NetFrame) (ports : List Nat) (s : State) :
    TripsKept s (ports.foldl (fun s p => enqueue p cls (g s p) s) s) ∧
      (ports.foldl (fun s p => enqueue p cls (g s p) s) s).net.answers = s.net.answers := by
  induction ports generalizing s with
  | nil => exact ⟨.refl s, rfl⟩
  | cons p ports ih =>
    obtain ⟨kept, answers⟩ := ih (enqueue p cls (g s p) s)
    exact ⟨((TripsKept.refl s).enqueue ..).trans kept, answers.trans (answers_enqueue ..)⟩

/-- A frame sent leaves the trips and the answers (R319, R321). -/
theorem tripsKept_sendFrame (kind hops dst sel : Nat) (payload : List Byte) (ports : List Nat) (s : State) :
    TripsKept s (sendFrame kind hops dst sel payload ports s) ∧
      (sendFrame kind hops dst sel payload ports s).net.answers = s.net.answers := by
  unfold sendFrame
  split
  · exact ⟨.refl s, rfl⟩
  · extract_lets seq head
    have sent := tripsKept_enqueues (kindClass kind) (fun t p => .raw (buildFrame t (p / 2) head payload)) ports s
    exact ⟨sent.1.modNet _, sent.2⟩

/-- A reply sent leaves the trips and the answers (R332). -/
theorem tripsKept_sendReply (x : Request) (code : Nat) (s : State) :
    TripsKept s (sendReply x code s) ∧ (sendReply x code s).net.answers = s.net.answers := tripsKept_sendFrame ..

end

/-- At the end of a command's step its answer is the first recorded, and the trips, the events, the memories and the registers but the
counts of lost frames are those that the stop-list graph left (R332). -/
structure Answered (y : State × Nat) (t : State) : Prop where
  trip : t.trip = y.1.trip
  code : (t.net.answers.head?.map fun a => a.code) = some y.2
  pending : ∀ e : Evt, e.src ∈ y.1.raised.map (fun x => x.evt.src) → Pending e t
  memory : SameMemory y.1 t
  regs : RegsBut countFields y.1 t

/-- With no request waiting, an answer is that of the state (R170, R332). -/
theorem answered_answer {op req landing doors profile : Nat} {upper : Bool} {f : State → State × Nat} {s : State}
    (none : s.net.graphReq = []) : Answered (f s) (answer op req landing upper doors profile f s).fin := by
  have emptied (x : Request) : (s.modNet fun n => { n with graphReq := n.graphReq.erase x }) = s := by
    rw [State.modNet, none, List.erase_nil, ← none]
  unfold answer
  extract_lets made mine x old emptied' y
  have found : y = f s := congrArg f (emptied x)
  have recorded : TripsKept y.1 (recordAnswer ⟨x.id, x.payload, y.2⟩ y.1) := (TripsKept.refl y.1).modNet _
  have told := told_noteStops old x.id x.payload y.2 (recordAnswer ⟨x.id, x.payload, y.2⟩ y.1)
  obtain ⟨sent, answers⟩ := tripsKept_sendReply x y.2 (noteStops old x.id x.payload y.2 (recordAnswer ⟨x.id, x.payload, y.2⟩ y.1))
  have kept := (recorded.trans (.of_told told)).trans sent
  rw [← found]
  refine ⟨by rw [State.fin_trip, kept.trip], ?_, fun e m => pending_fin (List.map_subset _ kept.raised m), (sameMemory_fin _ _).mpr kept.memory,
    (regsBut_fin _ _ _).mpr kept.regs⟩
  obtain ⟨mir, more, form⟩ := told
  rw [State.fin_net, answers, form]
  rfl

/-! ### Assigns (R170, R172) -/

theorem nth_mem {α : Type} {l : List α} {i : Nat} (low : i < l.length) (d : α) : nth l i d ∈ l := by
  induction l generalizing i with
  | nil => exact absurd low (Nat.not_lt_zero i)
  | cons x l ih =>
    cases i with
    | zero => exact List.mem_cons_self
    | succ i => exact List.mem_cons_of_mem x (ih (Nat.lt_of_succ_lt_succ low))

/-- An answer from a frozen stop list leaves the list; its code is one of those offered (R182). -/
theorem frozenAnswer_keeps {codes : List Nat} (some : codes ≠ []) (s : State) :
    (frozenAnswer codes s).2 ∈ codes ∧ (frozenAnswer codes s).1.trip = s.trip ∧ SameMemory s (frozenAnswer codes s).1 := by
  have offered : nth codes (s.freeNat 8 % codes.length) 0 ∈ codes := nth_mem (Nat.mod_lt _ (List.length_pos_iff.mpr some)) 0
  refine ⟨offered, ?_⟩
  unfold frozenAnswer
  dsimp only
  split
  · exact ⟨rfl, rfl, rfl, rfl, rfl⟩
  · split
    · exact ⟨rfl, rfl, rfl, rfl, rfl⟩
    · split <;> exact ⟨rfl, rfl, rfl, rfl, rfl⟩

section
variable {s : State} {req n doors profile : Nat} {up : Bool}

theorem assign_refused {c : Nat} (refused : s.assignRefusal n up doors = some c) :
    assign req n up doors profile s = (s.inc Reg.TRIP_REQ_COUNT_REFUSED, c) := by
  unfold assign
  rw [refused]

variable (free : s.assignRefusal n up doors = none)
include free

theorem assign_frozen (frozen : s.trip.frozen = true) :
    assign req n up doors profile s = frozenAnswer [0, 1, 2, 3, 0x10, 0x11, 0x12, 0x13] s := by
  unfold assign
  rw [free]
  exact if_pos frozen

variable (thawed : s.trip.frozen = false)
include thawed

theorem assign_merges (listed : (s.trip.stops.any fun e => e.landing == n && e.upper == up) = true) :
    assign req n up doors profile s =
      (s.mapStops fun e => if e.landing == n && e.upper == up then { e with doors := Nat.lor e.doors doors } else e,
        if s.standsAt (if up then n - 1 else n) = true ∨
          (s.trip.stops.any fun e => (e.landing == n && e.upper == up) && e.state == 2) = true then 3 else 2) := by
  unfold assign
  rw [free]
  dsimp only
  rw [if_neg (by simp [thawed]), if_pos listed]
  cases here : s.standsAt (if up then n - 1 else n)
  · simp
  · simp only [Bool.true_or, Bool.and_true, true_or, if_true]
    rw [if_pos listed]

variable (unlisted : (s.trip.stops.any fun e => e.landing == n && e.upper == up) = false)
include unlisted

theorem assign_full (full : 64 ≤ s.trip.stops.length) :
    assign req n up doors profile s = ((s.inc Reg.TRIP_REQ_COUNT_REFUSED).raise Evt.STOPLIST_FULL [.ident req], 0x12) := by
  unfold assign
  rw [free]
  dsimp only
  rw [if_neg (by simp [thawed]), unlisted, if_neg (by simp), if_pos full]

variable (room : s.trip.stops.length < 64)
include room

theorem assign_here (here : s.standsAt (if up then n - 1 else n) = true) :
    assign req n up doors profile s = (s.modTrip fun t => { t with stops := t.stops ++ [⟨n, up, doors, profile, req, 2⟩] }, 3) := by
  unfold assign
  rw [free]
  dsimp only
  rw [if_neg (by simp [thawed]), unlisted, if_neg (by simp), if_neg (not_le.mpr room), here]
  rfl

/-- A new entry of a car stop where the car does not stand is run where the run rule accepts it, else queued (R172). -/
theorem assign_enters (away : s.standsAt (if up then n - 1 else n) = false) {u : State} {runs : Bool}
    (tried : tryRun (if up then n - 1 else n) (s.modTrip fun t => { t with stops := t.stops ++ [⟨n, up, doors, profile, req, 0⟩] }) =
      (u, runs)) :
    assign req n up doors profile s = if runs then (u.inc Reg.TRIP_REQ_COUNT_RUN, 0) else (u.inc Reg.TRIP_REQ_COUNT_QUEUED, 1) := by
  unfold assign
  rw [free]
  dsimp only
  rw [if_neg (by simp [thawed]), unlisted, if_neg (by simp), if_neg (not_le.mpr room), away]
  simp only [Bool.false_eq_true, if_false]
  rw [tried]
  cases runs <;> rfl

end

/-! ### Cancels (R175) -/

/-- The atlas misses of the lookups are events alone (R165). -/
theorem beyondMisses_form (target : Nat) (s : State) : ∃ raised, beyondMisses target s = { s with raised := raised } := by
  unfold beyondMisses
  generalize s.beyondStops target = l
  induction l generalizing s with
  | nil => exact ⟨s.raised, rfl⟩
  | cons n l ih =>
    rw [List.foldl_cons]
    split
    · obtain ⟨raised, form⟩ := ih (atlasMiss 1 0 n s)
      exact ⟨raised, form⟩
    · exact ih s

section
variable {s : State} {n : Nat} {up : Bool}

theorem cancelAnswer_listening (listens : s.r Reg.IMG_MODULE_STATE_LISTENING = 1) : cancelAnswer n up s = (s, 0x13) := by
  simp [cancelAnswer, State.rb_eq, listens]

variable (on : s.r Reg.IMG_MODULE_STATE_LISTENING = 0)
include on

theorem cancelAnswer_absent (absent : (s.trip.stops.find? fun e => e.landing == n && e.upper == up) = none) :
    cancelAnswer n up s = (s, 0x22) := by
  unfold cancelAnswer cancelRequest
  dsimp only
  rw [State.rb_eq, on, absent]
  rfl

variable {e : StopEntry} (listed : (s.trip.stops.find? fun e => e.landing == n && e.upper == up) = some e)
include listed

theorem cancelAnswer_frozen (frozen : s.trip.frozen = true) : cancelAnswer n up s = frozenAnswer [0x20, 0x21, 0x22] s := by
  unfold cancelAnswer cancelRequest
  dsimp only
  rw [State.rb_eq, on, listed]
  exact (if_neg (by simp)).trans (if_pos frozen)

variable (thawed : s.trip.frozen = false)
include thawed

/-- A listed entry that is no target, or not the last of its car stop, is removed (R175). -/
theorem cancelAnswer_removed
    (more : e.state ≠ 1 ∨ ((s.trip.stops.filter fun e => !(e.landing == n && e.upper == up)).any fun x => x.stop == e.stop) = true) :
    cancelAnswer n up s = (s.modTrip fun t => { t with stops := t.stops.filter fun e => !(e.landing == n && e.upper == up) }, 0x20) := by
  unfold cancelAnswer cancelRequest
  dsimp only
  rw [State.rb_eq, on, listed]
  refine (if_neg (by simp)).trans ((if_neg (by simp [thawed])).trans (if_pos ?_))
  rcases more with state | last
  · simp [state]
  · exact (Bool.or_eq_true ..).mpr (.inr last)

/-- The cancel of the target's last entry goes on without it (R175). -/
theorem cancelAnswer_ofTarget (target : e.state = 1)
    (last : ((s.trip.stops.filter fun e => !(e.landing == n && e.upper == up)).any fun x => x.stop == e.stop) = false) :
    cancelAnswer n up s =
      cancelTarget e.stop (s.modTrip fun t => { t with stops := t.stops.filter fun e => !(e.landing == n && e.upper == up) }) := by
  unfold cancelAnswer cancelRequest
  dsimp only
  rw [State.rb_eq, on, listed]
  refine (if_neg (by simp)).trans ((if_neg (by simp [thawed])).trans (if_neg ?_))
  rw [target]
  exact fun more => Bool.false_ne_true (last.symm.trans more)

end

/-- The commit entry of a car stop still waits for the car (R175). -/
def commitAwaited (stop : Nat) (s : State) : Bool :=
  match s.trip.commit with
  | some c => c.stop == stop && !c.staged && s.commitWaits c.tag
  | none => false

/-- The commit entry that waits for the car is taken back (R175). -/
def commitTakenBack (s : State) : State :=
  let s := cancelCommit s.trip.commit s
  setTarget s.reachTarget (endSplice (s.modTrip fun t => { t with commit := none }))

/-- The diversion to the nearest queued stop beyond, staged; with none the stop is kept (R175). -/
def divertedBeyond (stop : Nat) (s : State) : State × Nat :=
  match s.beyond stop with
  | some (n, w, x) => (setTarget n (stageSplice { stop := n, trip := x, tag := 0, word := w } (showSplice n 2 false x s)), 0x20)
  | none => (s, 0x21)

theorem cancelTarget_eq (stop : Nat) (s : State) :
    cancelTarget stop s = if commitAwaited stop s then (commitTakenBack s, 0x20)
      else if s.cruising then divertedBeyond stop (beyondMisses stop s) else (s, 0x21) := rfl

theorem endSplice_form (s : State) : ∃ regs, endSplice s = { s with regs := regs } := by
  unfold endSplice
  split <;> exact ⟨_, rfl⟩

theorem setTarget_shows (n : Nat) (s : State) : (setTarget n s).r Reg.TRIP_TARGET_TARGET = n % 256 :=
  State.r_w_same _ Reg.TRIP_TARGET_TARGET n

theorem sameMemory_setTarget (n : Nat) (s : State) : SameMemory s (setTarget n s) := ⟨rfl, rfl, rfl, rfl⟩

/-- With the commit entry taken back, the target is what the running trip still reaches (R175). -/
theorem commitTakenBack_shows {s : State} {c : Commit} (commit : s.trip.commit = some c) (unstaged : c.staged = false) :
    (commitTakenBack s).trip.commit = none ∧ (commitTakenBack s).r Reg.TRIP_TARGET_TARGET = s.reachTarget % 256 ∧
      SameMemory s (commitTakenBack s) := by
  have cancelled : cancelCommit s.trip.commit s = delayCancel true c.tag s := by rw [commit]; exact if_neg (by simp [unstaged])
  unfold commitTakenBack
  rw [cancelled]
  obtain ⟨regs, ended⟩ := endSplice_form ((delayCancel true c.tag s).modTrip fun t => { t with commit := none })
  dsimp only
  rw [setTarget_shows, ended]
  exact ⟨rfl, rfl, rfl, rfl, rfl, rfl⟩

/-- The diversion to a stop beyond is staged, and the stop is the target (R175). -/
theorem divertedBeyond_shows {stop : Nat} {k : Nat × Nat × Trip} {s : State} (beyond : s.beyond stop = some k) :
    (divertedBeyond stop s).2 = 0x20 ∧ (divertedBeyond stop s).1.r Reg.TRIP_TARGET_TARGET = k.1 % 256 ∧
      (divertedBeyond stop s).1.r Reg.TRIP_SPLICE_STATE = 2 ∧ SameMemory s (divertedBeyond stop s).1 := by
  obtain ⟨n, w, x⟩ := k
  obtain ⟨state, -, -, staged⟩ := stageSplice_shows { stop := n, trip := x, tag := 0, word := w } (showSplice n 2 false x s)
  have kept := (sameMemory_showSplice ..).trans staged
  unfold divertedBeyond
  rw [beyond]
  dsimp only
  generalize stageSplice { stop := n, trip := x, tag := 0, word := w } (showSplice n 2 false x s) = t at *
  exact ⟨rfl, setTarget_shows n t, (State.r_w_ne _ Reg.TRIP_TARGET_TARGET Reg.TRIP_SPLICE_STATE n (by decide)).trans state,
    kept.trans (sameMemory_setTarget n t)⟩

section
variable {stop : Nat} {s : State}

theorem cancelTarget_takesBack {c : Commit} (commit : s.trip.commit = some c) (same : c.stop = stop) (unstaged : c.staged = false)
    (waits : s.commitWaits c.tag = true) : cancelTarget stop s = (commitTakenBack s, 0x20) := by
  rw [cancelTarget_eq, if_pos (by simp [commitAwaited, commit, same, unstaged, waits])]

variable (other : ∀ c, s.trip.commit = some c → c.stop ≠ stop ∨ c.staged = true ∨ s.commitWaits c.tag = false)
include other

theorem commitAwaited_none : commitAwaited stop s = false := by
  cases commit : s.trip.commit with
  | none => simp [commitAwaited, commit]
  | some c => rcases other c commit with h | h | h <;> simp [commitAwaited, commit, h]

theorem cancelTarget_diverts (cruising : s.cruising = true) :
    ∃ raised, cancelTarget stop s = divertedBeyond stop { s with raised := raised } := by
  obtain ⟨raised, misses⟩ := beyondMisses_form stop s
  refine ⟨raised, ?_⟩
  rw [cancelTarget_eq, commitAwaited_none other, cruising, misses]
  rfl

/-- With neither a commit entry that waits nor a stop beyond, the stop is kept (R175). -/
theorem cancelTarget_keeps (none : s.cruising = false ∨ s.beyond stop = none) :
    ∃ raised, cancelTarget stop s = ({ s with raised := raised }, 0x21) := by
  cases cruising : s.cruising with
  | false =>
    refine ⟨s.raised, ?_⟩
    rw [cancelTarget_eq, commitAwaited_none other, cruising]
    rfl
  | true =>
    obtain ⟨raised, diverts⟩ := cancelTarget_diverts other cruising
    have still : ({ s with raised := raised } : State).beyond stop = s.beyond stop := rfl
    refine ⟨raised, ?_⟩
    rw [diverts, divertedBeyond, still, none.resolve_left (by simp [cruising])]

end

end Sys2Proof.Machine

namespace Sys2Proof

open Sys2Proof.Machine

/-! ### The commands -/

/-- A new request of buffer 4 is passed to the stop-list graph (R332). -/
theorem requestFrame_passes {s : Machine.State} {x : Request} {rest : List Request} (waits : s.net.bufReq = x :: rest)
    (active : s.active = true) (awake : s.parked = false)
    (new : s.net.answers.find? (fun a => a.id == x.id && a.payload == x.payload) = none) (op : x.op = 1 ∨ x.op = 2) :
    ∃ t, exec .requestFrame s = .next t ∧ t.net.bufReq = rest ∧ t.net.graphReq = s.net.graphReq ++ [x] ∧ t.regs = s.regs ∧
      SameMemory s t := by
  have stays : (s.modNet fun n => { n with bufReq := rest }).active = true := active
  have unanswered : (s.modNet fun n => { n with bufReq := rest }).net.answers.find? (fun a => a.id == x.id && a.payload == x.payload) =
      none := new
  have passes : takeRequest s = (s.modNet fun n => { n with bufReq := rest }).modNet fun n => { n with graphReq := n.graphReq ++ [x] } := by
    unfold takeRequest
    rw [waits]
    dsimp only
    rw [if_neg (by simp [stays]), unanswered]
    exact if_pos op
  refine ⟨(takeRequest s).fin, congrArg State.done (awake_unparked _ awake), ?_⟩
  rw [State.fin_net, State.fin_regs, sameMemory_fin, passes]
  exact ⟨rfl, rfl, rfl, rfl, rfl, rfl, rfl⟩

theorem assign_answers {s : Machine.State} {req n doors profile : Nat} {up : Bool} (id : req < 65536) (byte : n < 256) (mask : doors < 4)
    (class_ : profile < 2) (active : s.active = true) (awake : s.parked = false) (none : s.net.graphReq = []) :
    ∃ t, exec (.assign req n up doors profile) s = .next t ∧ Answered (assign req n up doors profile s) t := by
  have answers := answered_answer (op := 1) (req := req) (landing := n) (upper := up) (doors := doors) (profile := profile)
    (f := assign (req % 65536) (n % 256) up (doors % 4) (profile % 2)) none
  have run : exec (.assign req n up doors profile) s =
      .next (answer 1 req n up doors profile (assign (req % 65536) (n % 256) up (doors % 4) (profile % 2)) s).fin :=
    (if_pos active).trans (congrArg State.done (awake_unparked _ awake))
  rw [Nat.mod_eq_of_lt id, Nat.mod_eq_of_lt byte, Nat.mod_eq_of_lt mask, Nat.mod_eq_of_lt class_] at answers run
  exact ⟨_, run, answers⟩

theorem cancelRequest_answers {s : Machine.State} {req n : Nat} {up : Bool} (byte : n < 256) (active : s.active = true)
    (awake : s.parked = false) (none : s.net.graphReq = []) :
    ∃ t, exec (.cancelRequest req n up) s = .next t ∧ Answered (cancelAnswer n up s) t := by
  have answers := answered_answer (op := 2) (req := req) (landing := n) (upper := up) (doors := 0) (profile := 0)
    (f := cancelAnswer (n % 256) up) none
  have run : exec (.cancelRequest req n up) s = .next (answer 2 req n up 0 0 (cancelAnswer (n % 256) up) s).fin :=
    (if_pos active).trans (congrArg State.done (awake_unparked _ awake))
  rw [Nat.mod_eq_of_lt byte] at answers run
  exact ⟨_, run, answers⟩

/-- An answer that is known leaves the stop list and its code. -/
theorem Machine.Answered.told {y : Machine.State × Nat} {s t u : Machine.State} {c : Nat} (h : Answered y t) (known : y = (u, c))
    (memory : SameMemory s u) : t.trip = u.trip ∧ (t.net.answers.head?.map fun a => a.code) = some c ∧ SameMemory s t := by
  subst known
  exact ⟨h.trip, h.code, memory.trans h.memory⟩

/-- An assign that no entry has: served where the car stands, else queued or run (R170, R172, R178). -/
theorem assign_new {s t : Machine.State} {req n doors profile : Nat} {up : Bool} (h : Answered (assign req n up doors profile s) t)
    (free : s.assignRefusal n up doors = none) (thawed : s.trip.frozen = false)
    (unlisted : (s.trip.stops.any fun e => e.landing == n && e.upper == up) = false) (room : s.trip.stops.length < 64) :
    (s.standsAt (if up then n - 1 else n) = true → t.trip.stops = s.trip.stops ++ [⟨n, up, doors, profile, req, 2⟩] ∧
      (t.net.answers.head?.map fun a => a.code) = some 3 ∧ SameMemory s t) ∧
    (s.standsAt (if up then n - 1 else n) = false → s.splicePossible (if up then n - 1 else n) = false →
      t.trip.stops = s.trip.stops ++ [⟨n, up, doors, profile, req, 0⟩] ∧ (t.net.answers.head?.map fun a => a.code) = some 1 ∧
        SameMemory s t) ∧
    (s.standsAt (if up then n - 1 else n) = false → ∀ u : Machine.State,
      tryRun (if up then n - 1 else n)
        { s with trip := { s.trip with stops := s.trip.stops ++ [⟨n, up, doors, profile, req, 0⟩] } } = (u, true) →
      t.trip.stops = u.trip.stops ∧ (t.net.answers.head?.map fun a => a.code) = some 0) := by
  refine ⟨fun here => ?_, fun away refused => ?_, fun away u runs => ?_⟩
  · obtain ⟨trip, code, memory⟩ := h.told (assign_here free thawed unlisted room here) (s := s) ⟨rfl, rfl, rfl, rfl⟩
    exact ⟨by rw [trip]; rfl, code, memory⟩
  · have still : (s.modTrip fun t => { t with stops := t.stops ++ [⟨n, up, doors, profile, req, 0⟩] }).splicePossible
        (if up then n - 1 else n) = false := refused
    have tried : tryRun (if up then n - 1 else n) (s.modTrip fun t => { t with stops := t.stops ++ [⟨n, up, doors, profile, req, 0⟩] }) =
        (s.modTrip fun t => { t with stops := t.stops ++ [⟨n, up, doors, profile, req, 0⟩] }, false) := if_pos (by simp [still])
    obtain ⟨trip, code, memory⟩ := h.told (assign_enters free thawed unlisted room away tried) (s := s) ⟨rfl, rfl, rfl, rfl⟩
    exact ⟨by rw [trip]; rfl, code, memory⟩
  · have e : assign req n up doors profile s = (u.inc Reg.TRIP_REQ_COUNT_RUN, 0) := assign_enters free thawed unlisted room away runs
    rw [e] at h
    exact ⟨by rw [h.trip]; rfl, h.code⟩

/-- The cancel of the target's last entry (R175). -/
theorem cancelTarget_answers {s u t : Machine.State} {e : StopEntry} {y : Machine.State × Nat} (h : Answered y t)
    (known : y = cancelTarget e.stop u) (emptied : u = { s with trip := { s.trip with stops := u.trip.stops } }) :
    (∀ c, s.trip.commit = some c → c.stop = e.stop → c.staged = false → s.commitWaits c.tag = true →
      t.trip.commit = none ∧ t.r Reg.TRIP_TARGET_TARGET = s.reachTarget % 256 ∧ (t.net.answers.head?.map fun a => a.code) = some 0x20 ∧
        SameMemory s t) ∧
    ((∀ c, s.trip.commit = some c → c.stop ≠ e.stop ∨ c.staged = true ∨ s.commitWaits c.tag = false) →
      (∀ k, s.cruising = true → u.beyond e.stop = some k →
        t.r Reg.TRIP_TARGET_TARGET = k.1 % 256 ∧ t.r Reg.TRIP_SPLICE_STATE = 2 ∧ (t.net.answers.head?.map fun a => a.code) = some 0x20 ∧
          SameMemory s t) ∧
      (s.cruising = false ∨ u.beyond e.stop = none →
        t.trip.stops = u.trip.stops ∧ (t.net.answers.head?.map fun a => a.code) = some 0x21 ∧ SameMemory s t)) := by
  subst known
  have commit : u.trip.commit = s.trip.commit := by rw [emptied]
  have waits (tag : Nat) : u.commitWaits tag = s.commitWaits tag := by rw [emptied]; rfl
  have cruising : u.cruising = s.cruising := by rw [emptied]; rfl
  have reach : u.reachTarget = s.reachTarget := by rw [emptied]; rfl
  have memory : SameMemory s u := by rw [emptied]; exact ⟨rfl, rfl, rfl, rfl⟩
  refine ⟨fun c has same unstaged awaited => ?_, fun other => ⟨fun k runs beyond => ?_, fun nothing => ?_⟩⟩
  · rw [cancelTarget_takesBack (commit.trans has) same unstaged ((waits _).trans awaited)] at h
    obtain ⟨none, target, kept⟩ := commitTakenBack_shows (commit.trans has) unstaged
    exact ⟨by rw [h.trip]; exact none, by rw [h.regs _ (by decide), target, reach], h.code, (memory.trans kept).trans h.memory⟩
  · obtain ⟨raised, diverts⟩ := cancelTarget_diverts (s := u) (by simpa only [commit, waits] using other) (cruising.trans runs)
    have found : ({ u with raised := raised } : Machine.State).beyond e.stop = some k := beyond
    obtain ⟨code, target, state, kept⟩ := divertedBeyond_shows found
    rw [diverts] at h
    exact ⟨by rw [h.regs _ (by decide), target], by rw [h.regs _ (by decide), state], by rw [h.code, code],
      (memory.trans (SameMemory.trans ⟨rfl, rfl, rfl, rfl⟩ kept)).trans h.memory⟩
  · obtain ⟨raised, keeps⟩ := cancelTarget_keeps (s := u) (by simpa only [commit, waits] using other) (by rwa [cruising])
    obtain ⟨trip, code, kept⟩ := h.told keeps (s := u) ⟨rfl, rfl, rfl, rfl⟩
    exact ⟨by rw [trip], code, memory.trans kept⟩

/-- Settles O30: the answer recorded is the stop-list graph's (`answered_answer`), which the cases of an assign and of a cancel give. -/
theorem requestsAreAnswered : Obligations.RequestsAreAnswered := by
  refine ⟨?_, ?_, ?_⟩
  · intro s x rest waits active awake new op
    exact requestFrame_passes waits active awake new op
  · intro s req n doors profile up id byte mask class_ active awake none
    obtain ⟨t, run, h⟩ := assign_answers id byte mask class_ active awake none
    refine ⟨fun c refused => ?_, fun free frozen => ?_, fun free thawed listed => ?_, fun free thawed unlisted full => ?_,
      fun free thawed unlisted room => ?_⟩
    · obtain ⟨trip, code, memory⟩ := h.told (assign_refused refused) (s := s) ⟨rfl, rfl, rfl, rfl⟩
      exact ⟨t, run, by rw [trip]; rfl, code, memory⟩
    · obtain ⟨offered, trip, kept⟩ := frozenAnswer_keeps (codes := [0, 1, 2, 3, 0x10, 0x11, 0x12, 0x13]) (by simp) s
      rw [assign_frozen free frozen] at h
      exact ⟨t, _, run, by rw [h.trip, trip], offered, h.code, kept.trans h.memory⟩
    · obtain ⟨trip, code, memory⟩ := h.told (assign_merges free thawed listed) (s := s) ⟨rfl, rfl, rfl, rfl⟩
      exact ⟨t, run, by rw [trip]; rfl, code, memory⟩
    · rw [assign_full free thawed unlisted full] at h
      exact ⟨t, run, by rw [h.trip]; rfl, h.pending _ (by simp), h.code, SameMemory.trans ⟨rfl, rfl, rfl, rfl⟩ h.memory⟩
    · obtain ⟨here, queued, runs⟩ := assign_new h free thawed unlisted room
      exact ⟨fun stands => ⟨t, run, here stands⟩, fun away refused => ⟨t, run, queued away refused⟩,
        fun away u tried => ⟨t, run, runs away u tried⟩⟩
  · intro s req n up byte active awake none
    obtain ⟨t, run, h⟩ := cancelRequest_answers (req := req) (up := up) byte active awake none
    refine ⟨fun listens => ?_, fun on absent => ?_, fun e on listed frozen => ?_, fun e on listed thawed rest left => ?_⟩
    · obtain ⟨trip, code, memory⟩ := h.told (cancelAnswer_listening listens) (.refl s)
      exact ⟨t, run, by rw [trip], code, memory⟩
    · obtain ⟨trip, code, memory⟩ := h.told (cancelAnswer_absent on absent) (.refl s)
      exact ⟨t, run, by rw [trip], code, memory⟩
    · obtain ⟨offered, trip, kept⟩ := frozenAnswer_keeps (codes := [0x20, 0x21, 0x22]) (by simp) s
      rw [cancelAnswer_frozen on listed frozen] at h
      exact ⟨t, _, run, by rw [h.trip, trip], offered, h.code, kept.trans h.memory⟩
    · subst left
      refine ⟨fun more => ?_, ?_⟩
      · obtain ⟨trip, code, memory⟩ := h.told (cancelAnswer_removed on listed thawed more) (s := s) ⟨rfl, rfl, rfl, rfl⟩
        exact ⟨t, run, by rw [trip]; rfl, code, memory⟩
      · rintro target last u rfl
        obtain ⟨takesBack, others⟩ := cancelTarget_answers h (cancelAnswer_ofTarget on listed thawed target last) rfl
        refine ⟨fun c has same unstaged awaited => ⟨t, run, takesBack c has same unstaged awaited⟩, fun other => ?_⟩
        obtain ⟨diverts, keeps⟩ := others other
        exact ⟨fun k runs beyond => ⟨t, run, diverts k runs beyond⟩, fun nothing => ⟨t, run, keeps nothing⟩⟩

end Sys2Proof
